-- ==== Sys2Proof/Word.lean ====
section
/-!
DEFINITION. The word and byte types and their plainest arithmetic.
-/

namespace Sys2Proof

/-- A 32-bit word: registers, bus words, engine registers x0 to x15. -/
abbrev Word := BitVec 32

/-- A byte of memory. -/
abbrev Byte := BitVec 8

end Sys2Proof
end

