-- ==== Sys2Proof/Syntax.lean ====
section
/-!
DEFINITION. The commands of the block: one constructor per row of spec/opcode_table.json, and the operand types they use.
The block is a set of registers, sequencers and firmware objects that answers commands from outside: a host command, a
write of a register, an engine instruction, an event of a pin or of a sequencer. What a command needs from outside the
state (a measured value, a moment inside a period) is its operand.
-/

namespace Sys2Proof

/-- A host command as it stands in a command descriptor (R263), without its opcode, which the row gives. -/
structure HostCmd where
  /-- The mailbox channel MB_0 to MB_15. -/
  ch : Fin 16
  /-- FLAGS.IRQ. -/
  irq : Bool
  tag : BitVec 16
  /-- HANDLE[0..NBUF-1]: the attached Reservoir buffers. -/
  handles : List (BitVec 16)
  /-- PARAM, the LEN bytes used (R498). -/
  param : List Byte
  deriving DecidableEq, Repr

/-- A symbol at a gate link's RX pins (R136, R138): a data byte, a control symbol K x.y, or a code or disparity violation. -/
inductive LinkSym where
  | data (b : BitVec 8)
  | ctrl (x y : Nat)
  | violation
  deriving DecidableEq, Repr

/-- What of the power stage a Spillway step concerns: a group, a leg in no group, a link wholly unbound (R500). -/
inductive SpillTarget where
  | group (n : Fin 16)
  | leg (l : Fin 72)
  | link (k : Fin 16)
  deriving DecidableEq, Repr

/-- The settle masks of R300. -/
inductive MaskId where
  | spill (n : Fin 16)
  | clear (n : Fin 16)
  | link (k : Fin 16)
  | axisStop (n : Fin 16)
  deriving DecidableEq, Repr


/-- What a debugger asks (R439): halt a core, let it make one step, set a breakpoint; read or write the word at an address. -/
inductive DebugOp where
  | halt
  | step
  | brk (addr : Nat)
  | read (addr : Word)
  | write (addr : Word) (v : Word)
  deriving DecidableEq, Repr

/-- Where an event lies in time (R349): how many counts the time unit has counted since its latest command, and how far before the
present network time the event's own instant lies, in 2^-16 ns. -/
structure Moment where
  adv : Nat
  back : Nat
  deriving DecidableEq, Repr

/-- When a profile tick arrives (R214): counts of the time unit since its last command, and whether it arrives together with the latest. -/
structure TickAt where
  adv : Nat
  together : Bool
  deriving DecidableEq, Repr

/-- When a CAN frame was seen: the moment of its SOF, and how many writes to the filters have come since (R369, R384). -/
structure CanRx where
  sof : Moment
  writes : Nat
  deriving DecidableEq, Repr

/-- A frame heard on a CAN bus; `next`: an SOF that the controller may use follows before its next command (R373). -/
structure CanHeard where
  rx : CanRx
  next : Bool
  deriving DecidableEq, Repr

/-- A frame on a CAN bus: bits 30 to 0 of its ID word (RTR, IDE, base and extension identifier), DLC, FDF, BRS, ESI, data. -/
structure CanFrame where
  id : BitVec 31
  dlc : BitVec 4
  fdf : Bool
  brs : Bool
  esi : Bool
  data : List Byte
  deriving DecidableEq, Repr

/-- An error of an attempt, with its LEC code. `exempt`: a stuff error in arbitration, or an ACK error whose passive error flag met no
dominant bit; `eights`: how often a bit error in the flag, or a run of dominant bits after it, adds 8 more (R366). -/
structure CanFail where
  lec : BitVec 3
  exempt : Bool
  eights : Nat
  deriving DecidableEq, Repr

/-- How a transmission attempt ends (R374): sent, with its SOF; lost arbitration; an error, of LEC code 3 where it is an ACK error. -/
inductive CanEnd where
  | sent (rx : CanRx)
  | lost
  | failed (err : CanFail)
  deriving DecidableEq, Repr

/-- What a controller detects on the bus besides its own attempts: a receive error with its LEC code; an overload flag after a frame that it
sent (`tx`) or received; a protocol exception or a form error on an FD frame (R367). `eights`: how often a bit error in the flag, or a
dominant bit or a run of them after it, adds 8 (R366); `next` as for a frame heard. -/
inductive CanError where
  | receive (lec : BitVec 3) (eights : Nat) (next : Bool)
  | overload (tx : Bool) (eights : Nat) (next : Bool)
  | fdFrame (next : Bool)
  deriving DecidableEq, Repr


/-! ## Operands of engine instructions (R59). Immediates stand as the values they give, since the spec gives no encoding. -/

/-- A register or an immediate. -/
inductive Src where
  | reg (r : Fin 16)
  | imm (v : Word)
  deriving DecidableEq, Repr

/-- The shift amount: an immediate of 0 to 31, or a register. -/
inductive Amount where
  | reg (r : Fin 16)
  | imm (n : Fin 32)
  deriving DecidableEq, Repr

/-- Passes of LOOP: an immediate of 16 bits (0 is no defined encoding), or a register. -/
inductive Passes where
  | reg (r : Fin 16)
  | imm (n : BitVec 16)
  deriving DecidableEq, Repr

/-- The address forms of LD: [p], [p+step] with post-modify, [p+off]. -/
inductive Addr where
  | ind (p : Fin 8)
  | post (p : Fin 8) (step : Word)
  | off (p : Fin 8) (o : Word)
  deriving DecidableEq, Repr

/-- Conditions of Bcc. -/
inductive Cond where
  | eq | ne | lt | ge | gt | le | vs | vc
  deriving DecidableEq, Repr

/-- Where a scan of data memory meets an error: the element whose read does, and after how many groups of four a preemption comes (0:
none), R64. -/
structure ScanAt where
  elem : Nat
  stop : Nat
  deriving DecidableEq, Repr

/-- What a current task has for fe (R197), in 2^-16 Hz: |fe| from the position source; the observer's, none below its floor. -/
structure FeReading where
  source : Nat
  observer : Option Nat
  deriving DecidableEq, Repr

/-- A decision of a desaturation comparator (R117): its switch, and how many 20 ns after the switch's latest turn-on. -/
structure DesatAt where
  upper : Bool
  since : Nat
  deriving DecidableEq, Repr

/-- What stands when an effective enable rises (R131, R133): a filtered comparator of the group is active; a trip falls in its tick. -/
structure EnableAt where
  cmp : Bool
  trip : Bool
  deriving DecidableEq, Repr

/-- As `EnableAt`, one bit for each group. -/
structure EnableMasks where
  cmp : BitVec 16
  trips : BitVec 16
  deriving DecidableEq, Repr

/-- One switch of a link at the sample time of an ECHO (R115): the time in edge units to its nearest commanded edge, the time since its
latest commanded turn-on, and whether its commanded state has changed since the sample time. -/
structure GateAt where
  edge : Nat
  since : Nat
  moved : Bool
  deriving DecidableEq, Repr

/-- The symbols of a bad frame, and whether eight bad ones in a row leave the link silent. -/
structure BadFrame where
  syms : List LinkSym
  sil : Bool
  deriving DecidableEq, Repr

/-- The bitstream of a sigma-delta channel has held its value for `run` bits. -/
structure StuckRun where
  chan : Fin 48
  run : Nat
  deriving DecidableEq, Repr

/-- The latest sinc2 sums of a channel's fast comparator. -/
structure CmpSums where
  chan : Fin 48
  zs : List Nat
  deriving DecidableEq, Repr

/-- Z as accepted with a change of A or B; the change comes less than 8 ticks after the previous one. -/
structure EncZ where
  z : Bool
  fast : Bool
  deriving DecidableEq, Repr

/-- A symbol error of a link, or its loss of alignment (none). -/
structure BadSymbol where
  link : Fin 16
  sym : Option LinkSym
  deriving DecidableEq, Repr

/-- The commands of the block, one constructor per row of spec/opcode_table.json, in the table's order.
An operand of type Unit says nothing: what such a command once carried there the step reads from State. -/
inductive Instr where
  /-- Host command that does nothing and is answered ST_OK (R286). -/
  | sysNop (c : HostCmd)
  /-- Host command returning identity words, straps and loaded engine image identifiers (R286). -/
  | sysId (c : HostCmd)
  /-- Host command returning mode, cause, axis states, sticky bitmap, Reservoir and invariant status (R286). -/
  | sysStatus (c : HostCmd)
  /-- Host command requesting a device mode transition under the transition table (R286). -/
  | sysMode (c : HostCmd)
  /-- Host command requesting a warm reset 100 µs after the response, refused while any group is shorted (R286). -/
  | sysReset (c : HostCmd)
  /-- Host command writing MODE.WAKEEN (R286). -/
  | sysWakecfg (c : HostCmd)
  /-- Host command moving credits between a channel limit and the pool (R269). -/
  | creditSet (c : HostCmd)
  /-- Host command allocating Reservoir buffers to the channel and mapping them into aperture slots (R277). -/
  | bufAlloc (c : HostCmd)
  /-- Host command freeing host-owned Reservoir buffers (R286). -/
  | bufFree (c : HostCmd)
  /-- Host command returning Reservoir free count and class counts, caps and floors (R286). -/
  | rsvStatus (c : HostCmd)
  /-- Host command setting Reservoir class caps and floors (R286). -/
  | rsvQuota (c : HostCmd)
  /-- Host command returning a channel's credit, status words and session binding (R286). -/
  | chanStatus (c : HostCmd)
  /-- Host command returning copies of attached buffers and its parameters (R286). -/
  | sysEcho (c : HostCmd)
  /-- Host command setting the host-link watchdog timeout (R39). -/
  | sysLinkwd (c : HostCmd)
  /-- Host command binding an axis of a given type to legs, carriers, channels, engine and safe-state parameters (R188). -/
  | axConfig (c : HostCmd)
  /-- Host command requesting an axis state change Disabled, Armed or Energised (R48). -/
  | axState (c : HostCmd)
  /-- Host command performing the clear sequence of a latched group and returning the axis to Armed (R211). -/
  | axRecover (c : HostCmd)
  /-- Host command setting the bridge enable of an axis group (R132). -/
  | axBridgeEn (c : HostCmd)
  /-- Host command writing control mode, value, feed-forward and watchdog into the task's double buffer (R191). -/
  | axSetpoint (c : HostCmd)
  /-- Host command setting drive and regen current, speed and Service cap limits (R211). -/
  | axLimits (c : HostCmd)
  /-- Host command writing a library parameter, live or only when Disabled or Armed (R198). -/
  | axParamWrite (c : HostCmd)
  /-- Host command reading a library parameter (R198). -/
  | axParamRead (c : HostCmd)
  /-- Host command returning axis state, protection registers, derating, position and counters (R211). -/
  | axStatus (c : HostCmd)
  /-- Host command writing ENC.POS of a non-Energised axis, revalidating the position (R181). -/
  | axPositionSet (c : HostCmd)
  /-- Host command configuring, arming or reading a position capture unit (R211). -/
  | axCapture (c : HostCmd)
  /-- Host command loading a wear table set with CRC check (R209). -/
  | wearTables (c : HostCmd)
  /-- Host command returning a switch's Tj, life and wear record, optionally flushing its stack (R207). -/
  | wearRead (c : HostCmd)
  /-- Host command adding a saved wear record to the present one, once per power-up (R208). -/
  | wearRestore (c : HostCmd)
  /-- Host command writing derating ramp parameters of an axis or VFLD (R211). -/
  | derateCfg (c : HostCmd)
  /-- Host command writing a trajectory context image, optionally committing it (R219). -/
  | trajCtxWrite (c : HostCmd)
  /-- Host command returning a trajectory context image (R242). -/
  | trajCtxRead (c : HostCmd)
  /-- Host command assigning a context to an axis or freeing it (R218). -/
  | trajAssign (c : HostCmd)
  /-- Host command starting a context now or queuing it for the move boundary (R230). -/
  | trajStart (c : HostCmd)
  /-- Host command committing a new target to the active move (R225). -/
  | trajTarget (c : HostCmd)
  /-- Host command committing VMAX, ACC, DEC or TJ changes during a move (R226). -/
  | trajParam (c : HostCmd)
  /-- Host command requesting a ramp or quick stop of axes (R231). -/
  | trajStop (c : HostCmd)
  /-- Host command returning profile status, reference and master position (R242). -/
  | trajStatus (c : HostCmd)
  /-- Host command engaging a gear context on an axis at rest (R236). -/
  | gearEngage (c : HostCmd)
  /-- Host command committing a new gear table while engaged (R237). -/
  | gearTable (c : HostCmd)
  /-- Host command ending gearing with a ramp or quick stop (R239). -/
  | gearDisengage (c : HostCmd)
  /-- Host command writing a virtual master's position, speed, time and timeout (R234). -/
  | vmasterSet (c : HostCmd)
  /-- Host command configuring an axis's sequencer, tick and feedback source (R213). -/
  | puAxisCfg (c : HostCmd)
  /-- Host command configuring a Basin probe (R314). -/
  | acqProbe (c : HostCmd)
  /-- Host command configuring a capture set's clock, region and channels (R338). -/
  | acqSetCfg (c : HostCmd)
  /-- Host command configuring a capture set's trigger conditions (R320). -/
  | acqTrigCfg (c : HostCmd)
  /-- Host command arming capture sets (R318). -/
  | acqArm (c : HostCmd)
  /-- Host command returning capture sets to Idle (R324). -/
  | acqDisarm (c : HostCmd)
  /-- Host command giving a command trigger to capture sets (R321). -/
  | acqTrigger (c : HostCmd)
  /-- Host command returning a capture set's state and counters (R338). -/
  | acqStatus (c : HostCmd)
  /-- Host command passing staged export buffers of a set to the host (R326). -/
  | acqRead (c : HostCmd)
  /-- Host command writing the Cascade configuration (R329). -/
  | cascCfg (c : HostCmd)
  /-- Host command measuring Cascade compensation by 16 pings (R333). -/
  | cascPing (c : HostCmd)
  /-- Host command returning Cascade configuration, delay and status (R338). -/
  | cascStatus (c : HostCmd)
  /-- Host command configuring an Ethernet port's enable, speed and PVID (R339). -/
  | netPortCfg (c : HostCmd)
  /-- Host command configuring a VLAN entry and PCP map (R341). -/
  | netVlanCfg (c : HostCmd)
  /-- Host command adding or removing a static forwarding entry (R340). -/
  | netFdb (c : HostCmd)
  /-- Host command setting the device IPv4 address, mask and gateway (R342). -/
  | netIpCfg (c : HostCmd)
  /-- Host command returning port statistics and link state (R365). -/
  | netStatus (c : HostCmd)
  /-- Host command configuring gPTP priority, roles and servo thresholds (R347). -/
  | timeCfg (c : HostCmd)
  /-- Host command returning time-unit status, offset, rate and time (R365). -/
  | timeStatus (c : HostCmd) (adv : Nat)
  /-- Host command beginning a new time epoch that allows one step (R356). -/
  | timeRestep (c : HostCmd)
  /-- Host command setting the network-time grid period, offset and enable (R357). -/
  | timeGrid (c : HostCmd) (adv : Nat)
  /-- Host command setting the time-unit alarm (R359). -/
  | timeAlarm (c : HostCmd) (adv : Nat)
  /-- Host command setting a port's ingress, egress latency and asymmetry (R344). -/
  | netPortDelay (c : HostCmd)
  /-- Host command binding a virtual master to a UDP port and source (R362). -/
  | netVmBind (c : HostCmd)
  /-- Host command setting the ETH_2 wake key (R361). -/
  | netWakeCfg (c : HostCmd)
  /-- Host command configuring a stopped CAN controller's mode and bit timing (R368). -/
  | canCfg (c : HostCmd)
  /-- Host command writing a CAN acceptance filter (R369). -/
  | canFilter (c : HostCmd)
  /-- Host command enabling or disabling CAN controllers (R386). -/
  | canStart (c : HostCmd)
  /-- Host command transmitting a CAN frame, answered when its buffer result is final (R377). -/
  | canTx (c : HostCmd) (sof : Bool)
  /-- Host command cancelling a pending CAN transmission by tag (R375). -/
  | canTxCancel (c : HostCmd)
  /-- Host command delivering queued and spilled CAN frames in RXSEQ order, waiting up to its limit (R372). -/
  | canRxRead (c : HostCmd)
  /-- Host command returning CAN error, status, queue and invariant counters (R386). -/
  | canStatus (c : HostCmd)
  /-- Host command starting bus-off recovery of a controller (R379). -/
  | canBusoffRecover (c : HostCmd)
  /-- Host command configuring a field input (R387). -/
  | fieldInCfg (c : HostCmd)
  /-- Host command returning input levels, validity and status, clearing their flags (R405). -/
  | fieldInRead (c : HostCmd)
  /-- Host command configuring a field output (R395). -/
  | fieldOutCfg (c : HostCmd)
  /-- Host command setting field output command bits (R395). -/
  | fieldOutSet (c : HostCmd)
  /-- Host command releasing output overload latches and the supply cut-off latch (R398). -/
  | fieldOutClear (c : HostCmd) (hot : BitVec 16) (above : Bool)
  /-- Host command returning field-supply and output status, resetting VMIN (R405). -/
  | fieldStatus (c : HostCmd) (ma : List Nat)
  /-- Host command setting wake inputs and Standby sampling (R392). -/
  | fieldWakeCfg (c : HostCmd)
  /-- Host command returning sticky, previous and domain state words (R311). -/
  | faultRead (c : HostCmd)
  /-- Host command clearing class C and U sticky bits (R302). -/
  | faultClear (c : HostCmd)
  /-- Host command rearming Weir domains whose reaction has completed (R299). -/
  | faultRearm (c : HostCmd)
  /-- Host command setting a source's reaction within its allowed set (R292). -/
  | faultReact (c : HostCmd)
  /-- Host command returning a source's reaction-table entry (R311). -/
  | faultInfo (c : HostCmd)
  /-- Host command setting a domain's STOPT and TSET (R311). -/
  | faultDomcfg (c : HostCmd)
  /-- Host command popping the notify queue and its overflow flag (R303). -/
  | faultNotify (c : HostCmd)
  /-- Host command returning the Boot self-test registers (R304). -/
  | faultBist (c : HostCmd)
  /-- Host command routing an event to a trigger-bus line (R312). -/
  | evtRoute (c : HostCmd)
  /-- Host command returning SFM status and program version (R311). -/
  | sfmStatus (c : HostCmd)
  /-- Host command opening an engine image load (R79). -/
  | engLoadBegin (c : HostCmd)
  /-- Host command supplying image bytes to an open load (R79). -/
  | engLoadData (c : HostCmd)
  /-- Host command checking signature, format, rights and timing and installing the image (R77). -/
  | engLoadEnd (c : HostCmd)
  /-- Host command loading an engine image from a flash slot with the same checks (R77). -/
  | engLoadStored (c : HostCmd)
  /-- Host command unloading engines whose axes are Disabled (R79). -/
  | engUnload (c : HostCmd)
  /-- Host command enabling or disabling engine task slots (R79). -/
  | engTaskEnable (c : HostCmd)
  /-- Host command returning an engine's status, task counters and overwrite flags (R79). -/
  | engStatus (c : HostCmd)
  /-- Host command returning a task's grant windows (R79). -/
  | engGrantRead (c : HostCmd)
  /-- Host command clearing engine flags and task counters (R79). -/
  | engClearFlags (c : HostCmd)
  /-- Host command returning lifecycle, key, auth, debug, boot and anti-rollback status (R446). -/
  | secStatus (c : HostCmd)
  /-- Host command returning a nonce for an authorisation purpose (R432). -/
  | secChallenge (c : HostCmd)
  /-- Host command verifying a signed response and setting a grant (R432). -/
  | secResponse (c : HostCmd)
  /-- Host command opening an update of the inactive firmware slot or an engine slot (R438). -/
  | updBegin (c : HostCmd)
  /-- Host command writing image data to the open update (R438). -/
  | updData (c : HostCmd)
  /-- Host command checking the written image and marking the slot valid (R436). -/
  | updEnd (c : HostCmd)
  /-- Host command abandoning the update, leaving previous images in force (R438). -/
  | updAbort (c : HostCmd)
  /-- Host command advancing the lifecycle state in OTP (R429). -/
  | secLifecycle (c : HostCmd)
  /-- Host command writing or revoking OTP key items and the MAC (R431). -/
  | secProvision (c : HostCmd)
  /-- Host command raising an anti-rollback counter to the running version (R437). -/
  | secArbAdvance (c : HostCmd)
  /-- Host command opening an authenticated Ethernet host session (R446). -/
  | secSessionOpen (c : HostCmd)
  /-- Host command closing a host session (R446). -/
  | secSessionClose (c : HostCmd)
  /-- Host command opening or closing a debug session at a level (R440). -/
  | secDebug (c : HostCmd)
  /-- Host command configuring telemetry kinds, periods and destinations (R415). -/
  | telCfg (c : HostCmd)
  /-- Host command returning one telemetry descriptor captured at once (R428). -/
  | telRead (c : HostCmd) (adv : Nat)
  /-- Host command returning a stable read of an invariant's counters (R421). -/
  | telInv (c : HostCmd) (unstable : Bool)
  /-- Host command returning scrubber status and clearing SCRERR.V (R428). -/
  | scrubStatus (c : HostCmd)
  /-- Host command writing the scrubber configuration (R428). -/
  | scrubCfg (c : HostCmd)
  /-- QSPI READ transaction returning host-window words (R259). -/
  | hpRead (head : List (BitVec 4)) (len : Nat)
  /-- QSPI WRITE transaction storing host-window words (R259). -/
  | hpWrite (head : List (BitVec 4)) (data : List (BitVec 4))
  /-- QSPI RDSR transaction returning the status byte (R258). -/
  | hpRdsr
  /-- Host write of DB[k] posting commands and read index, granting credits (R266). -/
  | doorbellWrite (k : Fin 16) (v : Word)
  /-- Host write to FEAT_COMMIT accepting or refusing the requested features (R274). -/
  | featCommit (v : Word)
  /-- Mailbox engine consumes a posted command when a response slot is free and checks it (R267). -/
  | commandConsume
  /-- A received host-session datagram is authenticated and acts as doorbell or buffer write (R281). -/
  | hostSessionDatagram (bytes : List Byte) (burst : Bool)
  /-- A response not passed by RSPCI within 10 ms is sent again (R281). -/
  | sessionResponseResend (k : Fin 16) (index : BitVec 16)
  /-- A session with no accepted datagram for 5 s is closed (R281). -/
  | sessionIdleClose (n : Fin 4)
  /-- Firmware write of MODE.REQ.GO requesting a transition checked by the mode controller (R30). -/
  | modeRequest (target : Fin 16)
  /-- Passage to Recovery when all groups report safe or 20 µs elapse (R33). -/
  | safeoffToRecovery (late : Bool)
  /-- Firmware reads WU.AXST every 1 ms and requests Derate when an input is active (R200). -/
  | deratePoll
  /-- All derating inputs inactive for DERHOLD returns Derate to Run (R37). -/
  | derateHoldExpiry
  /-- An axis stopping in Stop reaches rest and turns Armed, with Stop to Ready when none remain (R38). -/
  | axisRestReached (n : Fin 16)
  /-- STOPTMO elapses with an axis still Energised, setting the stop-timeout source (R38). -/
  | stopTimeout
  /-- No doorbell or datagram for TMO ms in Run or Derate requests Stop (R39). -/
  | hostLinkTimeout
  /-- The 10 ms rest check ends and Standby is entered or refused (R40). -/
  | standbyRestCheckDone (wakes : BitVec 5)
  /-- An enabled wake source in Standby brings the device to Configure (R42). -/
  | wakeSource (src : Fin 6) (ticks : Nat)
  /-- Once HELD is set on each leg after Energised to Armed, the firmware enables the legs again (R48). -/
  | legsHeldReenable (n : Fin 16)
  /-- Engine instruction copying a register (R59). -/
  | mov (e : Fin 16) (d : Fin 16) (a : Fin 16)
  /-- Engine instruction loading a sign-extended immediate (R59). -/
  | movi (e : Fin 16) (d : Fin 16) (imm : BitVec 16)
  /-- Engine instruction loading an immediate into bits 31:16 (R59). -/
  | movhi (e : Fin 16) (d : Fin 16) (imm : BitVec 16)
  /-- Engine 32-bit add setting flags (R59). -/
  | add (e : Fin 16) (d : Fin 16) (a : Fin 16) (b : Src)
  /-- Engine 32-bit subtract setting flags (R59). -/
  | sub (e : Fin 16) (d : Fin 16) (a : Fin 16) (b : Src)
  /-- Engine 32-bit bitwise and (R59). -/
  | and_ (e : Fin 16) (d : Fin 16) (a : Fin 16) (b : Src)
  /-- Engine 32-bit bitwise or (R59). -/
  | or_ (e : Fin 16) (d : Fin 16) (a : Fin 16) (b : Src)
  /-- Engine 32-bit bitwise exclusive or (R59). -/
  | xor_ (e : Fin 16) (d : Fin 16) (a : Fin 16) (b : Src)
  /-- Engine 32-bit saturating add (R59). -/
  | adds (e : Fin 16) (d : Fin 16) (a : Fin 16) (b : Fin 16)
  /-- Engine 32-bit saturating subtract (R59). -/
  | subs (e : Fin 16) (d : Fin 16) (a : Fin 16) (b : Fin 16)
  /-- Engine 32-bit saturating absolute value (R59). -/
  | abs_ (e : Fin 16) (d : Fin 16) (a : Fin 16)
  /-- Engine 32-bit saturating negate (R59). -/
  | neg_ (e : Fin 16) (d : Fin 16) (a : Fin 16)
  /-- Engine shift left (R59). -/
  | shl (e : Fin 16) (d : Fin 16) (a : Fin 16) (n : Amount)
  /-- Engine logical shift right (R59). -/
  | shr (e : Fin 16) (d : Fin 16) (a : Fin 16) (n : Amount)
  /-- Engine arithmetic shift right (R59). -/
  | sra (e : Fin 16) (d : Fin 16) (a : Fin 16) (n : Amount)
  /-- Engine signed minimum (R59). -/
  | min_ (e : Fin 16) (d : Fin 16) (a : Fin 16) (b : Fin 16)
  /-- Engine signed maximum (R59). -/
  | max_ (e : Fin 16) (d : Fin 16) (a : Fin 16) (b : Fin 16)
  /-- Engine signed compare setting flags (R59). -/
  | cmp (e : Fin 16) (a : Fin 16) (b : Fin 16)
  /-- Engine low 32 bits of a 32 by 32 product (R59). -/
  | mul (e : Fin 16) (d : Fin 16) (a : Fin 16) (b : Fin 16)
  /-- Engine uninterruptible Q15 division with divide-by-zero saturation (R59). -/
  | divq (e : Fin 16) (d : Fin 16) (a : Fin 16) (b : Fin 16)
  /-- Engine Q15 cosine and sine of an angle (R59). -/
  | sincos (e : Fin 16) (d : Fin 16) (a : Fin 16)
  /-- Engine reciprocal square root (R59). -/
  | rsq (e : Fin 16) (d : Fin 16) (a : Fin 16)
  /-- Engine 32-bit load, with rights check and circular addressing (R59). -/
  | ld (e : Fin 16) (d : Fin 16) (m : Addr) (ecc : Fin 3)
  /-- Engine signed 16-bit load (R59). -/
  | ldh (e : Fin 16) (d : Fin 16) (m : Addr) (ecc : Fin 3)
  /-- Engine 64-bit load into a register pair (R59). -/
  | ldv (e : Fin 16) (d : Fin 8) (m : Addr) (ecc : Fin 3)
  /-- Engine 32-bit store, posted to its lane when to another island (R71). -/
  | st (e : Fin 16) (a : Fin 16) (m : Addr)
  /-- Engine 16-bit store (R71). -/
  | sth (e : Fin 16) (a : Fin 16) (m : Addr)
  /-- Engine 64-bit store (R71). -/
  | stv (e : Fin 16) (a : Fin 8) (m : Addr)
  /-- Engine instruction setting a pointer's circular base and length (R57). -/
  | setc (e : Fin 16) (p : Fin 8) (b : Fin 16) (l : Fin 16)
  /-- Engine pointer add with folding (R58). -/
  | addp (e : Fin 16) (p : Fin 8) (imm : Word)
  /-- Engine read of an input slot clearing its valid bit (R70). -/
  | ldin (e : Fin 16) (d : Fin 16) (i : Fin 64)
  /-- Engine wait until selected input slots are valid (R59). -/
  | waitv (e : Fin 16) (a : Fin 16) (b : Fin 16)
  /-- A waiting task resumes when its input slots become valid (R59). -/
  | waitvResume (e : Fin 16) (k : Fin 8)
  /-- Engine write to a Basin probe port (R314). -/
  | probe (e : Fin 16) (k : Fin 16) (a : Fin 16)
  /-- Engine scan returning largest element and its index (R56). -/
  | maxi (e : Fin 16) (d : Fin 16) (i : Fin 16) (p : Fin 8) (n : Nat) (ecc : Fin 3) (at_ : ScanAt)
  /-- Engine scan returning smallest element and its index (R56). -/
  | mini (e : Fin 16) (d : Fin 16) (i : Fin 16) (p : Fin 8) (n : Nat) (ecc : Fin 3) (at_ : ScanAt)
  /-- Engine unconditional branch (R61). -/
  | br (e : Fin 16) (t : BitVec 17)
  /-- Engine conditional branch (R61). -/
  | bcc (e : Fin 16) (c : Cond) (t : BitVec 17)
  /-- Engine call pushing the return stack, ending the activation when full (R62). -/
  | call_ (e : Fin 16) (t : BitVec 17)
  /-- Engine return popping the return stack, ending the activation when empty (R62). -/
  | ret_ (e : Fin 16)
  /-- Engine zero-overhead hardware loop of at most two levels (R62). -/
  | loop_ (e : Fin 16) (n : Passes) (last : BitVec 17)
  /-- Engine read of sr (R59). -/
  | rdsr (e : Fin 16) (d : Fin 16)
  /-- Engine write of sr leaving read-only fields unchanged (R59). -/
  | wrsr (e : Fin 16) (a : Fin 16)
  /-- Engine no operation (R59). -/
  | nop (e : Fin 16)
  /-- Engine instruction ending the activation and emptying stack and loops (R62). -/
  | end_ (e : Fin 16)
  /-- Engine clear of a0 to a3 (R59). -/
  | vclr (e : Fin 16)
  /-- Engine four-lane multiply into accumulators (R59). -/
  | vmul (e : Fin 16) (a : Fin 8) (b : Fin 8)
  /-- Engine four-lane saturating multiply-accumulate (R54). -/
  | vmac (e : Fin 16) (a : Fin 8) (b : Fin 8)
  /-- Engine four-lane saturating multiply-subtract (R54). -/
  | vmsu (e : Fin 16) (a : Fin 8) (b : Fin 8)
  /-- Engine cross multiply-accumulate with swapped lanes (R54). -/
  | vmacx (e : Fin 16) (a : Fin 8) (b : Fin 8)
  /-- Engine single-lane multiply-accumulate (R54). -/
  | macl (e : Fin 16) (k : Fin 4) (a : Fin 16) (ah : Bool) (b : Fin 16) (bh : Bool)
  /-- Engine saturating sum of a0 to a3 into a0 (R54). -/
  | vsum (e : Fin 16)
  /-- Engine four-lane saturating add (R59). -/
  | vadd (e : Fin 16) (d : Fin 8) (a : Fin 8) (b : Fin 8)
  /-- Engine four-lane saturating subtract (R59). -/
  | vsub (e : Fin 16) (d : Fin 8) (a : Fin 8) (b : Fin 8)
  /-- Engine four-lane saturating absolute value (R59). -/
  | vabs (e : Fin 16) (d : Fin 8) (a : Fin 8)
  /-- Engine scaled, rounded, saturated accumulator move using SCALE (R55). -/
  | mva (e : Fin 16) (d : Fin 16) (k : Fin 4)
  /-- Engine accumulator move with immediate shift (R55). -/
  | mvas (e : Fin 16) (d : Fin 16) (k : Fin 4) (sh : BitVec 4)
  /-- Engine four-lane accumulator move into a vector pair (R55). -/
  | vmva (e : Fin 16) (d : Fin 8)
  /-- Engine clear of a precise accumulator (R59). -/
  | pclr (e : Fin 16) (k : Fin 2)
  /-- Engine 24 by 24 multiply into e (R59). -/
  | pmul (e : Fin 16) (k : Fin 2) (a : Fin 16) (b : Fin 16)
  /-- Engine 24 by 24 saturating multiply-accumulate (R54). -/
  | pmac (e : Fin 16) (k : Fin 2) (a : Fin 16) (b : Fin 16)
  /-- Engine 24 by 24 saturating multiply-subtract (R54). -/
  | pmsu (e : Fin 16) (k : Fin 2) (a : Fin 16) (b : Fin 16)
  /-- Engine saturating e0 plus e1 into e0 (R54). -/
  | padd (e : Fin 16)
  /-- Engine saturating arithmetic shift of e (R54). -/
  | psha (e : Fin 16) (k : Fin 2) (n : BitVec 5)
  /-- Engine precise accumulator move using SCALE (R55). -/
  | pmve (e : Fin 16) (d : Fin 16) (k : Fin 2)
  /-- Engine precise accumulator move with immediate shift (R55). -/
  | pmves (e : Fin 16) (d : Fin 16) (k : Fin 2) (sh : BitVec 4)
  /-- An undefined encoding is not performed and ends the activation (R60). -/
  | illegalInstruction (e : Fin 16)
  /-- A stalled load from another island completes with its value (R73). -/
  | remoteLoadReturn (e : Fin 16) (adv : Nat) (cnt : BitVec 18)
  /-- A store stalled on a full second lane issues when an entry frees (R72). -/
  | postedLaneRoom (e : Fin 16)
  /-- A carrier, trigger-bus, timer or doorbell start reaches a task slot through its divider (R65). -/
  | taskTrigger (e : Fin 16) (k : Fin 8)
  /-- The highest pending slot runs when no higher slot runs, preempting lower ones (R63). -/
  | taskDispatch (e : Fin 16) (ecc : Fin 3)
  /-- An activation reaching its cycle budget is ended (R67). -/
  | taskBudgetAbort (e : Fin 16) (k : Fin 8)
  /-- SUP write of CE.DBELL starting doorbell task slots (R65). -/
  | ceDoorbell (e : Fin 16) (ring : BitVec 8)
  /-- SUP write of CE.CTRL.CLRCNT clearing task counters (R4). -/
  | ceClrcnt (e : Fin 16)
  /-- SENSE pushes a bound result into an engine input slot (R70). -/
  | inputSlotPush (ty : Fin 16) (idx : Fin 64) (v : Word)
  /-- A carrier reaches count 0: CZ event, pending set taking effect, refresh, sync and MARK (R83). -/
  | carrierZero (c : Fin 24) (late : List (Fin 72))
  /-- A carrier reaches its peak: CP event, correction fixed, CP loads (R83). -/
  | carrierPeak (c : Fin 24)
  /-- A write to CB.PERIOD, CB.PHASE, ES.CMPA, ES.CMPB or ES.DT reaches TIMEBASE and sets its shadow flag (R90). -/
  | shadowWrite (addr : Nat) (v : Word)
  /-- An LDALL reaching the leader is accepted or refused as late, overlapping, partial or bad (R91). -/
  | ldall (c : Fin 24) (late : Bool)
  /-- A write of SPW.SPD reaches TIMEBASE, counting toward release of a short (R126). -/
  | speedWordWrite (n : Fin 16) (fe : FeReading)
  /-- Edge times of an accepted set are computed and emitted (R96). -/
  | edgeComputeDone (c : Fin 24) (tight : List (Fin 16 × Fin 8))
  /-- At a load deadline with no accepted set, edges are computed from the active set and emitted (R96). -/
  | loadDeadlineEmission (c : Fin 24) (tight : List (Fin 16 × Fin 8))
  /-- A scheduled edge of a direct leg falls due at the field die (R86). -/
  | legEdge (leg : Fin 72)
  /-- SUP write of CB.CFG.EN starting or stopping a carrier and its followers (R103). -/
  | carrierEnable (c : Fin 24) (en : Bool)
  /-- A SYNC_IN edge or grid mark reaches a leader and the error E is measured (R105). -/
  | syncMark (c : Fin 24) (ticks : Int)
  /-- MISSN reference intervals without a mark set MISS and the sync-loss source (R107). -/
  | syncMiss (c : Fin 24)
  /-- An interval timer raises its event (R108). -/
  | intervalTimerEvent (k : Fin 8)
  /-- SUP write of CB.STAT.CLRCNT clearing load counters (R4). -/
  | cbClrcnt (c : Fin 24)
  /-- A turn-on is released once the opposite switch is seen off (R111). -/
  | sluiceRelease (leg : Fin 72) (upper : Bool) (wait : Nat)
  /-- MAXW ends before the opposite switch is seen off; the turn-on is dropped (R114). -/
  | interlockTimeout (leg : Fin 72) (upper : Bool)
  /-- A direct-leg desaturation comparator decides, starting step 1 and the group Spillway (R116). -/
  | desatDetect (leg : Fin 24) (at_ : DesatAt)
  /-- A direct-leg shunt comparator decides, starting the group Spillway (R116). -/
  | shuntOvercurrent (leg : Fin 24)
  /-- Bootstrap voltage below BSUV holds the upper switch off (R119). -/
  | bootstrapUv (leg : Fin 24) (low : Bool)
  /-- STO_A_N or STO_B_N low after its filter starts every Spillway (R120). -/
  | stoInput (b : Bool)
  /-- STO inputs differing longer than DISC set the discrepancy source (R120). -/
  | stoDiscrepancy
  /-- At start plus T1 step 2 begins and the safe state is chosen (R125). -/
  | spillwayStep2 (tgt : SpillTarget)
  /-- The group reports its safe state and SAFE is set (R128). -/
  | safeStateReached (tgt : SpillTarget)
  /-- A switch of the short set fails to turn on within MAXW; the group takes Freewheel (R127). -/
  | shortApplyFail (n : Fin 16) (leg : Fin 72)
  /-- The group's effective enable falls, starting a Spillway if not latched (R132). -/
  | effectiveEnableFall (n : Fin 16)
  /-- The effective enable rises and a latched group is cleared or the clear refused (R133). -/
  | effectiveEnableRise (n : Fin 16) (at_ : EnableAt)
  /-- SUP write of GL.CTRL.EN moving the link between OFF and TRAIN (R143). -/
  | glEnable (k : Fin 16) (en : Bool)
  /-- SUP write of GL.CTRL.RST returning the link to TRAIN (R145). -/
  | glReset (k : Fin 16)
  /-- SUP write of GL.CTRL.CFGSEND sending CONFIG (R145). -/
  | glCfgsend (k : Fin 16)
  /-- 64 consecutive valid symbols move TRAIN to MEASURE (R143). -/
  | trainAligned (k : Fin 16)
  /-- 100 µs without progress returns the link to TRAIN (R143). -/
  | bringupTimeout (k : Fin 16)
  /-- The periodic HEARTBEAT of MEASURE or CONFIG of CONFIG is sent (R143). -/
  | bringupFrameDue (k : Fin 16)
  /-- An UP link sends a HEARTBEAT on its 100 µs request or after 0.8 µs idle (R150). -/
  | heartbeatDue (k : Fin 16) (req : Bool)
  /-- A good ECHO is decoded: flags, echo check and EDGE coverage (R155). -/
  | echoReceived (k : Fin 16) (syms : List LinkSym) (gates : List GateAt) (cover : List (BitVec 8)) (late : List (BitVec 8))
  /-- A good STATUS is decoded: ILTO, flags, delays and bring-up progress (R155). -/
  | statusReceived (k : Fin 16) (syms : List LinkSym) (rtt : Nat)
  /-- A bad frame is discarded and counted, eight in a row losing the link (R141). -/
  | badFrameReceived (k : Fin 16) (f : BadFrame)
  /-- No good frame for 2 µs takes an UP link to LOST (R154). -/
  | linkSilence (k : Fin 16)
  /-- A sinc3 filter delivers a result every M bits (R163). -/
  | sinc3Result (n : Fin 48) (z : Nat) (since : Nat)
  /-- A period-average window closes at a passed carrier event (R164). -/
  | paWindowClose (n : Fin 48) (sum : Nat) (k : Nat) (since : Nat) (u : Unit)
  /-- A window's period-average result becomes valid and is pushed (R166). -/
  | paResultValid (n : Fin 48)
  /-- A stuck bitstream or disabled clock sets the modulator fault (R162). -/
  | modulatorFault (r : StuckRun)
  /-- A fast comparator goes high or low, setting hard overcurrent and a linked Spillway (R168). -/
  | fastComparatorDecision (n : Fin 48) (zs : List Nat)
  /-- A fast comparator returns inside its hysteresis band (R167). -/
  | fastComparatorRelease (r : CmpSums)
  /-- An offset average completes and CALOFS moves by at most 16 LSB (R169). -/
  | offsetCalStep (n : Fin 48) (up : Bool)
  /-- A start reaches an ADC sequence or is dropped as overrun (R171). -/
  | adcSequenceStart (q : Fin 8)
  /-- An ADC step samples its converters once free (R172). -/
  | adcStepSample (q : Fin 8) (codes : List (Fin 16384)) (u : Unit)
  /-- An ADC result is written and pushed 50 ticks after sampling (R172). -/
  | adcResult (q : Fin 8)
  /-- The per-second or requested calibration updates ADC.TRIM (R174). -/
  | adcTrim (c : Fin 4) (gain : Nat) (ofs : Int)
  /-- A resolver excitation peak starts its sequence (R176). -/
  | resolverPeak (r : Fin 4) (second : Bool)
  /-- An engine writes ENC.RESANG and a type-0x6 result is pushed (R177). -/
  | resangWrite (r : Fin 4) (v : Word)
  /-- An accepted encoder input transition counts or raises an encoder error (R178). -/
  | encTransition (n : Fin 12) (a : Bool) (b : Bool) (z : EncZ)
  /-- A qualified index latches and may set the count (R179). -/
  | encIndex (n : Fin 12) (err : Bool)
  /-- A trigger starts an SSI read (R182). -/
  | ssiReadStart (m : Fin 4) (high : Bool)
  /-- An SSI read completes good or failed and is pushed (R183). -/
  | ssiReadDone (m : Fin 4) (bits : List Bool) (mono : Bool)
  /-- A capture unit latches position and network time at its trigger (R186). -/
  | captureTrigger (k : Fin 16) (adv : Nat) (age : Nat)
  /-- SUP write of ENC.CAPCFG.ARM clearing FULL (R186). -/
  | captureArm (k : Fin 16)
  /-- The setpoint watchdog expires and the reference ramps to 0 (R192). -/
  | setpointTimeout (n : Fin 16)
  /-- Per carrier period the wear unit charges losses, updates Tj, cycles and derating (R201). -/
  | wearPeriodUpdate (leg : Fin 72) (u1 u2 u3 u4 u5 u6 : Unit)
  /-- With the carrier stopped the thermal stages decay every 1 ms (R203). -/
  | wearIdleUpdate (leg : Fin 72)
  /-- SUP write of WU.CTRL.FLUSH counting every residue stack as half cycles (R205). -/
  | wearFlush
  /-- A queued wear increment is written to its SRAM record under the cap (R414). -/
  | wearRecordWriteback
  /-- A profile tick of an axis reaches its sequencer or is dropped as late (R214). -/
  | profileTick (n : Fin 16) (dt : Nat) (at_ : TickAt)
  /-- The sequencer serves a tick: commits, master, limits, replan, advance and publication (R214). -/
  | referencePublish (n : Fin 16) (work : Nat) (par : Bool)
  /-- A write of CTL.COMMIT makes the context read at the next tick (R219). -/
  | ctxCommit (c : Fin 256)
  /-- SUP write of PU.AXCMD.START activating the queued context from rest (R230). -/
  | puStart (n : Fin 16)
  /-- SUP write of PU.AXCMD.SWAPNOW activating the queued context next tick (R230). -/
  | puSwapnow (n : Fin 16)
  /-- SUP write of PU.AXCMD.STOP stopping at DEC (R231). -/
  | puStop (n : Fin 16)
  /-- SUP write of PU.AXCMD.QSTOP stopping at LDEC (R231). -/
  | puQstop (n : Fin 16)
  /-- SUP write of PU.AXCMD.ENGAGE engaging the queued gear context (R236). -/
  | puEngage (n : Fin 16)
  /-- A write of VMTH applies the six virtual master words together (R234). -/
  | vmthWrite (k : Fin 4) (v : Word)
  /-- A stepper reference at rest for STANDT enters the selected standstill mode (R249). -/
  | standstillEnter (n : Fin 16)
  /-- Once the freewheel-standstill legs are no longer held, the firmware writes START or ENGAGE (R250). -/
  | stepperLegsReady (n : Fin 16)
  /-- The firmware sets POS_UNCERTAIN within 1 ms of a step clamp (R247). -/
  | stepClampReport (n : Fin 16)
  /-- A fault source asserts: sticky bit, reaction, merging, notify and routing (R289). -/
  | sourceAssert (ev : Fin 256)
  /-- On an axis-stop reaction the firmware stops the axis and takes it to Faulted (R293). -/
  | axisStopFirmware (n : Fin 16) (rest : Bool)
  /-- STOPT expires without Faulted and the domain escalates to axis SafeOff (R293). -/
  | axisStopEscalation (n : Fin 16)
  /-- The firmware zeroes the setpoint and clears contexts on axis SafeOff (R294). -/
  | axisSafeoffFirmware (n : Fin 16)
  /-- TSET after an action ends, the mask ends and active detectors assert (R300). -/
  | settleMaskEnd (m : MaskId)
  /-- SUP write of WEIR.SUPHB.KICK (R307). -/
  | supHeartbeatKick
  /-- A heartbeat window passes without a kick (R307). -/
  | supWatchdogMiss
  /-- No kick for 100 ms after SafeOff with RSTEN makes the SFM request a warm reset (R307). -/
  | sfmResetRequest
  /-- The SFM recomputes the configuration CRC every 10 ms (R308). -/
  | sfmConfigCheck
  /-- A lockstep mismatch holds the SFM in reset (R309). -/
  | sfmLockstepMismatch
  /-- An inconclusive self-test is retried 1 ms later (R305). -/
  | selfTestRetry (t : Fin 4) (inst : Nat) (result : Fin 4)
  /-- A capture set takes a sample at its sample instant and forms records (R315). -/
  | basinSample (n : Fin 4) (adv : Nat)
  /-- A new source value reaches a probe latch (R314). -/
  | probePush (p : Fin 48) (v : Word)
  /-- A queued record is written to its slot in the Basin (R317). -/
  | basinRecordWrite (n : Fin 4)
  /-- 100 ns after a sample the set decides the trigger (R322). -/
  | triggerDecision (n : Fin 4)
  /-- The export engine fills a Reservoir buffer with the capture stream when allocation succeeds (R325). -/
  | exportBufferFill (n : Fin 4)
  /-- No SYNC_CLK edge for 300 ns clears LOCK (R330). -/
  | syncClkLoss
  /-- A trigger-bus pulse drives TRIG_IO low from the next compensated edge (R331). -/
  | cascadeLaunch
  /-- Two low samples of TRIG_IO make a Cascade trigger (R332). -/
  | cascadeTriggerReceive (t : Moment)
  /-- TRIG_IO low longer than 1 µs sets STUCK (R332). -/
  | trigIoStuck
  /-- The master answers a ping 2000 ns after its fall (R333). -/
  | pingAnswer
  /-- A ping round of the device completes or fails (R333). -/
  | pingRound (rtt : Option Nat) (trig : Bool)
  /-- A frame received on a switch port is forwarded, corrected as transparent clock, or dropped (R340). -/
  | frameReceive (p : Fin 4) (bytes : List Byte) (bad : Bool) (full : Nat) (stamp : Moment)
  /-- A frame for the internal port is taken into a Reservoir buffer or dropped (R342). -/
  | internalPortFrame
  /-- A Sync on the slave port updates the servo, relays and corrects time (R353). -/
  | gptpSyncReceived (p : Fin 4) (bytes : List Byte) (stamp : Moment) (origin : Int)
  /-- A Pdelay request on a port is answered by the firmware (R347). -/
  | pdelayReqReceived (p : Fin 4) (sequence : BitVec 16) (stamp : Moment)
  /-- No Sync for SYNCTMO intervals holds the rate and sets time loss (R355). -/
  | syncLossTimeout
  /-- A write of TU.RATEREQH applies a clamped rate with continuous time (R350). -/
  | rateRequest (v : Word) (adv : Nat)
  /-- A write of TU.CTRL.STEP steps OFFSET or is refused (R351). -/
  | timeStep (adv : Nat)
  /-- The time unit sends a grid mark 2 µs before its due tick (R357). -/
  | gridMarkSend (adv : Nat)
  /-- Network time reaches the alarm time (R359). -/
  | alarmReached (adv : Nat)
  /-- A matching frame on ETH_2 in Standby requests a wake (R361). -/
  | wakeFrame (bytes : List Byte)
  /-- A virtual-master datagram is accepted and written to PU.VM (R362). -/
  | vmDatagram (port : BitVec 16) (src : BitVec 32) (bytes : List Byte)
  /-- SUP write of SW.TSQ0.POP removing the timestamp-queue head (R345). -/
  | tsqPop
  /-- A valid CAN frame is filtered and queued, shadowed, spilled or dropped (R370). -/
  | canFrameReceived (n : Fin 8) (frame : CanFrame) (heard : CanHeard)
  /-- A read of QHEAD word 0 locks the queue head (R371). -/
  | qheadLock (n : Fin 8) (q : Fin 2)
  /-- A write of QCTL.REL frees the head and moves the shadow to the tail (R371). -/
  | queueRelease (n : Fin 8) (q : Fin 2)
  /-- A write of QCTL.SPLDONE marks one spilled frame delivered (R372). -/
  | spillDone (n : Fin 8)
  /-- A write of CAN.TXREQ makes buffers pending (R373). -/
  | txRequest (n : Fin 8) (bufs : BitVec 16) (sof : Bool)
  /-- A write of CAN.TXCAN cancels a buffer (R375). -/
  | txCancel (n : Fin 8) (bufs : BitVec 16)
  /-- A transmission attempt completes, fails and is retried, or reaches its limit (R374). -/
  | txAttemptEnd (n : Fin 8) (out : CanEnd) (sof : Bool)
  /-- TEC above 255 takes the controller bus-off (R379). -/
  | busOff (n : Fin 8)
  /-- 128 recessive sequences complete recovery to error-active (R379). -/
  | busoffRecovered (n : Fin 8)
  /-- RX dominant for 256 bit times sets STUCKD (R380). -/
  | stuckDominant (n : Fin 8)
  /-- A field input's raw level changes, possibly a rejected change (R389). -/
  | inputRawChange (n : Fin 32) (level : Bool) (win : Bool)
  /-- A debounce completes and the debounced level changes (R388). -/
  | inputEdge (n : Fin 32)
  /-- A pulsed input is sampled in its 10 µs sink pulse (R391). -/
  | pulseSample (n : Fin 32) (level : Bool) (win : Bool)
  /-- An open-contact current measurement sets or clears wire break (R393). -/
  | wireBreakMeasure (n : Fin 32) (low : Bool)
  /-- An output in current limit for LIMT, or ISUM over 2 A for 10 ms, is latched off (R397). -/
  | outputOverloadTrip (m : Option (Fin 16))
  /-- An output's temperature sensor trips and latches it off (R397). -/
  | outputThermalShutdown (m : Fin 16)
  /-- An open load persisting 10 ms sets OL (R399). -/
  | openLoadDetect (m : Fin 16)
  /-- The monitor measures VFLD every 10 µs (R401). -/
  | vfldMeasure (v : BitVec 16) (copy : Bool)
  /-- VFLD beyond a threshold for 50 µs enters or leaves a supply condition (R401). -/
  | vfldThreshold (cond : Fin 5) (enter : Bool)
  /-- The scrubber reads and checks a word, correcting single-bit errors (R410). -/
  | scrubRead (region : Fin 5) (e : Fin 16) (err : Fin 3) (raced : Bool) (lag : Bool) (busy : Bool)
  /-- A telemetry kind falls due and its descriptors are sent or skipped (R415). -/
  | telemetryDue (u : Unit) (late : List (Fin 4 × Fin 16)) (adv : Nat)
  /-- A nonce expires 10 s after issue (R432). -/
  | nonceExpiry
  /-- The 60 s challenge lock ends (R432). -/
  | authLockExpiry
  /-- TAP instruction returning a challenge nonce (R432). -/
  | tapSecChal (purpose : Byte) (level : Byte)
  /-- TAP instruction opening a debug session (R440). -/
  | tapSecOpen (level : Fin 4)
  /-- TAP IDCODE instruction (R439). -/
  | tapIdcode
  /-- TAP BYPASS instruction (R439). -/
  | tapBypass
  /-- TAP EXTEST instruction, acting only in Halt in Blank or Return (R439). -/
  | tapExtest
  /-- TAP SAMPLE/PRELOAD instruction, acting only in Halt in Blank or Return (R439). -/
  | tapSamplePreload
  /-- A debug request to halt, step or break a core (R442), or to read or write a word (R439). -/
  | debugHalt (core : Fin 17) (op : DebugOp)
  /-- TRST_N low ends the debug session (R440). -/
  | trstLow
  /-- PORST_N low or a supply monitor enters power-on reset (R455). -/
  | porstAssert (bor : Bool)
  /-- A warm reset resets every island except RILL into Reset (R455). -/
  | warmReset
  /-- Reset ends and the boot ROM runs its sequence toward Configure (R463). -/
  | resetRelease (otpBad : Bool) (x32 : Bool)
  /-- After 16 RC samples the straps are latched by majority (R458). -/
  | strapLatch (samples : List (BitVec 14))
  /-- A PLL achieves lock (R449). -/
  | pllLock (p : Fin 3) (bad : List (Fin 4 × Nat × Bool))
  /-- A PLL that failed to lock is retried every 10 ms (R454). -/
  | pllLockRetry (p : Fin 2) (ok : Bool) (bad : List (Fin 4 × Nat × Bool))
  /-- The hardware memory clear completes (R409). -/
  | memoryClearDone (bad : List (Fin 4 × Nat × Bool))
  /-- A firmware slot read completes and is accepted or falls back (R436). -/
  | firmwareImageChecked
  /-- SUP write of CLK.IRST holding or releasing islands (R456). -/
  | islandResetWrite (v : BitVec 6)
  /-- An access to an island in reset is discarded and reported (R457). -/
  | islandResetAccess (i : Fin 6)
  /-- Loss of XIN or main PLL lock stops the main islands (R452). -/
  | mainClockLoss (xin : Bool)
  /-- Loss of the safety clock starts every Spillway from TIMEBASE (R453). -/
  | safetyClockLoss (sxin : Bool)
  /-- After a clock fault CLK asserts the warm reset (R452). -/
  | clockFaultReset
  /-- A 100 µs XIN against SFM_XIN count window ends (R451). -/
  | referenceMismatchWindow (dev : BitVec 16)
  /-- No 32.768 kHz edge for 1 ms switches RILL to the RC (R451). -/
  | x32Loss
  /-- The forwarded field clock stops over 1 µs and the field die removes drive (R9). -/
  | forwardedClockStop (stays : Bool)
  /-- A rail between reset threshold and operating minimum sets the warning (R460). -/
  | supplyWarning (rail : Fin 4) (low : Bool)
  /-- VDRV outside range for 2 µs after arming sets its source (R461). -/
  | vdrvOutOfRange (v : BitVec 16)
  /-- VDRV below 11 V for 1 µs makes the field die hold every direct leg off (R461). -/
  | vdrvCollapse (v : BitVec 16)
  /-- CLK.TEMP updates every 1 ms and a die above 150 °C sets EV_159 (R465). -/
  | dieTempUpdate (log : BitVec 16) (fld : BitVec 16)
  /-- The EN_DL_N pin changes the effective enable of direct groups (R132). -/
  | enDlNChange (high : Bool) (at_ : EnableMasks)
  /-- A write to a register field that has no row of its own, by access code (R4). -/
  | registerWrite (addr : Nat) (v : Word)
  /-- The carrier count crosses a leg's CMPA on the up-ramp or CMPB on the down-ramp, raising the compare event to tasks and other users (R84). -/
  | legCompareEvent (leg : Fin 72) (b : Bool)
  /-- A rising SYNC_CLK edge is timestamped, the compensated edge placed, LOCK counted, and TRIG_IO launched, held or sampled from it (R330). -/
  | syncClkEdge (near : Bool) (low : Bool)
  /-- An STO input returns high after its glitch filter, updating SPW.STOSTAT (R120). -/
  | stoInputHigh (b : Bool)
  /-- VDRV enters 13.5 V to 16.5 V, arming its detector, or rises back above 11.5 V so the direct-leg hold can end at the next CZ (R461). -/
  | vdrvInRange (v : BitVec 16)
  /-- The link of an Ethernet port 0 to 3 goes up or down, updating SW.PCFG.LINK and setting EV_171 on loss (R364). -/
  | portLinkChange (p : Fin 4) (up : Bool)
  /-- The controller detects a bus error or a protocol exception, changing TEC or REC, LEC, error-passive state or returning to bus integration (R367). -/
  | canBusError (n : Fin 8) (err : CanError)
  /-- A CAN controller completes bus integration after enable and leaves the integrating state (R366). -/
  | busIntegrationDone (n : Fin 8)
  /-- The wait of a held CAN_RX_READ ends without a frame and its response is written (R386). -/
  | rxReadWaitEnd (k : Fin 16)
  /-- A gate-link receiver sees a symbol error or loses alignment, restarting the TRAIN count of valid symbols (R143). -/
  | symbolError (x : BadSymbol)
  /-- Network time passes the written time T plus VMTO, and the virtual master becomes invalid, clearing PU.VMCFG.VALID (R234). -/
  | virtualMasterTimeout (k : Fin 4)
  /-- A learned forwarding-table address ages out after 300 s without traffic (R340). -/
  | fdbAgeing (mac : BitVec 48)
  /-- A frame leaves an egress port, taking its egress stamp into SW.TSQ for the firmware's own gPTP messages and releasing its transmit buffers (R345). -/
  | frameEgress (p : Fin 4) (stamp : Moment)
  /-- The firmware's gPTP interval falls due and it sends a Pdelay_Req, or an Announce or Sync when it is grandmaster (R347). -/
  | gptpTimerDue (p : Fin 4) (kind : Fin 3)
  /-- A Pdelay_Resp to the device's own request arrives and the mean link delay and neighbour rate ratio of the port are computed (R347). -/
  | pdelayRespReceived (p : Fin 4) (sequence : BitVec 16) (stamp : Moment) (t2 : Int) (t3 : Int)
  /-- An Announce message arrives and the best master clock algorithm chooses the port roles and grandmaster (R348). -/
  | announceReceived (p : Fin 4) (bytes : List Byte)
  /-- A parity error on the die-to-die link sets the die-link source EV_139 (R290). -/
  | dieLinkParityError
  deriving DecidableEq, Repr

end Sys2Proof
end

