-- ==== Sys2Proof/Decode.lean ====
section
/-!
DEFINITION. Table words. No row of spec/opcode_table.json gives bits (every row's list of fields is empty): the block has no
instruction words, and no word spells a command.
-/

namespace Sys2Proof

/-- The command that the low `nbits` bits of a word spell: none. -/
def decodeTableWord (_nbits _w : Nat) : Option Instr := none

end Sys2Proof
end

