-- ==== Sys2Proof/Config.lean ====
section
/-!
DEFINITION. What the spec leaves open: free values, as constants with no body. Nothing in Lean can evaluate one, and a
statement about the model holds for every value of each.
-/

namespace Sys2Proof

/-- A task descriptor of an engine image (chapter Control Engines, Code loading): slot, datapath, entry; trigger source, selection,
divider minus 1 and phase; SCALE; bound axis; declared worst case, deadline and budget in cycles; input bindings (slot, type,
index); windows (first and last byte, read, write). -/
structure TaskDesc where
  slot : Nat
  dpath : Nat
  entry : Nat
  src : Nat
  sel : Nat
  div : Nat
  phase : Nat
  scale : Nat
  axis : Option Nat
  ci : Nat
  di : Nat
  budget : Nat
  inputs : List (Nat × Nat × Nat)
  windows : List (Nat × Nat × Bool × Bool)
  deriving DecidableEq, Repr

/-- What an engine image holds for one engine: sections (in data memory?, offset, bytes), tasks, exported ranges of data memory
(first and last byte offset, writable). -/
structure EngPart where
  engine : Nat
  sections : List (Bool × Nat × List Byte)
  tasks : List TaskDesc
  exports : List (Nat × Nat × Bool)
  deriving DecidableEq, Repr

namespace Config

/-- A value the spec leaves open and does not tie to operands: a fresh one for each value of the counter `State.free`
(crossing latencies of R7, firmware moments, nonces). Assumption log 5. -/
opaque freeNat : Nat → Nat

/-- The trimmed code of an ADC result, from the raw code and ADC.TRIM's GAIN and OFS, where the trim is not the identity:
the spec gives the fields and not how they combine (R170, R174). Assumption log 6. -/
opaque adcTrim : Nat → Nat → Nat → Nat

/-- Which direction of a quadrature transition counts up with DIR = 0, and which level of B counts up in step-direction
mode: the spec says only that DIR sets the sign (R178). Assumption log 6. -/
opaque quadForward : Bool
opaque stepForward : Bool

/-- HMAC-SHA-256 of a session key and bytes (R280), its first byte lowest; the standard's value, not spelled out here. Assumption
log 8. -/
opaque hmacSha256 : List Byte → List Byte → BitVec 256

/-- Which neighbour a quotient with no stated rounding takes, from numerator and denominator. Assumption log 9. -/
opaque roundUp : Int → Nat → Bool

/-- The ratio of a gear table exactly at a break of width 0 is the upper one (R235). Assumption log 9. -/
opaque breakAtPos : Bool

/-- The byte string over which SFMCRC is taken, from addresses and values: the spec names the registers and not how they
follow one another (R308). Assumption log 13. -/
opaque protectImage : List (Nat × Nat) → List Byte

/-- SHA-256; the ECDSA P-256 check of a key, a digest and a signature; AES-256-GCM opening of a ciphertext under a key, IV and
tag (R432, R436): the standards' values, not spelled out here. Assumption log 8. -/
opaque sha256 : List Byte → List Byte
opaque ecdsaVerify : List Byte → List Byte → List Byte → Bool
opaque gcmOpen : List Byte → List Byte → List Byte → List Byte → Option (List Byte)

/-- The Qorward firmware key hash in the boot ROM (R436) and the IDCODE of the TAP (R439): not given. Assumption log 8. -/
opaque romKeyHash : List Byte
opaque idcode : BitVec 32

/-- What an item code of SEC_PROVISION names: 0 KH0, 1 KH1, 2 IK, 3 MAC, 4 revoke KH0, 5 revoke KH1, else nothing; and the
target code of UPD_BEGIN that names the firmware, at or above 16. The spec gives neither coding. Assumption log 14. -/
opaque otpItem : Nat → Nat
opaque updFirmwareTarget : Nat

/-- What IEEE 802.1AS and the Internet standards fix and the spec names without spelling out (R342, R347, R348): the answer to an
ARP or echo request from the frame, the device's MAC and IPv4 address; the bytes of a message the firmware sends (0 Pdelay_Req,
1 Announce, 2 Sync, 3 Pdelay_Resp, 4 Pdelay_Resp_Follow_Up) from kind, port, MAC, priority1, sequenceId and stamp; mean link
delay and neighbour rate ratio from [t1, t2, t3, t4, delayAsymmetry] and the previous ratio; the best master clock algorithm's
port roles, and whether it selects this device, from the ports' latest Announce messages and priority1. Assumption log 15. -/
opaque netAnswer : List Byte → Nat → Nat → List Byte
opaque gptpFrame : Nat → Nat → Nat → Nat → Nat → Int → List Byte
opaque linkDelay : List Int → Nat → Int × Nat
opaque bmca : List (List Byte) → Nat → List Nat × Bool

/-- The frame of a UDP datagram from its payload, the device's MAC and IPv4 address, and the address and port it goes to; the address and
port of the host of a session by its number; whether a queue of a port is full, from the lengths of the frames that wait in it; the rate at
which local time keeps up with its master. Assumption logs 5, 15, 23, 34. -/
opaque udpFrame : List Byte → Nat → Nat → Nat → Nat → List Byte
opaque sessionPeer : Nat → Nat × Nat
opaque queueFull : Nat → Nat → List Nat → Bool
opaque neutralRate : Nat

/-- What the flag rules of R59 leave open: C of SUB and CMP (a borrow or its inverse), C and V of AND, OR and XOR (0, 1, 2 and the
operands); the result of a shift by a register value above 31. Assumption log 17. -/
opaque subCarry : Word → Word → Bool
opaque logicFlags : Nat → Word → Word → Bool × Bool
opaque shiftResult : Nat → Word → Word → Word

/-- Which of the results within the error bound of SINCOS and RSQ an engine gives, from the operand (R59). Assumption log 17. -/
opaque cosPick : Word → Nat
opaque sinPick : Word → Nat
opaque rsqPick : Word → Nat

/-- What the bytes of an engine image mean (none: not the format), the public key it carries, and the least interval in cycles
between starts by a trigger-bus line or a doorbell, from source and selection: the spec gives none of them (R69, R77). Assumption
log 18. -/
opaque engParts : List Byte → Option (List EngPart)
opaque engKey : List Byte → List Byte
opaque triggerInterval : Nat → Nat → Nat

/-- Which engine images are the loop library's, by identifier and task slot; the value of a library parameter that nothing has
written and whose default is not given, by axis type, ID and byte; the supply voltage in 2^-16 V of a stepper axis from an ADC entry
and its result: the spec gives none of them (chapter Axis Control, R198, R257). Assumption log 28. -/
opaque libraryImage : Nat → Nat → Bool
opaque paramDefault : Nat → Nat → Nat → Byte
opaque busVolts : Nat → Nat → Nat

/-- The current in 2^-16 A of a result: SDI_n by n, with 24 bits, or ADC entry r by 64 + r, with 16: what the library makes of one is not
given (R40, R210). Assumption log 28. -/
opaque currentOf : Nat → Int → Int

/-- The bytes of the firmware's own speed task in the reserved program range and in the reserved data range of an engine (R52), from
the build's datapath and the byte offset: the spec gives neither. Assumption log 18. -/
opaque speedCode : Nat → Nat → Byte
opaque speedData : Nat → Nat → Byte

end Config

end Sys2Proof
end

