-- ==== Sys2Proof/Machine/Num.lean ====
section
/-!
DEFINITION. Number, bit and byte helpers: saturation, rounding, little-endian bytes (R3), the CRCs of R140 and R308.
-/

namespace Sys2Proof.Machine

/-- Bit `i` of `n` set to `b`. -/
def putBit (n i : Nat) (b : Bool) : Nat :=
  if n.testBit i then (if b then n else n - 2 ^ i) else (if b then n + 2 ^ i else n)

/-- `x` put into a list sorted by `key`, after what is equal to it. -/
def insertBy {α : Type} (key : α → Int) (x : α) : List α → List α
  | [] => [x]
  | y :: ys => if key x < key y then x :: y :: ys else y :: insertBy key x ys

/-- A list sorted by `key`; equal ones keep their order. -/
def sortBy {α : Type} (key : α → Int) (l : List α) : List α := l.foldl (fun acc x => insertBy key x acc) []

/-- The mask of the bits listed. -/
def maskOf (l : List Nat) : Nat := l.foldl (fun m i => putBit m i true) 0

/-- The bits below `w` that are set in `n`, rising. -/
def bitsOf (w n : Nat) : List Nat := (List.range w).filter (fun i => n.testBit i)

/-- The greatest r below 2^n, built from the top bit down, that satisfies the falling condition `p`. -/
def topRoot (p : Nat → Bool) : Nat → Nat → Nat
  | 0, r => r
  | n + 1, r => topRoot p n (if p (r + 2 ^ n) then r + 2 ^ n else r)

/-- `n` counted up, stopping at `top`. -/
def bump (top n : Nat) : Nat := if n < top then n + 1 else top

/-- `x` held between `lo` and `hi`. -/
def clampI (lo hi x : Int) : Int := if x < lo then lo else if hi < x then hi else x

def clampN (lo hi x : Nat) : Nat := if x < lo then lo else if hi < x then hi else x

/-- `x` saturated to `w` signed bits. -/
def satS (w : Nat) (x : Int) : Int := clampI (-(2 ^ (w - 1) : Nat)) ((2 ^ (w - 1) : Nat) - 1) x

/-- The low `w` bits of `n` read as a signed number. -/
def sgn (w n : Nat) : Int :=
  let m := n % 2 ^ w
  if m < 2 ^ (w - 1) then (m : Int) else (m : Int) - (2 ^ w : Nat)

/-- The low `w` bits of a signed number. -/
def uns (w : Nat) (x : Int) : Nat := (x % ((2 ^ w : Nat) : Int)).toNat

/-- `x / 2^k` rounded toward minus infinity. -/
def asr (x : Int) (k : Nat) : Int := x / ((2 ^ k : Nat) : Int)

/-- `x / 2^k` rounded to nearest, a half toward plus infinity. -/
def roundShift (x : Int) (k : Nat) : Int := if k = 0 then x else asr (x + ((2 ^ (k - 1) : Nat) : Int)) k

/-- `n / d` rounded to nearest, halves up. -/
def roundDiv (n d : Nat) : Nat := if d = 0 then 0 else (n + d / 2) / d

/-- The `k` low bytes of `n`, little-endian (R3). -/
def leBytes : Nat → Nat → List Byte
  | 0, _ => []
  | k + 1, n => BitVec.ofNat 8 n :: leBytes k (n / 256)

/-- The number a list of bytes spells, little-endian (R3). -/
def leNat : List Byte → Nat
  | [] => 0
  | b :: bs => b.toNat + 256 * leNat bs

/-- `k` bytes of `bs` from offset `off`; bytes past the end read 0. -/
def bytesAt (bs : List Byte) (off k : Nat) : List Byte :=
  ((bs.drop off).take k) ++ List.replicate (k - (bs.drop off).length) 0

/-- The little-endian number of `k` bytes at `off`. -/
def numAt (bs : List Byte) (off k : Nat) : Nat := leNat (bytesAt bs off k)

/-- One bit of a left-shifting CRC register of `w` bits. -/
def crcStepL (w poly reg : Nat) (bit : Bool) : Nat :=
  let top := reg.testBit (w - 1)
  let sh := (reg * 2) % 2 ^ w
  if top == bit then sh else sh ^^^ poly

/-- CRC-16, polynomial 0x1021, initial 0xFFFF, most significant bit first, no reflection, no final inversion (R140). -/
def crc16 (bs : List Byte) : Nat :=
  bs.foldl (fun r b => [7, 6, 5, 4, 3, 2, 1, 0].foldl (fun r i => crcStepL 16 0x1021 r (b.toNat.testBit i)) r) 0xFFFF

/-- One bit of the reflected CRC-32 register. -/
def crcStepR (poly reg : Nat) : Nat :=
  if reg.testBit 0 then (reg / 2) ^^^ poly else reg / 2

/-- CRC-32 of IEEE 802.3 (R308). -/
def crc32 (bs : List Byte) : Nat :=
  (bs.foldl (fun r b => [0, 1, 2, 3, 4, 5, 6, 7].foldl (fun r _ => crcStepR 0xEDB88320 r) (r ^^^ b.toNat)) 0xFFFFFFFF)
    ^^^ 0xFFFFFFFF

end Sys2Proof.Machine
end

