-- ==== Sys2Proof/Machine/RegMap.lean ====
section
/-!
DEFINITION. What a register field and a row of the register table are (the register descriptions of the spec and R4).
-/

namespace Sys2Proof.Machine

/-- A field of a 32-bit register: the register's address, the field's lowest bit, its width. -/
structure Fld where
  addr : Nat
  lo : Nat
  width : Nat
  deriving DecidableEq, Repr

/-- Access codes of R4. Bits of a register in no field are rsv: read 0, writes without effect. -/
inductive Acc where
  | rw | ro | wo | w1c | w1t
  deriving DecidableEq, Repr

/-- A field of a table row. -/
structure FieldDesc where
  lo : Nat
  width : Nat
  acc : Acc
  deriving DecidableEq, Repr

/-- One register description: base address, index ranges (count, stride), reset value, fields. -/
structure RegRow where
  base : Nat
  dims : List (Nat × Nat)
  reset : Nat
  fields : List FieldDesc
  deriving DecidableEq, Repr

/-- A reset value that is not 0. -/
structure ResetRow where
  base : Nat
  dims : List (Nat × Nat)
  value : Nat
  deriving DecidableEq, Repr

/-- Whether `off` is a sum of indices times strides of the dimensions given (widest stride first or not). -/
def inDims : List (Nat × Nat) → Nat → Bool
  | [], off => off == 0
  | [(n, st)], off => off % st == 0 && decide (off / st < n)
  | (n, st) :: ds, off => decide (off / st < n) && inDims ds (off % st)

/-- The dimensions sorted so that the widest stride comes first are how every row lists them. -/
def RegRow.covers (r : RegRow) (a : Nat) : Bool :=
  decide (r.base ≤ a) && inDims r.dims (a - r.base)

def ResetRow.covers (r : ResetRow) (a : Nat) : Bool :=
  decide (r.base ≤ a) && inDims r.dims (a - r.base)

end Sys2Proof.Machine
end

