-- ==== Sys2Proof/Machine/RegsControl.lean ====
section
/-!
DEFINITION. Register addresses and fields of the control engines (CE), carriers (CB) and edge scheduler (ES), spec/03 and spec/04.
Written out by a script from the register tables of the spec: an address is the block base, the offset and the strides
the table gives; a field is its place in the 32-bit register; a table row also holds the reset value and the access codes of R4.
-/

namespace Sys2Proof.Machine

/-- CE.CTRL[e] (spec/03_control_engines.md). -/
def R.CE_CTRL (g : Nat) : Nat := 0x30030000 + 0x40000 * g
def F.CE_CTRL_CLRCNT (g : Nat) : Fld := ⟨(R.CE_CTRL g), 2, 1⟩
def F.CE_CTRL_HALT (g : Nat) : Fld := ⟨(R.CE_CTRL g), 1, 1⟩
def F.CE_CTRL_EN (g : Nat) : Fld := ⟨(R.CE_CTRL g), 0, 1⟩
/-- CE.STAT[e] (spec/03_control_engines.md). -/
def R.CE_STAT (g : Nat) : Nat := 0x30030004 + 0x40000 * g
def F.CE_STAT_PEND (g : Nat) : Fld := ⟨(R.CE_STAT g), 24, 8⟩
def F.CE_STAT_STKERR (g : Nat) : Fld := ⟨(R.CE_STAT g), 16, 1⟩
def F.CE_STAT_PMDBL (g : Nat) : Fld := ⟨(R.CE_STAT g), 15, 1⟩
def F.CE_STAT_DMDBL (g : Nat) : Fld := ⟨(R.CE_STAT g), 14, 1⟩
def F.CE_STAT_ECC1 (g : Nat) : Fld := ⟨(R.CE_STAT g), 13, 1⟩
def F.CE_STAT_ACCSAT (g : Nat) : Fld := ⟨(R.CE_STAT g), 12, 1⟩
def F.CE_STAT_SATM (g : Nat) : Fld := ⟨(R.CE_STAT g), 11, 1⟩
def F.CE_STAT_RIGHTS (g : Nat) : Fld := ⟨(R.CE_STAT g), 10, 1⟩
def F.CE_STAT_DPVIOL (g : Nat) : Fld := ⟨(R.CE_STAT g), 9, 1⟩
def F.CE_STAT_ENGHALT (g : Nat) : Fld := ⟨(R.CE_STAT g), 8, 1⟩
def F.CE_STAT_ACT (g : Nat) : Fld := ⟨(R.CE_STAT g), 3, 1⟩
def F.CE_STAT_SLOT (g : Nat) : Fld := ⟨(R.CE_STAT g), 0, 3⟩
/-- CE.DBELL[e] (spec/03_control_engines.md). -/
def R.CE_DBELL (g : Nat) : Nat := 0x30030008 + 0x40000 * g
def F.CE_DBELL_RING (g : Nat) : Fld := ⟨(R.CE_DBELL g), 0, 8⟩
/-- CE.TASKCFG[e][k] (spec/03_control_engines.md). -/
def R.CE_TASKCFG (g h : Nat) : Nat := 0x30030100 + 0x40000 * g + 0x10 * h
def F.CE_TASKCFG_EN (g h : Nat) : Fld := ⟨(R.CE_TASKCFG g h), 31, 1⟩
def F.CE_TASKCFG_DPATH (g h : Nat) : Fld := ⟨(R.CE_TASKCFG g h), 29, 2⟩
def F.CE_TASKCFG_SRC (g h : Nat) : Fld := ⟨(R.CE_TASKCFG g h), 26, 3⟩
def F.CE_TASKCFG_DIV (g h : Nat) : Fld := ⟨(R.CE_TASKCFG g h), 22, 4⟩
def F.CE_TASKCFG_PHASE (g h : Nat) : Fld := ⟨(R.CE_TASKCFG g h), 18, 4⟩
def F.CE_TASKCFG_SCALE (g h : Nat) : Fld := ⟨(R.CE_TASKCFG g h), 14, 4⟩
def F.CE_TASKCFG_SEL (g h : Nat) : Fld := ⟨(R.CE_TASKCFG g h), 0, 14⟩
/-- CE.TASKENT[e][k] (spec/03_control_engines.md). -/
def R.CE_TASKENT (g h : Nat) : Nat := 0x30030104 + 0x40000 * g + 0x10 * h
def F.CE_TASKENT_AXB (g h : Nat) : Fld := ⟨(R.CE_TASKENT g h), 31, 1⟩
def F.CE_TASKENT_AXIS (g h : Nat) : Fld := ⟨(R.CE_TASKENT g h), 27, 4⟩
def F.CE_TASKENT_ENTRY (g h : Nat) : Fld := ⟨(R.CE_TASKENT g h), 0, 17⟩
/-- CE.TASKBUD[e][k] (spec/03_control_engines.md). -/
def R.CE_TASKBUD (g h : Nat) : Nat := 0x30030108 + 0x40000 * g + 0x10 * h
def F.CE_TASKBUD_BUDGET (g h : Nat) : Fld := ⟨(R.CE_TASKBUD g h), 0, 20⟩
/-- CE.TASKCNT[e][k] (spec/03_control_engines.md). -/
def R.CE_TASKCNT (g h : Nat) : Nat := 0x3003010C + 0x40000 * g + 0x10 * h
def F.CE_TASKCNT_ACT (g h : Nat) : Fld := ⟨(R.CE_TASKCNT g h), 16, 16⟩
def F.CE_TASKCNT_OVR (g h : Nat) : Fld := ⟨(R.CE_TASKCNT g h), 10, 6⟩
def F.CE_TASKCNT_ABT (g h : Nat) : Fld := ⟨(R.CE_TASKCNT g h), 5, 5⟩
def F.CE_TASKCNT_SKIP (g h : Nat) : Fld := ⟨(R.CE_TASKCNT g h), 0, 5⟩
/-- CE.GRBASE[e][k][w] (spec/03_control_engines.md). -/
def R.CE_GRBASE (g h i : Nat) : Nat := 0x30030400 + 0x40000 * g + 0x40 * h + 0x8 * i
def F.CE_GRBASE_BASE (g h i : Nat) : Fld := ⟨(R.CE_GRBASE g h i), 2, 30⟩
/-- CE.GRLIM[e][k][w] (spec/03_control_engines.md). -/
def R.CE_GRLIM (g h i : Nat) : Nat := 0x30030404 + 0x40000 * g + 0x40 * h + 0x8 * i
def F.CE_GRLIM_LIMIT (g h i : Nat) : Fld := ⟨(R.CE_GRLIM g h i), 2, 30⟩
def F.CE_GRLIM_W (g h i : Nat) : Fld := ⟨(R.CE_GRLIM g h i), 1, 1⟩
def F.CE_GRLIM_R (g h i : Nat) : Fld := ⟨(R.CE_GRLIM g h i), 0, 1⟩
/-- CE.INBIND[e][s] (spec/03_control_engines.md). -/
def R.CE_INBIND (g h : Nat) : Nat := 0x30030800 + 0x40000 * g + 0x4 * h
def F.CE_INBIND_EN (g h : Nat) : Fld := ⟨(R.CE_INBIND g h), 31, 1⟩
def F.CE_INBIND_TYPE (g h : Nat) : Fld := ⟨(R.CE_INBIND g h), 27, 4⟩
def F.CE_INBIND_INDEX (g h : Nat) : Fld := ⟨(R.CE_INBIND g h), 21, 6⟩
/-- CE.INVALID0[e] (spec/03_control_engines.md). -/
def R.CE_INVALID0 (g : Nat) : Nat := 0x30030900 + 0x40000 * g
def F.CE_INVALID0_V (g : Nat) : Fld := ⟨(R.CE_INVALID0 g), 0, 32⟩
/-- CE.INVALID1[e] (spec/03_control_engines.md). -/
def R.CE_INVALID1 (g : Nat) : Nat := 0x30030904 + 0x40000 * g
def F.CE_INVALID1_V (g : Nat) : Fld := ⟨(R.CE_INVALID1 g), 0, 32⟩
/-- CE.INOVW0[e] (spec/03_control_engines.md). -/
def R.CE_INOVW0 (g : Nat) : Nat := 0x30030908 + 0x40000 * g
def F.CE_INOVW0_OVW (g : Nat) : Fld := ⟨(R.CE_INOVW0 g), 0, 32⟩
/-- CE.INOVW1[e] (spec/03_control_engines.md). -/
def R.CE_INOVW1 (g : Nat) : Nat := 0x3003090C + 0x40000 * g
def F.CE_INOVW1_OVW (g : Nat) : Fld := ⟨(R.CE_INOVW1 g), 0, 32⟩

def regTableCE0 : List RegRow := [
  ⟨0x30030000, [(16, 0x40000)], 0x0, [⟨2, 1, .w1t⟩, ⟨1, 1, .rw⟩, ⟨0, 1, .rw⟩]⟩,
  ⟨0x30030004, [(16, 0x40000)], 0x0, [⟨24, 8, .ro⟩, ⟨16, 1, .w1c⟩, ⟨15, 1, .w1c⟩, ⟨14, 1, .w1c⟩, ⟨13, 1, .w1c⟩, ⟨12, 1, .w1c⟩, ⟨11, 1, .w1c⟩, ⟨10, 1, .w1c⟩, ⟨9, 1, .w1c⟩, ⟨8, 1, .ro⟩, ⟨3, 1, .ro⟩, ⟨0, 3, .ro⟩]⟩,
  ⟨0x30030008, [(16, 0x40000)], 0x0, [⟨0, 8, .w1t⟩]⟩,
  ⟨0x30030100, [(16, 0x40000), (8, 0x10)], 0x0, [⟨31, 1, .rw⟩, ⟨29, 2, .rw⟩, ⟨26, 3, .rw⟩, ⟨22, 4, .rw⟩, ⟨18, 4, .rw⟩, ⟨14, 4, .rw⟩, ⟨0, 14, .rw⟩]⟩,
  ⟨0x30030104, [(16, 0x40000), (8, 0x10)], 0x0, [⟨31, 1, .rw⟩, ⟨27, 4, .rw⟩, ⟨0, 17, .rw⟩]⟩,
  ⟨0x30030108, [(16, 0x40000), (8, 0x10)], 0x0, [⟨0, 20, .rw⟩]⟩,
  ⟨0x3003010C, [(16, 0x40000), (8, 0x10)], 0x0, [⟨16, 16, .ro⟩, ⟨10, 6, .ro⟩, ⟨5, 5, .ro⟩, ⟨0, 5, .ro⟩]⟩,
  ⟨0x30030400, [(16, 0x40000), (8, 0x40), (8, 0x8)], 0x0, [⟨2, 30, .rw⟩]⟩,
  ⟨0x30030404, [(16, 0x40000), (8, 0x40), (8, 0x8)], 0x0, [⟨2, 30, .rw⟩, ⟨1, 1, .rw⟩, ⟨0, 1, .rw⟩]⟩,
  ⟨0x30030800, [(16, 0x40000), (64, 0x4)], 0x0, [⟨31, 1, .rw⟩, ⟨27, 4, .rw⟩, ⟨21, 6, .rw⟩]⟩,
  ⟨0x30030900, [(16, 0x40000)], 0x0, [⟨0, 32, .ro⟩]⟩,
  ⟨0x30030904, [(16, 0x40000)], 0x0, [⟨0, 32, .ro⟩]⟩,
  ⟨0x30030908, [(16, 0x40000)], 0x0, [⟨0, 32, .w1c⟩]⟩,
  ⟨0x3003090C, [(16, 0x40000)], 0x0, [⟨0, 32, .w1c⟩]⟩
]

/-- CB.CFG[n] (spec/04_carriers_and_edges.md). -/
def R.CB_CFG (g : Nat) : Nat := 0x40000000 + 0x100 * g
def F.CB_CFG_EN (g : Nat) : Fld := ⟨(R.CB_CFG g), 31, 1⟩
def F.CB_CFG_GRP (g : Nat) : Fld := ⟨(R.CB_CFG g), 26, 5⟩
def F.CB_CFG_PRESC (g : Nat) : Fld := ⟨(R.CB_CFG g), 22, 4⟩
def F.CB_CFG_LDSEL (g : Nat) : Fld := ⟨(R.CB_CFG g), 20, 2⟩
def F.CB_CFG_EVPS (g : Nat) : Fld := ⟨(R.CB_CFG g), 16, 4⟩
def F.CB_CFG_EVPH (g : Nat) : Fld := ⟨(R.CB_CFG g), 12, 4⟩
def F.CB_CFG_SYNSRC (g : Nat) : Fld := ⟨(R.CB_CFG g), 10, 2⟩
def F.CB_CFG_SHLIM (g : Nat) : Fld := ⟨(R.CB_CFG g), 7, 3⟩
def F.CB_CFG_EXPP (g : Nat) : Fld := ⟨(R.CB_CFG g), 6, 1⟩
def F.CB_CFG_EXPPH (g : Nat) : Fld := ⟨(R.CB_CFG g), 5, 1⟩
/-- CB.PERIOD[n] (spec/04_carriers_and_edges.md). -/
def R.CB_PERIOD (g : Nat) : Nat := 0x40000004 + 0x100 * g
def F.CB_PERIOD_PERIOD (g : Nat) : Fld := ⟨(R.CB_PERIOD g), 0, 18⟩
/-- CB.PHASE[n] (spec/04_carriers_and_edges.md). -/
def R.CB_PHASE (g : Nat) : Nat := 0x40000008 + 0x100 * g
def F.CB_PHASE_PHASE (g : Nat) : Fld := ⟨(R.CB_PHASE g), 0, 19⟩
/-- CB.LOAD[n] (spec/04_carriers_and_edges.md). -/
def R.CB_LOAD (g : Nat) : Nat := 0x4000000C + 0x100 * g
def F.CB_LOAD_LATE (g : Nat) : Fld := ⟨(R.CB_LOAD g), 24, 8⟩
def F.CB_LOAD_OVLP (g : Nat) : Fld := ⟨(R.CB_LOAD g), 16, 8⟩
def F.CB_LOAD_PART (g : Nat) : Fld := ⟨(R.CB_LOAD g), 8, 8⟩
def F.CB_LOAD_PEND (g : Nat) : Fld := ⟨(R.CB_LOAD g), 7, 1⟩
def F.CB_LOAD_PSHP (g : Nat) : Fld := ⟨(R.CB_LOAD g), 6, 1⟩
def F.CB_LOAD_PSHPH (g : Nat) : Fld := ⟨(R.CB_LOAD g), 5, 1⟩
def F.CB_LOAD_LDALL (g : Nat) : Fld := ⟨(R.CB_LOAD g), 0, 1⟩
/-- CB.STAT[n] (spec/04_carriers_and_edges.md). -/
def R.CB_STAT (g : Nat) : Nat := 0x40000010 + 0x100 * g
def F.CB_STAT_RUN (g : Nat) : Fld := ⟨(R.CB_STAT g), 31, 1⟩
def F.CB_STAT_DIR (g : Nat) : Fld := ⟨(R.CB_STAT g), 30, 1⟩
def F.CB_STAT_CFGIGN (g : Nat) : Fld := ⟨(R.CB_STAT g), 29, 1⟩
def F.CB_STAT_CLRCNT (g : Nat) : Fld := ⟨(R.CB_STAT g), 28, 1⟩
def F.CB_STAT_BADLD (g : Nat) : Fld := ⟨(R.CB_STAT g), 27, 1⟩
def F.CB_STAT_CNT (g : Nat) : Fld := ⟨(R.CB_STAT g), 0, 18⟩
/-- CB.ACT[n] (spec/04_carriers_and_edges.md). -/
def R.CB_ACT (g : Nat) : Nat := 0x40000014 + 0x100 * g
def F.CB_ACT_PEAK (g : Nat) : Fld := ⟨(R.CB_ACT g), 0, 18⟩
/-- CB.PERCNT[n] (spec/04_carriers_and_edges.md). -/
def R.CB_PERCNT (g : Nat) : Nat := 0x40000018 + 0x100 * g
def F.CB_PERCNT_PERCNT (g : Nat) : Fld := ⟨(R.CB_PERCNT g), 0, 32⟩
/-- CB.SYNC[n] (spec/04_carriers_and_edges.md). -/
def R.CB_SYNC (g : Nat) : Nat := 0x4000001C + 0x100 * g
def F.CB_SYNC_LOCK (g : Nat) : Fld := ⟨(R.CB_SYNC g), 31, 1⟩
def F.CB_SYNC_BIG (g : Nat) : Fld := ⟨(R.CB_SYNC g), 30, 1⟩
def F.CB_SYNC_MISS (g : Nat) : Fld := ⟨(R.CB_SYNC g), 29, 1⟩
def F.CB_SYNC_MISSN (g : Nat) : Fld := ⟨(R.CB_SYNC g), 25, 4⟩
def F.CB_SYNC_ERR (g : Nat) : Fld := ⟨(R.CB_SYNC g), 0, 20⟩
/-- CB.SYNCCFG[n] (spec/04_carriers_and_edges.md). -/
def R.CB_SYNCCFG (g : Nat) : Nat := 0x40000020 + 0x100 * g
def F.CB_SYNCCFG_RDIV (g : Nat) : Fld := ⟨(R.CB_SYNCCFG g), 28, 4⟩
def F.CB_SYNCCFG_OFFSET (g : Nat) : Fld := ⟨(R.CB_SYNCCFG g), 0, 18⟩

def regTableCB0 : List RegRow := [
  ⟨0x40000000, [(24, 0x100)], 0x180, [⟨31, 1, .rw⟩, ⟨26, 5, .rw⟩, ⟨22, 4, .rw⟩, ⟨20, 2, .rw⟩, ⟨16, 4, .rw⟩, ⟨12, 4, .rw⟩, ⟨10, 2, .rw⟩, ⟨7, 3, .rw⟩, ⟨6, 1, .rw⟩, ⟨5, 1, .rw⟩]⟩,
  ⟨0x40000004, [(24, 0x100)], 0x0, [⟨0, 18, .rw⟩]⟩,
  ⟨0x40000008, [(24, 0x100)], 0x0, [⟨0, 19, .rw⟩]⟩,
  ⟨0x4000000C, [(24, 0x100)], 0x0, [⟨24, 8, .ro⟩, ⟨16, 8, .ro⟩, ⟨8, 8, .ro⟩, ⟨7, 1, .ro⟩, ⟨6, 1, .ro⟩, ⟨5, 1, .ro⟩, ⟨0, 1, .w1t⟩]⟩,
  ⟨0x40000010, [(24, 0x100)], 0x0, [⟨31, 1, .ro⟩, ⟨30, 1, .ro⟩, ⟨29, 1, .w1c⟩, ⟨28, 1, .w1t⟩, ⟨27, 1, .w1c⟩, ⟨0, 18, .ro⟩]⟩,
  ⟨0x40000014, [(24, 0x100)], 0x0, [⟨0, 18, .ro⟩]⟩,
  ⟨0x40000018, [(24, 0x100)], 0x0, [⟨0, 32, .ro⟩]⟩,
  ⟨0x4000001C, [(24, 0x100)], 0x10000000, [⟨31, 1, .ro⟩, ⟨30, 1, .ro⟩, ⟨29, 1, .ro⟩, ⟨25, 4, .rw⟩, ⟨0, 20, .ro⟩]⟩,
  ⟨0x40000020, [(24, 0x100)], 0x0, [⟨28, 4, .rw⟩, ⟨0, 18, .rw⟩]⟩
]

/-- ES.LEGCFG[l] (spec/04_carriers_and_edges.md). -/
def R.ES_LEGCFG (g : Nat) : Nat := 0x40002000 + 0x40 * g
def F.ES_LEGCFG_EN (g : Nat) : Fld := ⟨(R.ES_LEGCFG g), 31, 1⟩
def F.ES_LEGCFG_CB (g : Nat) : Fld := ⟨(R.ES_LEGCFG g), 26, 5⟩
def F.ES_LEGCFG_MODE (g : Nat) : Fld := ⟨(R.ES_LEGCFG g), 24, 2⟩
def F.ES_LEGCFG_BOOT (g : Nat) : Fld := ⟨(R.ES_LEGCFG g), 23, 1⟩
def F.ES_LEGCFG_NREF (g : Nat) : Fld := ⟨(R.ES_LEGCFG g), 17, 6⟩
def F.ES_LEGCFG_EXPDT (g : Nat) : Fld := ⟨(R.ES_LEGCFG g), 16, 1⟩
def F.ES_LEGCFG_EXPB (g : Nat) : Fld := ⟨(R.ES_LEGCFG g), 15, 1⟩
def F.ES_LEGCFG_EXPA (g : Nat) : Fld := ⟨(R.ES_LEGCFG g), 14, 1⟩
/-- ES.CMPA[l] (spec/04_carriers_and_edges.md). -/
def R.ES_CMPA (g : Nat) : Nat := 0x40002004 + 0x40 * g
def F.ES_CMPA_CMP (g : Nat) : Fld := ⟨(R.ES_CMPA g), 0, 24⟩
/-- ES.CMPB[l] (spec/04_carriers_and_edges.md). -/
def R.ES_CMPB (g : Nat) : Nat := 0x40002008 + 0x40 * g
def F.ES_CMPB_CMP (g : Nat) : Fld := ⟨(R.ES_CMPB g), 0, 24⟩
/-- ES.DT[l] (spec/04_carriers_and_edges.md). -/
def R.ES_DT (g : Nat) : Nat := 0x4000200C + 0x40 * g
def F.ES_DT_DT (g : Nat) : Fld := ⟨(R.ES_DT g), 0, 16⟩
/-- ES.PSHADOW[l] (spec/04_carriers_and_edges.md). -/
def R.ES_PSHADOW (g : Nat) : Nat := 0x40002010 + 0x40 * g
def F.ES_PSHADOW_DT (g : Nat) : Fld := ⟨(R.ES_PSHADOW g), 2, 1⟩
def F.ES_PSHADOW_CMPB (g : Nat) : Fld := ⟨(R.ES_PSHADOW g), 1, 1⟩
def F.ES_PSHADOW_CMPA (g : Nat) : Fld := ⟨(R.ES_PSHADOW g), 0, 1⟩
/-- ES.LEGTIM[l] (spec/04_carriers_and_edges.md). -/
def R.ES_LEGTIM (g : Nat) : Nat := 0x40002014 + 0x40 * g
def F.ES_LEGTIM_REFW (g : Nat) : Fld := ⟨(R.ES_LEGTIM g), 16, 16⟩
def F.ES_LEGTIM_MINPW (g : Nat) : Fld := ⟨(R.ES_LEGTIM g), 0, 16⟩
/-- ES.LEGSTAT[l] (spec/04_carriers_and_edges.md). -/
def R.ES_LEGSTAT (g : Nat) : Nat := 0x40002018 + 0x40 * g
def F.ES_LEGSTAT_REFCNT (g : Nat) : Fld := ⟨(R.ES_LEGSTAT g), 24, 8⟩
def F.ES_LEGSTAT_DROP (g : Nat) : Fld := ⟨(R.ES_LEGSTAT g), 16, 8⟩
def F.ES_LEGSTAT_HELD (g : Nat) : Fld := ⟨(R.ES_LEGSTAT g), 2, 1⟩
def F.ES_LEGSTAT_UP (g : Nat) : Fld := ⟨(R.ES_LEGSTAT g), 1, 1⟩
def F.ES_LEGSTAT_LO (g : Nat) : Fld := ⟨(R.ES_LEGSTAT g), 0, 1⟩
/-- ES.ACTA[l] (spec/04_carriers_and_edges.md). -/
def R.ES_ACTA (g : Nat) : Nat := 0x4000201C + 0x40 * g
def F.ES_ACTA_CMP (g : Nat) : Fld := ⟨(R.ES_ACTA g), 0, 24⟩
/-- ES.ACTB[l] (spec/04_carriers_and_edges.md). -/
def R.ES_ACTB (g : Nat) : Nat := 0x40002020 + 0x40 * g
def F.ES_ACTB_CMP (g : Nat) : Fld := ⟨(R.ES_ACTB g), 0, 24⟩
/-- ES.ACTDT[l] (spec/04_carriers_and_edges.md). -/
def R.ES_ACTDT (g : Nat) : Nat := 0x40002024 + 0x40 * g
def F.ES_ACTDT_DT (g : Nat) : Fld := ⟨(R.ES_ACTDT g), 0, 16⟩
/-- ES.GCTL (spec/04_carriers_and_edges.md). -/
def R.ES_GCTL : Nat := 0x40004000
def F.ES_GCTL_EN : Fld := ⟨R.ES_GCTL, 0, 1⟩
/-- ES.ITMCFG[k] (spec/04_carriers_and_edges.md). -/
def R.ES_ITMCFG (g : Nat) : Nat := 0x40004100 + 0x10 * g
def F.ES_ITMCFG_EN (g : Nat) : Fld := ⟨(R.ES_ITMCFG g), 31, 1⟩
def F.ES_ITMCFG_ALIGN (g : Nat) : Fld := ⟨(R.ES_ITMCFG g), 30, 1⟩
def F.ES_ITMCFG_CB (g : Nat) : Fld := ⟨(R.ES_ITMCFG g), 25, 5⟩
/-- ES.ITMPER[k] (spec/04_carriers_and_edges.md). -/
def R.ES_ITMPER (g : Nat) : Nat := 0x40004104 + 0x10 * g
def F.ES_ITMPER_PER (g : Nat) : Fld := ⟨(R.ES_ITMPER g), 0, 32⟩

def regTableES0 : List RegRow := [
  ⟨0x40002000, [(72, 0x40)], 0x0, [⟨31, 1, .rw⟩, ⟨26, 5, .rw⟩, ⟨24, 2, .rw⟩, ⟨23, 1, .rw⟩, ⟨17, 6, .rw⟩, ⟨16, 1, .rw⟩, ⟨15, 1, .rw⟩, ⟨14, 1, .rw⟩]⟩,
  ⟨0x40002004, [(72, 0x40)], 0x0, [⟨0, 24, .rw⟩]⟩,
  ⟨0x40002008, [(72, 0x40)], 0x0, [⟨0, 24, .rw⟩]⟩,
  ⟨0x4000200C, [(72, 0x40)], 0x0, [⟨0, 16, .rw⟩]⟩,
  ⟨0x40002010, [(72, 0x40)], 0x0, [⟨2, 1, .ro⟩, ⟨1, 1, .ro⟩, ⟨0, 1, .ro⟩]⟩,
  ⟨0x40002014, [(72, 0x40)], 0xA000000, [⟨16, 16, .rw⟩, ⟨0, 16, .rw⟩]⟩,
  ⟨0x40002018, [(72, 0x40)], 0x0, [⟨24, 8, .ro⟩, ⟨16, 8, .ro⟩, ⟨2, 1, .ro⟩, ⟨1, 1, .ro⟩, ⟨0, 1, .ro⟩]⟩,
  ⟨0x4000201C, [(72, 0x40)], 0x0, [⟨0, 24, .ro⟩]⟩,
  ⟨0x40002020, [(72, 0x40)], 0x0, [⟨0, 24, .ro⟩]⟩,
  ⟨0x40002024, [(72, 0x40)], 0x0, [⟨0, 16, .ro⟩]⟩,
  ⟨0x40004000, [], 0x0, [⟨0, 1, .rw⟩]⟩,
  ⟨0x40004100, [(8, 0x10)], 0x0, [⟨31, 1, .rw⟩, ⟨30, 1, .rw⟩, ⟨25, 5, .rw⟩]⟩,
  ⟨0x40004104, [(8, 0x10)], 0xC7, [⟨0, 32, .rw⟩]⟩
]

end Sys2Proof.Machine
end

