-- ==== Sys2Proof/Machine/RegsHost.lean ====
section
/-!
DEFINITION. Register addresses and fields of the HP, MBX, FIO and FSM, spec/11 and spec/16.
Written out by a script from the register tables of the spec: an address is the block base, the offset and the strides
the table gives; a field is its place in the 32-bit register; a table row also holds the reset value and the access codes of R4.
-/

namespace Sys2Proof.Machine

/-- HP.CFG (spec/11_host_and_mailboxes.md). -/
def R.HP_CFG : Nat := 0x60030000
def F.HP_CFG_HOSTSEL : Fld := ⟨R.HP_CFG, 0, 2⟩
/-- HP.STAT (spec/11_host_and_mailboxes.md). -/
def R.HP_STAT : Nat := 0x60030004
def F.HP_STAT_APERR : Fld := ⟨R.HP_STAT, 24, 8⟩
def F.HP_STAT_ROWR : Fld := ⟨R.HP_STAT, 16, 8⟩
def F.HP_STAT_PARTW : Fld := ⟨R.HP_STAT, 8, 8⟩
def F.HP_STAT_ADRERR : Fld := ⟨R.HP_STAT, 0, 8⟩

def regTableHP0 : List RegRow := [
  ⟨0x60030000, [], 0x0, [⟨0, 2, .ro⟩]⟩,
  ⟨0x60030004, [], 0x0, [⟨24, 8, .ro⟩, ⟨16, 8, .ro⟩, ⟨8, 8, .ro⟩, ⟨0, 8, .ro⟩]⟩
]

/-- MBX.RSVFREE (spec/11_host_and_mailboxes.md). -/
def R.MBX_RSVFREE : Nat := 0x60040000
def F.MBX_RSVFREE_LOW : Fld := ⟨R.MBX_RSVFREE, 16, 12⟩
def F.MBX_RSVFREE_FREE : Fld := ⟨R.MBX_RSVFREE, 0, 12⟩
/-- MBX.RSVXFER (spec/11_host_and_mailboxes.md). -/
def R.MBX_RSVXFER : Nat := 0x60040004
def F.MBX_RSVXFER_TO : Fld := ⟨R.MBX_RSVXFER, 24, 8⟩
def F.MBX_RSVXFER_FROM : Fld := ⟨R.MBX_RSVXFER, 16, 8⟩
def F.MBX_RSVXFER_GO : Fld := ⟨R.MBX_RSVXFER, 15, 1⟩
def F.MBX_RSVXFER_BUF : Fld := ⟨R.MBX_RSVXFER, 0, 11⟩
/-- MBX.RSVXST (spec/11_host_and_mailboxes.md). -/
def R.MBX_RSVXST : Nat := 0x60040008
def F.MBX_RSVXST_REJ : Fld := ⟨R.MBX_RSVXST, 31, 1⟩
def F.MBX_RSVXST_REJCNT : Fld := ⟨R.MBX_RSVXST, 0, 16⟩
/-- MBX.INV (spec/11_host_and_mailboxes.md). -/
def R.MBX_INV : Nat := 0x6004000C
def F.MBX_INV_RSVERR : Fld := ⟨R.MBX_INV, 1, 1⟩
def F.MBX_INV_CRERR : Fld := ⟨R.MBX_INV, 0, 1⟩
/-- MBX.RSVQ[c] (spec/11_host_and_mailboxes.md). -/
def R.MBX_RSVQ (g : Nat) : Nat := 0x60040040 + 0x4 * g
def F.MBX_RSVQ_CAP (g : Nat) : Fld := ⟨(R.MBX_RSVQ g), 16, 12⟩
def F.MBX_RSVQ_FLOOR (g : Nat) : Fld := ⟨(R.MBX_RSVQ g), 0, 12⟩
/-- MBX.RSVCNT[c] (spec/11_host_and_mailboxes.md). -/
def R.MBX_RSVCNT (g : Nat) : Nat := 0x60040060 + 0x4 * g
def F.MBX_RSVCNT_COUNT (g : Nat) : Fld := ⟨(R.MBX_RSVCNT g), 0, 12⟩
/-- MBX.APMAP[s] (spec/11_host_and_mailboxes.md). -/
def R.MBX_APMAP (g : Nat) : Nat := 0x60040400 + 0x4 * g
def F.MBX_APMAP_V (g : Nat) : Fld := ⟨(R.MBX_APMAP g), 31, 1⟩
def F.MBX_APMAP_BUF (g : Nat) : Fld := ⟨(R.MBX_APMAP g), 0, 11⟩
/-- MBX.CRED[k] (spec/11_host_and_mailboxes.md). -/
def R.MBX_CRED (g : Nat) : Nat := 0x60040800 + 0x4 * g
def F.MBX_CRED_PEND (g : Nat) : Fld := ⟨(R.MBX_CRED g), 16, 8⟩
def F.MBX_CRED_INFL (g : Nat) : Fld := ⟨(R.MBX_CRED g), 8, 8⟩
def F.MBX_CRED_LIMIT (g : Nat) : Fld := ⟨(R.MBX_CRED g), 0, 8⟩
/-- MBX.CREDPOOL (spec/11_host_and_mailboxes.md). -/
def R.MBX_CREDPOOL : Nat := 0x60040840
def F.MBX_CREDPOOL_POOL : Fld := ⟨R.MBX_CREDPOOL, 0, 8⟩
/-- MBX.RSVOWN[w] (spec/11_host_and_mailboxes.md). -/
def R.MBX_RSVOWN (g : Nat) : Nat := 0x60041000 + 0x4 * g
def F.MBX_RSVOWN_O0 (g : Nat) : Fld := ⟨(R.MBX_RSVOWN g), 0, 8⟩
def F.MBX_RSVOWN_O1 (g : Nat) : Fld := ⟨(R.MBX_RSVOWN g), 8, 8⟩
def F.MBX_RSVOWN_O2 (g : Nat) : Fld := ⟨(R.MBX_RSVOWN g), 16, 8⟩
def F.MBX_RSVOWN_O3 (g : Nat) : Fld := ⟨(R.MBX_RSVOWN g), 24, 8⟩

def regTableMBX0 : List RegRow := [
  ⟨0x60040000, [], 0x400800, [⟨16, 12, .rw⟩, ⟨0, 12, .ro⟩]⟩,
  ⟨0x60040004, [], 0x0, [⟨24, 8, .rw⟩, ⟨16, 8, .rw⟩, ⟨15, 1, .w1t⟩, ⟨0, 11, .rw⟩]⟩,
  ⟨0x60040008, [], 0x0, [⟨31, 1, .w1c⟩, ⟨0, 16, .ro⟩]⟩,
  ⟨0x6004000C, [], 0x0, [⟨1, 1, .ro⟩, ⟨0, 1, .ro⟩]⟩,
  ⟨0x60040040, [(5, 0x4)], 0x0, [⟨16, 12, .rw⟩, ⟨0, 12, .rw⟩]⟩,
  ⟨0x60040060, [(5, 0x4)], 0x0, [⟨0, 12, .ro⟩]⟩,
  ⟨0x60040400, [(128, 0x4)], 0x0, [⟨31, 1, .rw⟩, ⟨0, 11, .rw⟩]⟩,
  ⟨0x60040800, [(16, 0x4)], 0x8, [⟨16, 8, .ro⟩, ⟨8, 8, .ro⟩, ⟨0, 8, .rw⟩]⟩,
  ⟨0x60040840, [], 0x0, [⟨0, 8, .ro⟩]⟩,
  ⟨0x60041000, [(512, 0x4)], 0x0, [⟨0, 8, .ro⟩, ⟨8, 8, .ro⟩, ⟨16, 8, .ro⟩, ⟨24, 8, .ro⟩]⟩
]

/-- FIO.ICFG[n] (spec/16_field_io.md). -/
def R.FIO_ICFG (g : Nat) : Nat := 0x70000000 + 0x4 * g
def F.FIO_ICFG_EN (g : Nat) : Fld := ⟨(R.FIO_ICFG g), 31, 1⟩
def F.FIO_ICFG_TYPE (g : Nat) : Fld := ⟨(R.FIO_ICFG g), 30, 1⟩
def F.FIO_ICFG_PULSE (g : Nat) : Fld := ⟨(R.FIO_ICFG g), 29, 1⟩
def F.FIO_ICFG_WBEN (g : Nat) : Fld := ⟨(R.FIO_ICFG g), 28, 1⟩
def F.FIO_ICFG_INVLVL (g : Nat) : Fld := ⟨(R.FIO_ICFG g), 27, 1⟩
def F.FIO_ICFG_POL (g : Nat) : Fld := ⟨(R.FIO_ICFG g), 26, 1⟩
def F.FIO_ICFG_DEB (g : Nat) : Fld := ⟨(R.FIO_ICFG g), 16, 8⟩
def F.FIO_ICFG_CHTH (g : Nat) : Fld := ⟨(R.FIO_ICFG g), 8, 8⟩
/-- FIO.ISTAT[n] (spec/16_field_io.md). -/
def R.FIO_ISTAT (g : Nat) : Nat := 0x70000080 + 0x4 * g
def F.FIO_ISTAT_LVL (g : Nat) : Fld := ⟨(R.FIO_ISTAT g), 31, 1⟩
def F.FIO_ISTAT_RAW (g : Nat) : Fld := ⟨(R.FIO_ISTAT g), 30, 1⟩
def F.FIO_ISTAT_VALID (g : Nat) : Fld := ⟨(R.FIO_ISTAT g), 29, 1⟩
def F.FIO_ISTAT_WB (g : Nat) : Fld := ⟨(R.FIO_ISTAT g), 28, 1⟩
def F.FIO_ISTAT_CHATTER (g : Nat) : Fld := ⟨(R.FIO_ISTAT g), 27, 1⟩
def F.FIO_ISTAT_RISE (g : Nat) : Fld := ⟨(R.FIO_ISTAT g), 26, 1⟩
def F.FIO_ISTAT_FALL (g : Nat) : Fld := ⟨(R.FIO_ISTAT g), 25, 1⟩
def F.FIO_ISTAT_CHAT (g : Nat) : Fld := ⟨(R.FIO_ISTAT g), 0, 16⟩
/-- FIO.LEVELS (spec/16_field_io.md). -/
def R.FIO_LEVELS : Nat := 0x70000100
def F.FIO_LEVELS_L : Fld := ⟨R.FIO_LEVELS, 0, 32⟩
/-- FIO.VALIDS (spec/16_field_io.md). -/
def R.FIO_VALIDS : Nat := 0x70000104
def F.FIO_VALIDS_V : Fld := ⟨R.FIO_VALIDS, 0, 32⟩
/-- FIO.PCFG (spec/16_field_io.md). -/
def R.FIO_PCFG : Nat := 0x70000110
def F.FIO_PCFG_SBINT : Fld := ⟨R.FIO_PCFG, 16, 16⟩
def F.FIO_PCFG_RUNINT : Fld := ⟨R.FIO_PCFG, 0, 16⟩
/-- FIO.SBCFG (spec/16_field_io.md). -/
def R.FIO_SBCFG : Nat := 0x70000114
def F.FIO_SBCFG_ALL : Fld := ⟨R.FIO_SBCFG, 0, 1⟩
/-- FIO.WAKE (spec/16_field_io.md). -/
def R.FIO_WAKE : Nat := 0x70000118
def F.FIO_WAKE_EN : Fld := ⟨R.FIO_WAKE, 0, 32⟩
/-- FIO.OCFG[m] (spec/16_field_io.md). -/
def R.FIO_OCFG (g : Nat) : Nat := 0x70000200 + 0x4 * g
def F.FIO_OCFG_EN (g : Nat) : Fld := ⟨(R.FIO_OCFG g), 31, 1⟩
def F.FIO_OCFG_SOFF (g : Nat) : Fld := ⟨(R.FIO_OCFG g), 30, 1⟩
def F.FIO_OCFG_OLOFF (g : Nat) : Fld := ⟨(R.FIO_OCFG g), 29, 1⟩
def F.FIO_OCFG_LIMT (g : Nat) : Fld := ⟨(R.FIO_OCFG g), 20, 8⟩
/-- FIO.OSET (spec/16_field_io.md). -/
def R.FIO_OSET : Nat := 0x70000240
def F.FIO_OSET_ON : Fld := ⟨R.FIO_OSET, 0, 16⟩
/-- FIO.OSTAT[m] (spec/16_field_io.md). -/
def R.FIO_OSTAT (g : Nat) : Nat := 0x70000280 + 0x4 * g
def F.FIO_OSTAT_ON (g : Nat) : Fld := ⟨(R.FIO_OSTAT g), 31, 1⟩
def F.FIO_OSTAT_LIM (g : Nat) : Fld := ⟨(R.FIO_OSTAT g), 30, 1⟩
def F.FIO_OSTAT_OVL (g : Nat) : Fld := ⟨(R.FIO_OSTAT g), 29, 1⟩
def F.FIO_OSTAT_TSD (g : Nat) : Fld := ⟨(R.FIO_OSTAT g), 28, 1⟩
def F.FIO_OSTAT_OL (g : Nat) : Fld := ⟨(R.FIO_OSTAT g), 27, 1⟩
def F.FIO_OSTAT_LATCH (g : Nat) : Fld := ⟨(R.FIO_OSTAT g), 26, 1⟩
def F.FIO_OSTAT_CUT (g : Nat) : Fld := ⟨(R.FIO_OSTAT g), 25, 1⟩
def F.FIO_OSTAT_ILOAD (g : Nat) : Fld := ⟨(R.FIO_OSTAT g), 0, 12⟩
/-- FIO.OCLR (spec/16_field_io.md). -/
def R.FIO_OCLR : Nat := 0x700002C0
def F.FIO_OCLR_CLR : Fld := ⟨R.FIO_OCLR, 0, 16⟩
/-- FIO.OTOT (spec/16_field_io.md). -/
def R.FIO_OTOT : Nat := 0x700002C4
def F.FIO_OTOT_TOTOVL : Fld := ⟨R.FIO_OTOT, 31, 1⟩
def F.FIO_OTOT_ISUM : Fld := ⟨R.FIO_OTOT, 0, 12⟩

def regTableFIO0 : List RegRow := [
  ⟨0x70000000, [(32, 0x4)], 0xA1000, [⟨31, 1, .rw⟩, ⟨30, 1, .rw⟩, ⟨29, 1, .rw⟩, ⟨28, 1, .rw⟩, ⟨27, 1, .rw⟩, ⟨26, 1, .rw⟩, ⟨16, 8, .rw⟩, ⟨8, 8, .rw⟩]⟩,
  ⟨0x70000080, [(32, 0x4)], 0x0, [⟨31, 1, .ro⟩, ⟨30, 1, .ro⟩, ⟨29, 1, .ro⟩, ⟨28, 1, .w1c⟩, ⟨27, 1, .w1c⟩, ⟨26, 1, .w1c⟩, ⟨25, 1, .w1c⟩, ⟨0, 16, .ro⟩]⟩,
  ⟨0x70000100, [], 0x0, [⟨0, 32, .ro⟩]⟩,
  ⟨0x70000104, [], 0x0, [⟨0, 32, .ro⟩]⟩,
  ⟨0x70000110, [], 0x64000A, [⟨16, 16, .rw⟩, ⟨0, 16, .rw⟩]⟩,
  ⟨0x70000114, [], 0x0, [⟨0, 1, .rw⟩]⟩,
  ⟨0x70000118, [], 0x0, [⟨0, 32, .rw⟩]⟩,
  ⟨0x70000200, [(16, 0x4)], 0x41400000, [⟨31, 1, .rw⟩, ⟨30, 1, .rw⟩, ⟨29, 1, .rw⟩, ⟨20, 8, .rw⟩]⟩,
  ⟨0x70000240, [], 0x0, [⟨0, 16, .rw⟩]⟩,
  ⟨0x70000280, [(16, 0x4)], 0x0, [⟨31, 1, .ro⟩, ⟨30, 1, .ro⟩, ⟨29, 1, .w1c⟩, ⟨28, 1, .w1c⟩, ⟨27, 1, .w1c⟩, ⟨26, 1, .ro⟩, ⟨25, 1, .ro⟩, ⟨0, 12, .ro⟩]⟩,
  ⟨0x700002C0, [], 0x0, [⟨0, 16, .w1t⟩]⟩,
  ⟨0x700002C4, [], 0x0, [⟨31, 1, .w1c⟩, ⟨0, 12, .ro⟩]⟩
]

/-- FSM.STAT (spec/16_field_io.md). -/
def R.FSM_STAT : Nat := 0x70008000
def F.FSM_STAT_LOW : Fld := ⟨R.FSM_STAT, 31, 1⟩
def F.FSM_STAT_INVIN : Fld := ⟨R.FSM_STAT, 30, 1⟩
def F.FSM_STAT_CUT : Fld := ⟨R.FSM_STAT, 29, 1⟩
def F.FSM_STAT_MISS : Fld := ⟨R.FSM_STAT, 28, 1⟩
def F.FSM_STAT_HIGH : Fld := ⟨R.FSM_STAT, 27, 1⟩
def F.FSM_STAT_VFLD : Fld := ⟨R.FSM_STAT, 0, 16⟩
/-- FSM.EVT (spec/16_field_io.md). -/
def R.FSM_EVT : Nat := 0x70008004
def F.FSM_EVT_LOWF : Fld := ⟨R.FSM_EVT, 31, 1⟩
def F.FSM_EVT_CUTF : Fld := ⟨R.FSM_EVT, 30, 1⟩
def F.FSM_EVT_MISSF : Fld := ⟨R.FSM_EVT, 29, 1⟩
def F.FSM_EVT_HIGHF : Fld := ⟨R.FSM_EVT, 28, 1⟩
def F.FSM_EVT_CUTCNT : Fld := ⟨R.FSM_EVT, 0, 8⟩
/-- FSM.VMIN (spec/16_field_io.md). -/
def R.FSM_VMIN : Nat := 0x70008008
def F.FSM_VMIN_VMIN : Fld := ⟨R.FSM_VMIN, 0, 16⟩
/-- FSM.CTRL (spec/16_field_io.md). -/
def R.FSM_CTRL : Nat := 0x7000800C
def F.FSM_CTRL_REEN : Fld := ⟨R.FSM_CTRL, 1, 1⟩
def F.FSM_CTRL_VMRST : Fld := ⟨R.FSM_CTRL, 0, 1⟩

def regTableFSM0 : List RegRow := [
  ⟨0x70008000, [], 0x0, [⟨31, 1, .ro⟩, ⟨30, 1, .ro⟩, ⟨29, 1, .ro⟩, ⟨28, 1, .ro⟩, ⟨27, 1, .ro⟩, ⟨0, 16, .ro⟩]⟩,
  ⟨0x70008004, [], 0x0, [⟨31, 1, .w1c⟩, ⟨30, 1, .w1c⟩, ⟨29, 1, .w1c⟩, ⟨28, 1, .w1c⟩, ⟨0, 8, .ro⟩]⟩,
  ⟨0x70008008, [], 0xFFFF, [⟨0, 16, .ro⟩]⟩,
  ⟨0x7000800C, [], 0x0, [⟨1, 1, .w1t⟩, ⟨0, 1, .w1t⟩]⟩
]

end Sys2Proof.Machine
end

