-- ==== Sys2Proof/Machine/RegsMotion.lean ====
section
/-!
DEFINITION. Register addresses and fields of the wear unit (WU) and profile unit (PU), spec/08 to spec/10.
Written out by a script from the register tables of the spec: an address is the block base, the offset and the strides
the table gives; a field is its place in the 32-bit register; a table row also holds the reset value and the access codes of R4.
-/

namespace Sys2Proof.Machine

/-- WU.CTRL (spec/08_axis_control_and_wear.md). -/
def R.WU_CTRL : Nat := 0x40060000
def F.WU_CTRL_FLUSH : Fld := ⟨R.WU_CTRL, 1, 1⟩
def F.WU_CTRL_EN : Fld := ⟨R.WU_CTRL, 0, 1⟩
/-- WU.RFCFG (spec/08_axis_control_and_wear.md). -/
def R.WU_RFCFG : Nat := 0x40060004
def F.WU_RFCFG_MBASE : Fld := ⟨R.WU_RFCFG, 24, 8⟩
def F.WU_RFCFG_MBW : Fld := ⟨R.WU_RFCFG, 16, 8⟩
def F.WU_RFCFG_SWBW : Fld := ⟨R.WU_RFCFG, 8, 8⟩
def F.WU_RFCFG_RFHYS : Fld := ⟨R.WU_RFCFG, 0, 8⟩
/-- WU.STAT (spec/08_axis_control_and_wear.md). -/
def R.WU_STAT : Nat := 0x40060008
def F.WU_STAT_TSETV : Fld := ⟨R.WU_STAT, 0, 16⟩
/-- WU.LEGCFG[l] (spec/08_axis_control_and_wear.md). -/
def R.WU_LEGCFG (g : Nat) : Nat := 0x40060100 + 0x4 * g
def F.WU_LEGCFG_EN (g : Nat) : Fld := ⟨(R.WU_LEGCFG g), 31, 1⟩
def F.WU_LEGCFG_TSET (g : Nat) : Fld := ⟨(R.WU_LEGCFG g), 27, 4⟩
def F.WU_LEGCFG_ISDI (g : Nat) : Fld := ⟨(R.WU_LEGCFG g), 21, 6⟩
def F.WU_LEGCFG_ISGN (g : Nat) : Fld := ⟨(R.WU_LEGCFG g), 20, 1⟩
def F.WU_LEGCFG_TREFK (g : Nat) : Fld := ⟨(R.WU_LEGCFG g), 18, 2⟩
def F.WU_LEGCFG_TREFI (g : Nat) : Fld := ⟨(R.WU_LEGCFG g), 13, 5⟩
/-- WU.AXCFG[n] (spec/08_axis_control_and_wear.md). -/
def R.WU_AXCFG (g : Nat) : Nat := 0x40060600 + 0x20 * g
def F.WU_AXCFG_DCEN (g : Nat) : Fld := ⟨(R.WU_AXCFG g), 31, 1⟩
def F.WU_AXCFG_DCI (g : Nat) : Fld := ⟨(R.WU_AXCFG g), 26, 5⟩
def F.WU_AXCFG_DCFS (g : Nat) : Fld := ⟨(R.WU_AXCFG g), 16, 10⟩
def F.WU_AXCFG_TFIX (g : Nat) : Fld := ⟨(R.WU_AXCFG g), 8, 8⟩
/-- WU.DRTJ[n] (spec/08_axis_control_and_wear.md). -/
def R.WU_DRTJ (g : Nat) : Nat := 0x40060604 + 0x20 * g
def F.WU_DRTJ_START (g : Nat) : Fld := ⟨(R.WU_DRTJ g), 24, 8⟩
def F.WU_DRTJ_END (g : Nat) : Fld := ⟨(R.WU_DRTJ g), 16, 8⟩
def F.WU_DRTJ_FLOOR (g : Nat) : Fld := ⟨(R.WU_DRTJ g), 8, 8⟩
def F.WU_DRTJ_TRIP (g : Nat) : Fld := ⟨(R.WU_DRTJ g), 0, 8⟩
/-- WU.DRLIFE[n] (spec/08_axis_control_and_wear.md). -/
def R.WU_DRLIFE (g : Nat) : Nat := 0x40060608 + 0x20 * g
def F.WU_DRLIFE_START (g : Nat) : Fld := ⟨(R.WU_DRLIFE g), 20, 12⟩
def F.WU_DRLIFE_END (g : Nat) : Fld := ⟨(R.WU_DRLIFE g), 8, 12⟩
def F.WU_DRLIFE_FLOOR (g : Nat) : Fld := ⟨(R.WU_DRLIFE g), 0, 8⟩
/-- WU.DRDC[n] (spec/08_axis_control_and_wear.md). -/
def R.WU_DRDC (g : Nat) : Nat := 0x4006060C + 0x20 * g
def F.WU_DRDC_UVS (g : Nat) : Fld := ⟨(R.WU_DRDC g), 24, 8⟩
def F.WU_DRDC_UVE (g : Nat) : Fld := ⟨(R.WU_DRDC g), 16, 8⟩
def F.WU_DRDC_OVS (g : Nat) : Fld := ⟨(R.WU_DRDC g), 8, 8⟩
def F.WU_DRDC_OVE (g : Nat) : Fld := ⟨(R.WU_DRDC g), 0, 8⟩
/-- WU.AXDR[n] (spec/08_axis_control_and_wear.md). -/
def R.WU_AXDR (g : Nat) : Nat := 0x40060610 + 0x20 * g
def F.WU_AXDR_DRIVE (g : Nat) : Fld := ⟨(R.WU_AXDR g), 16, 16⟩
def F.WU_AXDR_REGEN (g : Nat) : Fld := ⟨(R.WU_AXDR g), 0, 16⟩
/-- WU.AXST[n] (spec/08_axis_control_and_wear.md). -/
def R.WU_AXST (g : Nat) : Nat := 0x40060614 + 0x20 * g
def F.WU_AXST_TJMAX (g : Nat) : Fld := ⟨(R.WU_AXST g), 16, 16⟩
def F.WU_AXST_HOT (g : Nat) : Fld := ⟨(R.WU_AXST g), 8, 8⟩
def F.WU_AXST_VF (g : Nat) : Fld := ⟨(R.WU_AXST g), 3, 1⟩
def F.WU_AXST_DC (g : Nat) : Fld := ⟨(R.WU_AXST g), 2, 1⟩
def F.WU_AXST_LIFE (g : Nat) : Fld := ⟨(R.WU_AXST g), 1, 1⟩
def F.WU_AXST_TJ (g : Nat) : Fld := ⟨(R.WU_AXST g), 0, 1⟩
/-- WU.DRVF (spec/08_axis_control_and_wear.md). -/
def R.WU_DRVF : Nat := 0x40060800
def F.WU_DRVF_START : Fld := ⟨R.WU_DRVF, 24, 8⟩
def F.WU_DRVF_END : Fld := ⟨R.WU_DRVF, 16, 8⟩
def F.WU_DRVF_FLOOR : Fld := ⟨R.WU_DRVF, 8, 8⟩
/-- WU.VFLD (spec/08_axis_control_and_wear.md). -/
def R.WU_VFLD : Nat := 0x40060804
def F.WU_VFLD_VFLD : Fld := ⟨R.WU_VFLD, 0, 16⟩
/-- WU.TJ[s] (spec/08_axis_control_and_wear.md). -/
def R.WU_TJ (g : Nat) : Nat := 0x40060900 + 0x4 * g
def F.WU_TJ_TJ (g : Nat) : Fld := ⟨(R.WU_TJ g), 16, 16⟩
def F.WU_TJ_DEPTH (g : Nat) : Fld := ⟨(R.WU_TJ g), 8, 8⟩
def F.WU_TJ_VALID (g : Nat) : Fld := ⟨(R.WU_TJ g), 7, 1⟩
def F.WU_TJ_STKOVF (g : Nat) : Fld := ⟨(R.WU_TJ g), 6, 1⟩
/-- WU.LIFE[s] (spec/08_axis_control_and_wear.md). -/
def R.WU_LIFE (g : Nat) : Nat := 0x40060C00 + 0x4 * g
def F.WU_LIFE_LIFE (g : Nat) : Fld := ⟨(R.WU_LIFE g), 0, 32⟩

def regTableWU0 : List RegRow := [
  ⟨0x40060000, [], 0x0, [⟨1, 1, .w1t⟩, ⟨0, 1, .rw⟩]⟩,
  ⟨0x40060004, [], 0xD80E0410, [⟨24, 8, .rw⟩, ⟨16, 8, .rw⟩, ⟨8, 8, .rw⟩, ⟨0, 8, .rw⟩]⟩,
  ⟨0x40060008, [], 0x0, [⟨0, 16, .ro⟩]⟩,
  ⟨0x40060100, [(72, 0x4)], 0x0, [⟨31, 1, .rw⟩, ⟨27, 4, .rw⟩, ⟨21, 6, .rw⟩, ⟨20, 1, .rw⟩, ⟨18, 2, .rw⟩, ⟨13, 5, .rw⟩]⟩,
  ⟨0x40060600, [(16, 0x20)], 0x1900, [⟨31, 1, .rw⟩, ⟨26, 5, .rw⟩, ⟨16, 10, .rw⟩, ⟨8, 8, .rw⟩]⟩,
  ⟨0x40060604, [(16, 0x20)], 0x96AA40AF, [⟨24, 8, .rw⟩, ⟨16, 8, .rw⟩, ⟨8, 8, .rw⟩, ⟨0, 8, .rw⟩]⟩,
  ⟨0x40060608, [(16, 0x20)], 0x3203E880, [⟨20, 12, .rw⟩, ⟨8, 12, .rw⟩, ⟨0, 8, .rw⟩]⟩,
  ⟨0x4006060C, [(16, 0x20)], 0x9B96E6ED, [⟨24, 8, .rw⟩, ⟨16, 8, .rw⟩, ⟨8, 8, .rw⟩, ⟨0, 8, .rw⟩]⟩,
  ⟨0x40060610, [(16, 0x20)], 0x80008000, [⟨16, 16, .ro⟩, ⟨0, 16, .ro⟩]⟩,
  ⟨0x40060614, [(16, 0x20)], 0x0, [⟨16, 16, .ro⟩, ⟨8, 8, .ro⟩, ⟨3, 1, .ro⟩, ⟨2, 1, .ro⟩, ⟨1, 1, .ro⟩, ⟨0, 1, .ro⟩]⟩,
  ⟨0x40060800, [], 0xA0788000, [⟨24, 8, .rw⟩, ⟨16, 8, .rw⟩, ⟨8, 8, .rw⟩]⟩,
  ⟨0x40060804, [], 0x0, [⟨0, 16, .ro⟩]⟩,
  ⟨0x40060900, [(144, 0x4)], 0x0, [⟨16, 16, .ro⟩, ⟨8, 8, .ro⟩, ⟨7, 1, .ro⟩, ⟨6, 1, .w1c⟩]⟩,
  ⟨0x40060C00, [(144, 0x4)], 0x0, [⟨0, 32, .ro⟩]⟩
]

/-- PU.CTX_CTL[c] (spec/09_trajectories_and_gearing.md). -/
def R.PU_CTX_CTL (g : Nat) : Nat := 0x40050000 + 0x80 * g
def F.PU_CTX_CTL_TYPE (g : Nat) : Fld := ⟨(R.PU_CTX_CTL g), 28, 4⟩
def F.PU_CTX_CTL_REL (g : Nat) : Fld := ⟨(R.PU_CTX_CTL g), 27, 1⟩
def F.PU_CTX_CTL_MSRC (g : Nat) : Fld := ⟨(R.PU_CTX_CTL g), 24, 3⟩
def F.PU_CTX_CTL_MIDX (g : Nat) : Fld := ⟨(R.PU_CTX_CTL g), 20, 4⟩
def F.PU_CTX_CTL_COMMIT (g : Nat) : Fld := ⟨(R.PU_CTX_CTL g), 0, 1⟩
/-- PU.CTX_LIM[c] (spec/09_trajectories_and_gearing.md). -/
def R.PU_CTX_LIM (g : Nat) : Nat := 0x40050004 + 0x80 * g
def F.PU_CTX_LIM_LPEN (g : Nat) : Fld := ⟨(R.PU_CTX_LIM g), 31, 1⟩
def F.PU_CTX_LIM_LPPOL (g : Nat) : Fld := ⟨(R.PU_CTX_LIM g), 30, 1⟩
def F.PU_CTX_LIM_LPFI (g : Nat) : Fld := ⟨(R.PU_CTX_LIM g), 25, 5⟩
def F.PU_CTX_LIM_LPACT (g : Nat) : Fld := ⟨(R.PU_CTX_LIM g), 24, 1⟩
def F.PU_CTX_LIM_LNEN (g : Nat) : Fld := ⟨(R.PU_CTX_LIM g), 23, 1⟩
def F.PU_CTX_LIM_LNPOL (g : Nat) : Fld := ⟨(R.PU_CTX_LIM g), 22, 1⟩
def F.PU_CTX_LIM_LNFI (g : Nat) : Fld := ⟨(R.PU_CTX_LIM g), 17, 5⟩
def F.PU_CTX_LIM_LNACT (g : Nat) : Fld := ⟨(R.PU_CTX_LIM g), 16, 1⟩
/-- PU.AXCFG[n] (spec/09_trajectories_and_gearing.md). -/
def R.PU_AXCFG (g : Nat) : Nat := 0x40058000 + 0x40 * g
def F.PU_AXCFG_EN (g : Nat) : Fld := ⟨(R.PU_AXCFG g), 31, 1⟩
def F.PU_AXCFG_PS (g : Nat) : Fld := ⟨(R.PU_AXCFG g), 30, 1⟩
def F.PU_AXCFG_TSRC (g : Nat) : Fld := ⟨(R.PU_AXCFG g), 28, 2⟩
def F.PU_AXCFG_TSEL (g : Nat) : Fld := ⟨(R.PU_AXCFG g), 23, 5⟩
def F.PU_AXCFG_TEVT (g : Nat) : Fld := ⟨(R.PU_AXCFG g), 21, 2⟩
def F.PU_AXCFG_FBSRC (g : Nat) : Fld := ⟨(R.PU_AXCFG g), 18, 3⟩
def F.PU_AXCFG_FBIDX (g : Nat) : Fld := ⟨(R.PU_AXCFG g), 14, 4⟩
/-- PU.AXCTX[n] (spec/09_trajectories_and_gearing.md). -/
def R.PU_AXCTX (g : Nat) : Nat := 0x40058004 + 0x40 * g
def F.PU_AXCTX_AV (g : Nat) : Fld := ⟨(R.PU_AXCTX g), 31, 1⟩
def F.PU_AXCTX_ACTIVE (g : Nat) : Fld := ⟨(R.PU_AXCTX g), 16, 8⟩
def F.PU_AXCTX_NV (g : Nat) : Fld := ⟨(R.PU_AXCTX g), 15, 1⟩
def F.PU_AXCTX_NEXT (g : Nat) : Fld := ⟨(R.PU_AXCTX g), 0, 8⟩
/-- PU.AXCMD[n] (spec/09_trajectories_and_gearing.md). -/
def R.PU_AXCMD (g : Nat) : Nat := 0x40058008 + 0x40 * g
def F.PU_AXCMD_ENGAGE (g : Nat) : Fld := ⟨(R.PU_AXCMD g), 4, 1⟩
def F.PU_AXCMD_SWAPNOW (g : Nat) : Fld := ⟨(R.PU_AXCMD g), 3, 1⟩
def F.PU_AXCMD_QSTOP (g : Nat) : Fld := ⟨(R.PU_AXCMD g), 2, 1⟩
def F.PU_AXCMD_STOP (g : Nat) : Fld := ⟨(R.PU_AXCMD g), 1, 1⟩
def F.PU_AXCMD_START (g : Nat) : Fld := ⟨(R.PU_AXCMD g), 0, 1⟩
/-- PU.AXSTAT[n] (spec/09_trajectories_and_gearing.md). -/
def R.PU_AXSTAT (g : Nat) : Nat := 0x4005800C + 0x40 * g
def F.PU_AXSTAT_STATE (g : Nat) : Fld := ⟨(R.PU_AXSTAT g), 28, 4⟩
def F.PU_AXSTAT_DECELRAISED (g : Nat) : Fld := ⟨(R.PU_AXSTAT g), 27, 1⟩
def F.PU_AXSTAT_SHAPESW (g : Nat) : Fld := ⟨(R.PU_AXSTAT g), 26, 1⟩
def F.PU_AXSTAT_LIMP (g : Nat) : Fld := ⟨(R.PU_AXSTAT g), 25, 1⟩
def F.PU_AXSTAT_LIMN (g : Nat) : Fld := ⟨(R.PU_AXSTAT g), 24, 1⟩
def F.PU_AXSTAT_BLKP (g : Nat) : Fld := ⟨(R.PU_AXSTAT g), 23, 1⟩
def F.PU_AXSTAT_BLKN (g : Nat) : Fld := ⟨(R.PU_AXSTAT g), 22, 1⟩
def F.PU_AXSTAT_MLOST (g : Nat) : Fld := ⟨(R.PU_AXSTAT g), 21, 1⟩
def F.PU_AXSTAT_CMTIGN (g : Nat) : Fld := ⟨(R.PU_AXSTAT g), 20, 1⟩
def F.PU_AXSTAT_LATE (g : Nat) : Fld := ⟨(R.PU_AXSTAT g), 19, 1⟩
def F.PU_AXSTAT_CTXPAR (g : Nat) : Fld := ⟨(R.PU_AXSTAT g), 18, 1⟩
/-- PU.REFPF[n] (spec/09_trajectories_and_gearing.md). -/
def R.PU_REFPF (g : Nat) : Nat := 0x40058010 + 0x40 * g
def F.PU_REFPF_FRAC (g : Nat) : Fld := ⟨(R.PU_REFPF g), 8, 24⟩
def F.PU_REFPF_SEQ (g : Nat) : Fld := ⟨(R.PU_REFPF g), 0, 8⟩
/-- PU.REFPI[n] (spec/09_trajectories_and_gearing.md). -/
def R.PU_REFPI (g : Nat) : Nat := 0x40058014 + 0x40 * g
def F.PU_REFPI_INT (g : Nat) : Fld := ⟨(R.PU_REFPI g), 0, 32⟩
/-- PU.REFV[n] (spec/09_trajectories_and_gearing.md). -/
def R.PU_REFV (g : Nat) : Nat := 0x40058018 + 0x40 * g
def F.PU_REFV_VEL (g : Nat) : Fld := ⟨(R.PU_REFV g), 0, 32⟩
/-- PU.REFA[n] (spec/09_trajectories_and_gearing.md). -/
def R.PU_REFA (g : Nat) : Nat := 0x4005801C + 0x40 * g
def F.PU_REFA_ACC (g : Nat) : Fld := ⟨(R.PU_REFA g), 8, 24⟩
def F.PU_REFA_SEQ (g : Nat) : Fld := ⟨(R.PU_REFA g), 0, 8⟩
/-- PU.MPOSL[n] (spec/09_trajectories_and_gearing.md). -/
def R.PU_MPOSL (g : Nat) : Nat := 0x40058020 + 0x40 * g
def F.PU_MPOSL_POS (g : Nat) : Fld := ⟨(R.PU_MPOSL g), 0, 32⟩
/-- PU.MPOSH[n] (spec/09_trajectories_and_gearing.md). -/
def R.PU_MPOSH (g : Nat) : Nat := 0x40058024 + 0x40 * g
def F.PU_MPOSH_POS (g : Nat) : Fld := ⟨(R.PU_MPOSH g), 0, 32⟩
/-- PU.DECEFF[n] (spec/09_trajectories_and_gearing.md). -/
def R.PU_DECEFF (g : Nat) : Nat := 0x40058028 + 0x40 * g
def F.PU_DECEFF_DEC (g : Nat) : Fld := ⟨(R.PU_DECEFF g), 0, 32⟩
/-- PU.CTRL (spec/09_trajectories_and_gearing.md). -/
def R.PU_CTRL : Nat := 0x4005C000
def F.PU_CTRL_EN : Fld := ⟨R.PU_CTRL, 0, 1⟩
/-- PU.PSSTAT[k] (spec/09_trajectories_and_gearing.md). -/
def R.PU_PSSTAT (g : Nat) : Nat := 0x4005C010 + 0x4 * g
def F.PU_PSSTAT_BUSYMAX (g : Nat) : Fld := ⟨(R.PU_PSSTAT g), 16, 16⟩
def F.PU_PSSTAT_LATE (g : Nat) : Fld := ⟨(R.PU_PSSTAT g), 8, 8⟩
def F.PU_PSSTAT_NAX (g : Nat) : Fld := ⟨(R.PU_PSSTAT g), 0, 8⟩
/-- PU.VMPOSF[m] (spec/09_trajectories_and_gearing.md). -/
def R.PU_VMPOSF (g : Nat) : Nat := 0x4005C100 + 0x20 * g
def F.PU_VMPOSF_V (g : Nat) : Fld := ⟨(R.PU_VMPOSF g), 0, 32⟩
/-- PU.VMPOSI[m] (spec/09_trajectories_and_gearing.md). -/
def R.PU_VMPOSI (g : Nat) : Nat := 0x4005C104 + 0x20 * g
def F.PU_VMPOSI_V (g : Nat) : Fld := ⟨(R.PU_VMPOSI g), 0, 32⟩
/-- PU.VMVEL[m] (spec/09_trajectories_and_gearing.md). -/
def R.PU_VMVEL (g : Nat) : Nat := 0x4005C108 + 0x20 * g
def F.PU_VMVEL_V (g : Nat) : Fld := ⟨(R.PU_VMVEL g), 0, 32⟩
/-- PU.VMTL[m] (spec/09_trajectories_and_gearing.md). -/
def R.PU_VMTL (g : Nat) : Nat := 0x4005C10C + 0x20 * g
def F.PU_VMTL_V (g : Nat) : Fld := ⟨(R.PU_VMTL g), 0, 32⟩
/-- PU.VMTH[m] (spec/09_trajectories_and_gearing.md). -/
def R.PU_VMTH (g : Nat) : Nat := 0x4005C110 + 0x20 * g
def F.PU_VMTH_V (g : Nat) : Fld := ⟨(R.PU_VMTH g), 0, 32⟩
/-- PU.VMCFG[m] (spec/09_trajectories_and_gearing.md). -/
def R.PU_VMCFG (g : Nat) : Nat := 0x4005C114 + 0x20 * g
def F.PU_VMCFG_EN (g : Nat) : Fld := ⟨(R.PU_VMCFG g), 31, 1⟩
def F.PU_VMCFG_VALID (g : Nat) : Fld := ⟨(R.PU_VMCFG g), 30, 1⟩
def F.PU_VMCFG_VMTO (g : Nat) : Fld := ⟨(R.PU_VMCFG g), 0, 16⟩
/-- PU.CTXOWN[c] (spec/09_trajectories_and_gearing.md). -/
def R.PU_CTXOWN (g : Nat) : Nat := 0x4005C400 + 0x4 * g
def F.PU_CTXOWN_V (g : Nat) : Fld := ⟨(R.PU_CTXOWN g), 31, 1⟩
def F.PU_CTXOWN_AXIS (g : Nat) : Fld := ⟨(R.PU_CTXOWN g), 0, 4⟩
/-- PU.STEPCNT[n] (spec/10_stepper_axes.md). -/
def R.PU_STEPCNT (g : Nat) : Nat := 0x4005802C + 0x40 * g
def F.PU_STEPCNT_CNT (g : Nat) : Fld := ⟨(R.PU_STEPCNT g), 0, 32⟩
/-- PU.STEPCFG[n] (spec/10_stepper_axes.md). -/
def R.PU_STEPCFG (g : Nat) : Nat := 0x40058030 + 0x40 * g
def F.PU_STEPCFG_VSS (g : Nat) : Fld := ⟨(R.PU_STEPCFG g), 0, 32⟩
/-- PU.STEPST[n] (spec/10_stepper_axes.md). -/
def R.PU_STEPST (g : Nat) : Nat := 0x40058034 + 0x40 * g
def F.PU_STEPST_UNC (g : Nat) : Fld := ⟨(R.PU_STEPST g), 31, 1⟩
def F.PU_STEPST_STOPV (g : Nat) : Fld := ⟨(R.PU_STEPST g), 30, 1⟩
def F.PU_STEPST_LIMV (g : Nat) : Fld := ⟨(R.PU_STEPST g), 29, 1⟩
def F.PU_STEPST_BSUV (g : Nat) : Fld := ⟨(R.PU_STEPST g), 28, 1⟩

def regTablePU0 : List RegRow := [
  ⟨0x40050000, [(256, 0x80)], 0x0, [⟨28, 4, .rw⟩, ⟨27, 1, .rw⟩, ⟨24, 3, .rw⟩, ⟨20, 4, .rw⟩, ⟨0, 1, .w1t⟩]⟩,
  ⟨0x40050004, [(256, 0x80)], 0x0, [⟨31, 1, .rw⟩, ⟨30, 1, .rw⟩, ⟨25, 5, .rw⟩, ⟨24, 1, .rw⟩, ⟨23, 1, .rw⟩, ⟨22, 1, .rw⟩, ⟨17, 5, .rw⟩, ⟨16, 1, .rw⟩]⟩,
  ⟨0x40058000, [(16, 0x40)], 0x0, [⟨31, 1, .rw⟩, ⟨30, 1, .rw⟩, ⟨28, 2, .rw⟩, ⟨23, 5, .rw⟩, ⟨21, 2, .rw⟩, ⟨18, 3, .rw⟩, ⟨14, 4, .rw⟩]⟩,
  ⟨0x40058004, [(16, 0x40)], 0x0, [⟨31, 1, .ro⟩, ⟨16, 8, .ro⟩, ⟨15, 1, .rw⟩, ⟨0, 8, .rw⟩]⟩,
  ⟨0x40058008, [(16, 0x40)], 0x0, [⟨4, 1, .w1t⟩, ⟨3, 1, .w1t⟩, ⟨2, 1, .w1t⟩, ⟨1, 1, .w1t⟩, ⟨0, 1, .w1t⟩]⟩,
  ⟨0x4005800C, [(16, 0x40)], 0x0, [⟨28, 4, .ro⟩, ⟨27, 1, .w1c⟩, ⟨26, 1, .w1c⟩, ⟨25, 1, .ro⟩, ⟨24, 1, .ro⟩, ⟨23, 1, .ro⟩, ⟨22, 1, .ro⟩, ⟨21, 1, .w1c⟩, ⟨20, 1, .w1c⟩, ⟨19, 1, .w1c⟩, ⟨18, 1, .w1c⟩]⟩,
  ⟨0x40058010, [(16, 0x40)], 0x0, [⟨8, 24, .ro⟩, ⟨0, 8, .ro⟩]⟩,
  ⟨0x40058014, [(16, 0x40)], 0x0, [⟨0, 32, .ro⟩]⟩,
  ⟨0x40058018, [(16, 0x40)], 0x0, [⟨0, 32, .ro⟩]⟩,
  ⟨0x4005801C, [(16, 0x40)], 0x0, [⟨8, 24, .ro⟩, ⟨0, 8, .ro⟩]⟩,
  ⟨0x40058020, [(16, 0x40)], 0x0, [⟨0, 32, .ro⟩]⟩,
  ⟨0x40058024, [(16, 0x40)], 0x0, [⟨0, 32, .ro⟩]⟩,
  ⟨0x40058028, [(16, 0x40)], 0x0, [⟨0, 32, .ro⟩]⟩,
  ⟨0x4005C000, [], 0x0, [⟨0, 1, .rw⟩]⟩,
  ⟨0x4005C010, [(2, 0x4)], 0x0, [⟨16, 16, .ro⟩, ⟨8, 8, .ro⟩, ⟨0, 8, .ro⟩]⟩,
  ⟨0x4005C100, [(4, 0x20)], 0x0, [⟨0, 32, .rw⟩]⟩,
  ⟨0x4005C104, [(4, 0x20)], 0x0, [⟨0, 32, .rw⟩]⟩,
  ⟨0x4005C108, [(4, 0x20)], 0x0, [⟨0, 32, .rw⟩]⟩,
  ⟨0x4005C10C, [(4, 0x20)], 0x0, [⟨0, 32, .rw⟩]⟩,
  ⟨0x4005C110, [(4, 0x20)], 0x0, [⟨0, 32, .rw⟩]⟩
]

def regTablePU1 : List RegRow := [
  ⟨0x4005C114, [(4, 0x20)], 0x0, [⟨31, 1, .rw⟩, ⟨30, 1, .ro⟩, ⟨0, 16, .rw⟩]⟩,
  ⟨0x4005C400, [(256, 0x4)], 0x0, [⟨31, 1, .rw⟩, ⟨0, 4, .rw⟩]⟩,
  ⟨0x4005802C, [(16, 0x40)], 0x0, [⟨0, 32, .rw⟩]⟩,
  ⟨0x40058030, [(16, 0x40)], 0x64000, [⟨0, 32, .rw⟩]⟩,
  ⟨0x40058034, [(16, 0x40)], 0x0, [⟨31, 1, .w1c⟩, ⟨30, 1, .w1c⟩, ⟨29, 1, .w1c⟩, ⟨28, 1, .w1c⟩]⟩
]

end Sys2Proof.Machine
end

