-- ==== Sys2Proof/Machine/RegsNet.lean ====
section
/-!
DEFINITION. Register addresses and fields of the BSN, SW, TU and CAN, spec/13 to spec/15.
Written out by a script from the register tables of the spec: an address is the block base, the offset and the strides
the table gives; a field is its place in the 32-bit register; a table row also holds the reset value and the access codes of R4.
-/

namespace Sys2Proof.Machine

/-- BSN.PRB[p] (spec/13_basin_acquisition.md). -/
def R.BSN_PRB (g : Nat) : Nat := 0x40008000 + 0x4 * g
def F.BSN_PRB_EN (g : Nat) : Fld := ⟨(R.BSN_PRB g), 31, 1⟩
def F.BSN_PRB_TYPE (g : Nat) : Fld := ⟨(R.BSN_PRB g), 27, 4⟩
def F.BSN_PRB_INDEX (g : Nat) : Fld := ⟨(R.BSN_PRB g), 21, 6⟩
def F.BSN_PRB_PORT (g : Nat) : Fld := ⟨(R.BSN_PRB g), 17, 4⟩
/-- BSN.SCFG[s] (spec/13_basin_acquisition.md). -/
def R.BSN_SCFG (g : Nat) : Nat := 0x40008200 + 0x100 * g
def F.BSN_SCFG_NCH (g : Nat) : Fld := ⟨(R.BSN_SCFG g), 27, 5⟩
def F.BSN_SCFG_REDN (g : Nat) : Fld := ⟨(R.BSN_SCFG g), 16, 8⟩
def F.BSN_SCFG_CSRC (g : Nat) : Fld := ⟨(R.BSN_SCFG g), 14, 2⟩
def F.BSN_SCFG_CB (g : Nat) : Fld := ⟨(R.BSN_SCFG g), 9, 5⟩
def F.BSN_SCFG_CEVT (g : Nat) : Fld := ⟨(R.BSN_SCFG g), 7, 2⟩
/-- BSN.SDIV[s] (spec/13_basin_acquisition.md). -/
def R.BSN_SDIV (g : Nat) : Nat := 0x40008204 + 0x100 * g
def F.BSN_SDIV_SDLY (g : Nat) : Fld := ⟨(R.BSN_SDIV g), 20, 12⟩
def F.BSN_SDIV_DIV (g : Nat) : Fld := ⟨(R.BSN_SDIV g), 0, 20⟩
/-- BSN.SBASE[s] (spec/13_basin_acquisition.md). -/
def R.BSN_SBASE (g : Nat) : Nat := 0x40008208 + 0x100 * g
def F.BSN_SBASE_BASE (g : Nat) : Fld := ⟨(R.BSN_SBASE g), 6, 15⟩
/-- BSN.SLEN[s] (spec/13_basin_acquisition.md). -/
def R.BSN_SLEN (g : Nat) : Nat := 0x4000820C + 0x100 * g
def F.BSN_SLEN_LEN (g : Nat) : Fld := ⟨(R.BSN_SLEN g), 0, 20⟩
/-- BSN.SPRE[s] (spec/13_basin_acquisition.md). -/
def R.BSN_SPRE (g : Nat) : Nat := 0x40008210 + 0x100 * g
def F.BSN_SPRE_PRE (g : Nat) : Fld := ⟨(R.BSN_SPRE g), 0, 20⟩
/-- BSN.SPOST[s] (spec/13_basin_acquisition.md). -/
def R.BSN_SPOST (g : Nat) : Nat := 0x40008214 + 0x100 * g
def F.BSN_SPOST_POST (g : Nat) : Fld := ⟨(R.BSN_SPOST g), 0, 20⟩
/-- BSN.SCH[s][w] (spec/13_basin_acquisition.md). -/
def R.BSN_SCH (g h : Nat) : Nat := 0x40008220 + 0x100 * g + 0x4 * h
def F.BSN_SCH_C0 (g h : Nat) : Fld := ⟨(R.BSN_SCH g h), 0, 6⟩
def F.BSN_SCH_C1 (g h : Nat) : Fld := ⟨(R.BSN_SCH g h), 8, 6⟩
def F.BSN_SCH_C2 (g h : Nat) : Fld := ⟨(R.BSN_SCH g h), 16, 6⟩
def F.BSN_SCH_C3 (g h : Nat) : Fld := ⟨(R.BSN_SCH g h), 24, 6⟩
/-- BSN.TCND[s][j] (spec/13_basin_acquisition.md). -/
def R.BSN_TCND (g h : Nat) : Nat := 0x40008240 + 0x100 * g + 0x8 * h
def F.BSN_TCND_EN (g h : Nat) : Fld := ⟨(R.BSN_TCND g h), 31, 1⟩
def F.BSN_TCND_KIND (g h : Nat) : Fld := ⟨(R.BSN_TCND g h), 29, 2⟩
def F.BSN_TCND_EDGE (g h : Nat) : Fld := ⟨(R.BSN_TCND g h), 27, 2⟩
def F.BSN_TCND_SRC (g h : Nat) : Fld := ⟨(R.BSN_TCND g h), 21, 6⟩
def F.BSN_TCND_HYS (g h : Nat) : Fld := ⟨(R.BSN_TCND g h), 0, 21⟩
/-- BSN.TLVL[s][j] (spec/13_basin_acquisition.md). -/
def R.BSN_TLVL (g h : Nat) : Nat := 0x40008244 + 0x100 * g + 0x8 * h
def F.BSN_TLVL_LEVEL (g h : Nat) : Fld := ⟨(R.BSN_TLVL g h), 0, 32⟩
/-- BSN.SCTL[s] (spec/13_basin_acquisition.md). -/
def R.BSN_SCTL (g : Nat) : Nat := 0x40008260 + 0x100 * g
def F.BSN_SCTL_TRIG (g : Nat) : Fld := ⟨(R.BSN_SCTL g), 2, 1⟩
def F.BSN_SCTL_DISARM (g : Nat) : Fld := ⟨(R.BSN_SCTL g), 1, 1⟩
def F.BSN_SCTL_ARM (g : Nat) : Fld := ⟨(R.BSN_SCTL g), 0, 1⟩
/-- BSN.SSTAT[s] (spec/13_basin_acquisition.md). -/
def R.BSN_SSTAT (g : Nat) : Nat := 0x40008264 + 0x100 * g
def F.BSN_SSTAT_STATE (g : Nat) : Fld := ⟨(R.BSN_SSTAT g), 28, 4⟩
def F.BSN_SSTAT_CLAMP (g : Nat) : Fld := ⟨(R.BSN_SSTAT g), 27, 1⟩
def F.BSN_SSTAT_CFGIGN (g : Nat) : Fld := ⟨(R.BSN_SSTAT g), 26, 1⟩
def F.BSN_SSTAT_WRAP (g : Nat) : Fld := ⟨(R.BSN_SSTAT g), 25, 1⟩
def F.BSN_SSTAT_CASC (g : Nat) : Fld := ⟨(R.BSN_SSTAT g), 24, 1⟩
def F.BSN_SSTAT_COINC (g : Nat) : Fld := ⟨(R.BSN_SSTAT g), 20, 4⟩
def F.BSN_SSTAT_CAUSE (g : Nat) : Fld := ⟨(R.BSN_SSTAT g), 18, 2⟩
/-- BSN.STRIG[s] (spec/13_basin_acquisition.md). -/
def R.BSN_STRIG (g : Nat) : Nat := 0x40008268 + 0x100 * g
def F.BSN_STRIG_SLOT (g : Nat) : Fld := ⟨(R.BSN_STRIG g), 0, 20⟩
/-- BSN.STSL[s] (spec/13_basin_acquisition.md). -/
def R.BSN_STSL (g : Nat) : Nat := 0x4000826C + 0x100 * g
def F.BSN_STSL_NS (g : Nat) : Fld := ⟨(R.BSN_STSL g), 0, 32⟩
/-- BSN.STSH[s] (spec/13_basin_acquisition.md). -/
def R.BSN_STSH (g : Nat) : Nat := 0x40008270 + 0x100 * g
def F.BSN_STSH_NS (g : Nat) : Fld := ⟨(R.BSN_STSH g), 0, 32⟩
/-- BSN.SREC[s] (spec/13_basin_acquisition.md). -/
def R.BSN_SREC (g : Nat) : Nat := 0x40008274 + 0x100 * g
def F.BSN_SREC_CNT (g : Nat) : Fld := ⟨(R.BSN_SREC g), 0, 32⟩
/-- BSN.SWR[s] (spec/13_basin_acquisition.md). -/
def R.BSN_SWR (g : Nat) : Nat := 0x40008278 + 0x100 * g
def F.BSN_SWR_CNT (g : Nat) : Fld := ⟨(R.BSN_SWR g), 0, 32⟩
/-- BSN.SEXP[s] (spec/13_basin_acquisition.md). -/
def R.BSN_SEXP (g : Nat) : Nat := 0x4000827C + 0x100 * g
def F.BSN_SEXP_CNT (g : Nat) : Fld := ⟨(R.BSN_SEXP g), 0, 32⟩
/-- BSN.SLEFT[s] (spec/13_basin_acquisition.md). -/
def R.BSN_SLEFT (g : Nat) : Nat := 0x40008280 + 0x100 * g
def F.BSN_SLEFT_CNT (g : Nat) : Fld := ⟨(R.BSN_SLEFT g), 0, 32⟩
/-- BSN.SDISC[s] (spec/13_basin_acquisition.md). -/
def R.BSN_SDISC (g : Nat) : Nat := 0x40008284 + 0x100 * g
def F.BSN_SDISC_CNT (g : Nat) : Fld := ⟨(R.BSN_SDISC g), 0, 32⟩
/-- BSN.SQUE[s] (spec/13_basin_acquisition.md). -/
def R.BSN_SQUE (g : Nat) : Nat := 0x40008288 + 0x100 * g
def F.BSN_SQUE_INVERR (g : Nat) : Fld := ⟨(R.BSN_SQUE g), 31, 1⟩
def F.BSN_SQUE_QUE (g : Nat) : Fld := ⟨(R.BSN_SQUE g), 0, 7⟩
/-- BSN.CCFG (spec/13_basin_acquisition.md). -/
def R.BSN_CCFG : Nat := 0x40008600
def F.BSN_CCFG_EN : Fld := ⟨R.BSN_CCFG, 31, 1⟩
def F.BSN_CCFG_MASTER : Fld := ⟨R.BSN_CCFG, 30, 1⟩
def F.BSN_CCFG_NTSYNC : Fld := ⟨R.BSN_CCFG, 29, 1⟩
def F.BSN_CCFG_INEN : Fld := ⟨R.BSN_CCFG, 28, 1⟩
def F.BSN_CCFG_INLINE : Fld := ⟨R.BSN_CCFG, 23, 5⟩
def F.BSN_CCFG_OUTEN : Fld := ⟨R.BSN_CCFG, 22, 1⟩
def F.BSN_CCFG_OUTLINE : Fld := ⟨R.BSN_CCFG, 17, 5⟩
def F.BSN_CCFG_PING : Fld := ⟨R.BSN_CCFG, 0, 1⟩
/-- BSN.CDLY (spec/13_basin_acquisition.md). -/
def R.BSN_CDLY : Nat := 0x40008604
def F.BSN_CDLY_VALID : Fld := ⟨R.BSN_CDLY, 31, 1⟩
def F.BSN_CDLY_CDLY : Fld := ⟨R.BSN_CDLY, 0, 12⟩
/-- BSN.CSTAT (spec/13_basin_acquisition.md). -/
def R.BSN_CSTAT : Nat := 0x40008608
def F.BSN_CSTAT_LOCK : Fld := ⟨R.BSN_CSTAT, 31, 1⟩
def F.BSN_CSTAT_CLKLOSS : Fld := ⟨R.BSN_CSTAT, 30, 1⟩
def F.BSN_CSTAT_STUCK : Fld := ⟨R.BSN_CSTAT, 29, 1⟩
def F.BSN_CSTAT_PINGERR : Fld := ⟨R.BSN_CSTAT, 28, 1⟩
def F.BSN_CSTAT_PINGBUSY : Fld := ⟨R.BSN_CSTAT, 27, 1⟩
def F.BSN_CSTAT_SPREAD : Fld := ⟨R.BSN_CSTAT, 16, 8⟩
def F.BSN_CSTAT_RXCNT : Fld := ⟨R.BSN_CSTAT, 8, 8⟩
def F.BSN_CSTAT_TXCNT : Fld := ⟨R.BSN_CSTAT, 0, 8⟩

def regTableBSN0 : List RegRow := [
  ⟨0x40008000, [(48, 0x4)], 0x0, [⟨31, 1, .rw⟩, ⟨27, 4, .rw⟩, ⟨21, 6, .rw⟩, ⟨17, 4, .rw⟩]⟩,
  ⟨0x40008200, [(4, 0x100)], 0x0, [⟨27, 5, .rw⟩, ⟨16, 8, .rw⟩, ⟨14, 2, .rw⟩, ⟨9, 5, .rw⟩, ⟨7, 2, .rw⟩]⟩,
  ⟨0x40008204, [(4, 0x100)], 0x0, [⟨20, 12, .rw⟩, ⟨0, 20, .rw⟩]⟩,
  ⟨0x40008208, [(4, 0x100)], 0x0, [⟨6, 15, .rw⟩]⟩,
  ⟨0x4000820C, [(4, 0x100)], 0x0, [⟨0, 20, .rw⟩]⟩,
  ⟨0x40008210, [(4, 0x100)], 0x0, [⟨0, 20, .rw⟩]⟩,
  ⟨0x40008214, [(4, 0x100)], 0x0, [⟨0, 20, .rw⟩]⟩,
  ⟨0x40008220, [(4, 0x100), (8, 0x4)], 0x0, [⟨0, 6, .rw⟩, ⟨8, 6, .rw⟩, ⟨16, 6, .rw⟩, ⟨24, 6, .rw⟩]⟩,
  ⟨0x40008240, [(4, 0x100), (4, 0x8)], 0x0, [⟨31, 1, .rw⟩, ⟨29, 2, .rw⟩, ⟨27, 2, .rw⟩, ⟨21, 6, .rw⟩, ⟨0, 21, .rw⟩]⟩,
  ⟨0x40008244, [(4, 0x100), (4, 0x8)], 0x0, [⟨0, 32, .rw⟩]⟩,
  ⟨0x40008260, [(4, 0x100)], 0x0, [⟨2, 1, .w1t⟩, ⟨1, 1, .w1t⟩, ⟨0, 1, .w1t⟩]⟩,
  ⟨0x40008264, [(4, 0x100)], 0x0, [⟨28, 4, .ro⟩, ⟨27, 1, .w1c⟩, ⟨26, 1, .w1c⟩, ⟨25, 1, .ro⟩, ⟨24, 1, .ro⟩, ⟨20, 4, .ro⟩, ⟨18, 2, .ro⟩]⟩,
  ⟨0x40008268, [(4, 0x100)], 0x0, [⟨0, 20, .ro⟩]⟩,
  ⟨0x4000826C, [(4, 0x100)], 0x0, [⟨0, 32, .ro⟩]⟩,
  ⟨0x40008270, [(4, 0x100)], 0x0, [⟨0, 32, .ro⟩]⟩,
  ⟨0x40008274, [(4, 0x100)], 0x0, [⟨0, 32, .ro⟩]⟩,
  ⟨0x40008278, [(4, 0x100)], 0x0, [⟨0, 32, .ro⟩]⟩,
  ⟨0x4000827C, [(4, 0x100)], 0x0, [⟨0, 32, .ro⟩]⟩,
  ⟨0x40008280, [(4, 0x100)], 0x0, [⟨0, 32, .ro⟩]⟩,
  ⟨0x40008284, [(4, 0x100)], 0x0, [⟨0, 32, .ro⟩]⟩
]

def regTableBSN1 : List RegRow := [
  ⟨0x40008288, [(4, 0x100)], 0x0, [⟨31, 1, .ro⟩, ⟨0, 7, .ro⟩]⟩,
  ⟨0x40008600, [], 0x0, [⟨31, 1, .rw⟩, ⟨30, 1, .rw⟩, ⟨29, 1, .rw⟩, ⟨28, 1, .rw⟩, ⟨23, 5, .rw⟩, ⟨22, 1, .rw⟩, ⟨17, 5, .rw⟩, ⟨0, 1, .w1t⟩]⟩,
  ⟨0x40008604, [], 0x0, [⟨31, 1, .ro⟩, ⟨0, 12, .rw⟩]⟩,
  ⟨0x40008608, [], 0x0, [⟨31, 1, .ro⟩, ⟨30, 1, .w1c⟩, ⟨29, 1, .w1c⟩, ⟨28, 1, .w1c⟩, ⟨27, 1, .ro⟩, ⟨16, 8, .ro⟩, ⟨8, 8, .ro⟩, ⟨0, 8, .ro⟩]⟩
]

/-- SW.PCFG[p] (spec/14_network_time.md). -/
def R.SW_PCFG (g : Nat) : Nat := 0x60000000 + 0x40 * g
def F.SW_PCFG_EN (g : Nat) : Fld := ⟨(R.SW_PCFG g), 31, 1⟩
def F.SW_PCFG_SPD (g : Nat) : Fld := ⟨(R.SW_PCFG g), 29, 2⟩
def F.SW_PCFG_LINK (g : Nat) : Fld := ⟨(R.SW_PCFG g), 28, 1⟩
def F.SW_PCFG_PVID (g : Nat) : Fld := ⟨(R.SW_PCFG g), 0, 12⟩
/-- SW.PDLY[p] (spec/14_network_time.md). -/
def R.SW_PDLY (g : Nat) : Nat := 0x60000004 + 0x40 * g
def F.SW_PDLY_EGLAT (g : Nat) : Fld := ⟨(R.SW_PDLY g), 16, 16⟩
def F.SW_PDLY_INLAT (g : Nat) : Fld := ⟨(R.SW_PDLY g), 0, 16⟩
/-- SW.PASYM[p] (spec/14_network_time.md). -/
def R.SW_PASYM (g : Nat) : Nat := 0x60000008 + 0x40 * g
def F.SW_PASYM_ASYM (g : Nat) : Fld := ⟨(R.SW_PASYM g), 0, 32⟩
/-- SW.PSTAT[p] (spec/14_network_time.md). -/
def R.SW_PSTAT (g : Nat) : Nat := 0x6000000C + 0x40 * g
def F.SW_PSTAT_RXERR (g : Nat) : Fld := ⟨(R.SW_PSTAT g), 24, 8⟩
def F.SW_PSTAT_QDROP (g : Nat) : Fld := ⟨(R.SW_PSTAT g), 16, 8⟩
def F.SW_PSTAT_VDROP (g : Nat) : Fld := ⟨(R.SW_PSTAT g), 8, 8⟩
def F.SW_PSTAT_TCSKIP (g : Nat) : Fld := ⟨(R.SW_PSTAT g), 0, 8⟩
/-- SW.PCPMAP (spec/14_network_time.md). -/
def R.SW_PCPMAP : Nat := 0x60000200
def F.SW_PCPMAP_Q0 : Fld := ⟨R.SW_PCPMAP, 0, 2⟩
def F.SW_PCPMAP_Q1 : Fld := ⟨R.SW_PCPMAP, 2, 2⟩
def F.SW_PCPMAP_Q2 : Fld := ⟨R.SW_PCPMAP, 4, 2⟩
def F.SW_PCPMAP_Q3 : Fld := ⟨R.SW_PCPMAP, 6, 2⟩
def F.SW_PCPMAP_Q4 : Fld := ⟨R.SW_PCPMAP, 8, 2⟩
def F.SW_PCPMAP_Q5 : Fld := ⟨R.SW_PCPMAP, 10, 2⟩
def F.SW_PCPMAP_Q6 : Fld := ⟨R.SW_PCPMAP, 12, 2⟩
def F.SW_PCPMAP_Q7 : Fld := ⟨R.SW_PCPMAP, 14, 2⟩
/-- SW.VLAN[v] (spec/14_network_time.md). -/
def R.SW_VLAN (g : Nat) : Nat := 0x60000240 + 0x4 * g
def F.SW_VLAN_V (g : Nat) : Fld := ⟨(R.SW_VLAN g), 31, 1⟩
def F.SW_VLAN_MEMB (g : Nat) : Fld := ⟨(R.SW_VLAN g), 26, 5⟩
def F.SW_VLAN_UNTAG (g : Nat) : Fld := ⟨(R.SW_VLAN g), 21, 5⟩
def F.SW_VLAN_VID (g : Nat) : Fld := ⟨(R.SW_VLAN g), 0, 12⟩
/-- SW.TSQ0 (spec/14_network_time.md). -/
def R.SW_TSQ0 : Nat := 0x60000300
def F.SW_TSQ0_V : Fld := ⟨R.SW_TSQ0, 31, 1⟩
def F.SW_TSQ0_POP : Fld := ⟨R.SW_TSQ0, 30, 1⟩
def F.SW_TSQ0_PORT : Fld := ⟨R.SW_TSQ0, 26, 2⟩
def F.SW_TSQ0_DIR : Fld := ⟨R.SW_TSQ0, 25, 1⟩
def F.SW_TSQ0_MSGT : Fld := ⟨R.SW_TSQ0, 20, 4⟩
def F.SW_TSQ0_SEQID : Fld := ⟨R.SW_TSQ0, 0, 16⟩
/-- SW.TSQ1 (spec/14_network_time.md). -/
def R.SW_TSQ1 : Nat := 0x60000304
def F.SW_TSQ1_NSL : Fld := ⟨R.SW_TSQ1, 0, 32⟩
/-- SW.TSQ2 (spec/14_network_time.md). -/
def R.SW_TSQ2 : Nat := 0x60000308
def F.SW_TSQ2_NSH : Fld := ⟨R.SW_TSQ2, 16, 16⟩
def F.SW_TSQ2_FRAC : Fld := ⟨R.SW_TSQ2, 0, 16⟩
/-- SW.TSQSTAT (spec/14_network_time.md). -/
def R.SW_TSQSTAT : Nat := 0x6000030C
def F.SW_TSQSTAT_OVF : Fld := ⟨R.SW_TSQSTAT, 31, 1⟩
def F.SW_TSQSTAT_DEPTH : Fld := ⟨R.SW_TSQSTAT, 0, 5⟩
/-- SW.WAKEKEY (spec/14_network_time.md). -/
def R.SW_WAKEKEY : Nat := 0x60000400
def F.SW_WAKEKEY_KEY : Fld := ⟨R.SW_WAKEKEY, 0, 32⟩

def regTableSW0 : List RegRow := [
  ⟨0x60000000, [(5, 0x40)], 0x1, [⟨31, 1, .rw⟩, ⟨29, 2, .rw⟩, ⟨28, 1, .ro⟩, ⟨0, 12, .rw⟩]⟩,
  ⟨0x60000004, [(4, 0x40)], 0x0, [⟨16, 16, .rw⟩, ⟨0, 16, .rw⟩]⟩,
  ⟨0x60000008, [(4, 0x40)], 0x0, [⟨0, 32, .rw⟩]⟩,
  ⟨0x6000000C, [(5, 0x40)], 0x0, [⟨24, 8, .ro⟩, ⟨16, 8, .ro⟩, ⟨8, 8, .ro⟩, ⟨0, 8, .ro⟩]⟩,
  ⟨0x60000200, [], 0xFA50, [⟨0, 2, .rw⟩, ⟨2, 2, .rw⟩, ⟨4, 2, .rw⟩, ⟨6, 2, .rw⟩, ⟨8, 2, .rw⟩, ⟨10, 2, .rw⟩, ⟨12, 2, .rw⟩, ⟨14, 2, .rw⟩]⟩,
  ⟨0x60000240, [(16, 0x4)], 0x0, [⟨31, 1, .rw⟩, ⟨26, 5, .rw⟩, ⟨21, 5, .rw⟩, ⟨0, 12, .rw⟩]⟩,
  ⟨0x60000300, [], 0x0, [⟨31, 1, .ro⟩, ⟨30, 1, .w1t⟩, ⟨26, 2, .ro⟩, ⟨25, 1, .ro⟩, ⟨20, 4, .ro⟩, ⟨0, 16, .ro⟩]⟩,
  ⟨0x60000304, [], 0x0, [⟨0, 32, .ro⟩]⟩,
  ⟨0x60000308, [], 0x0, [⟨16, 16, .ro⟩, ⟨0, 16, .ro⟩]⟩,
  ⟨0x6000030C, [], 0x0, [⟨31, 1, .w1c⟩, ⟨0, 5, .ro⟩]⟩,
  ⟨0x60000400, [], 0x0, [⟨0, 32, .rw⟩]⟩
]

/-- TU.CFG (spec/14_network_time.md). -/
def R.TU_CFG : Nat := 0x60010000
def F.TU_CFG_STEPTH : Fld := ⟨R.TU_CFG, 16, 16⟩
def F.TU_CFG_LOCKTH : Fld := ⟨R.TU_CFG, 8, 8⟩
def F.TU_CFG_SYNCTMO : Fld := ⟨R.TU_CFG, 0, 8⟩
/-- TU.CTRL (spec/14_network_time.md). -/
def R.TU_CTRL : Nat := 0x60010004
def F.TU_CTRL_ALARMEN : Fld := ⟨R.TU_CTRL, 3, 1⟩
def F.TU_CTRL_GRIDEN : Fld := ⟨R.TU_CTRL, 2, 1⟩
def F.TU_CTRL_NEWEP : Fld := ⟨R.TU_CTRL, 1, 1⟩
def F.TU_CTRL_STEP : Fld := ⟨R.TU_CTRL, 0, 1⟩
/-- TU.STAT (spec/14_network_time.md). -/
def R.TU_STAT : Nat := 0x60010008
def F.TU_STAT_SYNC : Fld := ⟨R.TU_STAT, 31, 1⟩
def F.TU_STAT_DISC : Fld := ⟨R.TU_STAT, 30, 1⟩
def F.TU_STAT_STEPPED : Fld := ⟨R.TU_STAT, 29, 1⟩
def F.TU_STAT_STEPREJ : Fld := ⟨R.TU_STAT, 28, 1⟩
def F.TU_STAT_STEPRSN : Fld := ⟨R.TU_STAT, 26, 2⟩
def F.TU_STAT_RATELIM : Fld := ⟨R.TU_STAT, 25, 1⟩
def F.TU_STAT_ALARM : Fld := ⟨R.TU_STAT, 24, 1⟩
def F.TU_STAT_GSKIP : Fld := ⟨R.TU_STAT, 16, 8⟩
def F.TU_STAT_EPOCH : Fld := ⟨R.TU_STAT, 0, 16⟩
/-- TU.CNTL (spec/14_network_time.md). -/
def R.TU_CNTL : Nat := 0x60010010
def F.TU_CNTL_CNT : Fld := ⟨R.TU_CNTL, 0, 32⟩
/-- TU.CNTH (spec/14_network_time.md). -/
def R.TU_CNTH : Nat := 0x60010014
def F.TU_CNTH_CNT : Fld := ⟨R.TU_CNTH, 0, 32⟩
/-- TU.RATEL (spec/14_network_time.md). -/
def R.TU_RATEL : Nat := 0x60010018
def F.TU_RATEL_RATE : Fld := ⟨R.TU_RATEL, 0, 32⟩
/-- TU.RATEH (spec/14_network_time.md). -/
def R.TU_RATEH : Nat := 0x6001001C
def F.TU_RATEH_RATE : Fld := ⟨R.TU_RATEH, 0, 8⟩
/-- TU.RATEREQL (spec/14_network_time.md). -/
def R.TU_RATEREQL : Nat := 0x60010020
def F.TU_RATEREQL_RATE : Fld := ⟨R.TU_RATEREQL, 0, 32⟩
/-- TU.RATEREQH (spec/14_network_time.md). -/
def R.TU_RATEREQH : Nat := 0x60010024
def F.TU_RATEREQH_RATE : Fld := ⟨R.TU_RATEREQH, 0, 8⟩
/-- TU.OFS0 (spec/14_network_time.md). -/
def R.TU_OFS0 : Nat := 0x60010028
def F.TU_OFS0_OFS : Fld := ⟨R.TU_OFS0, 0, 32⟩
/-- TU.OFS1 (spec/14_network_time.md). -/
def R.TU_OFS1 : Nat := 0x6001002C
def F.TU_OFS1_OFS : Fld := ⟨R.TU_OFS1, 0, 32⟩
/-- TU.OFS2 (spec/14_network_time.md). -/
def R.TU_OFS2 : Nat := 0x60010030
def F.TU_OFS2_OFS : Fld := ⟨R.TU_OFS2, 0, 16⟩
/-- TU.STEPL (spec/14_network_time.md). -/
def R.TU_STEPL : Nat := 0x60010038
def F.TU_STEPL_NS : Fld := ⟨R.TU_STEPL, 0, 32⟩
/-- TU.STEPH (spec/14_network_time.md). -/
def R.TU_STEPH : Nat := 0x6001003C
def F.TU_STEPH_NS : Fld := ⟨R.TU_STEPH, 0, 32⟩
/-- TU.TIMEL (spec/14_network_time.md). -/
def R.TU_TIMEL : Nat := 0x60010040
def F.TU_TIMEL_NS : Fld := ⟨R.TU_TIMEL, 0, 32⟩
/-- TU.TIMEH (spec/14_network_time.md). -/
def R.TU_TIMEH : Nat := 0x60010044
def F.TU_TIMEH_NS : Fld := ⟨R.TU_TIMEH, 0, 32⟩
/-- TU.GRIDPER (spec/14_network_time.md). -/
def R.TU_GRIDPER : Nat := 0x60010050
def F.TU_GRIDPER_PER : Fld := ⟨R.TU_GRIDPER, 0, 32⟩
/-- TU.GRIDOFS (spec/14_network_time.md). -/
def R.TU_GRIDOFS : Nat := 0x60010054
def F.TU_GRIDOFS_OFS : Fld := ⟨R.TU_GRIDOFS, 0, 32⟩
/-- TU.ALARML (spec/14_network_time.md). -/
def R.TU_ALARML : Nat := 0x60010058
def F.TU_ALARML_NS : Fld := ⟨R.TU_ALARML, 0, 32⟩
/-- TU.ALARMH (spec/14_network_time.md). -/
def R.TU_ALARMH : Nat := 0x6001005C
def F.TU_ALARMH_NS : Fld := ⟨R.TU_ALARMH, 0, 32⟩

def regTableTU0 : List RegRow := [
  ⟨0x60010000, [], 0x3E86408, [⟨16, 16, .rw⟩, ⟨8, 8, .rw⟩, ⟨0, 8, .rw⟩]⟩,
  ⟨0x60010004, [], 0x0, [⟨3, 1, .rw⟩, ⟨2, 1, .rw⟩, ⟨1, 1, .w1t⟩, ⟨0, 1, .w1t⟩]⟩,
  ⟨0x60010008, [], 0x0, [⟨31, 1, .ro⟩, ⟨30, 1, .ro⟩, ⟨29, 1, .ro⟩, ⟨28, 1, .w1c⟩, ⟨26, 2, .ro⟩, ⟨25, 1, .w1c⟩, ⟨24, 1, .w1c⟩, ⟨16, 8, .ro⟩, ⟨0, 16, .ro⟩]⟩,
  ⟨0x60010010, [], 0x0, [⟨0, 32, .ro⟩]⟩,
  ⟨0x60010014, [], 0x0, [⟨0, 32, .ro⟩]⟩,
  ⟨0x60010018, [], 0x0, [⟨0, 32, .ro⟩]⟩,
  ⟨0x6001001C, [], 0x5, [⟨0, 8, .ro⟩]⟩,
  ⟨0x60010020, [], 0x0, [⟨0, 32, .rw⟩]⟩,
  ⟨0x60010024, [], 0x5, [⟨0, 8, .rw⟩]⟩,
  ⟨0x60010028, [], 0x0, [⟨0, 32, .ro⟩]⟩,
  ⟨0x6001002C, [], 0x0, [⟨0, 32, .ro⟩]⟩,
  ⟨0x60010030, [], 0x0, [⟨0, 16, .ro⟩]⟩,
  ⟨0x60010038, [], 0x0, [⟨0, 32, .rw⟩]⟩,
  ⟨0x6001003C, [], 0x0, [⟨0, 32, .rw⟩]⟩,
  ⟨0x60010040, [], 0x0, [⟨0, 32, .ro⟩]⟩,
  ⟨0x60010044, [], 0x0, [⟨0, 32, .ro⟩]⟩,
  ⟨0x60010050, [], 0xC350, [⟨0, 32, .rw⟩]⟩,
  ⟨0x60010054, [], 0x0, [⟨0, 32, .rw⟩]⟩,
  ⟨0x60010058, [], 0x0, [⟨0, 32, .rw⟩]⟩,
  ⟨0x6001005C, [], 0x0, [⟨0, 32, .rw⟩]⟩
]

/-- CAN.CTRL[c] (spec/15_can_controllers.md). -/
def R.CAN_CTRL (g : Nat) : Nat := 0x60020000 + 0x1000 * g
def F.CAN_CTRL_BORREC (g : Nat) : Fld := ⟨(R.CAN_CTRL g), 1, 1⟩
def F.CAN_CTRL_EN (g : Nat) : Fld := ⟨(R.CAN_CTRL g), 0, 1⟩
/-- CAN.CFG[c] (spec/15_can_controllers.md). -/
def R.CAN_CFG (g : Nat) : Nat := 0x60020004 + 0x1000 * g
def F.CAN_CFG_MODE (g : Nat) : Fld := ⟨(R.CAN_CFG g), 30, 2⟩
def F.CAN_CFG_FDEN (g : Nat) : Fld := ⟨(R.CAN_CFG g), 29, 1⟩
def F.CAN_CFG_PXEN (g : Nat) : Fld := ⟨(R.CAN_CFG g), 28, 1⟩
def F.CAN_CFG_BOAUTO (g : Nat) : Fld := ⟨(R.CAN_CFG g), 27, 1⟩
def F.CAN_CFG_BOFLUSH (g : Nat) : Fld := ⟨(R.CAN_CFG g), 26, 1⟩
def F.CAN_CFG_SPILL (g : Nat) : Fld := ⟨(R.CAN_CFG g), 25, 1⟩
def F.CAN_CFG_RETR (g : Nat) : Fld := ⟨(R.CAN_CFG g), 20, 5⟩
def F.CAN_CFG_DEFACT (g : Nat) : Fld := ⟨(R.CAN_CFG g), 18, 2⟩
def F.CAN_CFG_STBYACK (g : Nat) : Fld := ⟨(R.CAN_CFG g), 17, 1⟩
def F.CAN_CFG_SPLMAX (g : Nat) : Fld := ⟨(R.CAN_CFG g), 10, 7⟩
/-- CAN.NBT[c] (spec/15_can_controllers.md). -/
def R.CAN_NBT (g : Nat) : Nat := 0x60020008 + 0x1000 * g
def F.CAN_NBT_NSJW (g : Nat) : Fld := ⟨(R.CAN_NBT g), 25, 7⟩
def F.CAN_NBT_NTSEG1 (g : Nat) : Fld := ⟨(R.CAN_NBT g), 17, 8⟩
def F.CAN_NBT_NTSEG2 (g : Nat) : Fld := ⟨(R.CAN_NBT g), 10, 7⟩
def F.CAN_NBT_NBRP (g : Nat) : Fld := ⟨(R.CAN_NBT g), 0, 9⟩
/-- CAN.DBT[c] (spec/15_can_controllers.md). -/
def R.CAN_DBT (g : Nat) : Nat := 0x6002000C + 0x1000 * g
def F.CAN_DBT_TDCEN (g : Nat) : Fld := ⟨(R.CAN_DBT g), 31, 1⟩
def F.CAN_DBT_TDCO (g : Nat) : Fld := ⟨(R.CAN_DBT g), 24, 7⟩
def F.CAN_DBT_DSJW (g : Nat) : Fld := ⟨(R.CAN_DBT g), 20, 4⟩
def F.CAN_DBT_DTSEG1 (g : Nat) : Fld := ⟨(R.CAN_DBT g), 15, 5⟩
def F.CAN_DBT_DTSEG2 (g : Nat) : Fld := ⟨(R.CAN_DBT g), 11, 4⟩
def F.CAN_DBT_DBRP (g : Nat) : Fld := ⟨(R.CAN_DBT g), 0, 5⟩
/-- CAN.ERR[c] (spec/15_can_controllers.md). -/
def R.CAN_ERR (g : Nat) : Nat := 0x60020010 + 0x1000 * g
def F.CAN_ERR_STATE (g : Nat) : Fld := ⟨(R.CAN_ERR g), 30, 2⟩
def F.CAN_ERR_TEC (g : Nat) : Fld := ⟨(R.CAN_ERR g), 16, 9⟩
def F.CAN_ERR_REC (g : Nat) : Fld := ⟨(R.CAN_ERR g), 8, 8⟩
def F.CAN_ERR_BORCNT (g : Nat) : Fld := ⟨(R.CAN_ERR g), 0, 8⟩
/-- CAN.STAT[c] (spec/15_can_controllers.md). -/
def R.CAN_STAT (g : Nat) : Nat := 0x60020014 + 0x1000 * g
def F.CAN_STAT_BOFF (g : Nat) : Fld := ⟨(R.CAN_STAT g), 31, 1⟩
def F.CAN_STAT_EPASS (g : Nat) : Fld := ⟨(R.CAN_STAT g), 30, 1⟩
def F.CAN_STAT_PXE (g : Nat) : Fld := ⟨(R.CAN_STAT g), 29, 1⟩
def F.CAN_STAT_STUCKD (g : Nat) : Fld := ⟨(R.CAN_STAT g), 28, 1⟩
def F.CAN_STAT_RXDROP (g : Nat) : Fld := ⟨(R.CAN_STAT g), 27, 1⟩
def F.CAN_STAT_NOACK (g : Nat) : Fld := ⟨(R.CAN_STAT g), 26, 1⟩
def F.CAN_STAT_WAKE (g : Nat) : Fld := ⟨(R.CAN_STAT g), 25, 1⟩
def F.CAN_STAT_CFGIGN (g : Nat) : Fld := ⟨(R.CAN_STAT g), 24, 1⟩
def F.CAN_STAT_LEC (g : Nat) : Fld := ⟨(R.CAN_STAT g), 8, 3⟩
/-- CAN.FLTM[c][f] (spec/15_can_controllers.md). -/
def R.CAN_FLTM (g h : Nat) : Nat := 0x60020100 + 0x1000 * g + 0x8 * h
def F.CAN_FLTM_ACT (g h : Nat) : Fld := ⟨(R.CAN_FLTM g h), 30, 2⟩
def F.CAN_FLTM_IDE (g h : Nat) : Fld := ⟨(R.CAN_FLTM g h), 29, 1⟩
def F.CAN_FLTM_ID (g h : Nat) : Fld := ⟨(R.CAN_FLTM g h), 0, 29⟩
/-- CAN.FLTK[c][f] (spec/15_can_controllers.md). -/
def R.CAN_FLTK (g h : Nat) : Nat := 0x60020104 + 0x1000 * g + 0x8 * h
def F.CAN_FLTK_WAKE (g h : Nat) : Fld := ⟨(R.CAN_FLTK g h), 31, 1⟩
def F.CAN_FLTK_IDE (g h : Nat) : Fld := ⟨(R.CAN_FLTK g h), 29, 1⟩
def F.CAN_FLTK_ID (g h : Nat) : Fld := ⟨(R.CAN_FLTK g h), 0, 29⟩
/-- CAN.QSTAT[c][q] (spec/15_can_controllers.md). -/
def R.CAN_QSTAT (g h : Nat) : Nat := 0x60020200 + 0x1000 * g + 0x4 * h
def F.CAN_QSTAT_LOCK (g h : Nat) : Fld := ⟨(R.CAN_QSTAT g h), 31, 1⟩
def F.CAN_QSTAT_SHFULL (g h : Nat) : Fld := ⟨(R.CAN_QSTAT g h), 30, 1⟩
def F.CAN_QSTAT_OVF (g h : Nat) : Fld := ⟨(R.CAN_QSTAT g h), 22, 8⟩
def F.CAN_QSTAT_DEPTH (g h : Nat) : Fld := ⟨(R.CAN_QSTAT g h), 16, 6⟩
def F.CAN_QSTAT_NEXTSEQ (g h : Nat) : Fld := ⟨(R.CAN_QSTAT g h), 0, 16⟩
/-- CAN.QCTL[c] (spec/15_can_controllers.md). -/
def R.CAN_QCTL (g : Nat) : Nat := 0x600203F0 + 0x1000 * g
def F.CAN_QCTL_SPLDONE (g : Nat) : Fld := ⟨(R.CAN_QCTL g), 2, 1⟩
def F.CAN_QCTL_REL1 (g : Nat) : Fld := ⟨(R.CAN_QCTL g), 1, 1⟩
def F.CAN_QCTL_REL0 (g : Nat) : Fld := ⟨(R.CAN_QCTL g), 0, 1⟩
/-- CAN.TXREQ[c] (spec/15_can_controllers.md). -/
def R.CAN_TXREQ (g : Nat) : Nat := 0x60020A00 + 0x1000 * g
def F.CAN_TXREQ_B (g : Nat) : Fld := ⟨(R.CAN_TXREQ g), 0, 16⟩
/-- CAN.TXCAN[c] (spec/15_can_controllers.md). -/
def R.CAN_TXCAN (g : Nat) : Nat := 0x60020A04 + 0x1000 * g
def F.CAN_TXCAN_B (g : Nat) : Fld := ⟨(R.CAN_TXCAN g), 0, 16⟩
/-- CAN.TXPEND[c] (spec/15_can_controllers.md). -/
def R.CAN_TXPEND (g : Nat) : Nat := 0x60020A08 + 0x1000 * g
def F.CAN_TXPEND_B (g : Nat) : Fld := ⟨(R.CAN_TXPEND g), 0, 16⟩
/-- CAN.TXST[c][b] (spec/15_can_controllers.md). -/
def R.CAN_TXST (g h : Nat) : Nat := 0x60020A40 + 0x1000 * g + 0x4 * h
def F.CAN_TXST_RESULT (g h : Nat) : Fld := ⟨(R.CAN_TXST g h), 28, 4⟩
def F.CAN_TXST_CANCELLATE (g h : Nat) : Fld := ⟨(R.CAN_TXST g h), 27, 1⟩
def F.CAN_TXST_ATT (g h : Nat) : Fld := ⟨(R.CAN_TXST g h), 0, 8⟩
/-- CAN.RXACC[c] (spec/15_can_controllers.md). -/
def R.CAN_RXACC (g : Nat) : Nat := 0x60020B00 + 0x1000 * g
def F.CAN_RXACC_CNT (g : Nat) : Fld := ⟨(R.CAN_RXACC g), 0, 32⟩
/-- CAN.RXDLV[c] (spec/15_can_controllers.md). -/
def R.CAN_RXDLV (g : Nat) : Nat := 0x60020B04 + 0x1000 * g
def F.CAN_RXDLV_CNT (g : Nat) : Fld := ⟨(R.CAN_RXDLV g), 0, 32⟩
/-- CAN.RXSPL[c] (spec/15_can_controllers.md). -/
def R.CAN_RXSPL (g : Nat) : Nat := 0x60020B08 + 0x1000 * g
def F.CAN_RXSPL_CNT (g : Nat) : Fld := ⟨(R.CAN_RXSPL g), 0, 32⟩
/-- CAN.RXDRP[c] (spec/15_can_controllers.md). -/
def R.CAN_RXDRP (g : Nat) : Nat := 0x60020B0C + 0x1000 * g
def F.CAN_RXDRP_CNT (g : Nat) : Fld := ⟨(R.CAN_RXDRP g), 0, 32⟩
/-- CAN.TXREQN[c] (spec/15_can_controllers.md). -/
def R.CAN_TXREQN (g : Nat) : Nat := 0x60020B10 + 0x1000 * g
def F.CAN_TXREQN_CNT (g : Nat) : Fld := ⟨(R.CAN_TXREQN g), 0, 32⟩
/-- CAN.TXDONE[c] (spec/15_can_controllers.md). -/
def R.CAN_TXDONE (g : Nat) : Nat := 0x60020B14 + 0x1000 * g
def F.CAN_TXDONE_CNT (g : Nat) : Fld := ⟨(R.CAN_TXDONE g), 0, 32⟩
/-- CAN.TXCANCEL[c] (spec/15_can_controllers.md). -/
def R.CAN_TXCANCEL (g : Nat) : Nat := 0x60020B18 + 0x1000 * g
def F.CAN_TXCANCEL_CNT (g : Nat) : Fld := ⟨(R.CAN_TXCANCEL g), 0, 32⟩
/-- CAN.TXLIMIT[c] (spec/15_can_controllers.md). -/
def R.CAN_TXLIMIT (g : Nat) : Nat := 0x60020B1C + 0x1000 * g
def F.CAN_TXLIMIT_CNT (g : Nat) : Fld := ⟨(R.CAN_TXLIMIT g), 0, 32⟩
/-- CAN.TXFLUSH[c] (spec/15_can_controllers.md). -/
def R.CAN_TXFLUSH (g : Nat) : Nat := 0x60020B20 + 0x1000 * g
def F.CAN_TXFLUSH_CNT (g : Nat) : Fld := ⟨(R.CAN_TXFLUSH g), 0, 32⟩
/-- CAN.INV[c] (spec/15_can_controllers.md). -/
def R.CAN_INV (g : Nat) : Nat := 0x60020B40 + 0x1000 * g
def F.CAN_INV_INVERR (g : Nat) : Fld := ⟨(R.CAN_INV g), 31, 1⟩
def F.CAN_INV_RX (g : Nat) : Fld := ⟨(R.CAN_INV g), 1, 1⟩
def F.CAN_INV_TX (g : Nat) : Fld := ⟨(R.CAN_INV g), 0, 1⟩

def regTableCAN0 : List RegRow := [
  ⟨0x60020000, [(8, 0x1000)], 0x0, [⟨1, 1, .w1t⟩, ⟨0, 1, .rw⟩]⟩,
  ⟨0x60020004, [(8, 0x1000)], 0x19F04000, [⟨30, 2, .rw⟩, ⟨29, 1, .rw⟩, ⟨28, 1, .rw⟩, ⟨27, 1, .rw⟩, ⟨26, 1, .rw⟩, ⟨25, 1, .rw⟩, ⟨20, 5, .rw⟩, ⟨18, 2, .rw⟩, ⟨17, 1, .rw⟩, ⟨10, 7, .rw⟩]⟩,
  ⟨0x60020008, [(8, 0x1000)], 0x12882401, [⟨25, 7, .rw⟩, ⟨17, 8, .rw⟩, ⟨10, 7, .rw⟩, ⟨0, 9, .rw⟩]⟩,
  ⟨0x6002000C, [(8, 0x1000)], 0x9E9E4800, [⟨31, 1, .rw⟩, ⟨24, 7, .rw⟩, ⟨20, 4, .rw⟩, ⟨15, 5, .rw⟩, ⟨11, 4, .rw⟩, ⟨0, 5, .rw⟩]⟩,
  ⟨0x60020010, [(8, 0x1000)], 0x0, [⟨30, 2, .ro⟩, ⟨16, 9, .ro⟩, ⟨8, 8, .ro⟩, ⟨0, 8, .ro⟩]⟩,
  ⟨0x60020014, [(8, 0x1000)], 0x0, [⟨31, 1, .w1c⟩, ⟨30, 1, .w1c⟩, ⟨29, 1, .w1c⟩, ⟨28, 1, .w1c⟩, ⟨27, 1, .w1c⟩, ⟨26, 1, .w1c⟩, ⟨25, 1, .w1c⟩, ⟨24, 1, .w1c⟩, ⟨8, 3, .ro⟩]⟩,
  ⟨0x60020100, [(8, 0x1000), (32, 0x8)], 0x0, [⟨30, 2, .rw⟩, ⟨29, 1, .rw⟩, ⟨0, 29, .rw⟩]⟩,
  ⟨0x60020104, [(8, 0x1000), (32, 0x8)], 0x0, [⟨31, 1, .rw⟩, ⟨29, 1, .rw⟩, ⟨0, 29, .rw⟩]⟩,
  ⟨0x60020200, [(8, 0x1000), (2, 0x4)], 0x0, [⟨31, 1, .ro⟩, ⟨30, 1, .ro⟩, ⟨22, 8, .ro⟩, ⟨16, 6, .ro⟩, ⟨0, 16, .ro⟩]⟩,
  ⟨0x600203F0, [(8, 0x1000)], 0x0, [⟨2, 1, .w1t⟩, ⟨1, 1, .w1t⟩, ⟨0, 1, .w1t⟩]⟩,
  ⟨0x60020A00, [(8, 0x1000)], 0x0, [⟨0, 16, .w1t⟩]⟩,
  ⟨0x60020A04, [(8, 0x1000)], 0x0, [⟨0, 16, .w1t⟩]⟩,
  ⟨0x60020A08, [(8, 0x1000)], 0x0, [⟨0, 16, .ro⟩]⟩,
  ⟨0x60020A40, [(8, 0x1000), (16, 0x4)], 0x0, [⟨28, 4, .ro⟩, ⟨27, 1, .ro⟩, ⟨0, 8, .ro⟩]⟩,
  ⟨0x60020B00, [(8, 0x1000)], 0x0, [⟨0, 32, .ro⟩]⟩,
  ⟨0x60020B04, [(8, 0x1000)], 0x0, [⟨0, 32, .ro⟩]⟩,
  ⟨0x60020B08, [(8, 0x1000)], 0x0, [⟨0, 32, .ro⟩]⟩,
  ⟨0x60020B0C, [(8, 0x1000)], 0x0, [⟨0, 32, .ro⟩]⟩,
  ⟨0x60020B10, [(8, 0x1000)], 0x0, [⟨0, 32, .ro⟩]⟩,
  ⟨0x60020B14, [(8, 0x1000)], 0x0, [⟨0, 32, .ro⟩]⟩
]

def regTableCAN1 : List RegRow := [
  ⟨0x60020B18, [(8, 0x1000)], 0x0, [⟨0, 32, .ro⟩]⟩,
  ⟨0x60020B1C, [(8, 0x1000)], 0x0, [⟨0, 32, .ro⟩]⟩,
  ⟨0x60020B20, [(8, 0x1000)], 0x0, [⟨0, 32, .ro⟩]⟩,
  ⟨0x60020B40, [(8, 0x1000)], 0x0, [⟨31, 1, .ro⟩, ⟨1, 1, .ro⟩, ⟨0, 1, .ro⟩]⟩
]

end Sys2Proof.Machine
end

