-- ==== Sys2Proof/Machine/RegsProtect.lean ====
section
/-!
DEFINITION. Register addresses and fields of the Sluice (SLU), Spillway (SPW), direct-leg drivers (DLD), gate links (GL), spec/05 and spec/06.
Written out by a script from the register tables of the spec: an address is the block base, the offset and the strides
the table gives; a field is its place in the 32-bit register; a table row also holds the reset value and the access codes of R4.
-/

namespace Sys2Proof.Machine

/-- SLU.LEGCFG[l] (spec/05_sluice_and_spillway.md). -/
def R.SLU_LEGCFG (g : Nat) : Nat := 0x40010000 + 0x10 * g
def F.SLU_LEGCFG_MAXW (g : Nat) : Fld := ⟨(R.SLU_LEGCFG g), 0, 16⟩
/-- SLU.LEGSTAT[l] (spec/05_sluice_and_spillway.md). -/
def R.SLU_LEGSTAT (g : Nat) : Nat := 0x40010004 + 0x10 * g
def F.SLU_LEGSTAT_ILTO (g : Nat) : Fld := ⟨(R.SLU_LEGSTAT g), 24, 8⟩
def F.SLU_LEGSTAT_ECHOMM (g : Nat) : Fld := ⟨(R.SLU_LEGSTAT g), 16, 8⟩
def F.SLU_LEGSTAT_LASTW (g : Nat) : Fld := ⟨(R.SLU_LEGSTAT g), 0, 16⟩
/-- SLU.ECHOCFG (spec/05_sluice_and_spillway.md). -/
def R.SLU_ECHOCFG : Nat := 0x40010800
def F.SLU_ECHOCFG_TOL : Fld := ⟨R.SLU_ECHOCFG, 0, 16⟩

def regTableSLU0 : List RegRow := [
  ⟨0x40010000, [(72, 0x10)], 0x2800, [⟨0, 16, .rw⟩]⟩,
  ⟨0x40010004, [(72, 0x10)], 0x0, [⟨24, 8, .ro⟩, ⟨16, 8, .ro⟩, ⟨0, 16, .ro⟩]⟩,
  ⟨0x40010800, [], 0x1400, [⟨0, 16, .rw⟩]⟩
]

/-- SPW.LEGAX[l] (spec/05_sluice_and_spillway.md). -/
def R.SPW_LEGAX (g : Nat) : Nat := 0x40018000 + 0x4 * g
def F.SPW_LEGAX_BOUND (g : Nat) : Fld := ⟨(R.SPW_LEGAX g), 31, 1⟩
def F.SPW_LEGAX_AXIS (g : Nat) : Fld := ⟨(R.SPW_LEGAX g), 0, 4⟩
/-- SPW.AXCFG[n] (spec/05_sluice_and_spillway.md). -/
def R.SPW_AXCFG (g : Nat) : Nat := 0x40018400 + 0x40 * g
def F.SPW_AXCFG_ASEN (g : Nat) : Fld := ⟨(R.SPW_AXCFG g), 31, 1⟩
def F.SPW_AXCFG_PREF (g : Nat) : Fld := ⟨(R.SPW_AXCFG g), 30, 1⟩
def F.SPW_AXCFG_RELN (g : Nat) : Fld := ⟨(R.SPW_AXCFG g), 26, 4⟩
def F.SPW_AXCFG_T1 (g : Nat) : Fld := ⟨(R.SPW_AXCFG g), 16, 10⟩
def F.SPW_AXCFG_ASTH (g : Nat) : Fld := ⟨(R.SPW_AXCFG g), 0, 16⟩
/-- SPW.SPD[n] (spec/05_sluice_and_spillway.md). -/
def R.SPW_SPD (g : Nat) : Nat := 0x40018404 + 0x40 * g
def F.SPW_SPD_FREQ (g : Nat) : Fld := ⟨(R.SPW_SPD g), 0, 16⟩
/-- SPW.GEN[n] (spec/05_sluice_and_spillway.md). -/
def R.SPW_GEN (g : Nat) : Nat := 0x40018408 + 0x40 * g
def F.SPW_GEN_EN (g : Nat) : Fld := ⟨(R.SPW_GEN g), 0, 1⟩
/-- SPW.GSTAT[n] (spec/05_sluice_and_spillway.md). -/
def R.SPW_GSTAT (g : Nat) : Nat := 0x4001840C + 0x40 * g
def F.SPW_GSTAT_STATE (g : Nat) : Fld := ⟨(R.SPW_GSTAT g), 28, 4⟩
def F.SPW_GSTAT_REJRSN (g : Nat) : Fld := ⟨(R.SPW_GSTAT g), 24, 4⟩
def F.SPW_GSTAT_CLRREJ (g : Nat) : Fld := ⟨(R.SPW_GSTAT g), 3, 1⟩
def F.SPW_GSTAT_SAFE (g : Nat) : Fld := ⟨(R.SPW_GSTAT g), 2, 1⟩
def F.SPW_GSTAT_ENEFF (g : Nat) : Fld := ⟨(R.SPW_GSTAT g), 1, 1⟩
def F.SPW_GSTAT_LATCH (g : Nat) : Fld := ⟨(R.SPW_GSTAT g), 0, 1⟩
/-- SPW.CAUSE[n] (spec/05_sluice_and_spillway.md). -/
def R.SPW_CAUSE (g : Nat) : Nat := 0x40018410 + 0x40 * g
def F.SPW_CAUSE_BSUV (g : Nat) : Fld := ⟨(R.SPW_CAUSE g), 10, 1⟩
def F.SPW_CAUSE_ENOFF (g : Nat) : Fld := ⟨(R.SPW_CAUSE g), 9, 1⟩
def F.SPW_CAUSE_WEIR (g : Nat) : Fld := ⟨(R.SPW_CAUSE g), 8, 1⟩
def F.SPW_CAUSE_STO (g : Nat) : Fld := ⟨(R.SPW_CAUSE g), 7, 1⟩
def F.SPW_CAUSE_LINK (g : Nat) : Fld := ⟨(R.SPW_CAUSE g), 6, 1⟩
def F.SPW_CAUSE_ECHO (g : Nat) : Fld := ⟨(R.SPW_CAUSE g), 5, 1⟩
def F.SPW_CAUSE_ILTO (g : Nat) : Fld := ⟨(R.SPW_CAUSE g), 4, 1⟩
def F.SPW_CAUSE_DRVUV (g : Nat) : Fld := ⟨(R.SPW_CAUSE g), 3, 1⟩
def F.SPW_CAUSE_DRVDES (g : Nat) : Fld := ⟨(R.SPW_CAUSE g), 2, 1⟩
def F.SPW_CAUSE_OC (g : Nat) : Fld := ⟨(R.SPW_CAUSE g), 1, 1⟩
def F.SPW_CAUSE_DESAT (g : Nat) : Fld := ⟨(R.SPW_CAUSE g), 0, 1⟩
/-- SPW.FLTSW[n] (spec/05_sluice_and_spillway.md). -/
def R.SPW_FLTSW (g : Nat) : Nat := 0x40018414 + 0x40 * g
def F.SPW_FLTSW_UP (g : Nat) : Fld := ⟨(R.SPW_FLTSW g), 16, 16⟩
def F.SPW_FLTSW_LO (g : Nat) : Fld := ⟨(R.SPW_FLTSW g), 0, 16⟩
/-- SPW.STOCFG (spec/05_sluice_and_spillway.md). -/
def R.SPW_STOCFG : Nat := 0x40018800
def F.SPW_STOCFG_FWONLY : Fld := ⟨R.SPW_STOCFG, 31, 1⟩
def F.SPW_STOCFG_DISC : Fld := ⟨R.SPW_STOCFG, 16, 10⟩
def F.SPW_STOCFG_STOFLT : Fld := ⟨R.SPW_STOCFG, 0, 10⟩
/-- SPW.STOSTAT (spec/05_sluice_and_spillway.md). -/
def R.SPW_STOSTAT : Nat := 0x40018804
def F.SPW_STOSTAT_DISC : Fld := ⟨R.SPW_STOSTAT, 2, 1⟩
def F.SPW_STOSTAT_STOB : Fld := ⟨R.SPW_STOSTAT, 1, 1⟩
def F.SPW_STOSTAT_STOA : Fld := ⟨R.SPW_STOSTAT, 0, 1⟩

def regTableSPW0 : List RegRow := [
  ⟨0x40018000, [(72, 0x4)], 0x0, [⟨31, 1, .rw⟩, ⟨0, 4, .rw⟩]⟩,
  ⟨0x40018400, [(16, 0x40)], 0xCC80640, [⟨31, 1, .rw⟩, ⟨30, 1, .rw⟩, ⟨26, 4, .rw⟩, ⟨16, 10, .rw⟩, ⟨0, 16, .rw⟩]⟩,
  ⟨0x40018404, [(16, 0x40)], 0x0, [⟨0, 16, .rw⟩]⟩,
  ⟨0x40018408, [(16, 0x40)], 0x0, [⟨0, 1, .rw⟩]⟩,
  ⟨0x4001840C, [(16, 0x40)], 0x0, [⟨28, 4, .ro⟩, ⟨24, 4, .ro⟩, ⟨3, 1, .w1c⟩, ⟨2, 1, .ro⟩, ⟨1, 1, .ro⟩, ⟨0, 1, .ro⟩]⟩,
  ⟨0x40018410, [(16, 0x40)], 0x0, [⟨10, 1, .ro⟩, ⟨9, 1, .ro⟩, ⟨8, 1, .ro⟩, ⟨7, 1, .ro⟩, ⟨6, 1, .ro⟩, ⟨5, 1, .ro⟩, ⟨4, 1, .ro⟩, ⟨3, 1, .ro⟩, ⟨2, 1, .ro⟩, ⟨1, 1, .ro⟩, ⟨0, 1, .ro⟩]⟩,
  ⟨0x40018414, [(16, 0x40)], 0x0, [⟨16, 16, .ro⟩, ⟨0, 16, .ro⟩]⟩,
  ⟨0x40018800, [], 0x640001, [⟨31, 1, .rw⟩, ⟨16, 10, .rw⟩, ⟨0, 10, .rw⟩]⟩,
  ⟨0x40018804, [], 0x0, [⟨2, 1, .ro⟩, ⟨1, 1, .ro⟩, ⟨0, 1, .ro⟩]⟩
]

/-- DLD.LEGCFG[l] (spec/05_sluice_and_spillway.md). -/
def R.DLD_LEGCFG (g : Nat) : Nat := 0x70004000 + 0x10 * g
def F.DLD_LEGCFG_BLANK (g : Nat) : Fld := ⟨(R.DLD_LEGCFG g), 24, 8⟩
def F.DLD_LEGCFG_DSTH (g : Nat) : Fld := ⟨(R.DLD_LEGCFG g), 20, 4⟩
def F.DLD_LEGCFG_VGOFF (g : Nat) : Fld := ⟨(R.DLD_LEGCFG g), 16, 4⟩
def F.DLD_LEGCFG_DESFLT (g : Nat) : Fld := ⟨(R.DLD_LEGCFG g), 12, 4⟩
def F.DLD_LEGCFG_OCTH (g : Nat) : Fld := ⟨(R.DLD_LEGCFG g), 8, 4⟩
def F.DLD_LEGCFG_BSUV (g : Nat) : Fld := ⟨(R.DLD_LEGCFG g), 4, 4⟩
/-- DLD.LEGSTAT[l] (spec/05_sluice_and_spillway.md). -/
def R.DLD_LEGSTAT (g : Nat) : Nat := 0x70004004 + 0x10 * g
def F.DLD_LEGSTAT_HGOFF (g : Nat) : Fld := ⟨(R.DLD_LEGSTAT g), 7, 1⟩
def F.DLD_LEGSTAT_LGOFF (g : Nat) : Fld := ⟨(R.DLD_LEGSTAT g), 6, 1⟩
def F.DLD_LEGSTAT_UPDES (g : Nat) : Fld := ⟨(R.DLD_LEGSTAT g), 5, 1⟩
def F.DLD_LEGSTAT_LODES (g : Nat) : Fld := ⟨(R.DLD_LEGSTAT g), 4, 1⟩
def F.DLD_LEGSTAT_OC (g : Nat) : Fld := ⟨(R.DLD_LEGSTAT g), 3, 1⟩
def F.DLD_LEGSTAT_BSUV (g : Nat) : Fld := ⟨(R.DLD_LEGSTAT g), 2, 1⟩
def F.DLD_LEGSTAT_UPSTEP1 (g : Nat) : Fld := ⟨(R.DLD_LEGSTAT g), 1, 1⟩
def F.DLD_LEGSTAT_LOSTEP1 (g : Nat) : Fld := ⟨(R.DLD_LEGSTAT g), 0, 1⟩

def regTableDLD0 : List RegRow := [
  ⟨0x70004000, [(24, 0x10)], 0x32645A60, [⟨24, 8, .rw⟩, ⟨20, 4, .rw⟩, ⟨16, 4, .rw⟩, ⟨12, 4, .rw⟩, ⟨8, 4, .rw⟩, ⟨4, 4, .rw⟩]⟩,
  ⟨0x70004004, [(24, 0x10)], 0x0, [⟨7, 1, .ro⟩, ⟨6, 1, .ro⟩, ⟨5, 1, .ro⟩, ⟨4, 1, .ro⟩, ⟨3, 1, .ro⟩, ⟨2, 1, .ro⟩, ⟨1, 1, .ro⟩, ⟨0, 1, .ro⟩]⟩
]

/-- GL.CTRL[g] (spec/06_urrix_gate_links.md). -/
def R.GL_CTRL (g : Nat) : Nat := 0x40020000 + 0x800 * g
def F.GL_CTRL_CFGSEND (g : Nat) : Fld := ⟨(R.GL_CTRL g), 2, 1⟩
def F.GL_CTRL_RST (g : Nat) : Fld := ⟨(R.GL_CTRL g), 1, 1⟩
def F.GL_CTRL_EN (g : Nat) : Fld := ⟨(R.GL_CTRL g), 0, 1⟩
/-- GL.LINKCFG[g] (spec/06_urrix_gate_links.md). -/
def R.GL_LINKCFG (g : Nat) : Nat := 0x40020004 + 0x800 * g
def F.GL_LINKCFG_RSEN (g : Nat) : Fld := ⟨(R.GL_LINKCFG g), 16, 1⟩
def F.GL_LINKCFG_ASYM (g : Nat) : Fld := ⟨(R.GL_LINKCFG g), 0, 16⟩
/-- GL.DLY[g] (spec/06_urrix_gate_links.md). -/
def R.GL_DLY (g : Nat) : Nat := 0x40020008 + 0x800 * g
def F.GL_DLY_DN (g : Nat) : Fld := ⟨(R.GL_DLY g), 16, 16⟩
def F.GL_DLY_UP (g : Nat) : Fld := ⟨(R.GL_DLY g), 0, 16⟩
/-- GL.STAT[g] (spec/06_urrix_gate_links.md). -/
def R.GL_STAT (g : Nat) : Nat := 0x4002000C + 0x800 * g
def F.GL_STAT_STATE (g : Nat) : Fld := ⟨(R.GL_STAT g), 28, 4⟩
def F.GL_STAT_CFGFAIL (g : Nat) : Fld := ⟨(R.GL_STAT g), 27, 1⟩
def F.GL_STAT_RSTIGN (g : Nat) : Fld := ⟨(R.GL_STAT g), 26, 1⟩
def F.GL_STAT_CFGIGN (g : Nat) : Fld := ⟨(R.GL_STAT g), 25, 1⟩
def F.GL_STAT_LOSTSIL (g : Nat) : Fld := ⟨(R.GL_STAT g), 24, 1⟩
def F.GL_STAT_LOSTBAD (g : Nat) : Fld := ⟨(R.GL_STAT g), 23, 1⟩
def F.GL_STAT_CFGID (g : Nat) : Fld := ⟨(R.GL_STAT g), 8, 8⟩
/-- GL.ERRCNT[g] (spec/06_urrix_gate_links.md). -/
def R.GL_ERRCNT (g : Nat) : Nat := 0x40020010 + 0x800 * g
def F.GL_ERRCNT_RXBAD (g : Nat) : Fld := ⟨(R.GL_ERRCNT g), 24, 8⟩
def F.GL_ERRCNT_DRVBAD (g : Nat) : Fld := ⟨(R.GL_ERRCNT g), 16, 8⟩
def F.GL_ERRCNT_RESEND (g : Nat) : Fld := ⟨(R.GL_ERRCNT g), 8, 8⟩
def F.GL_ERRCNT_TIGHT (g : Nat) : Fld := ⟨(R.GL_ERRCNT g), 0, 8⟩
/-- GL.SEQSENT[g] (spec/06_urrix_gate_links.md). -/
def R.GL_SEQSENT (g : Nat) : Nat := 0x40020014 + 0x800 * g
def F.GL_SEQSENT_CNT (g : Nat) : Fld := ⟨(R.GL_SEQSENT g), 0, 32⟩
/-- GL.SEQACK[g] (spec/06_urrix_gate_links.md). -/
def R.GL_SEQACK (g : Nat) : Nat := 0x40020018 + 0x800 * g
def F.GL_SEQACK_CNT (g : Nat) : Fld := ⟨(R.GL_SEQACK g), 0, 32⟩
/-- GL.SEQLOST[g] (spec/06_urrix_gate_links.md). -/
def R.GL_SEQLOST (g : Nat) : Nat := 0x4002001C + 0x800 * g
def F.GL_SEQLOST_CNT (g : Nat) : Fld := ⟨(R.GL_SEQLOST g), 0, 32⟩
/-- GL.SEQOPEN[g] (spec/06_urrix_gate_links.md). -/
def R.GL_SEQOPEN (g : Nat) : Nat := 0x40020020 + 0x800 * g
def F.GL_SEQOPEN_INVERR (g : Nat) : Fld := ⟨(R.GL_SEQOPEN g), 31, 1⟩
def F.GL_SEQOPEN_OPEN (g : Nat) : Fld := ⟨(R.GL_SEQOPEN g), 0, 4⟩
/-- GL.ECHOA[g] (spec/06_urrix_gate_links.md). -/
def R.GL_ECHOA (g : Nat) : Nat := 0x40020024 + 0x800 * g
def F.GL_ECHOA_NTC (g : Nat) : Fld := ⟨(R.GL_ECHOA g), 24, 8⟩
def F.GL_ECHOA_EXSEQ (g : Nat) : Fld := ⟨(R.GL_ECHOA g), 16, 8⟩
def F.GL_ECHOA_RXSEQ (g : Nat) : Fld := ⟨(R.GL_ECHOA g), 8, 8⟩
def F.GL_ECHOA_SOFT (g : Nat) : Fld := ⟨(R.GL_ECHOA g), 6, 2⟩
def F.GL_ECHOA_GATE (g : Nat) : Fld := ⟨(R.GL_ECHOA g), 0, 6⟩
/-- GL.ECHOB[g] (spec/06_urrix_gate_links.md). -/
def R.GL_ECHOB (g : Nat) : Nat := 0x40020028 + 0x800 * g
def F.GL_ECHOB_RXMAP (g : Nat) : Fld := ⟨(R.GL_ECHOB g), 24, 8⟩
def F.GL_ECHOB_UV (g : Nat) : Fld := ⟨(R.GL_ECHOB g), 8, 6⟩
def F.GL_ECHOB_DES (g : Nat) : Fld := ⟨(R.GL_ECHOB g), 0, 6⟩
/-- GL.DRVST[g] (spec/06_urrix_gate_links.md). -/
def R.GL_DRVST (g : Nat) : Nat := 0x4002002C + 0x800 * g
def F.GL_DRVST_LATE (g : Nat) : Fld := ⟨(R.GL_DRVST g), 24, 8⟩
def F.GL_DRVST_FLAGS (g : Nat) : Fld := ⟨(R.GL_DRVST g), 16, 8⟩
def F.GL_DRVST_CFGID (g : Nat) : Fld := ⟨(R.GL_DRVST g), 8, 8⟩
def F.GL_DRVST_ILTO (g : Nat) : Fld := ⟨(R.GL_DRVST g), 0, 6⟩
/-- GL.DRVPAR0[g] (spec/06_urrix_gate_links.md). -/
def R.GL_DRVPAR0 (g : Nat) : Nat := 0x40020030 + 0x800 * g
def F.GL_DRVPAR0_PAR (g : Nat) : Fld := ⟨(R.GL_DRVPAR0 g), 0, 32⟩
/-- GL.DRVPAR1[g] (spec/06_urrix_gate_links.md). -/
def R.GL_DRVPAR1 (g : Nat) : Nat := 0x40020034 + 0x800 * g
def F.GL_DRVPAR1_PAR (g : Nat) : Fld := ⟨(R.GL_DRVPAR1 g), 0, 32⟩

def regTableGL0 : List RegRow := [
  ⟨0x40020000, [(16, 0x800)], 0x0, [⟨2, 1, .w1t⟩, ⟨1, 1, .w1t⟩, ⟨0, 1, .rw⟩]⟩,
  ⟨0x40020004, [(16, 0x800)], 0x10000, [⟨16, 1, .rw⟩, ⟨0, 16, .rw⟩]⟩,
  ⟨0x40020008, [(16, 0x800)], 0x0, [⟨16, 16, .ro⟩, ⟨0, 16, .ro⟩]⟩,
  ⟨0x4002000C, [(16, 0x800)], 0x0, [⟨28, 4, .ro⟩, ⟨27, 1, .ro⟩, ⟨26, 1, .w1c⟩, ⟨25, 1, .w1c⟩, ⟨24, 1, .ro⟩, ⟨23, 1, .ro⟩, ⟨8, 8, .ro⟩]⟩,
  ⟨0x40020010, [(16, 0x800)], 0x0, [⟨24, 8, .ro⟩, ⟨16, 8, .ro⟩, ⟨8, 8, .ro⟩, ⟨0, 8, .ro⟩]⟩,
  ⟨0x40020014, [(16, 0x800)], 0x0, [⟨0, 32, .ro⟩]⟩,
  ⟨0x40020018, [(16, 0x800)], 0x0, [⟨0, 32, .ro⟩]⟩,
  ⟨0x4002001C, [(16, 0x800)], 0x0, [⟨0, 32, .ro⟩]⟩,
  ⟨0x40020020, [(16, 0x800)], 0x0, [⟨31, 1, .ro⟩, ⟨0, 4, .ro⟩]⟩,
  ⟨0x40020024, [(16, 0x800)], 0xFF00, [⟨24, 8, .ro⟩, ⟨16, 8, .ro⟩, ⟨8, 8, .ro⟩, ⟨6, 2, .ro⟩, ⟨0, 6, .ro⟩]⟩,
  ⟨0x40020028, [(16, 0x800)], 0x0, [⟨24, 8, .ro⟩, ⟨8, 6, .ro⟩, ⟨0, 6, .ro⟩]⟩,
  ⟨0x4002002C, [(16, 0x800)], 0x0, [⟨24, 8, .ro⟩, ⟨16, 8, .ro⟩, ⟨8, 8, .ro⟩, ⟨0, 6, .ro⟩]⟩,
  ⟨0x40020030, [(16, 0x800)], 0x0, [⟨0, 32, .rw⟩]⟩,
  ⟨0x40020034, [(16, 0x800)], 0x0, [⟨0, 32, .rw⟩]⟩
]

end Sys2Proof.Machine
end

