-- ==== Sys2Proof/Machine/RegsSense.lean ====
section
/-!
DEFINITION. Register addresses and fields of the sigma-delta filters (SDF), ADC, encoders and capture (ENC), spec/07.
Written out by a script from the register tables of the spec: an address is the block base, the offset and the strides
the table gives; a field is its place in the 32-bit register; a table row also holds the reset value and the access codes of R4.
-/

namespace Sys2Proof.Machine

/-- SDF.CFG[n] (spec/07_sensing_and_position.md). -/
def R.SDF_CFG (g : Nat) : Nat := 0x40030000 + 0x20 * g
def F.SDF_CFG_EN (g : Nat) : Fld := ⟨(R.SDF_CFG g), 31, 1⟩
def F.SDF_CFG_CLK (g : Nat) : Fld := ⟨(R.SDF_CFG g), 28, 3⟩
def F.SDF_CFG_SDLY (g : Nat) : Fld := ⟨(R.SDF_CFG g), 25, 3⟩
def F.SDF_CFG_STK (g : Nat) : Fld := ⟨(R.SDF_CFG g), 23, 2⟩
def F.SDF_CFG_AXB (g : Nat) : Fld := ⟨(R.SDF_CFG g), 22, 1⟩
def F.SDF_CFG_AX (g : Nat) : Fld := ⟨(R.SDF_CFG g), 18, 4⟩
def F.SDF_CFG_CB (g : Nat) : Fld := ⟨(R.SDF_CFG g), 13, 5⟩
def F.SDF_CFG_PAWIN (g : Nat) : Fld := ⟨(R.SDF_CFG g), 11, 2⟩
def F.SDF_CFG_PAOSR (g : Nat) : Fld := ⟨(R.SDF_CFG g), 6, 5⟩
def F.SDF_CFG_OFSEN (g : Nat) : Fld := ⟨(R.SDF_CFG g), 5, 1⟩
def F.SDF_CFG_CALEN (g : Nat) : Fld := ⟨(R.SDF_CFG g), 4, 1⟩
/-- SDF.S3CFG[n] (spec/07_sensing_and_position.md). -/
def R.SDF_S3CFG (g : Nat) : Nat := 0x40030004 + 0x20 * g
def F.SDF_S3CFG_S3EN (g : Nat) : Fld := ⟨(R.SDF_S3CFG g), 31, 1⟩
def F.SDF_S3CFG_S3W (g : Nat) : Fld := ⟨(R.SDF_S3CFG g), 30, 1⟩
def F.SDF_S3CFG_S3OSR (g : Nat) : Fld := ⟨(R.SDF_S3CFG g), 22, 8⟩
def F.SDF_S3CFG_SKEW (g : Nat) : Fld := ⟨(R.SDF_S3CFG g), 0, 8⟩
/-- SDF.CMPCFG[n] (spec/07_sensing_and_position.md). -/
def R.SDF_CMPCFG (g : Nat) : Nat := 0x40030008 + 0x20 * g
def F.SDF_CMPCFG_EN (g : Nat) : Fld := ⟨(R.SDF_CMPCFG g), 31, 1⟩
def F.SDF_CMPCFG_ACT (g : Nat) : Fld := ⟨(R.SDF_CMPCFG g), 30, 1⟩
def F.SDF_CMPCFG_OSR (g : Nat) : Fld := ⟨(R.SDF_CMPCFG g), 25, 5⟩
def F.SDF_CMPCFG_FILT (g : Nat) : Fld := ⟨(R.SDF_CMPCFG g), 22, 3⟩
def F.SDF_CMPCFG_HYS (g : Nat) : Fld := ⟨(R.SDF_CMPCFG g), 0, 16⟩
/-- SDF.CMPTH[n] (spec/07_sensing_and_position.md). -/
def R.SDF_CMPTH (g : Nat) : Nat := 0x4003000C + 0x20 * g
def F.SDF_CMPTH_LO (g : Nat) : Fld := ⟨(R.SDF_CMPTH g), 16, 16⟩
def F.SDF_CMPTH_HI (g : Nat) : Fld := ⟨(R.SDF_CMPTH g), 0, 16⟩
/-- SDF.STAT[n] (spec/07_sensing_and_position.md). -/
def R.SDF_STAT (g : Nat) : Nat := 0x40030010 + 0x20 * g
def F.SDF_STAT_MODF (g : Nat) : Fld := ⟨(R.SDF_STAT g), 31, 1⟩
def F.SDF_STAT_CMPH (g : Nat) : Fld := ⟨(R.SDF_STAT g), 30, 1⟩
def F.SDF_STAT_CMPL (g : Nat) : Fld := ⟨(R.SDF_STAT g), 29, 1⟩
def F.SDF_STAT_TRIPD (g : Nat) : Fld := ⟨(R.SDF_STAT g), 28, 1⟩
def F.SDF_STAT_S3SAT (g : Nat) : Fld := ⟨(R.SDF_STAT g), 27, 1⟩
def F.SDF_STAT_PAOVL (g : Nat) : Fld := ⟨(R.SDF_STAT g), 26, 1⟩
def F.SDF_STAT_CALV (g : Nat) : Fld := ⟨(R.SDF_STAT g), 25, 1⟩
/-- SDF.CALOFS[n] (spec/07_sensing_and_position.md). -/
def R.SDF_CALOFS (g : Nat) : Nat := 0x40030014 + 0x20 * g
def F.SDF_CALOFS_OFS (g : Nat) : Fld := ⟨(R.SDF_CALOFS g), 0, 24⟩
/-- SDF.PARES[n] (spec/07_sensing_and_position.md). -/
def R.SDF_PARES (g : Nat) : Nat := 0x40030018 + 0x20 * g
def F.SDF_PARES_RES (g : Nat) : Fld := ⟨(R.SDF_PARES g), 0, 32⟩
/-- SDF.S3RES[n] (spec/07_sensing_and_position.md). -/
def R.SDF_S3RES (g : Nat) : Nat := 0x4003001C + 0x20 * g
def F.SDF_S3RES_RES (g : Nat) : Fld := ⟨(R.SDF_S3RES g), 0, 32⟩
/-- SDF.SDC[k] (spec/07_sensing_and_position.md). -/
def R.SDF_SDC (g : Nat) : Nat := 0x40030600 + 0x4 * g
def F.SDF_SDC_EN (g : Nat) : Fld := ⟨(R.SDF_SDC g), 31, 1⟩
def F.SDF_SDC_DIV (g : Nat) : Fld := ⟨(R.SDF_SDC g), 0, 6⟩

def regTableSDF0 : List RegRow := [
  ⟨0x40030000, [(48, 0x20)], 0x0, [⟨31, 1, .rw⟩, ⟨28, 3, .rw⟩, ⟨25, 3, .rw⟩, ⟨23, 2, .rw⟩, ⟨22, 1, .rw⟩, ⟨18, 4, .rw⟩, ⟨13, 5, .rw⟩, ⟨11, 2, .rw⟩, ⟨6, 5, .rw⟩, ⟨5, 1, .rw⟩, ⟨4, 1, .rw⟩]⟩,
  ⟨0x40030004, [(48, 0x20)], 0x0, [⟨31, 1, .rw⟩, ⟨30, 1, .rw⟩, ⟨22, 8, .rw⟩, ⟨0, 8, .rw⟩]⟩,
  ⟨0x40030008, [(48, 0x20)], 0x0, [⟨31, 1, .rw⟩, ⟨30, 1, .rw⟩, ⟨25, 5, .rw⟩, ⟨22, 3, .rw⟩, ⟨0, 16, .rw⟩]⟩,
  ⟨0x4003000C, [(48, 0x20)], 0x80007FFF, [⟨16, 16, .rw⟩, ⟨0, 16, .rw⟩]⟩,
  ⟨0x40030010, [(48, 0x20)], 0x0, [⟨31, 1, .w1c⟩, ⟨30, 1, .ro⟩, ⟨29, 1, .ro⟩, ⟨28, 1, .w1c⟩, ⟨27, 1, .w1c⟩, ⟨26, 1, .w1c⟩, ⟨25, 1, .ro⟩]⟩,
  ⟨0x40030014, [(48, 0x20)], 0x0, [⟨0, 24, .rw⟩]⟩,
  ⟨0x40030018, [(48, 0x20)], 0x0, [⟨0, 32, .ro⟩]⟩,
  ⟨0x4003001C, [(48, 0x20)], 0x0, [⟨0, 32, .ro⟩]⟩,
  ⟨0x40030600, [(8, 0x4)], 0x8, [⟨31, 1, .rw⟩, ⟨0, 6, .rw⟩]⟩
]

/-- ADC.SEQCFG[s] (spec/07_sensing_and_position.md). -/
def R.ADC_SEQCFG (g : Nat) : Nat := 0x40038000 + 0x40 * g
def F.ADC_SEQCFG_EN (g : Nat) : Fld := ⟨(R.ADC_SEQCFG g), 31, 1⟩
def F.ADC_SEQCFG_SRC (g : Nat) : Fld := ⟨(R.ADC_SEQCFG g), 28, 3⟩
def F.ADC_SEQCFG_SEL (g : Nat) : Fld := ⟨(R.ADC_SEQCFG g), 23, 5⟩
def F.ADC_SEQCFG_EVT (g : Nat) : Fld := ⟨(R.ADC_SEQCFG g), 21, 2⟩
def F.ADC_SEQCFG_NSTEP (g : Nat) : Fld := ⟨(R.ADC_SEQCFG g), 18, 3⟩
def F.ADC_SEQCFG_DLY (g : Nat) : Fld := ⟨(R.ADC_SEQCFG g), 0, 12⟩
/-- ADC.SEQSTAT[s] (spec/07_sensing_and_position.md). -/
def R.ADC_SEQSTAT (g : Nat) : Nat := 0x40038004 + 0x40 * g
def F.ADC_SEQSTAT_OVR (g : Nat) : Fld := ⟨(R.ADC_SEQSTAT g), 24, 8⟩
def F.ADC_SEQSTAT_DLYD (g : Nat) : Fld := ⟨(R.ADC_SEQSTAT g), 16, 8⟩
def F.ADC_SEQSTAT_RUN (g : Nat) : Fld := ⟨(R.ADC_SEQSTAT g), 3, 1⟩
def F.ADC_SEQSTAT_STEP (g : Nat) : Fld := ⟨(R.ADC_SEQSTAT g), 0, 3⟩
/-- ADC.STEP[s][i] (spec/07_sensing_and_position.md). -/
def R.ADC_STEP (g h : Nat) : Nat := 0x40038010 + 0x40 * g + 0x4 * h
def F.ADC_STEP_EN0 (g h : Nat) : Fld := ⟨(R.ADC_STEP g h), 7, 1⟩
def F.ADC_STEP_IN0 (g h : Nat) : Fld := ⟨(R.ADC_STEP g h), 5, 2⟩
def F.ADC_STEP_RES0 (g h : Nat) : Fld := ⟨(R.ADC_STEP g h), 0, 5⟩
def F.ADC_STEP_EN1 (g h : Nat) : Fld := ⟨(R.ADC_STEP g h), 15, 1⟩
def F.ADC_STEP_IN1 (g h : Nat) : Fld := ⟨(R.ADC_STEP g h), 13, 2⟩
def F.ADC_STEP_RES1 (g h : Nat) : Fld := ⟨(R.ADC_STEP g h), 8, 5⟩
def F.ADC_STEP_EN2 (g h : Nat) : Fld := ⟨(R.ADC_STEP g h), 23, 1⟩
def F.ADC_STEP_IN2 (g h : Nat) : Fld := ⟨(R.ADC_STEP g h), 21, 2⟩
def F.ADC_STEP_RES2 (g h : Nat) : Fld := ⟨(R.ADC_STEP g h), 16, 5⟩
def F.ADC_STEP_EN3 (g h : Nat) : Fld := ⟨(R.ADC_STEP g h), 31, 1⟩
def F.ADC_STEP_IN3 (g h : Nat) : Fld := ⟨(R.ADC_STEP g h), 29, 2⟩
def F.ADC_STEP_RES3 (g h : Nat) : Fld := ⟨(R.ADC_STEP g h), 24, 5⟩
/-- ADC.RES[r] (spec/07_sensing_and_position.md). -/
def R.ADC_RES (g : Nat) : Nat := 0x40038400 + 0x4 * g
def F.ADC_RES_RES (g : Nat) : Fld := ⟨(R.ADC_RES g), 0, 32⟩
/-- ADC.TRIM[c] (spec/07_sensing_and_position.md). -/
def R.ADC_TRIM (g : Nat) : Nat := 0x40038500 + 0x4 * g
def F.ADC_TRIM_GAIN (g : Nat) : Fld := ⟨(R.ADC_TRIM g), 16, 16⟩
def F.ADC_TRIM_OFS (g : Nat) : Fld := ⟨(R.ADC_TRIM g), 0, 16⟩
/-- ADC.CALCTL (spec/07_sensing_and_position.md). -/
def R.ADC_CALCTL : Nat := 0x40038510
def F.ADC_CALCTL_EN : Fld := ⟨R.ADC_CALCTL, 31, 1⟩
def F.ADC_CALCTL_TRIMV : Fld := ⟨R.ADC_CALCTL, 1, 1⟩
def F.ADC_CALCTL_NOW : Fld := ⟨R.ADC_CALCTL, 0, 1⟩
/-- ADC.RESCFG[r] (spec/07_sensing_and_position.md). -/
def R.ADC_RESCFG (g : Nat) : Nat := 0x40038600 + 0x10 * g
def F.ADC_RESCFG_EN (g : Nat) : Fld := ⟨(R.ADC_RESCFG g), 31, 1⟩
def F.ADC_RESCFG_SEQ (g : Nat) : Fld := ⟨(R.ADC_RESCFG g), 28, 3⟩
def F.ADC_RESCFG_AMP (g : Nat) : Fld := ⟨(R.ADC_RESCFG g), 20, 8⟩
def F.ADC_RESCFG_FREQ (g : Nat) : Fld := ⟨(R.ADC_RESCFG g), 0, 11⟩
/-- ADC.RESPH[r] (spec/07_sensing_and_position.md). -/
def R.ADC_RESPH (g : Nat) : Nat := 0x40038604 + 0x10 * g
def F.ADC_RESPH_PHASE (g : Nat) : Fld := ⟨(R.ADC_RESPH g), 0, 16⟩

def regTableADC0 : List RegRow := [
  ⟨0x40038000, [(8, 0x40)], 0x0, [⟨31, 1, .rw⟩, ⟨28, 3, .rw⟩, ⟨23, 5, .rw⟩, ⟨21, 2, .rw⟩, ⟨18, 3, .rw⟩, ⟨0, 12, .rw⟩]⟩,
  ⟨0x40038004, [(8, 0x40)], 0x0, [⟨24, 8, .ro⟩, ⟨16, 8, .ro⟩, ⟨3, 1, .ro⟩, ⟨0, 3, .ro⟩]⟩,
  ⟨0x40038010, [(8, 0x40), (8, 0x4)], 0x0, [⟨7, 1, .rw⟩, ⟨5, 2, .rw⟩, ⟨0, 5, .rw⟩, ⟨15, 1, .rw⟩, ⟨13, 2, .rw⟩, ⟨8, 5, .rw⟩, ⟨23, 1, .rw⟩, ⟨21, 2, .rw⟩, ⟨16, 5, .rw⟩, ⟨31, 1, .rw⟩, ⟨29, 2, .rw⟩, ⟨24, 5, .rw⟩]⟩,
  ⟨0x40038400, [(32, 0x4)], 0x0, [⟨0, 32, .ro⟩]⟩,
  ⟨0x40038500, [(4, 0x4)], 0x80000000, [⟨16, 16, .ro⟩, ⟨0, 16, .ro⟩]⟩,
  ⟨0x40038510, [], 0x80000000, [⟨31, 1, .rw⟩, ⟨1, 1, .ro⟩, ⟨0, 1, .w1t⟩]⟩,
  ⟨0x40038600, [(4, 0x10)], 0xC8, [⟨31, 1, .rw⟩, ⟨28, 3, .rw⟩, ⟨20, 8, .rw⟩, ⟨0, 11, .rw⟩]⟩,
  ⟨0x40038604, [(4, 0x10)], 0x4000, [⟨0, 16, .rw⟩]⟩
]

/-- ENC.CFG[n] (spec/07_sensing_and_position.md). -/
def R.ENC_CFG (g : Nat) : Nat := 0x40040000 + 0x20 * g
def F.ENC_CFG_EN (g : Nat) : Fld := ⟨(R.ENC_CFG g), 31, 1⟩
def F.ENC_CFG_MODE (g : Nat) : Fld := ⟨(R.ENC_CFG g), 29, 2⟩
def F.ENC_CFG_DIR (g : Nat) : Fld := ⟨(R.ENC_CFG g), 28, 1⟩
def F.ENC_CFG_FILT (g : Nat) : Fld := ⟨(R.ENC_CFG g), 25, 3⟩
def F.ENC_CFG_ZQ (g : Nat) : Fld := ⟨(R.ENC_CFG g), 22, 3⟩
def F.ENC_CFG_IDXM (g : Nat) : Fld := ⟨(R.ENC_CFG g), 20, 2⟩
def F.ENC_CFG_CB (g : Nat) : Fld := ⟨(R.ENC_CFG g), 15, 5⟩
def F.ENC_CFG_EVT (g : Nat) : Fld := ⟨(R.ENC_CFG g), 13, 2⟩
def F.ENC_CFG_AXB (g : Nat) : Fld := ⟨(R.ENC_CFG g), 12, 1⟩
def F.ENC_CFG_AX (g : Nat) : Fld := ⟨(R.ENC_CFG g), 8, 4⟩
/-- ENC.POS[n] (spec/07_sensing_and_position.md). -/
def R.ENC_POS (g : Nat) : Nat := 0x40040004 + 0x20 * g
def F.ENC_POS_POS (g : Nat) : Fld := ⟨(R.ENC_POS g), 0, 32⟩
/-- ENC.IDX[n] (spec/07_sensing_and_position.md). -/
def R.ENC_IDX (g : Nat) : Nat := 0x40040008 + 0x20 * g
def F.ENC_IDX_IDX (g : Nat) : Fld := ⟨(R.ENC_IDX g), 0, 32⟩
/-- ENC.IDXPOS[n] (spec/07_sensing_and_position.md). -/
def R.ENC_IDXPOS (g : Nat) : Nat := 0x4004000C + 0x20 * g
def F.ENC_IDXPOS_POS (g : Nat) : Fld := ⟨(R.ENC_IDXPOS g), 0, 32⟩
/-- ENC.STAT[n] (spec/07_sensing_and_position.md). -/
def R.ENC_STAT (g : Nat) : Nat := 0x40040010 + 0x20 * g
def F.ENC_STAT_VALID (g : Nat) : Fld := ⟨(R.ENC_STAT g), 31, 1⟩
def F.ENC_STAT_ERR (g : Nat) : Fld := ⟨(R.ENC_STAT g), 30, 1⟩
def F.ENC_STAT_OVSPD (g : Nat) : Fld := ⟨(R.ENC_STAT g), 29, 1⟩
def F.ENC_STAT_ILLEG (g : Nat) : Fld := ⟨(R.ENC_STAT g), 28, 1⟩
def F.ENC_STAT_IDXF (g : Nat) : Fld := ⟨(R.ENC_STAT g), 27, 1⟩
def F.ENC_STAT_ERRCNT (g : Nat) : Fld := ⟨(R.ENC_STAT g), 8, 8⟩
def F.ENC_STAT_Z (g : Nat) : Fld := ⟨(R.ENC_STAT g), 2, 1⟩
def F.ENC_STAT_B (g : Nat) : Fld := ⟨(R.ENC_STAT g), 1, 1⟩
def F.ENC_STAT_A (g : Nat) : Fld := ⟨(R.ENC_STAT g), 0, 1⟩
/-- ENC.ABSCFG[m] (spec/07_sensing_and_position.md). -/
def R.ENC_ABSCFG (g : Nat) : Nat := 0x40040400 + 0x20 * g
def F.ENC_ABSCFG_EN (g : Nat) : Fld := ⟨(R.ENC_ABSCFG g), 31, 1⟩
def F.ENC_ABSCFG_GRAY (g : Nat) : Fld := ⟨(R.ENC_ABSCFG g), 30, 1⟩
def F.ENC_ABSCFG_PAR (g : Nat) : Fld := ⟨(R.ENC_ABSCFG g), 29, 1⟩
def F.ENC_ABSCFG_LEN (g : Nat) : Fld := ⟨(R.ENC_ABSCFG g), 23, 6⟩
def F.ENC_ABSCFG_POSW (g : Nat) : Fld := ⟨(R.ENC_ABSCFG g), 18, 5⟩
def F.ENC_ABSCFG_POSMSB (g : Nat) : Fld := ⟨(R.ENC_ABSCFG g), 12, 6⟩
/-- ENC.ABSTIM[m] (spec/07_sensing_and_position.md). -/
def R.ENC_ABSTIM (g : Nat) : Nat := 0x40040404 + 0x20 * g
def F.ENC_ABSTIM_DIV (g : Nat) : Fld := ⟨(R.ENC_ABSTIM g), 22, 10⟩
def F.ENC_ABSTIM_DLY (g : Nat) : Fld := ⟨(R.ENC_ABSTIM g), 14, 8⟩
def F.ENC_ABSTIM_MONO (g : Nat) : Fld := ⟨(R.ENC_ABSTIM g), 0, 14⟩
/-- ENC.ABSTRG[m] (spec/07_sensing_and_position.md). -/
def R.ENC_ABSTRG (g : Nat) : Nat := 0x40040408 + 0x20 * g
def F.ENC_ABSTRG_SRC (g : Nat) : Fld := ⟨(R.ENC_ABSTRG g), 29, 3⟩
def F.ENC_ABSTRG_SEL (g : Nat) : Fld := ⟨(R.ENC_ABSTRG g), 24, 5⟩
def F.ENC_ABSTRG_EVT (g : Nat) : Fld := ⟨(R.ENC_ABSTRG g), 22, 2⟩
def F.ENC_ABSTRG_ERRN (g : Nat) : Fld := ⟨(R.ENC_ABSTRG g), 18, 4⟩
def F.ENC_ABSTRG_JMP (g : Nat) : Fld := ⟨(R.ENC_ABSTRG g), 0, 16⟩
/-- ENC.ABSPOS[m] (spec/07_sensing_and_position.md). -/
def R.ENC_ABSPOS (g : Nat) : Nat := 0x4004040C + 0x20 * g
def F.ENC_ABSPOS_POS (g : Nat) : Fld := ⟨(R.ENC_ABSPOS g), 0, 32⟩
/-- ENC.ABSSTAT[m] (spec/07_sensing_and_position.md). -/
def R.ENC_ABSSTAT (g : Nat) : Nat := 0x40040410 + 0x20 * g
def F.ENC_ABSSTAT_VALID (g : Nat) : Fld := ⟨(R.ENC_ABSSTAT g), 31, 1⟩
def F.ENC_ABSSTAT_NRDY (g : Nat) : Fld := ⟨(R.ENC_ABSSTAT g), 30, 1⟩
def F.ENC_ABSSTAT_PARE (g : Nat) : Fld := ⟨(R.ENC_ABSSTAT g), 29, 1⟩
def F.ENC_ABSSTAT_MONOE (g : Nat) : Fld := ⟨(R.ENC_ABSSTAT g), 28, 1⟩
def F.ENC_ABSSTAT_JUMPE (g : Nat) : Fld := ⟨(R.ENC_ABSSTAT g), 27, 1⟩
def F.ENC_ABSSTAT_CONS (g : Nat) : Fld := ⟨(R.ENC_ABSSTAT g), 8, 8⟩
def F.ENC_ABSSTAT_ERRCNT (g : Nat) : Fld := ⟨(R.ENC_ABSSTAT g), 0, 8⟩
/-- ENC.RESANG[r] (spec/07_sensing_and_position.md). -/
def R.ENC_RESANG (g : Nat) : Nat := 0x40040500 + 0x4 * g
def F.ENC_RESANG_VALID (g : Nat) : Fld := ⟨(R.ENC_RESANG g), 31, 1⟩
def F.ENC_RESANG_ANG (g : Nat) : Fld := ⟨(R.ENC_RESANG g), 0, 16⟩
/-- ENC.CAPCFG[k] (spec/07_sensing_and_position.md). -/
def R.ENC_CAPCFG (g : Nat) : Nat := 0x40040600 + 0x20 * g
def F.ENC_CAPCFG_EN (g : Nat) : Fld := ⟨(R.ENC_CAPCFG g), 31, 1⟩
def F.ENC_CAPCFG_MODE (g : Nat) : Fld := ⟨(R.ENC_CAPCFG g), 30, 1⟩
def F.ENC_CAPCFG_STYPE (g : Nat) : Fld := ⟨(R.ENC_CAPCFG g), 27, 3⟩
def F.ENC_CAPCFG_SIDX (g : Nat) : Fld := ⟨(R.ENC_CAPCFG g), 23, 4⟩
def F.ENC_CAPCFG_TRIGK (g : Nat) : Fld := ⟨(R.ENC_CAPCFG g), 21, 2⟩
def F.ENC_CAPCFG_TRIGI (g : Nat) : Fld := ⟨(R.ENC_CAPCFG g), 14, 7⟩
def F.ENC_CAPCFG_EDGE (g : Nat) : Fld := ⟨(R.ENC_CAPCFG g), 12, 2⟩
def F.ENC_CAPCFG_CFLT (g : Nat) : Fld := ⟨(R.ENC_CAPCFG g), 8, 4⟩
def F.ENC_CAPCFG_ARM (g : Nat) : Fld := ⟨(R.ENC_CAPCFG g), 7, 1⟩
/-- ENC.CAPPOS[k] (spec/07_sensing_and_position.md). -/
def R.ENC_CAPPOS (g : Nat) : Nat := 0x40040604 + 0x20 * g
def F.ENC_CAPPOS_V (g : Nat) : Fld := ⟨(R.ENC_CAPPOS g), 0, 32⟩
/-- ENC.CAPTSL[k] (spec/07_sensing_and_position.md). -/
def R.ENC_CAPTSL (g : Nat) : Nat := 0x40040608 + 0x20 * g
def F.ENC_CAPTSL_V (g : Nat) : Fld := ⟨(R.ENC_CAPTSL g), 0, 32⟩
/-- ENC.CAPTSH[k] (spec/07_sensing_and_position.md). -/
def R.ENC_CAPTSH (g : Nat) : Nat := 0x4004060C + 0x20 * g
def F.ENC_CAPTSH_V (g : Nat) : Fld := ⟨(R.ENC_CAPTSH g), 0, 32⟩
/-- ENC.CAPSTAT[k] (spec/07_sensing_and_position.md). -/
def R.ENC_CAPSTAT (g : Nat) : Nat := 0x40040610 + 0x20 * g
def F.ENC_CAPSTAT_FULL (g : Nat) : Fld := ⟨(R.ENC_CAPSTAT g), 31, 1⟩
def F.ENC_CAPSTAT_VALID (g : Nat) : Fld := ⟨(R.ENC_CAPSTAT g), 30, 1⟩
def F.ENC_CAPSTAT_MISS (g : Nat) : Fld := ⟨(R.ENC_CAPSTAT g), 16, 8⟩
def F.ENC_CAPSTAT_AGE (g : Nat) : Fld := ⟨(R.ENC_CAPSTAT g), 0, 16⟩

def regTableENC0 : List RegRow := [
  ⟨0x40040000, [(12, 0x20)], 0x0, [⟨31, 1, .rw⟩, ⟨29, 2, .rw⟩, ⟨28, 1, .rw⟩, ⟨25, 3, .rw⟩, ⟨22, 3, .rw⟩, ⟨20, 2, .rw⟩, ⟨15, 5, .rw⟩, ⟨13, 2, .rw⟩, ⟨12, 1, .rw⟩, ⟨8, 4, .rw⟩]⟩,
  ⟨0x40040004, [(12, 0x20)], 0x0, [⟨0, 32, .rw⟩]⟩,
  ⟨0x40040008, [(12, 0x20)], 0x0, [⟨0, 32, .rw⟩]⟩,
  ⟨0x4004000C, [(12, 0x20)], 0x0, [⟨0, 32, .ro⟩]⟩,
  ⟨0x40040010, [(12, 0x20)], 0x0, [⟨31, 1, .ro⟩, ⟨30, 1, .w1c⟩, ⟨29, 1, .w1c⟩, ⟨28, 1, .w1c⟩, ⟨27, 1, .ro⟩, ⟨8, 8, .ro⟩, ⟨2, 1, .ro⟩, ⟨1, 1, .ro⟩, ⟨0, 1, .ro⟩]⟩,
  ⟨0x40040400, [(4, 0x20)], 0x0, [⟨31, 1, .rw⟩, ⟨30, 1, .rw⟩, ⟨29, 1, .rw⟩, ⟨23, 6, .rw⟩, ⟨18, 5, .rw⟩, ⟨12, 6, .rw⟩]⟩,
  ⟨0x40040404, [(4, 0x20)], 0x5000FA0, [⟨22, 10, .rw⟩, ⟨14, 8, .rw⟩, ⟨0, 14, .rw⟩]⟩,
  ⟨0x40040408, [(4, 0x20)], 0x0, [⟨29, 3, .rw⟩, ⟨24, 5, .rw⟩, ⟨22, 2, .rw⟩, ⟨18, 4, .rw⟩, ⟨0, 16, .rw⟩]⟩,
  ⟨0x4004040C, [(4, 0x20)], 0x0, [⟨0, 32, .ro⟩]⟩,
  ⟨0x40040410, [(4, 0x20)], 0x0, [⟨31, 1, .ro⟩, ⟨30, 1, .w1c⟩, ⟨29, 1, .w1c⟩, ⟨28, 1, .w1c⟩, ⟨27, 1, .w1c⟩, ⟨8, 8, .ro⟩, ⟨0, 8, .ro⟩]⟩,
  ⟨0x40040500, [(4, 0x4)], 0x0, [⟨31, 1, .rw⟩, ⟨0, 16, .rw⟩]⟩,
  ⟨0x40040600, [(16, 0x20)], 0x0, [⟨31, 1, .rw⟩, ⟨30, 1, .rw⟩, ⟨27, 3, .rw⟩, ⟨23, 4, .rw⟩, ⟨21, 2, .rw⟩, ⟨14, 7, .rw⟩, ⟨12, 2, .rw⟩, ⟨8, 4, .rw⟩, ⟨7, 1, .w1t⟩]⟩,
  ⟨0x40040604, [(16, 0x20)], 0x0, [⟨0, 32, .ro⟩]⟩,
  ⟨0x40040608, [(16, 0x20)], 0x0, [⟨0, 32, .ro⟩]⟩,
  ⟨0x4004060C, [(16, 0x20)], 0x0, [⟨0, 32, .ro⟩]⟩,
  ⟨0x40040610, [(16, 0x20)], 0x0, [⟨31, 1, .ro⟩, ⟨30, 1, .ro⟩, ⟨16, 8, .ro⟩, ⟨0, 16, .ro⟩]⟩
]

end Sys2Proof.Machine
end

