-- ==== Sys2Proof/Machine/RegsWeir.lean ====
section
/-!
DEFINITION. Register addresses and fields of the WEIR, EVR, MODE, CLK, STRAP and SEC, spec/02, spec/12, spec/17 to spec/20.
Written out by a script from the register tables of the spec: an address is the block base, the offset and the strides
the table gives; a field is its place in the 32-bit register; a table row also holds the reset value and the access codes of R4.
-/

namespace Sys2Proof.Machine

/-- WEIR.STK[i] (spec/12_weir_faults.md). -/
def R.WEIR_STK (g : Nat) : Nat := 0x50000000 + 0x4 * g
def F.WEIR_STK_S (g : Nat) : Fld := ⟨(R.WEIR_STK g), 0, 32⟩
/-- WEIR.PREV[i] (spec/12_weir_faults.md). -/
def R.WEIR_PREV (g : Nat) : Nat := 0x50000020 + 0x4 * g
def F.WEIR_PREV_S (g : Nat) : Fld := ⟨(R.WEIR_PREV g), 0, 32⟩
/-- WEIR.RCT[e] (spec/12_weir_faults.md). -/
def R.WEIR_RCT (g : Nat) : Nat := 0x50000100 + 0x4 * g
def F.WEIR_RCT_CLASS (g : Nat) : Fld := ⟨(R.WEIR_RCT g), 30, 2⟩
def F.WEIR_RCT_DEF (g : Nat) : Fld := ⟨(R.WEIR_RCT g), 27, 3⟩
def F.WEIR_RCT_ALLOW (g : Nat) : Fld := ⟨(R.WEIR_RCT g), 17, 7⟩
def F.WEIR_RCT_REACT (g : Nat) : Fld := ⟨(R.WEIR_RCT g), 0, 3⟩
/-- WEIR.DOMST[d] (spec/12_weir_faults.md). -/
def R.WEIR_DOMST (g : Nat) : Nat := 0x50000400 + 0x4 * g
def F.WEIR_DOMST_ACT (g : Nat) : Fld := ⟨(R.WEIR_DOMST g), 31, 1⟩
def F.WEIR_DOMST_DONE (g : Nat) : Fld := ⟨(R.WEIR_DOMST g), 30, 1⟩
def F.WEIR_DOMST_MERGED (g : Nat) : Fld := ⟨(R.WEIR_DOMST g), 29, 1⟩
def F.WEIR_DOMST_MASK (g : Nat) : Fld := ⟨(R.WEIR_DOMST g), 28, 1⟩
def F.WEIR_DOMST_ESC (g : Nat) : Fld := ⟨(R.WEIR_DOMST g), 27, 1⟩
def F.WEIR_DOMST_REACT (g : Nat) : Fld := ⟨(R.WEIR_DOMST g), 24, 3⟩
def F.WEIR_DOMST_FIRST (g : Nat) : Fld := ⟨(R.WEIR_DOMST g), 16, 8⟩
def F.WEIR_DOMST_MASKHIT (g : Nat) : Fld := ⟨(R.WEIR_DOMST g), 8, 8⟩
/-- WEIR.DOMCFG[d] (spec/12_weir_faults.md). -/
def R.WEIR_DOMCFG (g : Nat) : Nat := 0x50000480 + 0x4 * g
def F.WEIR_DOMCFG_STOPT (g : Nat) : Fld := ⟨(R.WEIR_DOMCFG g), 16, 16⟩
def F.WEIR_DOMCFG_TSET (g : Nat) : Fld := ⟨(R.WEIR_DOMCFG g), 0, 16⟩
/-- WEIR.REARM (spec/12_weir_faults.md). -/
def R.WEIR_REARM : Nat := 0x50000500
def F.WEIR_REARM_DOM : Fld := ⟨R.WEIR_REARM, 0, 17⟩
/-- WEIR.REARMREJ (spec/12_weir_faults.md). -/
def R.WEIR_REARMREJ : Nat := 0x50000504
def F.WEIR_REARMREJ_RCTIGN : Fld := ⟨R.WEIR_REARMREJ, 31, 1⟩
def F.WEIR_REARMREJ_REJ : Fld := ⟨R.WEIR_REARMREJ, 0, 17⟩
/-- WEIR.NQ (spec/12_weir_faults.md). -/
def R.WEIR_NQ : Nat := 0x50000600
def F.WEIR_NQ_V : Fld := ⟨R.WEIR_NQ, 31, 1⟩
def F.WEIR_NQ_OVF : Fld := ⟨R.WEIR_NQ, 30, 1⟩
def F.WEIR_NQ_POP : Fld := ⟨R.WEIR_NQ, 29, 1⟩
def F.WEIR_NQ_EV : Fld := ⟨R.WEIR_NQ, 0, 8⟩
/-- WEIR.BISTSUM (spec/12_weir_faults.md). -/
def R.WEIR_BISTSUM : Nat := 0x50000700
def F.WEIR_BISTSUM_RETRY : Fld := ⟨R.WEIR_BISTSUM, 12, 4⟩
def F.WEIR_BISTSUM_INC : Fld := ⟨R.WEIR_BISTSUM, 8, 4⟩
def F.WEIR_BISTSUM_FAIL : Fld := ⟨R.WEIR_BISTSUM, 4, 4⟩
def F.WEIR_BISTSUM_DONE : Fld := ⟨R.WEIR_BISTSUM, 0, 4⟩
/-- WEIR.BISTDES[w] (spec/12_weir_faults.md). -/
def R.WEIR_BISTDES (g : Nat) : Nat := 0x50000704 + 0x4 * g
def F.WEIR_BISTDES_R0 (g : Nat) : Fld := ⟨(R.WEIR_BISTDES g), 0, 2⟩
def F.WEIR_BISTDES_R1 (g : Nat) : Fld := ⟨(R.WEIR_BISTDES g), 2, 2⟩
def F.WEIR_BISTDES_R2 (g : Nat) : Fld := ⟨(R.WEIR_BISTDES g), 4, 2⟩
def F.WEIR_BISTDES_R3 (g : Nat) : Fld := ⟨(R.WEIR_BISTDES g), 6, 2⟩
def F.WEIR_BISTDES_R4 (g : Nat) : Fld := ⟨(R.WEIR_BISTDES g), 8, 2⟩
def F.WEIR_BISTDES_R5 (g : Nat) : Fld := ⟨(R.WEIR_BISTDES g), 10, 2⟩
def F.WEIR_BISTDES_R6 (g : Nat) : Fld := ⟨(R.WEIR_BISTDES g), 12, 2⟩
def F.WEIR_BISTDES_R7 (g : Nat) : Fld := ⟨(R.WEIR_BISTDES g), 14, 2⟩
def F.WEIR_BISTDES_R8 (g : Nat) : Fld := ⟨(R.WEIR_BISTDES g), 16, 2⟩
def F.WEIR_BISTDES_R9 (g : Nat) : Fld := ⟨(R.WEIR_BISTDES g), 18, 2⟩
def F.WEIR_BISTDES_R10 (g : Nat) : Fld := ⟨(R.WEIR_BISTDES g), 20, 2⟩
def F.WEIR_BISTDES_R11 (g : Nat) : Fld := ⟨(R.WEIR_BISTDES g), 22, 2⟩
def F.WEIR_BISTDES_R12 (g : Nat) : Fld := ⟨(R.WEIR_BISTDES g), 24, 2⟩
def F.WEIR_BISTDES_R13 (g : Nat) : Fld := ⟨(R.WEIR_BISTDES g), 26, 2⟩
def F.WEIR_BISTDES_R14 (g : Nat) : Fld := ⟨(R.WEIR_BISTDES g), 28, 2⟩
def F.WEIR_BISTDES_R15 (g : Nat) : Fld := ⟨(R.WEIR_BISTDES g), 30, 2⟩
/-- WEIR.BISTGL (spec/12_weir_faults.md). -/
def R.WEIR_BISTGL : Nat := 0x50000710
def F.WEIR_BISTGL_R0 : Fld := ⟨R.WEIR_BISTGL, 0, 2⟩
def F.WEIR_BISTGL_R1 : Fld := ⟨R.WEIR_BISTGL, 2, 2⟩
def F.WEIR_BISTGL_R2 : Fld := ⟨R.WEIR_BISTGL, 4, 2⟩
def F.WEIR_BISTGL_R3 : Fld := ⟨R.WEIR_BISTGL, 6, 2⟩
def F.WEIR_BISTGL_R4 : Fld := ⟨R.WEIR_BISTGL, 8, 2⟩
def F.WEIR_BISTGL_R5 : Fld := ⟨R.WEIR_BISTGL, 10, 2⟩
def F.WEIR_BISTGL_R6 : Fld := ⟨R.WEIR_BISTGL, 12, 2⟩
def F.WEIR_BISTGL_R7 : Fld := ⟨R.WEIR_BISTGL, 14, 2⟩
def F.WEIR_BISTGL_R8 : Fld := ⟨R.WEIR_BISTGL, 16, 2⟩
def F.WEIR_BISTGL_R9 : Fld := ⟨R.WEIR_BISTGL, 18, 2⟩
def F.WEIR_BISTGL_R10 : Fld := ⟨R.WEIR_BISTGL, 20, 2⟩
def F.WEIR_BISTGL_R11 : Fld := ⟨R.WEIR_BISTGL, 22, 2⟩
def F.WEIR_BISTGL_R12 : Fld := ⟨R.WEIR_BISTGL, 24, 2⟩
def F.WEIR_BISTGL_R13 : Fld := ⟨R.WEIR_BISTGL, 26, 2⟩
def F.WEIR_BISTGL_R14 : Fld := ⟨R.WEIR_BISTGL, 28, 2⟩
def F.WEIR_BISTGL_R15 : Fld := ⟨R.WEIR_BISTGL, 30, 2⟩
/-- WEIR.BISTSD[w] (spec/12_weir_faults.md). -/
def R.WEIR_BISTSD (g : Nat) : Nat := 0x50000714 + 0x4 * g
def F.WEIR_BISTSD_R0 (g : Nat) : Fld := ⟨(R.WEIR_BISTSD g), 0, 2⟩
def F.WEIR_BISTSD_R1 (g : Nat) : Fld := ⟨(R.WEIR_BISTSD g), 2, 2⟩
def F.WEIR_BISTSD_R2 (g : Nat) : Fld := ⟨(R.WEIR_BISTSD g), 4, 2⟩
def F.WEIR_BISTSD_R3 (g : Nat) : Fld := ⟨(R.WEIR_BISTSD g), 6, 2⟩
def F.WEIR_BISTSD_R4 (g : Nat) : Fld := ⟨(R.WEIR_BISTSD g), 8, 2⟩
def F.WEIR_BISTSD_R5 (g : Nat) : Fld := ⟨(R.WEIR_BISTSD g), 10, 2⟩
def F.WEIR_BISTSD_R6 (g : Nat) : Fld := ⟨(R.WEIR_BISTSD g), 12, 2⟩
def F.WEIR_BISTSD_R7 (g : Nat) : Fld := ⟨(R.WEIR_BISTSD g), 14, 2⟩
def F.WEIR_BISTSD_R8 (g : Nat) : Fld := ⟨(R.WEIR_BISTSD g), 16, 2⟩
def F.WEIR_BISTSD_R9 (g : Nat) : Fld := ⟨(R.WEIR_BISTSD g), 18, 2⟩
def F.WEIR_BISTSD_R10 (g : Nat) : Fld := ⟨(R.WEIR_BISTSD g), 20, 2⟩
def F.WEIR_BISTSD_R11 (g : Nat) : Fld := ⟨(R.WEIR_BISTSD g), 22, 2⟩
def F.WEIR_BISTSD_R12 (g : Nat) : Fld := ⟨(R.WEIR_BISTSD g), 24, 2⟩
def F.WEIR_BISTSD_R13 (g : Nat) : Fld := ⟨(R.WEIR_BISTSD g), 26, 2⟩
def F.WEIR_BISTSD_R14 (g : Nat) : Fld := ⟨(R.WEIR_BISTSD g), 28, 2⟩
def F.WEIR_BISTSD_R15 (g : Nat) : Fld := ⟨(R.WEIR_BISTSD g), 30, 2⟩
/-- WEIR.BISTFI[w] (spec/12_weir_faults.md). -/
def R.WEIR_BISTFI (g : Nat) : Nat := 0x50000720 + 0x4 * g
def F.WEIR_BISTFI_R0 (g : Nat) : Fld := ⟨(R.WEIR_BISTFI g), 0, 2⟩
def F.WEIR_BISTFI_R1 (g : Nat) : Fld := ⟨(R.WEIR_BISTFI g), 2, 2⟩
def F.WEIR_BISTFI_R2 (g : Nat) : Fld := ⟨(R.WEIR_BISTFI g), 4, 2⟩
def F.WEIR_BISTFI_R3 (g : Nat) : Fld := ⟨(R.WEIR_BISTFI g), 6, 2⟩
def F.WEIR_BISTFI_R4 (g : Nat) : Fld := ⟨(R.WEIR_BISTFI g), 8, 2⟩
def F.WEIR_BISTFI_R5 (g : Nat) : Fld := ⟨(R.WEIR_BISTFI g), 10, 2⟩
def F.WEIR_BISTFI_R6 (g : Nat) : Fld := ⟨(R.WEIR_BISTFI g), 12, 2⟩
def F.WEIR_BISTFI_R7 (g : Nat) : Fld := ⟨(R.WEIR_BISTFI g), 14, 2⟩
def F.WEIR_BISTFI_R8 (g : Nat) : Fld := ⟨(R.WEIR_BISTFI g), 16, 2⟩
def F.WEIR_BISTFI_R9 (g : Nat) : Fld := ⟨(R.WEIR_BISTFI g), 18, 2⟩
def F.WEIR_BISTFI_R10 (g : Nat) : Fld := ⟨(R.WEIR_BISTFI g), 20, 2⟩
def F.WEIR_BISTFI_R11 (g : Nat) : Fld := ⟨(R.WEIR_BISTFI g), 22, 2⟩
def F.WEIR_BISTFI_R12 (g : Nat) : Fld := ⟨(R.WEIR_BISTFI g), 24, 2⟩
def F.WEIR_BISTFI_R13 (g : Nat) : Fld := ⟨(R.WEIR_BISTFI g), 26, 2⟩
def F.WEIR_BISTFI_R14 (g : Nat) : Fld := ⟨(R.WEIR_BISTFI g), 28, 2⟩
def F.WEIR_BISTFI_R15 (g : Nat) : Fld := ⟨(R.WEIR_BISTFI g), 30, 2⟩
/-- WEIR.SFMCFG (spec/12_weir_faults.md). -/
def R.WEIR_SFMCFG : Nat := 0x50000800
def F.WEIR_SFMCFG_RSTEN : Fld := ⟨R.WEIR_SFMCFG, 31, 1⟩
def F.WEIR_SFMCFG_WDT : Fld := ⟨R.WEIR_SFMCFG, 0, 16⟩
/-- WEIR.SFMSTAT (spec/12_weir_faults.md). -/
def R.WEIR_SFMSTAT : Nat := 0x50000804
def F.WEIR_SFMSTAT_RUN : Fld := ⟨R.WEIR_SFMSTAT, 31, 1⟩
def F.WEIR_SFMSTAT_LSERR : Fld := ⟨R.WEIR_SFMSTAT, 30, 1⟩
def F.WEIR_SFMSTAT_WDMISS : Fld := ⟨R.WEIR_SFMSTAT, 29, 1⟩
def F.WEIR_SFMSTAT_CFGERR : Fld := ⟨R.WEIR_SFMSTAT, 28, 1⟩
def F.WEIR_SFMSTAT_HBMISS : Fld := ⟨R.WEIR_SFMSTAT, 0, 8⟩
/-- WEIR.SUPHB (spec/12_weir_faults.md). -/
def R.WEIR_SUPHB : Nat := 0x50000808
def F.WEIR_SUPHB_KICK : Fld := ⟨R.WEIR_SUPHB, 0, 1⟩
/-- WEIR.SFMCRC (spec/12_weir_faults.md). -/
def R.WEIR_SFMCRC : Nat := 0x5000080C
def F.WEIR_SFMCRC_CRC : Fld := ⟨R.WEIR_SFMCRC, 0, 32⟩

def regTableWEIR0 : List RegRow := [
  ⟨0x50000000, [(6, 0x4)], 0x0, [⟨0, 32, .w1c⟩]⟩,
  ⟨0x50000020, [(6, 0x4)], 0x0, [⟨0, 32, .ro⟩]⟩,
  ⟨0x50000100, [(192, 0x4)], 0x0, [⟨30, 2, .ro⟩, ⟨27, 3, .ro⟩, ⟨17, 7, .ro⟩, ⟨0, 3, .rw⟩]⟩,
  ⟨0x50000400, [(17, 0x4)], 0x0, [⟨31, 1, .ro⟩, ⟨30, 1, .ro⟩, ⟨29, 1, .ro⟩, ⟨28, 1, .ro⟩, ⟨27, 1, .ro⟩, ⟨24, 3, .ro⟩, ⟨16, 8, .ro⟩, ⟨8, 8, .ro⟩]⟩,
  ⟨0x50000480, [(17, 0x4)], 0x7D0000A, [⟨16, 16, .rw⟩, ⟨0, 16, .rw⟩]⟩,
  ⟨0x50000500, [], 0x0, [⟨0, 17, .w1t⟩]⟩,
  ⟨0x50000504, [], 0x0, [⟨31, 1, .w1c⟩, ⟨0, 17, .w1c⟩]⟩,
  ⟨0x50000600, [], 0x0, [⟨31, 1, .ro⟩, ⟨30, 1, .w1c⟩, ⟨29, 1, .w1t⟩, ⟨0, 8, .ro⟩]⟩,
  ⟨0x50000700, [], 0x0, [⟨12, 4, .ro⟩, ⟨8, 4, .ro⟩, ⟨4, 4, .ro⟩, ⟨0, 4, .ro⟩]⟩,
  ⟨0x50000704, [(3, 0x4)], 0x0, [⟨0, 2, .ro⟩, ⟨2, 2, .ro⟩, ⟨4, 2, .ro⟩, ⟨6, 2, .ro⟩, ⟨8, 2, .ro⟩, ⟨10, 2, .ro⟩, ⟨12, 2, .ro⟩, ⟨14, 2, .ro⟩, ⟨16, 2, .ro⟩, ⟨18, 2, .ro⟩, ⟨20, 2, .ro⟩, ⟨22, 2, .ro⟩, ⟨24, 2, .ro⟩, ⟨26, 2, .ro⟩, ⟨28, 2, .ro⟩, ⟨30, 2, .ro⟩]⟩,
  ⟨0x50000710, [], 0x0, [⟨0, 2, .ro⟩, ⟨2, 2, .ro⟩, ⟨4, 2, .ro⟩, ⟨6, 2, .ro⟩, ⟨8, 2, .ro⟩, ⟨10, 2, .ro⟩, ⟨12, 2, .ro⟩, ⟨14, 2, .ro⟩, ⟨16, 2, .ro⟩, ⟨18, 2, .ro⟩, ⟨20, 2, .ro⟩, ⟨22, 2, .ro⟩, ⟨24, 2, .ro⟩, ⟨26, 2, .ro⟩, ⟨28, 2, .ro⟩, ⟨30, 2, .ro⟩]⟩,
  ⟨0x50000714, [(3, 0x4)], 0x0, [⟨0, 2, .ro⟩, ⟨2, 2, .ro⟩, ⟨4, 2, .ro⟩, ⟨6, 2, .ro⟩, ⟨8, 2, .ro⟩, ⟨10, 2, .ro⟩, ⟨12, 2, .ro⟩, ⟨14, 2, .ro⟩, ⟨16, 2, .ro⟩, ⟨18, 2, .ro⟩, ⟨20, 2, .ro⟩, ⟨22, 2, .ro⟩, ⟨24, 2, .ro⟩, ⟨26, 2, .ro⟩, ⟨28, 2, .ro⟩, ⟨30, 2, .ro⟩]⟩,
  ⟨0x50000720, [(2, 0x4)], 0x0, [⟨0, 2, .ro⟩, ⟨2, 2, .ro⟩, ⟨4, 2, .ro⟩, ⟨6, 2, .ro⟩, ⟨8, 2, .ro⟩, ⟨10, 2, .ro⟩, ⟨12, 2, .ro⟩, ⟨14, 2, .ro⟩, ⟨16, 2, .ro⟩, ⟨18, 2, .ro⟩, ⟨20, 2, .ro⟩, ⟨22, 2, .ro⟩, ⟨24, 2, .ro⟩, ⟨26, 2, .ro⟩, ⟨28, 2, .ro⟩, ⟨30, 2, .ro⟩]⟩,
  ⟨0x50000800, [], 0x8000000A, [⟨31, 1, .rw⟩, ⟨0, 16, .rw⟩]⟩,
  ⟨0x50000804, [], 0x0, [⟨31, 1, .ro⟩, ⟨30, 1, .ro⟩, ⟨29, 1, .w1c⟩, ⟨28, 1, .w1c⟩, ⟨0, 8, .ro⟩]⟩,
  ⟨0x50000808, [], 0x0, [⟨0, 1, .w1t⟩]⟩,
  ⟨0x5000080C, [], 0x0, [⟨0, 32, .rw⟩]⟩
]

/-- EVR.ROUTE[t] (spec/12_weir_faults.md). -/
def R.EVR_ROUTE (g : Nat) : Nat := 0x50008000 + 0x4 * g
def F.EVR_ROUTE_EN (g : Nat) : Fld := ⟨(R.EVR_ROUTE g), 31, 1⟩
def F.EVR_ROUTE_EV (g : Nat) : Fld := ⟨(R.EVR_ROUTE g), 0, 8⟩

def regTableEVR0 : List RegRow := [
  ⟨0x50008000, [(32, 0x4)], 0x0, [⟨31, 1, .rw⟩, ⟨0, 8, .rw⟩]⟩
]

/-- MODE.CUR (spec/02_device_modes.md). -/
def R.MODE_CUR : Nat := 0x50018000
def F.MODE_CUR_SEQ : Fld := ⟨R.MODE_CUR, 16, 8⟩
def F.MODE_CUR_PREV : Fld := ⟨R.MODE_CUR, 12, 4⟩
def F.MODE_CUR_MIN : Fld := ⟨R.MODE_CUR, 11, 1⟩
def F.MODE_CUR_WAKE : Fld := ⟨R.MODE_CUR, 10, 1⟩
def F.MODE_CUR_DPATH : Fld := ⟨R.MODE_CUR, 8, 2⟩
def F.MODE_CUR_MODE : Fld := ⟨R.MODE_CUR, 0, 4⟩
/-- MODE.REQ (spec/02_device_modes.md). -/
def R.MODE_REQ : Nat := 0x50018004
def F.MODE_REQ_REFUSE : Fld := ⟨R.MODE_REQ, 8, 8⟩
def F.MODE_REQ_GO : Fld := ⟨R.MODE_REQ, 4, 1⟩
def F.MODE_REQ_TARGET : Fld := ⟨R.MODE_REQ, 0, 4⟩
/-- MODE.CAUSE (spec/02_device_modes.md). -/
def R.MODE_CAUSE : Nat := 0x50018008
def F.MODE_CAUSE_EVSRC : Fld := ⟨R.MODE_CAUSE, 8, 8⟩
def F.MODE_CAUSE_NOFLASH : Fld := ⟨R.MODE_CAUSE, 6, 1⟩
def F.MODE_CAUSE_STOPTMO : Fld := ⟨R.MODE_CAUSE, 5, 1⟩
def F.MODE_CAUSE_SOTMO : Fld := ⟨R.MODE_CAUSE, 4, 1⟩
def F.MODE_CAUSE_BOOTFAIL : Fld := ⟨R.MODE_CAUSE, 3, 1⟩
def F.MODE_CAUSE_FATAL : Fld := ⟨R.MODE_CAUSE, 2, 1⟩
def F.MODE_CAUSE_WEIRSO : Fld := ⟨R.MODE_CAUSE, 1, 1⟩
def F.MODE_CAUSE_STO : Fld := ⟨R.MODE_CAUSE, 0, 1⟩
/-- MODE.WAKEEN (spec/02_device_modes.md). -/
def R.MODE_WAKEEN : Nat := 0x50018010
def F.MODE_WAKEEN_HOSTCS : Fld := ⟨R.MODE_WAKEEN, 4, 1⟩
def F.MODE_WAKEEN_ALARM : Fld := ⟨R.MODE_WAKEEN, 3, 1⟩
def F.MODE_WAKEEN_FI : Fld := ⟨R.MODE_WAKEEN, 2, 1⟩
def F.MODE_WAKEEN_ETH2 : Fld := ⟨R.MODE_WAKEEN, 1, 1⟩
def F.MODE_WAKEEN_CAN : Fld := ⟨R.MODE_WAKEEN, 0, 1⟩
/-- MODE.WAKESRC (spec/02_device_modes.md). -/
def R.MODE_WAKESRC : Nat := 0x50018014
def F.MODE_WAKESRC_FAULT : Fld := ⟨R.MODE_WAKESRC, 5, 1⟩
def F.MODE_WAKESRC_SRC : Fld := ⟨R.MODE_WAKESRC, 0, 5⟩
/-- MODE.TIMERS (spec/02_device_modes.md). -/
def R.MODE_TIMERS : Nat := 0x50018018
def F.MODE_TIMERS_STOPTMO : Fld := ⟨R.MODE_TIMERS, 16, 16⟩
def F.MODE_TIMERS_DERHOLD : Fld := ⟨R.MODE_TIMERS, 0, 16⟩
/-- MODE.HLINK (spec/02_device_modes.md). -/
def R.MODE_HLINK : Nat := 0x5001801C
def F.MODE_HLINK_LOST : Fld := ⟨R.MODE_HLINK, 31, 1⟩
def F.MODE_HLINK_TMO : Fld := ⟨R.MODE_HLINK, 0, 16⟩
/-- MODE.AXST0 (spec/02_device_modes.md). -/
def R.MODE_AXST0 : Nat := 0x50018020
def F.MODE_AXST0_S0 : Fld := ⟨R.MODE_AXST0, 0, 4⟩
def F.MODE_AXST0_S1 : Fld := ⟨R.MODE_AXST0, 4, 4⟩
def F.MODE_AXST0_S2 : Fld := ⟨R.MODE_AXST0, 8, 4⟩
def F.MODE_AXST0_S3 : Fld := ⟨R.MODE_AXST0, 12, 4⟩
def F.MODE_AXST0_S4 : Fld := ⟨R.MODE_AXST0, 16, 4⟩
def F.MODE_AXST0_S5 : Fld := ⟨R.MODE_AXST0, 20, 4⟩
def F.MODE_AXST0_S6 : Fld := ⟨R.MODE_AXST0, 24, 4⟩
def F.MODE_AXST0_S7 : Fld := ⟨R.MODE_AXST0, 28, 4⟩
/-- MODE.AXST1 (spec/02_device_modes.md). -/
def R.MODE_AXST1 : Nat := 0x50018024
def F.MODE_AXST1_S0 : Fld := ⟨R.MODE_AXST1, 0, 4⟩
def F.MODE_AXST1_S1 : Fld := ⟨R.MODE_AXST1, 4, 4⟩
def F.MODE_AXST1_S2 : Fld := ⟨R.MODE_AXST1, 8, 4⟩
def F.MODE_AXST1_S3 : Fld := ⟨R.MODE_AXST1, 12, 4⟩
def F.MODE_AXST1_S4 : Fld := ⟨R.MODE_AXST1, 16, 4⟩
def F.MODE_AXST1_S5 : Fld := ⟨R.MODE_AXST1, 20, 4⟩
def F.MODE_AXST1_S6 : Fld := ⟨R.MODE_AXST1, 24, 4⟩
def F.MODE_AXST1_S7 : Fld := ⟨R.MODE_AXST1, 28, 4⟩
/-- MODE.SCRCFG (spec/17_background_and_guarantees.md). -/
def R.MODE_SCRCFG : Nat := 0x50018100
def F.MODE_SCRCFG_EN : Fld := ⟨R.MODE_SCRCFG, 31, 1⟩
def F.MODE_SCRCFG_REG : Fld := ⟨R.MODE_SCRCFG, 16, 5⟩
def F.MODE_SCRCFG_PASS : Fld := ⟨R.MODE_SCRCFG, 0, 16⟩
/-- MODE.SCRSTAT[r] (spec/17_background_and_guarantees.md). -/
def R.MODE_SCRSTAT (g : Nat) : Nat := 0x50018110 + 0x4 * g
def F.MODE_SCRSTAT_LAG (g : Nat) : Fld := ⟨(R.MODE_SCRSTAT g), 31, 1⟩
def F.MODE_SCRSTAT_PASSCNT (g : Nat) : Fld := ⟨(R.MODE_SCRSTAT g), 0, 16⟩
/-- MODE.SCRCNT[r] (spec/17_background_and_guarantees.md). -/
def R.MODE_SCRCNT (g : Nat) : Nat := 0x50018130 + 0x4 * g
def F.MODE_SCRCNT_SBCNT (g : Nat) : Fld := ⟨(R.MODE_SCRCNT g), 16, 16⟩
def F.MODE_SCRCNT_DBCNT (g : Nat) : Fld := ⟨(R.MODE_SCRCNT g), 0, 16⟩
/-- MODE.SCRERR (spec/17_background_and_guarantees.md). -/
def R.MODE_SCRERR : Nat := 0x50018150
def F.MODE_SCRERR_V : Fld := ⟨R.MODE_SCRERR, 31, 1⟩
def F.MODE_SCRERR_REGION : Fld := ⟨R.MODE_SCRERR, 28, 3⟩
def F.MODE_SCRERR_ENG : Fld := ⟨R.MODE_SCRERR, 24, 4⟩
def F.MODE_SCRERR_OFS : Fld := ⟨R.MODE_SCRERR, 0, 22⟩
/-- MODE.BGSTAT (spec/17_background_and_guarantees.md). -/
def R.MODE_BGSTAT : Nat := 0x50018164
def F.MODE_BGSTAT_WUHOLD : Fld := ⟨R.MODE_BGSTAT, 16, 16⟩
def F.MODE_BGSTAT_TELLATE : Fld := ⟨R.MODE_BGSTAT, 0, 16⟩

def regTableMODE0 : List RegRow := [
  ⟨0x50018000, [], 0x0, [⟨16, 8, .ro⟩, ⟨12, 4, .ro⟩, ⟨11, 1, .ro⟩, ⟨10, 1, .ro⟩, ⟨8, 2, .ro⟩, ⟨0, 4, .ro⟩]⟩,
  ⟨0x50018004, [], 0x0, [⟨8, 8, .ro⟩, ⟨4, 1, .w1t⟩, ⟨0, 4, .rw⟩]⟩,
  ⟨0x50018008, [], 0x0, [⟨8, 8, .ro⟩, ⟨6, 1, .ro⟩, ⟨5, 1, .ro⟩, ⟨4, 1, .ro⟩, ⟨3, 1, .ro⟩, ⟨2, 1, .ro⟩, ⟨1, 1, .ro⟩, ⟨0, 1, .ro⟩]⟩,
  ⟨0x50018010, [], 0x11, [⟨4, 1, .rw⟩, ⟨3, 1, .rw⟩, ⟨2, 1, .rw⟩, ⟨1, 1, .rw⟩, ⟨0, 1, .rw⟩]⟩,
  ⟨0x50018014, [], 0x0, [⟨5, 1, .w1c⟩, ⟨0, 5, .w1c⟩]⟩,
  ⟨0x50018018, [], 0x12C03E8, [⟨16, 16, .rw⟩, ⟨0, 16, .rw⟩]⟩,
  ⟨0x5001801C, [], 0x0, [⟨31, 1, .w1c⟩, ⟨0, 16, .rw⟩]⟩,
  ⟨0x50018020, [], 0x0, [⟨0, 4, .ro⟩, ⟨4, 4, .ro⟩, ⟨8, 4, .ro⟩, ⟨12, 4, .ro⟩, ⟨16, 4, .ro⟩, ⟨20, 4, .ro⟩, ⟨24, 4, .ro⟩, ⟨28, 4, .ro⟩]⟩,
  ⟨0x50018024, [], 0x0, [⟨0, 4, .ro⟩, ⟨4, 4, .ro⟩, ⟨8, 4, .ro⟩, ⟨12, 4, .ro⟩, ⟨16, 4, .ro⟩, ⟨20, 4, .ro⟩, ⟨24, 4, .ro⟩, ⟨28, 4, .ro⟩]⟩,
  ⟨0x50018100, [], 0x801F00C8, [⟨31, 1, .rw⟩, ⟨16, 5, .rw⟩, ⟨0, 16, .rw⟩]⟩,
  ⟨0x50018110, [(5, 0x4)], 0x0, [⟨31, 1, .w1c⟩, ⟨0, 16, .ro⟩]⟩,
  ⟨0x50018130, [(5, 0x4)], 0x0, [⟨16, 16, .ro⟩, ⟨0, 16, .ro⟩]⟩,
  ⟨0x50018150, [], 0x0, [⟨31, 1, .w1c⟩, ⟨28, 3, .ro⟩, ⟨24, 4, .ro⟩, ⟨0, 22, .ro⟩]⟩,
  ⟨0x50018164, [], 0x0, [⟨16, 16, .ro⟩, ⟨0, 16, .ro⟩]⟩
]

/-- CLK.CFG (spec/19_clocks_reset_power.md). -/
def R.CLK_CFG : Nat := 0x50010000
def F.CLK_CFG_CLKSEL : Fld := ⟨R.CLK_CFG, 0, 1⟩
/-- CLK.STAT (spec/19_clocks_reset_power.md). -/
def R.CLK_STAT : Nat := 0x50010004
def F.CLK_STAT_MLOCK : Fld := ⟨R.CLK_STAT, 31, 1⟩
def F.CLK_STAT_SLOCK : Fld := ⟨R.CLK_STAT, 30, 1⟩
def F.CLK_STAT_SBYLOCK : Fld := ⟨R.CLK_STAT, 29, 1⟩
def F.CLK_STAT_XOK : Fld := ⟨R.CLK_STAT, 28, 1⟩
def F.CLK_STAT_SXOK : Fld := ⟨R.CLK_STAT, 27, 1⟩
def F.CLK_STAT_X32OK : Fld := ⟨R.CLK_STAT, 26, 1⟩
def F.CLK_STAT_MISMATCH : Fld := ⟨R.CLK_STAT, 25, 1⟩
def F.CLK_STAT_SFLOST : Fld := ⟨R.CLK_STAT, 24, 1⟩
def F.CLK_STAT_IRSTIGN : Fld := ⟨R.CLK_STAT, 23, 1⟩
def F.CLK_STAT_RSTACC : Fld := ⟨R.CLK_STAT, 22, 1⟩
def F.CLK_STAT_DEV : Fld := ⟨R.CLK_STAT, 0, 16⟩
/-- CLK.RSTCAUSE (spec/19_clocks_reset_power.md). -/
def R.CLK_RSTCAUSE : Nat := 0x50010008
def F.CLK_RSTCAUSE_SCLK : Fld := ⟨R.CLK_RSTCAUSE, 7, 1⟩
def F.CLK_RSTCAUSE_MCLK : Fld := ⟨R.CLK_RSTCAUSE, 6, 1⟩
def F.CLK_RSTCAUSE_UPD : Fld := ⟨R.CLK_RSTCAUSE, 5, 1⟩
def F.CLK_RSTCAUSE_SFM : Fld := ⟨R.CLK_RSTCAUSE, 4, 1⟩
def F.CLK_RSTCAUSE_HOST : Fld := ⟨R.CLK_RSTCAUSE, 3, 1⟩
def F.CLK_RSTCAUSE_BOR : Fld := ⟨R.CLK_RSTCAUSE, 1, 1⟩
def F.CLK_RSTCAUSE_POR : Fld := ⟨R.CLK_RSTCAUSE, 0, 1⟩
/-- CLK.IRST (spec/19_clocks_reset_power.md). -/
def R.CLK_IRST : Nat := 0x5001000C
def F.CLK_IRST_FIELD : Fld := ⟨R.CLK_IRST, 5, 1⟩
def F.CLK_IRST_CAN : Fld := ⟨R.CLK_IRST, 4, 1⟩
def F.CLK_IRST_NETWORK : Fld := ⟨R.CLK_IRST, 3, 1⟩
def F.CLK_IRST_SENSE : Fld := ⟨R.CLK_IRST, 2, 1⟩
def F.CLK_IRST_TIMEBASE : Fld := ⟨R.CLK_IRST, 1, 1⟩
def F.CLK_IRST_COMPUTE : Fld := ⟨R.CLK_IRST, 0, 1⟩
/-- CLK.SUPMON (spec/19_clocks_reset_power.md). -/
def R.CLK_SUPMON : Nat := 0x50010010
def F.CLK_SUPMON_VDRV : Fld := ⟨R.CLK_SUPMON, 16, 16⟩
def F.CLK_SUPMON_VDRVOFF : Fld := ⟨R.CLK_SUPMON, 7, 1⟩
def F.CLK_SUPMON_VDRVIN : Fld := ⟨R.CLK_SUPMON, 6, 1⟩
def F.CLK_SUPMON_VDRVARM : Fld := ⟨R.CLK_SUPMON, 5, 1⟩
def F.CLK_SUPMON_IO33LO : Fld := ⟨R.CLK_SUPMON, 4, 1⟩
def F.CLK_SUPMON_IO18LO : Fld := ⟨R.CLK_SUPMON, 3, 1⟩
def F.CLK_SUPMON_CORELO : Fld := ⟨R.CLK_SUPMON, 2, 1⟩
def F.CLK_SUPMON_RILLLO : Fld := ⟨R.CLK_SUPMON, 1, 1⟩
/-- CLK.TEMP (spec/19_clocks_reset_power.md). -/
def R.CLK_TEMP : Nat := 0x50010014
def F.CLK_TEMP_FLD : Fld := ⟨R.CLK_TEMP, 16, 16⟩
def F.CLK_TEMP_LOG : Fld := ⟨R.CLK_TEMP, 0, 16⟩

def regTableCLK0 : List RegRow := [
  ⟨0x50010000, [], 0x0, [⟨0, 1, .ro⟩]⟩,
  ⟨0x50010004, [], 0x0, [⟨31, 1, .ro⟩, ⟨30, 1, .ro⟩, ⟨29, 1, .ro⟩, ⟨28, 1, .ro⟩, ⟨27, 1, .ro⟩, ⟨26, 1, .ro⟩, ⟨25, 1, .w1c⟩, ⟨24, 1, .w1c⟩, ⟨23, 1, .w1c⟩, ⟨22, 1, .w1c⟩, ⟨0, 16, .ro⟩]⟩,
  ⟨0x50010008, [], 0x1, [⟨7, 1, .w1c⟩, ⟨6, 1, .w1c⟩, ⟨5, 1, .w1c⟩, ⟨4, 1, .w1c⟩, ⟨3, 1, .w1c⟩, ⟨1, 1, .w1c⟩, ⟨0, 1, .w1c⟩]⟩,
  ⟨0x5001000C, [], 0x3F, [⟨5, 1, .rw⟩, ⟨4, 1, .rw⟩, ⟨3, 1, .rw⟩, ⟨2, 1, .rw⟩, ⟨1, 1, .rw⟩, ⟨0, 1, .rw⟩]⟩,
  ⟨0x50010010, [], 0x0, [⟨16, 16, .ro⟩, ⟨7, 1, .ro⟩, ⟨6, 1, .ro⟩, ⟨5, 1, .ro⟩, ⟨4, 1, .ro⟩, ⟨3, 1, .ro⟩, ⟨2, 1, .ro⟩, ⟨1, 1, .ro⟩]⟩,
  ⟨0x50010014, [], 0x0, [⟨16, 16, .ro⟩, ⟨0, 16, .ro⟩]⟩
]

/-- STRAP.VAL (spec/20_package_and_straps.md). -/
def R.STRAP_VAL : Nat := 0x50020000
def F.STRAP_VAL_BOOTSEL : Fld := ⟨R.STRAP_VAL, 12, 3⟩
def F.STRAP_VAL_HOSTSEL : Fld := ⟨R.STRAP_VAL, 10, 2⟩
def F.STRAP_VAL_NODEID : Fld := ⟨R.STRAP_VAL, 6, 4⟩
def F.STRAP_VAL_CLKSEL : Fld := ⟨R.STRAP_VAL, 5, 1⟩
def F.STRAP_VAL_GLPOL : Fld := ⟨R.STRAP_VAL, 4, 1⟩
def F.STRAP_VAL_SAFEST : Fld := ⟨R.STRAP_VAL, 2, 2⟩
def F.STRAP_VAL_FLDSTBY : Fld := ⟨R.STRAP_VAL, 1, 1⟩
/-- STRAP.STAT (spec/20_package_and_straps.md). -/
def R.STRAP_STAT : Nat := 0x50020004
def F.STRAP_STAT_UNST : Fld := ⟨R.STRAP_STAT, 1, 14⟩
def F.STRAP_STAT_UNSTABLE : Fld := ⟨R.STRAP_STAT, 0, 1⟩
/-- STRAP.ID (spec/20_package_and_straps.md). -/
def R.STRAP_ID : Nat := 0x50020008
def F.STRAP_ID_PART : Fld := ⟨R.STRAP_ID, 16, 16⟩
def F.STRAP_ID_REV : Fld := ⟨R.STRAP_ID, 8, 8⟩
def F.STRAP_ID_PKG : Fld := ⟨R.STRAP_ID, 0, 8⟩

def regTableSTRAP0 : List RegRow := [
  ⟨0x50020000, [], 0x0, [⟨12, 3, .ro⟩, ⟨10, 2, .ro⟩, ⟨6, 4, .ro⟩, ⟨5, 1, .ro⟩, ⟨4, 1, .ro⟩, ⟨2, 2, .ro⟩, ⟨1, 1, .ro⟩]⟩,
  ⟨0x50020004, [], 0x0, [⟨1, 14, .ro⟩, ⟨0, 1, .ro⟩]⟩,
  ⟨0x50020008, [], 0x16B001, [⟨16, 16, .ro⟩, ⟨8, 8, .ro⟩, ⟨0, 8, .ro⟩]⟩
]

/-- SEC.LCS (spec/18_security_and_debug.md). -/
def R.SEC_LCS : Nat := 0x50030000
def F.SEC_LCS_PEND : Fld := ⟨R.SEC_LCS, 4, 4⟩
def F.SEC_LCS_LCS : Fld := ⟨R.SEC_LCS, 0, 4⟩
/-- SEC.KEYST (spec/18_security_and_debug.md). -/
def R.SEC_KEYST : Nat := 0x50030004
def F.SEC_KEYST_IKV : Fld := ⟨R.SEC_KEYST, 5, 1⟩
def F.SEC_KEYST_KH1R : Fld := ⟨R.SEC_KEYST, 4, 1⟩
def F.SEC_KEYST_KH1V : Fld := ⟨R.SEC_KEYST, 3, 1⟩
def F.SEC_KEYST_KH0R : Fld := ⟨R.SEC_KEYST, 2, 1⟩
def F.SEC_KEYST_KH0V : Fld := ⟨R.SEC_KEYST, 1, 1⟩
def F.SEC_KEYST_OTPOK : Fld := ⟨R.SEC_KEYST, 0, 1⟩
/-- SEC.AUTH (spec/18_security_and_debug.md). -/
def R.SEC_AUTH : Nat := 0x50030008
def F.SEC_AUTH_FAIL : Fld := ⟨R.SEC_AUTH, 8, 8⟩
def F.SEC_AUTH_LOCK : Fld := ⟨R.SEC_AUTH, 7, 1⟩
def F.SEC_AUTH_GRANT : Fld := ⟨R.SEC_AUTH, 0, 4⟩
/-- SEC.DBG (spec/18_security_and_debug.md). -/
def R.SEC_DBG : Nat := 0x5003000C
def F.SEC_DBG_PORTOFF : Fld := ⟨R.SEC_DBG, 3, 1⟩
def F.SEC_DBG_HALTED : Fld := ⟨R.SEC_DBG, 2, 1⟩
def F.SEC_DBG_LEVEL : Fld := ⟨R.SEC_DBG, 0, 2⟩
/-- SEC.BOOT (spec/18_security_and_debug.md). -/
def R.SEC_BOOT : Nat := 0x50030010
def F.SEC_BOOT_VERSION : Fld := ⟨R.SEC_BOOT, 24, 8⟩
def F.SEC_BOOT_SLOT : Fld := ⟨R.SEC_BOOT, 10, 2⟩
def F.SEC_BOOT_ENC : Fld := ⟨R.SEC_BOOT, 9, 1⟩
def F.SEC_BOOT_FALLBACK : Fld := ⟨R.SEC_BOOT, 8, 1⟩
def F.SEC_BOOT_FAILB : Fld := ⟨R.SEC_BOOT, 4, 4⟩
def F.SEC_BOOT_FAILA : Fld := ⟨R.SEC_BOOT, 0, 4⟩
/-- SEC.ARB[k] (spec/18_security_and_debug.md). -/
def R.SEC_ARB (g : Nat) : Nat := 0x50030040 + 0x4 * g
def F.SEC_ARB_VALUE (g : Nat) : Fld := ⟨(R.SEC_ARB g), 0, 7⟩

def regTableSEC0 : List RegRow := [
  ⟨0x50030000, [], 0x0, [⟨4, 4, .ro⟩, ⟨0, 4, .ro⟩]⟩,
  ⟨0x50030004, [], 0x1, [⟨5, 1, .ro⟩, ⟨4, 1, .ro⟩, ⟨3, 1, .ro⟩, ⟨2, 1, .ro⟩, ⟨1, 1, .ro⟩, ⟨0, 1, .ro⟩]⟩,
  ⟨0x50030008, [], 0x0, [⟨8, 8, .ro⟩, ⟨7, 1, .ro⟩, ⟨0, 4, .ro⟩]⟩,
  ⟨0x5003000C, [], 0x0, [⟨3, 1, .ro⟩, ⟨2, 1, .ro⟩, ⟨0, 2, .ro⟩]⟩,
  ⟨0x50030010, [], 0x0, [⟨24, 8, .ro⟩, ⟨10, 2, .ro⟩, ⟨9, 1, .ro⟩, ⟨8, 1, .ro⟩, ⟨4, 4, .ro⟩, ⟨0, 4, .ro⟩]⟩,
  ⟨0x50030040, [(16, 0x4)], 0x0, [⟨0, 7, .ro⟩]⟩
]

end Sys2Proof.Machine
end

