-- ==== Sys2Proof/Machine/Registers.lean ====
section
/-!
DEFINITION. The whole register table (what REGISTER_WRITE writes through, R4) and the reset values of every register.
Straps read as open balls (all 0, R471) and OTP as Blank (all 0, R429): DESIGN CHOICE, assumption log 3.
-/

namespace Sys2Proof.Machine

/-- Every register of the spec, block by block. -/
def regTable : List RegRow :=
  regTableCE0 ++
  regTableCB0 ++
  regTableES0 ++
  regTableSLU0 ++
  regTableSPW0 ++
  regTableDLD0 ++
  regTableGL0 ++
  regTableSDF0 ++
  regTableADC0 ++
  regTableENC0 ++
  regTableWU0 ++
  regTablePU0 ++
  regTablePU1 ++
  regTableWEIR0 ++
  regTableEVR0 ++
  regTableMODE0 ++
  regTableCLK0 ++
  regTableSTRAP0 ++
  regTableSEC0 ++
  regTableHP0 ++
  regTableMBX0 ++
  regTableFIO0 ++
  regTableFSM0 ++
  regTableBSN0 ++
  regTableBSN1 ++
  regTableSW0 ++
  regTableTU0 ++
  regTableCAN0 ++
  regTableCAN1

/-- The rows whose reset value is not 0 and is the same for every instance. -/
def resetRows : List ResetRow := [
  ⟨0x40000000, [(24, 0x100)], 0x180⟩,
  ⟨0x4000001C, [(24, 0x100)], 0x10000000⟩,
  ⟨0x40002014, [(72, 0x40)], 0xA000000⟩,
  ⟨0x40004104, [(8, 0x10)], 0xC7⟩,
  ⟨0x40010000, [(72, 0x10)], 0x2800⟩,
  ⟨0x40010800, [], 0x1400⟩,
  ⟨0x40018400, [(16, 0x40)], 0xCC80640⟩,
  ⟨0x40018800, [], 0x640001⟩,
  ⟨0x70004000, [(24, 0x10)], 0x32645A60⟩,
  ⟨0x40020004, [(16, 0x800)], 0x10000⟩,
  ⟨0x40020024, [(16, 0x800)], 0xFF00⟩,
  ⟨0x4003000C, [(48, 0x20)], 0x80007FFF⟩,
  ⟨0x40030600, [(8, 0x4)], 0x8⟩,
  ⟨0x40038500, [(4, 0x4)], 0x80000000⟩,
  ⟨0x40038510, [], 0x80000000⟩,
  ⟨0x40038600, [(4, 0x10)], 0xC8⟩,
  ⟨0x40038604, [(4, 0x10)], 0x4000⟩,
  ⟨0x40040404, [(4, 0x20)], 0x5000FA0⟩,
  ⟨0x40060004, [], 0xD80E0410⟩,
  ⟨0x40060600, [(16, 0x20)], 0x1900⟩,
  ⟨0x40060604, [(16, 0x20)], 0x96AA40AF⟩,
  ⟨0x40060608, [(16, 0x20)], 0x3203E880⟩,
  ⟨0x4006060C, [(16, 0x20)], 0x9B96E6ED⟩,
  ⟨0x40060610, [(16, 0x20)], 0x80008000⟩,
  ⟨0x40060800, [], 0xA0788000⟩,
  ⟨0x40058030, [(16, 0x40)], 0x64000⟩,
  ⟨0x50000480, [(17, 0x4)], 0x7D0000A⟩,
  ⟨0x50000800, [], 0x8000000A⟩,
  ⟨0x50018010, [], 0x11⟩,
  ⟨0x50018018, [], 0x12C03E8⟩,
  ⟨0x50018100, [], 0x801F00C8⟩,
  ⟨0x50010008, [], 0x1⟩,
  ⟨0x5001000C, [], 0x3F⟩,
  ⟨0x50020008, [], 0x16B001⟩,
  ⟨0x50030004, [], 0x1⟩,
  ⟨0x60040000, [], 0x400800⟩,
  ⟨0x60040800, [(16, 0x4)], 0x8⟩,
  ⟨0x70000000, [(32, 0x4)], 0xA1000⟩,
  ⟨0x70000110, [], 0x64000A⟩,
  ⟨0x70000200, [(16, 0x4)], 0x41400000⟩,
  ⟨0x70008008, [], 0xFFFF⟩,
  ⟨0x60000000, [(5, 0x40)], 0x1⟩,
  ⟨0x60000200, [], 0xFA50⟩,
  ⟨0x60010000, [], 0x3E86408⟩,
  ⟨0x6001001C, [], 0x5⟩,
  ⟨0x60010024, [], 0x5⟩,
  ⟨0x60010050, [], 0xC350⟩,
  ⟨0x60020004, [(8, 0x1000)], 0x19F04000⟩,
  ⟨0x60020008, [(8, 0x1000)], 0x12882401⟩,
  ⟨0x6002000C, [(8, 0x1000)], 0x9E9E4800⟩,
  ⟨0x10000000, [], 0x16B001⟩,
  ⟨0x1000000C, [], 0x10000⟩,
  ⟨0x10000304, [], 0x7F⟩
]

/-- WEIR.RCT of the sources EV_8n+k, k = 0 to 7 (R290): class, default reaction, allowed reactions, REACT = DEF. -/
def rctAxis : List Nat := [0x587C0003, 0x607C0004, 0x507C0002, 0x483C0001, 0x8060001, 0x8060001, 0x48440001, 0xB0800006]

/-- WEIR.RCT of the device sources EV_128 to EV_191 (R290 and the source tables of spec/13 to spec/19); a reserved source has class 0b11. -/
def rctDevice : List Nat := [
  0x68400005, 0x68440005, 0x68440005, 0xB0800006, 0xB0800006, 0xB0800006, 0xB0800006, 0xB0800006,
  0xB0800006, 0x68400005, 0x68400005, 0xB0800006, 0x8060001, 0x8060001, 0x8060001, 0x8060001,
  0x48440001, 0x8060001, 0x8060001, 0x48440001, 0xB0800006, 0xB0800006, 0x48440001, 0xC0000000,
  0xB0800006, 0xB0800006, 0x68440005, 0x8060001, 0x68440005, 0x8060001, 0x8060001, 0x48440001,
  0x48440001, 0x8060001, 0x8060001, 0x8060001, 0x8060001, 0x48440001, 0xC0000000, 0xC0000000,
  0x48440001, 0x8060001, 0x8060001, 0x8060001, 0x8060001, 0x8060001, 0x8060001, 0xC0000000,
  0x48440001, 0x8060001, 0x48440001, 0x48440001, 0x8060001, 0x8060001, 0x48440001, 0x48440001,
  0x8060001, 0x8060001, 0x48440001, 0x48440001, 0x8060001, 0x8060001, 0x8060001, 0xB0800006
]

/-- Reset value of WEIR.RCT[e]. -/
def rctReset (e : Nat) : Nat :=
  if e < 128 then rctAxis.getD (e % 8) 0 else rctDevice.getD (e - 128) 0xC0000000

/-- Reset values of MBX.RSVQ[c] (spec/11). -/
def rsvqReset : List Nat := [0x01000020, 0x02000000, 0x02000040, 0x02000040, 0x01000060]

/-- The reset value of the register at an address. Addresses that hold no register, and registers that reset to 0, give 0.
Straps read as open balls (R471) and OTP as Blank: assumption log 3. -/
def regReset (a : Nat) : BitVec 32 :=
  if R.WEIR_RCT 0 ≤ a ∧ a < R.WEIR_RCT 192 then BitVec.ofNat 32 (rctReset ((a - R.WEIR_RCT 0) / 4))
  else if R.MBX_RSVQ 0 ≤ a ∧ a < R.MBX_RSVQ 5 then BitVec.ofNat 32 (rsvqReset.getD ((a - R.MBX_RSVQ 0) / 4) 0)
  else match resetRows.find? (fun r => r.covers a) with
    | some r => BitVec.ofNat 32 r.value
    | none => 0

end Sys2Proof.Machine
end

