-- ==== Sys2Proof/Machine/State.lean ====
section
/-!
DEFINITION. The state of the block as plain data. Every register of the register tables lives in `regs` (its home is its
address); the memories live in `mem` and `flash`; what the rules give the sequencers and the firmware beyond their
registers lives in the structures below, one per instance, in sparse maps whose unlisted instances read as at reset.
-/

namespace Sys2Proof.Machine

/-- What a step can stop with. -/
inductive Fault where
  /-- Raised by REGISTER_WRITE alone: SUP wrote to an address outside every region of the map. The access is not
  performed and raises a bus-error exception in SUP (R19). Safe: the spec describes no state after it. -/
  | busError
  deriving DecidableEq, Repr

/-- Why a command has no meaning. -/
inductive Refusal where
  /-- Raised by Dispatch alone, for a command whose meaning is not written. Safe: nothing is proved of it. -/
  | notModelled (mnemonic : String)
  deriving DecidableEq, Repr

/-- A consumed and unanswered host command (R267). -/
structure InService where
  opcode : Nat
  /-- The command holds a credit (R268). -/
  credited : Bool
  /-- A reserved byte, a reserved flag, LEN or NBUF of the descriptor breaks step 2 of R271. -/
  bad : Bool
  cmd : HostCmd
  /-- Steps 1 to 7 of R271 have passed; step 8 is due. -/
  checked : Bool
  /-- Step 8 has acted and the answer waits for an event. -/
  started : Bool
  deriving DecidableEq, Repr

/-- A response of a channel bound to a session that RSPCI has not yet passed (R281): its index, its descriptor, whether a datagram has
carried it, its result buffers until then, and from then on the staging buffers that hold copies of them. -/
structure SentRsp where
  index : Nat
  bytes : List Byte
  out : Bool
  bufs : List Nat
  staging : List Nat
  deriving DecidableEq, Repr

/-- A mailbox channel MB_k beyond its registers and rings. -/
structure Chan where
  /-- One entry per posted and not yet consumed command, oldest first: whether the doorbell gave it a credit (R268). -/
  posted : List Bool
  /-- Consumed and unanswered commands, oldest first (R267). -/
  inService : List InService
  /-- Aperture slots held for attached buffers of a started command: slot, buffer (R277). -/
  held : List (Nat × Nat)
  /-- Responses of a bound session not yet passed by RSPCI. -/
  sent : List SentRsp
  deriving DecidableEq, Repr

/-- An Ethernet host session (R280, R281). -/
structure Session where
  isOpen : Bool
  number : Nat
  peer : Nat
  key : List Byte
  /-- Bound channels, one bit each. -/
  chans : Nat
  /-- Last accepted SEQ plus 1 (0: none yet), and the last SEQ sent. -/
  rxNext : Nat
  txSeq : Nat
  drops : Nat
  deriving DecidableEq, Repr

/-- An open Update transfer (R438): the slot (0 A, 1 B, 2 + s engine slot s), length, next offset. -/
structure Update where
  slot : Nat
  length : Nat
  next : Nat
  deriving DecidableEq, Repr

/-- The security unit beyond SEC (R429 to R446). -/
structure SecState where
  /-- OTP bytes, by byte offset (R431). -/
  otp : SMap Byte
  /-- Key items written once: bit 0 KH0, 1 KH1, 2 IK, 3 MAC (R431). -/
  written : Nat
  /-- The nonce that awaits its response: purpose, level, bytes (R432). -/
  nonce : Option (Nat × Nat × List Byte)
  /-- The levels with a debug grant (R432), bit 0 Observe, bit 1 Halt, and those of them that the open session has used (R433). -/
  dbgGrant : Nat
  dbgUsed : Nat
  /-- Halted cores: CE_0 to CE_15 and, at bit 16, SUP (R439). -/
  halted : Nat
  /-- Breakpoints that a Halt session has set: core and program address (R439, R440). -/
  brks : List (Nat × Nat)
  /-- Halted cores that a Halt session lets make one step, as in `halted`. -/
  stepping : Nat
  /-- The TAP instruction in force: 0 BYPASS, 1 IDCODE, 2 EXTEST, 3 SAMPLE/PRELOAD, 4 SEC_CHAL, 5 SEC_OPEN. -/
  tap : Nat
  /-- Bytes the port gave out at the latest TAP instruction. -/
  tapOut : List Byte
  /-- The open Update transfer. -/
  upd : Option Update
  /-- Flash slots whose image is not marked valid: bit 0 A, 1 B, 2 + s engine slot s (R438). -/
  slotBad : Nat
  deriving DecidableEq, Repr

/-- What the running pass of a Spillway leads to. -/
inductive Pass where
  /-- A trip: the choice of R125 follows. -/
  | trip
  /-- A re-choice of R129; `upper` is the closed set, which is never chosen again. -/
  | rechoice (upper : Bool)
  /-- A release (R130) or a short that could not be applied (R127): Freewheel follows. -/
  | toFreewheel
  deriving DecidableEq, Repr

/-- A bridge group beyond SPW (R109, R121 to R135). -/
structure Group where
  pass : Pass
  /-- The short being applied, or in force, closes the upper set (R125, R127). -/
  shortUp : Bool
  /-- Step 2 has been sent and its end is not yet reported. -/
  phase2 : Bool
  /-- The links of a linked group pass through steps 1 and 2 after a short that failed, and step 2 is not yet sent (R127). -/
  again : Bool
  /-- Group positions whose upper, lower switch is held in step 1 (R121). -/
  step1Up : Nat
  step1Lo : Nat
  /-- Consecutive speed words at or below ASTH (R130). -/
  relCount : Nat
  /-- The effective enable has fallen since the latch, or since the last refused rise (R133, R134). -/
  fallSeen : Bool
  /-- The clear was accepted and a CZ of the leader has followed it; a set has been accepted since (R135). -/
  czAfterClear : Bool
  clearSet : Bool
  /-- Upper switches marked faulted by a bootstrap-UV hold alone (R119). -/
  bsuvUp : Nat
  /-- Settle masks of R300: running, and whether their action has ended. -/
  maskSpill : Bool
  maskSpillOver : Bool
  maskClear : Bool
  maskClearOver : Bool
  deriving DecidableEq, Repr

/-- A leg beyond ES, SLU and DLD. Legs LL_0 to LL_47 are 0 to 47, DL_0 to DL_23 are 48 to 71. -/
structure Leg where
  /-- Consecutive contradicting echoes of the upper, lower switch (R115). -/
  echoUp : Nat
  echoLo : Nat
  /-- The bootstrap hold of R119, and that the voltage has risen 0.5 V above BSUV since. -/
  bsuvHold : Bool
  bsuvOver : Bool
  /-- A turn-on of the upper, lower switch waits in the Sluice (R111). -/
  waitUp : Bool
  waitLo : Bool
  /-- A turn-on dropped for this period after an interlock timeout (R114, R115). -/
  dropped : Bool
  /-- R500, a leg in no group: 0 idle, 1 in step 1, 2 in step 2, 3 held off until EN falls, 4 until EN rises. -/
  off : Nat
  deriving DecidableEq, Repr

/-- Levels of the pins the rules read beyond their registers. -/
structure Pins where
  /-- EN_DL_N is low: direct legs enabled (R132). -/
  enDl : Bool
  /-- STO_A_N, STO_B_N are high after their filters, watched or not (R44, R120). -/
  stoA : Bool
  stoB : Bool
  deriving DecidableEq, Repr

/-- The Weir beyond its registers. -/
structure WeirState where
  /-- The notify queue of R303, oldest first, at most 32 events. -/
  nq : List Nat
  /-- Domains whose axis stop found the axis Energised (R293). -/
  stopFrom : Nat
  /-- Axis stops whose firmware part is due (R293), axis SafeOffs whose firmware part is due (R294). -/
  stopDue : Nat
  safeOffDue : Nat
  /-- Axis-stop masks of R300 running, and those whose action has ended. -/
  maskStop : Nat
  maskStopOver : Nat
  /-- Trigger-bus lines driven by the latest routed event (R312). -/
  lines : Nat
  /-- Starts that TIMEBASE has sent and that are on their way to their consumer, oldest first, those sent together in one list (R8):
  kind (0 task, 1 ADC sequence, 2 capture unit, 3 Cascade launch, 4 SSI read) and instance (task slot k of CE_e is 8 e + k). -/
  starts : List (List (Nat × Nat))
  /-- SUP has not kicked since the device reached SafeOff (R307). -/
  noKickSinceSafeOff : Bool
  /-- Self-test instances that ended inconclusive and await their retry (R305): test and instance. -/
  retry : List (Nat × Nat)
  deriving DecidableEq, Repr

/-- The mode controller beyond MODE. -/
structure ModeState where
  /-- The rest check of R40 runs for a SYS_MODE command of this channel, or for a write of MODE.REQ (16); and whether a mode
  change has meanwhile dropped the request (R31). -/
  restCheck : Option (Fin 17 × Bool)
  /-- Sources set in Standby, held by RILL, in order of assertion (R44). -/
  rillHeld : List Nat
  /-- Warm resets that are due, as bits of CLK.RSTCAUSE: 100 µs after a SYS_RESET answer, at the end of Update, at the
  SFM's request (R455). -/
  warmDue : Nat
  /-- Axes for which the firmware runs the speed task of R34 or R40. -/
  speedTasks : Nat
  /-- Axes that have failed the running rest check of R40. -/
  restFail : Nat
  /-- TU.CNT at the latest entry to Standby (R203, R360). -/
  standbyFrom : Nat
  /-- Words that the scrubber's present pass has read: region r, in a region of the engines engine e, at 16 r + e (R408). -/
  scrub : SMap Nat
  /-- Words of 8 bytes, by address / 8, with an uncorrectable error that an access or the scrubber has met and no agent has written since
  (R76, R410). -/
  bad : List Nat
  deriving DecidableEq, Repr

/-- A sample of a capture set that awaits its trigger decision (R322): the conditions met in it, those met by a Cascade pulse,
its record, the record's and the sample's instants, and whether it was taken in Filling. -/
structure SampleMet where
  met : Nat
  casc : Nat
  index : Nat
  recNs : Nat
  ns : Nat
  filling : Bool
  deriving DecidableEq, Repr

/-- A record formed and not yet written: its index since ARM, its Basin address, its words (R317). -/
structure BasinRec where
  index : Nat
  addr : Nat
  words : List Word
  deriving DecidableEq, Repr

/-- A capture set beyond BSN (R315 to R327). -/
structure CapSet where
  /-- Events of its sample clock since the latest whole (DIV + 1), and sample instants on their way, each with its value of TU.CNT where a
  grid mark gives it (R315, R352). -/
  clock : Nat
  due : List (Option Nat)
  /-- The record being formed: least and greatest word of each channel, samples taken, instant of its first sample. -/
  acc : List (Word × Word)
  accN : Nat
  accNs : Nat
  /-- Records formed since ARM, those not yet written, and those that an earlier arming formed and left unwritten (R317). -/
  formed : Nat
  queue : List BasinRec
  left : List BasinRec
  /-- Conditions armed for a rise, for a fall (R320). -/
  ra : Nat
  fa : Nat
  /-- Conditions that a line pulse or a command meets in the next sample, and those of them met by a Cascade pulse (R321). -/
  trig : Nat
  casc : Nat
  samples : List SampleMet
  /-- The trigger record's index, and the effective post-trigger count (R318). -/
  trigAt : Nat
  post : Nat
  /-- Stream bytes placed in buffers, and the staged buffers: buffer, stream offset, length (R325). -/
  fill : Nat
  staged : List (Nat × Nat × Nat)
  deriving DecidableEq, Repr

/-- The Cascade beyond BSN (R329 to R333). -/
structure Casc where
  /-- Consecutive SYNC_CLK edges within ±5 ns. -/
  run : Nat
  /-- A launch waits for its edge, and the SYNC_CLK periods TRIG_IO is still driven low. -/
  launch : Bool
  drive : Nat
  /-- Consecutive high samples of TRIG_IO before the present low ones, and consecutive low ones (R332). -/
  highs : Nat
  lows : Nat
  /-- Round-trip times of the running ping in edge units, the latest first, and the channel whose CASC_PING waits. -/
  rtts : List Nat
  waiter : Option (Fin 16)
  deriving DecidableEq, Repr

/-- The image loaded into an engine (R77, R79, R437): its identifier, its anti-rollback counter (16: none) and version, the
data-memory ranges it exports: first and last byte offset, writable (R75); the flash slot it came from or the bytes whose
signature was checked, and its part for this engine (R30). -/
structure EngImg where
  loaded : Bool
  ident : Nat
  arb : Nat
  version : Nat
  exports : List (Nat × Nat × Bool)
  stored : Option Nat
  image : List Byte
  part : Option EngPart
  deriving DecidableEq, Repr

/-- Clocks, resets and the boot ROM's progress beyond the CLK block (R447 to R463). -/
structure ClkState where
  /-- The straps of this power-on reset are not yet latched (R458). -/
  strapDue : Bool
  /-- The memory clear of this power-on reset is complete (R409). -/
  cleared : Bool
  /-- The host window has been served since the reset: READY outside Standby (R260). -/
  ready : Bool
  /-- The main clocks, the SAFETY clock have stopped on a clock fault (R452, R453). -/
  mainStopped : Bool
  safetyStopped : Bool
  /-- The forwarded field clock has stopped: the field die has removed drive (R9). -/
  fieldStopped : Bool
  /-- Warm resets of clock faults that are due, as bits of CLK.RSTCAUSE. -/
  faultDue : Nat
  /-- Consecutive windows with a deviation beyond 1 % (R451). -/
  devRun : Nat
  /-- VDRV is back above 11.5 V: the hold of the direct legs ends at the next CZ (R461). -/
  vdrvBack : Bool
  /-- Firmware slots that failed in this boot: 0, 1 or 2 (R436). -/
  tried : Nat
  /-- Mbanos has been started since the reset. -/
  started : Bool
  deriving DecidableEq, Repr

/-- One scheduled switching edge: its offset in edge units from the CZ that begins period `ptag` (modulo 16), R86, R89. -/
structure Edge where
  ptag : Nat
  offset : Nat
  upper : Bool
  on : Bool
  deriving DecidableEq, Repr

/-- What the edges emitted for a leg make of one period (R201): the conduction times of the two switches in edge units, their turn-ons and
turn-offs, and whether the leg was held when the period ended. -/
structure LegPeriod where
  upTime : Nat
  loTime : Nat
  upOn : Nat
  upOff : Nat
  loOn : Nat
  loOff : Nat
  held : Bool
  deriving DecidableEq, Repr

/-- The scheduler's own record of a leg: what it has emitted and what waits (R85 to R101). Times are in edge units from
the CZ that begins the period under computation. -/
structure Sched where
  /-- Pending shadow values copied at an accepted LDALL (R91). -/
  pendA : Nat
  pendB : Nat
  pendDT : Nat
  /-- Emitted edges not yet due, in order. -/
  edges : List Edge
  /-- The nominal on-interval of R85 runs on at the end of what has been emitted. -/
  nomOn : Bool
  /-- The commanded state after every emitted edge, and the time of the last turn-on emitted. -/
  planUp : Bool
  planLo : Bool
  upOnAt : Int
  loOnAt : Int
  /-- Periods in which a lower conduction interval of at least REFW has ended (R101): bit 0 the present one, bits 1 and 2 the next. -/
  lows : Nat
  /-- Consecutive full periods (R101). -/
  fullCount : Nat
  /-- Held off until a set loaded after the enable or the clear takes effect (R98, R135). -/
  awaitSet : Bool
  /-- A set accepted while the leg waits is the one it will start with. -/
  setTaken : Bool
  /-- A disable of R97 is under way: no edge at or after the CZ it waits for. -/
  disabling : Bool
  /-- EN has been written 0 and its disable has not yet taken effect (R100). -/
  enOff : Bool
  /-- The emitted edges of the present period and of the next ones, the states they leave the switches in at the present CZ, and the period
  that ended last (R201). -/
  past : List Edge
  wasUp : Bool
  wasLo : Bool
  period : LegPeriod
  deriving DecidableEq, Repr

/-- A carrier beyond CB (R83 to R107). -/
structure Carrier where
  /-- The active PERIOD, and the peaks of the present period's two ramps, corrections included. -/
  actPeriod : Nat
  peakUp : Nat
  peakDn : Nat
  /-- The active PHASE of a follower and what of a loaded PHASE is still to be worked off (R104). -/
  actPhase : Nat
  phaseLeft : Int
  /-- The pending set's values, whether this carrier has still to take it, whether it takes effect at CP, and whether the
  leader has taken it (R91). -/
  pendPeriod : Nat
  pendPhase : Nat
  takes : Bool
  pendAtCp : Bool
  leaderTook : Bool
  /-- The edges of the pending set have been computed (R96). -/
  computed : Bool
  /-- A follower enabled while its leader runs: it starts at the leader's next CZ (R103). -/
  startDue : Bool
  /-- The correction fixed for the next period (R106), those of the latest periods, the present one first, and the lengths in
  counts of the periods before the present one, latest first; at most 18 of each. -/
  nextCorr : Int
  corrs : List Int
  lens : List Nat
  /-- E' of R106, and how many CZs lie before the one at which its E was measured. -/
  ePrime : Int
  eSkip : Nat
  /-- The due ticks, as values of TU.CNT, of the network-grid marks on their way to this leader, the earliest sent first (R105, R357), and
  the value at the latest CZ. -/
  marks : List Nat
  zeroAt : Nat
  /-- The interval that follows the next boundary has been emitted; the length of the present period has been sent (R146). -/
  emitted : Bool
  lenSent : Bool
  /-- The length of the next period has been sent (R146). -/
  lenAhead : Bool
  deriving DecidableEq, Repr

/-- An interval timer ITM_k (R108): running, and the interval in force. -/
structure Timer where
  started : Bool
  interval : Nat
  deriving DecidableEq, Repr

/-- What a gate link's transmitter sends (R138, R142), with the payload fields the device fills. -/
inductive Frame where
  /-- The TRIP symbol. -/
  | trip
  /-- The MARK symbol of carrier slot `slot`. -/
  | mark (slot : Nat)
  | edge (seq : Nat) (entries : List (Nat × Edge))
  | softoff (step safe : Nat)
  | sync (slot ptag : Nat) (moff len : Nat)
  | config (cfgid legmap : Nat) (maxw : List Nat) (t1 : Nat) (par : List Byte)
  | heartbeat (token : Nat) (req : Bool)
  deriving DecidableEq, Repr

/-- An EDGE frame neither received nor lost (R151, R153). -/
structure OpenFrame where
  seq : Nat
  entries : List (Nat × Edge)
  resent : Bool
  deriving DecidableEq, Repr

/-- A gate link beyond GL (R143 to R154). -/
structure Link where
  /-- The frames and symbols the transmitter started latest, newest last, at most 16; the SYNC, CONFIG and HEARTBEAT frames it holds
  back (R123, R149). -/
  tx : List Frame
  held : List Frame
  /-- Consecutive valid symbols in TRAIN (R143). -/
  validSyms : Nat
  /-- Matching STATUS replies in MEASURE, bring-up returns without success (R143). -/
  replies : Nat
  returns : Nat
  /-- The latest TOKEN, the TOKENs of the HEARTBEATs with REQ that await their STATUS, newest first, at most 8 (R144), and the next
  CFGID. -/
  token : Nat
  asked : List Nat
  cfgid : Nat
  /-- The latest RTT values in edge units, newest first, at most eight (R144). -/
  rtts : List Int
  /-- Consecutive bad frames (R154). -/
  badRun : Nat
  /-- The next EDGE SEQ, and the frames in flight, oldest first. -/
  nextSeq : Nat
  opens : List OpenFrame
  /-- DES and UV flags of the latest good ECHO or STATUS, whose rise asserts (R155, R289). -/
  seenDes : Nat
  seenUv : Nat
  /-- Flags of the latest good STATUS that R133 counts as active: DES, UV and ILTO bits. -/
  stDes : Nat
  stUv : Nat
  stIlto : Nat
  /-- Gate bits whose switch contradicted in the latest ECHO (R133). -/
  contra : Nat
  /-- The link-reset mask of R300, and whether its action has ended. -/
  mask : Bool
  maskOver : Bool
  /-- R500, a link with no bound leg: 0 idle, 1 in step 1, 2 in step 2. -/
  off : Nat
  deriving DecidableEq, Repr

/-- A posted store of an engine's second lane (R72): address and bytes. -/
structure Posted where
  /-- The bytes of the store and their addresses. -/
  bytes : List (Nat × Byte)
  deriving DecidableEq, Repr

/-- What stalls an engine (R72, R73). -/
inductive Stall where
  | none
  /-- A load from another island: destination register, width in bytes (2: signed half-word, 8: pair), byte addresses, and whether a
  word of it meets an error. -/
  | load (dst size : Nat) (addrs : List Nat) (bad : Bool)
  /-- A store that waits for room in the second lane. -/
  | store (p : Posted)
  deriving DecidableEq, Repr

/-- The register bank and activation state of one task slot (R53, R62). Flags stand in `sr` at [3:0] as Z, N, C, V from bit
3 down, SATM at [4]; ACCSAT and SCALE are read from their registers. -/
structure Slot where
  x : SMap Word
  a : SMap (BitVec 40)
  e : SMap (BitVec 56)
  p : SMap Word
  pbase : SMap Word
  plen : SMap Word
  lc0 : Nat
  lc1 : Nat
  sr : Nat
  /-- Open hardware loops, innermost first: first address and end address. -/
  loops : List (Nat × Nat)
  /-- The return stack, newest first (R62). -/
  ret : List Nat
  /-- The program offset of the next instruction. -/
  pc : Nat
  /-- The datapath in force for the activation (R28): codes of MODE.CUR.DPATH. -/
  dp : Nat
  /-- Slots awaited by WAITV, 0 to 31 and 32 to 63. -/
  waitLo : Nat
  waitHi : Nat
  /-- A MAXI or MINI preempted after a group of four (R64): the next element, the best value so far and its number. -/
  scan : Option (Nat × Int × Nat)
  /-- Events counted by the task's divider (R65). -/
  div : Nat
  deriving DecidableEq, Repr

/-- A control engine beyond CE and its slots. -/
structure Engine where
  /-- Slots with an activation in progress, and those of them that wait in WAITV. -/
  active : Nat
  waiting : Nat
  stall : Stall
  /-- The second posted lane, oldest first, at most 8 entries (R72). -/
  lane : List Posted
  deriving DecidableEq, Repr

/-- The tags of the internal fabric (R426): bit n of `held` for n below 16 is the tag of a load of CE_n from another island, bits 16 to
63 are the shared tags; how many were issued and returned; the shared tag that is next in turn. -/
structure Tags where
  held : Nat
  issued : Nat
  returned : Nat
  turn : Nat
  deriving DecidableEq, Repr

/-- An open engine-code load (R79). -/
structure EngLoad where
  isOpen : Bool
  mask : Nat
  length : Nat
  ident : Nat
  /-- The image bytes received so far, in order. -/
  bytes : List Byte
  /-- Engines of the mask that CE.CTRL.HALT held before the load began (R77). -/
  held : Nat
  deriving DecidableEq, Repr

/-- A closed period-average window: it ends at CZ, its result carries INV, CALOFS at its opening, and whether the conditions of
R169 held at both its ends. -/
structure Window where
  atCz : Bool
  inv : Bool
  ofs : Int
  cal : Bool
  deriving DecidableEq, Repr

/-- A sigma-delta channel beyond SDF. -/
structure SdChan where
  /-- Period-average results of summed windows not yet valid, oldest first, in the layout of R170. -/
  paPend : List Nat
  /-- Window and sinc3 result counts modulo 16 (R170). -/
  paCount : Nat
  s3Count : Nat
  /-- The bitstream holds one value for the stuck run; a modulator fault has lasted since the enable (R162). -/
  stuck : Bool
  faulted : Bool
  /-- A passed carrier event has opened the present window, CALOFS at its opening, and whether the conditions of R169 have held since. -/
  isOpen : Bool
  openOfs : Int
  openCal : Bool
  /-- Sinc3 results delivered since the conditions of R169 last failed, at most 3. -/
  calRun : Nat
  /-- Windows that have closed and whose sums are still to come, oldest first (R164, R166). -/
  closed : List Window
  /-- The offset average in progress: sum in LSB of 24 bits, and results taken (R169). -/
  calSum : Int
  calN : Nat
  /-- The two latest period-average results, the newest first (R201). -/
  pas : List Nat
  deriving DecidableEq, Repr

/-- A sample of an ADC sequence whose results are not yet written: step, raw codes of the four converters, POL, run count, and the
converters trimmed at its sample instant (R174). -/
structure AdcSample where
  step : Nat
  codes : List Nat
  pol : Bool
  run : Nat
  trimmed : Nat
  deriving DecidableEq, Repr

/-- An ADC sequence beyond ADC. -/
structure AdcSeq where
  samples : List AdcSample
  /-- The next step to sample; sequence run count modulo 16; POL of the run (R176). -/
  next : Nat
  run : Nat
  pol : Bool
  /-- Gain and offset of each converter at the start of the run (R174). -/
  trims : List (Nat × Nat)
  /-- The next step waits for its converters (R173). -/
  waiting : Bool
  deriving DecidableEq, Repr

/-- The rest of SENSE, as one mask per kind of instance. -/
structure SenseState where
  /-- Converters trimmed since reset, and those whose trim ADC.CALCTL.NOW has asked for (R174). -/
  trimmed : Nat
  trimNow : Nat
  /-- Encoders with an index since the last push; capture units with a missed trigger since the last push (R170). -/
  idxSeen : Nat
  missSeen : Nat
  /-- SSI ports reading, those whose line was low at the start, those that have had a good read (R182, R183). -/
  reading : Nat
  notReady : Nat
  absGood : Nat
  /-- Capture units whose FI edge or index has come (R184). -/
  capDue : Nat
  deriving DecidableEq, Repr

/-- A setpoint of R191: mode 0 torque or current, 1 speed, 2 position, 3 profile, 4 DC-link voltage; value, feed-forward and
watchdog in ms. -/
structure Setpoint where
  mode : Nat
  value : Nat
  ff : Nat
  wdog : Nat
  deriving DecidableEq, Repr

/-- What the loop tasks of an axis hold (R191 to R200, R210, R245 to R247). Currents and references are signed 16.16. -/
structure Loop where
  /-- The setpoint in force, taken at the start of an activation (R191, R193). -/
  sp : Setpoint
  /-- The library parameters in force, by ID (R198). -/
  params : List (Nat × List Byte)
  /-- The present torque, current or voltage reference, and the integrator of the loop that gives it (R193). -/
  ref : Int
  integ : Int
  /-- The d and q current references of a machine, and what field weakening takes from the d reference, in 2^-16 A (R195, R196). -/
  idRef : Int
  iqRef : Int
  weak : Nat
  /-- The current limits in force for power into the load and back from it: derated, and capped in Service (R45, R200). -/
  limDrive : Nat
  limRegen : Nat
  /-- Clamps of the model-predictive law (R194), and of a stepper axis's coil voltages (R246). -/
  mpcsat : Nat
  coilSat : Nat
  /-- Consecutive updates with a current sum beyond ISUMTH (R210). -/
  sumRun : Nat
  /-- The position a stepper axis applied last, in counts, and its coil voltages in 2^-16 V (R245, R247). -/
  applied : Int
  uA : Int
  uB : Int
  /-- The step-clamp flag in the exported data memory (R247); a current beyond IMAX, a speed beyond NMAX at the latest update (R210). -/
  clamped : Bool
  beyond : Bool
  fast : Bool
  deriving DecidableEq, Repr

/-- An axis object of the firmware (R188 to R198). -/
structure Axis where
  configured : Bool
  type : Nat
  /-- The legs the function uses, one bit each; the leader carrier and the carrier count. -/
  legs : Nat
  leader : Nat
  count : Nat
  /-- The engine, 255 for none. -/
  engine : Nat
  sdi : Nat
  adc : Nat
  /-- Position source: kind (0 none, 1 ENC, 2 ABS, 3 resolver, 4 step count) and instance. -/
  posKind : Nat
  posInst : Nat
  /-- Rated and peak current, unsigned 16.16 A. -/
  rated : Nat
  peak : Nat
  /-- The two setpoint buffers, the newest first, and the sequence number (R191). -/
  sp : Setpoint
  spOld : Setpoint
  spSeq : Nat
  /-- The task ramps its reference to 0 (R192). -/
  ramping : Bool
  /-- Limits of AX_LIMITS: drive and regen current, speed (0: never set), Service cap. -/
  drive : Nat
  regen : Nat
  speed : Nat
  svcCap : Nat
  /-- Library parameters that have been written, by ID (R198). -/
  params : List (Nat × List Byte)
  /-- Legs that wait for HELD to be enabled again (R48). -/
  reenable : Bool
  /-- An axis stop takes the reference to 0, or freezes the angle of a stepper (R252, R293). -/
  stopping : Bool
  /-- A stepper's freeze (R252, R255): 0 none, 1 the next activation makes it, 2 that activation's load must still take effect, 3 the next CZ
  ends it, 4 complete. -/
  freeze : Nat
  /-- The standstill mode a stepper axis is in: 0 none, 1 hold, 2 freewheel, 3 short (R249). -/
  standstill : Nat
  /-- A start that waits for the legs of a stepper axis (R250): 0 none, 1 START, 2 ENGAGE. -/
  startWait : Nat
  /-- The step-clamp flag of R247. -/
  clamp : Bool
  /-- What its loop tasks hold. -/
  loop : Loop
  deriving DecidableEq, Repr

/-- A break of a gear table (R235): position, numerator, denominator, width. -/
structure Brk where
  pos : Int
  num : Int
  den : Nat
  width : Nat
  deriving DecidableEq, Repr

/-- A trajectory context as a sequencer last read it (R219). Positions are in 2^-32 counts, speeds in 1/16 count/s,
accelerations in count/s². -/
structure MoveCtx where
  /-- CTL.TYPE: 1 S-blend, 2 P-blend, 3 gear; others empty. -/
  typ : Nat
  /-- The context number. -/
  ctx : Nat
  target : Int
  rel : Bool
  vmax : Nat
  acc : Nat
  dec : Nat
  ldec : Nat
  tj : Nat
  tmove : Nat
  /-- The LIM word. -/
  lim : Nat
  engd : Nat
  num0 : Int
  den0 : Nat
  brks : List Brk
  msrc : Nat
  midx : Nat
  deriving DecidableEq, Repr

/-- A stretch of a curve (R222): from acceleration `a1` to `a2` in 2^-96 count/tick², by sin² where they differ, in `len` 2^-32 ticks. -/
structure Seg where
  a1 : Int
  a2 : Int
  len : Nat
  deriving DecidableEq, Repr

/-- What the reference of an axis is doing (R222 to R231). -/
structure Motion where
  /-- 0 S-blend, 1 P-blend, 2 a stop. -/
  kind : Nat
  /-- Position and speed where it began, in 2^-32 counts and 2^-64 count/tick; where it ends; its deceleration in count/s². -/
  p0 : Int
  v0 : Int
  goal : Int
  dec : Nat
  /-- The curve of an S-blend or a stop. -/
  segs : List Seg
  /-- Duration in ticks of a P-blend. -/
  len : Nat
  /-- Ticks since it began. -/
  elapsed : Nat
  /-- The goal of the S-blend that follows a stop (R225). -/
  next : Option Int
  deriving DecidableEq, Repr

/-- An axis in the profile unit beyond PU (R212 to R240). -/
structure Profile where
  /-- A profile tick has arrived and is not yet published. -/
  due : Bool
  /-- Its turn among the ticks that wait, by order of arrival (R214). -/
  turn : Nat
  /-- Ticks since the last served tick, those of dropped ticks since (R215), and the events that are on their way to be its ticks (R213). -/
  span : Nat
  missed : Nat
  arrived : Nat
  /-- The master's sample at the tick in its own counts, and whether it is valid; the feedback position in 2^-32 counts. -/
  sample : Int
  sampleOk : Bool
  fb : Int
  /-- Requests that wait for the next tick, and those the due tick has taken: bit 0 START, 1 STOP, 2 QSTOP, 3 SWAPNOW,
  4 ENGAGE, 5 a new target. -/
  req : Nat
  taken : Nat
  /-- Contexts committed: waiting for the next tick, and taken by the due tick. -/
  commits : List Nat
  takenCommits : List Nat
  /-- The active context as last read. -/
  ctx : MoveCtx
  /-- The reference: position in 2^-32 counts, speed in 2^-64 count/tick, acceleration in 2^-96 count/tick² (R217); the last target. -/
  pos : Int
  vel : Int
  acc : Int
  last : Int
  motion : Option Motion
  /-- 0 no gearing, 1 engaging, 2 geared. -/
  gear : Nat
  /-- Master travel since engagement and the unwrapped master position in 2^-32 counts; whether a sample has been taken. -/
  travel : Nat
  master : Int
  masterSeen : Bool
  prevRaw : Int
  /-- SOFF of R236 as a fraction in 2^-32 counts. -/
  soffNum : Int
  soffDen : Nat
  /-- The stop under way is a limit stop (R228). -/
  limited : Bool
  /-- The channels whose commands wait for the tick that reads their commit. -/
  waiters : List Nat
  deriving DecidableEq, Repr

/-- A virtual master as applied by the last write of VMTH (R234): in use, written, position in 2^-32 counts, speed in
1/16 count/s, network time in ns, timeout in µs. -/
structure VMaster where
  en : Bool
  written : Bool
  pos : Int
  vel : Int
  time : Nat
  timeout : Nat
  deriving DecidableEq, Repr

/-- A switch position of the wear unit beyond WU (R201 to R208). -/
structure WearPos where
  /-- The four Foster stages in 2^-16 °C. -/
  theta : List Int
  /-- Tj in 1/16 °C. -/
  tj : Int
  /-- The residue stack, oldest first, in 1/16 °C. -/
  stack : List Int
  /-- The running extreme, none before the first Tj, and the direction of Tj: 0 none yet, 1 rising, 2 falling. -/
  extreme : Option Int
  dir : Nat
  /-- The life sum in pico-life. -/
  life : Nat
  /-- A record has been restored since PORST_N (R208). -/
  restored : Bool
  /-- Increments kept while the queue was full (R414): field and amount; and whether the present period has kept one. -/
  held : List (Nat × Nat)
  holding : Bool
  /-- A flush waits for the update of the present period (R209). -/
  flush : Bool
  /-- The words of the position's table set, and whether they were valid, before a load in the present period (R209). -/
  old : Option (Bool × List Word)
  deriving DecidableEq, Repr

/-- An increment of a wear record (R414): position, field (0 to 255 histogram bins, 256 life sum, 257 half cycles,
258 stack overflows) and amount. -/
structure WearInc where
  pos : Nat
  field : Nat
  amount : Nat
  deriving DecidableEq, Repr

/-- An entry of the timestamp queue (R345): port, egress, messageType, sequenceId, and the stamp in 2^-16 ns modulo 2^64. -/
structure Stamp where
  port : Nat
  egress : Bool
  msgt : Nat
  seq : Nat
  time : Nat
  deriving DecidableEq, Repr

/-- A frame in an egress queue of the switch: egress port (4 internal), queue, bytes from the destination address to before
the FCS, ingress port (4: the firmware's own) and compensated ingress stamp in 2^-16 ns. -/
structure TxFrame where
  port : Nat
  queue : Nat
  bytes : List Byte
  inPort : Nat
  inAt : Int
  /-- Transmit buffers of owner 0x41 that hold it (R339). -/
  bufs : List Nat
  /-- For the firmware's own event message: messageType and sequenceId (R345). -/
  evt : Option (Nat × Nat)
  /-- For a relayed Sync: the neighbour rate ratio in 2^-32 and the link delay in 2^-16 ns (R347). -/
  relay : Option (Nat × Int)
  deriving DecidableEq, Repr

/-- The residence time of a two-step Sync, kept for its Follow_Up (R346): ingress and egress port, sequenceId, ingress stamp,
residence. -/
structure Resid where
  inPort : Nat
  port : Nat
  seq : Nat
  inAt : Int
  time : Int
  deriving DecidableEq, Repr

/-- What the firmware knows of a port's link (R347): mean link delay in 2^-16 ns, neighbour rate ratio in 2^-32, and the
stamped Pdelay_Req that awaits its response: sequenceId and egress stamp. -/
structure LinkDelay where
  delay : Int
  ratio : Nat
  req : Option (Nat × Int)
  deriving DecidableEq, Repr

/-- A virtual-master stream (R362): bound UDP port and source, the least SEQ accepted next, discarded datagrams. -/
structure VmBind where
  en : Bool
  port : Nat
  src : Nat
  next : Nat
  drops : Nat
  deriving DecidableEq, Repr

/-- The network island and the firmware's network time beyond SW and TU (R339 to R363). -/
structure NetState where
  tsq : List Stamp
  /-- Learned addresses and their ports, oldest first, at most 512; the 16 static entries: valid, address, port mask (R340). -/
  fdb : List (Nat × Nat)
  fixed : SMap (Bool × Nat × Nat)
  txq : List TxFrame
  /-- UDP payloads that the internal port has accepted and the firmware has not taken, with their buffers (R342). -/
  rx : List (List Nat × List Byte)
  resid : List Resid
  /-- IPv4 address, mask and gateway. -/
  ip : Nat
  mask : Nat
  gateway : Nat
  /-- gPTP: priority1, static roles, the role of ports 0 to 3 (0 disabled, 1 master, 2 slave, 3 passive), grandmaster (R347, R348). -/
  prio : Nat
  static : Bool
  roles : List Nat
  grandmaster : Bool
  announces : SMap (List Byte)
  delays : SMap LinkDelay
  /-- The next sequenceId of the firmware's own messages. -/
  seq : Nat
  /-- The servo: consecutive offsets within LOCKTH, and the last offset in 2^-16 ns (R353). -/
  good : Nat
  offset : Int
  /-- TU.CNT at the latest step or enabling of the grid, and the latest instant since then that was sent or skipped, in 2^-16 ns
  (R357). -/
  gridFrom : Nat
  gridSent : Option Int
  /-- The port and bytes of the latest frame that left the switch. -/
  wire : Option (Nat × List Byte)
  /-- The PHY of ETH_2 advertises 10 Mbit/s full duplex only (R360). -/
  phy10 : Bool
  /-- CNTH and TIMEH as latched by the latest reads of CNTL and TIMEL. -/
  cntHeld : Word
  timeHeld : Word
  deriving DecidableEq, Repr

/-- A received CAN frame: RXSEQ and its record of 84 bytes. -/
structure CanRec where
  seq : Nat
  bytes : List Byte
  deriving DecidableEq, Repr

/-- A transmit buffer taken by a CAN_TX (R377): buffer, TXTAG, and the channel whose response waits. -/
structure CanTag where
  buf : Nat
  tag : Nat
  ch : Nat
  deriving DecidableEq, Repr

/-- A CAN controller beyond CAN (R366 to R384). -/
structure CanNode where
  /-- The two queues, oldest first, and their shadows. -/
  q0 : List CanRec
  q1 : List CanRec
  sh0 : Option CanRec
  sh1 : Option CanRec
  /-- Spilled frames not yet marked done: queue, RXSEQ, Reservoir buffer. -/
  spills : List (Nat × Nat × Nat)
  /-- Buffers taken by CAN_TX commands that wait. -/
  tags : List CanTag
  /-- The buffer whose frame is on the bus, and the buffers whose cancel awaits the end of their attempt (R375). -/
  sending : Option Nat
  cancels : Nat
  /-- Bus-off recovery runs (R379). -/
  recovering : Bool
  /-- Held CAN_RX_READ commands: channel, queue, frames (R386). -/
  reads : List (Nat × Nat × Nat)
  /-- What the latest 256 writes to filter words replaced, the latest first: address and value (R369). -/
  replaced : List (Nat × Word)
  deriving DecidableEq, Repr

/-- A field input beyond FIO: the value of the latest agreeing samples and their number (R388), rejected changes in the
present 1 s window (R389), consecutive low current measurements (R393). -/
structure FieldIn where
  cand : Bool
  agree : Nat
  chat : Nat
  wbRun : Nat
  /-- The level that LVL showed when the input was last valid (R394). -/
  held : Bool
  deriving DecidableEq, Repr

/-- Telemetry (R415 to R418): per kind 0xA8 to 0xAB the period in 10 ms, destinations and instance mask; the datagram
address and port; TSEQ of kind and instance (16 kind + instance); the datagram number and the datagrams dropped; the 10 ms instants
that have passed. -/
structure Telem where
  kinds : List (Nat × Nat × Nat)
  ip : Nat
  port : Nat
  tseq : SMap Nat
  dseq : Nat
  drops : Nat
  instant : Nat
  deriving DecidableEq, Repr

def Chan.reset : Chan := ⟨[], [], [], []⟩

def Session.reset : Session := ⟨false, 0, 0, [], 0, 0, 0, 0⟩

def SecState.reset : SecState := ⟨[], 0, none, 0, 0, 0, [], 0, 0, [], none, 0⟩

def EngImg.reset : EngImg := ⟨false, 0, 16, 0, [], none, [], none⟩

def Group.reset : Group := ⟨.trip, false, false, false, 0, 0, 0, false, false, false, 0, false, false, false, false⟩

def Leg.reset : Leg := ⟨0, 0, false, false, false, false, false, 0⟩

def LegPeriod.reset : LegPeriod := ⟨0, 0, 0, 0, 0, 0, true⟩

def Sched.reset : Sched :=
  ⟨0, 0, 0, [], false, false, false, 0, 0, 0, 0, true, false, false, false, [], false, false, LegPeriod.reset⟩

def Carrier.reset : Carrier := ⟨0, 0, 0, 0, 0, 0, 0, false, false, false, false, false, 0, [], [], 0, 0, [], 0, false, false, false⟩

def Timer.reset : Timer := ⟨false, 200⟩

def Link.reset : Link := ⟨[], [], 0, 0, 0, 0, [], 0, [], 0, 0, [], 0, 0, 0, 0, 0, 0, false, false, 0⟩

def WeirState.reset : WeirState := ⟨[], 0, 0, 0, 0, 0, 0, [], false, []⟩

def ModeState.reset : ModeState := ⟨none, [], 0, 0, 0, 0, [], []⟩

def CapSet.reset : CapSet := ⟨0, [], [], 0, 0, 0, [], [], 0, 0, 0, 0, [], 0, 0, 0, []⟩

def Casc.reset : Casc := ⟨0, false, 0, 0, 0, [], none⟩

def ClkState.reset : ClkState := ⟨true, false, false, false, false, false, 0, 0, false, 0, false⟩

def Pins.reset : Pins := ⟨false, false, false⟩

def Slot.reset : Slot := ⟨[], [], [], [], [], [], 0, 0, 0, [], [], 0, 0, 0, 0, none, 0⟩

def Engine.reset : Engine := ⟨0, 0, .none, []⟩

def Tags.reset : Tags := ⟨0, 0, 0, 16⟩

def EngLoad.reset : EngLoad := ⟨false, 0, 0, 0, [], 0⟩

def SdChan.reset : SdChan := ⟨[], 0, 0, false, false, false, 0, false, 0, [], 0, 0, []⟩

def AdcSeq.reset : AdcSeq := ⟨[], 0, 0, false, [], false⟩

def SenseState.reset : SenseState := ⟨0, 0, 0, 0, 0, 0, 0, 0⟩

def Setpoint.reset : Setpoint := ⟨0, 0, 0, 0⟩

def Loop.reset : Loop := ⟨Setpoint.reset, [], 0, 0, 0, 0, 0, 0, 0, 0, 0, 0, 0, 0, 0, false, false, false⟩

def Axis.reset : Axis :=
  ⟨false, 0, 0, 0, 0, 255, 0, 0, 0, 0, 0, 0, Setpoint.reset, Setpoint.reset, 0, false, 0, 0, 0, 0, [], false, false, 0, 0, 0, false,
    Loop.reset⟩

def MoveCtx.reset : MoveCtx := ⟨0, 0, 0, false, 0, 0, 0, 0, 0, 0, 0, 0, 0, 1, [], 0, 0⟩

def Profile.reset : Profile :=
  ⟨false, 0, 0, 0, 0, 0, true, 0, 0, 0, [], [], MoveCtx.reset, 0, 0, 0, 0, none, 0, 0, 0, false, 0, 0, 1, false, []⟩

def VMaster.reset : VMaster := ⟨false, false, 0, 0, 0, 0⟩

def WearPos.reset : WearPos := ⟨[0, 0, 0, 0], 0, [], none, 0, 0, false, [], false, false, none⟩

def NetState.reset : NetState :=
  ⟨[], [], [], [], [], [], 0, 0, 0, 255, false, [0, 0, 0, 0], false, [], [], 0, 0, 0, 0, none, none, false, 0, 0⟩

def VmBind.reset : VmBind := ⟨false, 0, 0, 0, 0⟩

def LinkDelay.reset : LinkDelay := ⟨0, 2 ^ 32, none⟩

def CanNode.reset : CanNode := ⟨[], [], none, none, [], [], none, 0, false, [], []⟩

def FieldIn.reset : FieldIn := ⟨false, 0, 0, 0, false⟩

def Telem.reset : Telem := ⟨[(0, 0, 0), (0, 0, 0), (0, 0, 0), (0, 0, 0)], 0, 0, [], 0, 0, 0⟩


/-- The state of the block. -/
structure State where
  /-- Every 32-bit register of the register tables and the words of the host window below 0x0_1000, by address (R4, R261, R262). -/
  regs : SMap Word
  /-- Bytes of the memories: shared SRAM, Basin, engine memories, the rings of the host window, and the register blocks the spec lays out in bytes. -/
  mem : SMap Byte
  /-- Bytes of the external flash. -/
  flash : SMap Byte
  /-- Mailbox channels MB_0 to MB_15. -/
  chans : SMap Chan
  /-- The channel that is first in turn for the next consumption (R267). -/
  mbxTurn : Nat
  /-- Ethernet host sessions, at most four (R446). -/
  sessions : SMap Session
  /-- Bytes the host port gave out at the latest read (R258). -/
  hpOut : List Byte
  /-- The latest datagrams that the device's firmware sent through the internal switch port, newest last, at most 32. -/
  netOut : List (List Byte)
  /-- The security unit. -/
  sec : SecState
  /-- Bridge groups, by axis. -/
  groups : SMap Group
  /-- Legs 0 to 71. -/
  legs : SMap Leg
  /-- The edge scheduler's record of legs 0 to 71. -/
  scheds : SMap Sched
  /-- Carriers CB_0 to CB_23. -/
  carriers : SMap Carrier
  /-- Interval timers ITM_0 to ITM_7. -/
  timers : SMap Timer
  /-- Gate links GL_0 to GL_15. -/
  links : SMap Link
  /-- Control engines CE_0 to CE_15. -/
  engines : SMap Engine
  /-- Task slots: slot k of CE_e is 8 e + k. -/
  slots : SMap Slot
  /-- The tags of the internal fabric. -/
  tags : Tags
  /-- Input-slot values: slot s of CE_e is 64 e + s (R70). -/
  inputs : SMap Word
  /-- Latches of the probes PRB_0 to PRB_47 (R314). -/
  latches : SMap Word
  /-- Capture sets 0 to 3. -/
  caps : SMap CapSet
  /-- The Cascade. -/
  casc : Casc
  /-- The open engine-code load (R79). -/
  engLoad : EngLoad
  /-- The images loaded into the engines. -/
  engImgs : SMap EngImg
  /-- Sigma-delta channels SDI_0 to SDI_47. -/
  sdChans : SMap SdChan
  /-- ADC sequences SEQ_0 to SEQ_7. -/
  adcSeqs : SMap AdcSeq
  /-- The rest of SENSE. -/
  sense : SenseState
  /-- Axis objects AX_0 to AX_15. -/
  axes : SMap Axis
  /-- Axes of the profile unit. -/
  profiles : SMap Profile
  /-- Virtual masters VM_0 to VM_3 as applied. -/
  vms : SMap VMaster
  /-- The network island and network time. -/
  net : NetState
  /-- Virtual-master streams VM_0 to VM_3. -/
  binds : SMap VmBind
  /-- CAN controllers CAN_0 to CAN_7. -/
  cans : SMap CanNode
  /-- Field inputs FI_0 to FI_31. -/
  fins : SMap FieldIn
  /-- Telemetry. -/
  tel : Telem
  /-- The firmware's copies of the contexts that host commands wrote (R220) and of the registers of CAN_2 to CAN_7 in Standby (R382), by address of the word. -/
  ctxCopy : SMap Word
  /-- Switch positions of the wear unit: 2 l lower, 2 l + 1 upper of leg l. -/
  wears : SMap WearPos
  /-- The queue of record increments, oldest first, at most 128 (R414). -/
  wearQ : List WearInc
  /-- The first half of a table set being loaded: set and bytes (assumption log 12). -/
  wearPart : Option (Nat × List Byte)
  /-- The Weir. -/
  weir : WeirState
  /-- The mode controller. -/
  mode : ModeState
  /-- Clocks, resets and boot. -/
  clk : ClkState
  /-- Pin levels. -/
  pins : Pins
  /-- How many free values have been drawn: the model's own field, assumption log 5. -/
  free : Nat
  /-- The commands that wait, first in, first out. -/
  pending : List Instr
  deriving DecidableEq, Repr

/-- The block right after reset: every register at its reset value, memories cleared, every table empty, no command waiting. -/
def State.reset : State where
  regs := []
  mem := []
  flash := []
  chans := []
  mbxTurn := 0
  sessions := []
  hpOut := []
  netOut := []
  sec := SecState.reset
  groups := []
  legs := []
  scheds := []
  carriers := []
  timers := []
  links := []
  engines := []
  slots := []
  tags := Tags.reset
  inputs := []
  latches := []
  caps := []
  casc := Casc.reset
  engLoad := EngLoad.reset
  engImgs := []
  sdChans := []
  adcSeqs := []
  sense := SenseState.reset
  axes := []
  profiles := []
  vms := []
  net := NetState.reset
  binds := []
  cans := []
  fins := []
  tel := Telem.reset
  ctxCopy := []
  wears := []
  wearQ := []
  wearPart := none
  weir := WeirState.reset
  mode := ModeState.reset
  clk := ClkState.reset
  pins := Pins.reset
  free := 0
  pending := []

def State.withRegs (s : State) (v : SMap Word) : State := { s with regs := v }
def State.withMem (s : State) (v : SMap Byte) : State := { s with mem := v }
def State.withFlash (s : State) (v : SMap Byte) : State := { s with flash := v }
def State.withChans (s : State) (v : SMap Chan) : State := { s with chans := v }
def State.withMbxTurn (s : State) (v : Nat) : State := { s with mbxTurn := v }
def State.withSessions (s : State) (v : SMap Session) : State := { s with sessions := v }
def State.withHpOut (s : State) (v : List Byte) : State := { s with hpOut := v }
def State.withNetOut (s : State) (v : List (List Byte)) : State := { s with netOut := v }
def State.withSec (s : State) (v : SecState) : State := { s with sec := v }
def State.withGroups (s : State) (v : SMap Group) : State := { s with groups := v }
def State.withLegs (s : State) (v : SMap Leg) : State := { s with legs := v }
def State.withScheds (s : State) (v : SMap Sched) : State := { s with scheds := v }
def State.withCarriers (s : State) (v : SMap Carrier) : State := { s with carriers := v }
def State.withTimers (s : State) (v : SMap Timer) : State := { s with timers := v }
def State.withLinks (s : State) (v : SMap Link) : State := { s with links := v }
def State.withEngines (s : State) (v : SMap Engine) : State := { s with engines := v }
def State.withSlots (s : State) (v : SMap Slot) : State := { s with slots := v }
def State.withTags (s : State) (v : Tags) : State := { s with tags := v }
def State.withInputs (s : State) (v : SMap Word) : State := { s with inputs := v }
def State.withLatches (s : State) (v : SMap Word) : State := { s with latches := v }
def State.withCaps (s : State) (v : SMap CapSet) : State := { s with caps := v }
def State.withCasc (s : State) (v : Casc) : State := { s with casc := v }
def State.withEngLoad (s : State) (v : EngLoad) : State := { s with engLoad := v }
def State.withEngImgs (s : State) (v : SMap EngImg) : State := { s with engImgs := v }
def State.withSdChans (s : State) (v : SMap SdChan) : State := { s with sdChans := v }
def State.withAdcSeqs (s : State) (v : SMap AdcSeq) : State := { s with adcSeqs := v }
def State.withSense (s : State) (v : SenseState) : State := { s with sense := v }
def State.withAxes (s : State) (v : SMap Axis) : State := { s with axes := v }
def State.withProfiles (s : State) (v : SMap Profile) : State := { s with profiles := v }
def State.withVms (s : State) (v : SMap VMaster) : State := { s with vms := v }
def State.withNet (s : State) (v : NetState) : State := { s with net := v }
def State.withBinds (s : State) (v : SMap VmBind) : State := { s with binds := v }
def State.withCans (s : State) (v : SMap CanNode) : State := { s with cans := v }
def State.withFins (s : State) (v : SMap FieldIn) : State := { s with fins := v }
def State.withTel (s : State) (v : Telem) : State := { s with tel := v }
def State.withCtxCopy (s : State) (v : SMap Word) : State := { s with ctxCopy := v }
def State.withWears (s : State) (v : SMap WearPos) : State := { s with wears := v }
def State.withWearQ (s : State) (v : List WearInc) : State := { s with wearQ := v }
def State.withWearPart (s : State) (v : Option (Nat × List Byte)) : State := { s with wearPart := v }
def State.withWeir (s : State) (v : WeirState) : State := { s with weir := v }
def State.withMode (s : State) (v : ModeState) : State := { s with mode := v }
def State.withClk (s : State) (v : ClkState) : State := { s with clk := v }
def State.withPins (s : State) (v : Pins) : State := { s with pins := v }
def State.withFree (s : State) (v : Nat) : State := { s with free := v }
def State.withPending (s : State) (v : List Instr) : State := { s with pending := v }

/-- Instance `k` of `chans`. -/
def State.chan (s : State) (k : Nat) : Chan := SMap.get (fun _ => Chan.reset) s.chans k
def State.setChan (s : State) (k : Nat) (v : Chan) : State := s.withChans (SMap.set (fun _ => Chan.reset) s.chans k v)
def State.modChan (s : State) (k : Nat) (f : Chan → Chan) : State := s.setChan k (f (s.chan k))

/-- Instance `k` of `sessions`. -/
def State.session (s : State) (k : Nat) : Session := SMap.get (fun _ => Session.reset) s.sessions k
def State.setSession (s : State) (k : Nat) (v : Session) : State := s.withSessions (SMap.set (fun _ => Session.reset) s.sessions k v)
def State.modSession (s : State) (k : Nat) (f : Session → Session) : State := s.setSession k (f (s.session k))

/-- Instance `k` of `groups`. -/
def State.group (s : State) (k : Nat) : Group := SMap.get (fun _ => Group.reset) s.groups k
def State.setGroup (s : State) (k : Nat) (v : Group) : State := s.withGroups (SMap.set (fun _ => Group.reset) s.groups k v)
def State.modGroup (s : State) (k : Nat) (f : Group → Group) : State := s.setGroup k (f (s.group k))

/-- Instance `k` of `legs`. -/
def State.leg (s : State) (k : Nat) : Leg := SMap.get (fun _ => Leg.reset) s.legs k
def State.setLeg (s : State) (k : Nat) (v : Leg) : State := s.withLegs (SMap.set (fun _ => Leg.reset) s.legs k v)
def State.modLeg (s : State) (k : Nat) (f : Leg → Leg) : State := s.setLeg k (f (s.leg k))

/-- Instance `k` of `scheds`. -/
def State.sched (s : State) (k : Nat) : Sched := SMap.get (fun _ => Sched.reset) s.scheds k
def State.setSched (s : State) (k : Nat) (v : Sched) : State := s.withScheds (SMap.set (fun _ => Sched.reset) s.scheds k v)
def State.modSched (s : State) (k : Nat) (f : Sched → Sched) : State := s.setSched k (f (s.sched k))

/-- Instance `k` of `carriers`. -/
def State.carrier (s : State) (k : Nat) : Carrier := SMap.get (fun _ => Carrier.reset) s.carriers k
def State.setCarrier (s : State) (k : Nat) (v : Carrier) : State := s.withCarriers (SMap.set (fun _ => Carrier.reset) s.carriers k v)
def State.modCarrier (s : State) (k : Nat) (f : Carrier → Carrier) : State := s.setCarrier k (f (s.carrier k))

/-- Instance `k` of `timers`. -/
def State.timer (s : State) (k : Nat) : Timer := SMap.get (fun _ => Timer.reset) s.timers k
def State.setTimer (s : State) (k : Nat) (v : Timer) : State := s.withTimers (SMap.set (fun _ => Timer.reset) s.timers k v)
def State.modTimer (s : State) (k : Nat) (f : Timer → Timer) : State := s.setTimer k (f (s.timer k))

/-- Instance `k` of `links`. -/
def State.link (s : State) (k : Nat) : Link := SMap.get (fun _ => Link.reset) s.links k
def State.setLink (s : State) (k : Nat) (v : Link) : State := s.withLinks (SMap.set (fun _ => Link.reset) s.links k v)
def State.modLink (s : State) (k : Nat) (f : Link → Link) : State := s.setLink k (f (s.link k))

/-- Instance `k` of `engines`. -/
def State.engine (s : State) (k : Nat) : Engine := SMap.get (fun _ => Engine.reset) s.engines k
def State.setEngine (s : State) (k : Nat) (v : Engine) : State := s.withEngines (SMap.set (fun _ => Engine.reset) s.engines k v)
def State.modEngine (s : State) (k : Nat) (f : Engine → Engine) : State := s.setEngine k (f (s.engine k))

/-- Instance `k` of `slots`. -/
def State.slot (s : State) (k : Nat) : Slot := SMap.get (fun _ => Slot.reset) s.slots k
def State.setSlot (s : State) (k : Nat) (v : Slot) : State := s.withSlots (SMap.set (fun _ => Slot.reset) s.slots k v)
def State.modSlot (s : State) (k : Nat) (f : Slot → Slot) : State := s.setSlot k (f (s.slot k))

/-- Instance `k` of `caps`. -/
def State.cap (s : State) (k : Nat) : CapSet := SMap.get (fun _ => CapSet.reset) s.caps k
def State.setCap (s : State) (k : Nat) (v : CapSet) : State := s.withCaps (SMap.set (fun _ => CapSet.reset) s.caps k v)
def State.modCap (s : State) (k : Nat) (f : CapSet → CapSet) : State := s.setCap k (f (s.cap k))

/-- Instance `k` of `engImgs`. -/
def State.engImg (s : State) (k : Nat) : EngImg := SMap.get (fun _ => EngImg.reset) s.engImgs k
def State.setEngImg (s : State) (k : Nat) (v : EngImg) : State := s.withEngImgs (SMap.set (fun _ => EngImg.reset) s.engImgs k v)
def State.modEngImg (s : State) (k : Nat) (f : EngImg → EngImg) : State := s.setEngImg k (f (s.engImg k))

/-- Instance `k` of `sdChans`. -/
def State.sdChan (s : State) (k : Nat) : SdChan := SMap.get (fun _ => SdChan.reset) s.sdChans k
def State.setSdChan (s : State) (k : Nat) (v : SdChan) : State := s.withSdChans (SMap.set (fun _ => SdChan.reset) s.sdChans k v)
def State.modSdChan (s : State) (k : Nat) (f : SdChan → SdChan) : State := s.setSdChan k (f (s.sdChan k))

/-- Instance `k` of `adcSeqs`. -/
def State.adcSeq (s : State) (k : Nat) : AdcSeq := SMap.get (fun _ => AdcSeq.reset) s.adcSeqs k
def State.setAdcSeq (s : State) (k : Nat) (v : AdcSeq) : State := s.withAdcSeqs (SMap.set (fun _ => AdcSeq.reset) s.adcSeqs k v)
def State.modAdcSeq (s : State) (k : Nat) (f : AdcSeq → AdcSeq) : State := s.setAdcSeq k (f (s.adcSeq k))

/-- Instance `k` of `axes`. -/
def State.axis (s : State) (k : Nat) : Axis := SMap.get (fun _ => Axis.reset) s.axes k
def State.setAxis (s : State) (k : Nat) (v : Axis) : State := s.withAxes (SMap.set (fun _ => Axis.reset) s.axes k v)
def State.modAxis (s : State) (k : Nat) (f : Axis → Axis) : State := s.setAxis k (f (s.axis k))

/-- Instance `k` of `profiles`. -/
def State.profile (s : State) (k : Nat) : Profile := SMap.get (fun _ => Profile.reset) s.profiles k
def State.setProfile (s : State) (k : Nat) (v : Profile) : State := s.withProfiles (SMap.set (fun _ => Profile.reset) s.profiles k v)
def State.modProfile (s : State) (k : Nat) (f : Profile → Profile) : State := s.setProfile k (f (s.profile k))

/-- Instance `k` of `vms`. -/
def State.vmaster (s : State) (k : Nat) : VMaster := SMap.get (fun _ => VMaster.reset) s.vms k
def State.setVmaster (s : State) (k : Nat) (v : VMaster) : State := s.withVms (SMap.set (fun _ => VMaster.reset) s.vms k v)
def State.modVmaster (s : State) (k : Nat) (f : VMaster → VMaster) : State := s.setVmaster k (f (s.vmaster k))

/-- Instance `k` of `binds`. -/
def State.vmBind (s : State) (k : Nat) : VmBind := SMap.get (fun _ => VmBind.reset) s.binds k
def State.setVmBind (s : State) (k : Nat) (v : VmBind) : State := s.withBinds (SMap.set (fun _ => VmBind.reset) s.binds k v)
def State.modVmBind (s : State) (k : Nat) (f : VmBind → VmBind) : State := s.setVmBind k (f (s.vmBind k))

/-- Instance `k` of `cans`. -/
def State.can (s : State) (k : Nat) : CanNode := SMap.get (fun _ => CanNode.reset) s.cans k
def State.setCan (s : State) (k : Nat) (v : CanNode) : State := s.withCans (SMap.set (fun _ => CanNode.reset) s.cans k v)
def State.modCan (s : State) (k : Nat) (f : CanNode → CanNode) : State := s.setCan k (f (s.can k))

/-- Instance `k` of `fins`. -/
def State.fin (s : State) (k : Nat) : FieldIn := SMap.get (fun _ => FieldIn.reset) s.fins k
def State.setFin (s : State) (k : Nat) (v : FieldIn) : State := s.withFins (SMap.set (fun _ => FieldIn.reset) s.fins k v)
def State.modFin (s : State) (k : Nat) (f : FieldIn → FieldIn) : State := s.setFin k (f (s.fin k))

/-- Instance `k` of `wears`. -/
def State.wear (s : State) (k : Nat) : WearPos := SMap.get (fun _ => WearPos.reset) s.wears k
def State.setWear (s : State) (k : Nat) (v : WearPos) : State := s.withWears (SMap.set (fun _ => WearPos.reset) s.wears k v)
def State.modWear (s : State) (k : Nat) (f : WearPos → WearPos) : State := s.setWear k (f (s.wear k))

end Sys2Proof.Machine
end

