-- ==== Sys2Proof/Machine/Ops.lean ====
section
/-!
DEFINITION. The named operations over registers and memory, and the shared operations of the protection path: the host
interrupt, the axis states, the Spillway's start, the mode changes and the Weir's assertion of a source.
-/

namespace Sys2Proof.Machine

/-- The outcome of a command. -/
abbrev Out := Host.Outcome State Fault Refusal

/-! ## Registers and memory -/

/-- The register at an address. -/
def State.rd (s : State) (a : Nat) : Word := SMap.get regReset s.regs a

def State.wr (s : State) (a : Nat) (w : Word) : State := s.withRegs (SMap.set regReset s.regs a w)

/-- `n` with the field of `width` bits at `lo` replaced by `v`. -/
def fieldPut (n lo width v : Nat) : Nat :=
  n - (n / 2 ^ lo % 2 ^ width) * 2 ^ lo + (v % 2 ^ width) * 2 ^ lo

/-- The value of a field. -/
def State.fld (s : State) (f : Fld) : Nat := (s.rd f.addr).toNat / 2 ^ f.lo % 2 ^ f.width

def State.flag (s : State) (f : Fld) : Bool := s.fld f != 0

def State.put (s : State) (f : Fld) (v : Nat) : State :=
  s.wr f.addr (BitVec.ofNat 32 (fieldPut (s.rd f.addr).toNat f.lo f.width v))

def State.putB (s : State) (f : Fld) (b : Bool) : State := s.put f b.toNat

/-- A counter that stops at its top value. -/
def State.inc (s : State) (f : Fld) : State := s.put f (bump (2 ^ f.width - 1) (s.fld f))

/-- A counter modulo its width. -/
def State.incMod (s : State) (f : Fld) : State := s.put f (s.fld f + 1)

/-- One byte of memory; what nothing has written reads 0 (the memory clear of R409). -/
def memDefault : Nat → Byte := fun _ => 0

def State.rd8 (s : State) (a : Nat) : Byte := SMap.get memDefault s.mem a

/-- A byte is written; the word that holds it is then without error (R410). -/
def State.wr8 (s : State) (a : Nat) (b : Byte) : State :=
  (s.withMem (SMap.set memDefault s.mem a b)).withMode { s.mode with bad := s.mode.bad.filter (fun w => w != a / 8) }

/-- The word that holds address `a` has an uncorrectable error. -/
def State.badAt (s : State) (a : Nat) : Bool := s.mode.bad.contains (a / 8)

/-- An uncorrectable error is met at address `a`: it stands until the word is written (R410). -/
def State.markBad (s : State) (a : Nat) : State :=
  if s.badAt a then s else s.withMode { s.mode with bad := s.mode.bad ++ [a / 8] }

/-- `n` bytes from `a`, rising. -/
def State.rdBytes (s : State) (a n : Nat) : List Byte := (List.range n).map (fun i => s.rd8 (a + i))

def State.wrBytes (s : State) : Nat → List Byte → State
  | _, [] => s
  | a, b :: bs => (s.wr8 a b).wrBytes (a + 1) bs

/-- A 32-bit little-endian word of memory (R3). -/
def State.rdMem32 (s : State) (a : Nat) : Nat := leNat (s.rdBytes a 4)

def State.wrMem32 (s : State) (a v : Nat) : State := s.wrBytes a (leBytes 4 v)

/-- A byte of the external flash; erased flash reads 0xFF. -/
def flashDefault : Nat → Byte := fun _ => 0xFF

def State.flash8 (s : State) (a : Nat) : Byte := SMap.get flashDefault s.flash a

def State.wrFlash8 (s : State) (a : Nat) (b : Byte) : State := s.withFlash (SMap.set flashDefault s.flash a b)

/-- Apply a state change for each element, in order. -/
def State.each {α : Type} (s : State) (l : List α) (f : α → State → State) : State := l.foldl (fun t x => f x t) s

/-- Apply a change where a condition holds. -/
def State.whenB (s : State) (c : Bool) (f : State → State) : State := if c then f s else s

/-- A fresh free value: nothing constrains it (assumption log 5). -/
def State.draw (s : State) : Nat × State := (Config.freeNat s.free, s.withFree (s.free + 1))

/-- `n / d` where the spec states no rounding: exact where it divides, else either neighbour (assumption log 9). -/
def openRound (n : Int) (d : Nat) : Int :=
  if d = 0 then 0 else if n % (d : Int) = 0 then n / (d : Int) else n / (d : Int) + (Config.roundUp n d).toNat

/-- The square root of `n`: exact for a square, else either neighbour (assumption log 9). -/
def openSqrt (n : Nat) : Nat := n.sqrt + (if n.sqrt * n.sqrt = n then 0 else (Config.roundUp n 2).toNat)

/-! ## The host window's words (R261) and the host interrupt (R273) -/

def HW.base : Nat := 0x10000000
def HW.fwver : Nat := 0x10000004
def HW.node : Nat := 0x10000008
/-- DEV_FEAT and HOST_FEAT, four words each. -/
def HW.devFeat (i : Nat) : Nat := 0x10000010 + 4 * i
def HW.hostFeat (i : Nat) : Nat := 0x10000020 + 4 * i
def HW.featStat : Nat := 0x10000034
def HW.db (k : Nat) : Nat := 0x10000100 + 4 * k
def HW.irqStat : Nat := 0x10000300
def HW.irqEn : Nat := 0x10000304
def HW.rspIrq : Nat := 0x10000308
def HW.chst (k w : Nat) : Nat := 0x10000400 + 0x10 * k + 4 * w

def HW.pub : Fld := ⟨HW.featStat, 0, 1⟩
def HW.commit : Fld := ⟨HW.featStat, 1, 1⟩
def HW.rej : Fld := ⟨HW.featStat, 2, 1⟩
def HW.reason : Fld := ⟨HW.featStat, 4, 4⟩
def HW.cmdpi (k : Nat) : Fld := ⟨HW.db k, 0, 16⟩
def HW.rspci (k : Nat) : Fld := ⟨HW.db k, 16, 16⟩
def HW.cmdci (k : Nat) : Fld := ⟨HW.chst k 0, 0, 16⟩
def HW.rsppi (k : Nat) : Fld := ⟨HW.chst k 0, 16, 16⟩
def HW.malf (k : Nat) : Fld := ⟨HW.chst k 1, 0, 8⟩
def HW.nocred (k : Nat) : Fld := ⟨HW.chst k 1, 8, 8⟩
def HW.unsup (k : Nat) : Fld := ⟨HW.chst k 1, 16, 8⟩
def HW.baddb (k : Nat) : Fld := ⟨HW.chst k 1, 24, 8⟩
def HW.lasterr (k : Nat) : Fld := ⟨HW.chst k 2, 0, 16⟩
def HW.tdrop (k : Nat) : Fld := ⟨HW.chst k 2, 16, 8⟩

/-- Set IRQSTAT bit `i` (R273): 1 MODE, 2 WEIR, 3 WAKE, 4 CHERR, 5 FEATPUB, 6 TDROP, 7 RSVLOW. -/
def State.irq (s : State) (i : Nat) : State := s.put ⟨HW.irqStat, i, 1⟩ 1

/-- IRQSTAT as the host reads it: bit 0 is the OR of RSPIRQ. -/
def State.irqStat (s : State) : Nat :=
  putBit (s.rd HW.irqStat).toNat 0 (decide ((s.rd HW.rspIrq).toNat ≠ 0))

/-- HOST_IRQ_N is low: IRQSTAT AND IRQEN is not 0 (R273). -/
def State.hostIrq (s : State) : Bool := (s.irqStat &&& (s.rd HW.irqEn).toNat) != 0

/-! ## Modes and axis states -/

/-- MODE.CUR.MODE, codes of R26. -/
def State.curMode (s : State) : Nat := s.fld F.MODE_CUR_MODE

def modeReset : Nat := 0
def modeBoot : Nat := 1
def modeConfigure : Nat := 2
def modeStandby : Nat := 3
def modeReady : Nat := 4
def modeRun : Nat := 5
def modeDerate : Nat := 6
def modeStop : Nat := 7
def modeSafeOff : Nat := 8
def modeService : Nat := 9
def modeRecovery : Nat := 10
def modeUpdate : Nat := 11

/-- The islands of the main clocks are out of Reset, Standby and a clock fault (R26, R452). -/
def State.clocked (s : State) : Bool := s.curMode != modeReset && s.curMode != modeStandby && !s.clk.mainStopped

/-- SUP serves the host window (R260, R286, R463): from its first service in Boot on, outside Reset and Standby. -/
def State.supServes (s : State) : Bool := s.clocked && s.clk.ready

/-- TIMEBASE runs: clocked, not on the smallest serving set and not held in reset (R23, R26, R456). -/
def State.islandsRun (s : State) : Bool := s.clocked && !s.flag F.MODE_CUR_MIN && !s.flag F.CLK_IRST_TIMEBASE

/-- SENSE runs. -/
def State.senseRuns (s : State) : Bool := s.clocked && !s.flag F.MODE_CUR_MIN && !s.flag F.CLK_IRST_SENSE

/-- COMPUTE runs: clocked, not on the smallest serving set, not in Update, not held in reset (R26, R46, R456). -/
def State.computeRuns (s : State) : Bool :=
  s.clocked && !s.flag F.MODE_CUR_MIN && !s.flag F.CLK_IRST_COMPUTE && s.curMode != modeUpdate

/-- FIELD is out of its island reset and its forwarded clock runs (R9, R456). -/
def State.fieldUp (s : State) : Bool :=
  !s.flag F.MODE_CUR_MIN && !s.flag F.CLK_IRST_FIELD && !s.clk.fieldStopped && s.curMode != modeReset && !s.clk.mainStopped

/-- Legs may switch (R26). -/
def legsMaySwitch (m : Nat) : Bool := m == modeRun || m == modeDerate || m == modeStop || m == modeService

/-- The datapath a mode allows, in the codes of MODE.CUR.DPATH (R26); SafeOff keeps that of the mode left (R29). -/
def modeDpath (m old : Nat) (min : Bool) : Nat :=
  if m == modeSafeOff then old
  else if m == modeReady || m == modeRun || m == modeDerate || m == modeStop then 1
  else if m == modeBoot || m == modeConfigure || m == modeService then 2
  else if m == modeRecovery && !min then 2
  else 0

/-- The state of AX_n, codes of R47. -/
def F.axst (n : Nat) : Fld := ⟨R.MODE_AXST0 + 4 * (n / 8), 4 * (n % 8), 4⟩

def State.axState (s : State) (n : Nat) : Nat := s.fld (F.axst n)

def axDisabled : Nat := 0
def axArmed : Nat := 1
def axEnergised : Nat := 2
def axFreewheel : Nat := 3
def axShorted : Nat := 4
def axFaulted : Nat := 5

/-- The published speed of a stepper axis exceeds VSS (R253). -/
def State.aboveVss (s : State) (n : Nat) : Bool :=
  (s.axis n).type == 3 && decide ((s.rd (R.PU_STEPCFG n)).toNat < (sgn 32 (s.rd (R.PU_REFV n)).toNat).natAbs)

/-- The position of a stepper axis may be lost, with the cause (R253). -/
def State.stepUnc (s : State) (n : Nat) (cause : Fld) : State :=
  if s.aboveVss n then (s.put (F.PU_STEPST_UNC n) 1).put cause 1 else s

/-- The axis leaves Energised (R232, R253): the active move or gearing ends and the queued context is cleared. -/
def State.leaveEnergised (s : State) (n : Nat) : State :=
  let s := s.stepUnc n (F.PU_STEPST_STOPV n)
  let s := ((s.put (F.PU_AXCTX_AV n) 0).put (F.PU_AXCTX_NV n) 0).wr (R.PU_DECEFF n) (BitVec.ofNat 32 (s.profile n).ctx.dec)
  let s := s.modProfile n (fun p => { p with motion := none, gear := 0, req := 0, limited := false })
  s.modAxis n (fun a => { a with standstill := 0, startWait := 0, ramping := false, stopping := false, freeze := 0 })

/-- A leg of axis `n` is commanded on, or the axis leaves Disabled and Armed: offset measurements in progress do not count (R169). -/
def State.calBreak (s : State) (n : Nat) : State :=
  s.each ((List.range 48).filter (fun k => s.flag (F.SDF_CFG_CALEN k) && s.flag (F.SDF_CFG_AXB k) && s.fld (F.SDF_CFG_AX k) == n))
    (fun k t => t.modSdChan k (fun c => { c with openCal := false, calRun := 0 }))

def State.setAxState (s : State) (n v : Nat) : State :=
  let s := if s.axState n == axEnergised && v != axEnergised then s.leaveEnergised n else s
  let s := if v == axDisabled || v == axArmed then s else s.calBreak n
  s.put (F.axst n) v

def axisList : List Nat := List.range 16

def State.anyAxis (s : State) (v : Nat) : Bool := axisList.any (fun n => s.axState n == v)

def State.allAxes (s : State) (v : Nat) : Bool := axisList.all (fun n => s.axState n == v)

/-! ## Bridge groups (R109) -/

def legList : List Nat := List.range 72

/-- The group a leg is bound to, if any (SPW.LEGAX). -/
def State.legGroup (s : State) (l : Nat) : Option Nat :=
  if s.flag (F.SPW_LEGAX_BOUND l) then some (s.fld (F.SPW_LEGAX_AXIS l)) else none

/-- The legs of group `n`, rising: leg index i of the list has position i (R500). -/
def State.groupLegs (s : State) (n : Nat) : List Nat := legList.filter (fun l => s.legGroup l == some n)

def legLinked (l : Nat) : Bool := decide (l < 48)

/-- A group of linked legs. -/
def State.groupLinked (s : State) (n : Nat) : Bool := (s.groupLegs n).any legLinked

/-- The links of group `n`, rising. -/
def State.groupLinks (s : State) (n : Nat) : List Nat :=
  (List.range 16).filter (fun k => (s.groupLegs n).any (fun l => decide (l < 48) && l / 3 == k))

/-- The position of a leg in its group. -/
def State.legPos (s : State) (n l : Nat) : Nat := (s.groupLegs n).findIdx (fun x => x == l)

/-- Every group that has legs. -/
def State.groupList (s : State) : List Nat := axisList.filter (fun n => !(s.groupLegs n).isEmpty)

def linkUp : Nat := 4

def State.linkState (s : State) (k : Nat) : Nat := s.fld (F.GL_STAT_STATE k)

/-- Give a link's transmitter frames to send. -/
def State.send (s : State) (k : Nat) (fs : List Frame) : State :=
  s.modLink k (fun x => { x with tx := (x.tx ++ fs).drop ((x.tx ++ fs).length - 16) })

/-- An open EDGE frame is counted lost without a source (R153). -/
def State.abandonEdge (s : State) (k q : Nat) : State :=
  if (s.link k).opens.any (fun f => f.seq == q) then
    let s := s.modLink k (fun x => { x with opens := x.opens.filter (fun f => f.seq != q) })
    (s.wr (R.GL_SEQLOST k) (s.rd (R.GL_SEQLOST k) + 1)).put (F.GL_SEQOPEN_OPEN k) (s.link k).opens.length
  else s

/-- A frame that a TRIP abandons leaves no whole frame on the wire; an EDGE frame among those is counted lost (R139, R153). -/
def State.dropSent (s : State) (k : Nat) (f : Frame) : State :=
  let s := s.modLink k (fun x => { x with tx := (x.tx.reverse.erase f).reverse })
  match f with
  | .edge q _ => s.abandonEdge k q
  | _ => s

/-- TRIP and MARK are symbols of their own, which may stand within a frame (R139). -/
def Frame.isSymbol : Frame → Bool
  | .trip => true
  | .mark _ => true
  | _ => false

/-- The frame a TRIP meets in progress is abandoned (R139): the one started latest, with the MARK symbols that have been sent within it.
A TRIP since has abandoned it already. -/
def State.abandonFrame (s : State) (k : Nat) : State :=
  match ((s.link k).tx.reverse.dropWhile (fun f => f.isSymbol && f != .trip)).head? with
  | none => s
  | some f => if f.isSymbol then s else s.dropSent k f

/-- TRIP takes the slot of a MARK that fell due with it, and the MARK the slot after it (R139). -/
def tripFirst (tx : List Frame) : List Frame :=
  match tx.getLast? with
  | some (.mark j) => tx.dropLast ++ [.trip, .mark j]
  | _ => tx ++ [.trip]

/-- Send TRIP in the next symbol slot (R139). Whether the frame started latest is still in progress, and whether a MARK sent last fell
due for the same slot, are moments between commands: free (assumption log 5). -/
def State.sendTrip (s : State) (k : Nat) : State :=
  let (v, s) := s.draw
  let s := if v % 2 == 1 then s.abandonFrame k else s
  if v / 2 % 2 == 1 then s.modLink k (fun x => { x with tx := (tripFirst x.tx).drop ((tripFirst x.tx).length - 16) })
  else s.send k [.trip]

/-- The precedence of R149, the first to leave first. -/
def Frame.rank : Frame → Nat
  | .trip => 0
  | .mark _ => 1
  | .softoff .. => 2
  | .edge .. => 3
  | .sync .. => 4
  | .config .. => 5
  | .heartbeat .. => 6

/-- The SYNC, CONFIG and HEARTBEAT frames held back leave, in their order of precedence (R123, R149). -/
def State.flushHeld (s : State) (k : Nat) : State :=
  let fs := sortBy (fun f => (f.rank : Int)) (s.link k).held
  if fs.isEmpty then s else (s.modLink k (fun x => { x with held := [] })).send k fs

/-- GSTAT.STATE codes. -/
def gsIdle : Nat := 0
def gsStep1 : Nat := 1
def gsStep2 : Nat := 2
def gsFreewheel : Nat := 3
def gsShortLo : Nat := 4
def gsShortUp : Nat := 5
def gsCleared : Nat := 6
def gsApplying : Nat := 7

def State.gstate (s : State) (n : Nat) : Nat := s.fld (F.SPW_GSTAT_STATE n)

/-- A group is Shorted or applying a short (R12). -/
def State.groupShorted (s : State) (n : Nat) : Bool :=
  s.gstate n == gsShortLo || s.gstate n == gsShortUp || s.gstate n == gsApplying

def State.anyShorted (s : State) : Bool := axisList.any (fun n => s.groupShorted n)

/-- A link that carries no bound leg (R500). -/
def State.linkUnbound (s : State) (k : Nat) : Bool :=
  [3 * k, 3 * k + 1, 3 * k + 2].all (fun l => s.legGroup l == none)

def domDev : Nat := 16

/-- DOMST.MASK shows that a mask runs in the domain (R300); those of links without a group run in DOM_DEV (DEDUCED from R290 and R301,
assumption log 26). -/
def State.syncMask (s : State) (n : Nat) : State :=
  let g := s.group n
  s.putB (F.WEIR_DOMST_MASK n) (
    if n == domDev then (List.range 16).any (fun k => (s.link k).mask && s.linkUnbound k)
    else g.maskSpill || g.maskClear || s.weir.maskStop.testBit n || (s.groupLinks n).any (fun k => (s.link k).mask))

/-- One masked assertion counted (R301). -/
def State.maskHit (s : State) (d : Nat) : State := s.inc (F.WEIR_DOMST_MASKHIT d)

/-! ## Holding legs -/

/-- Take a leg out of switching at once: no edge waits, no Sluice wait, both switches commanded off, HELD set (R97, R121). -/
def State.holdLeg (s : State) (l : Nat) : State :=
  let s := s.modSched l (fun x => { x with
    edges := [], planUp := false, planLo := false, nomOn := false, disabling := false, enOff := false
    past := [], wasUp := false, wasLo := false })
  let s := s.modLeg l (fun x => { x with waitUp := false, waitLo := false, dropped := false })
  ((s.put (F.ES_LEGSTAT_UP l) 0).put (F.ES_LEGSTAT_LO l) 0).put (F.ES_LEGSTAT_HELD l) 1

/-! ## The Spillway's start (R121 to R123) -/

/-- Send frames on every UP link of a group. -/
def State.sendGroup (s : State) (n : Nat) (fs : List Frame) : State :=
  s.each ((s.groupLinks n).filter (fun k => s.linkState k == linkUp)) (fun k t => t.send k fs)

/-- A group's Spillway starts on its UP links: TRIP, then SOFTOFF step 1 (R123). -/
def State.tripLinks (s : State) (n : Nat) : State :=
  s.each ((s.groupLinks n).filter (fun k => s.linkState k == linkUp)) (fun k t => (t.sendTrip k).send k [.softoff 1 0])

/-- What the UP links of a group held back leaves after their SOFTOFF step 2 (R123). -/
def State.flushGroup (s : State) (n : Nat) : State :=
  s.each ((s.groupLinks n).filter (fun k => s.linkState k == linkUp)) (fun k t => t.flushHeld k)

/-- Put the switches of the positions given into step 1 (R121, R122): direct legs show the weak pull-down. -/
def State.step1 (s : State) (n up lo : Nat) : State :=
  let s := s.modGroup n (fun g => { g with step1Up := up, step1Lo := lo })
  s.each ((s.groupLegs n).filter (fun l => !legLinked l)) (fun l t =>
    let p := t.legPos n l
    (t.putB (F.DLD_LEGSTAT_UPSTEP1 (l - 48)) (up.testBit p)).putB (F.DLD_LEGSTAT_LOSTEP1 (l - 48)) (lo.testBit p))

/-- The positions of a group whose upper (`up`) or lower switch is commanded on. -/
def State.onMask (s : State) (n : Nat) (up : Bool) : Nat :=
  maskOf (((s.groupLegs n).filter (fun l =>
    s.flag (if up then F.ES_LEGSTAT_UP l else F.ES_LEGSTAT_LO l))).map (fun l => s.legPos n l))

/-- Begin a pass of the Spillway through steps 1 and 2 (R121, R129, R130): the legs are held, the switches that are on
go to step 1, the links of the group that are UP send TRIP and SOFTOFF step 1, and the group's echo checks are masked. SAFE falls with
every pass and is set again by its report: for those of R129 and R130 the spec does not say so (DESIGN CHOICE, assumption log 26). -/
def State.beginPass (s : State) (n : Nat) (p : Pass) : State :=
  let up := s.onMask n true
  let lo := s.onMask n false
  let s := s.each (s.groupLegs n) (fun l t => t.holdLeg l)
  let s := s.step1 n up lo
  let s := s.modGroup n (fun g => { g with pass := p, phase2 := false, again := false, maskSpill := true, maskSpillOver := false, relCount := 0 })
  let s := (s.put (F.SPW_GSTAT_STATE n) gsStep1).put (F.SPW_GSTAT_SAFE n) 0
  (s.tripLinks n).syncMask n

/-- Cause bits of SPW.CAUSE. -/
def causeDesat : Nat := 0
def causeOc : Nat := 1
def causeDrvDes : Nat := 2
def causeDrvUv : Nat := 3
def causeIlto : Nat := 4
def causeEcho : Nat := 5
def causeLink : Nat := 6
def causeSto : Nat := 7
def causeWeir : Nat := 8
def causeEnOff : Nat := 9
def causeBsuv : Nat := 10

/-- Record a source of a group: its cause bit and the positions of the switches it is attributed to (R121). -/
def State.recordCause (s : State) (n cause up lo : Nat) : State :=
  let s := s.put ⟨R.SPW_CAUSE n, cause, 1⟩ 1
  let s := s.modGroup n (fun g => { g with bsuvUp := g.bsuvUp - (g.bsuvUp &&& up) })
  let s := s.put (F.SPW_FLTSW_UP n) (s.fld (F.SPW_FLTSW_UP n) ||| up)
  s.put (F.SPW_FLTSW_LO n) (s.fld (F.SPW_FLTSW_LO n) ||| lo)

/-- A trip source of group `n` (R116, R121, R124, R129): starts the Spillway of a group that is not latched; in a Shorted
group a switch of the closed set starts a re-choice; otherwise it is recorded. `up` and `lo` are the positions of the
switches the source is attributed to. -/
def State.tripGroup (s : State) (n cause up lo : Nat) : State :=
  if (s.groupLegs n).isEmpty then s
  else
    let st := s.gstate n
    let was := s.flag (F.SPW_GSTAT_LATCH n)
    let s := s.recordCause n cause up lo
    if !was then
      let s := s.put (F.SPW_GSTAT_LATCH n) 1
      let s := s.modGroup n (fun g => { g with fallSeen := cause == causeEnOff })
      s.beginPass n .trip
    else if st == gsShortLo && lo != 0 then s.beginPass n (.rechoice false)
    else if st == gsShortUp && up != 0 then s.beginPass n (.rechoice true)
    else s

/-- Take off alone a leg that belongs to no group (R500): its switches pass through steps 1 and 2; on a wholly unbound
link TRIP and SOFTOFF go out and the whole link is taken off. A leg already taken off stays as it is. -/
def State.tripUnbound (s : State) (l : Nat) : State :=
  let one : Nat → State → State := fun l t =>
    if (t.leg l).off != 0 then t
    else
      let up := t.flag (F.ES_LEGSTAT_UP l)
      let lo := t.flag (F.ES_LEGSTAT_LO l)
      let t := (t.holdLeg l).modLeg l (fun x => { x with off := 1 })
      if legLinked l then t
      else (t.putB (F.DLD_LEGSTAT_UPSTEP1 (l - 48)) up).putB (F.DLD_LEGSTAT_LOSTEP1 (l - 48)) lo
  if legLinked l && s.linkUnbound (l / 3) then
    if (s.link (l / 3)).off != 0 then s
    else
      let k := l / 3
      let s := s.each [3 * k, 3 * k + 1, 3 * k + 2] one
      let s := s.modLink k (fun x => { x with off := 1 })
      if s.linkState k == linkUp then (s.sendTrip k).send k [.softoff 1 0] else s
  else one l s

/-- A leg is enabled for R100: EN is 1, or has been written 0 and the disable of R97 has not yet taken effect. -/
def State.legEnabled (s : State) (l : Nat) : Bool :=
  s.flag (F.ES_LEGCFG_EN l) || ((s.sched l).enOff && !s.flag (F.ES_LEGSTAT_HELD l))

/-- Every leg in no group that is enabled or still switches (R500). -/
def State.unboundEnabled (s : State) : List Nat :=
  legList.filter (fun l => s.legGroup l == none &&
    (s.legEnabled l || (s.sched l).disabling || s.flag (F.ES_LEGSTAT_UP l) || s.flag (F.ES_LEGSTAT_LO l)))

/-- Start every group's Spillway, but for the groups listed, and take every unbound leg off (R116, R500). -/
def State.tripAll (s : State) (cause : Nat) (except : List Nat) : State :=
  let s := s.each (s.groupList.filter (fun n => !except.contains n)) (fun n t => t.tripGroup n cause 0 0)
  s.each s.unboundEnabled (fun l t => t.tripUnbound l)

/-- Whether something holds a leg off: its enables, the mode, its group's latch, its link, R500 (R97 to R99, R143). -/
def State.legHeld (s : State) (l : Nat) : Bool :=
  !s.flag (F.ES_LEGCFG_EN l) || !s.flag F.ES_GCTL_EN || !legsMaySwitch s.curMode ||
  (match s.legGroup l with
    | some n => s.flag (F.SPW_GSTAT_LATCH n)
    | none => false) ||
  (legLinked l && s.linkState (l / 3) != linkUp) || (s.leg l).off != 0 || decide (24 ≤ s.fld (F.ES_LEGCFG_CB l))

/-- HELD falls when nothing holds the leg off any more. -/
def State.refreshHeld (s : State) (l : Nat) : State :=
  if s.legHeld l then s else s.put (F.ES_LEGSTAT_HELD l) 0

/-- The fast comparator of a sigma-delta channel that belongs to axis `n` is high or low (R133, R168). -/
def State.fastActive (s : State) (n : Nat) : Bool :=
  (List.range 48).any (fun k => s.flag (F.SDF_CFG_AXB k) && s.fld (F.SDF_CFG_AX k) == n &&
    (s.flag (F.SDF_STAT_CMPH k) || s.flag (F.SDF_STAT_CMPL k)))

/-! ## Disabling a leg (R97, R99) -/

/-- The carrier a leg is assigned to, where it runs. -/
def State.legCarrier (s : State) (l : Nat) : Option Nat :=
  let c := s.fld (F.ES_LEGCFG_CB l)
  if decide (c < 24) && s.flag (F.CB_STAT_RUN c) then some c else none

/-- Disable a leg: with a running carrier its switches turn off at the first CZ beyond the load lead, else at once. A leg
already held stays held. -/
def State.disableLeg (s : State) (l : Nat) : State :=
  if s.flag (F.ES_LEGSTAT_HELD l) then s
  else if (s.legCarrier l).isSome then s.modSched l (fun x => { x with disabling := true })
  else s.holdLeg l

/-! ## Mode changes (R25 to R33) -/

/-- The axes whose safe state may be active short: SPW.AXCFG.ASEN of a group that has legs. -/
def State.mayShort (s : State) (n : Nat) : Bool := s.flag (F.SPW_AXCFG_ASEN n) && !(s.groupLegs n).isEmpty

/-- The words the safety configuration is taken over (R308): the SLU, SPW, DLD and GL configuration registers of the groups
that hold legs and of the enabled links, as address and value. -/
def State.protectWords (s : State) : List (Nat × Nat) :=
  let groups := s.groupList
  let legs := groups.flatMap (fun n => s.groupLegs n)
  let links := (List.range 16).filter (fun k => s.flag (F.GL_CTRL_EN k))
  let addrs := [R.SLU_ECHOCFG, R.SPW_STOCFG] ++ groups.map (fun n => R.SPW_AXCFG n) ++
    legs.flatMap (fun l => [R.SLU_LEGCFG l, R.SPW_LEGAX l] ++ (if legLinked l then [] else [R.DLD_LEGCFG (l - 48)])) ++
    links.flatMap (fun k => [R.GL_LINKCFG k, R.GL_DRVPAR0 k, R.GL_DRVPAR1 k])
  addrs.map (fun a => (a, (s.rd a).toNat))

/-- The CRC-32 of the safety configuration; how the words follow one another is open (assumption log 13). -/
def State.protectCrc (s : State) : Nat := crc32 (Config.protectImage s.protectWords)

/-- An open engine-code load ends (R79): CE.CTRL.HALT of its engines is again what it was before the load (R77, R78). -/
def State.closeLoad (s : State) : State :=
  if s.engLoad.isOpen then
    (s.each ((List.range 16).filter (fun e => s.engLoad.mask.testBit e)) (fun e t =>
      t.putB (F.CE_CTRL_HALT e) (s.engLoad.held.testBit e))).withEngLoad EngLoad.reset
  else s

/-! ### The speed task (R34, R52) -/

/-- Program memory of CE_e (R51). -/
def progBase (e : Nat) : Nat := 0x30000000 + 0x40000 * e

def dataBase (e : Nat) : Nat := 0x30020000 + 0x40000 * e

/-- The firmware writes its speed task into the reserved ranges of CE_e, in the build given (R52); that ends a halt (R76). -/
def State.writeSpeedTask (s : State) (e build : Nat) : State :=
  let s := s.wrBytes (progBase e + 0x17800) ((List.range 0x800).map (Config.speedCode build))
  let s := s.wrBytes (dataBase e + 0xFC00) ((List.range 0x400).map (Config.speedData build))
  s.put (F.CE_STAT_ENGHALT e) 0

/-- The firmware writes the speed task of axis `n` into the engine that AX_CONFIG names for it and starts it at 10 kHz, in the
build for the datapath in force. In which slot it runs is open: it acts by SPEED_WORD_WRITE (assumption log 24). -/
def State.startSpeedTask (s : State) (n : Nat) : State :=
  let e := (s.axis n).engine
  let s := if decide (e < 16) then s.writeSpeedTask e (s.fld F.MODE_CUR_DPATH) else s
  s.withMode { s.mode with speedTasks := putBit s.mode.speedTasks n true }

/-- The loop task of axis `n` is missing: none is enabled, or its engine is halted (R34). -/
def State.loopMissing (s : State) (n : Nat) : Bool :=
  let e := (s.axis n).engine
  decide (15 < e) || s.flag (F.CE_STAT_ENGHALT e) || (List.range 8).all (fun k =>
    !(s.flag (F.CE_TASKCFG_EN e k) && s.flag (F.CE_TASKENT_AXB e k) && s.fld (F.CE_TASKENT_AXIS e k) == n))

/-- In SafeOff the firmware runs a speed task for an axis whose loop task is missing (R34). -/
def State.safeOffSpeed (s : State) (n : Nat) : State := if s.loopMissing n then s.startSpeedTask n else s

/-- A change to mode `m` drops a Standby request whose rest check runs (R31) and ends the speed tasks outside SafeOff and Recovery;
an entry to Recovery with the engines running writes them anew for every axis whose safe state may be active short (R34, R52). -/
def State.modeSpeed (s : State) (m : Nat) : State :=
  let s := s.withMode { s.mode with
    restCheck := s.mode.restCheck.map (fun x => (x.1, true))
    speedTasks := if m == modeSafeOff then s.mode.speedTasks else 0 }
  if m == modeRecovery && !s.flag F.MODE_CUR_MIN then
    s.each (axisList.filter s.mayShort) (fun n t => t.startSpeedTask n)
  else s

/-- MODE.CUR after a change to mode `m` (R26, R50), IRQSTAT.MODE (R273), WEIR.SFMCRC at an entry to Ready (R308), and the
legs of a mode in which legs may not switch disabled (R99). A leg whose ES.LEGCFG.EN stays 1 through such a mode goes on from its
active set when legs may switch again (DESIGN CHOICE, assumption log 25). Update's hold of COMPUTE ends with it (R26). -/
def State.toMode (s : State) (m : Nat) : State :=
  let old := s.curMode
  let dp := s.fld F.MODE_CUR_DPATH
  let s := s.put F.MODE_CUR_PREV old
  let s := s.incMod F.MODE_CUR_SEQ
  let s := s.put F.MODE_CUR_MODE m
  let s := s.put F.MODE_CUR_DPATH (modeDpath m dp (s.flag F.MODE_CUR_MIN))
  let s := (s.put F.MODE_CUR_WAKE 0).irq 1
  let s := if old == modeConfigure then s.closeLoad else s
  let s := if old == modeUpdate && m == modeRecovery && !s.flag F.MODE_CUR_MIN then s.put F.CLK_IRST_COMPUTE 0 else s
  let s := s.modeSpeed m
  let s := if m == modeReady then s.wr R.WEIR_SFMCRC (BitVec.ofNat 32 s.protectCrc) else s
  if legsMaySwitch old && !legsMaySwitch m then s.each legList (fun l t => t.disableLeg l)
  else if !legsMaySwitch old && legsMaySwitch m then s.each legList (fun l t => t.refreshHeld l) else s

/-- Outputs with SOFF = 1 go off at the entry to SafeOff, and their OSET bits clear (R400). -/
def State.fieldSafeOff (s : State) : State :=
  s.each ((List.range 16).filter (fun m => s.flag (F.FIO_OCFG_SOFF m))) (fun m t =>
    (t.put (F.FIO_OSTAT_ON m) 0).put ⟨R.FIO_OSET, m, 1⟩ 0)

/-- Replace MODE.CAUSE (R50): the event number, and the bits that tell the cause. -/
def State.setCause (s : State) (ev : Nat) (bits : List Nat) : State :=
  s.wr R.MODE_CAUSE (BitVec.ofNat 32 (ev * 256 + maskOf bits))

/-- Modes from which the hardware enters SafeOff (R30). -/
def safeOffModes : List Nat := [2, 4, 5, 6, 7, 9]

/-- The passage to SafeOff (R32) where the mode allows it; a class F source in SafeOff adds FATAL (R33, R50); one in Boot or
Update takes the device to Recovery (R30). `cause` holds the bits of MODE.CAUSE.
While the main clocks have stopped nothing of this can act (R452). -/
def State.hwSafeOff (s : State) (ev : Nat) (cause : List Nat) (fatal : Bool) : State :=
  let m := s.curMode
  if s.clk.mainStopped then s
  else if safeOffModes.contains m then
    let s := s.setCause ev cause
    let s := s.toMode modeSafeOff
    let s := s.withWeir { s.weir with noKickSinceSafeOff := true }
    (s.each (axisList.filter s.mayShort) (fun n t => t.safeOffSpeed n)).fieldSafeOff
  else if fatal && m == modeSafeOff then s.put F.MODE_CAUSE_FATAL 1
  else if fatal && (m == modeBoot || m == modeUpdate) then
    (s.setCause ev cause).toMode modeRecovery
  else s

/-! ## The Weir (R288 to R303) -/

/-- The enabled conditions of capture set `n` of a kind (1 line, 2 command) whose source satisfies `p` (R320). -/
def State.setConds (s : State) (n kind : Nat) (p : Nat → Bool) : Nat :=
  maskOf ((List.range 4).filter (fun j => s.flag (F.BSN_TCND_EN n j) && s.fld (F.BSN_TCND_KIND n j) == kind &&
    p (s.fld (F.BSN_TCND_SRC n j))))

/-! ### Starts that TIMEBASE sends (R8, R65, R171, R182, R184, R331) -/

/-- The boundary that a start of a kind crosses: 0 TIMEBASE to COMPUTE, 1 TIMEBASE to SENSE, 2 none. -/
def startBoundary (kind : Nat) : Nat := if kind == 0 then 0 else if kind == 3 then 2 else 1

/-- Starts sent in one moment take their way; their own commands bring them to their consumers (TASK_TRIGGER, ADC_SEQUENCE_START,
CAPTURE_TRIGGER, SSI_READ_START, CASCADE_LAUNCH). -/
def State.sendStarts (s : State) (l : List (Nat × Nat)) : State :=
  if l.isEmpty then s else s.withWeir { s.weir with starts := s.weir.starts ++ [l] }

/-- The start is the next to arrive on its boundary, or one of those sent together with it (R8). -/
def State.startNext (s : State) (kind i : Nat) : Bool :=
  match s.weir.starts.find? (fun g => g.any (fun x => startBoundary x.1 == startBoundary kind)) with
  | some g => g.contains (kind, i)
  | none => false

/-- The first entry `x` leaves the list of lists. -/
def dropStart (x : Nat × Nat) : List (List (Nat × Nat)) → List (List (Nat × Nat))
  | [] => []
  | g :: gs => if g.contains x then (if (g.erase x).isEmpty then gs else g.erase x :: gs) else g :: dropStart x gs

/-- A start on its way, taken by its consumer. -/
def State.takeStart (s : State) (kind i : Nat) : State :=
  s.withWeir { s.weir with starts := dropStart (kind, i) s.weir.starts }

/-- The enabled task slots of source `src` whose selection satisfies `sel` (R65). -/
def State.taskStarts (s : State) (src : Nat) (sel : Nat → Bool) : List (Nat × Nat) :=
  ((List.range 128).filter (fun i => s.flag (F.CE_TASKCFG_EN (i / 8) (i % 8)) && s.fld (F.CE_TASKCFG_SRC (i / 8) (i % 8)) == src &&
    sel (s.fld (F.CE_TASKCFG_SEL (i / 8) (i % 8))))).map (fun i => (0, i))

/-- The task slots that a carrier event starts: event 0 CZ, 1 CP, 2 CMPA, 3 CMPB, the last two of leg `leg` (R65). -/
def State.carrierTasks (s : State) (c ev leg : Nat) : List (Nat × Nat) :=
  s.taskStarts 1 (fun sel => sel % 32 == c && sel / 32 % 4 == ev && (decide (ev < 2) || sel / 128 == leg))

/-- An EVT code of ADC.SEQCFG and ENC.ABSTRG takes the carrier event `ev`: 0 CZ, 1 CP. -/
def evtTakes (c ev : Nat) : Bool := c == 2 || (if ev == 0 then c == 0 || c == 3 else c == 1)

/-- The enabled ADC sequences of source `src` and a selection that satisfies `sel` (R171); for carriers `ev` is 0 CZ or 1 CP. -/
def State.adcStarts (s : State) (src ev : Nat) (sel : Nat → Bool) : List (Nat × Nat) :=
  ((List.range 8).filter (fun q => s.flag (F.ADC_SEQCFG_EN q) && s.fld (F.ADC_SEQCFG_SRC q) == src &&
    sel (s.fld (F.ADC_SEQCFG_SEL q)) && (src != 1 || evtTakes (s.fld (F.ADC_SEQCFG_EVT q)) ev))).map (fun q => (1, q))

/-- The enabled capture units of trigger kind `t` whose selection satisfies `sel` (R184). -/
def State.capStarts (s : State) (t : Nat) (sel : Nat → Bool) : List (Nat × Nat) :=
  ((List.range 16).filter (fun k => s.flag (F.ENC_CAPCFG_EN k) && s.fld (F.ENC_CAPCFG_TRIGK k) == t &&
    sel (s.fld (F.ENC_CAPCFG_TRIGI k)))).map (fun k => (2, k))

/-- The enabled SSI ports of source `src` and selection `sel` (R182). -/
def State.ssiStarts (s : State) (src sel ev : Nat) : List (Nat × Nat) :=
  ((List.range 4).filter (fun m => s.flag (F.ENC_ABSCFG_EN m) && s.fld (F.ENC_ABSTRG_SRC m) == src &&
    s.fld (F.ENC_ABSTRG_SEL m) == sel && (src != 1 || evtTakes (s.fld (F.ENC_ABSTRG_EVT m)) ev))).map (fun m => (4, m))

/-- What the pulses on the lines of a mask start: tasks (R65), ADC sequences (R171) and capture units (R184) whose source is one of
the lines, and a launch of the Cascade (R331). -/
def State.lineStarts (s : State) (m : Nat) : List (Nat × Nat) :=
  s.taskStarts 2 (fun sel => m.testBit (sel % 32)) ++ s.adcStarts 3 0 (fun sel => m.testBit sel) ++
  s.capStarts 2 (fun sel => m.testBit sel) ++
  (if s.flag F.BSN_CCFG_EN && s.flag F.BSN_CCFG_INEN && m.testBit (s.fld F.BSN_CCFG_INLINE) then [(3, 0)] else [])

/-- Pulses on the trigger-bus lines of a mask: they meet conditions of the capture sets in their next sample (R321) and start what
`lineStarts` lists. -/
def State.linePulse (s : State) (m : Nat) : State :=
  let s := (s.withWeir { s.weir with lines := m }).sendStarts (s.lineStarts m)
  s.each [0, 1, 2, 3] (fun n t => t.modCap n (fun x => { x with trig := x.trig ||| t.setConds n 1 (fun i => m.testBit i) }))

/-- Trigger-bus lines a routed event drives (R312). -/
def State.routeEvent (s : State) (ev : Nat) : State :=
  let m := maskOf ((List.range 32).filter (fun t => s.flag (F.EVR_ROUTE_EN t) && s.fld (F.EVR_ROUTE_EV t) == ev))
  if m = 0 then s else s.linePulse m

/-- The notify queue's head in WEIR.NQ. -/
def State.syncNq (s : State) : State :=
  (s.putB F.WEIR_NQ_V (!s.weir.nq.isEmpty)).put F.WEIR_NQ_EV (s.weir.nq.headD 0)

/-- A new notify entry (R303): dropped with OVF when the queue holds 32; the firmware sets IRQSTAT.WEIR. -/
def State.notify (s : State) (ev : Nat) : State :=
  let s := if decide (s.weir.nq.length < 32) then (s.withWeir { s.weir with nq := s.weir.nq ++ [ev] }).syncNq
    else s.put F.WEIR_NQ_OVF 1
  if s.clk.mainStopped then s else s.irq 2

/-- The sticky bit of EV_ev (R288). -/
def stkFld (ev : Nat) : Fld := ⟨R.WEIR_STK (ev / 32), ev % 32, 1⟩

def classC : Nat := 0
def classU : Nat := 1
def classF : Nat := 2
def classReserved : Nat := 3

def State.srcClass (s : State) (ev : Nat) : Nat := s.fld (F.WEIR_RCT_CLASS ev)

/-- Any class F sticky bit is set. -/
def State.anyClassF (s : State) : Bool :=
  (List.range 192).any (fun ev => s.srcClass ev == classF && s.flag (stkFld ev))

/-- Whether the reaction in progress in domain `d` is complete (R291, R295). -/
def State.domComplete (s : State) (d : Nat) : Bool :=
  let r := s.fld (F.WEIR_DOMST_REACT d)
  if r == 2 then s.axState d == axFaulted || !s.weir.stopFrom.testBit d
  else if r == 3 || r == 4 then s.flag (F.SPW_GSTAT_SAFE d) || (s.groupLegs d).isEmpty
  else if r == 5 then
    s.groupList.all (fun n => s.flag (F.SPW_GSTAT_SAFE n)) &&
      (s.curMode == modeSafeOff || s.curMode == modeBoot || s.curMode == modeUpdate || s.curMode == modeRecovery)
  else if r == 6 then s.curMode == modeRecovery
  else false

/-- Set DONE of every domain whose reaction has completed; a completed axis stop starts the end of its mask (R300). -/
def State.checkDone (s : State) : State :=
  s.each (List.range 17) (fun d t =>
    if t.flag (F.WEIR_DOMST_ACT d) && !t.flag (F.WEIR_DOMST_DONE d) && t.domComplete d then
      let t := t.put (F.WEIR_DOMST_DONE d) 1
      t.withWeir { t.weir with maskStopOver := putBit t.weir.maskStopOver d (t.weir.maskStop.testBit d) }
    else t)

/-- Start reaction `code` in domain `d` for source `ev`; `own` lists the groups whose Spillway the source has already
started in hardware, to which the Weir adds nothing (R116). -/
def State.startReaction (s : State) (d code ev : Nat) (own : List Nat) : State :=
  if code == 2 then
    let en := s.axState d == axEnergised
    let s := s.withWeir { s.weir with
      stopFrom := putBit s.weir.stopFrom d en
      stopDue := putBit s.weir.stopDue d en
      maskStop := putBit s.weir.maskStop d true
      maskStopOver := putBit s.weir.maskStopOver d false }
    s.syncMask d
  else if code == 3 || code == 4 then
    let s := if s.islandsRun && !own.contains d then s.tripGroup d causeWeir 0 0 else s
    if code == 4 then s.withWeir { s.weir with safeOffDue := putBit s.weir.safeOffDue d true } else s
  else
    let s := if s.islandsRun then s.tripAll causeWeir own else s
    let sto := ev == 128
    let bits := if code == 6 then [2] else if sto then [0] else if ev == 130 then [1, 5] else [1]
    s.hwSafeOff ev bits (code == 6)

/-- The reaction of an assertion on its domain (R296, R297, R310). -/
def State.react (s : State) (ev code : Nat) (own : List Nat) : State :=
  let d := if decide (code ≤ 4) then ev / 8 else domDev
  let ownAct := s.flag (F.WEIR_DOMST_ACT d)
  let devAct := d != domDev && s.flag (F.WEIR_DOMST_ACT domDev)
  if ownAct || devAct then
    let cur := Nat.max (if ownAct then s.fld (F.WEIR_DOMST_REACT d) else 0)
      (if devAct then s.fld (F.WEIR_DOMST_REACT domDev) else 0)
    if decide (code ≤ cur) then s.put (F.WEIR_DOMST_MERGED (if ownAct then d else domDev)) 1
    else
      let s := ((s.put (F.WEIR_DOMST_REACT d) code).put (F.WEIR_DOMST_DONE d) 0).put (F.WEIR_DOMST_ESC d) 1
      (s.startReaction d code ev own).checkDone
  else
    let s := (((s.put (F.WEIR_DOMST_ACT d) 1).put (F.WEIR_DOMST_DONE d) 0).put (F.WEIR_DOMST_REACT d) code).put
      (F.WEIR_DOMST_FIRST d) ev
    (s.startReaction d code ev own).checkDone

/-- A source of the tables of R290 that can assert: reserved ones never do. -/
def State.canAssert (s : State) (ev : Nat) : Bool :=
  if decide (ev < 192) then s.srcClass ev != classReserved else decide (ev < 228)

/-- A source reaches the Weir (R289, R302, R303): routing, sticky bit, notify entry, reaction. -/
def State.weirTake (s : State) (ev : Nat) (own : List Nat) : State :=
  let s := s.routeEvent ev
  if decide (192 ≤ ev) then s
  else
    let code := s.fld (F.WEIR_RCT_REACT ev)
    let was := s.flag (stkFld ev)
    let s := s.put (stkFld ev) 1
    let s := if !was && decide (1 ≤ code) then s.notify ev else s
    if decide (2 ≤ code) then s.react ev code own else s

/-- A detector asserts source `ev`, where it is none of the reserved ones (R290). In Standby RILL holds the source until the wake (R44) and a class U or F source wakes
the device (R42); while Reset is held, or the SAFETY clock has stopped, nothing reaches the Weir. -/
def State.assertOwn (s : State) (ev : Nat) (own : List Nat) : State :=
  if s.curMode == modeReset || s.clk.safetyStopped || !s.canAssert ev then s
  else if s.curMode == modeStandby then
    let s := s.withMode { s.mode with rillHeld := s.mode.rillHeld ++ [ev] }
    if decide (ev < 192) && (s.srcClass ev == classU || s.srcClass ev == classF) then s.put F.MODE_WAKESRC_FAULT 1 else s
  else s.weirTake ev own

/-- A detector with no hardware reaction of its own asserts source `ev`. -/
def State.assertEv (s : State) (ev : Nat) : State := s.assertOwn ev []

/-- Sources that reach the Weir in one SAFETY cycle (R310): those of stronger reactions first, so that DOM_DEV is taken before the
axis domains, and within one reaction the lowest event number first. -/
def State.assertTogether (s : State) (evs : List Nat) : State :=
  let code : Nat → Nat := fun ev => if decide (192 ≤ ev) then 0 else s.fld (F.WEIR_RCT_REACT ev)
  s.each (sortBy (fun ev => ((ev : Nat) : Int) - 256 * code ev) evs) (fun ev t => t.assertEv ev)

/-- The source `k` of axis or engine `n` (R290). -/
def evAxis (n k : Nat) : Nat := 8 * n + k

/-- A detector of R116 on leg `l`, attributed to the upper and lower switches given: the group's Spillway and its
bridge-trip source, or the leg alone and EV_144 (R116, R290, R500). -/
def State.tripLeg (s : State) (l cause : Nat) (up lo : Bool) : State :=
  match s.legGroup l with
  | some n =>
    let p := s.legPos n l
    let s := s.tripGroup n cause (if up then 2 ^ p else 0) (if lo then 2 ^ p else 0)
    s.assertOwn (evAxis n 0) [n]
  | none => (s.tripUnbound l).assertEv 144

/-! ## The tags of the internal fabric (R426) -/

/-- Tags issued equal tags returned plus tags held; where they do not, EV_139. -/
def State.checkTags (s : State) : State :=
  if s.tags.issued == s.tags.returned + (bitsOf 64 s.tags.held).length then s else s.assertEv 139

/-- A transaction takes tag `n`, and holds it until its response. -/
def State.issueTag (s : State) (n : Nat) : State :=
  (s.withTags { s.tags with held := putBit s.tags.held n true, issued := s.tags.issued + 1 }).checkTags

/-- The response of the transaction that holds tag `n`: it is always accepted. -/
def State.returnTag (s : State) (n : Nat) : State :=
  if s.tags.held.testBit n then
    (s.withTags { s.tags with held := putBit s.tags.held n false, returned := s.tags.returned + 1 }).checkTags
  else s

/-- A transaction of an agent other than an engine: it takes the shared tag that is next in turn, and its response comes within the
same command. -/
def State.sharedAccess (s : State) (f : State → State) : State :=
  let n := s.tags.turn
  let s := (s.withTags { s.tags with turn := if n == 63 then 16 else n + 1 }).issueTag n
  (f s).returnTag n

/-- What stalls an engine is over; the response of a load that it no longer waits for is accepted and dropped. -/
def State.unstall (s : State) (e : Nat) : State := (s.modEngine e (fun x => { x with stall := .none })).returnTag e

/-! ## Network time (R349) -/

/-- NETWORK runs. -/
def State.netRuns (s : State) : Bool := s.clocked && !s.flag F.MODE_CUR_MIN && !s.flag F.CLK_IRST_NETWORK

def State.tuCnt (s : State) : Nat := (s.rd R.TU_CNTL).toNat + (s.rd R.TU_CNTH).toNat * 2 ^ 32

def State.tuRate (s : State) : Nat := (s.rd R.TU_RATEL).toNat + s.fld F.TU_RATEH_RATE * 2 ^ 32

/-- OFFSET in 2^-16 ns. -/
def State.tuOffset (s : State) : Int :=
  sgn 80 ((s.rd R.TU_OFS0).toNat + (s.rd R.TU_OFS1).toNat * 2 ^ 32 + s.fld F.TU_OFS2_OFS * 2 ^ 64)

/-- Network time t in 2^-16 ns. -/
def State.netTime (s : State) : Int := openRound (s.tuCnt * s.tuRate) (2 ^ 16) + s.tuOffset

/-- Put a 64-bit value into two registers. -/
def State.wr64 (s : State) (lo hi v : Nat) : State := (s.wr lo (BitVec.ofNat 32 v)).wr hi (BitVec.ofNat 32 (v / 2 ^ 32))

/-- TIMEL and TIMEH show integer ns of t. -/
def State.syncTime (s : State) : State := s.wr64 R.TU_TIMEL R.TU_TIMEH (uns 64 (asr s.netTime 16))

/-- The counter stands `adv` counts past the last time-unit command. -/
def State.tuAdvance (s : State) (adv : Nat) : State := (s.wr64 R.TU_CNTL R.TU_CNTH ((s.tuCnt + adv) % 2 ^ 64)).syncTime

/-- The counter runs on by `adv` counts, in Standby by `adv` XIN clocks of 8 counts each (R360), where the time unit is clocked. -/
def State.runOn (s : State) (adv : Nat) : State :=
  if s.curMode == modeStandby then s.tuAdvance (8 * adv) else if s.netRuns then s.tuAdvance adv else s

/-- The network time of a moment, in whole ns. -/
def State.nsAt (s : State) (back : Nat) : Nat := uns 64 (asr (s.netTime - (back : Int)) 16)

/-! ## The sample clocks of the Basin (R315) -/

def State.capState (s : State) (n : Nat) : Nat := s.fld (F.BSN_SSTAT_STATE n)

/-- The set is armed: Filling, Waiting or Post. -/
def State.capArmed (s : State) (n : Nat) : Bool := decide (1 ≤ s.capState n ∧ s.capState n ≤ 3)

/-- A clock event of the armed sets that satisfy `p`: every (DIV + 1)th, counted from ARM (DESIGN CHOICE, assumption log 33), has a
sample instant SDLY ticks later; `at_` is the event's value of TU.CNT where it has one. -/
def State.sampleClock (s : State) (p : Nat → Bool) (at_ : Option Nat) : State :=
  s.each [0, 1, 2, 3] (fun n t =>
    if t.capArmed n && p n then
      let whole := decide (t.fld (F.BSN_SDIV_DIV n) ≤ (t.cap n).clock)
      t.modCap n (fun x => if whole then
        { x with clock := 0, due := x.due ++ [at_.map (fun d => d + t.fld (F.BSN_SDIV_SDLY n))] } else { x with clock := x.clock + 1 })
    else t)

end Sys2Proof.Machine
end

