-- ==== Sys2Proof/Machine/Switch.lean ====
section
/-!
DEFINITION. Frames and the switch (R339 to R343), and the device's MAC address. The frame layouts are those of IEEE 802.3, 802.1Q, 1588
and of IPv4, which the chapter names (PRESUMED, assumption log 15).
-/

namespace Sys2Proof.Machine

/-! ## Bytes of the OTP memory (R431) -/

def otpDefault : Nat → Byte := fun _ => 0

/-- The OTP byte at an offset (R431). -/
def State.otp8 (s : State) (i : Nat) : Byte := SMap.get otpDefault s.sec.otp i

def State.otpBytes (s : State) (off n : Nat) : List Byte := (List.range n).map (fun i => s.otp8 (off + i))

/-! ## Frames -/

/-- A number of `k` bytes at `off`, most significant first. -/
def beAt (f : List Byte) (off k : Nat) : Nat := leNat (bytesAt f off k).reverse

/-- Bytes of `f` from `off` replaced. -/
def putBytes (f : List Byte) (off : Nat) (bs : List Byte) : List Byte := f.take off ++ bs ++ f.drop (off + bs.length)

def putBe (f : List Byte) (off k v : Nat) : List Byte := putBytes f off (leBytes k v).reverse

def tagged (f : List Byte) : Bool := beAt f 12 2 == 0x8100

/-- Where the EtherType stands. -/
def typeAt (f : List Byte) : Nat := if tagged f then 16 else 12

def etherType (f : List Byte) : Nat := beAt f (typeAt f) 2

/-- Where the UDP header of an IPv4 or IPv6 datagram stands. -/
def udpAt (f : List Byte) : Option Nat :=
  let e := typeAt f + 2
  if etherType f == 0x0800 && beAt f (e + 9) 1 == 17 then some (e + beAt f e 1 % 16 * 4)
  else if etherType f == 0x86DD && beAt f (e + 6) 1 == 17 then some (e + 40)
  else none

/-- Where the IEEE 1588 header of a layer-2 or UDP/IPv4 message stands. -/
def ptpAt (f : List Byte) : Option Nat :=
  if etherType f == 0x88F7 then some (typeAt f + 2)
  else if etherType f == 0x0800 then
    match udpAt f with
    | some u => if beAt f (u + 2) 2 == 319 || beAt f (u + 2) 2 == 320 then some (u + 8) else none
    | none => none
  else none

/-- An event message over IPv6 (R346). -/
def ipv6Event (f : List Byte) : Bool :=
  etherType f == 0x86DD && (match udpAt f with | some u => beAt f (u + 2) 2 == 319 | none => false)

/-- A gPTP message: layer 2 with the IEEE 802.1AS transport nibble. -/
def isGptp (f : List Byte) : Bool := etherType f == 0x88F7 && beAt f (typeAt f + 2) 1 / 16 == 1

/-- A gPTP message the switch does not forward (R347): of domain 0, or a peer-delay message. -/
def gptpLocal (f : List Byte) : Bool :=
  let p := typeAt f + 2
  let m := beAt f p 1 % 16
  isGptp f && (beAt f (p + 4) 1 == 0 || m == 2 || m == 3 || m == 10)

/-- correctionField raised by `d` 2^-16 ns, and the UDP checksum of a datagram set to 0. -/
def addCorrection (f : List Byte) (p : Nat) (d : Int) : List Byte :=
  let f := putBe f (p + 8) 8 (uns 64 (sgn 64 (beAt f (p + 8) 8) + d))
  if etherType f == 0x88F7 then f else putBe f (p - 2) 2 0

/-- The device's MAC address as a number, most significant byte first (R431). -/
def State.macAddr (s : State) : Nat := beAt (s.otpBytes 8 6) 0 6

/-! ## The switch (R340 to R343) -/

def State.txPush (s : State) (f : TxFrame) : State := s.withNet { s.net with txq := s.net.txq ++ [f] }

def State.fixedEntry (s : State) (i : Nat) : Bool × Nat × Nat := SMap.get (fun _ => (false, 0, 0)) s.net.fixed i

/-- Ports for a destination: a static entry before a learned one; `none` for an unknown address (R340). -/
def State.fdbPorts (s : State) (mac : Nat) : Option Nat :=
  match (List.range 16).find? (fun i => (s.fixedEntry i).1 && (s.fixedEntry i).2.1 == mac) with
  | some i => some (s.fixedEntry i).2.2
  | none => (s.net.fdb.find? (fun e => e.1 == mac)).map (fun e => 2 ^ e.2)

/-- Learn a unicast source. Which address gives way when the table is full is open: a free value. -/
def State.learn (s : State) (mac p : Nat) : State :=
  if mac / 2 ^ 40 % 2 == 1 then s
  else
    let l := s.net.fdb.filter (fun e => e.1 != mac)
    if decide (l.length < 512) then s.withNet { s.net with fdb := l ++ [(mac, p)] }
    else
      let (v, s) := s.draw
      if v % 513 == 512 then s else s.withNet { s.net with fdb := l.eraseIdx (v % 513) ++ [(mac, p)] }

/-- The VLAN entry of an identifier. -/
def State.vlan (s : State) (vid : Nat) : Option Nat :=
  (List.range 16).find? (fun v => s.flag (F.SW_VLAN_V v) && s.fld (F.SW_VLAN_VID v) == vid)

/-- A frame as it leaves a port: without its tag where the port's UNTAG bit is set, else with the tag of its VLAN, which keeps a priority
it came with (R341). -/
def retag (f : List Byte) (untag : Bool) (vid : Nat) : List Byte :=
  if untag then (if tagged f then f.take 12 ++ f.drop 16 else f)
  else if tagged f then putBe f 14 2 (beAt f 14 2 / 4096 * 4096 + vid % 4096) else f.take 12 ++ [0x81, 0] ++ (leBytes 2 vid).reverse ++ f.drop 12

/-- Queue of a priority code point. -/
def State.pcpQueue (s : State) (c : Nat) : Nat := s.fld ⟨R.SW_PCPMAP, 2 * c, 2⟩

/-- Queue `q` of port `p` is full for another frame. How much a queue holds is open: a free value of what waits in it (assumption
log 5). -/
def State.queueFull (s : State) (p q : Nat) : Bool :=
  let l := (s.net.txq.filter (fun f => f.port == p && f.queue == q)).map (fun f => f.bytes.length)
  !l.isEmpty && Config.queueFull p q l

/-- A full queue drops the new frame (R343). -/
def State.queueDrop (s : State) (p : Nat) : State := (s.inc (F.SW_PSTAT_QDROP p)).assertEv 172

/-- Forward a frame that entered at port `p`, port 4 included (R340, R341, R343). For the other ports `full` holds the egress ports whose
queue is full; `bufs` are the transmit buffers of a frame from port 4. -/
def State.forward (s : State) (p : Nat) (f : List Byte) (full : Nat) (inAt : Int) (bufs : List Nat) : State :=
  let tci := if tagged f then beAt f 14 2 else 0
  let vid := if tci % 4096 == 0 then s.fld (F.SW_PCFG_PVID p) else tci % 4096
  match s.vlan vid with
  | none => s.inc (F.SW_PSTAT_VDROP p)
  | some v =>
    let memb := s.fld (F.SW_VLAN_MEMB v)
    if !memb.testBit p then s.inc (F.SW_PSTAT_VDROP p)
    else
      let s := s.learn (beAt f 6 6) p
      let s := if decide (p < 4) && ipv6Event f then s.inc (F.SW_PSTAT_TCSKIP p) else s
      let ports := match s.fdbPorts (beAt f 0 6) with
        | some m => memb &&& m
        | none => memb
      let queue := if isGptp f then 3 else s.pcpQueue (tci / 8192)
      let outs := [0, 1, 2, 3, 4].filter (fun q => ports.testBit q && q != p && (q == 4 || s.flag (F.SW_PCFG_EN q)))
      s.each outs (fun q t =>
        if full.testBit q || (p == 4 && t.queueFull q queue) then t.queueDrop q
        else t.txPush ⟨q, queue, retag f ((t.fld (F.SW_VLAN_UNTAG v)).testBit q) vid, p, inAt, bufs, none, none⟩)

end Sys2Proof.Machine
end

