-- ==== Sys2Proof/Machine/Mailbox.lean ====
section
/-!
DEFINITION. The mailbox engine and the Reservoir (spec/11): ownership, credits, the checks of R271, response descriptors.
A host command's row is its step 8 and its answer (`State.hostCmd`); DOORBELL_WRITE and COMMAND_CONSUME post and consume it.
-/

namespace Sys2Proof.Machine

/-! ## Status codes (R265) -/

def stOk : Nat := 0
def stBusy : Nat := 1
def stRange : Nat := 2
def stState : Nat := 3
def stUnsupported : Nat := 4
def stAuth : Nat := 5
def stNoack : Nat := 6
def stMalformed : Nat := 7
def stNocredit : Nat := 8

/-! ## The Reservoir (R275 to R278) -/

/-- The owner code field of buffer `b` in MBX.RSVOWN. -/
def ownerFld (b : Nat) : Fld := ⟨R.MBX_RSVOWN (b / 4), 8 * (b % 4), 8⟩

def State.owner (s : State) (b : Nat) : Nat := s.fld (ownerFld b)

/-- The class of an owner code (R275): 0 HOST, 1 CAN, 2 ETH, 3 BASIN, 4 FW. -/
def ownerClass (o : Nat) : Option Nat :=
  if decide (0x10 ≤ o ∧ o < 0x30) || o == 0x61 then some 0
  else if decide (0x30 ≤ o ∧ o < 0x38) then some 1
  else if o == 0x40 || o == 0x41 then some 2
  else if decide (0x50 ≤ o ∧ o < 0x54) then some 3
  else if o == 0x60 then some 4
  else none

def bufBase (b : Nat) : Nat := 0x10200000 + 0x100 * b

/-- The Reservoir is below its low threshold: IRQSTAT.RSVLOW and EV_141, when FREE falls below LOW (R273, R287). -/
def State.rsvLow (s : State) (old : Nat) : State :=
  let low := s.fld F.MBX_RSVFREE_LOW
  if decide (low ≤ old) && decide (s.fld F.MBX_RSVFREE_FREE < low) then (s.irq 7).assertEv 141 else s

/-- Give buffer `b` the owner `o` and keep the counts (R278). -/
def State.setOwner (s : State) (b o : Nat) : State :=
  let old := s.owner b
  let free := s.fld F.MBX_RSVFREE_FREE
  let s := match ownerClass old with
    | some c => s.put (F.MBX_RSVCNT_COUNT c) (s.fld (F.MBX_RSVCNT_COUNT c) - 1)
    | none => s
  let s := match ownerClass o with
    | some c => s.put (F.MBX_RSVCNT_COUNT c) (s.fld (F.MBX_RSVCNT_COUNT c) + 1)
    | none => s
  let s := s.put (ownerFld b) o
  let s := if old == 0 && o != 0 then s.put F.MBX_RSVFREE_FREE (free - 1)
    else if old != 0 && o == 0 then s.put F.MBX_RSVFREE_FREE (free + 1) else s
  s.rsvLow free

/-- An allocation into class `c` keeps its CAP and leaves the other classes their floors (R276). -/
def State.mayAlloc (s : State) (c : Nat) : Bool :=
  let needs := (List.range 5).map (fun d =>
    if d == c then 0 else s.fld (F.MBX_RSVQ_FLOOR d) - s.fld (F.MBX_RSVCNT_COUNT d))
  decide (s.fld (F.MBX_RSVCNT_COUNT c) + 1 ≤ s.fld (F.MBX_RSVQ_CAP c)) &&
    decide (needs.foldl (· + ·) 0 + 1 ≤ s.fld F.MBX_RSVFREE_FREE)

def bufList : List Nat := List.range 2048

/-- Allocate a free buffer into owner code `o` (R276), the lowest (DESIGN CHOICE, assumption log 23: no rule names one); on the
smallest serving set there is no Reservoir (R279). -/
def State.alloc (s : State) (o : Nat) : Option (Nat × State) :=
  if s.flag F.MODE_CUR_MIN then none
  else match ownerClass o with
  | none => none
  | some c =>
    if s.mayAlloc c then
      match bufList.find? (fun b => s.owner b == 0) with
      | some b => some (b, s.setOwner b o)
      | none => none
    else none

/-- Allocate `n` buffers, or none. -/
def State.allocN (s : State) (o : Nat) : Nat → Option (List Nat × State)
  | 0 => some ([], s)
  | n + 1 => match s.alloc o with
    | none => none
    | some (b, s) => match s.allocN o n with
      | none => none
      | some (bs, s) => some (b :: bs, s)

/-! ## The switch's internal port (R339, R341, R343) -/

/-- A frame's bytes in the buffers that hold it. -/
def State.fillBufs (s : State) (bs : List Nat) (f : List Byte) : State :=
  s.each (List.range bs.length) (fun i t => t.wrBytes (bufBase (bs.getD i 0)) ((f.drop (256 * i)).take 256))

/-- Buffers for a frame of owner 0x40 or 0x41, with its bytes. -/
def State.frameBufs (s : State) (o : Nat) (f : List Byte) : Option (List Nat × State) :=
  match s.allocN o (Nat.max 1 ((f.length + 255) / 256)) with
  | some (bs, t) => some (bs, t.fillBufs bs f)
  | none => none

/-- Transmit buffers go free once no frame of the switch is held in them. -/
def State.freeSent (s : State) (bs : List Nat) : State :=
  s.each (bs.filter (fun b => !s.net.txq.any (fun f => f.bufs.contains b))) (fun b t => t.setOwner b 0)

/-- The firmware passes a frame to the switch at port 4, through transmit buffers; `false` where NETWORK is stopped or no buffers can be
had. -/
def State.sendFrame (s : State) (f : List Byte) : Bool × State :=
  if !s.netRuns then (false, s)
  else match s.frameBufs 0x41 f with
    | none => (false, s)
    | some (bs, t) => (true, (t.forward 4 f 0 t.netTime bs).freeSent bs)

/-- A UDP datagram of the firmware to an IPv4 address and port; the last 32 payloads are kept. -/
def State.sendUdp (s : State) (bytes : List Byte) (ip port : Nat) : Bool × State :=
  let (ok, t) := s.sendFrame (Config.udpFrame bytes s.macAddr s.net.ip ip port)
  (ok, if ok then t.withNetOut (t.netOut.drop (t.netOut.length - 31) ++ [bytes]) else s)

/-- A transfer that names the expected owner (R276): refused, by `none`, when it does not match or when the receiving class
would pass its CAP, and on the smallest serving set, which keeps no ownership table (R279). A code that R275 does not list is
taken: it fails the equalities of R278. -/
def State.transfer (s : State) (b src dst : Nat) : Option State :=
  if s.owner b != src || s.flag F.MODE_CUR_MIN then none
  else
    let full := match ownerClass dst with
      | some c => ownerClass src != some c && decide (s.fld (F.MBX_RSVQ_CAP c) ≤ s.fld (F.MBX_RSVCNT_COUNT c))
      | none => false
    if full || (src == 0 && !(match ownerClass dst with | some c => s.mayAlloc c | none => true)) then none
    else some (s.setOwner b dst)

/-! ## The aperture (R277) -/

/-- The slots held for attached buffers of started commands. -/
def State.heldSlots (s : State) : List Nat :=
  (List.range 16).flatMap (fun k => (s.chan k).held.map (fun x => x.1))

/-- The lowest free aperture slot. -/
def State.freeSlot (s : State) : Option Nat :=
  (List.range 128).find? (fun i => !s.flag (F.MBX_APMAP_V i) && !s.heldSlots.contains i)

def State.mapSlot (s : State) (i b : Nat) : State :=
  (s.put (F.MBX_APMAP_V i) 1).put (F.MBX_APMAP_BUF i) b

def State.unmapSlot (s : State) (i : Nat) : State := s.wr (R.MBX_APMAP i) 0

/-- The slot that maps buffer `b`. -/
def State.slotOf (s : State) (b : Nat) : Option Nat :=
  (List.range 128).find? (fun i => s.flag (F.MBX_APMAP_V i) && s.fld (F.MBX_APMAP_BUF i) == b)

/-- Map each buffer into the lowest free slot, or none of them: the slots taken. -/
def State.mapAll (s : State) : List Nat → Option (List Nat × State)
  | [] => some ([], s)
  | b :: bs => match s.freeSlot with
    | none => none
    | some i => match (s.mapSlot i b).mapAll bs with
      | none => none
      | some (is, s) => some (i :: is, s)

/-- Free a buffer and its aperture slot. -/
def State.freeBuf (s : State) (b : Nat) : State :=
  let s := match s.slotOf b with
    | some i => s.unmapSlot i
    | none => s
  s.setOwner b 0

/-- The 256 bytes of a buffer. -/
def State.bufBytes (s : State) (b : Nat) : List Byte := s.rdBytes (bufBase b) 256

/-- The 256 bytes of aperture slot `i` on the smallest serving set: its part of the staging area (R279). -/
def stagingBase (i : Nat) : Nat := 0x10038000 + 0x100 * i

/-- The bytes of the attached buffers of a command, in order; on the smallest serving set, of the aperture slots named (R279). -/
def State.attached (s : State) (c : HostCmd) : List Byte :=
  c.handles.flatMap (fun h =>
    if s.flag F.MODE_CUR_MIN then s.rdBytes (stagingBase (h.toNat % 128)) 256 else s.bufBytes h.toNat)

/-! ## Credits (R268 to R270) -/

def State.avail (s : State) (k : Nat) : Nat :=
  s.fld (F.MBX_CRED_LIMIT k) - s.fld (F.MBX_CRED_INFL k) - s.fld (F.MBX_CRED_PEND k)

/-- CRED[k] of the window. -/
def State.credWord (s : State) (k : Nat) : Nat :=
  s.fld (F.MBX_CRED_PEND k) * 2 ^ 24 + s.avail k % 256 * 2 ^ 16 + s.fld (F.MBX_CRED_INFL k) * 256 + s.fld (F.MBX_CRED_LIMIT k)

/-- A credit comes back: to the channel, or from PEND to the POOL (R269). -/
def State.returnCredit (s : State) (k : Nat) : State :=
  let p := s.fld (F.MBX_CRED_PEND k)
  if p == 0 then s.put (F.MBX_CRED_INFL k) (s.fld (F.MBX_CRED_INFL k) - 1)
  else
    let s := s.put (F.MBX_CRED_PEND k) (p - 1)
    let s := s.put (F.MBX_CRED_LIMIT k) (s.fld (F.MBX_CRED_LIMIT k) - 1)
    s.put F.MBX_CREDPOOL_POOL (s.fld F.MBX_CREDPOOL_POOL + 1)

/-- The credit equalities of R270. -/
def State.creditOk (s : State) : Bool :=
  ((List.range 16).map (fun k => s.fld (F.MBX_CRED_LIMIT k))).foldl (· + ·) (s.fld F.MBX_CREDPOOL_POOL) == 128 &&
    (List.range 16).all (fun k => decide (s.fld (F.MBX_CRED_INFL k) + s.fld (F.MBX_CRED_PEND k) ≤ s.fld (F.MBX_CRED_LIMIT k)))

/-- A failed credit equality sets MBX.INV.CRERR and EV_132 (R270), which asserts once (R289). -/
def State.checkCredit (s : State) : State :=
  if s.creditOk || s.flag F.MBX_INV_CRERR then s else (s.put F.MBX_INV_CRERR 1).assertEv 132

/-- The per-code equalities of R278. -/
def State.reservoirOk (s : State) : Bool :=
  let owners := bufList.map (fun b => s.owner b)
  owners.all (fun o => o == 0 || (ownerClass o).isSome) &&
    owners.countP (fun o => o == 0) == s.fld F.MBX_RSVFREE_FREE &&
    (List.range 5).all (fun c => owners.countP (fun o => ownerClass o == some c) == s.fld (F.MBX_RSVCNT_COUNT c))

/-- A failed equality of R278 sets MBX.INV.RSVERR and EV_133. Allocations, frees and the device's own transfers keep the
equalities, so the check stands at the transfers that SUP names (MBX.RSVXFER). -/
def State.checkReservoir (s : State) : State :=
  if s.reservoirOk || s.flag F.MBX_INV_RSVERR then s else (s.put F.MBX_INV_RSVERR 1).assertEv 133

/-! ## Features and modes -/

/-- Features are committed, and feature `f` is accepted (R274). -/
def State.committed (s : State) : Bool := s.flag HW.commit

def State.feature (s : State) (f : Nat) : Bool :=
  s.committed && !s.flag F.MODE_CUR_MIN && (s.rd (HW.hostFeat (f / 32))).toNat.testBit (f % 32)

/-- SUP executes commands: it serves the host window and no debugger halts it (R286, R439). -/
def State.supRuns (s : State) : Bool := s.supServes && !s.sec.halted.testBit 16

/-- The device is in one of the modes listed. -/
def State.inModes (s : State) (l : List Nat) : Bool := l.contains s.curMode

/-! ## The checks of R271 -/

/-- The opcodes of the command tables. -/
def opcodeDefined (o : Nat) : Bool :=
  decide (o ≤ 0x0D) || decide (0x10 ≤ o ∧ o ≤ 0x1E) || decide (0x20 ≤ o ∧ o ≤ 0x2C) || decide (0x30 ≤ o ∧ o ≤ 0x3A) ||
  decide (0x40 ≤ o ∧ o ≤ 0x4C) || decide (0x50 ≤ o ∧ o ≤ 0x57) || decide (0x60 ≤ o ∧ o ≤ 0x66) ||
  decide (0x70 ≤ o ∧ o ≤ 0x79) || decide (0x80 ≤ o ∧ o ≤ 0x88) || decide (0x90 ≤ o ∧ o ≤ 0x9C) || decide (0xA0 ≤ o ∧ o ≤ 0xA4)

/-- The Update commands of R438. -/
def updateCommand (o : Nat) (param : List Byte) : Bool :=
  o == 0x01 || o == 0x02 || decide (0x90 ≤ o ∧ o ≤ 0x96) || (o == 0x03 && numAt param 0 1 == modeUpdate)

/-- The feature a command belongs to (R274), if any. -/
def featureOf (o : Nat) (param : List Byte) : Option Nat :=
  if updateCommand o param then none
  else if o == 0x06 then some 14
  else if decide (o < 0x10) then none
  else some (o / 16)

/-- No element occurs twice. -/
def noRepeat {α : Type} [BEq α] : List α → Bool
  | [] => true
  | x :: xs => !xs.contains x && noRepeat xs

/-- An attached handle names a buffer of the channel (R271); on the smallest serving set it names an aperture slot (R279). -/
def State.handleOk (s : State) (k : Nat) (h : BitVec 16) : Bool :=
  if s.flag F.MODE_CUR_MIN then decide (h.toNat < 128) else decide (h.toNat < 2048) && s.owner h.toNat == 0x10 + k

/-- The first failing check of steps 1 to 7 of R271: status and detail. -/
def State.checkCommand (s : State) (k : Nat) (e : InService) : Option (Nat × Nat) :=
  let min := s.flag F.MODE_CUR_MIN
  if !e.credited then some (stNocredit, 0x06)
  else if e.bad || decide (48 < e.cmd.param.length) || decide (4 < e.cmd.handles.length) then some (stMalformed, 0x04)
  else if !(e.cmd.handles.all (s.handleOk k)) || !noRepeat e.cmd.handles
    then some (stMalformed, 0x05)
  else if !opcodeDefined e.opcode then some (stUnsupported, 0x01)
  else if min && !updateCommand e.opcode e.cmd.param then some (stState, 0x07)
  else if !min && !s.committed && !(decide (e.opcode < 0x10) || updateCommand e.opcode e.cmd.param) then some (stState, 0x03)
  else match featureOf e.opcode e.cmd.param with
    | some f => if s.feature f then none else some (stUnsupported, 0x02)
    | none => none

/-! ## Responses (R264) -/

/-- A response: status, detail, RESULT bytes, result buffers, whether the attached buffers are returned although the command succeeded
(R277), and the attached buffers returned. -/
structure Reply where
  status : Nat
  detail : Nat := 0
  result : List Byte := []
  bufs : List Nat := []
  keep : Bool := false
  ret : List Nat := []

def Reply.ok : Reply := { status := stOk }

/-- A response ring slot of MB_k. -/
def rspSlot (k i : Nat) : Nat := 0x10001800 + 0x1000 * k + 64 * (i % 32)

def cmdSlot (k i : Nat) : Nat := 0x10001000 + 0x1000 * k + 64 * (i % 32)

/-- Consumed and unanswered commands plus unread responses number fewer than 32 (R267). -/
def State.rspRoom (s : State) (k : Nat) : Bool :=
  let unread := (s.fld (HW.rsppi k) + 65536 - s.fld (HW.rspci k)) % 65536
  decide ((s.chan k).inService.length + unread < 32)

/-- The bytes of a descriptor with index `i`. -/
def descriptor (op status tag len detail i : Nat) (telem : Bool) (bufs : List Nat) (result : List Byte) : List Byte :=
  [BitVec.ofNat 8 op, BitVec.ofNat 8 status] ++ leBytes 2 tag ++
    [BitVec.ofNat 8 len, BitVec.ofNat 8 bufs.length, BitVec.ofNat 8 detail,
      BitVec.ofNat 8 ((1 - i / 32 % 2) * 128 + telem.toNat * 64)] ++
    (List.range 4).flatMap (fun j => leBytes 2 (bufs.getD j 0)) ++ bytesAt result 0 48

/-- The open session a channel is bound to (R281). -/
def State.chanSession (s : State) (k : Nat) : Option Nat :=
  (List.range 4).find? (fun n => (s.session n).isOpen && (s.session n).chans.testBit k)

/-- The HMAC field of a datagram: the first 16 bytes of its HMAC-SHA-256 (R280). -/
def hmacTag (key bytes : List Byte) : List Byte := leBytes 16 (Config.hmacSha256 key bytes).toNat

/-- The content of the result buffers of a response: it follows the response in a datagram (R282). -/
def State.rspContent (s : State) (r : SentRsp) : List Byte := (r.bufs ++ r.staging).flatMap (fun b => s.bufBytes b)

/-- A KIND 0x02 datagram of session `n` with responses of MB_k and the content of their result buffers (R280 to R282), to the session's host,
whose address no command gives (assumption log 23); `false` where it could not be sent. -/
def State.sendDatagram (s : State) (n k : Nat) (l : List SentRsp) : Bool × State :=
  let x := s.session n
  let head := leBytes 2 0x7E16 ++ [1, 2] ++ leBytes 4 x.number ++ leBytes 4 (x.txSeq + 1) ++
    [BitVec.ofNat 8 k, BitVec.ofNat 8 l.length] ++ leBytes 2 ((l.headD ⟨0, [], false, [], []⟩).index) ++ [0, 0, 0, 0] ++
    l.flatMap (fun r => r.bytes ++ s.rspContent r)
  let s := s.modSession n (fun x => { x with txSeq := x.txSeq + 1 })
  let peer := Config.sessionPeer x.number
  s.sendUdp (head ++ hmacTag x.key head) peer.1 peer.2

/-- A response that a datagram carries for the first time frees its result buffers; each is at once the staging buffer of its own copy
(R281; which buffer that is is open: DESIGN CHOICE, assumption log 23). -/
def State.stage (s : State) (k : Nat) (r : SentRsp) : State :=
  let s := s.each r.bufs (fun b t =>
    (match t.slotOf b with
      | some i => t.unmapSlot i
      | none => t).setOwner b 0x61)
  s.modChan k (fun c => { c with
    sent := c.sent.map (fun x => if x.index == r.index then { x with out := true, bufs := [], staging := x.bufs ++ x.staging } else x) })

/-- How many responses from the first on fit in `room` bytes (R282). -/
def fitRsps : Nat → List SentRsp → Nat
  | _, [] => 0
  | room, r :: rs =>
    let n := 64 + 256 * (r.bufs.length + r.staging.length)
    if decide (room < n) then 0 else 1 + fitRsps (room - n) rs

/-- The responses that one datagram carries: as many as fit 1,472 bytes beside header and tag (R282). -/
def oneDatagram (l : List SentRsp) : List SentRsp := l.take (Nat.max 1 (fitRsps 1436 l))

/-- Send the responses of MB_k that no datagram has carried (R281, R282); where none can be sent, nothing leaves. -/
def State.sendRsps (k : Nat) : Nat → State → State
  | 0, s => s
  | m + 1, s =>
    let l := oneDatagram ((s.chan k).sent.filter (fun r => !r.out))
    match s.chanSession k with
    | some n =>
      if l.isEmpty then s
      else
        let (ok, t) := s.sendDatagram n k l
        if ok then State.sendRsps k m (t.each l (fun r u => u.stage k r)) else s
    | none => s

/-- Write a response of MB_k into its slot and advance RSPPI (R264); on a channel bound to a session it waits to be sent as well. -/
def State.writeResponse (s : State) (k op tag : Nat) (irq : Bool) (r : Reply) : State :=
  let i := s.fld (HW.rsppi k)
  let bytes := descriptor op r.status tag r.result.length r.detail i false (r.ret ++ r.bufs) r.result
  let s := (s.wrBytes (rspSlot k i) bytes).incMod (HW.rsppi k)
  let s := if irq then s.put ⟨HW.rspIrq, k, 1⟩ 1 else s
  if (s.chanSession k).isSome then s.modChan k (fun c => { c with sent := c.sent ++ [⟨i, bytes, false, r.bufs, []⟩] }) else s

/-- A failed check of R271 is counted in CHST[k], where it has a counter for the status, and sets LASTERR, IRQSTAT.CHERR and EV_140 (R272,
R287). -/
def State.channelError (s : State) (k status detail : Nat) : State :=
  let s := s.put (HW.lasterr k) (status + 256 * detail)
  let s :=
    if status == stNocredit then s.inc (HW.nocred k)
    else if status == stMalformed then s.inc (HW.malf k)
    else if status == stUnsupported then s.inc (HW.unsup k)
    else s
  (s.irq 4).assertEv 140

/-- Answer a command that leaves the service queue: the response, and its credit (R268). -/
def State.answer (s : State) (k : Nat) (e : InService) (r : Reply) : State :=
  let s := s.writeResponse k e.opcode e.cmd.tag.toNat e.cmd.irq r
  if e.credited then s.returnCredit k else s

/-- Check the commands at the head of the service queue, answering those that fail, until one waits for its step 8 (R271). -/
def State.serve (k : Nat) : Nat → State → State
  | 0, s => s
  | n + 1, s =>
    match (s.chan k).inService with
    | [] => s
    | e :: es =>
      if e.checked then s
      else match s.checkCommand k e with
        | none => s.modChan k (fun c => { c with inService := { e with checked := true } :: es })
        | some (st, d) =>
          let s := s.modChan k (fun c => { c with inService := es })
          State.serve k n ((s.channelError k st d).answer k e { status := st, detail := d })

/-! ## Step 8 -/

/-- At step 8 the attached buffers pass to the firmware and are unmapped, their slots held (R277). The smallest serving set keeps no
ownership (R279). -/
def State.takeAttached (s : State) (k : Nat) (c : HostCmd) : State :=
  if s.flag F.MODE_CUR_MIN then s
  else s.each c.handles (fun h t =>
    let b := h.toNat
    match t.slotOf b with
    | some i =>
      let t := (t.unmapSlot i).setOwner b (0x20 + k)
      t.modChan k (fun x => { x with held := x.held ++ [(i, b)] })
    | none => t.setOwner b (0x20 + k))

/-- A buffer goes back to the host in the slot it held. -/
def State.giveBack (s : State) (k b : Nat) : State :=
  let s := match (s.chan k).held.find? (fun x => x.2 == b) with
    | some x => s.mapSlot x.1 b
    | none => s
  s.setOwner b (0x10 + k)

/-- The end of a command (R277): its attached buffers are freed, or returned and listed in the response. An answer other than ST_OK is a
failure of step 8 (R272), but for ST_NOACK, which tells what became of a frame on the bus (DEDUCED, assumption log 23). -/
def State.finish (s : State) (k : Nat) (e : InService) (r : Reply) : State :=
  let att := e.cmd.handles.map (fun h => h.toNat)
  let back := r.status != stOk || r.keep
  let s := if s.flag F.MODE_CUR_MIN then s else s.each att (fun b t => if back then t.giveBack k b else t.setOwner b 0)
  let s := s.modChan k (fun c => { c with held := c.held.filter (fun x => !att.contains x.2) })
  let s := if r.status == stOk || r.status == stNoack then s else s.channelError k r.status r.detail
  s.answer k e (if back then { r with ret := att } else r)

/-- What step 8 of a command answers: at once, or after an event. -/
inductive Step8 where
  | done (r : Reply) (s : State)
  | waits (s : State)

/-- The head of the service queue is checked, and what has been answered is sent (R271, R281). -/
def State.serveAll (s : State) (k : Nat) : State := State.sendRsps k 32 (State.serve k 32 s)

/-- The end of the head command of MB_k with answer `r`; the next one is checked. -/
def State.finishHead (s : State) (k : Nat) (r : Reply) : State :=
  match (s.chan k).inService with
  | [] => s
  | e :: es =>
    let s := s.modChan k (fun c => { c with inService := es })
    (s.finish k e r).serveAll k

/-- Run step 8 of the command `e` of MB_k, which leaves or keeps the head of the queue. -/
def State.runStep8 (s : State) (k : Nat) (e : InService) (body : State → Step8) : State :=
  let s := s.modChan k (fun c => { c with inService := { e with checked := true, started := true } :: c.inService.tail })
  match body (s.takeAttached k e.cmd) with
  | .done r s => s.finishHead k r
  | .waits s => s

/-- A host command of opcode `op` at its step 8 (R271, R498). The head of its channel's service queue must be this command,
checked and not started; a command of a channel with nothing posted and nothing in service is taken as posted, credited and
consumed at this moment, with steps 2 to 7 (assumption log 7). In every other state the command changes nothing. -/
def State.hostCmdW (op : Nat) (c : HostCmd) (s : State) (body : State → Step8) : State :=
  let k := c.ch.val
  if !s.supRuns then s
  else match (s.chan k).inService with
    | e :: _ =>
      if e.opcode == op && e.cmd == c && e.checked && !e.started then s.runStep8 k e body else s
    | [] =>
      if !(s.chan k).posted.isEmpty || !s.rspRoom k then s
      else
        let e : InService := ⟨op, decide (1 ≤ s.avail k), false, c, false, false⟩
        match s.checkCommand k e with
        | some (st, d) => ((s.channelError k st d).writeResponse k op c.tag.toNat c.irq { status := st, detail := d }).serveAll k
        | none =>
          let e := { e with checked := true }
          let s := s.put (F.MBX_CRED_INFL k) (s.fld (F.MBX_CRED_INFL k) + 1)
          (s.modChan k (fun x => { x with inService := [e] })).runStep8 k e body

/-- A host command that is answered at once. -/
def State.hostCmd (op : Nat) (c : HostCmd) (s : State) (body : State → Reply × State) : State :=
  s.hostCmdW op c (fun t => let (r, t) := body t; .done r t)

/-- Refusal by status alone. -/
def refuse (st : Nat) (s : State) : Reply × State := ({ status := st }, s)

/-- Refusal outside the modes of the command's table: ST_STATE, detail 0x08 (R271). -/
def refuseMode (s : State) : Reply × State := ({ status := stState, detail := 0x08 }, s)

def okReply (s : State) : Reply × State := (.ok, s)

def okResult (bytes : List Byte) (s : State) : Reply × State := ({ status := stOk, result := bytes }, s)

/-- The parameter field of `n` bytes at offset `off`. -/
def arg (c : HostCmd) (off n : Nat) : Nat := numAt c.param off n

/-- Cut bytes into buffers of 256. -/
def cutBufs : Nat → List Byte → List (List Byte)
  | 0, _ => []
  | n + 1, bs => if bs.isEmpty then [] else bs.take 256 :: cutBufs n (bs.drop 256)

/-- Result buffers on the smallest serving set are aperture slots of the staging area (R279). Which ones is open: they follow one
another from a free first slot (DESIGN CHOICE, assumption log 23). -/
def State.stagingBufs (s : State) (parts : List (List Byte)) : List Nat × State :=
  let (v, s) := s.draw
  let slots := (List.range parts.length).map (fun i => (v + i) % 128)
  (slots, s.each (slots.zip parts) (fun x t => t.wrBytes (stagingBase x.1) (bytesAt x.2 0 256)))

/-- Results that do not fit 48 bytes go to result buffers, allocated and mapped before the command acts (R277, R498): `none`
when they cannot all be had. -/
def State.resultBufs (s : State) (k : Nat) (bytes : List Byte) : Option (List Nat × State) :=
  let parts := cutBufs 4 bytes
  if s.flag F.MODE_CUR_MIN then some (s.stagingBufs parts)
  else match s.allocN (0x20 + k) parts.length with
  | none => none
  | some (bs, t) =>
    let t := t.each (bs.zip parts) (fun x t => (t.wrBytes (bufBase x.1) (bytesAt x.2 0 256)).setOwner x.1 (0x10 + k))
    match t.mapAll bs with
    | none => none
    | some (_, t) => some (bs, t)

/-- Answer ST_OK with a result in RESULT or, beyond 48 bytes, in result buffers (R498). -/
def replyWith (k : Nat) (bytes : List Byte) (s : State) : Reply × State :=
  if decide (bytes.length ≤ 48) then okResult bytes s
  else match s.resultBufs k bytes with
    | none => ({ status := stBusy, detail := 0x09 }, s)
    | some (bs, s) => ({ status := stOk, bufs := bs }, s)

/-- A 32-bit register as RESULT bytes. -/
def State.reg4 (s : State) (a : Nat) : List Byte := leBytes 4 (s.rd a).toNat

end Sys2Proof.Machine
end

