-- ==== Sys2Proof/Machine/Spillway.lean ====
section
/-!
DEFINITION. Leg Protection: the Sluice and the Spillway (spec/05). A direct leg DL_i is leg 48 + i.
-/

namespace Sys2Proof.Machine

/-- The interlock-timeout record of a leg (R114). -/
def State.iltoCount (s : State) (l : Nat) : State := s.inc (F.SLU_LEGSTAT_ILTO l)

/-- Turn a switch on, as commanded (R111). -/
def State.switchOn (s : State) (l : Nat) (upper : Bool) : State :=
  let s := match s.legGroup l with | some n => s.calBreak n | none => s
  s.put (if upper then F.ES_LEGSTAT_UP l else F.ES_LEGSTAT_LO l) 1

def State.switchOff (s : State) (l : Nat) (upper : Bool) : State :=
  s.put (if upper then F.ES_LEGSTAT_UP l else F.ES_LEGSTAT_LO l) 0

/-! ## The safe-state choice (R125) -/

/-- A set of group `n` holds a fault: a bit of SPW.FLTSW, or a switch of a link in TRAIN, MEASURE or CONFIG (R123, R125). -/
def State.setFaulted (s : State) (n : Nat) (upper : Bool) : Bool :=
  (if upper then s.fld (F.SPW_FLTSW_UP n) else s.fld (F.SPW_FLTSW_LO n)) != 0 ||
    (s.groupLinks n).any (fun k => s.linkState k == 1 || s.linkState k == 2 || s.linkState k == 3)

/-- The choice of R125: `none` Freewheel, `some upper` active short on that set. FWONLY forces Freewheel on STO. -/
def State.safeChoice (s : State) (n : Nat) : Option Bool :=
  let p := s.flag (F.SPW_AXCFG_PREF n)
  if !s.flag (F.SPW_AXCFG_ASEN n) then none
  else if decide (s.fld (F.SPW_SPD_FREQ n) ≤ s.fld (F.SPW_AXCFG_ASTH n)) then none
  else if s.flag F.SPW_STOCFG_FWONLY && s.flag (F.SPW_CAUSE_STO n) then none
  else if !s.setFaulted n p then some p
  else if !s.setFaulted n (!p) then some (!p)
  else none

/-- What step 2 of a pass leads to (R125, R127, R129, R130); a re-choice never takes the closed set again. -/
def State.passChoice (s : State) (n : Nat) : Option Bool :=
  match (s.group n).pass with
  | .trip => s.safeChoice n
  | .rechoice u => if s.safeChoice n == some u then none else s.safeChoice n
  | .toFreewheel => none

/-- Every switch of a set of the group commanded on or off. -/
def State.commandSet (s : State) (n : Nat) (upper : Bool) : State :=
  s.each (s.groupLegs n) (fun l t => t.switchOn l upper)

/-- Step 2 of a group's Spillway (R122, R123, R125, R128): the switches go fully off, the safe state is chosen, the UP links
send SOFTOFF step 2; the chosen short of a direct group is applied through the Sluice. -/
def State.step2Group (s : State) (n : Nat) : State :=
  let choice := s.passChoice n
  let linked := s.groupLinked n
  let free := (s.group n).pass == .toFreewheel
  let s := s.step1 n 0 0
  let s := s.modGroup n (fun g => { g with phase2 := true, shortUp := choice == some true })
  match choice with
  | none =>
    ((s.put (F.SPW_GSTAT_STATE n) (if free then gsStep2 else gsFreewheel)).sendGroup n [.softoff 2 0]).flushGroup n
  | some up =>
    if linked then
      let s := s.put (F.SPW_GSTAT_STATE n) (if up then gsShortUp else gsShortLo)
      ((s.commandSet n up).sendGroup n [.softoff 2 (if up then 2 else 1)]).flushGroup n
    else
      let s := s.put (F.SPW_GSTAT_STATE n) gsApplying
      s.each (s.groupLegs n) (fun l t => t.modLeg l (fun x => { x with waitUp := up, waitLo := !up }))

/-- Step 2 of the links of a linked group whose short has failed (R127): no safe state but freewheel, and the echo mask's action ends. -/
def State.step2Again (s : State) (n : Nat) : State :=
  let s := s.modGroup n (fun g => { g with again := false, maskSpillOver := g.maskSpill })
  (s.sendGroup n [.softoff 2 0]).flushGroup n

/-- Step 2 of a leg in no group (R500). -/
def State.step2Leg (s : State) (l : Nat) : State :=
  let s := s.modLeg l (fun x => { x with off := 2 })
  if legLinked l then s
  else (s.put (F.DLD_LEGSTAT_UPSTEP1 (l - 48)) 0).put (F.DLD_LEGSTAT_LOSTEP1 (l - 48)) 0

/-- At start plus T1 step 2 begins (R122 to R125, R500). Without a step 1 in progress the command changes nothing. -/
def execSpillwayStep2 (tgt : SpillTarget) (s : State) : Out :=
  match tgt with
  | .group n => .next (if s.islandsRun && s.gstate n == gsStep1 then s.step2Group n
      else if s.islandsRun && (s.group n).again then s.step2Again n else s)
  | .leg l => .next (if s.islandsRun && (s.leg l).off == 1 then s.step2Leg l else s)
  | .link k =>
    .next (if s.islandsRun && (s.link k).off == 1 then
      let s := s.each [3 * k.val, 3 * k.val + 1, 3 * k.val + 2] (fun l t => t.step2Leg l)
      let s := s.modLink k (fun x => { x with off := 2 })
      if s.linkState k == linkUp then (s.send k [.softoff 2 0]).flushHeld k else s
    else s)

/-- The axis takes Freewheel or Shorted at the report (R48, R128); a Disabled axis stays Disabled (R49). An axis that becomes
Shorted in SafeOff has its speed task started (R34). -/
def State.axisSafe (s : State) (n : Nat) (short : Bool) : State :=
  let a := s.axState n
  if a == axArmed || a == axEnergised || a == axFaulted || a == axFreewheel || a == axShorted then
    let s := s.setAxState n (if short then axShorted else (if a == axFreewheel then a else axFreewheel))
    if short && s.curMode == modeSafeOff then s.safeOffSpeed n else s
  else s

/-- The gates of a direct leg at its group's report: those not commanded on are below VGOFF (R112, R122). That the comparator outputs
UPDES, LODES and OC fall, and HGOFF and LGOFF rise, at the report is the model's choice of the moment (DESIGN CHOICE, assumption
log 26). -/
def State.gatesSafe (s : State) (l : Nat) : State :=
  let i := l - 48
  let s := ((s.put (F.DLD_LEGSTAT_UPDES i) 0).put (F.DLD_LEGSTAT_LODES i) 0).put (F.DLD_LEGSTAT_OC i) 0
  (s.putB (F.DLD_LEGSTAT_HGOFF i) (!s.flag (F.ES_LEGSTAT_UP l))).putB (F.DLD_LEGSTAT_LGOFF i) (!s.flag (F.ES_LEGSTAT_LO l))

/-- A group reports its safe state reached (R128): SAFE, the state shown, the axis, and the end of its echo mask's action
(R300). -/
def State.reportSafe (s : State) (n : Nat) : State :=
  let st := s.gstate n
  let up := (s.group n).shortUp
  let st' := if st == gsApplying then (if up then gsShortUp else gsShortLo) else if st == gsStep2 then gsFreewheel else st
  let s := if st == gsApplying then s.commandSet n up else s
  let s := if st == gsApplying then
      s.each (s.groupLegs n) (fun l t => t.modLeg l (fun x => { x with waitUp := false, waitLo := false })) else s
  let s := (s.put (F.SPW_GSTAT_STATE n) st').put (F.SPW_GSTAT_SAFE n) 1
  let s := s.modGroup n (fun g => { g with phase2 := false, maskSpillOver := true })
  let s := s.each ((s.groupLegs n).filter (fun l => !legLinked l)) (fun l t => t.gatesSafe l)
  let s := s.axisSafe n (st' == gsShortUp || st' == gsShortLo)
  s.checkDone

/-- A leg in no group has passed step 2 (R500): it is held off until its EN falls and rises; EN may have fallen meanwhile. -/
def State.offReached (s : State) (l : Nat) : State :=
  let s := s.modLeg l (fun x => { x with off := if s.flag (F.ES_LEGCFG_EN l) then 3 else 4 })
  if legLinked l then s else s.gatesSafe l

/-- The group, leg or link reports the safe state of its step 2 (R128, R500). -/
def execSafeStateReached (tgt : SpillTarget) (s : State) : Out :=
  match tgt with
  | .group n =>
    .next (if s.islandsRun && s.flag (F.SPW_GSTAT_LATCH n) && (s.group n).phase2 then s.reportSafe n else s)
  | .leg l => .next (if s.islandsRun && (s.leg l).off == 2 then s.offReached l else s)
  | .link k =>
    .next (if s.islandsRun && (s.link k).off == 2 then
      let s := s.each [3 * k.val, 3 * k.val + 1, 3 * k.val + 2] (fun l t => t.offReached l)
      s.modLink k (fun x => { x with off := 0 })
    else s)

/-- A short that cannot be applied (R127): the interlock timeout is recorded against the opposite switch; on a direct group
every switch that did turn on passes through steps 1 and 2 again; a linked group takes Freewheel at once, with SAFE kept, while its links
pass through the two steps, under the mask of R300. -/
def State.shortFails (s : State) (n l : Nat) : State :=
  let up := (s.group n).shortUp
  let p := 2 ^ s.legPos n l
  let s := s.iltoCount l
  let s := s.recordCause n causeIlto (if up then 0 else p) (if up then p else 0)
  let s :=
    if s.groupLinked n then
      let s := s.each (s.groupLegs n) (fun l t => t.holdLeg l)
      let s := s.modGroup n (fun g => { g with again := true, phase2 := false, maskSpill := true, maskSpillOver := false })
      (((s.put (F.SPW_GSTAT_STATE n) gsFreewheel).tripLinks n).syncMask n).axisSafe n false
    else s.beginPass n .toFreewheel
  s.assertOwn (evAxis n 0) [n]

def execShortApplyFail (n : Fin 16) (leg : Fin 72) (s : State) : Out :=
  .next (if s.islandsRun && s.legGroup leg == some n.val &&
      (if s.groupLinked n then s.groupShorted n else s.gstate n == gsApplying)
    then s.shortFails n leg else s)

/-! ## Clearing a latched group (R132 to R135) -/

/-- The effective enable of group `n` (R132). That of an axis without legs is SPW.GEN.EN, so that the binding of its first direct legs with
EN_DL_N high is a fall (DESIGN CHOICE, assumption log 26). -/
def State.effEnable (s : State) (n : Nat) : Bool :=
  s.flag (F.SPW_GEN_EN n) && (s.groupLinked n || (s.groupLegs n).isEmpty || s.pins.enDl)

/-- A trip source of group `n` is active at its detector (R133). `cmp` tells whether a filtered desaturation or shunt
comparator output of the group is active. -/
def State.sourceActive (s : State) (n : Nat) (cmp : Bool) : Bool :=
  (cmp && !s.groupLinked n) ||
  (s.groupLinks n).any (fun k =>
    s.linkState k != linkUp ||
    s.fld (F.GL_ECHOB_DES k) != 0 || s.fld (F.GL_ECHOB_UV k) != 0 ||
    (s.link k).stDes != 0 || (s.link k).stUv != 0 || (s.link k).stIlto != 0 ||
    [3 * k, 3 * k + 1, 3 * k + 2].any (fun l =>
      ((s.link k).contra.testBit (2 * (l % 3) + 1) && decide (2 < (s.leg l).echoUp)) ||
      ((s.link k).contra.testBit (2 * (l % 3)) && decide (2 < (s.leg l).echoLo)))) ||
  (s.groupLinked n && s.fastActive n)

/-- The conditions of R133 that fail at a rise, as the codes of GSTAT.REJRSN. `trip` tells that a trip of the group falls in the tick
of the rise (R131). -/
def State.clearReasons (s : State) (n : Nat) (cmp trip : Bool) : List Nat :=
  let st := s.gstate n
  (if trip || s.sourceActive n cmp then [1] else []) ++
  (if st == gsStep1 || st == gsStep2 || st == gsApplying || (st == gsFreewheel && !s.flag (F.SPW_GSTAT_SAFE n)) then [2] else []) ++
  (if st == gsShortLo || st == gsShortUp then [3] else []) ++
  (if s.flag F.SPW_STOSTAT_STOA && s.flag F.SPW_STOSTAT_STOB then [] else [4])

/-- An accepted clear (R135): LATCH, SAFE, CAUSE and FLTSW reset, STATE 0x6; the legs wait for a set loaded after it; the
links that are UP send SOFTOFF CLEAR, by which alone their drivers leave the latch (R156). -/
def State.acceptClear (s : State) (n : Nat) : State :=
  let s := ((s.put (F.SPW_GSTAT_LATCH n) 0).put (F.SPW_GSTAT_SAFE n) 0).put (F.SPW_GSTAT_STATE n) gsCleared
  let s := (s.wr (R.SPW_CAUSE n) 0).wr (R.SPW_FLTSW n) 0
  let s := s.modGroup n (fun g => { g with fallSeen := false, czAfterClear := false, clearSet := false, bsuvUp := 0 })
  let s := s.each (s.groupLegs n) (fun l t =>
    (t.wr (R.SLU_LEGSTAT l) 0).modSched l (fun x => { x with awaitSet := true, setTaken := false }))
  let s := s.sendGroup n [.softoff 3 0]
  s.each (s.groupLegs n) (fun l t => t.refreshHeld l)

/-- The mask of a clear sequence starts (R300): the effective enable of a latched group has fallen. -/
def State.clearBegins (s : State) (n : Nat) : State :=
  (s.modGroup n (fun g => { g with fallSeen := true, maskClear := true, maskClearOver := false })).syncMask n

/-- The effective enable is off on a group that is not latched (R132): its Spillway starts with cause ENOFF, the
enable-removed source is set, and the clear sequence has begun (R133). -/
def State.enableOff (s : State) (n : Nat) : State :=
  ((s.tripGroup n causeEnOff 0 0).assertOwn (evAxis n 4) [n]).clearBegins n

/-- The effective enable falls (R132, R133). Under the mask of a clear the detector is only counted and takes no part in R116
(R301); it asserts when the mask ends. -/
def State.enableFall (s : State) (n : Nat) : State :=
  let s := s.put (F.SPW_GSTAT_ENEFF n) 0
  if (s.groupLegs n).isEmpty then s
  else if s.flag (F.SPW_GSTAT_LATCH n) then s.clearBegins n
  else if (s.group n).maskClear then s.maskHit n
  else s.enableOff n

/-- The effective enable rises (R133, R134): a latched group whose enable has fallen is cleared, or the clear is refused with
the lowest reason. -/
def State.enableRise (s : State) (n : Nat) (cmp trip : Bool) : State :=
  let s := s.put (F.SPW_GSTAT_ENEFF n) 1
  if s.flag (F.SPW_GSTAT_LATCH n) && (s.group n).fallSeen then
    match s.clearReasons n cmp trip with
    | [] => s.acceptClear n
    | r :: _ =>
      let s := (s.put (F.SPW_GSTAT_CLRREJ n) 1).put (F.SPW_GSTAT_REJRSN n) r
      s.modGroup n (fun g => { g with fallSeen := false, maskClearOver := true })
  else s

/-- Bring GSTAT.ENEFF up to the effective enable and act on its change (R132). -/
def State.syncEnable (s : State) (n : Nat) (cmp trip : Bool) : State :=
  let e := s.effEnable n
  if e == s.flag (F.SPW_GSTAT_ENEFF n) then s
  else if e then s.enableRise n cmp trip else s.enableFall n

/-- SPW.GEN.EN is written 0 and the effective enable falls (R132). -/
def execEffectiveEnableFall (n : Fin 16) (s : State) : Out :=
  .next (if s.islandsRun then (s.put (F.SPW_GEN_EN n) 0).syncEnable n false false else s)

/-- SPW.GEN.EN is written 1; where the effective enable rises, the clear of R133 is judged. -/
def execEffectiveEnableRise (n : Fin 16) (at_ : EnableAt) (s : State) : Out :=
  .next (if s.islandsRun then (s.put (F.SPW_GEN_EN n) 1).syncEnable n at_.cmp at_.trip else s)

/-- EN_DL_N changes; the effective enable of every direct group follows (R132). -/
def execEnDlNChange (high : Bool) (at_ : EnableMasks) (s : State) : Out :=
  let s := s.withPins { s.pins with enDl := !high }
  .next (if s.islandsRun then
    s.each (s.groupList.filter (fun n => !s.groupLinked n)) (fun n t => t.syncEnable n (at_.cmp.toNat.testBit n) (at_.trips.toNat.testBit n))
  else s)

/-- A speed word reaches TIMEBASE (R126); RELN + 1 consecutive words at or below ASTH release a short (R130). -/
def State.speedWord (s : State) (n freq : Nat) : State :=
  let s := s.put (F.SPW_SPD_FREQ n) freq
  if s.gstate n == gsShortLo || s.gstate n == gsShortUp then
    if decide (freq ≤ s.fld (F.SPW_AXCFG_ASTH n)) then
      let c := (s.group n).relCount + 1
      if decide (s.fld (F.SPW_AXCFG_RELN n) + 1 ≤ c) then s.beginPass n .toFreewheel
      else s.modGroup n (fun g => { g with relCount := c })
    else s.modGroup n (fun g => { g with relCount := 0 })
  else s

/-! ## The Sluice and the direct-leg detectors (R111 to R119) -/

/-- The largest wait of a turn-on beyond DT: MAXW less the active DT, where MAXW is at least DT (R111). -/
def State.waitLimit (s : State) (l : Nat) : Nat := s.fld (F.SLU_LEGCFG_MAXW l) - s.fld (F.ES_ACTDT_DT l)

/-- The edges without the first turn-off of a switch: the pair of a dropped turn-on (R114). -/
def dropOff (upper : Bool) : List Edge → List Edge
  | [] => []
  | e :: es => if e.upper == upper && !e.on then es else e :: dropOff upper es

/-- MAXW ends before the opposite switch of a direct leg is seen off (R114): the turn-on and its turn-off are dropped, the
leg's counter and its interlock-timeout source record it, attributed to the opposite switch, whose gate is not off. In a group
applying a short the short has failed (R127). `upper` is the switch that should have turned on. -/
def State.interlockTimeout (s : State) (l : Nat) (upper : Bool) : State :=
  let s := s.modLeg l (fun x => { x with
    waitUp := if upper then false else x.waitUp, waitLo := if upper then x.waitLo else false, dropped := true })
  let s := s.modSched l (fun x => { x with edges := dropOff upper x.edges })
  let s := if legLinked l then s
    else s.put (if upper then F.DLD_LEGSTAT_LGOFF (l - 48) else F.DLD_LEGSTAT_HGOFF (l - 48)) 0
  match s.legGroup l with
  | some n => if s.gstate n == gsApplying then s.shortFails n l
      else (s.iltoCount l).tripLeg l causeIlto (!upper) upper
  | none => (s.iltoCount l).tripLeg l causeIlto (!upper) upper

/-- The field die sees the opposite gate of a direct leg below VGOFF and turns the switch on (R112): its own gate is then above. -/
def State.gateReleased (s : State) (l : Nat) (upper : Bool) : State :=
  if legLinked l then s
  else (s.putB (F.DLD_LEGSTAT_HGOFF (l - 48)) (!upper)).putB (F.DLD_LEGSTAT_LGOFF (l - 48)) upper

/-- A waiting turn-on is released (R111, R112) `wait` edge units beyond DT: the switch is commanded on and LASTW records the wait on
a direct leg, 0 on a linked one. A wait beyond MAXW on a direct leg is an interlock timeout instead (R114). -/
def execSluiceRelease (leg : Fin 72) (upper : Bool) (wait : Nat) (s : State) : Out :=
  .next (if s.islandsRun && (if upper then (s.leg leg).waitUp else (s.leg leg).waitLo) then
    if !legLinked leg && decide (s.waitLimit leg < wait) then s.interlockTimeout leg upper
    else
      let s := s.modLeg leg (fun x => if upper then { x with waitUp := false } else { x with waitLo := false })
      let s := (s.switchOn leg upper).gateReleased leg upper
      s.put (F.SLU_LEGSTAT_LASTW leg) (if legLinked leg then 0 else wait)
  else s)

def execInterlockTimeout (leg : Fin 72) (upper : Bool) (s : State) : Out :=
  .next (if s.islandsRun && (if upper then (s.leg leg).waitUp else (s.leg leg).waitLo) then s.interlockTimeout leg upper else s)

/-- DLD.LEGCFG.BLANK in effect, in 20 ns units (R117). -/
def State.blank (s : State) (i : Nat) : Nat := clampN 10 150 (s.fld (F.DLD_LEGCFG_BLANK i))

/-- The field die evaluates the comparators of a direct leg while that leg is enabled (R470). -/
def State.dieWatches (s : State) (leg : Nat) : Bool := s.islandsRun && s.legEnabled (48 + leg)

/-- A desaturated switch of a direct leg (R116, R118): its group's Spillway starts; in a group applying a short, a switch of the set
being applied that has turned on goes to step 1 at once, and the group chooses again (DEDUCED from R118 and R129, assumption log
26). -/
def State.desaturated (s : State) (l : Nat) (upper : Bool) : State :=
  match s.legGroup l with
  | some n =>
    if s.gstate n == gsApplying && (s.group n).shortUp == upper then
      let p := 2 ^ s.legPos n l
      let s := s.recordCause n causeDesat (if upper then p else 0) (if upper then 0 else p)
      (s.beginPass n (.rechoice upper)).assertOwn (evAxis n 0) [n]
    else s.tripLeg l causeDesat upper (!upper)
  | none => s.tripLeg l causeDesat upper (!upper)

/-- The desaturation comparator of a direct leg's switch decides (R116 to R118):
its output shows in any case; it trips while the switch is on and no longer blanked. -/
def execDesatDetect (leg : Fin 24) (at_ : DesatAt) (s : State) : Out :=
  .next (if s.dieWatches leg then
    let upper := at_.upper
    let s := s.put (if upper then F.DLD_LEGSTAT_UPDES leg else F.DLD_LEGSTAT_LODES leg) 1
    if s.flag (if upper then F.ES_LEGSTAT_UP (48 + leg.val) else F.ES_LEGSTAT_LO (48 + leg.val)) && decide (s.blank leg ≤ at_.since)
    then s.desaturated (48 + leg.val) upper
    else s
  else s)

/-- The shunt comparator of a direct leg decides (R116): attributed to no switch. -/
def execShuntOvercurrent (leg : Fin 24) (s : State) : Out :=
  .next (if s.dieWatches leg then
    (s.put (F.DLD_LEGSTAT_OC leg) 1).tripLeg (48 + leg.val) causeOc false false
  else s)

/-- Bootstrap undervoltage on a direct leg (R119): below BSUV the upper switch is held off, marked faulted while the hold
lasts, and the bootstrap-UV source is set (a stepper axis above VSS may have lost its position, R253); `low = false` is the rise to 0.5 V above BSUV, after which the hold ends at the
next CZ. -/
def execBootstrapUv (leg : Fin 24) (low : Bool) (s : State) : Out :=
  .next (if s.dieWatches leg then
    let l := 48 + leg.val
    if low then
      let s := s.put (F.DLD_LEGSTAT_BSUV leg) 1
      let s := s.modLeg l (fun x => { x with bsuvHold := true, bsuvOver := false, waitUp := false })
      match s.legGroup l with
      | some n =>
        let p := 2 ^ s.legPos n l
        let fresh := (s.fld (F.SPW_FLTSW_UP n) &&& p) == 0
        let s := s.put (F.SPW_CAUSE_BSUV n) 1
        let s := s.put (F.SPW_FLTSW_UP n) (s.fld (F.SPW_FLTSW_UP n) ||| p)
        let s := s.modGroup n (fun g => { g with bsuvUp := if fresh then g.bsuvUp ||| p else g.bsuvUp })
        let s := s.stepUnc n (F.PU_STEPST_BSUV n)
        let s := if s.gstate n == gsShortUp then s.beginPass n (.rechoice true) else s.switchOff l true
        s.assertEv (evAxis n 3)
      | none => (s.switchOff l true).assertEv 144
    else
      let s := s.put (F.DLD_LEGSTAT_BSUV leg) 0
      s.modLeg l (fun x => { x with bsuvOver := x.bsuvHold })
  else s)

/-- The bootstrap hold ends at the first CZ after the voltage has recovered (R119): the fault bit the hold alone has set
clears. -/
def State.bootstrapEnd (s : State) (l : Nat) : State :=
  if (s.leg l).bsuvHold && (s.leg l).bsuvOver then
    let s := s.modLeg l (fun x => { x with bsuvHold := false, bsuvOver := false })
    match s.legGroup l with
    | some n =>
      let p := 2 ^ s.legPos n l
      if ((s.group n).bsuvUp &&& p) != 0 then
        let s := s.put (F.SPW_FLTSW_UP n) (s.fld (F.SPW_FLTSW_UP n) - p)
        s.modGroup n (fun g => { g with bsuvUp := g.bsuvUp - p })
      else s
    | none => s
  else s

/-! ## Safe torque off (R120) -/

/-- The level of STO_A_N, or of STO_B_N (`b`), after its filter. -/
def State.stoPin (s : State) (b high : Bool) : State :=
  s.withPins (if b then { s.pins with stoB := high } else { s.pins with stoA := high })

/-- STOSTAT.DISC holds only while the inputs differ. -/
def State.syncSto (s : State) : State :=
  if s.flag F.SPW_STOSTAT_STOA == s.flag F.SPW_STOSTAT_STOB then s.put F.SPW_STOSTAT_DISC 0 else s

/-- STO_A_N (`b = false`) or STO_B_N low after its filter (R116, R120, R32): every Spillway starts, every unbound leg is taken
off, the STO source is set and the device enters SafeOff. In Standby the level alone changes, since nothing watches it (R44). -/
def execStoInput (b : Bool) (s : State) : Out :=
  let s := s.stoPin b false
  .next (if s.islandsRun then
    let s := (s.put (if b then F.SPW_STOSTAT_STOB else F.SPW_STOSTAT_STOA) 0).syncSto
    let s := s.tripAll causeSto []
    let s := s.hwSafeOff 128 [0] false
    s.assertOwn 128 s.groupList
  else s)

/-- An STO input high after its filter (R120). -/
def execStoInputHigh (b : Bool) (s : State) : Out :=
  let s := s.stoPin b true
  .next (if s.islandsRun then (s.put (if b then F.SPW_STOSTAT_STOB else F.SPW_STOSTAT_STOA) 1).syncSto else s)

/-- The STO inputs have differed for longer than DISC (R120). -/
def execStoDiscrepancy (s : State) : Out :=
  .next (if s.islandsRun && s.flag F.SPW_STOSTAT_STOA != s.flag F.SPW_STOSTAT_STOB then
    (s.put F.SPW_STOSTAT_DISC 1).assertEv 129
  else s)

end Sys2Proof.Machine
end

