-- ==== Sys2Proof/Machine/GateLink.lean ====
section
/-!
DEFINITION. The Urrix gate links (spec/06): link states and bring-up, frames, coverage and resends of EDGE frames, the echo
check. A frame leaves as soon as it is due: the wire's timing is the sender's.
-/

namespace Sys2Proof.Machine

def linkOff : Nat := 0
def linkTrain : Nat := 1
def linkMeasure : Nat := 2
def linkConfig : Nat := 3
def linkLost : Nat := 5

/-- The legs of a link. -/
def linkLegs (k : Nat) : List Nat := [3 * k, 3 * k + 1, 3 * k + 2]

/-- The bridge group of a link (R110). -/
def State.linkGroup (s : State) (k : Nat) : Option Nat := (linkLegs k).findSome? (fun l => s.legGroup l)

/-- The carriers of a link's legs in the order of their slots (R146). -/
def State.linkSlots (s : State) (k : Nat) : List Nat :=
  (linkLegs k).foldl (fun acc l =>
    let c := s.fld (F.ES_LEGCFG_CB l)
    if decide (24 ≤ c) || acc.contains c then acc else acc ++ [c]) []

/-- The slot of a leg of a link, 3 where it has no carrier. -/
def State.legSlot (s : State) (l : Nat) : Nat :=
  let c := s.fld (F.ES_LEGCFG_CB l)
  if decide (24 ≤ c) then 3 else (s.linkSlots (l / 3)).findIdx (fun x => x == c)

/-! ## Symbols and frames (R136 to R142) -/

def symIdle : LinkSym := .ctrl 28 5
def symSof : LinkSym := .ctrl 27 7
def symEof : LinkSym := .ctrl 29 7
def symTrip : LinkSym := .ctrl 28 1
def symMark : LinkSym := .ctrl 28 0
def symAbort : LinkSym := .ctrl 30 7

/-- A symbol error (R138): a violation, or a control symbol that is not in the link's table. -/
def symError (x : LinkSym) : Bool :=
  match x with
  | .data _ => false
  | .ctrl .. => !([symIdle, symSof, symEof, symTrip, symMark, symAbort].contains x)
  | .violation => true

/-- TYPE of a frame the device sends (R142). -/
def Frame.code : Frame → Nat
  | .edge .. => 1
  | .softoff .. => 2
  | .sync .. => 3
  | .config .. => 4
  | .heartbeat .. => 5
  | .trip => 0
  | .mark _ => 0

/-- An entry of an EDGE frame: PTAG, COND, SW, LEG, OFFSET (R142). -/
def entryWord (x : Nat × Edge) : Nat :=
  x.2.ptag % 16 * 2 ^ 28 + x.2.on.toNat * 2 ^ 27 + x.2.upper.toNat * 2 ^ 26 + x.1 % 4 * 2 ^ 24 + x.2.offset % 2 ^ 24

/-- The payload of a frame the device sends (R142). -/
def Frame.payload : Frame → List Byte
  | .edge q es => leBytes 1 q ++ leBytes 1 es.length ++ es.flatMap (fun x => leBytes 4 (entryWord x))
  | .softoff step safe => leBytes 1 step ++ leBytes 1 safe
  | .sync slot ptag moff len => leBytes 1 (slot % 4 + ptag % 16 * 16) ++ leBytes 2 moff ++ leBytes 3 len
  | .config id map maxw t1 par => leBytes 1 id ++ leBytes 1 map ++ maxw.flatMap (leBytes 2) ++ leBytes 2 t1 ++ par
  | .heartbeat tok req => leBytes 2 tok ++ leBytes 1 req.toNat
  | .trip => []
  | .mark _ => []

/-- TYPE, payload and CRC, low byte first (R140). -/
def frameBytes (code : Nat) (payload : List Byte) : List Byte :=
  let b := leBytes 1 code ++ payload
  b ++ leBytes 2 (crc16 b)

/-- What of a frame or symbol stands on the wire (R138, R140). -/
def Frame.symbols (f : Frame) : List LinkSym :=
  match f with
  | .trip => [symTrip]
  | .mark _ => [symMark]
  | f => symSof :: (frameBytes f.code f.payload).map LinkSym.data ++ [symEof]

/-- The static level of a link's TX pair, as whether _P is high (R23, R137): none while the transmitter sends. -/
def State.txLevel (s : State) (k : Nat) : Option Bool :=
  if s.linkState k == linkOff || !s.islandsRun then some (s.flag F.STRAP_VAL_GLPOL) else none

/-- What a receiver finds in the symbols of a frame (R139, R141). -/
inductive Rx where
  /-- Ended by ABORT, or nothing that begins with SOF: not counted. -/
  | discarded
  | bad
  | good (type : Nat) (payload : List Byte)
  deriving DecidableEq, Repr

/-- The length that goes with a TYPE the driver sends (R142). -/
def rxLength (type : Nat) : Option Nat := if type == 0x81 then some 7 else if type == 0x82 then some 11 else none

/-- The bytes between SOF and EOF: TYPE, length and CRC (R141). -/
def rxBody (b : List Byte) : Rx :=
  let n := b.length
  let type := numAt b 0 1
  if decide (n < 3) || crc16 (b.take (n - 2)) != numAt b (n - 2) 2 || rxLength type != some (n - 3) then .bad
  else .good type ((b.drop 1).take (n - 3))

/-- The symbols after SOF, of which EOF is among the next `n` (R141). A MARK is removed; an IDLE or a SOF within a frame makes it bad
(DEDUCED: the frame is then not of its table's form, assumption log 26). -/
def rxScan : Nat → List LinkSym → List Byte → Bool → Rx
  | 0, _, _, _ => .bad
  | _ + 1, [], _, _ => .bad
  | n + 1, x :: xs, acc, err =>
    match x with
    | .data b => rxScan n xs (acc ++ [b]) err
    | x =>
      if x == symEof then (if err then .bad else rxBody acc)
      else if x == symAbort || x == symTrip then .discarded
      else if x == symMark then rxScan n xs acc err
      else rxScan n xs acc true

/-- The first frame in a list of received symbols. -/
def rxJudge : List LinkSym → Rx
  | [] => .discarded
  | x :: xs => if x == symSof then rxScan 56 xs [] false else rxJudge xs

/-- A good frame of the TYPE given. -/
def rxPayload (type : Nat) (syms : List LinkSym) : Option (List Byte) :=
  match rxJudge syms with
  | .good t p => if t == type then some p else none
  | _ => none

/-! ## The transmitter (R149) -/

/-- The step-2 SOFTOFF of a link's group, or of an unbound link, is still to come (R123, R127, R500). -/
def State.linkInStep1 (s : State) (k : Nat) : Bool :=
  match s.linkGroup k with
  | some n => s.gstate n == gsStep1 || (s.group n).again
  | none => (s.link k).off == 1

/-- A SYNC, CONFIG or HEARTBEAT frame of an UP link may have to wait: step 1 of its group runs (R123), or a carrier with a leg on the
link runs, whose next load deadline may come first (R149). -/
def State.mayHold (s : State) (k : Nat) : Bool :=
  s.linkState k == linkUp && (s.linkInStep1 k || (s.linkSlots k).any (fun c => s.flag (F.CB_STAT_RUN c)))

/-- The links of carrier `c` whose EDGE frames of a deadline have been sent let go of what they held back, unless step 1 runs (R123,
R149). -/
def State.flushCarrier (s : State) (c : Nat) : State :=
  s.each ((List.range 16).filter (fun k => s.linkState k == linkUp && (s.linkSlots k).contains c && !s.linkInStep1 k))
    (fun k t => t.flushHeld k)

/-- The SYNC frames that a link holds back leave before the EDGE frames that follow (R146). -/
def State.flushSync (s : State) (k : Nat) : State :=
  let fs := (s.link k).held.filter (fun f => f.rank == 4)
  if fs.isEmpty then s else (s.modLink k (fun x => { x with held := x.held.filter (fun f => f.rank != 4) })).send k fs

/-- Send SYNC, CONFIG or HEARTBEAT frames. Where they may have to wait, whether they do is a moment between commands: free (assumption
log 5). -/
def State.sendLow (s : State) (k : Nat) (fs : List Frame) : State :=
  if s.mayHold k then
    let (v, s) := s.draw
    let s := s.modLink k (fun x => { x with held := x.held ++ fs })
    if v % 2 == 1 then s else s.flushHeld k
  else (s.modLink k (fun x => { x with held := x.held ++ fs })).flushHeld k

/-- T1 in effect (R124). -/
def State.groupT1 (s : State) (n : Nat) : Nat := clampN 100 800 (s.fld (F.SPW_AXCFG_T1 n))

/-- Send the CONFIG frame with the link's present CFGID. T1 of a wholly unbound link is the 1 µs of R500. -/
def State.sendConfig (s : State) (k : Nat) : State :=
  let t1 := match s.linkGroup k with
    | some n => s.groupT1 n
    | none => 200
  let map := (linkLegs k).foldl (fun m l => m + s.legSlot l * 4 ^ (l % 3)) 0
  let par := leBytes 4 (s.rd (R.GL_DRVPAR0 k)).toNat ++ leBytes 4 (s.rd (R.GL_DRVPAR1 k)).toNat
  s.sendLow k [.config (s.link k).cfgid map ((linkLegs k).map (fun l => s.fld (F.SLU_LEGCFG_MAXW l))) t1 par]

/-- A new CONFIG: the next CFGID. -/
def State.newConfig (s : State) (k : Nat) : State :=
  (s.modLink k (fun x => { x with cfgid := (x.cfgid + 1) % 256 })).sendConfig k

def State.setLinkState (s : State) (k v : Nat) : State := s.put (F.GL_STAT_STATE k) v

/-! ## Conservation of EDGE frames (R151 to R153) -/

/-- Show the open frames and check SEQSENT = SEQACK + SEQLOST + OPEN (R153). -/
def State.syncOpen (s : State) (k : Nat) : State :=
  let n := (s.link k).opens.length
  let s := s.put (F.GL_SEQOPEN_OPEN k) n
  let sum := (s.rd (R.GL_SEQACK k)).toNat + (s.rd (R.GL_SEQLOST k)).toNat + n
  if sum % 2 ^ 32 == (s.rd (R.GL_SEQSENT k)).toNat || s.flag (F.GL_SEQOPEN_INVERR k) then s
  else (s.put (F.GL_SEQOPEN_INVERR k) 1).assertEv 131

/-- Count an open frame lost, without a source (R153). -/
def State.dropFrame (s : State) (k seq : Nat) : State :=
  let s := s.modLink k (fun x => { x with opens := x.opens.filter (fun f => f.seq != seq) })
  (s.wr (R.GL_SEQLOST k) (s.rd (R.GL_SEQLOST k) + 1)).syncOpen k

/-- A lost frame sets the link's edge-loss source (R152, R500), unless a link reset masks it (R300). -/
def State.loseFrame (s : State) (k seq : Nat) : State :=
  let s := s.dropFrame k seq
  match s.linkGroup k with
  | some n => if (s.link k).mask then s.maskHit n else s.assertEv (evAxis n 0)
  | none => if (s.link k).mask then s.maskHit domDev else s.assertEv 144

/-- Every open frame is counted lost (R153). -/
def State.dropOpens (s : State) (k : Nat) : State := s.each ((s.link k).opens.map (fun f => f.seq)) (fun q t => t.dropFrame k q)

/-- Send one EDGE frame with the next SEQ (R148); a frame 9 SEQs behind is lost (R151). `tight` tells that it missed its
lead. -/
def State.sendEdge (s : State) (k : Nat) (entries : List (Nat × Edge)) (tight : Bool) : State :=
  let q := (s.link k).nextSeq
  let s := s.modLink k (fun x => { x with nextSeq := (q + 1) % 256, opens := x.opens ++ [⟨q, entries, false⟩] })
  let s := s.wr (R.GL_SEQSENT k) (s.rd (R.GL_SEQSENT k) + 1)
  let s := if tight then s.inc (F.GL_ERRCNT_TIGHT k) else s
  let s := (s.send k [.edge q entries]).syncOpen k
  let old := ((s.link k).opens.filter (fun f => decide (9 ≤ (q + 256 - f.seq) % 256))).map (fun f => f.seq)
  s.each old (fun x t => t.loseFrame k x)

/-- Send entries in frames of at most 12 (R142), in their order; `tight` tells of each frame in turn whether it missed its lead. -/
def State.sendEdges (k : Nat) : Nat → List Bool → List (Nat × Edge) → State → State
  | 0, _, _, s => s
  | n + 1, tight, es, s =>
    if es.isEmpty then s else State.sendEdges k n tight.tail (es.drop 12) (s.sendEdge k (es.take 12) (tight.headD false))

/-! ## Link states (R143 to R145, R154) -/

/-- Bring the mask bit of the group on link k in line with its masks (R300). -/
def State.syncMaskOf (s : State) (k : Nat) : State :=
  match s.linkGroup k with
  | some n => s.syncMask n
  | none => s.syncMask domDev

/-- Enter TRAIN: the link checks are masked until UP (R300). EDGE frames still open are counted lost without a source, as on entry to LOST
(R153; for TRAIN and OFF the spec does not say: DESIGN CHOICE, assumption log 26). -/
def State.enterTrain (s : State) (k : Nat) : State :=
  let s := (s.dropOpens k).setLinkState k linkTrain
  let s := s.modLink k (fun x => { x with
    validSyms := 0, replies := 0, seenDes := 0, seenUv := 0, mask := true, maskOver := false, held := [], asked := [] })
  let s := s.each (linkLegs k) (fun l t => t.put (F.ES_LEGSTAT_HELD l) 1)
  s.syncMaskOf k

/-- Enter UP (R143): SEQ restarts at 0; SOFTOFF CLEAR goes out if the group is not latched. -/
def State.enterUp (s : State) (k : Nat) : State :=
  let s := ((s.setLinkState k linkUp).put (F.GL_STAT_CFGFAIL k) 0).put (F.GL_STAT_LOSTSIL k) 0
  let s := s.put (F.GL_STAT_LOSTBAD k) 0
  let s := s.modLink k (fun x => { x with nextSeq := 0, badRun := 0, returns := 0, maskOver := x.mask, rtts := x.rtts })
  let latched := match s.linkGroup k with
    | some n => s.flag (F.SPW_GSTAT_LATCH n)
    | none => (s.link k).off != 0
  let s := if latched then s else s.send k [.softoff 3 0]
  s.each (linkLegs k) (fun l t => t.refreshHeld l)

/-- Go to OFF: the TX pair holds its static level (R137). -/
def State.goOff (s : State) (k : Nat) : State :=
  let s := (s.dropOpens k).setLinkState k linkOff
  let s := s.modLink k (fun x => { x with
    validSyms := 0, replies := 0, returns := 0, seenDes := 0, seenUv := 0, held := [], asked := [] })
  s.each (linkLegs k) (fun l t => t.put (F.ES_LEGSTAT_HELD l) 1)

/-- The conditions of R145. -/
def State.linkIdle (s : State) (k : Nat) : Bool :=
  s.linkState k == linkOff || s.linkState k == linkLost ||
  (match s.linkGroup k with | some n => s.flag (F.SPW_GSTAT_LATCH n) | none => false) ||
  (linkLegs k).all (fun l => !s.legEnabled l)

/-- GL.CTRL.EN is written (R143, R145). -/
def State.glEnable (s : State) (k : Nat) (en : Bool) : State :=
  if en then
    let s := s.put (F.GL_CTRL_EN k) 1
    if s.linkState k == linkOff then (s.modLink k (fun x => { x with returns := 0 })).enterTrain k else s
  else if !s.flag (F.GL_CTRL_EN k) then s
  else if s.linkIdle k then (s.put (F.GL_CTRL_EN k) 0).goOff k
  else s.put (F.GL_STAT_RSTIGN k) 1

def execGlEnable (k : Fin 16) (en : Bool) (s : State) : Out := .next (if s.islandsRun then s.glEnable k en else s)

/-- GL.CTRL.RST is written (R145): the link returns to TRAIN and the error counters clear; an OFF link stays OFF. -/
def State.glReset (s : State) (k : Nat) : State :=
  if !s.linkIdle k then s.put (F.GL_STAT_RSTIGN k) 1
  else
    let s := s.wr (R.GL_ERRCNT k) 0
    if s.linkState k == linkOff then s else (s.modLink k (fun x => { x with returns := 0 })).enterTrain k

def execGlReset (k : Fin 16) (s : State) : Out := .next (if s.islandsRun then s.glReset k else s)

/-- GL.CTRL.CFGSEND is written (R145): CONFIG goes out on a link whose TX sends frames. -/
def State.glCfgSend (s : State) (k : Nat) : State :=
  if !s.linkIdle k then s.put (F.GL_STAT_CFGIGN k) 1
  else if s.linkState k == linkUp || s.linkState k == linkConfig then s.newConfig k else s

def execGlCfgsend (k : Fin 16) (s : State) : Out := .next (if s.islandsRun then s.glCfgSend k else s)

/-- 64 consecutive valid symbols (R143). -/
def execTrainAligned (k : Fin 16) (s : State) : Out :=
  .next (if s.islandsRun && s.linkState k == linkTrain then
    (s.setLinkState k linkMeasure).modLink k (fun x => { x with validSyms := 64, replies := 0 })
  else s)

/-- A symbol error or a loss of alignment (`none`) restarts the count of TRAIN (R143); a symbol of R138 does not. -/
def execSymbolError (x : BadSymbol) (s : State) : Out :=
  .next (if s.islandsRun && s.linkState x.link == linkTrain && (match x.sym with | some y => symError y | none => true) then
    s.modLink x.link (fun x => { x with validSyms := 0 })
  else s)

/-- 100 µs without progress (R143): back to TRAIN, and CFGFAIL at the sixteenth return. -/
def execBringupTimeout (k : Fin 16) (s : State) : Out :=
  let st := s.linkState k
  .next (if s.islandsRun && (st == linkTrain || st == linkMeasure || st == linkConfig) then
    let s := s.enterTrain k
    let s := s.modLink k (fun x => { x with returns := x.returns + 1 })
    if decide (16 ≤ (s.link k).returns) then s.put (F.GL_STAT_CFGFAIL k) 1 else s
  else s)

/-- Send a HEARTBEAT with a new TOKEN; one with REQ awaits its STATUS (R144). -/
def State.sendHeartbeat (s : State) (k : Nat) (req : Bool) : State :=
  let t := ((s.link k).token + 1) % 65536
  (s.modLink k (fun x => { x with token := t, asked := if req then (t :: x.asked).take 8 else x.asked })).sendLow k
    [.heartbeat t req]

/-- The periodic HEARTBEAT of MEASURE or CONFIG of CONFIG (R143). -/
def execBringupFrameDue (k : Fin 16) (s : State) : Out :=
  .next (if s.islandsRun && s.linkState k == linkMeasure then s.sendHeartbeat k true
    else if s.islandsRun && s.linkState k == linkConfig then s.sendConfig k
    else s)

/-- A HEARTBEAT of an UP link: with REQ every 100 µs (R144), or after 0.8 µs idle (R150). -/
def execHeartbeatDue (k : Fin 16) (req : Bool) (s : State) : Out :=
  .next (if s.islandsRun && s.linkState k == linkUp then s.sendHeartbeat k req else s)

/-- Link loss asserts (R116, R154), attributed to every switch of the link in both sets. -/
def State.linkLoss (s : State) (k : Nat) : State :=
  match s.linkGroup k with
  | some n =>
    let m := maskOf (((linkLegs k).filter (fun l => s.legGroup l == some n)).map (fun l => s.legPos n l))
    (s.tripGroup n causeLink m m).assertOwn (evAxis n 0) [n]
  | none => (s.tripUnbound (3 * k)).assertEv 144

/-- An UP link passes to LOST (R154): TRIP in every slot and nothing else, every open frame lost, and link loss. Under the link-reset
mask the loss is only counted, and asserts when the mask ends (R300, R301). -/
def State.loseLink (s : State) (k : Nat) (bad sil : Bool) : State :=
  let s := (s.setLinkState k linkLost).putB (F.GL_STAT_LOSTBAD k) bad
  let s := ((s.putB (F.GL_STAT_LOSTSIL k) sil).sendTrip k).dropOpens k
  let s := s.modLink k (fun x => { x with held := [], asked := [] })
  let s := if (s.link k).mask then s.maskHit ((s.linkGroup k).getD domDev) else s.linkLoss k
  s.each (linkLegs k) (fun l t => t.holdLeg l)

/-- A bad frame is discarded and counted; eight in a row lose an UP link (R141, R154). `sil` tells that the silence of R154 is
decided in the same tick. -/
def State.badFrame (s : State) (k : Nat) (sil : Bool) : State :=
  let s := s.inc (F.GL_ERRCNT_RXBAD k)
  let s := s.modLink k (fun x => { x with badRun := x.badRun + 1 })
  if decide (8 ≤ (s.link k).badRun) && s.linkState k == linkUp then s.loseLink k true sil else s

/-- The symbols of a received frame are judged bad; those of one that is not have their own commands. -/
def execBadFrameReceived (k : Fin 16) (f : BadFrame) (s : State) : Out :=
  .next (if s.islandsRun && s.linkState k != linkOff && rxJudge f.syms == .bad then s.badFrame k f.sil else s)

/-- No good frame for 2 µs (R154). -/
def execLinkSilence (k : Fin 16) (s : State) : Out :=
  .next (if s.islandsRun && s.linkState k == linkUp then s.loseLink k false true else s)

/-! ## Frames received (R155) -/

/-- Trip for each flag of the switch layout that has risen: bit 2 j lower, 2 j + 1 upper switch of leg j. -/
def State.flagTrips (s : State) (k cause flags : Nat) : State :=
  s.each (bitsOf 6 flags) (fun b t => t.tripLeg (3 * k + b / 2) cause (b % 2 == 1) (b % 2 == 0))

/-- DES and UV flags of a frame; a flag asserts when it becomes active (R155, R289). -/
def State.driverFlags (s : State) (k des uv : Nat) : State :=
  let x := s.link k
  let newDes := des - (des &&& x.seenDes)
  let newUv := uv - (uv &&& x.seenUv)
  let s := s.modLink k (fun x => { x with seenDes := des, seenUv := uv })
  (s.flagTrips k causeDrvDes newDes).flagTrips k causeDrvUv newUv

/-- A link that receives frames: MEASURE, CONFIG or UP. -/
def State.linkHears (s : State) (k : Nat) : Bool :=
  s.linkState k == linkMeasure || s.linkState k == linkConfig || s.linkState k == linkUp

/-- The upper or lower gate of a link's leg is compared (R115): no commanded edge of the switch lies within TOL of the sample time, and no
commanded turn-on within MAXW before it; MAXW below the active DT acts as DT (R111). -/
def State.gateCompared (s : State) (l : Nat) (at_ : GateAt) : Bool :=
  !(decide (at_.edge ≤ s.fld F.SLU_ECHOCFG_TOL) ||
    decide (at_.since ≤ Nat.max (s.fld (F.SLU_LEGCFG_MAXW l)) (s.fld (F.ES_ACTDT_DT l))))

/-- The gate bits that R115 compares, and whether each contradicts the state commanded at the sample time: bit 2 j lower, 2 j + 1 upper
switch of leg j. -/
def State.echoBits (s : State) (k gate : Nat) (gates : List GateAt) : List (Nat × Bool) :=
  (gates.take 6).zipIdx.filterMap (fun x =>
    let b := x.2
    let l := 3 * k + b / 2
    if s.gateCompared l x.1 then
      let now := s.flag (if b % 2 == 1 then F.ES_LEGSTAT_UP l else F.ES_LEGSTAT_LO l)
      some (b, gate.testBit b != (now != x.1.moved))
    else none)

/-- The result of one compared bit (R115): its run of contradicting echoes; at the third the echo mismatch asserts, unless it is masked
(R300). A bit that an echo does not compare keeps its run (DEDUCED, assumption log 26). -/
def State.echoBit (s : State) (k b : Nat) (wrong : Bool) : State :=
  let l := 3 * k + b / 2
  let up := b % 2 == 1
  let count := if up then (s.leg l).echoUp else (s.leg l).echoLo
  let next := if wrong then count + 1 else 0
  let s := s.modLeg l (fun x => if up then { x with echoUp := next } else { x with echoLo := next })
  if next == 3 then
    match s.legGroup l with
    | some n =>
      if (s.group n).maskSpill || (s.group n).maskClear || (s.link k).mask then s.maskHit n
      else s.tripLeg l causeEcho up (!up)
    | none => if (s.link k).mask then s.maskHit domDev else s.tripLeg l causeEcho up (!up)
  else s

/-- The echo check of an ECHO (R115): each leg with a contradicting bit counts the echo once; which bits contradict in the latest ECHO
(R133). -/
def State.echoCheck (s : State) (k : Nat) (bits : List (Nat × Bool)) : State :=
  let wrong := (bits.filter (fun x => x.2)).map (fun x => x.1)
  let s := s.modLink k (fun x => { x with contra := maskOf wrong })
  let s := s.each ((linkLegs k).filter (fun l => wrong.any (fun b => 3 * k + b / 2 == l))) (fun l t => t.inc (F.SLU_LEGSTAT_ECHOMM l))
  s.each bits (fun x t => t.echoBit k x.1 x.2)

/-- Judge one open frame that the ECHO covers (R151). -/
def State.judgeFrame (s : State) (k rxseq rxmap : Nat) (late : Bool) (f : OpenFrame) : State :=
  let d := (rxseq + 256 - f.seq) % 256
  if d == 0 || (decide (d ≤ 8) && rxmap.testBit (d - 1)) then
    let s := s.modLink k (fun x => { x with opens := x.opens.filter (fun g => g.seq != f.seq) })
    (s.wr (R.GL_SEQACK k) (s.rd (R.GL_SEQACK k) + 1)).syncOpen k
  else if !f.resent && s.flag (F.GL_LINKCFG_RSEN k) && !late then
    let s := s.modLink k (fun x => { x with
      opens := x.opens.map (fun g => if g.seq == f.seq then { g with resent := true } else g) })
    (s.inc (F.GL_ERRCNT_RESEND k)).send k [.edge f.seq f.entries]
  else s.loseFrame k f.seq

/-- The bytes of a good ECHO (R155): GL.ECHO, the driver's flags, the open frames it covers, the echo check against the state
commanded before any of its flags acts. `cover` holds the SEQs of the open frames it covers, `late` those whose resend could not leave
1.5 µs before their earliest entry (R151). -/
def State.echo (s : State) (k : Nat) (p : List Byte) (gates : List GateAt) (cover late : List Nat) : State :=
  let gate := numAt p 0 1 % 64
  let des := numAt p 1 1 % 64
  let uvs := numAt p 2 1
  let rxseq := numAt p 5 1
  let rxmap := numAt p 6 1
  let s := s.wr (R.GL_ECHOA k) (BitVec.ofNat 32
    (numAt p 3 1 * 2 ^ 24 + numAt p 4 1 * 2 ^ 16 + rxseq * 256 + uvs / 64 * 64 + gate))
  let s := s.wr (R.GL_ECHOB k) (BitVec.ofNat 32 (rxmap * 2 ^ 24 + uvs % 64 * 256 + des))
  let bits := s.echoBits k gate gates
  let s := s.driverFlags k des (uvs % 64)
  if s.linkState k == linkUp then
    let covered := (s.link k).opens.filter (fun f => cover.contains f.seq)
    let s := s.each covered (fun f t => t.judgeFrame k rxseq rxmap (late.contains f.seq) f)
    s.echoCheck k bits
  else s

/-- An ECHO's symbols have been received (R141, R155). A bad frame is counted. -/
def execEchoReceived (k : Fin 16) (syms : List LinkSym) (gates : List GateAt) (cover late : List (BitVec 8)) (s : State) : Out :=
  .next (if s.islandsRun && s.linkState k != linkOff then
    match rxPayload 0x81 syms with
    | some p =>
      let s := s.modLink k (fun x => { x with badRun := 0 })
      if s.linkHears k then
        s.echo k p gates (cover.map (fun c => c.toNat)) (late.map (fun c => c.toNat))
      else s
    | none => if rxJudge syms == .bad then s.badFrame k false else s
  else s)

/-- A turn-on that the driver reports as timed out (R114, R115, R155): counted, attributed to the opposite switch, and taken as
commanded off; in a Shorted group the short has failed (R127). -/
def State.driverIlto (s : State) (k b : Nat) : State :=
  let l := 3 * k + b / 2
  let up := b % 2 == 1
  match s.legGroup l with
  | some n =>
    if s.groupShorted n && (s.group n).shortUp == up then s.shortFails n l
    else ((s.iltoCount l).switchOff l up).tripLeg l causeIlto (!up) up
  | none => ((s.iltoCount l).switchOff l up).tripLeg l causeIlto (!up) up

/-- A new RTT and the delays it gives (R144); the rounding of the mean and of the halves is open (assumption log 9). Before eight values
are there the mean is that of those there are (DESIGN CHOICE, assumption log 26). -/
def State.newRtt (s : State) (k : Nat) (rtt : Int) : State :=
  let l := (rtt :: (s.link k).rtts).take 8
  let s := s.modLink k (fun x => { x with rtts := l })
  let mean := openRound (l.foldl (· + ·) 0) l.length
  let asym := sgn 16 (s.fld (F.GL_LINKCFG_ASYM k))
  (s.put (F.GL_DLY_DN k) (uns 16 (openRound (mean + asym) 2))).put (F.GL_DLY_UP k) (uns 16 (openRound (mean - asym) 2))

/-- The bytes of a good STATUS (R155). `rtt` is the time in edge units from the EOF of the HEARTBEAT it answers to its SOF at the RX
pins; it answers the HEARTBEAT with REQ of the same TOKEN (R144). -/
def State.status (s : State) (k : Nat) (p : List Byte) (rtt : Nat) : State :=
  let flags := numAt p 0 1
  let ilto := numAt p 1 1 % 64
  let des := numAt p 2 1 % 64
  let uv := numAt p 3 1 % 64
  let cfgid := numAt p 4 1
  let reply := flags.testBit 1 && (s.link k).asked.contains (numAt p 5 2)
  let s := s.modLink k (fun x => { x with
    stDes := des, stUv := uv, stIlto := ilto, asked := if reply then x.asked.erase (numAt p 5 2) else x.asked })
  let s := s.wr (R.GL_DRVST k) (BitVec.ofNat 32 (numAt p 10 1 * 2 ^ 24 + flags * 2 ^ 16 + cfgid * 256 + ilto))
  let s := s.put (F.GL_ERRCNT_DRVBAD k) (numAt p 9 1)
  let s := s.driverFlags k des uv
  let s := s.each (bitsOf 6 ilto) (fun b t => t.driverIlto k b)
  let s := if reply then s.newRtt k ((rtt : Int) - numAt p 7 2) else s
  if s.linkState k == linkMeasure && reply then
    let n := (s.link k).replies + 1
    let s := s.modLink k (fun x => { x with replies := n })
    if decide (8 ≤ n) then
      (s.setLinkState k linkConfig).newConfig k
    else s
  else if cfgid == (s.link k).cfgid && (s.linkState k == linkConfig || s.linkState k == linkUp) then
    let s := s.put (F.GL_STAT_CFGID k) cfgid
    if s.linkState k == linkConfig then s.enterUp k else s
  else s

/-- A STATUS's symbols have been received (R141, R155). A bad frame is counted. -/
def execStatusReceived (k : Fin 16) (syms : List LinkSym) (rtt : Nat) (s : State) : Out :=
  .next (if s.islandsRun && s.linkState k != linkOff then
    match rxPayload 0x82 syms with
    | some p =>
      let s := s.modLink k (fun x => { x with badRun := 0 })
      if s.linkHears k then s.status k p rtt else s
    | none => if rxJudge syms == .bad then s.badFrame k false else s
  else s)

end Sys2Proof.Machine
end

