-- ==== Sys2Proof/Machine/Tasks.lean ====
section
/-!
DEFINITION. Engine tasks and input slots as the rest of the device sees them: starts, divider, overrun, skip, dispatch,
abort, pushes and WAITV (R63 to R70). Crossings take no step of their own (assumption log 4).
-/

namespace Sys2Proof.Machine

/-- The key of slot `k` of CE_`e`. -/
def slotKey (e k : Nat) : Nat := 8 * e + k

/-- CE_e schedules: COMPUTE runs, EN is 1, and neither a program-memory error (R76) nor a debugger (R439) holds it. -/
def State.engineOn (s : State) (e : Nat) : Bool :=
  s.computeRuns && s.flag (F.CE_CTRL_EN e) && !s.flag (F.CE_STAT_ENGHALT e) && !s.sec.halted.testBit e

/-- The Weir source of a task's overrun or abort (R66, R67): the axis fault of its axis, or the engine's fault. -/
def State.taskSource (s : State) (e k : Nat) : Nat :=
  if s.flag (F.CE_TASKENT_AXB e k) then evAxis (s.fld (F.CE_TASKENT_AXIS e k)) 1 else evAxis e 6

/-- The datapath of a task is the one the mode allows (R68); DPATH 0b00 and 0b11 never start. -/
def State.taskAllowed (s : State) (e k : Nat) : Bool :=
  let d := s.fld (F.CE_TASKCFG_DPATH e k)
  (d == 1 || d == 2) && d == s.fld F.MODE_CUR_DPATH

/-- The state of its axis, and the mode, let a task start: a task bound to a Disabled axis is not started (R47), nor one bound to an
axis from any engine but the one AX_CONFIG names for that axis (R189), and in Recovery no loop task runs (R35). R35 does not say which
tasks are loop tasks: here every task bound to an axis is one (DESIGN CHOICE, assumption log 39). -/
def State.axisLets (s : State) (e k : Nat) : Bool :=
  !s.flag (F.CE_TASKENT_AXB e k) ||
    (let n := s.fld (F.CE_TASKENT_AXIS e k)
     s.axState n != axDisabled && (s.axis n).engine == e && s.curMode != modeRecovery)

/-- A start that has passed the divider: skipped and counted for a disallowed datapath (R68), dropped and counted for a running or
pending task (R66), not started where the engine, the axis or the mode does not let it (R35, R47, R76), else the slot becomes pending
(R63). A start for DPATH 0b00 or 0b11 counts as skipped (DESIGN CHOICE, assumption log 39). -/
def State.taskStart (s : State) (e k : Nat) : State :=
  if !(s.computeRuns && s.flag (F.CE_TASKCFG_EN e k)) then s
  else if !s.taskAllowed e k then s.inc (F.CE_TASKCNT_SKIP e k)
  else if (s.fld (F.CE_STAT_PEND e)).testBit k || (s.engine e).active.testBit k then
    (s.inc (F.CE_TASKCNT_OVR e k)).assertEv (s.taskSource e k)
  else if s.flag (F.CE_STAT_ENGHALT e) || !s.axisLets e k then s
  else s.put (F.CE_STAT_PEND e) (putBit (s.fld (F.CE_STAT_PEND e)) k true)

/-- One event of a task's source, counted by its divider of DIV + 1 with its phase (R65). The count starts at 0 with a load of the
slot and counts events while TASKCFG.EN is 1 (DESIGN CHOICE, assumption log 39). -/
def State.taskEvent (s : State) (e k : Nat) : State :=
  if !s.flag (F.CE_TASKCFG_EN e k) then s
  else
    let n := s.fld (F.CE_TASKCFG_DIV e k) + 1
    let c := (s.slot (slotKey e k)).div
    let s := s.modSlot (slotKey e k) (fun x => { x with div := (c + 1) % n })
    if c == s.fld (F.CE_TASKCFG_PHASE e k) then s.taskStart e k else s

/-- A start reaches its task slot (R65): one event at its divider. What a carrier event, a line or a timer starts is sent by that event;
a doorbell's start has arrived with its write (CE_DOORBELL), and SRC 0 and 5 to 7 never start. -/
def execTaskTrigger (e : Fin 16) (k : Fin 8) (s : State) : Out :=
  .next (if s.startNext 0 (slotKey e k) then (s.takeStart 0 (slotKey e k)).taskEvent e k else s)

/-- A pending slot whose task the mode no longer allows starts no activation (R28): it is skipped and counted as R68 counts a start
(DEDUCED, assumption log 39); one whose axis or mode forbids it is dropped (R35, R47). -/
def State.dropPending (s : State) (e : Nat) : State :=
  s.each ((List.range 8).filter (fun k => (s.fld (F.CE_STAT_PEND e)).testBit k && !(s.taskAllowed e k && s.axisLets e k)))
    (fun k t =>
      let t := t.put (F.CE_STAT_PEND e) (putBit (t.fld (F.CE_STAT_PEND e)) k false)
      if t.taskAllowed e k then t else t.inc (F.CE_TASKCNT_SKIP e k))

/-- The slots of an engine that could run: activations not waiting, and pending slots while HALT does not hold new ones. -/
def State.runnable (s : State) (e : Nat) : Nat :=
  let en := s.engine e
  (en.active - (en.active &&& en.waiting)) |||
    (if s.flag (F.CE_CTRL_HALT e) then 0 else s.fld (F.CE_STAT_PEND e))

/-- The lowest set bit below 8: the highest-priority slot (R63). -/
def topSlot (m : Nat) : Option Nat := (List.range 8).find? (fun k => m.testBit k)

/-- Show the running slot in CE.STAT. -/
def State.showSlot (s : State) (e : Nat) (k : Option Nat) : State :=
  match k with
  | some k => (s.put (F.CE_STAT_ACT e) 1).put (F.CE_STAT_SLOT e) k
  | none => (s.put (F.CE_STAT_ACT e) 0).put (F.CE_STAT_SLOT e) 0

/-- Begin the activation of a pending slot: at its entry, with the datapath of the mode (R28, R63). -/
def State.activate (s : State) (e k : Nat) : State :=
  let s := s.put (F.CE_STAT_PEND e) (putBit (s.fld (F.CE_STAT_PEND e)) k false)
  let s := s.modEngine e (fun x => { x with active := putBit x.active k true })
  let s := s.modSlot (slotKey e k) (fun x => { x with
    pc := s.fld (F.CE_TASKENT_ENTRY e k), dp := s.fld F.MODE_CUR_DPATH, loops := [], ret := [], scan := none })
  s.incMod (F.CE_TASKCNT_ACT e k)

/-- The activation of slot `k` ends, however it ends (R62, R67): loops and return stack empty, the registers kept. A store that
still waits for room in the second lane has not been issued and is dropped (DESIGN CHOICE, assumption log 39). -/
def State.endActivation (s : State) (e k : Nat) : State :=
  let s := s.modSlot (slotKey e k) (fun x => { x with loops := [], ret := [], waitLo := 0, waitHi := 0, scan := none })
  let s := s.modEngine e (fun x => { x with active := putBit x.active k false, waiting := putBit x.waiting k false })
  if s.fld (F.CE_STAT_SLOT e) == k then (s.unstall e).showSlot e none else s

/-- Every activation of an engine ends, and every pending start is dropped. -/
def State.endAll (s : State) (e : Nat) : State :=
  let s := (s.put (F.CE_STAT_PEND e) 0).each (List.range 8) (fun k t => t.endActivation e k)
  ((s.modEngine e (fun x => { x with active := 0, waiting := 0 })).unstall e).showSlot e none

/-- Where the program offset `pc` of CE_e lies. -/
def codeAddr (e pc : Nat) : Nat := 0x30000000 + 0x40000 * e + pc

/-- A double-bit error met on a fetch (R76): the instruction is not performed, the engine stops every task and halts; the
program-memory source is class F in Run, class U otherwise. -/
def State.fetchDouble (s : State) (e : Nat) : State :=
  let s := ((s.put (F.CE_STAT_PMDBL e) 1).put (F.CE_STAT_ENGHALT e) 1).endAll e
  s.assertEv (if s.curMode == modeRun then evAxis e 7 else evAxis e 6)

/-- An activation or a pending start reaches its cycle budget (R67): it ends, is counted, and its source is set. -/
def execTaskBudgetAbort (e : Fin 16) (k : Fin 8) (s : State) : Out :=
  .next (if s.computeRuns && s.fld (F.CE_TASKBUD_BUDGET e k) != 0 &&
      ((s.engine e).active.testBit k || (s.fld (F.CE_STAT_PEND e)).testBit k) then
    let s := s.put (F.CE_STAT_PEND e) (putBit (s.fld (F.CE_STAT_PEND e)) k false)
    let s := if (s.engine e).active.testBit k then s.endActivation e k else s
    (s.inc (F.CE_TASKCNT_ABT e k)).assertEv (s.taskSource e k)
  else s)

/-- SUP writes CE.DBELL (R65): bit k starts slot k if its source is doorbell. -/
def execCeDoorbell (e : Fin 16) (ring : BitVec 8) (s : State) : Out :=
  .next (s.each ((List.range 8).filter (fun k => ring.toNat.testBit k && s.fld (F.CE_TASKCFG_SRC e k) == 4))
    (fun k t => t.taskEvent e k))

/-- SUP writes CE.CTRL.CLRCNT (R4): every CE.TASKCNT counter clears. -/
def execCeClrcnt (e : Fin 16) (s : State) : Out :=
  .next (s.each (List.range 8) (fun k t => t.wr (R.CE_TASKCNT e k) 0))

/-! ## Input slots (R70) -/

/-- CE.INVALID / CE.INOVW bit of slot `i`. -/
def invalidFld (e i : Nat) : Fld := ⟨(if i < 32 then R.CE_INVALID0 e else R.CE_INVALID1 e), i % 32, 1⟩

def inovwFld (e i : Nat) : Fld := ⟨(if i < 32 then R.CE_INOVW0 e else R.CE_INOVW1 e), i % 32, 1⟩

/-- Push a value into slot `i` of CE_e: a still valid slot is overwritten and flagged. -/
def State.pushSlot (s : State) (e i : Nat) (v : Word) : State :=
  let s := if s.flag (invalidFld e i) then s.put (inovwFld e i) 1 else s
  let s := s.put (invalidFld e i) 1
  s.withInputs (SMap.set (fun _ => 0) s.inputs (64 * e + i) v)

/-- A value reaches the latch of probe `p` (R314); a disabled probe or one of an undefined type keeps nothing. -/
def State.latch (s : State) (p : Nat) (v : Word) : State :=
  let t := s.fld (F.BSN_PRB_TYPE p)
  if s.flag (F.BSN_PRB_EN p) && decide (1 ≤ t ∧ t ≤ 8) then s.withLatches (SMap.set (fun _ => 0) s.latches p v) else s

/-- A source pushes a value into the latch of every probe bound to it (R314). -/
def State.pushLatch (s : State) (ty idx port : Nat) (v : Word) : State :=
  if !s.islandsRun then s
  else s.each (List.range 48) (fun p t =>
    if t.fld (F.BSN_PRB_TYPE p) == ty && t.fld (F.BSN_PRB_INDEX p) == idx && (ty != 8 || t.fld (F.BSN_PRB_PORT p) == port)
    then t.latch p v else t)

/-- SENSE pushes a result of the type and instance given into every probe and every input slot bound to it (R70, R170,
R314). -/
def State.pushResult (s : State) (ty idx : Nat) (v : Word) : State :=
  let s := s.pushLatch ty idx 0 v
  if !s.computeRuns then s
  else s.each (List.range 16) (fun e t => t.each (List.range 64) (fun i t =>
    if t.flag (F.CE_INBIND_EN e i) && t.fld (F.CE_INBIND_TYPE e i) == ty && t.fld (F.CE_INBIND_INDEX e i) == idx
    then t.pushSlot e i v else t))

/-- A result of a bound source reaches its input slots (R70); types 0x1 to 0x7 exist. -/
def execInputSlotPush (ty : Fin 16) (idx : Fin 64) (v : Word) (s : State) : Out :=
  .next (if decide (1 ≤ ty.val ∧ ty.val ≤ 7) then s.pushResult ty idx v else s)

/-- Every slot of the two masks is valid. -/
def State.slotsValid (s : State) (e lo hi : Nat) : Bool :=
  (lo &&& (s.rd (R.CE_INVALID0 e)).toNat) == lo && (hi &&& (s.rd (R.CE_INVALID1 e)).toNat) == hi

/-- A task waiting in WAITV resumes when its slots are valid (R59): it can run again from the next dispatch. -/
def execWaitvResume (e : Fin 16) (k : Fin 8) (s : State) : Out :=
  .next (if s.computeRuns && (s.engine e).waiting.testBit k &&
      s.slotsValid e (s.slot (slotKey e k)).waitLo (s.slot (slotKey e k)).waitHi then
    let s := s.modEngine e (fun x => { x with waiting := putBit x.waiting k false })
    s.modSlot (slotKey e k) (fun x => { x with waitLo := 0, waitHi := 0 })
  else s)

end Sys2Proof.Machine
end

