-- ==== Sys2Proof/Machine/Sense.lean ====
section
/-!
DEFINITION. Current sensing and position inputs (spec/07): sigma-delta results, fast comparators, offset calibration, the
ADC, resolvers, encoders, SSI ports and capture units. What a filter or a pin measures is the command's operand.
-/

namespace Sys2Proof.Machine

/-- `num / den` rounded to nearest, a half toward plus infinity (R55, R163). -/
def roundRat (num : Int) (den : Nat) : Int :=
  if den = 0 then 0 else (2 * num + (den : Int)) / (2 * (den : Int))

/-- A filter result of `w` bits from `num / den` in 0 to 1: value and SAT (R163, R165). -/
def filterResult (w num den : Nat) : Int × Bool :=
  let r := roundRat ((2 ^ (w - 1) : Nat) * (2 * (num : Int) - (den : Int))) den
  let top : Int := (2 ^ (w - 1) : Nat) - 1
  if top < r then (top, true) else (r, false)

/-- The source of a detector of SDI_n: `k` of its axis where bound, the unbound-channel source otherwise (R187, R290). -/
def State.sdSource (s : State) (n k : Nat) : Nat :=
  if s.flag (F.SDF_CFG_AXB n) then evAxis (s.fld (F.SDF_CFG_AX n)) k else 144

/-- Subtract CALOFS where OFSEN is 1, with saturation (R169); `ofs` is in LSB of 24 bits. From a result of 16 bits its whole part is taken
away; the rounding is open (assumption log 9). -/
def State.offsetOf (s : State) (n w : Nat) (ofs v : Int) : Int :=
  if s.flag (F.SDF_CFG_OFSEN n) then
    satS w (if w == 24 then v - ofs else openRound (v * 256 - ofs) 256)
  else v

/-- The type 0x1 and 0x2 layout of R170. -/
def sdWord (w : Nat) (v : Int) (inv sat half cal : Bool) (count : Nat) : Nat :=
  (if w == 24 then uns 24 v * 256 else uns 16 v * 65536) +
    (inv.toNat * 128 + sat.toNat * 64 + half.toNat * 32 + cal.toNat * 16 + count % 16)

/-! ### Modulator faults (R162) -/

/-- A modulator fault of SDI_n lasts: its bitstream is stuck, or its SDC_k is disabled. -/
def State.sdFault (s : State) (n : Nat) : Bool :=
  s.flag (F.SDF_CFG_EN n) && ((s.sdChan n).stuck || !s.flag (F.SDF_SDC_EN (s.fld (F.SDF_CFG_CLK n))))

/-- A fault that lasts and did not before (`was`) begins: MODF, INV for every result in the making, and the channel's source. -/
def State.noteFault (s : State) (n : Nat) (was : Bool) : State :=
  if was || !s.sdFault n then s
  else
    let s := s.modSdChan n (fun c => { c with
      faulted := true, paPend := c.paPend.map (fun x => putBit x 7 true)
      closed := c.closed.map (fun w => { w with inv := true }) })
    (s.put (F.SDF_STAT_MODF n) 1).assertEv (s.sdSource n 1)

/-- The filter span of `bits` bits that ends now overlaps a fault; `since` is the number of bits taken since the latest one ended. -/
def State.spanFaulted (s : State) (n bits since : Nat) : Bool :=
  s.sdFault n || ((s.sdChan n).faulted && decide (since < bits))

/-- The run length of SDF.CFG.STK. -/
def State.stuckRun (s : State) (n : Nat) : Nat := 32 * 2 ^ s.fld (F.SDF_CFG_STK n)

/-- The bitstream of an enabled channel has held its present value so long (R162). -/
def execModulatorFault (r : StuckRun) (s : State) : Out :=
  let n := r.chan
  .next (if s.senseRuns && s.flag (F.SDF_CFG_EN n) then
    let was := s.sdFault n
    (s.modSdChan n (fun c => { c with stuck := decide (s.stuckRun n ≤ r.run) })).noteFault n was
  else s)

/-- A channel is enabled: its filters, its average and CALV start anew (R163, R164, R169), and a disabled clock is a fault at once. -/
def State.sdEnabled (s : State) (n : Nat) : State :=
  let s := s.modSdChan n (fun c => { SdChan.reset with paCount := c.paCount, s3Count := c.s3Count })
  (s.put (F.SDF_STAT_CALV n) 0).noteFault n false

/-! ### Offset calibration (R169) -/

/-- The conditions for an offset average: the channel calibrates, is bound, its axis is Disabled or Armed, and every leg of the
group is commanded off. -/
def State.calAllowed (s : State) (n : Nat) : Bool :=
  let ax := s.fld (F.SDF_CFG_AX n)
  s.flag (F.SDF_CFG_EN n) && s.flag (F.SDF_CFG_CALEN n) && s.flag (F.SDF_CFG_AXB n) &&
    (s.axState ax == axDisabled || s.axState ax == axArmed) &&
    (s.groupLegs ax).all (fun l => !s.flag (F.ES_LEGSTAT_UP l) && !s.flag (F.ES_LEGSTAT_LO l))

/-- Results in one average. -/
def State.calNeed (s : State) (n : Nat) : Nat := if s.fld (F.SDF_CFG_PAWIN n) = 0 then 1024 else 64

/-- A result of `v` LSB of 24 bits before any subtraction; outside the conditions (`ok`) the average in progress is discarded. A
complete average waits for its step. A result with INV or SAT is averaged like any other: R169 makes no exception (DESIGN CHOICE,
assumption log 27). -/
def State.calTake (s : State) (n : Nat) (ok : Bool) (v : Int) : State :=
  s.modSdChan n (fun c =>
    if !ok then { c with calSum := 0, calN := 0 }
    else if decide (c.calN < s.calNeed n) then { c with calSum := c.calSum + v, calN := c.calN + 1 } else c)

/-- The step of a complete average: CALOFS moves toward its mean by at most 16 LSB, and a new average starts. The
spec states no rounding of the mean: `up` takes the upper neighbour. -/
def execOffsetCalStep (n : Fin 48) (up : Bool) (s : State) : Out :=
  .next (if s.senseRuns && s.flag (F.SDF_CFG_EN n) && s.flag (F.SDF_CFG_CALEN n) && (s.sdChan n).calN == s.calNeed n then
    let sum := (s.sdChan n).calSum
    let need : Int := s.calNeed n
    let mean := sum / need + (if up && sum % need != 0 then 1 else 0)
    let ofs := sgn 24 (s.fld (F.SDF_CALOFS_OFS n))
    let new := satS 24 (ofs + clampI (-16) 16 (mean - ofs))
    let s := (s.put (F.SDF_CALOFS_OFS n) (uns 24 new)).put (F.SDF_STAT_CALV n) 1
    s.modSdChan n (fun c => { c with calSum := 0, calN := 0 })
  else s)

/-! ### Results (R163 to R166) -/

/-- The sinc3 filter of SDI_n delivers the sum `z` of R163 over its span of 3 M - 2 bits, which reaches back over the three latest results:
it counts for the offset where the conditions of R169 have held since then. -/
def execSinc3Result (n : Fin 48) (z since : Nat) (s : State) : Out :=
  .next (if s.senseRuns && s.flag (F.SDF_CFG_EN n) && s.flag (F.SDF_S3CFG_S3EN n) then
    let m := Nat.max (s.fld (F.SDF_S3CFG_S3OSR n)) 7 + 1
    let w := if s.flag (F.SDF_S3CFG_S3W n) then 24 else 16
    let (v, sat) := filterResult w z (m ^ 3)
    let s := if sat then s.put (F.SDF_STAT_S3SAT n) 1 else s
    let ofs := sgn 24 (s.fld (F.SDF_CALOFS_OFS n))
    let word := BitVec.ofNat 32 (sdWord w (s.offsetOf n w ofs v) (s.spanFaulted n (3 * m - 2) since) sat false
      (s.flag (F.SDF_CFG_OFSEN n)) (s.sdChan n).s3Count)
    let ok := s.calAllowed n
    let clean := ok && decide (3 ≤ (s.sdChan n).calRun)
    let s := s.modSdChan n (fun c => { c with s3Count := (c.s3Count + 1) % 16, calRun := if ok then Nat.min 3 (c.calRun + 1) else 0 })
    let s := if s.fld (F.SDF_CFG_PAWIN n) = 0 then s.calTake n clean (if w == 24 then v else v * 256) else s
    (s.wr (R.SDF_S3RES n) word).pushResult 2 n word
  else s)

/-- PAWIN selects windows that end at CZ (`atCz`) or at CP (R164). -/
def State.paSelected (s : State) (n : Nat) (atCz : Bool) : Bool :=
  (s.fld (F.SDF_CFG_PAWIN n)).testBit (if atCz then 1 else 0)

/-- A passed event of the channel's carrier (R164): it closes the window that the latest passed event opened, where PAWIN selects
this end, and opens the next. A window that closes before the previous result is out gives both results INV and sets PAOVL (R166). -/
def State.windowEvent (s : State) (n : Nat) (atCz : Bool) : State :=
  let c := s.sdChan n
  let cal := s.calAllowed n
  let s :=
    if c.isOpen && s.paSelected n atCz then
      let late := !c.paPend.isEmpty || !c.closed.isEmpty
      let s := if late then s.put (F.SDF_STAT_PAOVL n) 1 else s
      s.modSdChan n (fun c => { c with
        paPend := if late then c.paPend.map (fun x => putBit x 7 true) else c.paPend
        closed := (if late then c.closed.map (fun w => { w with inv := true }) else c.closed) ++
          [⟨atCz, late, c.openOfs, c.openCal && cal⟩] })
    else s
  s.modSdChan n (fun c => { c with
    isOpen := true, openOfs := sgn 24 (s.fld (F.SDF_CALOFS_OFS n)), openCal := cal })

/-- The windows of a carrier that stops end unread; its next one opens at its first passed event (R164). -/
def State.windowsStopped (s : State) (c : Nat) : State :=
  s.each ((List.range 48).filter (fun n => s.fld (F.SDF_CFG_CB n) == c)) (fun n t =>
    t.modSdChan n (fun x => { x with isOpen := false }))

/-- The sum of a closed window of SDI_n is taken over its `k` bits (R165), a span of `k` + 3 M - 3 bits. -/
def execPaWindowClose (n : Fin 48) (sum k since : Nat) (_ : Unit) (s : State) : Out :=
  .next (if s.senseRuns && s.flag (F.SDF_CFG_EN n) then match (s.sdChan n).closed with
  | [] => s
  | x :: xs =>
    let m := Nat.max (s.fld (F.SDF_CFG_PAOSR n)) 3 + 1
    let (v, sat) := filterResult 24 sum (k * m ^ 3)
    let inv := x.inv || s.spanFaulted n (k + 3 * m - 3) since
    let word := sdWord 24 (s.offsetOf n 24 x.ofs v) inv sat x.atCz (s.flag (F.SDF_CFG_OFSEN n)) (s.sdChan n).paCount
    let s := s.modSdChan n (fun c => { c with closed := xs, paPend := c.paPend ++ [word], paCount := (c.paCount + 1) % 16 })
    s.calTake n x.cal v
  else s)

/-- The current of a result word of SDI_n above 2 % of the rated current fails the rest check of an axis without a position
source (R40). -/
def State.restCurrent (s : State) (n w : Nat) : State :=
  let ax := s.fld (F.SDF_CFG_AX n)
  if s.mode.restCheck.isSome && s.flag (F.SDF_CFG_AXB n) && s.mode.speedTasks.testBit ax && (s.axis ax).posKind == 0 &&
      decide ((s.axis ax).rated < 50 * (Config.currentOf n (sgn 24 (w / 256))).natAbs) then
    s.withMode { s.mode with restFail := putBit s.mode.restFail ax true }
  else s

/-- A window's result becomes valid and is pushed (R166, R170). -/
def execPaResultValid (n : Fin 48) (s : State) : Out :=
  .next (if s.senseRuns then match (s.sdChan n).paPend with
  | [] => s
  | w :: ws =>
    let word := BitVec.ofNat 32 w
    let s := (s.modSdChan n (fun c => { c with paPend := ws, pas := (w :: c.pas).take 2 })).restCurrent n w
    (s.wr (R.SDF_PARES n) word).pushResult 1 n word
  else s)

/-! ### Fast comparators (R167, R168) -/

/-- The value of an evaluation from its sinc2 sum `z`. -/
def State.cmpValue (s : State) (n z : Nat) : Int := (filterResult 16 z ((Nat.max (s.fld (F.SDF_CMPCFG_OSR n)) 7 + 1) ^ 2)).1

/-- The last FILT + 1 evaluations of `zs`, oldest first, all satisfy `p`. -/
def State.cmpAll (s : State) (n : Nat) (zs : List Nat) (p : Int → Bool) : Bool :=
  let k := s.fld (F.SDF_CMPCFG_FILT n) + 1
  decide (k ≤ zs.length) && (zs.drop (zs.length - k)).all (fun z => p (s.cmpValue n z))

def State.cmpHi (s : State) (n : Nat) : Int := sgn 16 (s.fld (F.SDF_CMPTH_HI n))

def State.cmpLo (s : State) (n : Nat) : Int := sgn 16 (s.fld (F.SDF_CMPTH_LO n))

/-- The fast comparator goes high or low on its latest sinc2 sums: the hard-overcurrent source; with ACT = 1 on a channel of an
axis whose group holds linked legs the group's Spillway starts directly (R116). -/
def execFastComparatorDecision (n : Fin 48) (zs : List Nat) (s : State) : Out :=
  .next (
    let high := s.cmpAll n zs (fun v => decide (s.cmpHi n < v))
    let low := s.cmpAll n zs (fun v => decide (v < s.cmpLo n))
    let news := (high && !s.flag (F.SDF_STAT_CMPH n)) || (low && !s.flag (F.SDF_STAT_CMPL n))
    if s.senseRuns && s.flag (F.SDF_CFG_EN n) && s.flag (F.SDF_CMPCFG_EN n) && news then
      let s := (s.putB (F.SDF_STAT_CMPH n) high).putB (F.SDF_STAT_CMPL n) low
      let s := s.put (F.SDF_STAT_TRIPD n) 1
      let ax := s.fld (F.SDF_CFG_AX n)
      if s.flag (F.SDF_CFG_AXB n) && s.flag (F.SDF_CMPCFG_ACT n) && s.groupLinked ax then
        (s.tripGroup ax causeOc 0 0).assertOwn (evAxis ax 0) [ax]
      else s.assertEv (s.sdSource n 0)
    else s)

/-- The fast comparator returns within its hysteresis band on its latest sinc2 sums. -/
def execFastComparatorRelease (r : CmpSums) (s : State) : Out :=
  let n := r.chan
  .next (
    let h : Int := s.fld (F.SDF_CMPCFG_HYS n)
    if s.senseRuns && s.flag (F.SDF_CFG_EN n) && s.flag (F.SDF_CMPCFG_EN n) &&
        s.cmpAll n r.zs (fun v => decide (s.cmpLo n + h ≤ v ∧ v ≤ s.cmpHi n - h)) then
      (s.put (F.SDF_STAT_CMPH n) 0).put (F.SDF_STAT_CMPL n) 0
    else s)

/-! ## The ADC (R171 to R174) and the resolvers (R175 to R177) -/

/-- A start reaches sequence `q` (R171, R173): dropped and counted while it runs. -/
def State.adcStart (s : State) (q : Nat) (pol : Bool) : State :=
  if !(s.senseRuns && s.flag (F.ADC_SEQCFG_EN q)) then s
  else if s.flag (F.ADC_SEQSTAT_RUN q) then (s.inc (F.ADC_SEQSTAT_OVR q)).assertEv 143
  else
    let s := (s.put (F.ADC_SEQSTAT_RUN q) 1).put (F.ADC_SEQSTAT_STEP q) 0
    s.modAdcSeq q (fun x => { x with
      next := 0, run := (x.run + 1) % 16, pol := pol, waiting := false
      trims := (List.range 4).map (fun c => (s.fld (F.ADC_TRIM_GAIN c), s.fld (F.ADC_TRIM_OFS c))) })

/-- A start reaches sequence `q` (R171): what a carrier event, a timer or a line starts is sent by that event, and a resolver's peak
starts its sequence itself (RESOLVER_PEAK). -/
def execAdcSequenceStart (q : Fin 8) (s : State) : Out :=
  .next (if s.startNext 1 q then (s.takeStart 1 q).adcStart q false else s)

/-- The converters that step `i` of sequence `q` uses. -/
def State.stepConvs (s : State) (q i : Nat) : List Nat := (List.range 4).filter (fun c => s.flag ⟨R.ADC_STEP q i, 8 * c + 7, 1⟩)

/-- The converters of a step are free: none is converting for another sequence. -/
def State.stepFree (s : State) (q i : Nat) : Bool :=
  (List.range 8).all (fun p => p == q || (s.adcSeq p).samples.all (fun x =>
    (s.stepConvs p x.step).all (fun c => !(s.stepConvs q i).contains c)))

/-- A waiting step of a lower sequence number that could sample wants a converter of this one. -/
def State.stepYields (s : State) (q i : Nat) : Bool :=
  (List.range q).any (fun p => (s.adcSeq p).waiting && s.stepFree p (s.adcSeq p).next &&
    (s.stepConvs p (s.adcSeq p).next).any (fun c => (s.stepConvs q i).contains c))

/-- A step's sample instant comes: it samples its converters, or waits until all of them are free, the lower sequence number first
(R171, R173); `codes` are the raw 14-bit codes of ADC_0 to ADC_3 at the sample instant. -/
def execAdcStepSample (q : Fin 8) (codes : List (Fin 16384)) (_ : Unit) (s : State) : Out :=
  .next (if s.senseRuns && s.flag (F.ADC_SEQSTAT_RUN q) && decide ((s.adcSeq q).next ≤ s.fld (F.ADC_SEQCFG_NSTEP q)) then
    let i := (s.adcSeq q).next
    let s := s.put (F.ADC_SEQSTAT_STEP q) i
    if !s.stepFree q i || s.stepYields q i then s.modAdcSeq q (fun x => { x with waiting := true })
    else
      let s := if (s.adcSeq q).waiting then s.inc (F.ADC_SEQSTAT_DLYD q) else s
      s.modAdcSeq q (fun x => { x with
        samples := x.samples ++ [⟨i, codes.map (fun c => c.val), x.pol, x.run, s.sense.trimmed⟩]
        next := i + 1, waiting := false })
  else s)

/-- The code of converter `c` with the trim that stood at the start of the sequence's run (R174): the code itself for a gain of
1.0 and no offset. -/
def AdcSeq.trimmedCode (x : AdcSeq) (c code : Nat) : Nat :=
  let t := x.trims.getD c (0x8000, 0)
  if t.1 == 0x8000 && t.2 == 0 then code % 16384 else Config.adcTrim code t.1 t.2 % 16384

/-- The type 0x3 word of R170. -/
def State.adcWord (s : State) (q c : Nat) (x : AdcSample) : Word :=
  BitVec.ofNat 32 (uns 16 ((((s.adcSeq q).trimmedCode c (x.codes.getD c 0) : Int) - 8192) * 4) * 65536 + x.pol.toNat * 2048 +
    (!x.trimmed.testBit c).toNat * 1024 + c * 256 + (x.step % 16) * 16 + x.run % 16)

/-- The results of the oldest sample are written to their entries and pushed (R171, R172). -/
def execAdcResult (q : Fin 8) (s : State) : Out :=
  .next (if s.senseRuns then match (s.adcSeq q).samples with
  | [] => s
  | x :: xs =>
    let s := s.modAdcSeq q (fun y => { y with samples := xs })
    let s := s.each (List.range 4) (fun c t =>
      if t.flag ⟨R.ADC_STEP q x.step, 8 * c + 7, 1⟩ then
        let w := t.adcWord q c x
        let r := t.fld ⟨R.ADC_STEP q x.step, 8 * c, 5⟩
        (t.wr (R.ADC_RES r) w).pushResult 3 r w
      else t)
    if xs.isEmpty && decide (s.fld (F.ADC_SEQCFG_NSTEP q) < (s.adcSeq q).next) then
      (s.put (F.ADC_SEQSTAT_RUN q) 0).put (F.ADC_SEQSTAT_STEP q) 0
    else s
  else s)

/-- A calibration of converter `c`, one of those that ADC.CALCTL.EN runs or one that NOW asked for, computes a trim (R174): applied within ±2 % of gain and ±64 codes of offset, else the last
good trim is kept and the ADC-trim source is set. -/
def execAdcTrim (c : Fin 4) (gain : Nat) (ofs : Int) (s : State) : Out :=
  .next (if s.senseRuns && (s.flag F.ADC_CALCTL_EN || s.sense.trimNow.testBit c) then
    let s := s.withSense { s.sense with trimNow := putBit s.sense.trimNow c false }
    if decide (32768 - 655 ≤ gain ∧ gain ≤ 32768 + 655 ∧ -64 ≤ ofs ∧ ofs ≤ 64) then
      let s := (s.put (F.ADC_TRIM_GAIN c) gain).put (F.ADC_TRIM_OFS c) (uns 16 ofs)
      let s := s.withSense { s.sense with trimmed := putBit s.sense.trimmed c true }
      if s.sense.trimmed == 15 then s.put F.ADC_CALCTL_TRIMV 1 else s
    else s.assertEv 143
  else s)

/-- A peak of resolver excitation `r` starts the sequence named for it (R176). -/
def execResolverPeak (r : Fin 4) (second : Bool) (s : State) : Out :=
  .next (if s.senseRuns && s.flag (F.ADC_RESCFG_EN r) then
    let q := s.fld (F.ADC_RESCFG_SEQ r)
    if s.fld (F.ADC_SEQCFG_SRC q) == 4 && s.fld (F.ADC_SEQCFG_SEL q) == r.val then s.adcStart q second else s
  else s)

/-- ENC.RESANG is written and a type 0x6 result is pushed (R170, R177). -/
def State.resangWrite (s : State) (r v : Nat) : State :=
  let s := (s.put (F.ENC_RESANG_VALID r) (v / 2 ^ 31)).put (F.ENC_RESANG_ANG r) (v % 65536)
  s.pushResult 6 r (BitVec.ofNat 32 (s.fld (F.ENC_RESANG_ANG r) * 65536 + s.fld (F.ENC_RESANG_VALID r) * 8))

def execResangWrite (r : Fin 4) (v : Word) (s : State) : Out :=
  .next (if s.senseRuns then s.resangWrite r v.toNat else s)

/-! ## Encoders (R178 to R181) -/

/-- The source of an encoder or SSI error: the axis warning of the bound axis, or the unbound-channel source. -/
def State.encSource (s : State) (n : Nat) : Nat :=
  if s.flag (F.ENC_CFG_AXB n) then evAxis (s.fld (F.ENC_CFG_AX n)) 3 else 144

/-- Forward in the Gray order 00, 10, 11, 01 of (A, B). -/
def quadStep (a a' b' : Bool) : Bool := (a' != a) != (a' == b')

/-- The count after one step in the direction given. -/
def State.encCount (s : State) (n : Nat) (up : Bool) : State :=
  let d := up != s.flag (F.ENC_CFG_DIR n)
  s.wr (R.ENC_POS n) (if d then s.rd (R.ENC_POS n) + 1 else s.rd (R.ENC_POS n) - 1)

/-- An encoder error (R180): ERR, the kind, ERRCNT, VALID 0, no index found since, and the channel's source. -/
def State.encError (s : State) (n : Nat) (kind : Fld) : State :=
  let s := ((s.put (F.ENC_STAT_ERR n) 1).put kind 1).inc (F.ENC_STAT_ERRCNT n)
  let s := (s.put (F.ENC_STAT_VALID n) 0).put (F.ENC_STAT_IDXF n) 0
  s.assertEv (s.encSource n)

/-- The levels of A and B qualify an index (R179). -/
def State.indexQualified (s : State) (n : Nat) : Bool :=
  let z := s.fld (F.ENC_CFG_ZQ n)
  decide (z < 4) || (s.flag (F.ENC_STAT_A n) == z.testBit 1 && s.flag (F.ENC_STAT_B n) == z.testBit 0)

/-- Capture units of trigger kind `t` whose selection satisfies `p` have their trigger (R184). -/
def State.captureDue (s : State) (t : Nat) (p : Nat → Bool) : State :=
  if s.senseRuns then
    s.withSense { s.sense with capDue := s.sense.capDue ||| maskOf ((List.range 16).filter (fun k =>
      s.flag (F.ENC_CAPCFG_EN k) && s.fld (F.ENC_CAPCFG_TRIGK k) == t && p k)) }
  else s

/-- The level of Z after an accepted sample. A rising Z is an index where A and B match (R179, R181); `err` tells that an encoder
error falls in the same tick, which leaves VALID at 0. An index triggers capture units (R184). -/
def State.encZ (s : State) (n : Nat) (z err : Bool) : State :=
  let rise := z && !s.flag (F.ENC_STAT_Z n)
  let s := s.putB (F.ENC_STAT_Z n) z
  if rise && s.indexQualified n then
    let s := s.wr (R.ENC_IDXPOS n) (s.rd (R.ENC_POS n))
    let m := s.fld (F.ENC_CFG_IDXM n)
    let sets := m == 2 || (m == 3 && !s.flag (F.ENC_STAT_IDXF n))
    let s := if sets then s.wr (R.ENC_POS n) (s.rd (R.ENC_IDX n)) else s
    let s := if decide (2 ≤ m) && sets && !err then s.put (F.ENC_STAT_VALID n) 1 else s
    let s := if err then s else s.put (F.ENC_STAT_IDXF n) 1
    let s := s.withSense { s.sense with idxSeen := putBit s.sense.idxSeen n true }
    s.captureDue 1 (fun k => s.fld (F.ENC_CAPCFG_TRIGI k) == n)
  else s

/-- The accepted levels of A, B and Z change (R178, R180). A transition is counted before an index of the same tick (R179). -/
def execEncTransition (n : Fin 12) (a b : Bool) (z : EncZ) (s : State) : Out :=
  .next (if s.senseRuns && s.flag (F.ENC_CFG_EN n) then
    let fast := z.fast
    let z := z.z
    let a0 := s.flag (F.ENC_STAT_A n)
    let b0 := s.flag (F.ENC_STAT_B n)
    let s := (s.putB (F.ENC_STAT_A n) a).putB (F.ENC_STAT_B n) b
    if a0 != a && b0 != b then (s.encError n (F.ENC_STAT_ILLEG n)).encZ n z true
    else if a0 == a && b0 == b then s.encZ n z false
    else
      let m := s.fld (F.ENC_CFG_MODE n)
      let s :=
        if m == 0 then s.encCount n (quadStep a0 a b == Config.quadForward)
        else if m == 1 && a && !a0 then s.encCount n (b == Config.stepForward)
        else s
      if fast then (s.encError n (F.ENC_STAT_OVSPD n)).encZ n z true else s.encZ n z false
  else s)

/-- A rising Z is accepted. -/
def execEncIndex (n : Fin 12) (err : Bool) (s : State) : Out :=
  .next (if s.senseRuns && s.flag (F.ENC_CFG_EN n) then s.encZ n true err else s)

/-- ENC.CFG.EN is set: no index has been found since (R179). -/
def State.encEnabled (s : State) (n : Nat) : State := s.put (F.ENC_STAT_IDXF n) 0

/-- The firmware enables the position source of axis `n` (R40). -/
def State.enablePosition (s : State) (n : Nat) : State :=
  let i := (s.axis n).posInst
  match (s.axis n).posKind with
  | 1 => if s.flag (F.ENC_CFG_EN i) then s else (s.put (F.ENC_CFG_EN i) 1).encEnabled i
  | 2 => s.put (F.ENC_ABSCFG_EN i) 1
  | 3 => s.put (F.ADC_RESCFG_EN i) 1
  | _ => s

/-- The type 0x4 word of R170. -/
def State.encWord (s : State) (n : Nat) : Word :=
  BitVec.ofNat 32 (((s.rd (R.ENC_POS n)).toNat % 2 ^ 28) * 16 + s.fld (F.ENC_STAT_VALID n) * 8 +
    (s.sense.idxSeen.testBit n).toNat * 4)

/-- A passed event of carrier `c` reaches SENSE: period-average windows (R164) and encoder pushes (R170); `ev` is 0 CZ or 1 CP. -/
def State.senseCarrierEvent (s : State) (c ev : Nat) : State :=
  let s := if s.senseRuns then
      s.each ((List.range 48).filter (fun n => s.flag (F.SDF_CFG_EN n) && s.fld (F.SDF_CFG_CB n) == c)) (fun n t =>
        t.windowEvent n (ev == 0))
    else s
  s.each (List.range 12) (fun n t =>
    if t.flag (F.ENC_CFG_EN n) && t.fld (F.ENC_CFG_CB n) == c && (t.fld (F.ENC_CFG_EVT n)).testBit ev then
      (t.pushResult 4 n (t.encWord n)).withSense { t.sense with idxSeen := putBit t.sense.idxSeen n false }
    else t)

/-! ## SSI ports (R182, R183) -/

/-- The trigger of ABS_m starts its read (R182); `high` is the level of DAT at the start (NRDY when low). A LEN outside 8 to 40
refuses reads, and a trigger that comes during a read starts none. -/
def execSsiReadStart (m : Fin 4) (high : Bool) (s : State) : Out :=
  let len := s.fld (F.ENC_ABSCFG_LEN m)
  .next (if s.startNext 4 m then
    let ok := s.senseRuns && s.flag (F.ENC_ABSCFG_EN m) && decide (8 ≤ len ∧ len ≤ 40) && !s.sense.reading.testBit m
    (s.takeStart 4 m).withSense { s.sense with
      reading := putBit s.sense.reading m (ok || s.sense.reading.testBit m)
      notReady := putBit s.sense.notReady m (if ok then !high else s.sense.notReady.testBit m) }
  else s)

/-- The number a list of bits spells, first bit most significant. -/
def bitsMsb (bs : List Bool) : Nat := bs.foldl (fun n b => 2 * n + b.toNat) 0

/-- Gray decoding: each bit is the exclusive or of itself and those above it. -/
def grayDecode (bs : List Bool) : List Bool :=
  (bs.foldl (fun (acc : List Bool × Bool) b => let v := acc.2 != b; (acc.1 ++ [v], v)) ([], false)).1

/-- The position bits of an SSI frame. -/
def State.ssiBits (s : State) (m : Nat) (bits : List Bool) : List Bool :=
  (bits.drop (s.fld (F.ENC_ABSCFG_POSMSB m))).take (s.fld (F.ENC_ABSCFG_POSW m) + 1)

/-- The even parity over the position bits and the bit that follows them holds, or is not used. -/
def State.ssiParityOk (s : State) (m : Nat) (bits : List Bool) : Bool :=
  let n := s.fld (F.ENC_ABSCFG_POSMSB m) + s.fld (F.ENC_ABSCFG_POSW m) + 1
  !s.flag (F.ENC_ABSCFG_PAR m) ||
    ((s.ssiBits m bits).foldl (fun x b => x != b) false == bits.getD n false)

def absDiff (a b : Nat) : Nat := if a ≤ b then b - a else a - b

/-- The type 0x5 word of R170. -/
def State.absWord (s : State) (m : Nat) : Word :=
  BitVec.ofNat 32 (((s.rd (R.ENC_ABSPOS m)).toNat % 2 ^ 28) * 16 + s.fld (F.ENC_ABSSTAT_VALID m) * 8)

/-- The SSI port that axis `n` names as its position source. -/
def State.absOfAxis (s : State) (n : Nat) : Option Nat :=
  if (s.axis n).configured && (s.axis n).posKind == 2 then some (s.axis n).posInst else none

/-- The axis an SSI port is bound to: the one whose position source names it. -/
def State.absSource (s : State) (m : Nat) : Nat :=
  match axisList.find? (fun n => s.absOfAxis n == some m) with
  | some n => evAxis n 3
  | none => 144

/-- An SSI read completes with its LEN frame bits in the order received; `mono` tells that the line recovered in time. A failed
read keeps the last good position and is pushed with VALID 0; ERRN + 1 consecutive failures set the port's source (R183). -/
def execSsiReadDone (m : Fin 4) (bits : List Bool) (mono : Bool) (s : State) : Out :=
  .next (if s.senseRuns && s.sense.reading.testBit m && bits.length == s.fld (F.ENC_ABSCFG_LEN m) then
    let nrdy := s.sense.notReady.testBit m
    let pb := s.ssiBits m bits
    let pos := bitsMsb (if s.flag (F.ENC_ABSCFG_GRAY m) then grayDecode pb else pb)
    let jmp := s.fld (F.ENC_ABSTRG_JMP m)
    let parE := !s.ssiParityOk m bits
    let jumpE := jmp != 0 && s.sense.absGood.testBit m && decide (jmp < absDiff pos (s.rd (R.ENC_ABSPOS m)).toNat)
    let s := s.withSense { s.sense with
      reading := putBit s.sense.reading m false, notReady := putBit s.sense.notReady m false }
    let s :=
      if nrdy || parE || !mono || jumpE then
        let s := if nrdy then s.put (F.ENC_ABSSTAT_NRDY m) 1 else s
        let s := if parE then s.put (F.ENC_ABSSTAT_PARE m) 1 else s
        let s := if !mono then s.put (F.ENC_ABSSTAT_MONOE m) 1 else s
        let s := if jumpE then s.put (F.ENC_ABSSTAT_JUMPE m) 1 else s
        let s := (s.put (F.ENC_ABSSTAT_VALID m) 0).inc (F.ENC_ABSSTAT_ERRCNT m)
        let s := s.inc (F.ENC_ABSSTAT_CONS m)
        if s.fld (F.ENC_ABSSTAT_CONS m) == s.fld (F.ENC_ABSTRG_ERRN m) + 1 then s.assertEv (s.absSource m) else s
      else
        let s := s.wr (R.ENC_ABSPOS m) (BitVec.ofNat 32 pos)
        let s := (s.put (F.ENC_ABSSTAT_VALID m) 1).put (F.ENC_ABSSTAT_CONS m) 0
        s.withSense { s.sense with absGood := putBit s.sense.absGood m true }
    s.pushResult 5 m (s.absWord m)
  else s)

/-! ## Position capture (R184 to R186) -/

/-- What a capture unit's source gives: position, VALID, AGE; `none` for a source type that captures nothing. -/
def State.captureSource (s : State) (k age : Nat) : Option (Nat × Nat × Nat) :=
  let i := s.fld (F.ENC_CAPCFG_SIDX k)
  match s.fld (F.ENC_CAPCFG_STYPE k) with
  | 0 => some ((s.rd (R.ENC_POS i)).toNat, s.fld (F.ENC_STAT_VALID i), 0)
  | 1 => some ((s.rd (R.ENC_ABSPOS i)).toNat, s.fld (F.ENC_ABSSTAT_VALID i), Nat.min age 65535)
  | 2 => some (s.fld (F.ENC_RESANG_ANG i), s.fld (F.ENC_RESANG_VALID i), 0)
  | _ => none

/-- A unit captures with stamp `ns` (R184, R186); while FULL in single mode it misses. A capture also raises the status event
EV_192 + k (R290). -/
def State.capture (s : State) (k age ns : Nat) : State :=
  if !s.flag (F.ENC_CAPCFG_EN k) then s
  else if !s.flag (F.ENC_CAPCFG_MODE k) && s.flag (F.ENC_CAPSTAT_FULL k) then
    (s.inc (F.ENC_CAPSTAT_MISS k)).withSense { s.sense with missSeen := putBit s.sense.missSeen k true }
  else
    match s.captureSource k age with
    | none => s
    | some (pos, valid, a) =>
      let s := s.wr (R.ENC_CAPPOS k) (BitVec.ofNat 32 pos)
      let s := (s.wr (R.ENC_CAPTSL k) (BitVec.ofNat 32 ns)).wr (R.ENC_CAPTSH k) (BitVec.ofNat 32 (ns / 2 ^ 32))
      let s := (s.put (F.ENC_CAPSTAT_VALID k) valid).put (F.ENC_CAPSTAT_AGE k) a
      let s := if s.flag (F.ENC_CAPCFG_MODE k) then s else s.put (F.ENC_CAPSTAT_FULL k) 1
      let w := (pos % 2 ^ 28) * 16 + valid * 8 + (s.sense.missSeen.testBit k).toNat * 4
      let s := (s.pushResult 7 k (BitVec.ofNat 32 w)).withSense { s.sense with missSeen := putBit s.sense.missSeen k false }
      s.assertEv (192 + k)

/-- The nominal latency of a unit's trigger in half ns (R185). -/
def State.capLatency (s : State) (k : Nat) : Nat :=
  match s.fld (F.ENC_CAPCFG_TRIGK k) with
  | 0 => 2 * (20 * s.fld (F.ENC_CAPCFG_CFLT k) + 35)
  | 1 => 2 * (5 * (s.fld (F.ENC_CFG_FILT (s.fld (F.ENC_CAPCFG_TRIGI k))) + 2)) + 5
  | _ => 25

/-- The stamp of a latch now: network time less the nominal latency, within the error of R185 that the free value `e` picks. -/
def State.capStamp (s : State) (k e : Nat) : Nat :=
  let b := if s.fld (F.ENC_CAPCFG_TRIGK k) = 0 then 17 else 5
  uns 64 (asr (s.netTime - ((s.capLatency k * 32768 : Nat) : Int)) 16 + ((e % (2 * b + 1) : Nat) : Int) - (b : Int))

/-- Two units have the same trigger: the same kind and instance, and for a field input the same filter and an edge that both take. -/
def State.sameTrigger (s : State) (j k : Nat) : Bool :=
  [F.ENC_CAPCFG_TRIGK, F.ENC_CAPCFG_TRIGI].all (fun f => s.fld (f j) == s.fld (f k)) &&
    (s.fld (F.ENC_CAPCFG_TRIGK k) != 0 || (s.fld (F.ENC_CAPCFG_CFLT j) == s.fld (F.ENC_CAPCFG_CFLT k) &&
      (s.fld (F.ENC_CAPCFG_EDGE j) &&& s.fld (F.ENC_CAPCFG_EDGE k)) != 0))

/-- The trigger of a unit is on its way. -/
def State.capWaits (s : State) (k : Nat) : Bool := s.sense.capDue.testBit k || s.startNext 2 k

/-- The trigger of a unit is taken. -/
def State.takeTrigger (s : State) (k : Nat) : State :=
  if s.sense.capDue.testBit k then s.withSense { s.sense with capDue := putBit s.sense.capDue k false } else s.takeStart 2 k

/-- The trigger of CAP_k reaches its latch, and with it every unit of the same trigger (R184 to R186); `adv` counts of the time unit
have passed since its last command, and `age` ticks since an ABS source's latch instant. -/
def execCaptureTrigger (k : Fin 16) (adv age : Nat) (s : State) : Out :=
  .next (if s.senseRuns && s.capWaits k then
    let s := s.runOn adv
    let us := (List.range 16).filter (fun j => s.capWaits j && s.sameTrigger j k)
    let (e, s) := s.draw
    s.each us (fun j t =>
      let ns := t.capStamp j e
      (t.takeTrigger j).capture j age ns)
  else s)

/-- SUP writes ENC.CAPCFG.ARM (R186). -/
def execCaptureArm (k : Fin 16) (s : State) : Out :=
  .next (if s.senseRuns then s.put (F.ENC_CAPSTAT_FULL k) 0 else s)

end Sys2Proof.Machine
end

