-- ==== Sys2Proof/Machine/Timebase.lean ====
section
/-!
DEFINITION. Carriers, loads, edge scheduling, boundary correction and interval timers (spec/04). Times of edges are in edge
units from the CZ that begins their period (R89); moments between commands are the sender's.
-/

namespace Sys2Proof.Machine

/-! ## Carrier groups (R102) -/

def carrierList : List Nat := List.range 24

/-- The leader of a carrier's group: itself, or a leader it names. -/
def State.leaderOf (s : State) (c : Nat) : Option Nat :=
  let g := s.fld (F.CB_CFG_GRP c)
  if g == c then some c
  else if decide (g < 24) && s.fld (F.CB_CFG_GRP g) == g then some g
  else none

/-- The carriers of leader `c`'s group. -/
def State.groupCarriers (s : State) (c : Nat) : List Nat := carrierList.filter (fun d => s.leaderOf d == some c)

def State.followers (s : State) (c : Nat) : List Nat := (s.groupCarriers c).filter (fun d => d != c)

/-- The legs assigned to a carrier. -/
def State.carrierLegs (s : State) (c : Nat) : List Nat := legList.filter (fun l => s.fld (F.ES_LEGCFG_CB l) == c)

/-- The legs of leader `c`'s group. -/
def State.cgLegs (s : State) (c : Nat) : List Nat := (s.groupCarriers c).flatMap (fun d => s.carrierLegs d)

/-- A carrier group holds a linked leg: one that is enabled or bound (R16). -/
def State.cgLinked (s : State) (c : Nat) : Bool :=
  (s.cgLegs c).any (fun l => legLinked l && (s.flag (F.ES_LEGCFG_EN l) || s.flag (F.SPW_LEGAX_BOUND l)))

def State.running (s : State) (c : Nat) : Bool := s.flag (F.CB_STAT_RUN c)

def State.countingUp (s : State) (c : Nat) : Bool := s.flag (F.CB_STAT_DIR c)

/-- Ticks per count of a carrier: 2^PRESC of its leader. -/
def State.countTicks (s : State) (c : Nat) : Nat := 2 ^ Nat.min 8 (s.fld (F.CB_CFG_PRESC ((s.leaderOf c).getD c)))

/-- Edge units per 1/64 count: one tick is 64 edge units. -/
def State.unit (s : State) (c : Nat) : Nat := s.countTicks c

/-- Assert a source of a carrier group (R290): the notice of each axis with legs in the group, or EV_145. -/
def State.carrierSource (s : State) (c : Nat) : State :=
  let axes := axisList.filter (fun n => (s.cgLegs c).any (fun l => s.legGroup l == some n))
  if axes.isEmpty then s.assertEv 145 else s.each axes (fun n t => t.assertEv (evAxis n 4))

/-- PERIOD within R83 and R89 for a leader's group. -/
def State.periodOk (s : State) (c p : Nat) : Bool :=
  let half := p * s.countTicks c
  decide (2 ≤ p) && decide ((if s.cgLinked c then 500 else 200) ≤ half) && decide (2 * half * 64 ≤ 2 ^ 24 - 1)

/-! ## Starting and stopping a carrier (R103) -/

/-- Put a carrier in motion at the position `pos` of a period of `2 p` counts. How far the time unit has counted since its last command is a
moment between commands: free (assumption log 5). -/
def State.startAt (s : State) (c p phase pos : Nat) : State :=
  let up := decide (pos < p)
  let (v, s) := s.draw
  let s := (s.put (F.CB_STAT_RUN c) 1).putB (F.CB_STAT_DIR c) up
  let s := s.put (F.CB_STAT_CNT c) (if up then pos else 2 * p - pos)
  let s := (s.put (F.CB_ACT_PEAK c) p).wr (R.CB_PERCNT c) 0
  let s := s.setCarrier c { Carrier.reset with
    actPeriod := p, peakUp := p, peakDn := p, actPhase := phase, corrs := [0], zeroAt := s.tuCnt + v - pos * s.countTicks c }
  s.each (s.carrierLegs c) (fun l t => t.modSched l (fun x => { x with
    past := [], wasUp := t.flag (F.ES_LEGSTAT_UP l), wasLo := t.flag (F.ES_LEGSTAT_LO l) }))

/-- The position of a follower whose CZ falls `phase` counts after its leader's (R102). -/
def followerPos (p phase : Nat) : Nat := if 2 * p = 0 then 0 else (2 * p - phase % (2 * p)) % (2 * p)

/-- Start a follower from its shadow PHASE at its leader's count 0. One that starts on its down-ramp has its first whole period in the
leader's present one and takes that period's correction; one with PHASE 0 starts with the leader's peaks (R102). -/
def State.startFollower (s : State) (lead c : Nat) : State :=
  let x := s.carrier lead
  let p := x.actPeriod
  let ph := s.fld (F.CB_PHASE_PHASE c)
  let pos := followerPos p ph
  let s := s.startAt c p ph pos
  if pos = 0 then
    (s.modCarrier c (fun y => { y with peakUp := x.peakUp, peakDn := x.peakDn, corrs := [x.corrs.headD 0] })).put
      (F.CB_ACT_PEAK c) x.peakUp
  else if decide (p ≤ pos) then s.modCarrier c (fun y => { y with nextCorr := x.corrs.headD 0 })
  else s

/-- Start carrier `c`, whose EN is 1, where the rules let it start. -/
def State.startCarrier (s : State) (c : Nat) : State :=
  if s.running c then s
  else match s.leaderOf c with
  | none => s.put (F.CB_STAT_CFGIGN c) 1
  | some ld =>
    if ld == c then
      let p := s.fld (F.CB_PERIOD_PERIOD c)
      if s.periodOk c p then
        let s := s.startAt c p 0 0
        s.each ((s.followers c).filter (fun d => s.flag (F.CB_CFG_EN d) && !s.running d)) (fun d t => t.startFollower c d)
      else s.put (F.CB_STAT_CFGIGN c) 1
    else if s.running ld then s.modCarrier c (fun x => { x with startDue := true })
    else s

/-- The disable of a leg takes effect while something enables it again (R97, R98): both switches are commanded off; the edges of the
period that begins are those of the set it goes on with, if it has one. -/
def State.resumeLeg (s : State) (l ptag : Nat) : State :=
  let x := s.sched l
  let keep := !x.awaitSet || x.setTaken
  let s := s.modSched l (fun x => { x with
    edges := if keep then x.edges.filter (fun e => e.ptag == ptag) else [], planUp := keep && x.planUp
    planLo := keep && x.planLo, nomOn := keep && x.nomOn, disabling := false, enOff := false
    past := if keep then x.past.filter (fun e => e.ptag == ptag) else [], wasUp := false, wasLo := false })
  let s := s.modLeg l (fun x => { x with waitUp := false, waitLo := false, dropped := false })
  (s.put (F.ES_LEGSTAT_UP l) 0).put (F.ES_LEGSTAT_LO l) 0

/-- A disable takes effect (R97). -/
def State.endDisable (s : State) (l ptag : Nat) : State := if s.legHeld l then s.holdLeg l else s.resumeLeg l ptag

/-- Legs whose carrier stops while their disable waits for a CZ are disabled at once (R97). -/
def State.disableStopped (s : State) (c : Nat) : State :=
  s.each ((s.carrierLegs c).filter (fun l => (s.sched l).disabling)) (fun l t => t.endDisable l 16)

/-- The pending set of a leader that stops is discarded (R91): legs that would have started with it, and cleared groups, wait for another
(R98, R135). -/
def State.discardSet (s : State) (ld : Nat) : State :=
  if !s.flag (F.CB_LOAD_PEND ld) then s
  else
    let s := s.each (s.cgLegs ld) (fun l t =>
      let t := t.modSched l (fun x => { x with setTaken := false })
      match t.legGroup l with
      | some n => if t.gstate n == gsCleared then t.modGroup n (fun g => { g with clearSet := false }) else t
      | none => t)
    s.put (F.CB_LOAD_PEND ld) 0

/-- A carrier stops (R103). The edges already emitted for its enabled legs, and the switches commanded on, stay (DESIGN CHOICE,
assumption log 25). -/
def State.stopOne (s : State) (c : Nat) : State :=
  let s := (s.put (F.CB_STAT_RUN c) 0).put (F.CB_STAT_DIR c) 0
  let s := s.modCarrier c (fun x => { x with takes := false, startDue := false, emitted := false })
  (s.disableStopped c).windowsStopped c

/-- PEND clears once every running carrier of the group has taken the set (R91). -/
def State.syncPend (s : State) (ld : Nat) : State :=
  if (s.groupCarriers ld).any (fun d => (s.carrier d).takes) then s else s.put (F.CB_LOAD_PEND ld) 0

/-- Stop a carrier: a leader stops its followers with it and discards the pending set (R91, R103). -/
def State.stopCarrier (s : State) (c : Nat) : State :=
  match s.leaderOf c with
  | some ld =>
    if ld == c then
      (s.discardSet c).each (s.groupCarriers c) (fun d t => t.stopOne d)
    else
      let s := if (s.carrier c).takes then s.each (s.carrierLegs c) (fun l t => t.modSched l (fun x => { x with setTaken := false })) else s
      (s.stopOne c).syncPend ld
  | none => s.stopOne c

/-- CB.CFG.EN is written (R103). -/
def State.carrierEnable (s : State) (c : Nat) (en : Bool) : State :=
  let s := s.putB (F.CB_CFG_EN c) en
  if en then s.startCarrier c else s.stopCarrier c

def execCarrierEnable (c : Fin 24) (en : Bool) (s : State) : Out :=
  .next (if s.islandsRun then s.carrierEnable c en else s)

/-! ## Shadows and loads (R90 to R94) -/

/-- A write of a shadow register (R90); `false` where the address is none. -/
def State.shadowWrite (s : State) (a v : Nat) : State × Bool :=
  match carrierList.find? (fun c => a == R.CB_PERIOD c || a == R.CB_PHASE c) with
  | some c =>
    if a == R.CB_PERIOD c then ((s.put (F.CB_PERIOD_PERIOD c) v).put (F.CB_LOAD_PSHP c) 1, true)
    else ((s.put (F.CB_PHASE_PHASE c) v).put (F.CB_LOAD_PSHPH c) 1, true)
  | none =>
    match legList.find? (fun l => a == R.ES_CMPA l || a == R.ES_CMPB l || a == R.ES_DT l) with
    | some l =>
      if a == R.ES_CMPA l then ((s.put (F.ES_CMPA_CMP l) v).put (F.ES_PSHADOW_CMPA l) 1, true)
      else if a == R.ES_CMPB l then ((s.put (F.ES_CMPB_CMP l) v).put (F.ES_PSHADOW_CMPB l) 1, true)
      else ((s.put (F.ES_DT_DT l) v).put (F.ES_PSHADOW_DT l) 1, true)
    | none => (s, false)

def execShadowWrite (addr : Nat) (v : Word) (s : State) : Out :=
  .next (if s.islandsRun then (s.shadowWrite addr v.toNat).1 else s)

/-- The expected shadows of a group, each with its flag (R93). -/
def State.expected (s : State) (ld : Nat) : List Bool :=
  (s.groupCarriers ld).flatMap (fun c =>
    (if s.flag (F.CB_CFG_EXPP c) then [s.flag (F.CB_LOAD_PSHP c)] else []) ++
    (if s.flag (F.CB_CFG_EXPPH c) then [s.flag (F.CB_LOAD_PSHPH c)] else [])) ++
  (s.cgLegs ld).flatMap (fun l =>
    (if s.flag (F.ES_LEGCFG_EXPA l) then [s.flag (F.ES_PSHADOW_CMPA l)] else []) ++
    (if s.flag (F.ES_LEGCFG_EXPB l) then [s.flag (F.ES_PSHADOW_CMPB l)] else []) ++
    (if s.flag (F.ES_LEGCFG_EXPDT l) then [s.flag (F.ES_PSHADOW_DT l)] else []))

/-- The boundary at which a set accepted now takes effect at the leader: CP or CZ (R91). -/
def State.loadAtCp (s : State) (ld : Nat) : Bool :=
  let sel := s.fld (F.CB_CFG_LDSEL ld)
  sel == 1 || (sel == 2 && s.countingUp ld)

/-- Copy the shadows of the group into its pending set and clear the flags (R91). A leg that waits for a set will start with
this one (R98, R135). -/
def State.acceptSet (s : State) (ld : Nat) : State :=
  let atCp := s.loadAtCp ld
  let p := s.fld (F.CB_PERIOD_PERIOD ld)
  let s := s.each (s.groupCarriers ld) (fun c t =>
    let t := (t.put (F.CB_LOAD_PSHP c) 0).put (F.CB_LOAD_PSHPH c) 0
    t.modCarrier c (fun x => { x with
      pendPeriod := p, pendPhase := t.fld (F.CB_PHASE_PHASE c), takes := t.running c, pendAtCp := atCp,
      leaderTook := false, computed := false }))
  let s := s.each (s.cgLegs ld) (fun l t =>
    let t := t.modSched l (fun x => { x with
      pendA := t.fld (F.ES_CMPA_CMP l), pendB := t.fld (F.ES_CMPB_CMP l), pendDT := t.fld (F.ES_DT_DT l),
      setTaken := if x.awaitSet && t.flag (F.ES_LEGCFG_EN l) then true else x.setTaken })
    let t := match t.legGroup l with
      | some n => if t.gstate n == gsCleared then t.modGroup n (fun g => { g with clearSet := true }) else t
      | none => t
    t.wr (R.ES_PSHADOW l) 0)
  s.put (F.CB_LOAD_PEND ld) 1

/-- An LDALL reaches TIMEBASE (R91 to R94). `late` tells that it comes after the load lead's limit. Written to a follower it
has no effect. -/
def State.ldall (s : State) (c : Nat) (late : Bool) : State :=
  if s.leaderOf c != some c then s
  else if !s.running c then s.put (F.CB_STAT_CFGIGN c) 1
  else if s.flag (F.CB_LOAD_PEND c) then (s.inc (F.CB_LOAD_OVLP c)).carrierSource c
  else if late then (s.inc (F.CB_LOAD_LATE c)).carrierSource c
  else if !s.periodOk c (s.fld (F.CB_PERIOD_PERIOD c)) then (s.put (F.CB_STAT_BADLD c) 1).carrierSource c
  else
    let e := s.expected c
    let s := s.acceptSet c
    if e.any (fun x => x) && e.any (fun x => !x) then (s.inc (F.CB_LOAD_PART c)).carrierSource c else s

def execLdall (c : Fin 24) (late : Bool) (s : State) : Out := .next (if s.islandsRun then s.ldall c late else s)

/-! ## Nominal intervals and edges (R85 to R89, R101) -/

/-- A nominal transition: its period, counted from the present one, offset in edge units, on or off. -/
structure Nominal where
  per : Nat
  off : Nat
  on : Bool
  deriving DecidableEq, Repr

/-- The transitions of an up-ramp of peak `pu` counts and whether the interval is open at its end (R85). -/
def nominalUp (per a pu u : Nat) (open' : Bool) : List Nominal × Bool :=
  let rises := decide (a < pu * 64)
  let t := a * u
  if rises then
    if open' then (if a = 0 then ([], true) else ([⟨per, 0, false⟩, ⟨per, t, true⟩], true))
    else ([⟨per, t, true⟩], true)
  else if open' then ([⟨per, 0, false⟩], false)
  else ([], false)

/-- The transitions of a down-ramp from peak `pd`, whose CP lies at `cp` edge units (R85). -/
def nominalDown (per b cp pd u : Nat) (open' : Bool) : List Nominal × Bool :=
  if decide (b < pd * 64) then
    let start := if open' then [] else [⟨per, cp, true⟩]
    if b = 0 then (start, true) else (start ++ [⟨per, cp + (pd * 64 - b) * u, false⟩], false)
  else if open' then ([⟨per, cp, false⟩], false)
  else ([], false)

/-- The periods a computation spans, in edge units from the present CZ: the lengths of the present and the next period, the present
PTAG, and REFW. -/
structure Span where
  len0 : Int
  len1 : Int
  ptag : Nat
  refw : Nat
  deriving DecidableEq, Repr

/-- When period `per` begins. -/
def Span.base (w : Span) (per : Nat) : Int := if per = 0 then 0 else if per = 1 then w.len0 else w.len0 + w.len1

def Span.time (w : Span) (x : Nominal) : Int := w.base x.per + x.off

/-- The periods in which a lower conduction from `a` to `b` lasts at least REFW (R101). -/
def Span.lows (w : Span) (a b : Int) : Nat :=
  maskOf ([0, 1, 2].filter (fun i =>
    decide ((w.refw : Int) ≤ (if decide (i < 2 ∧ w.base (i + 1) < b) then w.base (i + 1) else b) - max a (w.base i))))

/-- What the placement of edges carries along (R86, R87): the plan of the two switches, the edges placed with their times from the
present CZ, the pairs dropped, and the periods with a lower conduction of at least REFW that has ended. -/
structure Place where
  up : Bool
  lo : Bool
  upAt : Int
  loAt : Int
  edges : List (Int × Edge)
  drops : Nat
  lows : Nat
  deriving DecidableEq, Repr

/-- Put an edge at time `at'` into the period of its nominal transition (R89). -/
def Place.edge (p : Place) (w : Span) (per : Nat) (at' : Int) (upper on : Bool) : Place :=
  { p with
    up := if upper then on else p.up, lo := if upper then p.lo else on
    upAt := if upper && on then at' else p.upAt, loAt := if !upper && on then at' else p.loAt
    edges := p.edges ++ [(at', ⟨(w.ptag + per) % 16, (at' - w.base per).toNat, upper, on⟩)]
    lows := if !upper && !on then p.lows ||| w.lows p.loAt at' else p.lows }

/-- The time of the turn-off of a switch that is on, no earlier than MINPW after its turn-on (R87). -/
def Place.offTime (p : Place) (upper : Bool) (minpw : Nat) (t : Int) : Int :=
  let on := if upper then p.upAt else p.loAt
  if (if upper then p.up else p.lo) && decide (t < on + minpw) then on + minpw else t

/-- Place the edges of one nominal transition (R86, R87); `next` is the time of the transition that follows it in this interval. A
turn-on that cannot be placed before it is dropped. -/
def placeOne (mode minpw dt : Nat) (w : Span) (x : Nominal) (next : Option Int) (p : Place) : Place :=
  let t := w.time x
  let early : Int → Bool := fun at' => match next with
    | some n => decide (n ≤ at')
    | none => false
  if mode == 3 then p
  else if mode == 1 then
    if x.on then p.edge w x.per t true true
    else if p.up then p.edge w x.per (p.offTime true minpw t) true false
    else p
  else if mode == 2 then
    if !x.on then p.edge w x.per t false true
    else if p.lo then p.edge w x.per (p.offTime false minpw t) false false
    else p
  else
    let off := p.offTime (!x.on) minpw t
    let p := if (if x.on then p.lo else p.up) then p.edge w x.per off (!x.on) false else p
    if early (off + dt) then { p with drops := p.drops + 1 } else p.edge w x.per (off + dt) x.on true

/-- Place the edges of a list of nominal transitions, in order. -/
def placeAll (mode minpw dt : Nat) (w : Span) : List Nominal → Place → Place
  | [], p => p
  | x :: xs, p => placeAll mode minpw dt w xs (placeOne mode minpw dt w x (xs.head?.map w.time) p)

/-- Every switch that is on turns off at the CZ that begins period `per`, as an ordinary edge (R97). -/
def Place.allOff (w : Span) (per : Nat) (p : Place) : Place :=
  let p := if p.up then p.edge w per (w.base per) true false else p
  if p.lo then p.edge w per (w.base per) false false else p

/-- The set gives a lower conduction of at least REFW that begins at the CZ of the period whose transitions these are (R101): the lower
switch turns on DT after a nominal off of complementary mode and with one of lower-only mode, and never in upper-only mode. `stop` is the
offset at which what is given for the period ends. -/
def lowAtZero (mode dt refw stop : Nat) (next : List Nominal) (openAtEnd : Bool) : Bool :=
  let gap := if mode == 0 then dt else 0
  let ends := match next with
    | ⟨_, 0, false⟩ :: ⟨_, o, true⟩ :: _ => some o
    | [⟨_, 0, false⟩] => if openAtEnd then none else some stop
    | _ => none
  mode != 1 && (match ends with | some o => decide (gap + refw ≤ o) | none => false)

/-- The refresh pulse of R101 at the CZ that begins period `j`, as nominal transitions that replace those within it. -/
def withRefresh (mode dt refw j : Nat) (xs : List Nominal) (openAtEnd : Bool) : List Nominal :=
  let next := xs.filter (fun x => x.per == j)
  let stop := 2 * dt + refw
  let within := next.filter (fun x => decide (x.off ≤ stop))
  let after := next.filter (fun x => decide (stop < x.off))
  let onAfter := match within.getLast? with
    | some x => x.on
    | none => match after.head? with
      | some x => !x.on
      | none => openAtEnd
  let start := if mode == 0 then 0 else dt
  xs.filter (fun x => decide (x.per < j)) ++ [⟨j, start, false⟩] ++ (if onAfter then [⟨j, dt + refw, true⟩] else []) ++ after

/-- The load boundary that a carrier reaches next: CP, or CZ (R91). -/
def State.nextIsCp (s : State) (c : Nat) : Bool :=
  let sel := s.fld (F.CB_CFG_LDSEL ((s.leaderOf c).getD c))
  sel == 1 || (sel == 2 && s.countingUp c)

/-- The peaks from the present down-ramp to the up-ramp after the next period, for the pending or the active set, with the corrections
already fixed (R85, R95, R96). -/
structure Ramps where
  pd0 : Nat
  pu1 : Nat
  pd1 : Nat
  pu2 : Nat
  deriving DecidableEq, Repr

def State.ramps (s : State) (c : Nat) (pend : Bool) : Ramps :=
  let y := s.carrier c
  let p : Nat := if pend then y.pendPeriod else y.actPeriod
  let corr : Int := if s.countingUp c then 0 else y.nextCorr
  let peak : Nat → Int → Nat := fun p k => ((p : Int) + k / 2).toNat
  let cp := s.nextIsCp c
  let now := cp && s.countingUp c
  { pd0 := if now && pend then peak p (y.corrs.headD 0) else y.peakDn
    pu1 := if cp && !now then peak y.actPeriod corr else peak p corr
    pd1 := peak p corr
    pu2 := p }

/-- The nominal transitions of the interval that the next load boundary of carrier `c` opens (R85, R91, R95), for compare values `a`, `b`;
whether it is open at its end; and the period whose CZ it holds, counted from the present one: an interval from a CP on holds the next CZ,
one between a CZ and a CP begins with it. -/
def State.intervalOf (s : State) (c a b : Nat) (w : Ramps) (open' : Bool) : List Nominal × Bool × Option Nat :=
  let u := s.unit c
  let sel := s.fld (F.CB_CFG_LDSEL ((s.leaderOf c).getD c))
  let cp0 := (s.carrier c).peakUp * 64 * u
  let cp1 := w.pu1 * 64 * u
  if sel == 1 then
    if s.countingUp c then
      let (x, o) := nominalDown 0 b cp0 w.pd0 u open'
      let (y, o) := nominalUp 1 a w.pu1 u o
      (x ++ y, o, some 1)
    else
      let (x, o) := nominalDown 1 b cp1 w.pd1 u open'
      let (y, o) := nominalUp 2 a w.pu2 u o
      (x ++ y, o, some 2)
  else if sel == 2 then
    if s.countingUp c then
      let (x, o) := nominalDown 0 b cp0 w.pd0 u open'
      (x, o, none)
    else
      let (x, o) := nominalUp 1 a w.pu1 u open'
      (x, o, some 1)
  else
    let (x, o) := nominalUp 1 a w.pu1 u open'
    let (y, o) := nominalDown 1 b cp1 w.pd1 u o
    (x ++ y, o, some 1)

/-- REFW in effect (R101): its range is 2,560 to 64,000; that a lower value acts as 2,560 the register table says, that a higher one acts as
64,000 is the model's (DESIGN CHOICE, assumption log 25). -/
def State.refw (s : State) (l : Nat) : Nat := clampN 2560 64000 (s.fld (F.ES_LEGTIM_REFW l))

/-- The boundary lets the set of a cleared group take effect: a CZ of the leader has followed the clear, or is this one (R135). -/
def State.clearReady (s : State) (l : Nat) : Bool :=
  match s.legGroup l with
  | some n => s.gstate n != gsCleared || (s.group n).czAfterClear
  | none => true

/-- The set that an interval is computed from gives leg `l` edges: the leg waits for none, or for this one (R98, R135). -/
def State.setServes (s : State) (c l : Nat) (pend : Bool) : Bool :=
  let x := s.sched l
  !x.awaitSet || (x.setTaken && (pend || !(s.carrier c).takes))

/-- How an interval gives edges to a leg. -/
inductive Emit where
  /-- Held, or waiting for another set. -/
  | none
  /-- Every edge. -/
  | all
  /-- Edges from the CZ the interval holds on: a cleared group whose leader has had no CZ since (R135). -/
  | fromZero
  /-- A disable under way (R97): edges before the CZ where the active set gives them (`before`), every switch off at the CZ, and the
  edges after it where something has enabled the leg again (`after`). -/
  | around (before after : Bool)
  deriving DecidableEq, Repr

def State.legEmit (s : State) (c l : Nat) (pend : Bool) : Emit :=
  let x := s.sched l
  let serves := s.setServes c l pend
  if s.flag (F.ES_LEGSTAT_HELD l) || s.fld (F.ES_LEGCFG_MODE l) == 3 then .none
  else if x.disabling then .around (!pend && !x.awaitSet) (!s.legHeld l && serves)
  else if s.legHeld l || !serves then .none
  else if s.clearReady l then .all
  else .fromZero

/-- Place an interval's transitions as the leg takes them; `j` is the period whose CZ the interval holds. -/
def Emit.place (e : Emit) (mode minpw dt : Nat) (w : Span) (xs : List Nominal) (j : Option Nat) (p : Place) : Place :=
  let before := xs.filter (fun x => match j with | some j => decide (x.per < j) | Option.none => true)
  let after := xs.filter (fun x => match j with | some j => decide (j ≤ x.per) | Option.none => false)
  match e with
  | .none => p
  | .all => placeAll mode minpw dt w xs p
  | .fromZero => placeAll mode minpw dt w after p
  | .around b a =>
    let p := if b then placeAll mode minpw dt w before p else p
    match j with
    | some j =>
      let p := p.allOff w j
      if a then placeAll mode minpw dt w after p else p
    | Option.none => p

/-- The nominal interval runs on at the end of what a leg has been given. -/
def Emit.runsOn (e : Emit) (j : Option Nat) (was open' : Bool) : Bool :=
  match e with
  | .none => false
  | .all => open'
  | .fromZero => j.isSome && open'
  | .around b a => if j.isSome then a && open' else if b then open' else was

/-- Compute and emit the edges of leg `l` for the interval that the next load boundary of its carrier opens (R85 to R89, R96,
R101), from the pending set (`pend`) or the active one; the edges come with their times from the carrier's present CZ. A period in
which the leg is held is full too (R101). -/
def State.computeLeg (s : State) (c l : Nat) (pend : Bool) : List (Int × Edge) × State :=
  let x := s.sched l
  let y := s.carrier c
  let u := s.unit c
  let a := if pend then x.pendA else s.fld (F.ES_ACTA_CMP l)
  let b := if pend then x.pendB else s.fld (F.ES_ACTB_CMP l)
  let dt := if pend then x.pendDT else s.fld (F.ES_ACTDT_DT l)
  let mode := s.fld (F.ES_LEGCFG_MODE l)
  let minpw := s.fld (F.ES_LEGTIM_MINPW l)
  let w := s.ramps c pend
  let span : Span := ⟨((y.peakUp + w.pd0) * 64 * u : Nat), ((w.pu1 + w.pd1) * 64 * u : Nat), (s.rd (R.CB_PERCNT c)).toNat % 16, s.refw l⟩
  let e := s.legEmit c l pend
  let (xs, o, j) := s.intervalOf c a b w (x.nomOn && e != Emit.fromZero)
  let start : Place := ⟨x.planUp, x.planLo, x.upOnAt, x.loOnAt, [], 0, x.lows⟩
  let (xs, count, pulse) := match j with
    | none => (xs, x.fullCount, false)
    | some j =>
      let p := e.place mode minpw dt span (xs.filter (fun x => decide (x.per < j))) none start
      let low := (p.lows ||| (if p.lo then span.lows p.loAt (span.base j) else 0)).testBit (j - 1)
      let count := if low then 0 else Nat.min 64 (x.fullCount + 1)
      let stop := (if (s.fld (F.CB_CFG_LDSEL ((s.leaderOf c).getD c))) == 1 || s.fld (F.CB_CFG_LDSEL ((s.leaderOf c).getD c)) == 2
        then (if j == 2 then w.pu2 else w.pu1) else w.pu1 + w.pd1) * 64 * u
      let zero := e == Emit.all && lowAtZero mode dt span.refw stop (xs.filter (fun x => x.per == j)) o
      if zero then (xs, 0, false)
      else if (e == Emit.all || e == Emit.fromZero) && s.flag (F.ES_LEGCFG_BOOT l) && decide (s.fld (F.ES_LEGCFG_NREF l) + 1 ≤ count) then
        (withRefresh mode dt span.refw j xs o, 0, true)
      else (xs, count, false)
  let r := e.place mode minpw dt span xs j start
  let s := s.modSched l (fun z => { z with
    edges := z.edges ++ r.edges.map (fun x => x.2), past := z.past ++ r.edges.map (fun x => x.2), nomOn := e.runsOn j x.nomOn o, planUp := r.up, planLo := r.lo
    upOnAt := r.upAt, loOnAt := r.loAt, fullCount := count, lows := r.lows })
  let s := s.put (F.ES_LEGSTAT_DROP l) (Nat.min 255 (s.fld (F.ES_LEGSTAT_DROP l) + r.drops))
  let s := if pulse then s.incMod (F.ES_LEGSTAT_REFCNT l) else s
  (r.edges, s)

/-! ### The boundaries of followers (R91, R102) -/

/-- A follower's present phase against its leader, in counts. -/
def State.phaseNow (s : State) (c : Nat) : Nat :=
  let x := s.carrier c
  let p2 : Int := 2 * (Nat.max 1 x.actPeriod : Int)
  ((((x.actPhase : Int) - x.phaseLeft) % p2 + p2) % p2).toNat

/-- A follower reaches its next CZ (or CP) before its leader reaches its own (R102): by the directions of the two and the phase. -/
def State.firstAt (s : State) (c : Nat) (cp : Bool) : Bool :=
  let ld := (s.leaderOf c).getD c
  let ph := s.phaseNow c
  let lu := s.countingUp ld != cp
  let fu := s.countingUp c != cp
  ld != c && ph != 0 && (if decide (ph ≤ (s.carrier ld).actPeriod) then lu && !fu else lu || !fu)

/-- The pending set governs the interval that the carrier's next load boundary opens (R91): the boundary is of the set's kind, and the
leader's comes no later. -/
def State.pendNext (s : State) (c : Nat) : Bool :=
  let x := s.carrier c
  x.takes && x.pendAtCp == s.nextIsCp c && (s.leaderOf c == some c || x.leaderTook || !s.firstAt c x.pendAtCp)

/-- The present CZ of a carrier in edge units from its leader's present CZ. -/
def State.zeroOffset (s : State) (c : Nat) : Int :=
  let ld := (s.leaderOf c).getD c
  if ld == c then 0
  else
    let back := if s.firstAt c false then (s.carrier ld).lens.headD (2 * (s.carrier ld).actPeriod) else 0
    ((s.phaseNow c : Int) - back) * (64 * s.unit c)

/-! ### Emission (R96, R146, R148) -/

/-- The length of the present period, given the peak of its down-ramp. -/
def State.periodLenOf (s : State) (c pd0 : Nat) : Nat := ((s.carrier c).peakUp + pd0) * 64 * s.unit c

/-- The UP links with a leg on carrier `c`, and the slot of the carrier on each. -/
def State.markLinks (s : State) (c : Nat) : List (Nat × Nat) :=
  ((List.range 16).filter (fun k => s.linkState k == linkUp && (s.linkSlots k).contains c)).map
    (fun k => (k, (s.linkSlots k).findIdx (fun d => d == c)))

/-- A length that has become final is sent twice with MOFF = 0xFFFF (R146), where it has not been sent: before EDGE frames with entries of
the next period (`first`), or under R149. -/
def State.sendLenOf (s : State) (c pd0 : Nat) (first : Bool) : State :=
  if (s.carrier c).lenSent || !s.running c then s
  else
    let tag := (s.rd (R.CB_PERCNT c)).toNat % 16
    let f := fun (x : Nat × Nat) => Frame.sync x.2 tag 0xFFFF (s.periodLenOf c pd0)
    let s := s.modCarrier c (fun x => { x with lenSent := true })
    s.each (s.markLinks c) (fun x t => if first then t.send x.1 [f x, f x] else t.sendLow x.1 [f x, f x])

/-- The interval that a carrier's next boundary opens is computed for each of its legs; the edges come with their times from the leader's
present CZ. -/
def State.computeCarrier (s : State) (c : Nat) (pend : Bool) : List (Int × Nat × Edge) × State :=
  let base := s.zeroOffset c
  let (all, s) := (s.carrierLegs c).foldl (fun (acc : List (Int × Nat × Edge) × State) l =>
    let (es, t) := acc.2.computeLeg c l pend
    (acc.1 ++ es.map (fun e => (base + e.1, l, e.2)), t)) ([], s)
  (all, s.modCarrier c (fun x => { x with emitted := true, computed := x.computed || pend }))

/-- The frames of an emission on link `k` that missed their lead, first to last (R148). -/
def tightOn (tight : List (Nat × Nat)) (k : Nat) : List Bool := (List.range 8).map (fun i => tight.contains (k, i))

/-- A set accepted on the down-ramp for the coming period's CP fixes that period's length, and its entries reach the period after it: the
length is sent before them (R146), with the PTAG of the coming period. -/
def State.sendLenAhead (s : State) (c : Nat) (pend : Bool) : State :=
  if (s.carrier c).lenAhead || !s.running c then s
  else
    let w := s.ramps c pend
    let f := fun (x : Nat × Nat) => Frame.sync x.2 (((s.rd (R.CB_PERCNT c)).toNat + 1) % 16) 0xFFFF ((w.pu1 + w.pd1) * 64 * s.unit c)
    let s := s.modCarrier c (fun x => { x with lenAhead := true })
    s.each (s.markLinks c) (fun x t => t.send x.1 [f x, f x])

/-- The lengths that must be on the wire before an emission's EDGE frames (R146): with LDSEL = CP an interval holds entries of two
periods. -/
def State.sendLens (s : State) (c : Nat) (pend : Bool) : State :=
  if s.fld (F.CB_CFG_LDSEL ((s.leaderOf c).getD c)) != 1 then s
  else if s.countingUp c then s.sendLenOf c (s.ramps c pend).pd0 true
  else (s.sendLenOf c (s.carrier c).peakDn true).sendLenAhead c pend

/-- Emit the intervals of carriers of one group, each from the pending set or from the active one. The edges of a link leave in EDGE frames
ordered by due time, leg and switch (R148), after the lengths that must precede them; other lengths and the frames held back follow on the
links of these carriers (R149). `tight` lists the frames, by link and place, that miss their lead. -/
def State.emitCarriers (s : State) (cs : List (Nat × Bool)) (tight : List (Nat × Nat)) : State :=
  let opens := (cs.filter (fun x => s.countingUp x.1 && s.nextIsCp x.1)).map (fun x => (x.1, (s.ramps x.1 x.2).pd0))
  let s := s.each cs (fun x t => t.sendLens x.1 x.2)
  let (all, s) := cs.foldl (fun (acc : List (Int × Nat × Edge) × State) x =>
    let (es, t) := acc.2.computeCarrier x.1 x.2
    (acc.1 ++ es, t)) ([], s)
  let s := s.each (List.range 16) (fun k t =>
    let es := sortBy (fun (x : Int × Nat × Edge) => x.1 * 8 + (x.2.1 % 3 * 2 + x.2.2.upper.toNat : Nat))
      (all.filter (fun x => legLinked x.2.1 && x.2.1 / 3 == k))
    if t.linkState k == linkUp && !es.isEmpty then
      State.sendEdges k (es.length / 12 + 1) (tightOn tight k) (es.map (fun x => (x.2.1 % 3, x.2.2))) (t.flushSync k)
    else t)
  let s := s.each cs (fun x t => t.flushCarrier x.1)
  s.each opens (fun x t => t.sendLenOf x.1 x.2 false)

/-- The edges of an accepted set are computed and emitted (R96), for the carriers whose next boundary takes it. `tight` lists the frames, by
link and place, that miss their lead (R148). -/
def execEdgeComputeDone (c : Fin 24) (tight : List (Fin 16 × Fin 8)) (s : State) : Out :=
  .next (if s.islandsRun && s.flag (F.CB_LOAD_PEND c) then
    s.emitCarriers (((s.groupCarriers c).filter (fun d => !(s.carrier d).computed && !(s.carrier d).emitted && s.pendNext d)).map
      (fun d => (d, true))) (tight.map (fun x => (x.1.val, x.2.val)))
  else s)

/-! ## MARK and SYNC (R146) -/

/-- The length of the present period is final: no load at CP can still change it. -/
def State.lenFinal (s : State) (c : Nat) : Bool :=
  !s.countingUp c || s.fld (F.CB_CFG_LDSEL ((s.leaderOf c).getD c)) == 0 ||
    s.fld (F.CB_CFG_LDSEL ((s.leaderOf c).getD c)) == 3

def State.periodLen (s : State) (c : Nat) : Nat := s.periodLenOf c (s.carrier c).peakDn

/-- At a CZ each UP link with a leg on the carrier sends MARK and SYNC twice; MOFF holds the measured departure time, free,
and DN. A length fixed by a set accepted before the CZ is final too. -/
def State.sendMarks (s : State) (c : Nat) : State :=
  let tag := (s.rd (R.CB_PERCNT c)).toNat % 16
  let ahead := (s.carrier c).lenAhead
  let len := if ahead then s.periodLenOf c (s.ramps c (s.pendNext c)).pd0 else if s.lenFinal c then s.periodLen c else 0
  let s := s.modCarrier c (fun x => { x with lenSent := len != 0, lenAhead := false })
  s.each (s.markLinks c) (fun x t =>
    let (v, t) := t.draw
    let moff := (t.fld (F.GL_DLY_DN x.1) + v % 768) % 65535
    (t.send x.1 [.mark x.2]).sendLow x.1 [.sync x.2 tag moff len, .sync x.2 tag moff len])

/-- The edges of a leg emitted before the coming CZ, its turn-off there not among them; an edge carried past the CZ (R89) is not one. -/
def State.keptEdges (s : State) (c l : Nat) : List Edge :=
  (s.sched l).edges.filter (fun e => e.ptag == (s.rd (R.CB_PERCNT c)).toNat % 16 && decide (e.offset < s.periodLen c))

/-- The commanded state of a switch of leg `l` at the coming CZ, by the edges that come before it. -/
def State.onAtZero (s : State) (c l : Nat) (upper : Bool) : Bool :=
  match ((s.keptEdges c l).filter (fun e => e.upper == upper)).getLast? with
  | some e => e.on
  | none => s.flag (if upper then F.ES_LEGSTAT_UP l else F.ES_LEGSTAT_LO l)

/-- A switch of leg `l` turns off at the coming CZ as an emitted edge. -/
def State.offAtZero (s : State) (c l : Nat) (upper : Bool) : Bool :=
  (s.sched l).edges.any (fun e => e.ptag == ((s.rd (R.CB_PERCNT c)).toNat + 1) % 16 && e.offset == 0 && e.upper == upper && !e.on)

/-- A leg whose disable awaits the coming CZ: at the load lead before it, its edges beyond it are dropped, and a switch that they leave on at
the CZ gets its turn-off there, where that is not emitted yet (R97). The edges dropped may already stand on a linked leg's wire (DEDUCED,
assumption log 25). -/
def State.cutLeg (s : State) (c l : Nat) : List (Int × Nat × Edge) × State :=
  let now := (s.rd (R.CB_PERCNT c)).toNat % 16
  let keep := s.keptEdges c l
  let off : Bool → List Edge := fun upper => if s.onAtZero c l upper then [⟨(now + 1) % 16, 0, upper, false⟩] else []
  let new : Bool → List Edge := fun upper => if s.offAtZero c l upper then [] else off upper
  ((new true ++ new false).map (fun e => (((s.periodLen c : Nat) : Int) + s.zeroOffset c, l, e)),
    s.modSched l (fun x => { x with
      edges := keep ++ off true ++ off false, past := keep ++ off true ++ off false
      planUp := false, planLo := false, nomOn := false }))

/-- The disables of a carrier's legs that wait for the coming CZ, at the load lead before it. -/
def State.cutCarrier (s : State) (c : Nat) (tight : List (Nat × Nat)) : State :=
  let legs := (s.carrierLegs c).filter (fun l => (s.sched l).disabling && s.legHeld l)
  let (all, s) := legs.foldl (fun (acc : List (Int × Nat × Edge) × State) l =>
    let (es, t) := acc.2.cutLeg c l
    (acc.1 ++ es, t)) ([], s)
  s.each (List.range 16) (fun k t =>
    let es := all.filter (fun x => legLinked x.2.1 && x.2.1 / 3 == k)
    if t.linkState k == linkUp then State.sendEdges k 1 (tightOn tight k) (es.map (fun x => (x.2.1 % 3, x.2.2))) t else t)

/-- A load deadline (R96): an interval for which no set was accepted is emitted from the active set; one whose set has not been emitted,
from that set. A deadline before a CP makes the present period's length final (R146); at the lead before a CZ the disables that wait for it
are settled (R97). What the links of the carrier held back for the deadline follows (R149). -/
def State.loadDeadline (s : State) (c : Nat) (tight : List (Nat × Nat)) : State :=
  let sel := s.fld (F.CB_CFG_LDSEL ((s.leaderOf c).getD c))
  let up := s.countingUp c
  let cut : State → State := fun t => if up then t else t.cutCarrier c tight
  if up && (sel == 0 || sel == 3) then s
  else if !up && sel == 1 then s.cutCarrier c tight
  else if (s.carrier c).emitted then (cut s).flushCarrier c
  else s.emitCarriers [(c, s.pendNext c)] tight

def execLoadDeadlineEmission (c : Fin 24) (tight : List (Fin 16 × Fin 8)) (s : State) : Out :=
  .next (if s.islandsRun && s.running c then s.loadDeadline c (tight.map (fun x => (x.1.val, x.2.val))) else s)

/-! ## A set takes effect (R91, R95, R98, R135) -/

/-- A leg starts whose awaited set has taken effect at a boundary that lets it (R98, R135). -/
def State.legStarts (s : State) (c l : Nat) : State :=
  if (s.sched l).awaitSet && (s.sched l).setTaken && s.clearReady l && !(s.carrier c).takes then
    s.modSched l (fun x => { x with awaitSet := false, setTaken := false })
  else s

/-- Cleared groups with legs on the carriers of leader `c` whose first set after the clear has taken effect, and whose leader has had a CZ
since the clear: STATE returns to 0 (R135), and the clear mask's action ends (R300). -/
def State.clearDone (s : State) (c : Nat) : State :=
  s.each (s.groupList.filter (fun n => s.gstate n == gsCleared && (s.group n).czAfterClear && (s.group n).clearSet &&
      !(s.carrier c).takes && (s.groupLegs n).any (fun l => s.leaderOf (s.fld (F.ES_LEGCFG_CB l)) == some c)))
    (fun n t => (t.put (F.SPW_GSTAT_STATE n) gsIdle).modGroup n (fun g => { g with maskClearOver := g.maskClear }))

/-- Carrier `c` takes the pending set at the boundary it has reached (R91). A PHASE difference is worked off as new less old, both modulo
2 PERIOD, and not the shorter way round (DESIGN CHOICE, assumption log 25). -/
def State.takeSet (s : State) (c : Nat) : State :=
  let x := s.carrier c
  let ld := (s.leaderOf c).getD c
  let diff : Int := ((x.pendPhase % (2 * Nat.max 1 x.pendPeriod) : Nat) : Int) -
    ((x.actPhase % (2 * Nat.max 1 x.pendPeriod) : Nat) : Int)
  let s := s.modCarrier c (fun x => { x with
    actPeriod := x.pendPeriod, takes := false,
    actPhase := if c == ld then x.actPhase else x.pendPhase,
    phaseLeft := if c == ld then 0 else x.phaseLeft + diff })
  let s := s.each (s.carrierLegs c) (fun l t =>
    let y := t.sched l
    let t := ((t.put (F.ES_ACTA_CMP l) y.pendA).put (F.ES_ACTB_CMP l) y.pendB).put (F.ES_ACTDT_DT l) y.pendDT
    t.legStarts c l)
  let s := if c == ld then
      (s.each (s.groupCarriers ld) (fun d t => t.modCarrier d (fun x => { x with leaderTook := true }))).clearDone ld
    else s
  s.syncPend ld

/-- The set is due at this boundary (`cp`: a CP). -/
def State.setDue (s : State) (c : Nat) (cp : Bool) : Bool :=
  let x := s.carrier c
  x.takes && x.pendAtCp == cp && (s.leaderOf c == some c || x.leaderTook)

/-! ## CZ and CP (R83, R84) -/

/-- The events of the present period pass to their users (R84). -/
def State.eventsPass (s : State) (c : Nat) : Bool :=
  (s.rd (R.CB_PERCNT c)).toNat % (s.fld (F.CB_CFG_EVPS c) + 1) == s.fld (F.CB_CFG_EVPH c)

/-- An event is the profile tick of the axes that select it (R213): of carrier `i` (`src` 1; `ev` 0 CZ, 1 CP) or of timer `i` (`src` 2). -/
def State.profileEvent (s : State) (src i ev : Nat) : State :=
  s.each (axisList.filter (fun n => s.flag F.PU_CTRL_EN && s.flag (F.PU_AXCFG_EN n) && s.fld (F.PU_AXCFG_TSRC n) == src &&
      s.fld (F.PU_AXCFG_TSEL n) == i && (src == 2 || s.fld (F.PU_AXCFG_TEVT n) == 2 || (s.fld (F.PU_AXCFG_TEVT n) == 1) == (ev == 1))))
    (fun n t => t.modProfile n (fun p => { p with arrived := p.arrived + 1 }))

/-- What a passed event of carrier `c` starts: tasks, ADC sequences, capture units and SSI reads. -/
def State.carrierStarts (s : State) (c ev : Nat) : List (Nat × Nat) :=
  s.carrierTasks c ev 0 ++ s.adcStarts 1 ev (fun sel => sel == c) ++ s.capStarts 3 (fun sel => sel == 4 * c + ev) ++ s.ssiStarts 1 c ev

/-- A carrier event passes to what it starts, to SENSE, to the profile unit and to the sample clocks: 0 CZ, 1 CP. -/
def State.passEvent (s : State) (c ev : Nat) : State :=
  if s.eventsPass c then
    (((s.sendStarts (s.carrierStarts c ev)).senseCarrierEvent c ev).profileEvent 1 c ev).sampleClock (fun n =>
      s.fld (F.BSN_SCFG_CSRC n) == 1 && s.fld (F.BSN_SCFG_CB n) == c &&
        (let k := s.fld (F.BSN_SCFG_CEVT n)
        k == 2 || (k == 1) == (ev == 1))) none
  else s

/-- The conduction of one switch over a period of `len` edge units, by its edges in order, from `on`: its time, its turn-ons and
turn-offs, its state at the end. -/
def conduct (len : Nat) : List Edge → Nat → Bool → Nat → Nat → Nat → Nat × Nat × Nat × Bool
  | [], t, on, sum, a, b => (if on then sum + (len - t) else sum, a, b, on)
  | e :: es, t, on, sum, a, b =>
    if on == e.on then conduct len es t on sum a b
    else if e.on then conduct len es e.offset true sum (a + 1) b
    else conduct len es e.offset false (sum + (e.offset - t)) a (b + 1)

/-- The period `ptag` of a leg has ended after `len` edge units (R201): what its edges made of it. An edge carried past the CZ (R89) falls
into the next period. -/
def State.legPeriod (s : State) (l ptag len : Nat) : State :=
  let x := s.sched l
  let mine := sortBy (fun (e : Edge) => (e.offset : Int)) (x.past.filter (fun e => e.ptag == ptag && decide (e.offset < len)))
  let (tu, au, bu, u) := conduct len (mine.filter (fun e => e.upper)) 0 x.wasUp 0 0 0
  let (tl, al, bl, o) := conduct len (mine.filter (fun e => !e.upper)) 0 x.wasLo 0 0 0
  let late := (x.past.filter (fun e => e.ptag == ptag && decide (len ≤ e.offset))).map (fun e =>
    { e with ptag := (ptag + 1) % 16, offset := e.offset - len })
  s.modSched l (fun x => { x with
    past := late ++ x.past.filter (fun e => e.ptag != ptag), wasUp := u, wasLo := o
    period := ⟨tu, tl, au, bu, al, bl, s.flag (F.ES_LEGSTAT_HELD l)⟩ })

/-- What is due at a CZ for a leg: its period's conduction is known (R201), a disable under way ends (R97), dropped turn-ons are over (R114), a bootstrap hold ends
(R119), and the plan counts from the new CZ. -/
def State.legAtZero (s : State) (len : Int) (late : Bool) (ptag l : Nat) : State :=
  let s := s.legPeriod l ((ptag + 15) % 16) len.toNat
  let s := s.modLeg l (fun x => { x with dropped := false })
  let s := s.modSched l (fun x => { x with upOnAt := x.upOnAt - len, loOnAt := x.loOnAt - len, lows := x.lows / 2 })
  let s := if (s.sched l).disabling && !late then s.endDisable l ptag else s
  s.bootstrapEnd l

/-- The first CZ of a leader after a clear (R135): what it lets start has waited for it. -/
def State.clearZero (s : State) (c : Nat) : State :=
  let s := s.each (s.groupList) (fun n t =>
    if t.gstate n == gsCleared && (t.groupLegs n).any (fun l => (t.leaderOf (t.fld (F.ES_LEGCFG_CB l))) == some c)
    then t.modGroup n (fun g => { g with czAfterClear := true }) else t)
  s.each (if s.leaderOf c == some c then s.cgLegs c else []) (fun l t => t.legStarts (t.fld (F.ES_LEGCFG_CB l)) l)

/-- A correction of a leader's period that begins may have changed E′: LOCK is 1 while |E′| ≤ 1 (R106). -/
def State.relock (s : State) (c : Nat) (corr : Int) : State :=
  if corr != 0 && s.leaderOf c == some c then s.putB (F.CB_SYNC_LOCK c) (decide ((s.carrier c).ePrime.natAbs ≤ 1)) else s

/-- The peaks and corrections of the period that a CZ begins (R83, R106). E′ falls by the corrections of periods that begin at or after the
CZ at which its E was measured. -/
def State.newPeriod (s : State) (c : Nat) (old : Carrier) : State :=
  let corr := old.nextCorr
  let p := (((s.carrier c).actPeriod : Int) + corr / 2).toNat
  let s := s.modCarrier c (fun x => { x with
    peakUp := p, peakDn := p, nextCorr := 0
    ePrime := if x.eSkip = 0 then x.ePrime - corr else x.ePrime, eSkip := x.eSkip - 1
    corrs := (corr :: x.corrs).take 18, lens := ((old.peakUp + old.peakDn) :: x.lens).take 18
    zeroAt := (x.zeroAt + (old.peakUp + old.peakDn) * s.countTicks c) % 2 ^ 64
    emitted := if s.fld (F.CB_CFG_LDSEL ((s.leaderOf c).getD c)) == 1 then x.emitted else false })
  let s := s.relock c corr
  let s := (s.wr (R.CB_PERCNT c) (s.rd (R.CB_PERCNT c) + 1)).put (F.CB_STAT_DIR c) 1
  (s.put (F.CB_STAT_CNT c) 0).put (F.CB_ACT_PEAK c) p

/-- What a CZ of carrier `c` does for a stepper axis that freezes: the load of its last activation has taken effect once no set waits
(R252), and out of profile mode it is the CZ of R255. -/
def State.freezeZero (s : State) (c : Nat) : State :=
  s.each (axisList.filter (fun n => (s.axis n).leader == c &&
      ((s.axis n).freeze == 3 || ((s.axis n).freeze == 2 && !(s.carrier c).takes))))
    (fun n t => t.modAxis n (fun x => { x with freeze := 4 }))

/-- A carrier at count 0 (R83): the disables that wait for it, the set that takes effect, the new period, what starts with it (followers,
R103; timers, R108), MARK and SYNC, and the event CZ. -/
def State.carrierZero (s : State) (c : Nat) (late : List Nat) : State :=
  let old := s.carrier c
  let oldLen : Int := (s.periodLen c : Nat)
  let s := s.each (s.carrierLegs c) (fun l t => t.legAtZero oldLen (late.contains l) (((s.rd (R.CB_PERCNT c)).toNat + 1) % 16) l)
  let s := if s.clk.vdrvBack then (s.put F.CLK_SUPMON_VDRVOFF 0).withClk { s.clk with vdrvBack := false } else s
  let s := s.clearZero c
  let s := if s.setDue c false then s.takeSet c else s
  let s := ((s.clearDone c).newPeriod c old).freezeZero c
  let s := s.each ((s.followers c).filter (fun d => (s.carrier d).startDue && s.flag (F.CB_CFG_EN d)))
    (fun d t => t.startFollower c d)
  let s := s.each ((List.range 8).filter (fun k =>
      s.flag (F.ES_ITMCFG_EN k) && s.flag (F.ES_ITMCFG_ALIGN k) && s.fld (F.ES_ITMCFG_CB k) == c && !(s.timer k).started))
    (fun k t => t.setTimer k ⟨true, Nat.max 200 ((t.rd (R.ES_ITMPER k)).toNat + 1)⟩)
  let s := s.sendMarks c
  s.passEvent c 0

/-- A carrier reaches count 0 (R83). `late` lists the legs whose disable came less than the load lead before this CZ: theirs waits for the
next one (R97). -/
def execCarrierZero (c : Fin 24) (late : List (Fin 72)) (s : State) : Out :=
  .next (if s.islandsRun && s.running c && !s.countingUp c then s.carrierZero c (late.map (fun l => l.val)) else s)

/-- SHLIM as a divisor (R106). -/
def shiftDivisor (f : Nat) : Nat := 2 ^ (8 - Nat.min 5 f)

/-- The largest even number not above 2 PERIOD SHLIM. -/
def State.shiftLimit (s : State) (c : Nat) : Nat :=
  let ld := (s.leaderOf c).getD c
  let l := 2 * (s.carrier ld).actPeriod / shiftDivisor (s.fld (F.CB_CFG_SHLIM ld))
  l - l % 2

/-- The even number nearest `e` within ±`l`; of two equally near the choice is open (assumption log 5). -/
def State.nearestEven (s : State) (e : Int) (l : Nat) : Int × State :=
  if e % 2 = 0 then (clampI (-(l : Int)) l e, s)
  else
    let (v, s) := s.draw
    (clampI (-(l : Int)) l (if v % 2 = 0 then e - 1 else e + 1), s)

/-- The correction of the next period is fixed at a CP (R104, R106): a leader follows its reference, a follower takes its
leader's correction and works off its phase. -/
def State.fixCorrection (s : State) (c : Nat) : State :=
  let ld := (s.leaderOf c).getD c
  let l := s.shiftLimit c
  if ld == c then
    let src := s.fld (F.CB_CFG_SYNSRC c)
    if (src == 1 || src == 2) && !s.flag (F.CB_SYNC_MISS c) then
      let (v, s) := s.nearestEven (s.carrier c).ePrime l
      s.modCarrier c (fun x => { x with nextCorr := v })
    else s.modCarrier c (fun x => { x with nextCorr := 0 })
  else
    let base := if s.countingUp ld then (s.carrier ld).corrs.headD 0 else (s.carrier ld).nextCorr
    let (v, s) := s.nearestEven (s.carrier c).phaseLeft l
    s.modCarrier c (fun x => { x with nextCorr := base + v, phaseLeft := x.phaseLeft - v })

/-- A carrier at its peak (R83): CP loads, a length that has become final, and the correction of the next period. -/
def State.carrierPeak (s : State) (c : Nat) : State :=
  let s := if s.setDue c true then
      let s := s.takeSet c
      s.modCarrier c (fun x => { x with peakDn := ((x.actPeriod : Int) + x.corrs.headD 0 / 2).toNat })
    else s
  let s := s.sendLenOf c (s.carrier c).peakDn false
  let s := (s.put (F.CB_STAT_DIR c) 0).put (F.CB_STAT_CNT c) (s.carrier c).peakDn
  let s := s.put (F.CB_ACT_PEAK c) (s.carrier c).peakDn
  let sel := s.fld (F.CB_CFG_LDSEL ((s.leaderOf c).getD c))
  let s := s.modCarrier c (fun x => { x with emitted := if sel == 1 || sel == 2 then false else x.emitted })
  let s := s.fixCorrection c
  s.passEvent c 1

def execCarrierPeak (c : Fin 24) (s : State) : Out :=
  .next (if s.islandsRun && s.running c && s.countingUp c then s.carrierPeak c else s)

/-- A leg's compare is crossed: CMPA on the up-ramp, CMPB on the down-ramp (R84). -/
def execLegCompareEvent (leg : Fin 72) (b : Bool) (s : State) : Out :=
  let c := s.fld (F.ES_LEGCFG_CB leg)
  .next (if s.islandsRun && decide (c < 24) && s.running c && s.countingUp c == !b && s.eventsPass c then
    s.sendStarts (s.carrierTasks c (if b then 3 else 2) leg)
  else s)

/-- The earliest scheduled edge of a leg falls due (R86, R111, R113). On a direct leg a turn-off acts and a turn-on enters the
Sluice; a linked leg's edge is carried out by its driver, and the commanded state follows it. -/
def execLegEdge (leg : Fin 72) (s : State) : Out :=
  .next (if s.islandsRun then
    match (s.sched leg).edges with
    | [] => s
    | e :: es =>
      let s := s.modSched leg (fun x => { x with edges := es })
      if !e.on then
        let s := s.switchOff leg e.upper
        s.modLeg leg (fun x => if e.upper then { x with waitUp := false } else { x with waitLo := false })
      else if legLinked leg then s.switchOn leg e.upper
      else if e.upper && (s.leg leg).bsuvHold then s
      else s.modLeg leg (fun x => if e.upper then { x with waitUp := true } else { x with waitLo := true })
  else s)

/-! ## Boundary correction (R105 to R107) -/

/-- The time in counts of the CZ `j` periods after the latest one (before it for negative `j`). -/
def State.zeroTime (s : State) (c : Nat) (j : Int) : Int :=
  let x := s.carrier c
  let p2 : Int := 2 * (x.actPeriod : Int)
  if j ≤ 0 then
    (List.range j.natAbs).foldl (fun t i => t - (x.lens.getD i (2 * x.actPeriod) : Int)) 0
  else ((x.peakUp + x.peakDn : Nat) : Int) + (j - 1) * p2 + (if j = 1 then 0 else x.nextCorr)

/-- The candidate CZs around `t` counts: those that begin a period whose count modulo RDIV + 1 is 0 (R105). -/
def State.syncCandidates (s : State) (c : Nat) (t : Int) : List Int :=
  let p2 : Int := 2 * (Nat.max 1 (s.carrier c).actPeriod : Int)
  let n : Int := (s.rd (R.CB_PERCNT c)).toNat
  let r : Int := s.fld (F.CB_SYNCCFG_RDIV c) + 1
  ((List.range 40).map (fun (i : Nat) => t / p2 + (i : Int) - 20)).filter (fun j => (n + j) % r == 0 && decide (0 ≤ n + j))

/-- A reference mark, a SYNC_IN edge or a mark that the grid has sent, reaches leader `c` (R105); `ticks` is the time of an edge of SYNC_IN
from the latest CZ in ticks, where a grid mark carries its due tick. A fraction of a count is rounded either way (assumption log 5). Of two CZs that make |E| equally small the earlier is taken (DESIGN CHOICE, assumption log 25). -/
def execSyncMark (c : Fin 24) (ticks : Int) (s : State) : Out :=
  let src := s.fld (F.CB_CFG_SYNSRC c)
  .next (if s.islandsRun && s.running c && s.leaderOf c == some c.val && (src == 1 || (src == 2 && !(s.carrier c).marks.isEmpty)) then
    let ticks := if src == 2 then (((s.carrier c).marks.headD 0 : Nat) : Int) - (s.carrier c).zeroAt else ticks
    let s := if src == 2 then s.modCarrier c (fun x => { x with marks := x.marks.tail }) else s
    let want := ticks + s.fld (F.CB_SYNCCFG_OFFSET c)
    let k : Int := s.countTicks c
    let (v, s) := if want % k = 0 then (0, s) else s.draw
    let t := want / k + (v % 2 : Nat)
    match s.syncCandidates c t with
    | [] => s
    | j :: js =>
      let err := fun i => t - s.zeroTime c i
      let best := js.foldl (fun b i => if (err i).natAbs < (err b).natAbs then i else b) j
      let e := err best
      let x := s.carrier c
      let done := if best ≤ 0 then ((x.corrs.take (best.natAbs + 1)).foldl (· + ·) 0) else 0
      let s := s.modCarrier c (fun x => { x with ePrime := e - done, eSkip := (best - 1).toNat })
      let s := (s.put (F.CB_SYNC_ERR c) (uns 20 e)).put (F.CB_SYNC_MISS c) 0
      let s := s.putB (F.CB_SYNC_LOCK c) (decide ((e - done).natAbs ≤ 1))
      let was := s.flag (F.CB_SYNC_BIG c)
      let s := s.putB (F.CB_SYNC_BIG c) (decide (x.actPeriod < e.natAbs))
      if !was && s.flag (F.CB_SYNC_BIG c) then s.carrierSource c else s
  else s)

/-- MISSN reference intervals pass without a mark (R107): the carrier runs uncorrected until the next mark. -/
def execSyncMiss (c : Fin 24) (s : State) : Out :=
  let src := s.fld (F.CB_CFG_SYNSRC c)
  .next (if s.islandsRun && s.running c && s.leaderOf c == some c.val && (src == 1 || src == 2) then
    (s.put (F.CB_SYNC_MISS c) 1).carrierSource c
  else s)

/-- CB.STAT.CLRCNT is written (R4). -/
def State.cbClrcnt (s : State) (c : Nat) : State :=
  ((s.put (F.CB_LOAD_LATE c) 0).put (F.CB_LOAD_OVLP c) 0).put (F.CB_LOAD_PART c) 0

def execCbClrcnt (c : Fin 24) (s : State) : Out := .next (if s.islandsRun then s.cbClrcnt c else s)

/-- Interval timer `k` raises its event (R108): it starts tasks (R65), ADC sequences (R171) and SSI reads (R182) and ticks axes (R213); a new ITMPER takes effect. -/
def execIntervalTimerEvent (k : Fin 8) (s : State) : Out :=
  .next (if s.islandsRun && s.flag (F.ES_ITMCFG_EN k) && (s.timer k).started then
    let s := s.setTimer k ⟨true, Nat.max 200 ((s.rd (R.ES_ITMPER k)).toNat + 1)⟩
    let s := s.sendStarts (s.taskStarts 3 (fun sel => sel % 8 == k.val) ++ s.adcStarts 2 0 (fun sel => sel == k.val) ++ s.ssiStarts 2 k 0)
    s.profileEvent 2 k 0
  else s)

end Sys2Proof.Machine
end

