-- ==== Sys2Proof/Machine/Basin.lean ====
section
/-!
DEFINITION. The Basin's probes, capture sets and export, and the Cascade (spec/13).
-/

namespace Sys2Proof.Machine

def basinBase : Nat := 0x20000000
def basinSize : Nat := 0x200000

def csIdle : Nat := 0
def csFilling : Nat := 1
def csWaiting : Nat := 2
def csPost : Nat := 3
def csDone : Nat := 4

/-- The probe number of channel `c` of a set (BSN.SCH). -/
def State.capProbe (s : State) (n c : Nat) : Nat := s.fld ⟨R.BSN_SCH n (c / 4), 8 * (c % 4), 6⟩

def State.capChans (s : State) (n : Nat) : List Nat := List.range (s.fld (F.BSN_SCFG_NCH n) + 1)

/-- Bytes of a record: one word a channel, two when reduced (R316). -/
def recBytes (nch redn : Nat) : Nat := 4 * (nch + 1) * (if redn == 0 then 1 else 2)

def State.capBytes (s : State) (n : Nat) : Nat := recBytes (s.fld (F.BSN_SCFG_NCH n)) (s.fld (F.BSN_SCFG_REDN n))

/-- What a probe reads (R314): its latch; 0 where it is disabled, of an undefined type, or does not exist. -/
def State.probe (s : State) (p : Nat) : Word :=
  let t := s.fld (F.BSN_PRB_TYPE p)
  if decide (p < 48) && s.flag (F.BSN_PRB_EN p) && decide (1 ≤ t ∧ t ≤ 8) then SMap.get (fun _ => 0) s.latches p else 0

/-- A source's new value reaches the latch of a probe. -/
def execProbePush (p : Fin 48) (v : Word) (s : State) : Out := .next (if s.islandsRun then s.latch p v else s)

/-! ## The counts of R327 -/

/-- A failed equality sets SQUE.INVERR and EV_135. -/
def State.capCheck (s : State) (n : Nat) : State :=
  let total := s.fld (F.BSN_SPRE_PRE n) + (s.cap n).post
  let ok := (s.rd (R.BSN_SREC n)).toNat == ((s.rd (R.BSN_SWR n)).toNat + s.fld (F.BSN_SQUE_QUE n)) % 2 ^ 32 &&
    (s.capState n != csDone || total ==
      (s.rd (R.BSN_SEXP n)).toNat + (s.rd (R.BSN_SLEFT n)).toNat + (s.rd (R.BSN_SDISC n)).toNat)
  if ok || s.flag (F.BSN_SQUE_INVERR n) then s else (s.put (F.BSN_SQUE_INVERR n) 1).assertEv 135

/-- CLAMP or CFGIGN set (R336). -/
def State.acqNotice (s : State) (f : Fld) : State := (s.put f 1).assertEv 184

/-! ## Arming (R318, R324) -/

/-- Every staged buffer of a set becomes Free (R326). -/
def State.freeStaged (s : State) (n : Nat) : State :=
  let s := s.each ((s.cap n).staged.map (fun x => x.1)) (fun b t => t.setOwner b 0)
  s.modCap n (fun x => { x with staged := [], fill := 0 })

/-- To Idle; in Done the records not yet exported are discarded. -/
def State.disarm (s : State) (n : Nat) : State :=
  let s := if s.capState n == csDone then
      let left := s.fld (F.BSN_SLEFT_CNT n)
      (s.put (F.BSN_SDISC_CNT n) (s.fld (F.BSN_SDISC_CNT n) + left)).put (F.BSN_SLEFT_CNT n) 0
    else s
  let s := (s.freeStaged n).put (F.BSN_SSTAT_STATE n) csIdle
  s.modCap n (fun x => { x with samples := [], acc := [], accN := 0, trig := 0, casc := 0, clock := 0, due := [] })

/-- ARM: from Idle or Done; a LEN below 2 or a PRE not below LEN refuses it. -/
def State.arm (s : State) (n : Nat) : State :=
  let len := s.fld (F.BSN_SLEN_LEN n)
  let pre := s.fld (F.BSN_SPRE_PRE n)
  let post := s.fld (F.BSN_SPOST_POST n)
  if s.capArmed n then s.acqNotice (F.BSN_SSTAT_CFGIGN n)
  else if decide (len < 2) || decide (len ≤ pre) then (s.disarm n).acqNotice (F.BSN_SSTAT_CFGIGN n)
  else
    let s := s.freeStaged n
    let s := ((s.put (F.BSN_SREC_CNT n) 0).put (F.BSN_SWR_CNT n) 0).put (F.BSN_SQUE_QUE n) 0
    let s := ((s.put (F.BSN_SEXP_CNT n) 0).put (F.BSN_SLEFT_CNT n) 0).put (F.BSN_SDISC_CNT n) 0
    let s := ((s.put (F.BSN_SSTAT_WRAP n) 0).put (F.BSN_SSTAT_CAUSE n) 0).put (F.BSN_SSTAT_COINC n) 0
    let s := s.put (F.BSN_SSTAT_CASC n) 0
    let s := s.modCap n (fun x => { CapSet.reset with post := Nat.min post (len - pre), left := x.left ++ x.queue })
    let s := s.put (F.BSN_SSTAT_STATE n) (if pre == 0 then csWaiting else csFilling)
    if decide (len - pre < post) then s.acqNotice (F.BSN_SSTAT_CLAMP n) else s

/-- A command trigger: it meets the conditions of KIND 0b10 in the next sample (R320, R321). -/
def State.commandTrig (s : State) (n : Nat) : State :=
  s.modCap n (fun x => { x with trig := x.trig ||| s.setConds n 2 (fun _ => true) })

/-! ## Samples, records and the trigger (R315 to R323) -/

/-- The probe-edge conditions on a sample (R320): conditions armed for a rise, for a fall, and met. -/
def State.edgeConds (s : State) (n : Nat) : Nat × Nat × Nat :=
  (List.range 4).foldl (fun (x : Nat × Nat × Nat) j =>
    if !s.flag (F.BSN_TCND_EN n j) || s.fld (F.BSN_TCND_KIND n j) != 0 then x
    else
      let e := s.fld (F.BSN_TCND_EDGE n j)
      let w := sgn 32 (s.probe (s.fld (F.BSN_TCND_SRC n j))).toNat
      let lvl := sgn 32 (s.fld (F.BSN_TLVL_LEVEL n j))
      let h : Int := s.fld (F.BSN_TCND_HYS n j) * 256
      let r := e.testBit 0
      let f := e.testBit 1
      let up := r && decide (lvl ≤ w) && x.1.testBit j
      let dn := f && decide (w ≤ lvl) && x.2.1.testBit j
      let ra := if r && decide (w < lvl - h) then true else if up then false else x.1.testBit j
      let fa := if f && decide (lvl + h < w) then true else if dn then false else x.2.1.testBit j
      let up := up && !decide (w < lvl - h)
      let dn := dn && !decide (lvl + h < w)
      (putBit x.1 j ra, putBit x.2.1 j fa, putBit x.2.2 j (up || dn))) ((s.cap n).ra, (s.cap n).fa, 0)

/-- The lesser and the greater of two words as signed numbers (R316). -/
def minWord (a b : Word) : Word := if sgn 32 a.toNat ≤ sgn 32 b.toNat then a else b
def maxWord (a b : Word) : Word := if sgn 32 a.toNat ≤ sgn 32 b.toNat then b else a

/-- The index after the last record of a triggered capture: the trigger record is one of it whatever the effective post-trigger count
(R322). -/
def CapSet.endAt (x : CapSet) : Nat := x.trigAt + Nat.max 1 x.post

/-- Records written since ARM. -/
def CapSet.written (x : CapSet) : Nat := x.formed - x.queue.length

/-- The capture is complete: every record of it is written (R322). -/
def State.capDone (s : State) (n : Nat) : State :=
  if s.capState n == csPost && decide ((s.cap n).endAt ≤ (s.cap n).written) then
    let s := s.put (F.BSN_SLEFT_CNT n) (s.fld (F.BSN_SPRE_PRE n) + (s.cap n).post)
    (s.put (F.BSN_SSTAT_STATE n) csDone).capCheck n
  else s

def State.putRecord (s : State) (r : BasinRec) : State := s.wrBytes r.addr (r.words.flatMap (fun w => leBytes 4 w.toNat))

/-- The oldest queued record is written to its slot (R317, R318, R322); one that an earlier arming left comes first and is not counted. -/
def State.writeRecord (s : State) (n : Nat) : State :=
  match (s.cap n).left, (s.cap n).queue with
  | r :: rs, _ => (s.modCap n (fun x => { x with left := rs })).putRecord r
  | [], [] => s
  | [], r :: rs =>
    let s := (s.modCap n (fun x => { x with queue := rs })).putRecord r
    let s := s.put (F.BSN_SWR_CNT n) (s.fld (F.BSN_SWR_CNT n) + 1)
    let s := (s.put (F.BSN_SQUE_QUE n) (s.fld (F.BSN_SQUE_QUE n) - 1)).capCheck n
    let s := if s.capArmed n && decide (s.fld (F.BSN_SLEN_LEN n) ≤ r.index) then s.put (F.BSN_SSTAT_WRAP n) 1 else s
    let s := if s.capState n == csFilling && decide (s.fld (F.BSN_SPRE_PRE n) ≤ (s.cap n).written)
      then s.put (F.BSN_SSTAT_STATE n) csWaiting else s
    s.capDone n

/-- A record is formed and queued (R316, R317): record i since ARM, whose slot goes by that count. At most 64 wait: the oldest is written
before a 65th is queued. -/
def State.formRecord (s : State) (n : Nat) : State :=
  let s := if decide (64 ≤ (s.cap n).left.length + (s.cap n).queue.length) then s.writeRecord n else s
  let x := s.cap n
  let i := x.formed
  let words := if s.fld (F.BSN_SCFG_REDN n) == 0 then x.acc.map (fun w => w.1) else x.acc.flatMap (fun w => [w.1, w.2])
  let addr := basinBase + 64 * s.fld (F.BSN_SBASE_BASE n) + (i % s.fld (F.BSN_SLEN_LEN n)) * s.capBytes n
  let s := s.modCap n (fun x => { x with formed := i + 1, queue := x.queue ++ [⟨i, addr, words⟩], acc := [], accN := 0 })
  let s := s.put (F.BSN_SREC_CNT n) (s.fld (F.BSN_SREC_CNT n) + 1)
  (s.put (F.BSN_SQUE_QUE n) (s.fld (F.BSN_SQUE_QUE n) + 1)).capCheck n

/-- The set still takes samples: armed, clocked, and in Post short of its last record. -/
def State.capSamples (s : State) (n : Nat) : Bool :=
  s.capArmed n && s.fld (F.BSN_SCFG_CSRC n) != 0 &&
    !(s.capState n == csPost && decide ((s.cap n).endAt ≤ (s.cap n).formed))

/-- A capture set takes a sample (R316, R320, R321). -/
def State.capSample (s : State) (n ns : Nat) : State :=
  if s.capSamples n then
    let words := (s.capChans n).map (fun c => s.probe (s.capProbe n c))
    let (ra, fa, met) := s.edgeConds n
    let x := s.cap n
    let first := x.accN == 0
    let recNs := if first then ns else x.accNs
    let acc := if first then words.map (fun w => (w, w))
      else (x.acc.zip words).map (fun y => (minWord y.1.1 y.2, maxWord y.1.2 y.2))
    let entry : SampleMet :=
      ⟨met ||| x.trig, x.casc, x.formed, recNs, ns, s.capState n == csFilling⟩
    let s := s.modCap n (fun x => { x with
      ra := ra, fa := fa, trig := 0, casc := 0, acc := acc, accN := x.accN + 1, accNs := recNs
      samples := x.samples ++ [entry] })
    if decide (s.fld (F.BSN_SCFG_REDN n) < (s.cap n).accN) then s.formRecord n else s
  else s

/-- A sample instant of a capture set (R315): one that a carrier event or a grid mark has made due, that of a mark at its due tick, or one
of the tick clock. -/
def execBasinSample (n : Fin 4) (adv : Nat) (s : State) : Out :=
  .next (if !s.islandsRun then s
  else if s.fld (F.BSN_SCFG_CSRC n) == 3 then let s := s.runOn adv; s.capSample n (s.nsAt 0)
  else match (s.cap n).due with
    | [] => s.runOn adv
    | d :: ds =>
      let s := (s.runOn (Nat.max adv ((d.getD 0) - s.tuCnt))).modCap n (fun x => { x with due := ds })
      let since := match d with | some d => s.tuCnt - d | none => 0
      s.capSample n (s.nsAt (openRound ((since * s.tuRate : Nat) : Int) (2 ^ 16)).toNat))

def execBasinRecordWrite (n : Fin 4) (s : State) : Out := .next (if s.clocked then s.writeRecord n else s)

/-- The trigger is decided 100 ns after a sample (R322, R323). -/
def execTriggerDecision (n : Fin 4) (s : State) : Out :=
  .next (if !s.islandsRun then s
  else match (s.cap n).samples with
    | [] => s
    | e :: es =>
      let s := s.modCap n (fun x => { x with samples := es })
      if s.capState n == csWaiting && !e.filling && e.met != 0 && decide (s.fld (F.BSN_SPRE_PRE n) ≤ e.index) then
        let s := s.modCap n (fun x => { x with trigAt := e.index })
        let s := s.put (F.BSN_STRIG_SLOT n) (e.index % s.fld (F.BSN_SLEN_LEN n))
        let s := (s.put (F.BSN_STSL_NS n) e.recNs).put (F.BSN_STSH_NS n) (e.recNs / 2 ^ 32)
        let s := s.put (F.BSN_SSTAT_CAUSE n) ((bitsOf 4 e.met).headD 0)
        let s := (s.put (F.BSN_SSTAT_COINC n) e.met).putB (F.BSN_SSTAT_CASC n) ((e.casc &&& e.met) != 0)
        let s := (s.put (F.BSN_SSTAT_STATE n) csPost).assertEv (224 + n.val)
        s.capDone n
      else s)

/-! ## Export (R325, R326) -/

/-- Records of a capture, and the bytes of its stream. -/
def State.capRecords (s : State) (n : Nat) : Nat := s.fld (F.BSN_SPRE_PRE n) + (s.cap n).post

def State.streamLen (s : State) (n : Nat) : Nat := 64 + s.capRecords n * s.capBytes n

/-- The nominal record interval in ns; 0 for carrier clocks. -/
def State.capInterval (s : State) (n : Nat) : Nat :=
  let d := s.fld (F.BSN_SDIV_DIV n)
  let k := s.fld (F.BSN_SCFG_REDN n) + 1
  if s.fld (F.BSN_SCFG_CSRC n) == 2 then clampN 1000 1000000000 (s.rd R.TU_GRIDPER).toNat * (d + 1) * k
  else if s.fld (F.BSN_SCFG_CSRC n) == 3 then 5 * (Nat.max d 199 + 1) * k else 0

def State.streamHeader (s : State) (n : Nat) : List Byte :=
  leBytes 2 0x8A51 ++ [BitVec.ofNat 8 n, BitVec.ofNat 8 (s.fld (F.BSN_SCFG_NCH n)), BitVec.ofNat 8 (s.fld (F.BSN_SCFG_REDN n)),
    BitVec.ofNat 8 (s.fld (F.BSN_SSTAT_CAUSE n) + 16 * s.fld (F.BSN_SSTAT_COINC n)),
    BitVec.ofNat 8 (s.fld (F.BSN_SSTAT_CLAMP n) + 2 * s.fld (F.BSN_SSTAT_CASC n)), 0] ++
    leBytes 4 (s.fld (F.BSN_SPRE_PRE n)) ++ leBytes 4 (s.cap n).post ++
    s.reg4 (R.BSN_STSL n) ++ s.reg4 (R.BSN_STSH n) ++ leBytes 4 (s.capInterval n) ++ leBytes 4 0 ++
    (List.range 32).map (fun c => BitVec.ofNat 8 (s.capProbe n c))

/-- Byte `i` of the stream: the header, then the records oldest first. -/
def State.streamByte (s : State) (n i : Nat) : Byte :=
  if i < 64 then (s.streamHeader n).getD i 0
  else
    let b := s.capBytes n
    let len := s.fld (F.BSN_SLEN_LEN n)
    let r := (s.fld (F.BSN_STRIG_SLOT n) + len - s.fld (F.BSN_SPRE_PRE n) % Nat.max 1 len + (i - 64) / b) % Nat.max 1 len
    s.rd8 (basinBase + 64 * s.fld (F.BSN_SBASE_BASE n) + r * b + (i - 64) % b)

/-- The export engine fills a buffer with the next piece of the stream; without a buffer it waits. -/
def execExportBufferFill (n : Fin 4) (s : State) : Out :=
  .next (let x := s.cap n
  let left := s.streamLen n - x.fill
  if !s.clocked || s.capState n != csDone || left == 0 || decide (8 ≤ x.staged.length) then s
  else match s.alloc (0x50 + n.val) with
    | none => s
    | some (b, t) =>
      let k := Nat.min 256 left
      let t := t.sharedAccess (fun t => t.wrBytes (bufBase b) ((List.range k).map (fun i => s.streamByte n (x.fill + i))))
      t.modCap n (fun x => { x with fill := x.fill + k, staged := x.staged ++ [(b, x.fill, k)] }))

/-! ## The acquisition commands (R337, R338) -/

/-- The capture modes of R337. -/
def State.captureMode (s : State) : Bool := s.inModes [2, 4, 5, 6, 7, 8, 9, 10]

/-- A set that is not Idle names probe `p` in its channels or conditions (R319). -/
def State.probeInUse (s : State) (p : Nat) : Bool :=
  [0, 1, 2, 3].any (fun n => s.capState n != csIdle &&
    ((s.capChans n).any (fun c => s.capProbe n c == p) ||
      (List.range 4).any (fun j => s.flag (F.BSN_TCND_EN n j) && s.fld (F.BSN_TCND_KIND n j) == 0 &&
        s.fld (F.BSN_TCND_SRC n j) == p)))

/-- Instances of a probe type (R314). -/
def probeCount (t : Nat) : Nat :=
  if t == 1 || t == 2 then 48 else if t == 3 then 64 else if t == 4 then 12 else if t == 5 || t == 6 then 4
  else if t == 7 || t == 8 then 16 else 0

def execAcqProbe (c : HostCmd) (s : State) : Out :=
  .next (s.hostCmd 0x30 c (fun s =>
    let p := arg c 0 1
    let v := arg c 1 4
    let t := v / 2 ^ 27 % 16
    if !s.captureMode then refuseMode s
    else if decide (p < 48) && s.probeInUse p then refuse stState s
    else if decide (47 < p) || v % 2 ^ 17 != 0 || decide (8 < t) ||
        (t != 0 && decide (probeCount t ≤ v / 2 ^ 21 % 64)) then refuse stRange s
    else okReply (s.wr (R.BSN_PRB p) (BitVec.ofNat 32 v))))

/-- The shortest half-period of a carrier in ticks: its leader's PERIOD less half of the corrections that R106 allows, those of the leader's
reference and of a follower's phase. -/
def State.leastHalf (s : State) (c : Nat) : Nat :=
  let ld := (s.leaderOf c).getD c
  let l := 2 * s.fld (F.CB_PERIOD_PERIOD ld) / shiftDivisor (s.fld (F.CB_CFG_SHLIM ld))
  let l := l - l % 2
  let src := s.fld (F.CB_CFG_SYNSRC ld)
  let corr := (if src == 1 || src == 2 then l else 0) + (if ld == c then 0 else l)
  (s.fld (F.CB_PERIOD_PERIOD ld) - corr / 2) * s.countTicks c

/-- The ticks between two sample instants are at least 200, 1 µs (R315), for a carrier whose events pass in every Nth period (R84). -/
def State.clockOk (s : State) (scfg sdiv : Nat) : Bool :=
  let src := scfg / 2 ^ 14 % 4
  let cb := scfg / 2 ^ 9 % 32
  let d := sdiv % 2 ^ 20 + 1
  if src == 1 then
    let n := s.fld (F.CB_CFG_EVPS cb) + 1
    let halves := if scfg / 2 ^ 7 % 4 == 2 then d / 2 * 2 * n + d % 2 else d * 2 * n
    decide (cb < 24) && decide (200 ≤ s.leastHalf cb * halves)
  else true

/-- The Basin region of a set: first byte and the byte after the last. -/
def State.capRegion (s : State) (n : Nat) : Nat × Nat :=
  let b := 64 * s.fld (F.BSN_SBASE_BASE n)
  (b, b + s.fld (F.BSN_SLEN_LEN n) * s.capBytes n)

/-- ACQ_SET_CFG. A probe number that BSN.SCH cannot hold is stored as 63, which gives 0 like every number above 47 (R316; DESIGN CHOICE,
assumption log 33). -/
def execAcqSetCfg (c : HostCmd) (s : State) : Out :=
  .next (s.hostCmd 0x31 c (fun s =>
    let n := arg c 0 1
    let scfg := arg c 1 4
    let sdiv := arg c 5 4
    let base := arg c 9 2
    let len := arg c 11 3
    let pre := arg c 14 3
    let post := arg c 17 3
    let lo := 64 * base
    let hi := lo + len * recBytes (scfg / 2 ^ 27) (scfg / 2 ^ 16 % 256)
    let clash := [0, 1, 2, 3].any (fun m => m != n &&
      decide (lo < (s.capRegion m).2) && decide ((s.capRegion m).1 < hi))
    if !s.captureMode then refuseMode s
    else if decide (n < 4) && s.capState n != csIdle then refuse stState s
    else if decide (3 < n) || decide (2 ^ 15 ≤ base) || decide (2 ^ 20 ≤ len) || decide (len ≤ pre) ||
        decide (len - pre < post) || !s.clockOk scfg sdiv || decide (basinSize < hi) || clash then refuse stRange s
    else
      let s := (s.wr (R.BSN_SCFG n) (BitVec.ofNat 32 (scfg - scfg % 128 - (scfg / 2 ^ 24 % 8) * 2 ^ 24))).wr
        (R.BSN_SDIV n) (BitVec.ofNat 32 sdiv)
      let s := (s.put (F.BSN_SBASE_BASE n) base).put (F.BSN_SLEN_LEN n) len
      let s := (s.put (F.BSN_SPRE_PRE n) pre).put (F.BSN_SPOST_POST n) post
      okReply (s.each (List.range 32) (fun i t => t.put ⟨R.BSN_SCH n (i / 4), 8 * (i % 4), 6⟩ (Nat.min 63 (arg c (20 + i) 1))))))

def execAcqTrigCfg (c : HostCmd) (s : State) : Out :=
  .next (s.hostCmd 0x32 c (fun s =>
    let n := arg c 0 1
    let bad := (List.range 4).any (fun j =>
      let v := arg c (1 + 8 * j) 4
      let kind := v / 2 ^ 29 % 4
      let src := v / 2 ^ 21 % 64
      (kind == 0 && decide (47 < src)) || (kind == 1 && decide (31 < src)))
    if !s.captureMode then refuseMode s
    else if decide (n < 4) && s.capState n != csIdle then refuse stState s
    else if decide (3 < n) || bad then refuse stRange s
    else okReply (s.each (List.range 4) (fun j t =>
      (t.wr (R.BSN_TCND n j) (BitVec.ofNat 32 (arg c (1 + 8 * j) 4))).wr (R.BSN_TLVL n j)
        (BitVec.ofNat 32 (arg c (5 + 8 * j) 4))))))

/-- The sets of a mask. -/
def setsOf (m : Nat) : List Nat := bitsOf 4 m

def execAcqArm (c : HostCmd) (s : State) : Out :=
  .next (s.hostCmd 0x33 c (fun s =>
    let m := arg c 0 1
    if !s.captureMode then refuseMode s
    else if (setsOf m).any (fun n => s.capArmed n || s.fld (F.BSN_SCFG_CSRC n) == 0) then refuse stState s
    else if decide (15 < m) ||
        (setsOf m).any (fun n => decide (s.fld (F.BSN_SLEN_LEN n) < s.fld (F.BSN_SPRE_PRE n) + s.fld (F.BSN_SPOST_POST n)))
      then refuse stRange s
    else okReply (s.each (setsOf m) (fun n t => t.arm n))))

def execAcqDisarm (c : HostCmd) (s : State) : Out :=
  .next (s.hostCmd 0x34 c (fun s =>
    if !s.captureMode then refuseMode s
    else okReply (s.each (setsOf (arg c 0 1)) (fun n t => t.disarm n))))

def execAcqTrigger (c : HostCmd) (s : State) : Out :=
  .next (s.hostCmd 0x35 c (fun s =>
    let l := setsOf (arg c 0 1)
    if !s.captureMode then refuseMode s
    else if l.any (fun n => s.capState n != csWaiting) then refuse stState s
    else okReply (s.each l (fun n t => t.commandTrig n))))

def execAcqStatus (c : HostCmd) (s : State) : Out :=
  .next (s.hostCmd 0x36 c (fun s =>
    let n := arg c 0 1
    if !s.captureMode then refuseMode s
    else if decide (3 < n) then refuse stRange s
    else okResult (s.reg4 (R.BSN_SSTAT n) ++ s.reg4 (R.BSN_STRIG n) ++ s.reg4 (R.BSN_STSL n) ++ s.reg4 (R.BSN_STSH n) ++
      s.reg4 (R.BSN_SREC n) ++ s.reg4 (R.BSN_SWR n) ++ s.reg4 (R.BSN_SEXP n) ++ s.reg4 (R.BSN_SLEFT n) ++
      s.reg4 (R.BSN_SDISC n) ++ s.reg4 (R.BSN_SQUE n)) s))

/-- Pass staged buffers of a set to the host: all of them, or none. -/
def State.passBufs (s : State) (k src : Nat) (bs : List Nat) : Option State :=
  let moved := bs.foldl (fun (t : Option State) b => t.bind (fun t =>
    (t.transfer b src (0x20 + k)).bind (fun t => t.transfer b (0x20 + k) (0x10 + k)))) (some s)
  moved.bind (fun t => (t.mapAll bs).map (fun x => x.2))

/-- ACQ_READ (R326): up to four staged buffers, the stream offset, and the last one's length, bit 31 set at the end. -/
def execAcqRead (c : HostCmd) (s : State) : Out :=
  .next (s.hostCmd 0x37 c (fun s =>
    let n := arg c 0 1
    let k := c.ch.val
    if !s.captureMode then refuseMode s
    else if decide (3 < n) then refuse stRange s
    else if s.capState n != csDone then refuse stState s
    else
      let out := (s.cap n).staged.take 4
      match out.getLast?, s.passBufs k (0x50 + n) (out.map (fun x => x.1)) with
      | some (_, off, len), some t =>
        let t := t.modCap n (fun x => { x with staged := x.staged.drop 4 })
        let last := off + len == t.streamLen n
        let exported := (off + len - 64) / t.capBytes n
        let t := (t.put (F.BSN_SEXP_CNT n) exported).put (F.BSN_SLEFT_CNT n) (t.capRecords n - exported)
        let first := (out.headD (0, 0, 0)).2.1
        ({ status := stOk, bufs := out.map (fun x => x.1)
           result := leBytes 4 first ++ leBytes 4 (putBit len 31 last) }, t.capCheck n)
      | _, _ => ({ status := stBusy, detail := 0x09 }, s)))

/-! ## The Cascade (R329 to R333) -/

def State.cascOn (s : State) : Bool := s.islandsRun && s.flag F.BSN_CCFG_EN

/-- A rising SYNC_CLK edge (R330 to R332): `near` tells that it lies within ±5 ns of its expected time, `low` the level of
TRIG_IO 50 ns after the compensated edge. -/
def execSyncClkEdge (near low : Bool) (s : State) : Out :=
  .next (if s.cascOn then
    let x := s.casc
    let run := if near then Nat.min 16 (x.run + 1) else 0
    let s := if decide (16 ≤ run) then s.put F.BSN_CSTAT_LOCK 1 else s
    let start := x.launch && s.flag F.BSN_CSTAT_LOCK
    let s := if start then s.incMod F.BSN_CSTAT_TXCNT else s
    s.withCasc { x with
      run := run
      launch := x.launch && !start
      drive := if start then 3 else x.drive - 1
      highs := if low then x.highs else if x.lows == 0 then Nat.min 2 (x.highs + 1) else 1
      lows := if low then x.lows + 1 else 0 }
  else s)

/-- No SYNC_CLK edge for 300 ns (R330). -/
def execSyncClkLoss (s : State) : Out :=
  .next (if s.cascOn then
    let s := s.withCasc { s.casc with run := 0, launch := false }
    ((s.put F.BSN_CSTAT_LOCK 0).put F.BSN_CSTAT_CLKLOSS 1).assertEv 186
  else s)

/-- A pulse of line INLINE requests a launch (R331); with TRIG_IO low, or released for fewer than two periods, the pulse on the
line serves it. -/
def execCascadeLaunch (s : State) : Out :=
  .next (if s.islandsRun && s.startNext 3 0 then
    let s := s.takeStart 3 0
    if s.flag F.BSN_CCFG_EN && s.flag F.BSN_CSTAT_LOCK && s.casc.lows == 0 && decide (2 ≤ s.casc.highs)
    then s.withCasc { s.casc with launch := true } else s
  else s)

/-- A pulse that carries the Cascade instant `t` (R321, R332): it meets a line condition in the first sample at or after
`t`, and starts what any pulse of its line starts. -/
def State.cascPulse (s : State) (line t : Nat) : State :=
  let s := (s.withWeir { s.weir with lines := 2 ^ line }).sendStarts (s.lineStarts (2 ^ line))
  s.each [0, 1, 2, 3] (fun n u =>
    let m := u.setConds n 1 (fun i => i == line)
    let late := (u.cap n).samples.any (fun e => decide (t ≤ e.ns))
    u.modCap n (fun x =>
      if late then
        let i := x.samples.findIdx (fun e => decide (t ≤ e.ns))
        { x with samples := x.samples.modify i (fun e => { e with met := e.met ||| m, casc := e.casc ||| m }) }
      else { x with trig := x.trig ||| m, casc := x.casc ||| m }))

/-- A ping starts (R333): its first round drives TRIG_IO low for one period. -/
def State.pingStart (s : State) (w : Option (Fin 16)) : State :=
  (s.withCasc { s.casc with rtts := [], waiter := w, drive := 1 }).put F.BSN_CSTAT_PINGBUSY 1

/-- A ping ends: its waiting command is answered. -/
def State.pingEnd (s : State) (r : Reply) (ok : Bool) : State :=
  let w := s.casc.waiter
  let s := (s.withCasc { s.casc with rtts := [], waiter := none }).put F.BSN_CSTAT_PINGBUSY 0
  let s := s.putB F.BSN_CSTAT_PINGERR (!ok)
  let s := if ok then s else s.assertEv 185
  match w with
  | some k => s.finishHead k.val (if ok then
      { r with result := leBytes 2 (s.fld F.BSN_CDLY_CDLY) ++ [BitVec.ofNat 8 (s.fld F.BSN_CSTAT_SPREAD)] } else r)
  | none => s

/-- Two low samples after at least two high ones make a Cascade trigger, whose instant is the compensated edge before the first low one; a
ping it meets fails (R332, R333). -/
def execCascadeTriggerReceive (t : Moment) (s : State) : Out :=
  .next (if s.cascOn && s.flag F.BSN_CSTAT_LOCK && s.casc.lows == 2 && decide (2 ≤ s.casc.highs) then
    let s := (s.runOn t.adv).withCasc { s.casc with highs := 0 }
    let s := if s.flag F.BSN_CCFG_OUTEN then
        (s.cascPulse (s.fld F.BSN_CCFG_OUTLINE) (s.nsAt t.back)).incMod F.BSN_CSTAT_RXCNT else s
    if s.flag F.BSN_CSTAT_PINGBUSY then s.pingEnd { status := stBusy } false else s
  else s)

/-- TRIG_IO has been low for longer than 1 µs (R332). -/
def execTrigIoStuck (s : State) : Out :=
  .next (if s.cascOn then
    ((s.withCasc { s.casc with highs := 0 }).put F.BSN_CSTAT_STUCK 1).assertEv 187
  else s)

/-- The master answers the fall of a ping after exactly 2,000 ns, for one period (R333). -/
def execPingAnswer (s : State) : Out :=
  .next (if s.cascOn && s.flag F.BSN_CCFG_MASTER then s.withCasc { s.casc with drive := 1 } else s)

/-- A round of a ping (R333): its RTT in edge units, or none within 4 µs; `trig`: a trigger arrived in it. The next round drives
TRIG_IO low again; after 16 rounds CDLY is the mean of RTT / 2. -/
def execPingRound (rtt : Option Nat) (trig : Bool) (s : State) : Out :=
  .next (if s.islandsRun && s.flag F.BSN_CSTAT_PINGBUSY then
    match rtt, trig with
    | _, true => s.pingEnd { status := stBusy } false
    | none, false => s.pingEnd { status := stNoack } false
    | some r, false =>
      let l := r :: s.casc.rtts
      if decide (l.length < 16) then s.withCasc { s.casc with rtts := l, drive := 1 }
      else
        let spread := l.foldl Nat.max 0 - l.foldl Nat.min r
        let s := s.put F.BSN_CSTAT_SPREAD (Nat.min spread 255)
        if decide (13 < spread) then s.pingEnd { status := stRange } false
        else
          let s := s.put F.BSN_CDLY_CDLY
            (if s.flag F.BSN_CCFG_MASTER then 0 else (openRound ((l.foldl (· + ·) 0 : Nat) : Int) 32).toNat)
          (s.put F.BSN_CDLY_VALID 1).pingEnd { status := stOk } true
  else s)

/-- Write BSN.CCFG: on the master CDLY is 0 (R330). -/
def State.writeCcfg (s : State) (v : Nat) : State :=
  let s := s.wr R.BSN_CCFG (BitVec.ofNat 32 (v - v % 2 ^ 17))
  let s := if s.flag F.BSN_CCFG_MASTER then s.put F.BSN_CDLY_CDLY 0 else s
  if v.testBit 0 && s.flag F.BSN_CCFG_EN && !s.flag F.BSN_CCFG_MASTER && !s.flag F.BSN_CSTAT_PINGBUSY then s.pingStart none else s

def execCascCfg (c : HostCmd) (s : State) : Out :=
  .next (s.hostCmd 0x38 c (fun s =>
    let v := arg c 0 4
    if !s.inModes [2, 4, 9] then refuseMode s
    else if v / 2 % 2 ^ 16 != 0 then refuse stRange s
    else okReply (s.writeCcfg v)))

def execCascPing (c : HostCmd) (s : State) : Out :=
  .next (s.hostCmdW 0x39 c (fun s =>
    let no (r : Reply × State) : Step8 := .done r.1 r.2
    if !s.inModes [2, 4, 9] then no (refuseMode s)
    else if s.flag F.BSN_CCFG_MASTER || !s.flag F.BSN_CCFG_EN || s.flag F.BSN_CSTAT_PINGBUSY then no (refuse stState s)
    else .waits (s.pingStart (some c.ch))))

def execCascStatus (c : HostCmd) (s : State) : Out :=
  .next (s.hostCmd 0x3A c (fun s =>
    if !s.captureMode then refuseMode s
    else okResult (s.reg4 R.BSN_CCFG ++ s.reg4 R.BSN_CDLY ++ s.reg4 R.BSN_CSTAT) s))

end Sys2Proof.Machine
end

