-- ==== Sys2Proof/Machine/CanQueue.lean ====
section
/-!
DEFINITION. What a CAN FD controller holds (spec/15): its error state, filters, receive queues, shadows and spilled frames, and the reads
of CAN_RX_READ. The error counters follow the fault confinement of ISO 11898-1, which R366 names (PRESUMED, assumption log 16).
-/

namespace Sys2Proof.Machine

def resPending : Nat := 1
def resSending : Nat := 2
def resSent : Nat := 3
def resCancelled : Nat := 4
def resAck : Nat := 5
def resOther : Nat := 6
def resFlushed : Nat := 7

def canActive : Nat := 0
def canPassive : Nat := 1
def canBusOff : Nat := 2
def canIntegrating : Nat := 3

def bufList16 : List Nat := List.range 16

/-- CAN is clocked, powered and out of reset; in Standby CAN_0 and CAN_1 alone run (R382). -/
def State.canRuns (s : State) (n : Nat) : Bool :=
  !s.flag F.MODE_CUR_MIN && !s.flag F.CLK_IRST_CAN && (s.clocked || (s.curMode == modeStandby && decide (n ≤ 1))) &&
    s.flag (F.CAN_CTRL_EN n)

/-- The controller takes part in the bus. -/
def State.canOnBus (s : State) (n : Nat) : Bool :=
  s.canRuns n && (s.fld (F.CAN_ERR_STATE n) == canActive || s.fld (F.CAN_ERR_STATE n) == canPassive) &&
    decide (s.fld (F.CAN_ERR_TEC n) ≤ 255)

/-- 0 normal, 1 listen-only, 2 loopback (R378); in Standby listen-only unless STBYACK is set (R382). -/
def State.canMode (s : State) (n : Nat) : Nat :=
  if s.curMode == modeStandby then (if s.flag (F.CAN_CFG_STBYACK n) then 0 else 1)
  else let m := s.fld (F.CAN_CFG_MODE n)
    if m == 3 then 1 else m

/-- Data bytes of a DLC: 0 to 8, then the FD lengths. -/
def dlcBytes (fdf : Bool) (dlc : Nat) : Nat :=
  if decide (dlc ≤ 8) then dlc else if !fdf then 8 else [12, 16, 20, 24, 32, 48, 64].getD (dlc - 9) 64

/-- Keep the queue state of R381 in QSTAT and RXSPL. -/
def State.syncCan (s : State) (n : Nat) : State :=
  let x := s.can n
  let s := (s.put (F.CAN_QSTAT_DEPTH n 0) x.q0.length).put (F.CAN_QSTAT_DEPTH n 1) x.q1.length
  let s := (s.putB (F.CAN_QSTAT_SHFULL n 0) x.sh0.isSome).putB (F.CAN_QSTAT_SHFULL n 1) x.sh1.isSome
  s.put (F.CAN_RXSPL_CNT n) x.spills.length

/-- The equalities of R381; a failure sets INV and EV_134. -/
def State.canCheck (s : State) (n : Nat) : State :=
  let x := s.can n
  let rx := s.fld (F.CAN_RXDLV_CNT n) + x.q0.length + x.q1.length + x.sh0.isSome.toNat + x.sh1.isSome.toNat +
    s.fld (F.CAN_RXSPL_CNT n) + s.fld (F.CAN_RXDRP_CNT n)
  let tx := s.fld (F.CAN_TXDONE_CNT n) + s.fld (F.CAN_TXCANCEL_CNT n) + s.fld (F.CAN_TXLIMIT_CNT n) +
    s.fld (F.CAN_TXFLUSH_CNT n) + (bitsOf 16 (s.fld (F.CAN_TXPEND_B n))).length
  let badRx := s.fld (F.CAN_RXACC_CNT n) != rx % 2 ^ 32
  let badTx := s.fld (F.CAN_TXREQN_CNT n) != tx % 2 ^ 32
  if !badRx && !badTx then s
  else
    let s := if badRx then s.put (F.CAN_INV_RX n) 1 else s
    let s := if badTx then s.put (F.CAN_INV_TX n) 1 else s
    if s.flag (F.CAN_INV_INVERR n) then s else (s.put (F.CAN_INV_INVERR n) 1).assertEv 134

/-! ## Error state -/

/-- TEC and REC decide between error-active and error-passive; entering error-passive sets EPASS and EV_161 (R385). -/
def State.canErrState (s : State) (n : Nat) : State :=
  let st := s.fld (F.CAN_ERR_STATE n)
  let high := decide (127 < s.fld (F.CAN_ERR_TEC n)) || decide (127 < s.fld (F.CAN_ERR_REC n))
  if st == canActive && high then ((s.put (F.CAN_ERR_STATE n) canPassive).put (F.CAN_STAT_EPASS n) 1).assertEv 161
  else if st == canPassive && !high then s.put (F.CAN_ERR_STATE n) canActive
  else s

def State.setTec (s : State) (n v : Nat) : State := (s.put (F.CAN_ERR_TEC n) (Nat.min 511 v)).canErrState n

def State.setRec (s : State) (n v : Nat) : State := (s.put (F.CAN_ERR_REC n) (Nat.min 255 v)).canErrState n

/-! ## Receiving (R369 to R372) -/

def State.canQueue (s : State) (n q : Nat) : List CanRec := if q == 0 then (s.can n).q0 else (s.can n).q1

def State.canShadow (s : State) (n q : Nat) : Option CanRec := if q == 0 then (s.can n).sh0 else (s.can n).sh1

def State.setQueue (s : State) (n q : Nat) (l : List CanRec) (sh : Option CanRec) : State :=
  (s.modCan n (fun x => if q == 0 then { x with q0 := l, sh0 := sh } else { x with q1 := l, sh1 := sh })).syncCan n

/-- The ID word of a frame record: a base frame has no extension identifier. -/
def idWord (w : Nat) : Nat := if w.testBit 29 then w else w - w % 2 ^ 18

/-- The record of 84 bytes of an accepted frame. -/
def canRecord (f : CanFrame) (n filt q seq : Nat) (shadow spill : Bool) (ns : Nat) : List Byte :=
  let flags := f.dlc.toNat + f.fdf.toNat * 16 + f.brs.toNat * 32 + f.esi.toNat * 64 + filt * 256 + q * 8192 +
    shadow.toNat * 16384 + spill.toNat * 32768
  let len := if f.id.toNat.testBit 30 then 0 else dlcBytes f.fdf f.dlc.toNat
  leBytes 4 (idWord f.id.toNat) ++ leBytes 4 flags ++ leBytes 4 (seq + n * 65536) ++ leBytes 8 ns ++
    bytesAt (bytesAt f.data 0 len) 0 64

/-- A filter word is written; what it held is kept for a frame in reception (R369, R384). -/
def State.writeFilter (s : State) (n a : Nat) (w : Word) : State :=
  (s.modCan n (fun x => { x with replaced := ((a, s.rd a) :: x.replaced).take 256 })).wr a w

/-- A filter word as it stood `k` filter writes ago. -/
def State.filterWord (s : State) (n k a : Nat) : Nat :=
  ((((s.can n).replaced.take k).reverse.find? (fun e => e.1 == a)).elim (s.rd a) (fun e => e.2)).toNat

/-- The filter's verdict (R369) by the filters as they stood `k` writes ago: filter number, action (1 Q0, 2 Q1, else reject), and
whether it is a wake filter. -/
def State.canFilter (s : State) (n k : Nat) (id : Nat) : Nat × Nat × Bool :=
  let word := id % 2 ^ 30
  let m : Nat → Nat := fun f => s.filterWord n k (R.CAN_FLTM n f)
  let kk : Nat → Nat := fun f => s.filterWord n k (R.CAN_FLTK n f)
  match (List.range 32).find? (fun f => m f / 2 ^ 30 != 0 && ((word ^^^ m f) &&& kk f) % 2 ^ 30 == 0) with
  | some f => (f, m f / 2 ^ 30, (kk f).testBit 31)
  | none => (0, s.fld (F.CAN_CFG_DEFACT n), false)

/-- The buffer a spilled frame takes, where spilling may happen (R370). -/
def State.spillBuf (s : State) (n : Nat) : Option (Nat × State) :=
  let max := clampN 1 64 (s.fld (F.CAN_CFG_SPLMAX n))
  if s.flag (F.CAN_CFG_SPILL n) && s.feature 13 && s.curMode != modeStandby && decide ((s.can n).spills.length < max)
  then s.alloc (0x30 + n) else none

/-- A frame that finds queue and shadow full: spilled, or dropped (R370). -/
def State.canOverflow (s : State) (n q seq : Nat) (bytes : List Byte) : State :=
  match s.spillBuf n with
  | some (b, s) =>
    let s := s.sharedAccess (fun t => t.wrBytes (bufBase b) bytes)
    (s.modCan n (fun x => { x with spills := x.spills ++ [(q, seq, b)] })).syncCan n
  | none => ((s.put (F.CAN_RXDRP_CNT n) (s.fld (F.CAN_RXDRP_CNT n) + 1)).put (F.CAN_STAT_RXDROP n) 1).assertEv 162

/-- Place an accepted frame: queue, shadow, spill, or drop (R370). -/
def State.canPlace (s : State) (n q filt : Nat) (f : CanFrame) (ns : Nat) : State :=
  let seq := s.fld (F.CAN_QSTAT_NEXTSEQ n q)
  let s := (s.put (F.CAN_QSTAT_NEXTSEQ n q) (seq + 1)).put (F.CAN_RXACC_CNT n) (s.fld (F.CAN_RXACC_CNT n) + 1)
  let l := s.canQueue n q
  if decide (l.length < 32) then s.setQueue n q (l ++ [⟨seq, canRecord f n filt q seq false false ns⟩]) (s.canShadow n q)
  else if (s.canShadow n q).isNone then s.setQueue n q l (some ⟨seq, canRecord f n filt q seq true false ns⟩)
  else (s.inc (F.CAN_QSTAT_OVF n q)).canOverflow n q seq (canRecord f n filt q seq false true ns)

/-- The head of a queue is freed; a frame in the shadow joins the tail (R371). -/
def State.canRelease (s : State) (n q : Nat) : State :=
  let s := s.put (F.CAN_QSTAT_LOCK n q) 0
  match s.canQueue n q with
  | [] => s
  | _ :: l =>
    let s := s.put (F.CAN_RXDLV_CNT n) (s.fld (F.CAN_RXDLV_CNT n) + 1)
    s.setQueue n q (l ++ (s.canShadow n q).toList) none

/-- One spilled frame is marked done, its buffer being freed before (R372). -/
def State.canSpillDone (s : State) (n : Nat) (e : Nat × Nat × Nat) : State :=
  let s := if s.owner e.2.2 == 0x30 + n then s.setOwner e.2.2 0 else s
  let s := s.modCan n (fun x => { x with spills := x.spills.erase e })
  (s.put (F.CAN_RXDLV_CNT n) (s.fld (F.CAN_RXDLV_CNT n) + 1)).syncCan n

/-- How far `seq` lies behind the next RXSEQ: the oldest frame has the largest. -/
def State.canAge (s : State) (n q seq : Nat) : Nat := (s.fld (F.CAN_QSTAT_NEXTSEQ n q) + 65536 - seq - 1) % 65536

/-- The firmware takes frames of a queue in ascending RXSEQ, queue entries and spill buffers together (R372). -/
def State.canTake (n q : Nat) : Nat → State → List CanRec × State
  | 0, s => ([], s)
  | k + 1, s =>
    let spill := ((s.can n).spills.filter (fun e => e.1 == q)).head?
    match s.canQueue n q, spill with
    | [], none => ([], s)
    | h :: _, none => let (l, s) := State.canTake n q k (s.canRelease n q); (h :: l, s)
    | [], some e =>
      let r : CanRec := ⟨e.2.1, s.rdBytes (bufBase e.2.2) 84⟩
      let (l, s) := State.canTake n q k (s.canSpillDone n e); (r :: l, s)
    | h :: _, some e =>
      if decide (s.canAge n q e.2.1 < s.canAge n q h.seq) then
        let (l, s) := State.canTake n q k (s.canRelease n q); (h :: l, s)
      else
        let r : CanRec := ⟨e.2.1, s.rdBytes (bufBase e.2.2) 84⟩
        let (l, s) := State.canTake n q k (s.canSpillDone n e); (r :: l, s)

/-- Frames that a read can deliver. -/
def State.canAvail (s : State) (n q : Nat) : Nat :=
  (s.canQueue n q).length + (s.canShadow n q).isSome.toNat + ((s.can n).spills.filter (fun e => e.1 == q)).length

/-- Three records a buffer, at offsets 0, 84 and 168. -/
def packFrames : Nat → List CanRec → List Byte
  | 0, _ => []
  | k + 1, l => if l.isEmpty then [] else bytesAt ((l.take 3).flatMap (fun r => r.bytes)) 0 256 ++ packFrames k (l.drop 3)

/-- Deliver up to `k` frames to channel `ch` (R386): nothing is taken when the result buffers cannot be had. -/
def State.canDeliver (s : State) (ch n q k : Nat) : Reply × State :=
  let (l, t) := State.canTake n q k s
  match t.resultBufs ch (packFrames 4 l) with
  | none => ({ status := stBusy, detail := 0x09 }, s)
  | some (bs, t) =>
    let first := (l.head?.map (fun r => r.seq)).getD 0
    ({ status := stOk, result := leBytes 1 l.length ++ leBytes 2 first, bufs := bs }, t.canCheck n)

/-- The held CAN_RX_READ `r` is answered when a frame is available and SUP runs. -/
def State.canServe (s : State) (n : Nat) (r : Nat × Nat × Nat) : State :=
  if !s.supRuns || !(s.can n).reads.contains r || s.canAvail n r.2.1 == 0 then s
  else
    let s := s.modCan n (fun x => { x with reads := x.reads.erase r })
    let (rep, s) := s.canDeliver r.1 n r.2.1 r.2.2
    s.finishHead r.1 rep

/-- The held reads of every controller, the oldest first: after a frame is queued, and when SUP runs again (R386). -/
def State.canServeReads (s : State) : State :=
  s.each (List.range 8) (fun n t => t.each (t.can n).reads (fun r u => u.canServe n r))

end Sys2Proof.Machine
end

