-- ==== Sys2Proof/Machine/Curve.lean ====
section
/-!
DEFINITION. The curves of the interpolation program (R217, R222): segments of constant acceleration joined by sin² transitions. A
direction is taken out first: speeds are then at or above 0 and the goal lies ahead. Times are in 2^-32 ticks, accelerations in 2^-96
count/tick², speeds in 2^-64 count/tick, distances in 2^-64 counts. The rules give no digits: a curve is exact to these units
(assumption log 10).
-/

namespace Sys2Proof.Machine

/-! ## Units -/

/-- A speed in 1/16 count/s, an acceleration in count/s². -/
def speedUnits (v : Nat) : Nat := v * 2 ^ 64 / 3200000000

def accUnits (a : Nat) : Nat := a * 2 ^ 96 / 40000000000000000

/-! ## One segment -/

/-- Terms of a Taylor sum in `y` (2^-64) from term `t` of order `k`, `n` of them, every second one. -/
def angleTerms (y : Int) : Nat → Int → Int → Int
  | 0, _, _ => 0
  | n + 1, k, t => t + angleTerms y n (k + 2) (-(t * y / 2 ^ 64 * y / 2 ^ 64 / ((k + 1) * (k + 2))))

/-- Cosine and sine of π n / d in 2^-64, for n at most d: those of an eighth of the angle, doubled three times. -/
def halfTurn (n d : Nat) : Int × Int :=
  let y : Int := (57952155664616982739 * n / (8 * d) : Nat)
  (List.range 3).foldl (fun (x : Int × Int) _ => ((x.1 * x.1 - x.2 * x.2) / 2 ^ 64, 2 * x.1 * x.2 / 2 ^ 64))
    (angleTerms y 12 0 (2 ^ 64), angleTerms y 12 1 y)

/-- What `t` of a segment makes of the speed `v` at its start: distance, speed, acceleration (R222). -/
def Seg.step (g : Seg) (v : Int) (t : Nat) : Int × Int × Int :=
  let d := g.a2 - g.a1
  let p := v * t / 2 ^ 32 + g.a1 * t * t / 2 ^ 97
  let w := v + g.a1 * t / 2 ^ 64
  if d = 0 ∨ g.len = 0 then (p, w, g.a2)
  else
    let (c, s) := halfTurn t g.len
    let n : Int := g.len
    (p + d * ((t * t : Nat) / 4 - n * n * (2 ^ 64 - c) / 364124132991305669195) / 2 ^ 96,
     w + d * (t / 2 - n * s / (2 * 57952155664616982739)) / 2 ^ 64,
     g.a1 + d * (2 ^ 64 - c) / 2 ^ 65)

/-- What `t` of a list of segments makes of the speed `v` at its start. -/
def runSegs : List Seg → Int → Nat → Int × Int × Int
  | [], v, t => (v * t / 2 ^ 32, v, 0)
  | g :: gs, v, t =>
    if t < g.len then g.step v t
    else
      let x := g.step v g.len
      let r := runSegs gs x.2.1 (t - g.len)
      (x.1 + r.1, r.2)

def segsLen (gs : List Seg) : Nat := gs.foldl (fun n g => n + g.len) 0

/-- The distance that segments cover from the speed `v`. -/
def segsDist (gs : List Seg) (v : Int) : Int := (runSegs gs v (segsLen gs)).1

/-! ## Changes of speed -/

/-- The limits of a move: VMAX, ACC, DEC, TJ in 2^-32 ticks, and AREF. -/
structure CurveLimits where
  vmax : Nat
  acc : Nat
  dec : Nat
  tj : Nat
  deriving DecidableEq, Repr

def CurveLimits.aref (l : CurveLimits) : Nat := Nat.max 1 (Nat.max l.acc l.dec)

def curveLimits (vmax acc dec tj : Nat) : CurveLimits := ⟨speedUnits vmax, accUnits acc, accUnits dec, tj * 200 * 2 ^ 32⟩

/-- A transition: Tt = TJ |a2 - a1| / AREF. -/
def CurveLimits.tr (l : CurveLimits) (a1 a2 : Int) : Seg := ⟨a1, a2, l.tj * (a2 - a1).natAbs / l.aref⟩

/-- The speed that two transitions between 0 and `a` gain: a² TJ / AREF. -/
def CurveLimits.swing (l : CurveLimits) (a : Int) : Int := a * a * l.tj / ((l.aref : Int) * 2 ^ 64)

/-- The quickest change of speed from `v0` with acceleration `a0` to `v1` with acceleration 0: to the greatest acceleration that serves,
held as long as it must be, and back to 0. -/
def CurveLimits.toSpeed (l : CurveLimits) (v0 a0 v1 : Int) : List Seg :=
  let g := v1 - v0
  let q := l.swing a0 / 2
  let sign : Int := if g < (if a0 < 0 then -q else q) then -1 else 1
  let top : Int := if sign = 1 then l.acc else l.dec
  let w := sign * g + q
  let lim := l.swing top
  let (peak, hold) : Int × Int :=
    if top < sign * a0 then (top, (sign * g - q) * 2 ^ 64 / max 1 top)
    else if lim ≤ w then (top, (w - lim) * 2 ^ 64 / max 1 top)
    else (((w.toNat * 2 ^ 64 * l.aref / Nat.max 1 l.tj).sqrt : Nat), 0)
  [l.tr a0 (sign * peak), ⟨sign * peak, sign * peak, hold.toNat⟩, l.tr (sign * peak) 0]

/-- A stop (R222). -/
def CurveLimits.stop (l : CurveLimits) (v0 a0 : Int) : List Seg := l.toSpeed v0 a0 0

/-! ## The S-blend -/

/-- Accelerate to `a` and hold it for `h`, then stop, by way of the acceleration `a` times `f` / 65,536. -/
def CurveLimits.bent (l : CurveLimits) (v0 a0 a : Int) (f h : Nat) : List Seg :=
  let x := if a < 0 then a else a * f / 65536
  let up := [l.tr a0 a, ⟨a, a, h⟩, l.tr a x]
  up ++ l.stop (runSegs up v0 (segsLen up)).2.1 x

/-- Go to the speed `v` with acceleration 0, keep it for `h`, then stop. -/
def CurveLimits.level (l : CurveLimits) (v0 a0 v : Int) (h : Nat) : List Seg :=
  l.toSpeed v0 a0 v ++ [⟨0, 0, h⟩] ++ l.stop v 0

/-- The greatest speed within the transitions of a curve from an acceleration above 0 to one below. -/
def topSpeed : List Seg → Int → Int
  | [], v => v
  | g :: gs, v =>
    let inner := if 0 < g.a1 ∧ g.a2 < 0 then
        (g.step v (topRoot (fun t => decide (t ≤ g.len) && decide (0 ≤ (g.step v t).2.2)) 80 0)).2.1
      else v
    max inner (topSpeed gs (g.step v g.len).2.1)

/-- The least speed within the transitions of a curve from an acceleration below 0 to one above. -/
def lowSpeed : List Seg → Int → Int
  | [], v => v
  | g :: gs, v =>
    let inner := if g.a1 < 0 ∧ 0 < g.a2 then
        (g.step v (topRoot (fun t => decide (t ≤ g.len) && decide ((g.step v t).2.2 ≤ 0)) 80 0)).2.1
      else v
    min inner (lowSpeed gs (g.step v g.len).2.1)

/-- A curve up and back down over the distance `d`, its acceleration reversed by way of `f` / 65,536 of its peak, as hard and as long as the
distance allows. -/
def CurveLimits.fitted (l : CurveLimits) (v0 a0 d : Int) (f : Nat) : List Seg :=
  let fits (gs : List Seg) : Bool := decide (segsDist gs v0 ≤ d)
  if fits (l.bent v0 a0 l.acc f 0) then l.bent v0 a0 l.acc f (topRoot (fun h => fits (l.bent v0 a0 l.acc f h)) 80 0)
  else l.bent v0 a0 (a0 + topRoot (fun x => decide (a0 + x ≤ l.acc) && fits (l.bent v0 a0 (a0 + x) f 0)) 90 0) f 0

/-- The quickest of the curves over the distance `d` (R222): by way of VMAX where it fits; else with the acceleration reversed directly, or as
nearly directly as VMAX allows; from above VMAX by way of a lower level speed. That no other profile is quicker is not proved
(assumption log 10). -/
def CurveLimits.quickest (l : CurveLimits) (v0 a0 d : Int) : List Seg :=
  let f := segsDist (l.level v0 a0 l.vmax 0) v0
  if f ≤ d then l.level v0 a0 l.vmax (((d - f) * 2 ^ 32 / max 1 (l.vmax : Int)).toNat)
  else
    let fits (gs : List Seg) : Bool := decide (segsDist gs v0 ≤ d)
    let below (gs : List Seg) : Bool := decide (topSpeed gs v0 ≤ l.vmax)
    let gs := l.fitted v0 a0 d (topRoot (fun k => decide (k ≤ 65536) && below (l.fitted v0 a0 d k)) 17 0)
    if below gs && fits gs then gs
    else l.level v0 a0 (topRoot (fun v => decide (v ≤ l.vmax) && fits (l.level v0 a0 v 0)) 70 0) 0

/-- The S-blend over the distance `d` (R222). Where the quickest curve would take the speed below 0, the present deceleration ends first: the
reference never reverses at speed (R225). -/
def CurveLimits.blend (l : CurveLimits) (v0 a0 d : Int) : List Seg :=
  let gs := l.quickest v0 a0 d
  if a0 < 0 ∧ lowSpeed gs v0 < 0 then
    let g := l.tr a0 0
    let r := g.step v0 g.len
    g :: l.quickest r.2.1 0 (d - r.1)
  else gs

/-- The segments of a curve up to the end of the one in progress `t` after its start. -/
def takeSegs : List Seg → Nat → List Seg
  | [], _ => []
  | g :: gs, t => if t < g.len then [g] else g :: takeSegs gs (t - g.len)

/-- The segments of the other direction. -/
def mirror (dir : Int) (gs : List Seg) : List Seg := gs.map (fun g => { g with a1 := dir * g.a1, a2 := dir * g.a2 })

end Sys2Proof.Machine
end

