-- ==== Sys2Proof/Machine/Profile.lean ====
section
/-!
DEFINITION. The profile unit (spec/09): contexts, profile ticks, moves, limits, gearing. Positions are in 2^-32 counts,
speeds in 2^-64 count/tick, accelerations in 2^-96 count/tick² (R217).
-/

namespace Sys2Proof.Machine

def one32 : Int := 4294967296

/-! ## Contexts (R212, R218, R219) -/

/-- The word at offset `off` of context `c`. -/
def ctxAddr (c off : Nat) : Nat := 0x40050000 + 0x80 * c + off

def State.ctxWord (s : State) (c off : Nat) : Nat := (s.rd (ctxAddr c off)).toNat

/-- A context as a sequencer reads it. A gear context has no ACC and no TJ: its stops take steps of acceleration. -/
def State.readCtx (s : State) (c : Nat) : MoveCtx :=
  let gear := s.fld (F.PU_CTX_CTL_TYPE c) == 3
  { typ := s.fld (F.PU_CTX_CTL_TYPE c), ctx := c
    target := sgn 64 (s.ctxWord c 8 + s.ctxWord c 12 * 2 ^ 32)
    rel := s.flag (F.PU_CTX_CTL_REL c)
    vmax := s.ctxWord c 0x10, acc := s.ctxWord c (if gear then 0x18 else 0x14), dec := s.ctxWord c 0x18, ldec := s.ctxWord c 0x1C
    tj := if gear then 0 else s.ctxWord c 0x20 % 65536, tmove := s.ctxWord c 0x20 / 65536
    lim := s.ctxWord c 4
    engd := s.ctxWord c 8, num0 := sgn 32 (s.ctxWord c 12), den0 := s.ctxWord c 0x10
    brks := if gear then (List.range (s.ctxWord c 0x14 % 8)).map (fun k =>
        ⟨sgn 32 (s.ctxWord c (0x28 + 0x14 * k)), sgn 32 (s.ctxWord c (0x2C + 0x14 * k)),
          s.ctxWord c (0x30 + 0x14 * k), s.ctxWord c (0x34 + 0x14 * k)⟩) else []
    msrc := s.fld (F.PU_CTX_CTL_MSRC c), midx := s.fld (F.PU_CTX_CTL_MIDX c) }

def accOk (a : Nat) : Bool := decide (1 ≤ a ∧ a ≤ 134217727)

/-- Breaks ascend and their zones do not overlap. -/
def brksOk : List Brk → Bool
  | [] => true
  | [b] => decide (1 ≤ b.den)
  | b :: c :: bs => decide (1 ≤ b.den) && decide (b.pos < c.pos) &&
      decide (2 * b.pos + (b.width : Int) ≤ 2 * c.pos - (c.width : Int)) && brksOk (c :: bs)

/-- The fields of a context lie within the limits of its layout table. -/
def MoveCtx.ok (m : MoveCtx) : Bool :=
  if m.typ == 1 || m.typ == 2 then decide (1 ≤ m.vmax) && accOk m.acc && accOk m.dec && accOk m.ldec
  else if m.typ == 3 then decide (m.msrc ≤ 3) && decide (1 ≤ m.den0) && decide (m.brks.length ≤ 4) && brksOk m.brks &&
    accOk m.dec && accOk m.ldec
  else false

/-! ## Stopping distance and planning (R222 to R227) -/

/-- The direction in which a reference moves, or begins to move. -/
def Profile.dir (p : Profile) : Int := if p.vel = 0 then (if p.acc < 0 then -1 else 1) else p.vel.sign

/-- The segments of a motion up to the end of the one in progress. -/
def Motion.present (m : Motion) : List Seg := takeSegs m.segs (m.elapsed * 2 ^ 32)

/-- The motion in progress carries on to the end of its present transition, whose acceleration ends at 0, and comes to rest; a P-blend
carries on to its end. -/
def Motion.finish (m : Motion) (dir : Int) (l : CurveLimits) (next : Option Int) : Motion :=
  let gs := m.present
  if m.len != 0 || gs.length == m.segs.length then { m with kind := 2, next := next }
  else
    let v := (runSegs gs m.v0 (segsLen gs)).2.1
    let gs := gs ++ mirror dir (l.stop (dir * v) 0)
    { m with kind := 2, segs := gs, goal := m.p0 + segsDist gs m.v0 / 2 ^ 32, next := next }

/-- The motion whose present transition must be carried to its end: the deceleration reached takes the speed past 0 before the jerk limit `l`
lets it end, so that no curve that begins now would stop without a reversal (R225; DESIGN CHOICE, assumption log 10). -/
def Profile.bound (p : Profile) (l : CurveLimits) : Option Motion :=
  p.motion.filter (fun m =>
    (m.len != 0 || (m.present.getLast?.map (fun g => g.a2 == 0)).getD false) &&
      decide (p.dir * p.acc < 0 ∧ p.dir * p.vel < l.swing p.acc / 2))

/-- The curve of a stop from the present reference under the limits `l` (R222), and the signed distance it covers. -/
def Profile.stopSegs (p : Profile) (l : CurveLimits) : List Seg := mirror p.dir (l.stop (p.dir * p.vel) (p.dir * p.acc))

def Profile.stopDist (p : Profile) (l : CurveLimits) : Int :=
  match p.bound l with
  | some m => (m.finish p.dir l none).goal - p.pos
  | none => p.dir * (segsDist (l.stop (p.dir * p.vel) (p.dir * p.acc)) (p.dir * p.vel) / 2 ^ 32)

/-- An S-blend from the present reference, which moves toward the goal or is at rest. -/
def Profile.blend (p : Profile) (goal : Int) (dec : Nat) : Profile :=
  let l := curveLimits p.ctx.vmax p.ctx.acc dec p.ctx.tj
  let dir : Int := if p.vel = 0 ∧ p.acc = 0 then (goal - p.pos).sign else p.dir
  let gs := mirror dir (l.blend (dir * p.vel) (dir * p.acc) (dir * (goal - p.pos) * 2 ^ 32))
  { p with motion := some ⟨0, p.pos, p.vel, goal, dec, gs, 0, 0, none⟩ }

/-- A stop at deceleration `dec` (R222), followed by the move to `next` where there is one. -/
def Profile.stopAt (p : Profile) (dec : Nat) (next : Option Int) : Profile :=
  if p.vel = 0 ∧ p.acc = 0 then { p with motion := none }
  else
    let l := curveLimits p.ctx.vmax p.ctx.acc dec p.ctx.tj
    match p.bound l with
    | some m => { p with motion := some (m.finish p.dir l next) }
    | none => { p with motion := some ⟨2, p.pos, p.vel, p.pos + p.stopDist l, dec, p.stopSegs l, 0, 0, next⟩ }

/-- The move to `goal` from a reference that moves (R225): it runs there where it can be reached without a reversal and without exceeding
the deceleration, else it stops first. -/
def Profile.moveOn (p : Profile) (goal : Int) (dec : Nat) : Profile :=
  let reach := p.stopDist (curveLimits p.ctx.vmax p.ctx.acc dec p.ctx.tj)
  if 0 ≤ p.dir * (goal - p.pos) ∧ p.dir * reach ≤ p.dir * (goal - p.pos) then p.blend goal dec else p.stopAt dec (some goal)

/-- The same for a reference whose present transition `m` must end first. -/
def Profile.moveAfter (p : Profile) (m : Motion) (goal : Int) (dec : Nat) : Profile :=
  let gs := m.present
  let f := m.finish p.dir (curveLimits p.ctx.vmax p.ctx.acc dec p.ctx.tj) (some goal)
  if m.goal = goal ∧ f.goal = goal then { p with motion := some { f with kind := 0, next := none } }
  else if m.len != 0 || gs.length == m.segs.length then { p with motion := some f }
  else
    let q := { p with pos := m.p0 + segsDist gs m.v0 / 2 ^ 32, vel := (runSegs gs m.v0 (segsLen gs)).2.1, acc := 0, motion := none }
    { p with motion := (q.moveOn goal dec).motion.map (fun x =>
      { x with p0 := m.p0, v0 := m.v0, segs := gs ++ x.segs, elapsed := m.elapsed }) }

/-- The duration of a P-blend in ticks (R223): the largest of its three values. -/
def pLength (d : Int) (m : MoveCtx) : Nat :=
  let a := Nat.min m.acc m.dec
  let t1 := openRound (30 * (d.natAbs : Int) * 200000000) (4294967296 * m.vmax)
  let q := 57735 * d.natAbs * 40000000000000000 / (10000 * 4294967296 * Nat.max 1 a)
  (max (max t1 (openSqrt q : Int)) ((m.tmove * 200000 : Nat) : Int)).toNat

/-- Plan the move to `goal` with deceleration `dec` from the present reference (R223 to R225): the profile, and whether a
P-blend runs as an S-blend. -/
def Profile.plan (p : Profile) (goal : Int) (dec : Nat) : Profile × Bool :=
  let p := { p with last := goal }
  if p.vel = 0 ∧ p.acc = 0 then
    if goal = p.pos then ({ p with motion := none }, false)
    else if p.ctx.typ == 2 then
      let len := Nat.max 1 (pLength (goal - p.pos) p.ctx)
      ({ p with motion := some ⟨1, p.pos, 0, goal, dec, [], len, 0, none⟩ }, false)
    else (p.blend goal dec, false)
  else
    (match p.bound (curveLimits p.ctx.vmax p.ctx.acc dec p.ctx.tj) with
      | some m => p.moveAfter m goal dec
      | none => p.moveOn goal dec, p.ctx.typ == 2)

/-- Position, speed and acceleration of a P-blend `t` ticks after its start (R223). -/
def pBlendAt (m : Motion) (t : Nat) : Int × Int × Int :=
  let d := m.goal - m.p0
  let n : Int := m.len
  let t : Int := t
  (m.p0 + openRound (d * (10 * t ^ 3 * n ^ 2 - 15 * t ^ 4 * n + 6 * t ^ 5)) (m.len ^ 5),
   openRound (4294967296 * d * (30 * t ^ 2 * n ^ 2 - 60 * t ^ 3 * n + 30 * t ^ 4)) (m.len ^ 5),
   openRound (4294967296 ^ 2 * d * (60 * t * n ^ 2 - 180 * t ^ 2 * n + 120 * t ^ 3)) (m.len ^ 5))

/-- What a motion has become `span` ticks later: `none` in the last place where it has ended. It never passes its end, and the end is
exact (R217). -/
def Motion.advance (m : Motion) (span : Nat) : Int × Int × Int × Option Motion :=
  let e := m.elapsed + span
  let on := some { m with elapsed := e }
  if m.len != 0 then
    if decide (m.len ≤ e) then (m.goal, 0, 0, none)
    else let r := pBlendAt m e; (r.1, r.2.1, r.2.2, on)
  else if decide (segsLen m.segs ≤ e * 2 ^ 32) then (m.goal, 0, 0, none)
  else
    let r := runSegs m.segs m.v0 (e * 2 ^ 32)
    (clampI (min m.p0 m.goal) (max m.p0 m.goal) (m.p0 + r.1 / 2 ^ 32), r.2.1, r.2.2, on)

/-! ## Gearing (R233 to R239) -/

def fracAdd (a b : Int × Nat) : Int × Nat := (a.1 * b.2 + b.1 * a.2, a.2 * b.2)

/-- The lower end of a break's zone in 2^-32 counts. -/
def Brk.lo (b : Brk) : Int := b.pos * one32 - b.width * 2147483648

/-- How much of the change at break `b` applies at `x` (R235), as a fraction. -/
def Brk.part (b : Brk) (x : Int) : Int × Nat :=
  if b.width = 0 then (if b.lo < x ∨ (x = b.lo ∧ Config.breakAtPos) then 1 else 0, 1)
  else if x ≤ b.lo then (0, 1)
  else if x < b.lo + b.width * one32 then (x - b.lo, b.width * 4294967296)
  else (1, 1)

/-- The integral of `part` up to `x`, in 2^-32 counts. -/
def Brk.area (b : Brk) (x : Int) : Int × Nat :=
  if x ≤ b.lo then (0, 1)
  else if x < b.lo + b.width * one32 then ((x - b.lo) * (x - b.lo), 2 * b.width * 4294967296)
  else (x - b.pos * one32, 1)

/-- Sum over the breaks of the ratio's change times `f`. -/
def gearSum (f : Brk → Int × Nat) : Int × Nat → Int × Nat → List Brk → Int × Nat
  | _, acc, [] => acc
  | prev, acc, b :: bs =>
    let d := (b.num * prev.2 - prev.1 * b.den, b.den * prev.2)
    let g := f b
    gearSum f (b.num, b.den) (fracAdd acc (d.1 * g.1, d.2 * g.2)) bs

/-- r(x) of R235. -/
def MoveCtx.ratio (m : MoveCtx) (x : Int) : Int × Nat :=
  gearSum (fun b => b.part x) (m.num0, m.den0) (m.num0, m.den0) m.brks

/-- F(x) of R235, in 2^-32 counts. -/
def MoveCtx.integral (m : MoveCtx) (x : Int) : Int × Nat :=
  gearSum (fun b => b.area x) (m.num0, m.den0) (m.num0 * x, m.den0) m.brks

/-- `x` lies in no zone of the table (R237). -/
def MoveCtx.outside (m : MoveCtx) (x : Int) : Bool :=
  m.brks.all (fun b => b.width == 0 || decide (x < b.lo) || decide (b.lo + b.width * one32 < x))

/-- The master of a context at network time `t` in 2^-16 ns: its sample, in its own counts or, for a virtual master, in 2^-32
counts, and whether it is valid (R233, R234). -/
def State.sampleMaster (s : State) (msrc i : Nat) (t : Int) : Int × Bool :=
  if msrc == 0 then ((s.rd (R.ENC_POS i)).toNat, s.flag (F.ENC_STAT_VALID i) && decide (i < 12))
  else if msrc == 1 then ((s.rd (R.ENC_ABSPOS i)).toNat, s.flag (F.ENC_ABSSTAT_VALID i) && decide (i < 4))
  else if msrc == 2 then (s.fld (F.ENC_RESANG_ANG i), s.flag (F.ENC_RESANG_VALID i) && decide (i < 4))
  else
    let v := s.vmaster i
    let ok := v.en && v.written && s.flag (F.PU_VMCFG_VALID i) && decide (i < 4) &&
      decide (t - (v.time * 65536 : Nat) ≤ (Nat.max 1 v.timeout * 65536000 : Nat))
    (v.pos + openRound (v.vel * (t - (v.time * 65536 : Nat)) * one32) (16000000000 * 65536), ok)

/-- The travel from one sample to the next in 2^-32 counts (R233). -/
def State.masterDiff (s : State) (msrc i : Nat) (old new : Int) : Int :=
  if msrc == 3 then new - old
  else
    let w := if msrc == 0 then 32 else if msrc == 1 then s.fld (F.ENC_ABSCFG_POSW i) + 1 else 16
    sgn w (uns w (new - old)) * one32

/-- The feedback position of an axis in 2^-32 counts (R232). -/
def State.feedback (s : State) (n : Nat) : Int :=
  let i := s.fld (F.PU_AXCFG_FBIDX n)
  let k := s.fld (F.PU_AXCFG_FBSRC n)
  if k == 1 then sgn 32 (s.rd (R.ENC_POS i)).toNat * one32
  else if k == 2 then ((s.rd (R.ENC_ABSPOS i)).toNat : Int) * one32
  else if k == 3 then (s.fld (F.ENC_RESANG_ANG i) : Int) * one32
  else if k == 4 then sgn 32 (s.rd (R.PU_STEPCNT n)).toNat * one32
  else 0

/-! ## Requests and ticks (R213 to R215) -/

def reqStart : Nat := 0
def reqStop : Nat := 1
def reqQstop : Nat := 2
def reqSwap : Nat := 3
def reqEngage : Nat := 4
def reqTarget : Nat := 5

/-- A request reaches PU: the next profile tick takes it. -/
def State.puRequest (s : State) (n r : Nat) : State := s.modProfile n (fun p => { p with req := putBit p.req r true })

/-- CTL.COMMIT of context `c` is written (R219). -/
def State.ctxCommit (s : State) (c : Nat) : State :=
  if s.flag (F.PU_CTXOWN_V c) then
    s.modProfile (s.fld (F.PU_CTXOWN_AXIS c)) (fun p =>
      { p with commits := if p.commits.contains c then p.commits else p.commits ++ [c] })
  else s

def execCtxCommit (c : Fin 256) (s : State) : Out := .next (if s.islandsRun then s.ctxCommit c else s)

def execPuStart (n : Fin 16) (s : State) : Out := .next (if s.islandsRun then s.puRequest n reqStart else s)
def execPuSwapnow (n : Fin 16) (s : State) : Out := .next (if s.islandsRun then s.puRequest n reqSwap else s)
def execPuStop (n : Fin 16) (s : State) : Out := .next (if s.islandsRun then s.puRequest n reqStop else s)
def execPuQstop (n : Fin 16) (s : State) : Out := .next (if s.islandsRun then s.puRequest n reqQstop else s)
def execPuEngage (n : Fin 16) (s : State) : Out := .next (if s.islandsRun then s.puRequest n reqEngage else s)

/-- The turn of a tick that arrives for axis `n` (R214): that of the latest of its sequencer that waits, with which it may arrive
together, else one after it. -/
def State.tickTurn (s : State) (n : Nat) (together : Bool) : Nat :=
  let l := axisList.filter (fun m => (s.profile m).due && s.fld (F.PU_AXCFG_PS m) == s.fld (F.PU_AXCFG_PS n))
  l.foldl (fun t m => Nat.max t ((s.profile m).turn + if together then 0 else 1)) 0

/-- No tick of the sequencer comes before that of axis `n`: in order of arrival, and together in ascending axis number (R214). -/
def State.firstDue (s : State) (n : Nat) : Bool :=
  axisList.all (fun m => m == n || !(s.profile m).due || s.fld (F.PU_AXCFG_PS m) != s.fld (F.PU_AXCFG_PS n) ||
    decide ((s.profile n).turn < (s.profile m).turn) || ((s.profile n).turn == (s.profile m).turn && decide (n < m)))

/-- A profile tick of axis `n`, `dt` ticks after the previous one (R213 to R215, R248): it takes the requests and commits that wait
and samples the master and the feedback; while the previous tick is unpublished it is dropped. TIMEBASE's copy of network time is
within ±2.5 ns of the time unit (R234). -/
def execProfileTick (n : Fin 16) (dt : Nat) (at_ : TickAt) (s : State) : Out :=
  let src := s.fld (F.PU_AXCFG_TSRC n)
  .next (if s.islandsRun && s.flag F.PU_CTRL_EN && s.flag (F.PU_AXCFG_EN n) && (src == 1 || src == 2) && decide (0 < (s.profile n).arrived) then
    let s := (s.runOn at_.adv).modProfile n (fun p => { p with arrived := p.arrived - 1 })
    let p := s.profile n
    let k := s.fld (F.PU_AXCFG_PS n)
    let s :=
      if s.axState n == axEnergised && (s.axis n).type == 3 && !(s.axis n).stopping then
        s.wr (R.PU_STEPCNT n) (BitVec.ofNat 32 (uns 32 (roundShift p.pos 32)))
      else s
    if p.due then
      let s := s.modProfile n (fun p => { p with missed := p.missed + dt })
      ((s.put (F.PU_AXSTAT_LATE n) 1).inc (F.PU_PSSTAT_LATE k)).assertEv (evAxis n 3)
    else
      let next := s.readCtx (s.fld (F.PU_AXCTX_NEXT n))
      let m := if p.gear == 0 && s.flag (F.PU_AXCTX_NV n) then next else p.ctx
      let (e, s) := s.draw
      let t := s.netTime + ((e % 327681 : Nat) : Int) - 163840
      let (x, ok) := if m.typ == 3 then s.sampleMaster m.msrc m.midx t else (0, true)
      let f := s.feedback n
      let turn := s.tickTurn n at_.together
      s.modProfile n (fun p => { p with
        due := true, turn := turn, span := p.span + dt, taken := p.req, req := 0
        takenCommits := p.commits, commits := [], sample := x, sampleOk := ok, fb := f })
  else s)

/-! ## Serving a tick (R214) -/

/-- PU.AXSTAT.STATE codes. -/
def psRest : Nat := 0
def psMoving : Nat := 1
def psStopping : Nat := 2
def psLimit : Nat := 3
def psEngaging : Nat := 4
def psGeared : Nat := 5
def psTracking : Nat := 6
def psGearStop : Nat := 7

def State.puState (s : State) (n : Nat) : Nat := s.fld (F.PU_AXSTAT_STATE n)

def State.setPuState (s : State) (n v : Nat) : State := s.put (F.PU_AXSTAT_STATE n) v

/-- The reference of axis `n` is at rest (R38, R249). -/
def State.refAtRest (s : State) (n : Nat) : Bool := s.puState n == psRest || s.puState n == psLimit

/-- PU.DECEFF shows the context's DEC where no raise applies (R227). -/
def State.plainDec (s : State) (n : Nat) : State := s.wr (R.PU_DECEFF n) (BitVec.ofNat 32 (s.profile n).ctx.dec)

/-- Plan a move and show it. -/
def State.planMove (s : State) (n : Nat) (goal : Int) (dec : Nat) : State :=
  let (p, sw) := (s.profile n).plan goal dec
  let s := s.setProfile n p
  let s := if sw then s.put (F.PU_AXSTAT_SHAPESW n) 1 else s
  let s := s.wr (R.PU_DECEFF n) (BitVec.ofNat 32 dec)
  s.setPuState n (if p.motion.isSome then psMoving else psRest)

/-- The S-blend to `g` that follows a stop begins (R225). -/
def State.returnTo (s : State) (n : Nat) (g : Int) : State :=
  let p := s.profile n
  ((s.setProfile n ({ p with last := g, limited := false }.blend g p.ctx.dec)).plainDec n).setPuState n psMoving

/-- A parity error in a context read (R221). -/
def State.ctxParity (s : State) (n : Nat) : State := (s.put (F.PU_AXSTAT_CTXPAR n) 1).assertEv 150

/-- Bring the reference to rest at deceleration `dec` (R231); `st` is the state shown meanwhile. -/
def State.stopRef (s : State) (n dec st : Nat) : State :=
  let s := (s.modProfile n (fun p => { p.stopAt dec none with gear := 0 })).plainDec n
  s.setPuState n (if (s.profile n).motion.isSome then st else psRest)

/-- The least deceleration in whole count/s² that, reached from the present acceleration at the jerk limit, stops within the distance `d`
(R227). -/
def Profile.leastDec (p : Profile) (m : MoveCtx) (d : Int) : Nat :=
  topRoot (fun a => decide (d < (p.stopDist (curveLimits m.vmax m.acc (Nat.max 1 a) m.tj)).natAbs)) 27 0 + 1

/-- The deceleration in force toward the goal of a moving reference after a commit of `m` (R227), and whether it is raised. A reference
that stops to return to its goal does not aim at it. -/
def Profile.decInForce (p : Profile) (m : MoveCtx) (goal : Int) : Nat × Bool :=
  let d := p.dir * (goal - p.pos)
  let need := (p.stopDist (curveLimits m.vmax m.acc m.dec m.tj)).natAbs
  let returns := (p.motion.bind (fun x => x.next)).isSome
  if !returns && decide (0 < d ∧ d < need) then (Nat.max m.dec (p.leastDec m d), true) else (m.dec, false)

/-- The values of a move context are taken for the move to `goal` (R224 to R227): a reference that moves to that goal already keeps to it,
with the deceleration raised where it must; `none` where the jerk time would keep it from stopping there. -/
def State.replan (s : State) (n : Nat) (m : MoveCtx) (goal : Int) : Option State :=
  let p := s.profile n
  let held := goal == p.last && (p.vel != 0 || p.acc != 0)
  let d := p.dir * (goal - p.pos)
  let l (tj : Nat) : CurveLimits := curveLimits m.vmax m.acc m.dec tj
  let reach (tj : Nat) : Int := (p.stopDist (l tj)).natAbs
  let short := decide (0 < d ∧ d < reach m.tj ∧ reach p.ctx.tj ≤ d)
  let bound := decide (p.ctx.tj < m.tj) && (p.bound (l m.tj)).isSome
  if held && m.tj != p.ctx.tj && (short || bound) then none
  else
    let (dec, raised) := if held then p.decInForce m goal else (m.dec, false)
    let s := s.setProfile n { p with ctx := m, gear := 0, limited := false }
    let s := if raised then s.put (F.PU_AXSTAT_DECELRAISED n) 1 else s
    some (s.planMove n goal dec)

/-- Activate the queued context at this tick (R219, R224, R230, R236). A context that fails its limits, a gear
context for a reference that moves, or one whose read meets a parity error does not start, and the queue is cleared. -/
def State.activateNext (s : State) (n : Nat) (par : Bool) : State :=
  let c := s.fld (F.PU_AXCTX_NEXT n)
  let m := s.readCtx c
  let s := s.put (F.PU_AXCTX_NV n) 0
  if par then ((s.put (F.PU_AXCTX_AV n) 0).stopRef n (s.profile n).ctx.ldec psStopping).ctxParity n
  else
    let t := if !m.ok then none
      else if m.typ == 3 then
        if s.refAtRest n then
          let t := s.modProfile n (fun p => { p with
            ctx := m, motion := none, gear := 1, travel := 0, masterSeen := false, limited := false })
          some ((t.wr (R.PU_DECEFF n) (BitVec.ofNat 32 m.dec)).setPuState n psEngaging)
        else none
      else s.replan n m (m.target + if m.rel then (s.profile n).last else 0)
    match t with
    | some t => (t.put (F.PU_AXCTX_AV n) 1).put (F.PU_AXCTX_ACTIVE n) c
    | none => s.put (F.PU_AXSTAT_CMTIGN n) 1

/-- A commit of the active move context is taken (R219, R225 to R227): `none` where it is ignored. A move that a limit has stopped, or
is stopping, does not resume without a new target (R229; DEDUCED, assumption log 29). -/
def State.commitMove (s : State) (n : Nat) (m : MoveCtx) : Option State :=
  let p := s.profile n
  let new := p.taken.testBit reqTarget || m.target != p.ctx.target || m.rel != p.ctx.rel
  if !new && (p.limited || (p.motion.isNone && s.puState n == psLimit)) then
    some ((s.setProfile n { p with ctx := m }).wr (R.PU_DECEFF n) (BitVec.ofNat 32 m.dec))
  else s.replan n m (if new then m.target + (if m.rel then p.last else 0) else p.last)

/-- Answer the commands that wait for the tick (R242). -/
def State.answerWaiter (s : State) (n : Nat) (ok : Bool) : State :=
  let ks := (s.profile n).waiters
  let s := s.modProfile n (fun p => { p with waiters := [] })
  s.each ks (fun k t => t.finishHead k (if ok then .ok else { status := stState }))

/-- A commit is ignored (R219). -/
def State.commitIgnored (s : State) (n : Nat) : State :=
  ((s.put (F.PU_AXSTAT_CMTIGN n) 1).modProfile n (fun p => { p with takenCommits := [] })).answerWaiter n false

/-- Step 1 of R214 for the commits and requests that a served tick has taken; a gear table waits for step 2. -/
def State.takeRequests (s : State) (n : Nat) (par : Bool) : State :=
  let p := s.profile n
  let stop := p.taken.testBit reqStop || p.taken.testBit reqQstop
  let c := s.fld (F.PU_AXCTX_ACTIVE n)
  let hit := s.flag (F.PU_AXCTX_AV n) && p.takenCommits.contains c
  let m := s.readCtx c
  let s :=
    if !hit then (if s.flag (F.PU_AXCTX_AV n) && p.commits.contains c then s else s.answerWaiter n false)
    else if stop then s.commitIgnored n
    else if par then (s.ctxParity n).commitIgnored n
    else if !m.ok || (m.typ == 3) != (p.ctx.typ == 3) then s.commitIgnored n
    else if m.typ == 3 then s
    else match s.commitMove n m with
      | some t => t.answerWaiter n true
      | none => s.commitIgnored n
  let s :=
    if stop then
      let av := s.flag (F.PU_AXCTX_AV n)
      let d := if p.taken.testBit reqQstop || !av then p.ctx.ldec else p.ctx.dec
      let s := (s.put (F.PU_AXCTX_NV n) 0).put (F.PU_AXCTX_AV n) 0
      if s.puState n == psLimit then s else s.stopRef n d (if p.gear == 0 then psStopping else psGearStop)
    else s
  if !s.flag (F.PU_AXCTX_NV n) then s
  else if p.taken.testBit reqSwap then s.activateNext n par
  else if (p.taken.testBit reqStart || p.taken.testBit reqEngage) && s.refAtRest n then s.activateNext n par
  else s

/-- Step 2 of R214 of a gearing axis: the unwrapped master (R233); an invalid master ends the gearing (R238). -/
def State.takeMaster (s : State) (n : Nat) : State :=
  let p := s.profile n
  if p.gear == 0 then s
  else if !p.sampleOk then
    let s := (s.put (F.PU_AXCTX_AV n) 0).put (F.PU_AXSTAT_MLOST n) 1
    let s := if p.takenCommits.contains p.ctx.ctx then s.commitIgnored n else s
    (s.stopRef n p.ctx.ldec psGearStop).assertEv (evAxis n 3)
  else
    let d := if p.masterSeen then s.masterDiff p.ctx.msrc p.ctx.midx p.prevRaw p.sample else 0
    let x := if p.masterSeen then p.master + d
      else if p.ctx.msrc == 3 then p.sample
      else if p.ctx.msrc == 0 then sgn 32 (uns 32 p.sample) * one32 else p.sample * one32
    let s := s.modProfile n (fun p => { p with master := x, prevRaw := p.sample, masterSeen := true })
    let w := uns 64 (x / one32)
    (s.wr (R.PU_MPOSL n) (BitVec.ofNat 32 w)).wr (R.PU_MPOSH n) (BitVec.ofNat 32 (w / 2 ^ 32))

/-- The slave reference of a gearing axis at this tick, with the travel `d` of the master since the last (R235, R236):
position, and the profile with its engagement advanced. -/
def Profile.gearStep (p : Profile) (d : Int) : Int × Profile :=
  let f := p.ctx.integral p.master
  if p.gear == 1 then
    let t := p.travel + d.natAbs
    let e := p.ctx.engd * 4294967296
    let r := p.ctx.ratio p.master
    let pos := if e = 0 then p.pos else p.pos + openRound (r.1 * d * (Nat.min t e : Nat)) (r.2 * e)
    if decide (e ≤ t) then
      let o := fracAdd (pos, 1) (-f.1, f.2)
      (pos, { p with gear := 2, travel := t, soffNum := o.1, soffDen := o.2 })
    else (pos, { p with travel := t })
  else
    let sum := fracAdd (p.soffNum, p.soffDen) f
    (openRound sum.1 sum.2, p)

/-- A commit of the active gear table (R237): accepted outside every zone and with an equal ratio; SOFF keeps S. -/
def State.commitTable (s : State) (n : Nat) : State :=
  let p := s.profile n
  let m := s.readCtx p.ctx.ctx
  if !(p.takenCommits.contains p.ctx.ctx && s.flag (F.PU_AXCTX_AV n) && m.typ == 3 && p.gear != 0) || !m.ok then s
  else
    let a := p.ctx.ratio p.master
    let b := m.ratio p.master
    if p.ctx.outside p.master && m.outside p.master && a.1 * b.2 == b.1 * a.2 then
      let f := p.ctx.integral p.master
      let g := m.integral p.master
      let o := fracAdd (fracAdd (p.soffNum, p.soffDen) f) (-g.1, g.2)
      (s.setProfile n { p with ctx := m, soffNum := o.1, soffDen := o.2 }).answerWaiter n true
    else s.commitIgnored n

/-- A limit input is active: its debounced level with the polarity of the context. -/
def State.limitInput (s : State) (lim : Nat) (lo : Nat) : Bool :=
  lim.testBit (lo + 7) && (s.flag (F.FIO_ISTAT_LVL (lim / 2 ^ (lo + 1) % 32)) != lim.testBit (lo + 6))

/-- An active limit blocks the direction `d`. -/
def State.limitBlocks (s : State) (n : Nat) (d : Int) : Bool :=
  let lim := (s.profile n).ctx.lim
  (s.limitInput lim 24 && decide (0 < d)) || (s.limitInput lim 16 && decide (d < 0))

/-- The goal of a committed move away from the limits, which the stop in progress is to be followed by (R240); `d` is the distance the
reference still covers. -/
def State.goalAway (s : State) (n : Nat) (d : Int) : Option Int :=
  let p := s.profile n
  (p.motion.bind (fun m => m.next)).filter (fun g => !s.limitBlocks n (g - (p.pos + d)))

/-- A limit stop of the reference (R228): hard or by a ramp at LDEC; the source once per stop. A committed move away from the limit runs
after it (R240). -/
def State.limitStop (s : State) (n : Nat) (hard : Bool) : State :=
  let p := s.profile n
  let s := s.answerWaiter n true
  let rest := p.vel = 0 ∧ p.acc = 0
  let s :=
    if hard ∨ rest then
      let next := s.goalAway n 0
      let s := s.stepUnc n (F.PU_STEPST_LIMV n)
      let s := s.modProfile n (fun p => { p with motion := none, gear := 0, vel := 0, acc := 0, limited := false })
      match next with
      | some g => s.returnTo n g
      | none => (s.plainDec n).setPuState n psLimit
    else
      let next := s.goalAway n (p.stopDist (curveLimits p.ctx.vmax p.ctx.acc p.ctx.ldec p.ctx.tj))
      let s := s.modProfile n (fun p => { p.stopAt p.ctx.ldec next with gear := 0, limited := true })
      (s.plainDec n).setPuState n psStopping
  s.assertEv (evAxis n 4)

/-- LIMP, LIMN, BLKP and BLKN show the limit inputs of the context (R228, R229). -/
def State.showLimits (s : State) (n : Nat) : State :=
  let pos := s.limitInput (s.profile n).ctx.lim 24
  let neg := s.limitInput (s.profile n).ctx.lim 16
  let s := (s.putB (F.PU_AXSTAT_LIMP n) pos).putB (F.PU_AXSTAT_BLKP n) pos
  (s.putB (F.PU_AXSTAT_LIMN n) neg).putB (F.PU_AXSTAT_BLKN n) neg

/-- The stricter action of the active limits is the hard one (R240). -/
def State.limitHard (s : State) (n : Nat) : Bool :=
  let lim := (s.profile n).ctx.lim
  (s.limitInput lim 24 && !lim.testBit 24) || (s.limitInput lim 16 && !lim.testBit 16)

/-- Step 3 of R214 (R228, R229, R239): the limits of the active context; `d` is the direction in which the reference moves
or is about to move. -/
def State.takeLimits (s : State) (n : Nat) (d : Int) : State :=
  let p := s.profile n
  let s := s.showLimits n
  let hard := s.limitHard n
  if s.limitBlocks n d && !(p.limited && !hard) then s.limitStop n hard
  else if s.puState n == psLimit && !s.limitInput p.ctx.lim 24 && !s.limitInput p.ctx.lim 16 then s.setPuState n psRest
  else s

/-- Publish the reference (R216): its speed in 1/16 count/s, its acceleration in 16 count/s². -/
def State.publish (s : State) (n : Nat) : State :=
  let p := s.profile n
  let q := s.fld (F.PU_REFPF_SEQ n) + 1
  let s := (s.put (F.PU_REFPF_FRAC n) (uns 32 p.pos / 256)).put (F.PU_REFPF_SEQ n) q
  let s := s.wr (R.PU_REFPI n) (BitVec.ofNat 32 (uns 32 (p.pos / one32)))
  let s := s.wr (R.PU_REFV n) (BitVec.ofNat 32 (uns 32 (openRound (p.vel * 3200000000) (2 ^ 64))))
  (s.put (F.PU_REFA_ACC n) (uns 24 (openRound (p.acc * 2500000000000000) (2 ^ 96)))).put (F.PU_REFA_SEQ n) q

/-- The reference has come to rest at the end of a motion: the move boundary of R230, or the end of a stop. -/
def State.motionEnds (s : State) (n : Nat) (m : Motion) (par : Bool) : State :=
  let p := s.profile n
  match m.next with
  | some g => s.returnTo n g
  | none =>
    let s := s.plainDec n
    if m.kind == 2 then
      let s := s.modProfile n (fun p => { p with limited := false })
      s.setPuState n (if p.limited then psLimit else psRest)
    else
      let s := (s.setPuState n psRest).assertEv (208 + n)
      if s.flag (F.PU_AXCTX_NV n) then s.activateNext n par else s

/-- Step 5 of R214: advance the reference by the ticks since the last served tick. -/
def State.advanceRef (s : State) (n : Nat) (par : Bool) : State :=
  let p := s.profile n
  match p.motion with
  | some m =>
    let (pos, vel, acc, rest) := m.advance p.span
    let s := s.setProfile n { p with pos := pos, vel := vel, acc := acc, motion := rest }
    if rest.isNone then s.motionEnds n m par else s
  | none => s

/-- Steps 2 to 5 of a gearing axis: a table that was committed, the limits (R239), and the slave that follows its master (R235, R236) or
stops. The acceleration of a geared slave is not stated: free. -/
def State.gearTick (s : State) (n : Nat) (before : Int) (par : Bool) : State :=
  let s := s.commitTable n
  let p := s.profile n
  let d := p.master - before
  let (pos, q) := p.gearStep d
  let s := s.takeLimits n (pos - p.pos)
  if (s.profile n).gear == 0 then s.advanceRef n par
  else
    let r := p.ctx.ratio p.master
    let v := openRound (r.1 * d * 4294967296) (r.2 * Nat.max 1 p.span)
    let (a, s) := s.draw
    let s := s.setProfile n { q with pos := pos, vel := v, acc := sgn 24 a * 2 ^ 96 / 2500000000000000 }
    s.setPuState n (if q.gear == 2 then psGeared else psEngaging)

/-- The sequencer serves the tick that is due (R214): `work` is its work in ticks, `par` tells that a context read of this tick
meets a parity error. -/
def execReferencePublish (n : Fin 16) (work : Nat) (par : Bool) (s : State) : Out :=
  .next (if s.islandsRun && (s.profile n).due && s.firstDue n then
    let k := s.fld (F.PU_AXCFG_PS n)
    let s := s.put (F.PU_PSSTAT_BUSYMAX k) (Nat.max (s.fld (F.PU_PSSTAT_BUSYMAX k)) (Nat.min work 580))
    let s :=
      if s.axState n != axEnergised then
        let s := (s.answerWaiter n false).showLimits n
        let p := s.profile n
        let s := if s.puState n != psTracking && s.limitHard n && s.limitBlocks n p.vel then s.stepUnc n (F.PU_STEPST_LIMV n) else s
        let s := s.modProfile n (fun p => { p with pos := p.fb, vel := 0, acc := 0, motion := none, gear := 0 })
        s.setPuState n psTracking
      else
        let s := if s.puState n == psTracking then
            (s.modProfile n (fun p => { p with last := p.pos })).setPuState n psRest else s
        let s := s.takeRequests n par
        let before := (s.profile n).master
        let seen := (s.profile n).masterSeen
        let s := s.takeMaster n
        if (s.profile n).gear != 0 then s.gearTick n (if seen then before else (s.profile n).master) par
        else
          let p := s.profile n
          let d := if p.vel = 0 then (match p.motion with | some m => m.goal - p.pos | none => 0) else p.vel
          let s := s.takeLimits n d
          s.advanceRef n par
    let s := s.modProfile n (fun p => { p with due := false, span := p.missed, missed := 0, taken := 0, takenCommits := [] })
    s.publish n
  else s)

/-! ## Virtual masters (R234) -/

/-- VMTH of VM_k is written: the six words take effect together. -/
def State.vmApply (s : State) (k : Nat) : State :=
  let pos := sgn 64 ((s.rd (R.PU_VMPOSF k)).toNat + (s.rd (R.PU_VMPOSI k)).toNat * 2 ^ 32)
  let s := s.setVmaster k ⟨s.flag (F.PU_VMCFG_EN k), true, pos, sgn 32 (s.rd (R.PU_VMVEL k)).toNat,
    (s.rd (R.PU_VMTL k)).toNat + (s.rd (R.PU_VMTH k)).toNat * 2 ^ 32, s.fld (F.PU_VMCFG_VMTO k)⟩
  s.put (F.PU_VMCFG_VALID k) 1

def State.vmthWrite (s : State) (k : Nat) (v : Word) : State := (s.wr (R.PU_VMTH k) v).vmApply k

def execVmthWrite (k : Fin 4) (v : Word) (s : State) : Out := .next (if s.islandsRun then s.vmthWrite k v else s)

/-- VMTO passes after the written time (R234). -/
def execVirtualMasterTimeout (k : Fin 4) (s : State) : Out :=
  .next (if s.islandsRun then s.put (F.PU_VMCFG_VALID k) 0 else s)

/-- Write a virtual master's words and apply them. -/
def State.vmSet (s : State) (k pos vel time vmto : Nat) : State :=
  let s := (s.wr (R.PU_VMPOSF k) (BitVec.ofNat 32 pos)).wr (R.PU_VMPOSI k) (BitVec.ofNat 32 (pos / 2 ^ 32))
  let s := (s.wr (R.PU_VMVEL k) (BitVec.ofNat 32 vel)).wr (R.PU_VMTL k) (BitVec.ofNat 32 time)
  let s := (s.put (F.PU_VMCFG_EN k) 1).put (F.PU_VMCFG_VMTO k) vmto
  s.vmthWrite k (BitVec.ofNat 32 (time / 2 ^ 32))

end Sys2Proof.Machine
end

