-- ==== Sys2Proof/Machine/Rights.lean ====
section
/-!
DEFINITION. What an engine task may be granted (R75) and the timing of a task set (R69), as the firmware checks them at a load
(R77), at AX_CONFIG (R188) and before Ready (R30).
-/

namespace Sys2Proof.Machine

/-! ## Regions -/

/-- Program or data memory of an engine. -/
def engineMemory (a : Nat) : Bool :=
  decide (0x30000000 ≤ a ∧ a < 0x30400000) &&
    (decide (a % 0x40000 < 0x18000) || decide (0x20000 ≤ a % 0x40000 ∧ a % 0x40000 < 0x30000))

def ownData (e a : Nat) : Bool := decide (dataBase e ≤ a ∧ a < dataBase e + 0x10000)

/-- Data memory of some engine. -/
def dataMemory (a : Nat) : Bool := engineMemory a && decide (0x20000 ≤ a % 0x40000)

/-- Shared SRAM outside the Reservoir pool. -/
def engineSram (a : Nat) : Bool :=
  decide (0x10000000 ≤ a ∧ a < 0x10400000) && !decide (0x10200000 ≤ a ∧ a < 0x10280000)

/-- What the address map and the chapters let an engine read within its windows. -/
def engReadable (a : Nat) : Bool :=
  engineSram a || dataMemory a || decide (0x40000000 ≤ a ∧ a < 0x40028000) || decide (0x40030000 ≤ a ∧ a < 0x40070000) ||
    decide (0x60010000 ≤ a ∧ a < 0x60020000) || decide (0x70000000 ≤ a ∧ a < 0x7000C000)

/-- The registers of CB and ES that engines write (R100): PERIOD, PHASE, LOAD; CMPA, CMPB, DT; ITMPER. -/
def engWritableEs (w : Nat) : Bool :=
  (decide (R.CB_CFG 0 ≤ w ∧ w < R.CB_CFG 24) && [4, 8, 0xC].contains (w % 0x100)) ||
    (decide (R.ES_LEGCFG 0 ≤ w ∧ w < R.ES_LEGCFG 72) && [4, 8, 0xC].contains (w % 0x40)) ||
    (decide (R.ES_ITMPER 0 ≤ w ∧ w ≤ R.ES_ITMPER 7) && w % 16 == 4)

/-- What an engine may write within its windows (R75, R100, R313): SRAM, data memories, the registers above, SENSE, contexts. -/
def engWritable (a : Nat) : Bool :=
  engineSram a || dataMemory a || engWritableEs (a / 4 * 4) || decide (0x40030000 ≤ a ∧ a < 0x40058000)

/-! ## Windows (R75) -/

/-- The axes of the tasks that an interval timer starts. -/
def State.timerAxes (s : State) (k : Nat) : List Nat :=
  axisList.filter (fun n => (List.range 16).any (fun e => (List.range 8).any (fun j =>
    s.fld (F.CE_TASKCFG_SRC e j) == 3 && s.fld (F.CE_TASKCFG_SEL e j) % 8 == k && s.fld (F.CE_TASKCFG_DPATH e j) != 0 &&
      s.flag (F.CE_TASKENT_AXB e j) && s.fld (F.CE_TASKENT_AXIS e j) == n)))

/-- The axis to which a writable register word of CB, ES, SENSE or PU belongs. -/
def State.wordAxis (s : State) (w n : Nat) : Bool :=
  if decide (w < R.CB_CFG 24) then
    (s.axis n).configured && s.leaderOf ((w - R.CB_CFG 0) / 0x100) == some (s.axis n).leader
  else if decide (R.ES_LEGCFG 0 ≤ w ∧ w < R.ES_LEGCFG 72) then s.legGroup ((w - R.ES_LEGCFG 0) / 0x40) == some n
  else if decide (R.ES_ITMPER 0 ≤ w ∧ w ≤ R.ES_ITMPER 7) then s.timerAxes ((w - R.ES_ITMPER 0) / 16) == [n]
  else if decide (R.SDF_CFG 0 ≤ w ∧ w < R.SDF_CFG 48) then
    let c := (w - R.SDF_CFG 0) / 0x20
    s.flag (F.SDF_CFG_AXB c) && s.fld (F.SDF_CFG_AX c) == n
  else if decide (R.ADC_RES 0 ≤ w ∧ w ≤ R.ADC_RES 31) then
    (s.axis n).configured && (s.axis n).adc.testBit ((w - R.ADC_RES 0) / 4)
  else if decide (R.ENC_CFG 0 ≤ w ∧ w < R.ENC_CFG 12) then
    let c := (w - R.ENC_CFG 0) / 0x20
    s.flag (F.ENC_CFG_AXB c) && s.fld (F.ENC_CFG_AX c) == n
  else if decide (R.ENC_ABSCFG 0 ≤ w ∧ w < R.ENC_ABSCFG 4) then s.absOfAxis ((w - R.ENC_ABSCFG 0) / 0x20) == some n
  else if decide (R.ENC_RESANG 0 ≤ w ∧ w < R.ENC_RESANG 4) then
    (s.axis n).posKind == 3 && (s.axis n).posInst == (w - R.ENC_RESANG 0) / 4
  else if decide (0x40050000 ≤ w ∧ w < 0x40058000) then
    let c := (w - 0x40050000) / 0x80
    s.flag (F.PU_CTXOWN_V c) && s.fld (F.PU_CTXOWN_AXIS c) == n
  else false

/-- A range of another engine's data memory that its image exports. -/
def State.exported (s : State) (lo hi : Nat) (write : Bool) : Bool :=
  let e := (lo - 0x30000000) / 0x40000
  dataMemory lo && dataMemory hi && (hi - 0x30000000) / 0x40000 == e && (s.engImg e).exports.any (fun x =>
    decide (dataBase e + x.1 ≤ lo ∧ hi ≤ dataBase e + x.2.1) && (!write || x.2.2))

/-- Regions that a window may read, R75. -/
def grantRead (a : Nat) : Bool := engReadable a && decide (0x40000000 ≤ a)

/-- A requested window within the limits of R75, for a task of engine `e` bound to `axis`. -/
def State.windowOk (s : State) (e : Nat) (axis : Option Nat) (x : Nat × Nat × Bool × Bool) : Bool :=
  match x with
  | (lo, hi, r, w) =>
    if dataMemory lo then !ownData e lo && (!r || s.exported lo hi false) && (!w || s.exported lo hi true)
    else
      (!r || (List.range ((hi - lo) / 4 + 1)).all (fun i => grantRead (lo + 4 * i))) &&
      (!w || (match axis with
        | some n => (List.range ((hi - lo) / 4 + 1)).all (fun i =>
            engWritable (lo + 4 * i) && !engineSram (lo + 4 * i) && s.wordAxis (lo + 4 * i) n)
        | none => false))

/-! ## Timing (R69) -/

/-- The least trigger interval of a task in cycles: a carrier period times the event prescaler, a timer's interval, or what the
source gives (assumption log 18), times the divider. -/
def State.taskInterval (s : State) (d : TaskDesc) : Nat :=
  let one :=
    if d.src == 1 then
      let c := d.sel % 32
      2 * s.fld (F.CB_PERIOD_PERIOD ((s.leaderOf c).getD c)) * s.countTicks c * 2 * (s.fld (F.CB_CFG_EVPS c) + 1)
    else if d.src == 3 then 2 * Nat.max 200 ((s.rd (R.ES_ITMPER (d.sel % 8))).toNat + 1)
    else Config.triggerInterval d.src d.sel
  Nat.max 1 (one * (d.div + 1))

/-- The least fixed point of R = C + Σ ⌈R / Tj⌉ Cj not above `limit`, if any. -/
def response (c : Nat) (hs : List (Nat × Nat)) (limit : Nat) : Nat → Nat → Option Nat
  | 0, _ => none
  | fuel + 1, r =>
    let r' := hs.foldl (fun n h => n + (r + h.1 - 1) / h.1 * h.2) c
    if decide (limit < r') then none else if r' = r then some r else response c hs limit fuel r'

/-- The timing of one task among the tasks of its engine, and its budget (R67, R69). -/
def State.taskTimely (s : State) (l : List TaskDesc) (d : TaskDesc) : Bool :=
  let c := d.ci + (if l.any (fun x => decide (d.slot < x.slot)) then 36 else 0)
  let hs := (l.filter (fun x => decide (x.slot < d.slot))).map (fun x => (s.taskInterval x, x.ci))
  (response c hs d.di (d.di + 2) c).isSome &&
    (if d.budget = 0 then d.axis.isNone else decide (d.ci ≤ d.budget ∧ d.budget ≤ d.di))

def fourAxes (l : List TaskDesc) : Bool :=
  decide ((axisList.filter (fun n => l.any (fun d => d.axis == some n))).length ≤ 4)

/-- The first task slot of a part that fails on its rights (R75). -/
def State.rightsFail (s : State) (p : EngPart) : Option Nat :=
  (p.tasks.find? (fun d => !d.windows.all (s.windowOk p.engine d.axis))).map (fun d => d.slot)

/-- The first task slot of a part that fails on its timing (R69). -/
def State.timingFail (s : State) (p : EngPart) : Option Nat :=
  (p.tasks.find? (fun d => !s.taskTimely p.tasks d || !fourAxes p.tasks)).map (fun d => d.slot)

/-- The rights of all parts, then the timing of all (R77): the failing slot. -/
def State.partsFail (s : State) (l : List EngPart) : Option Nat :=
  match l.findSome? s.rightsFail with
  | some k => some k
  | none => l.findSome? s.timingFail

end Sys2Proof.Machine
end

