-- ==== Sys2Proof/Machine/Axis.lean ====
section
/-!
DEFINITION. Axis objects and their commands (spec/08), and the parameters and stop rules of stepper axes (spec/10).
-/

namespace Sys2Proof.Machine

/-! ## Modes of the command tables -/

/-- Ready, Run, Derate, Service. -/
def armModes : List Nat := [4, 5, 6, 9]
/-- Run, Derate, Service. -/
def runModes : List Nat := [5, 6, 9]
/-- Configure, Ready. -/
def configModes : List Nat := [2, 4]
/-- All except Reset, Boot, Standby, Update. In Recovery too a command's own table decides whether it is accepted (R35; DEDUCED,
assumption log 24). -/
def liveModes : List Nat := [2, 4, 5, 6, 7, 8, 9, 10]

/-! ## Enabling legs (R97, R98, R500) -/

/-- ES.LEGCFG.EN of a leg is set: it stays off until a set loaded after it takes effect (R98). -/
def State.enableLeg (s : State) (l : Nat) : State :=
  if s.flag (F.ES_LEGCFG_EN l) then s
  else
    let s := s.put (F.ES_LEGCFG_EN l) 1
    let s := s.modSched l (fun x => { x with awaitSet := true, setTaken := false, enOff := false })
    let s := s.modLeg l (fun x => { x with off := if x.off == 4 then 0 else x.off })
    s.refreshHeld l

/-- ES.LEGCFG.EN of a leg is cleared (R97). -/
def State.clearLeg (s : State) (l : Nat) : State :=
  if !s.flag (F.ES_LEGCFG_EN l) then s
  else
    let s := (s.put (F.ES_LEGCFG_EN l) 0).modSched l (fun x => { x with enOff := true })
    let s := s.modLeg l (fun x => { x with off := if x.off == 3 then 4 else x.off })
    s.disableLeg l

def State.clearAxisLegs (s : State) (n : Nat) : State := s.each (s.groupLegs n) (fun l t => t.clearLeg l)

/-! ## The effective enable (R132) -/

/-- A filtered comparator output of a direct group may be active when the firmware raises the enable: free (assumption
log 5). -/
def State.drawCmp (s : State) (n : Nat) : Bool × State :=
  if s.groupLinked n || (s.groupLegs n).isEmpty then (false, s) else let (v, s) := s.draw; (v % 2 == 1, s)

/-- Write SPW.GEN.EN and act on the effective enable (R132). -/
def State.setGen (s : State) (n : Nat) (en : Bool) : State :=
  let (cmp, s) := s.drawCmp n
  (s.putB (F.SPW_GEN_EN n) en).syncEnable n cmp false

/-! ## The size and the default of a parameter (R196, R198, R251, R257) -/

def q16 (v : Nat) : Nat := v * 65536

/-- Bytes of a parameter, 0 where the ID is not defined for the type. -/
def paramSize (type id : Nat) : Nat :=
  if type == 3 && (decide (1 ≤ id ∧ id ≤ 10) || id == 14) then 0
  else if type != 3 && decide (16 ≤ id) then 0
  else match id with
    | 1 => 8 | 2 => 8 | 3 => 8 | 4 => 4 | 5 => 4 | 6 => 1 | 7 => 128 | 8 => 12 | 9 => 8 | 10 => 4 | 11 => 4 | 12 => 8
    | 13 => 4 | 14 => 4 | 16 => 8 | 17 => 4 | 18 => 4 | 19 => 4 | 20 => 4 | 21 => 4 | 22 => 1 | 23 => 5 | 24 => 3 | 25 => 4
    | _ => 0

/-- The default of a parameter: MFW 0.95 in Q15 to the nearest (R196), REFRESH 16 full periods and 0.2 µs (R251); else not given. -/
def paramDefault (type id : Nat) : List Byte :=
  let open' : List Byte := (List.range (paramSize type id)).map (fun i => Config.paramDefault type id i)
  if id == 8 then leBytes 4 31130 ++ open'.drop 4 else if id == 24 then 16 :: leBytes 2 2560 else open'

/-! ## AX_CONFIG (R188 to R190, R499) -/

/-- The parameters of AX_CONFIG at the offsets of R499. -/
structure AxCfg where
  axis : Nat
  type : Nat
  legs : Nat
  leader : Nat
  count : Nat
  engine : Nat
  sdi : Nat
  adc : Nat
  pos : Nat
  safe : Nat
  reln : Nat
  dc : Nat
  asth : Nat
  t1 : Nat
  rated : Nat
  peak : Nat

def readAxCfg (c : HostCmd) : AxCfg :=
  { axis := arg c 0 1, type := arg c 1 1, legs := arg c 2 9, leader := arg c 0x0B 1, count := arg c 0x0C 1
    engine := arg c 0x0D 1, sdi := arg c 0x0E 6, adc := arg c 0x14 4, pos := arg c 0x18 1, safe := arg c 0x19 1
    reln := arg c 0x1A 1, dc := arg c 0x1B 1, asth := arg c 0x1C 2, t1 := arg c 0x1E 2, rated := arg c 0x20 4
    peak := arg c 0x24 4 }

def AxCfg.used (a : AxCfg) : List Nat := bitsOf 72 a.legs

def AxCfg.carriers (a : AxCfg) : List Nat := (List.range a.count).map (fun i => a.leader + i)

/-- The used legs and every other leg of their links (R188). -/
def AxCfg.group (a : AxCfg) : List Nat :=
  legList.filter (fun l => a.used.contains l || (legLinked l && a.used.any (fun u => legLinked u && u / 3 == l / 3)))

/-- ASEN in effect: 0 for the types of R188 without active short. -/
def AxCfg.asen (a : AxCfg) : Bool := a.safe.testBit 0 && (a.type == 1 || a.type == 2)

/-- Legs, current channels, position sources and carrier counts that R188 allows a type. -/
def typeLegs (t : Nat) : Nat × Nat :=
  match t with | 1 => (3, 3) | 2 => (6, 6) | 3 => (4, 4) | 4 => (2, 2) | 5 => (1, 6) | _ => (1, 12)

def typeChannels (t count : Nat) : List Nat :=
  match t with | 1 => [2, 3] | 2 => [4, 6] | 3 => [0, 1, 2] | 4 => [1] | 5 => List.range 7 | _ => [count]

def typePos (t : Nat) : List Nat :=
  match t with | 1 => [0, 1, 2, 3] | 2 => [0, 1, 2, 3] | 3 => [4] | 4 => [0, 1] | _ => [0]

def typeCounts (t : Nat) : List Nat := if t == 2 then [1, 2] else if t == 6 then [1, 2, 3, 4] else [1]

/-- Instances of a position source kind. -/
def posInstances (k : Nat) : Nat := if k == 1 then 12 else if k == 2 || k == 3 then 4 else 16

/-- A carrier's group has an active or shadow half-period shorter than 2.5 µs (R83). -/
def State.shortHalf (s : State) (c : Nat) : Bool :=
  let ld := (s.leaderOf c).getD c
  let k := s.countTicks ld
  decide (s.fld (F.CB_PERIOD_PERIOD ld) * k < 500) || (s.running ld && decide ((s.carrier ld).actPeriod * k < 500))

/-- A period-average result of SDI_n would come later than the shortest half-period of its carrier under R83 (R166). Which code tells
of it is open: 0x40, as for the other faults of the current channels (DESIGN CHOICE, assumption log 28). -/
def State.resultLate (s : State) (n : Nat) (a : AxCfg) : Bool :=
  let c := s.fld (F.SDF_CFG_CB n)
  let m := Nat.max (s.fld (F.SDF_CFG_PAOSR n)) 3 + 1
  let d := (3 * (m - 1) + 1) / 2
  let linked := (a.carriers.contains c && a.group.any legLinked) || s.cgLinked ((s.leaderOf c).getD c)
  s.fld (F.SDF_CFG_PAWIN n) != 0 && decide (c < 24) &&
    decide ((if linked then 2500 else 1000) <
      5 * s.fld (F.SDF_S3CFG_SKEW n) + (d + 2) * (5 * s.fld (F.SDF_SDC_DIV (s.fld (F.SDF_CFG_CLK n)))) + 35)

/-- The first task slot of an engine's loaded image that fails on its timing (R69). -/
def State.engineLate (s : State) (e : Nat) : Option Nat :=
  match (s.engImg e).part with
  | some p => s.timingFail p
  | none => none

/-- A profile tick of a stepper axis: the passed CZ of its carrier `c` (R244), by TSRC, TSEL and TEVT. -/
def stepTick (c src sel evt : Nat) : Bool := src == 1 && sel == c && (evt == 0 || evt == 3)

/-- The tick source that PU_AXIS_CFG has set for an axis suits a stepper on carrier `c`. -/
def State.stepTickOk (s : State) (n c : Nat) : Bool :=
  !s.flag (F.PU_AXCFG_EN n) || s.fld (F.PU_AXCFG_TSRC n) == 0 ||
    stepTick c (s.fld (F.PU_AXCFG_TSRC n)) (s.fld (F.PU_AXCFG_TSEL n)) (s.fld (F.PU_AXCFG_TEVT n))

/-- What is wrong with a configuration: rule of R499, kind, instance of the offending item. A type outside 1 to 6 breaks both the table of
R188 and its encoding: 0x44, the field outside its encoding, is answered, as no row of the table is named; a stepper with another tick
source than R244's is answered 0x40 with its carrier (DESIGN CHOICE, assumption log 28). -/
def State.axCfgErrors (s : State) (c : HostCmd) (a : AxCfg) : List (Nat × Nat × Nat) :=
  let bad (ok : Bool) (r k i : Nat) : List (Nat × Nat × Nat) := if ok then [] else [(r, k, i)]
  let used := a.used
  let grp := a.group
  let per := used.length / Nat.max 1 a.count
  let typeOk := decide (1 ≤ a.type ∧ a.type ≤ 6)
  let nsdi := (bitsOf 48 a.sdi).length
  let nadc := (bitsOf 32 a.adc).length
  let tail := (List.range 8).find? (fun i => arg c (0x28 + i) 1 != 0)
  let others := axisList.filter (fun m => m != a.axis && (s.axis m).configured && (s.axis m).engine == a.engine)
  bad (decide (a.axis ≤ 15)) 0x44 7 0 ++ bad typeOk 0x44 7 1 ++
  bad (decide (a.leader ≤ 23)) 0x44 7 0x0B ++ bad (decide (1 ≤ a.count ∧ a.count ≤ 4)) 0x44 7 0x0C ++
  bad (decide (a.engine ≤ 15) || a.engine == 255) 0x44 7 0x0D ++
  bad (decide (a.pos / 16 ≤ 4 ∧ a.pos % 16 < posInstances (a.pos / 16))) 0x44 7 0x18 ++
  bad (decide (a.safe ≤ 3)) 0x44 7 0x19 ++ bad (decide (a.reln ≤ 15)) 0x44 7 0x1A ++ bad (a.dc / 32 % 4 == 0) 0x44 7 0x1B ++
  bad (decide (100 ≤ a.t1 ∧ a.t1 ≤ 800)) 0x44 7 0x1E ++
  (match tail with | some i => [(0x44, 7, 0x28 + i)] | none => []) ++
  (if !typeOk then [] else
    bad (decide ((typeLegs a.type).1 ≤ used.length ∧ used.length ≤ (typeLegs a.type).2)) 0x40 7 2 ++
    bad ((typeCounts a.type).contains a.count) 0x40 7 0x0C ++
    (a.carriers.filter (fun d => decide (23 < d) || s.leaderOf d != some a.leader)).map (fun d => (0x40, 2, d % 256)) ++
    bad (used.length % Nat.max 1 a.count == 0) 0x40 7 0x0C ++
    bad (a.type != 6 || decide (1 ≤ per ∧ per ≤ 3)) 0x40 7 2 ++
    bad ((typeChannels a.type a.count).contains (nsdi + nadc)) 0x40 (if nsdi = 0 ∧ nadc ≠ 0 then 4 else 3)
      (if nsdi = 0 then (bitsOf 32 a.adc).headD 0 else (bitsOf 48 a.sdi).headD 0) ++
    bad ((typePos a.type).contains (a.pos / 16)) 0x40 5 (a.pos % 16) ++
    bad (a.type != 3 || s.stepTickOk a.axis a.leader) 0x40 2 (a.leader % 256)) ++
  (if used.any legLinked then
    match used.find? (fun l => !legLinked l) with | some l => [(0x41, 1, l)] | none => []
   else []) ++
  bad (decide (grp.length ≤ 16)) 0x41 1 (grp.getLastD 0) ++
  (match grp.find? (fun l => match s.legGroup l with | some m => m != a.axis | none => false) with
    | some l => [(0x42, 1, l)] | none => []) ++
  bad (!(grp.any legLinked && a.carriers.any (fun d => decide (d < 24) && s.shortHalf d))) 0x40 2 (a.leader % 256) ++
  ((bitsOf 48 a.sdi).filter (fun n => s.resultLate n a)).map (fun n => (0x40, 3, n)) ++
  bad (a.engine == 255 || (decide (others.length < 4) && (s.engineLate a.engine).isNone)) 0x43 6 a.engine ++
  bad (!(a.asen && a.engine == 255)) 0x45 6 255

/-- The carrier of a leg: used legs in order, in equal runs over the carriers; an unused leg takes the carrier of the first
used leg of its link. -/
def AxCfg.legCarrier (a : AxCfg) (l : Nat) : Nat :=
  let u := if a.used.contains l then l else (a.used.find? (fun u => u / 3 == l / 3)).getD l
  a.leader + a.used.findIdx (fun x => x == u) / Nat.max 1 (a.used.length / Nat.max 1 a.count)

/-- How many bridges, phases, coils or chopper channels a type has (R188). -/
def AxCfg.units (a : AxCfg) : Nat :=
  match a.type with | 2 => 2 | 3 => 2 | 5 => a.used.length | 6 => a.count | _ => 1

/-- The current channel of each used leg that has one: leg, SDI channel (R188). -/
def AxCfg.legSdi (a : AxCfg) : List (Nat × Nat) :=
  let sdi := bitsOf 48 a.sdi
  let n := sdi.length + (bitsOf 32 a.adc).length
  let u := Nat.max 1 a.units
  let per := a.used.length / u
  let firsts := (List.range u).map (fun i => i * (n / u) + Nat.min i (n % u))
  (List.range u).flatMap (fun i =>
    let cnt := n / u + (if decide (i < n % u) then 1 else 0)
    (List.range (Nat.min cnt per)).filterMap (fun j =>
      match sdi[firsts.getD i 0 + j]?, a.used[i * per + j]? with
      | some k, some l => some (l, k)
      | _, _ => none))

/-- CFGIGN of the carrier of a leg: a write of a field that R100 protects. -/
def State.legIgnored (s : State) (l : Nat) : State :=
  let c := s.fld (F.ES_LEGCFG_CB l)
  if decide (c < 24) then s.put (F.CB_STAT_CFGIGN c) 1 else s

/-- The firmware writes a field of a leg that R100 protects: an enabled leg keeps it, and CFGIGN is set. -/
def State.guardPut (s : State) (l : Nat) (f : Fld) (v : Nat) : State := if s.legEnabled l then s.legIgnored l else s.put f v

/-- CB.CFG.LDSEL = CZ, as the step generator needs it (R244); a running carrier keeps the field (R100). -/
def State.stepperLoads (s : State) (c : Nat) : State :=
  if s.fld (F.CB_CFG_LDSEL c) == 0 then s
  else if s.running c then s.put (F.CB_STAT_CFGIGN c) 1 else s.put (F.CB_CFG_LDSEL c) 0

/-- REFRESH of a stepper axis reaches its legs (R251): NREF, and REFW where R100 lets it. -/
def State.applyRefresh (s : State) (legs : List Nat) (v : List Byte) : State :=
  s.each legs (fun l t => (t.put (F.ES_LEGCFG_NREF l) (numAt v 0 1 - 1)).guardPut l (F.ES_LEGTIM_REFW l) (numAt v 1 2))

/-- The value of a written parameter, or its default. -/
def State.heldParam (s : State) (n type id : Nat) : List Byte :=
  match (s.axis n).params.find? (fun y => y.1 == id) with
  | some y => y.2
  | none => paramDefault type id

/-- Bind the axis (R188 to R190, R251): every register that names it, its object, and CONFIG on its links. -/
def State.bindAxis (s : State) (a : AxCfg) : State :=
  let n := a.axis
  let grp := a.group
  let s := s.each (s.groupLegs n) (fun l t => if grp.contains l then t else t.wr (R.SPW_LEGAX l) 0)
  let s := s.each grp (fun l t => (t.put (F.SPW_LEGAX_BOUND l) 1).put (F.SPW_LEGAX_AXIS l) n)
  let s := (s.putB (F.SPW_AXCFG_ASEN n) a.asen).putB (F.SPW_AXCFG_PREF n) (a.safe.testBit 1)
  let s := ((s.put (F.SPW_AXCFG_RELN n) a.reln).put (F.SPW_AXCFG_T1 n) a.t1).put (F.SPW_AXCFG_ASTH n) a.asth
  let s := s.each grp (fun l t =>
    let t := t.guardPut l (F.ES_LEGCFG_CB l) (a.legCarrier l)
    let t := t.guardPut l (F.ES_LEGCFG_MODE l) (if a.used.contains l then 0 else 3)
    if a.type == 3 then t.guardPut l (F.ES_LEGCFG_BOOT l) 1 else t)
  let s := if a.type == 3 then (s.applyRefresh grp (s.heldParam n 3 24)).stepperLoads a.leader else s
  let s := s.each (List.range 48) (fun k t =>
    if a.sdi.testBit k then (t.put (F.SDF_CFG_AXB k) 1).put (F.SDF_CFG_AX k) n
    else if t.flag (F.SDF_CFG_AXB k) && t.fld (F.SDF_CFG_AX k) == n then t.put (F.SDF_CFG_AXB k) 0 else t)
  let s := s.each (List.range 12) (fun k t =>
    if a.pos / 16 == 1 && a.pos % 16 == k then (t.put (F.ENC_CFG_AXB k) 1).put (F.ENC_CFG_AX k) n
    else if t.flag (F.ENC_CFG_AXB k) && t.fld (F.ENC_CFG_AX k) == n then t.put (F.ENC_CFG_AXB k) 0 else t)
  let s := (s.put (F.WU_AXCFG_DCEN n) (a.dc / 128)).put (F.WU_AXCFG_DCI n) (a.dc % 32)
  let s := s.each a.legSdi (fun x t => t.put (F.WU_LEGCFG_ISDI x.1) x.2)
  let s := s.modAxis n (fun x => { x with
    configured := true, type := a.type, legs := a.legs, leader := a.leader, count := a.count, engine := a.engine
    sdi := a.sdi, adc := a.adc, posKind := a.pos / 16, posInst := a.pos % 16, rated := a.rated, peak := a.peak
    svcCap := a.rated / 10, drive := a.peak, regen := a.peak })
  let s := s.setGen n (s.flag (F.SPW_GEN_EN n))
  s.each ((List.range 16).filter (fun k => grp.any (fun l => legLinked l && l / 3 == k))) (fun k t =>
    (t.glEnable k true).glCfgSend k)

def execAxConfig (c : HostCmd) (s : State) : Out :=
  .next (s.hostCmd 0x10 c (fun s =>
    let a := readAxCfg c
    if !s.inModes configModes then refuseMode s
    else if decide (a.axis ≤ 15) && s.axState a.axis != axDisabled then refuse stState s
    else match s.axCfgErrors c a with
      | [] => okReply (s.bindAxis a)
      | e :: es =>
        let (r, k, i) := es.foldl (fun m x => if x.1 < m.1 then x else m) e
        let (v, s) := if r != 0x43 then (0, s) else match s.engineLate a.engine with
          | some j => (j, s)
          | none => s.draw
        ({ status := stRange, detail := r
           result := [BitVec.ofNat 8 k, BitVec.ofNat 8 i, BitVec.ofNat 8 (v % 8)] }, s)))

/-! ## AX_STATE, AX_RECOVER, AX_BRIDGE_EN (R48, R132, R211) -/

/-- A detector of the axis ended its Boot self-test inconclusive (R305). -/
def State.axInconclusive (s : State) (n : Nat) : Bool :=
  let x := s.axis n
  (s.groupLegs n).any (fun l =>
    if legLinked l then s.fld ⟨R.WEIR_BISTGL, 2 * (l / 3), 2⟩ == 3
    else [2 * (l - 48), 2 * (l - 48) + 1].any (fun k => s.fld ⟨R.WEIR_BISTDES (k / 16), 2 * (k % 16), 2⟩ == 3)) ||
  (bitsOf 48 x.sdi).any (fun k => s.fld ⟨R.WEIR_BISTSD (k / 16), 2 * (k % 16), 2⟩ == 3)

/-- The configuration of an axis lets its linked legs be enabled (R48, R83). -/
def State.axValid (s : State) (n : Nat) : Bool :=
  let x := s.axis n
  x.configured && !(s.groupLinked n &&
    (List.range x.count).any (fun i => decide (x.leader + i < 24) && s.shortHalf (x.leader + i)))

/-- The firmware enables the legs of an axis, not while the half-period of a carrier is too short for its linked legs (R83). -/
def State.enableAxisLegs (s : State) (n : Nat) : State :=
  if s.axValid n then s.each (s.groupLegs n) (fun l t => t.enableLeg l) else s

/-- The clear sequence of the axis's group is complete, or the group never latched (R48). -/
def State.axCleared (s : State) (n : Nat) : Bool := !s.flag (F.SPW_GSTAT_LATCH n)

/-- The reasons of R211 that refuse a transition, lowest first. -/
def State.axStateReasons (s : State) (n target : Nat) : List Nat :=
  let st := s.axState n
  let arm := target == axArmed && (st == axDisabled || st == axFreewheel || st == axShorted || st == axFaulted)
  let back := arm && st != axDisabled
  let ene := target == axEnergised && st == axArmed
  let off := target == axArmed && st == axEnergised
  let dis := target == axDisabled && (st == axArmed || st == axFreewheel || st == axFaulted)
  (if arm || ene || off || dis then [] else [0x40]) ++
  (if s.curMode == modeRecovery || (arm && !s.inModes armModes) || (ene && !s.inModes runModes) then [0x41] else []) ++
  (if (arm && !s.axValid n) || (ene && (!s.axValid n || (s.axis n).engine == 255)) then [0x42] else []) ++
  (if back && !s.axCleared n then [0x43] else []) ++
  (if back && s.flag (F.WEIR_DOMST_ACT n) then [0x44] else []) ++
  (if arm && s.axInconclusive n then [0x45] else [])

/-- An accepted transition (R48): the state, and the legs enabled or disabled; a stepper axis starts from the angle of its count
(R248); on leaving Energised the legs are enabled again
once HELD is set on each. -/
def State.axGoto (s : State) (n target : Nat) : State :=
  let st := s.axState n
  let s := s.setAxState n target
  if target == axEnergised then
    s.modAxis n (fun x => { x with loop := { x.loop with applied := sgn 32 (s.rd (R.PU_STEPCNT n)).toNat } })
  else if target == axArmed && st == axEnergised then
    (s.clearAxisLegs n).modAxis n (fun x => { x with reenable := true })
  else if target == axArmed then s.enableAxisLegs n
  else s.clearAxisLegs n

def execAxState (c : HostCmd) (s : State) : Out :=
  .next (s.hostCmd 0x11 c (fun s =>
    let n := arg c 0 1
    if !s.inModes liveModes then refuseMode s
    else if decide (15 < n) then refuse stRange s
    else match s.axStateReasons n (arg c 1 1) with
      | r :: _ => ({ status := stState, detail := r }, s)
      | [] => okReply (s.axGoto n (arg c 1 1))))

def execAxRecover (c : HostCmd) (s : State) : Out :=
  .next (s.hostCmd 0x12 c (fun s =>
    let n := arg c 0 1
    if !s.inModes armModes then refuseMode s
    else if decide (15 < n) then refuse stRange s
    else if !(s.axState n == axFreewheel || s.axState n == axFaulted) || s.flag (F.WEIR_DOMST_ACT n) || !s.axValid n then
      refuse stState s
    else
      let s := if s.axCleared n then s else (s.setGen n false).setGen n true
      if s.axCleared n then okReply (s.axGoto n axArmed)
      else ({ status := stBusy, result := leBytes 1 (s.fld (F.SPW_GSTAT_REJRSN n)) }, s)))

def execAxBridgeEn (c : HostCmd) (s : State) : Out :=
  .next (s.hostCmd 0x13 c (fun s =>
    let n := arg c 0 1
    if !s.inModes liveModes then refuseMode s
    else if decide (15 < n) then refuse stRange s
    else if s.islandsRun then okReply (s.setGen n (arg c 1 1 % 2 == 1))
    else refuse stState s))

/-! ## Setpoints and limits (R191, R192, R211) -/

/-- A setpoint written into the older of the two buffers (R191). -/
def State.writeSetpoint (s : State) (n : Nat) (p : Setpoint) : State :=
  s.modAxis n (fun x => { x with sp := p, spOld := x.sp, spSeq := x.spSeq + 1, ramping := false })

/-- AX_SETPOINT; an axis that was never configured answers ST_STATE (DESIGN CHOICE, assumption log 28). -/
def execAxSetpoint (c : HostCmd) (s : State) : Out :=
  .next (s.hostCmd 0x14 c (fun s =>
    let n := arg c 0 1
    let m := arg c 1 1
    let t := (s.axis n).type
    if !s.inModes armModes then refuseMode s
    else if decide (15 < n) then refuse stRange s
    else if !(s.axis n).configured then refuse stState s
    else if decide (4 < m) || (m == 4 && !(t == 5 || t == 6)) then refuse stRange s
    else okReply (s.writeSetpoint n ⟨m, arg c 2 4, arg c 6 4, arg c 10 2⟩)))

/-- The watchdog time of the last setpoint passes without a new one (R192): the reference ramps to 0, the setpoint-timeout
source is set, unless an axis stop masks it (R300); the axis stays Energised. -/
def execSetpointTimeout (n : Fin 16) (s : State) : Out :=
  .next (if s.computeRuns && (s.axis n).sp.wdog != 0 && !(s.axis n).ramping then
    let s := s.modAxis n (fun x => { x with ramping := true })
    if s.weir.maskStop.testBit n then s.maskHit n else s.assertEv (evAxis n 4)
  else s)

def execAxLimits (c : HostCmd) (s : State) : Out :=
  .next (s.hostCmd 0x15 c (fun s =>
    let n := arg c 0 1
    if !s.inModes (2 :: armModes) then refuseMode s
    else if decide (15 < n) || decide ((s.axis n).rated < 4 * arg c 13 4) then refuse stRange s
    else okReply (s.modAxis n (fun x => { x with
      drive := arg c 1 4, regen := arg c 5 4, speed := arg c 9 4, svcCap := arg c 13 4 }))))

/-! ## Parameters (R198, R251, R254, R257) -/

def paramLive (id : Nat) : Bool := [1, 2, 8, 9, 10, 13, 16, 23, 25].contains id

/-- A list rises or falls throughout. -/
def monotonic : List Int → Bool
  | [] => true
  | x :: xs => (xs.foldl (fun (a : Bool × Int) y => (a.1 && decide (a.2 ≤ y), y)) (true, x)).1 ||
      (xs.foldl (fun (a : Bool × Int) y => (a.1 && decide (y ≤ a.2), y)) (true, x)).1

/-- The ranges of R198 and R257; `top` stands for 1.2 times the rated top speed, which no command gives the device. -/
def paramOk (x : Axis) (id top : Nat) (v : List Byte) : Bool :=
  let a := numAt v 0 4
  let b := numAt v 4 4
  let within (lo hi n : Nat) : Bool := decide (lo ≤ n ∧ n ≤ hi)
  match id with
  | 1 => within 0 (q16 32767) a && within 0 (q16 32767) b
  | 2 => within 0 (q16 32767) a && within 0 (q16 32767) b
  | 3 => within 6554 (q16 65535) a && within 6554 (q16 65535) b
  | 4 => within 656 (q16 65535) a
  | 5 => within 0 (q16 65535) a
  | 6 => within 1 32 (numAt v 0 1)
  | 7 => monotonic ((List.range 16).map (fun i => sgn 32 (numAt v (8 * i) 4)))
  | 8 => within 16384 32768 a && decide (-(x.rated : Int) ≤ sgn 32 (numAt v 8 4) ∧ sgn 32 (numAt v 8 4) ≤ 0)
  | 9 => within 0 (q16 32767) a && within 0 (q16 32767) b
  | 10 => within 0 (q16 32767) a
  | 11 => within 65536 x.rated a
  | 12 => decide (2 * a ≤ 3 * x.peak) && decide (b ≤ top)
  | 13 => within 1 100 a
  | 16 => within 0 x.rated a && within 0 x.rated b
  | 17 => within (q16 10) (q16 65535) a
  | 18 => within (q16 1) (q16 65535) a
  | 19 => within 0 (q16 1000) a
  | 20 => decide (a < 32) || within (q16 5) (q16 60) a
  | 22 => within 0 1 (numAt v 0 1)
  | 23 => within 0 2 (numAt v 0 1) && within 1 60000 (numAt v 1 4)
  | 24 => within 1 64 (numAt v 0 1) && within 2560 64000 (numAt v 1 2)
  | _ => true

/-- The effect of a parameter beyond its stored value (R251, R254, R257). -/
def State.applyParam (s : State) (n id : Nat) (v : List Byte) : State :=
  if id == 21 then
    let s := (s.wr (R.PU_STEPCNT n) (BitVec.ofNat 32 (numAt v 0 4))).wr (R.PU_STEPST n) 0
    s.modAxis n (fun x => { x with clamp := false, loop := { x.loop with clamped := false } })
  else if id == 24 then
    s.applyRefresh (s.groupLegs n) v
  else if id == 25 then s.wr (R.PU_STEPCFG n) (BitVec.ofNat 32 (numAt v 0 4))
  else s

def execAxParamWrite (c : HostCmd) (s : State) : Out :=
  .next (s.hostCmd 0x16 c (fun s =>
    let n := arg c 0 1
    let id := arg c 1 1
    let x := s.axis n
    let size := paramSize x.type id
    let given := if c.handles.isEmpty then c.param.drop 2 else s.attached c
    if !s.inModes liveModes then refuseMode s
    else if decide (15 < n) || size = 0 then refuse stRange s
    else if !paramLive id && !(s.axState n == axDisabled || s.axState n == axArmed) then refuse stState s
    else if decide (given.length < size) then refuse stMalformed s
    else
      let v := given.take size
      let (top, s) := if id == 12 then s.draw else (0, s)
      let image := id != 14 || (decide (x.engine < 16) && (s.engImg x.engine).loaded)
      if !paramOk x id top v || !image then refuse stRange s
      else
        let s := s.modAxis n (fun x => { x with params := (id, v) :: x.params.filter (fun y => y.1 != id) })
        okReply (s.applyParam n id v)))

/-- The value of a parameter: written, or its default. -/
def State.paramValue (s : State) (n id : Nat) : List Byte :=
  if id == 21 then s.reg4 (R.PU_STEPCNT n)
  else if id == 25 then s.reg4 (R.PU_STEPCFG n)
  else s.heldParam n (s.axis n).type id

def execAxParamRead (c : HostCmd) (s : State) : Out :=
  .next (s.hostCmd 0x17 c (fun s =>
    let n := arg c 0 1
    let id := arg c 1 1
    if !s.inModes liveModes then refuseMode s
    else if decide (15 < n) || paramSize (s.axis n).type id = 0 then refuse stRange s
    else replyWith c.ch (s.paramValue n id) s))

/-! ## Status, position, capture (R211) -/

/-- Position and VALID of an axis's position source. -/
def State.axPosition (s : State) (n : Nat) : Word × Nat :=
  let i := (s.axis n).posInst
  match (s.axis n).posKind with
  | 1 => (s.rd (R.ENC_POS i), s.fld (F.ENC_STAT_VALID i))
  | 2 => (s.rd (R.ENC_ABSPOS i), s.fld (F.ENC_ABSSTAT_VALID i))
  | 3 => (BitVec.ofNat 32 (s.fld (F.ENC_RESANG_ANG i)), s.fld (F.ENC_RESANG_VALID i))
  | 4 => (s.rd (R.PU_STEPCNT n), 1)
  | _ => (0, 0)

/-- POS_UNCERTAIN of a stepper axis (R253). -/
def State.posUncertain (s : State) (n : Nat) : Bool := s.flag (F.PU_STEPST_UNC n) || (s.axis n).clamp

/-- AX_STATUS, with the low byte of the MPCSAT counter (R194); a stepper axis adds POS_UNCERTAIN (R253). -/
def execAxStatus (c : HostCmd) (s : State) : Out :=
  .next (s.hostCmd 0x18 c (fun s =>
    let n := arg c 0 1
    if !s.inModes liveModes then refuseMode s
    else if decide (15 < n) then refuse stRange s
    else
      let p := s.axPosition n
      okResult (leBytes 1 (s.axState n) ++ s.reg4 (R.SPW_GSTAT n) ++ s.reg4 (R.SPW_CAUSE n) ++ s.reg4 (R.SPW_FLTSW n) ++
        s.reg4 (R.SPW_SPD n) ++ s.reg4 (R.WU_AXDR n) ++ s.reg4 (R.WU_AXST n) ++ leBytes 4 p.1.toNat ++ leBytes 1 p.2 ++
        leBytes 1 (s.axis n).loop.mpcsat ++ (if (s.axis n).type == 3 then leBytes 1 (s.posUncertain n).toNat else [])) s))

def execAxPositionSet (c : HostCmd) (s : State) : Out :=
  .next (s.hostCmd 0x19 c (fun s =>
    let n := arg c 0 1
    let i := (s.axis n).posInst
    if !s.inModes liveModes then refuseMode s
    else if decide (15 < n) then refuse stRange s
    else if s.axState n == axEnergised then refuse stState s
    else if (s.axis n).posKind != 1 then refuse stRange s
    else okReply ((s.wr (R.ENC_POS i) (BitVec.ofNat 32 (arg c 1 4))).put (F.ENC_STAT_VALID i) 1)))

/-- AX_CAPTURE: operation 0 configure, 1 arm, 2 read. ARM and the reserved bits of CAPCFG are not stored. -/
def execAxCapture (c : HostCmd) (s : State) : Out :=
  .next (s.hostCmd 0x1A c (fun s =>
    let k := arg c 0 1
    let op := arg c 1 1
    if !s.inModes liveModes then refuseMode s
    else if decide (15 < k) || decide (2 < op) then refuse stRange s
    else if op == 0 then
      if s.flag (F.ENC_CAPCFG_EN k) then refuse stState s
      else
        let v := arg c 2 4
        let s := s.wr (R.ENC_CAPCFG k) (BitVec.ofNat 32 (v / 256 * 256))
        okReply (if v.testBit 7 then s.put (F.ENC_CAPSTAT_FULL k) 0 else s)
    else if op == 1 then okReply (s.put (F.ENC_CAPSTAT_FULL k) 0)
    else okResult (s.reg4 (R.ENC_CAPPOS k) ++ s.reg4 (R.ENC_CAPTSL k) ++ s.reg4 (R.ENC_CAPTSH k) ++
      s.reg4 (R.ENC_CAPSTAT k)) s))

/-! ## Standstill of stepper axes (R247, R249, R250) -/

/-- The STAND parameter of an axis. -/
def State.standMode (s : State) (n : Nat) : Nat := numAt (s.paramValue n 23) 0 1 % 3

/-- A move of an axis is asked for and not yet begun: a start, a swap, an engagement, a target or a commit. -/
def State.moveWaits (s : State) (n : Nat) : Bool :=
  let p := s.profile n
  (p.req ||| p.taken) &&& 57 != 0 || !p.commits.isEmpty || !p.takenCommits.isEmpty || (s.axis n).startWait != 0

/-- The reference of a stepper axis has been at rest for STANDT (R249): the standstill mode is entered, unless a new move starts (R256);
freewheel disables the legs (R250). -/
def execStandstillEnter (n : Fin 16) (s : State) : Out :=
  .next (if s.islandsRun && (s.axis n).type == 3 && s.axState n == axEnergised && s.refAtRest n &&
      !s.moveWaits n && (s.axis n).standstill == 0 then
    let m := s.standMode n
    let s := s.modAxis n (fun x => { x with standstill := m + 1 })
    if m == 1 then s.clearAxisLegs n else s
  else s)

/-- The axis is a stepper in the freewheel standstill. -/
def State.freewheels (s : State) (n : Nat) : Bool := (s.axis n).type == 3 && (s.axis n).standstill == 2

/-- The legs of a freewheeling stepper axis are enabled again (R250). -/
def State.endFreewheel (s : State) (n : Nat) : State :=
  if s.freewheels n then (s.enableAxisLegs n).modAxis n (fun x => { x with standstill := 0 }) else s

/-- Begin a move of an axis: at once, or once the legs of a freewheeling stepper axis are enabled again (R250). -/
def State.beginMove (s : State) (n : Nat) (engage : Bool) : State :=
  if s.freewheels n then (s.endFreewheel n).modAxis n (fun x => { x with startWait := if engage then 2 else 1 })
  else s.puRequest n (if engage then reqEngage else reqStart)

/-- HELD is 0 on all four legs of a stepper axis whose start waits, and a set drives them at the stopped angle (R250; DEDUCED, assumption
log 31). -/
def execStepperLegsReady (n : Fin 16) (s : State) : Out :=
  .next (if s.islandsRun && (s.axis n).startWait != 0 && (s.groupLegs n).all (fun l => !s.flag (F.ES_LEGSTAT_HELD l) && !(s.sched l).awaitSet) then
    let w := (s.axis n).startWait
    (s.modAxis n (fun x => { x with startWait := 0 })).puRequest n (if w == 2 then reqEngage else reqStart)
  else s)

/-- The firmware sees the step-clamp flag set (R247). -/
def execStepClampReport (n : Fin 16) (s : State) : Out :=
  .next (if s.computeRuns && (s.axis n).type == 3 && (s.axis n).loop.clamped then s.modAxis n (fun x => { x with clamp := true }) else s)

end Sys2Proof.Machine
end

