-- ==== Sys2Proof/Machine/Secure.lean ====
section
/-!
DEFINITION. The security unit: OTP, authorisation, image checks, Update, sessions and debug (spec/18).
-/

namespace Sys2Proof.Machine

/-! ## OTP and lifecycle (R429 to R431) -/

def lcsBlank : Nat := 0
def lcsDevelop : Nat := 1
def lcsField : Nat := 2
def lcsReturn : Nat := 3

def State.lcs (s : State) : Nat := s.fld F.SEC_LCS_LCS

def State.wrOtp (s : State) (i : Nat) (b : Byte) : State :=
  s.withSec { s.sec with otp := SMap.set otpDefault s.sec.otp i b }

def State.wrOtpBytes (s : State) : Nat → List Byte → State
  | _, [] => s
  | i, b :: bs => (s.wrOtp i b).wrOtpBytes (i + 1) bs

/-- The anti-rollback counter `k`: the count of set bits of its 64 (R431). -/
def State.arbBits (s : State) (k : Nat) : Nat := leNat (s.otpBytes (0x80 + 8 * k) 8)

def State.arbValue (s : State) (k : Nat) : Nat := (bitsOf 64 (s.arbBits k)).length

/-- Bits of `n` set, lowest clear first, until `v` are set. -/
def raiseTo (v : Nat) : Nat → Nat → Nat → Nat
  | 0, _, n => n
  | fuel + 1, i, n => if decide (v ≤ (bitsOf 64 n).length) then n else raiseTo v fuel (i + 1) (putBit n i true)

/-- Key hash `i` is valid and not revoked. -/
def State.hashOk (s : State) (i : Nat) : Bool :=
  if i == 0 then s.flag F.SEC_KEYST_KH0V && !s.flag F.SEC_KEYST_KH0R
  else s.flag F.SEC_KEYST_KH1V && !s.flag F.SEC_KEYST_KH1R

/-- A public key whose SHA-256 is a valid, unrevoked key hash (R432, R436). -/
def State.customerKey (s : State) (key : List Byte) : Bool :=
  [0, 1].any (fun i => s.hashOk i && Config.sha256 key == s.otpBytes (0x10 + 0x20 * i) 32)

/-! ## Stored images (R435, R436) -/

def imgMagic : Nat := 0x51584931
def imgHeader : Nat := 0xA8
def imgLimit (kind : Nat) : Nat := if kind == 1 then 0x100000 else 160 * 1024

def State.flashBytes (s : State) (base n : Nat) : List Byte := (List.range n).map (fun i => s.flash8 (base + i))

/-- The flash byte at which slot `n` begins: 0 A, 1 B, 2 + e engine slot e (R434). -/
def slotBase (n : Nat) : Nat := if n == 0 then 0 else if n == 1 then 0x800000 else 0x1000000 + 0x40000 * (n - 2)

/-- The payload, as stored, of the image in a slot. -/
def State.payload (s : State) (slot : Nat) : List Byte :=
  s.flashBytes (slotBase slot + imgHeader) (numAt (s.flashBytes (slotBase slot) imgHeader) 8 4)

/-- The reason code of the first failing check of R436 on the image in a slot, 0 when all pass; `kind` is 1 for Mbanos, 2
for an engine image. -/
def State.imageCheck (s : State) (slot kind : Nat) : Nat :=
  let h := s.flashBytes (slotBase slot) imgHeader
  let key := bytesAt h 0x28 64
  let arb := numAt h 5 1
  if numAt h 0 4 != imgMagic || numAt h 4 1 != kind || decide (imgLimit kind < numAt h 8 4) then 1
  else if !(if kind == 1 then Config.sha256 key == Config.romKeyHash else s.customerKey key) then 2
  else if !Config.ecdsaVerify key (Config.sha256 (h.take 0x68 ++ s.payload slot)) (bytesAt h 0x68 64) then 3
  else if decide (15 < arb) || decide (numAt h 7 1 < s.arbValue arb) then 4
  else if (numAt h 6 1).testBit 0 && !(s.flag F.SEC_KEYST_IKV &&
      (Config.gcmOpen (s.otpBytes 0x50 32) (bytesAt h 0x0C 12) (bytesAt h 0x18 16) (s.payload slot)).isSome) then 5
  else 0

/-- The reason that keeps the image in a slot from being taken, 0 for none: that of R436, and for a slot that is not marked valid (R438)
one that the spec does not number. -/
def State.slotCheck (s : State) (slot kind : Nat) : Nat × State :=
  if s.sec.slotBad.testBit slot then (let (v, s) := s.draw; (1 + v % 5, s)) else (s.imageCheck slot kind, s)

/-- The signature stands in the last 64 bytes of the image, over all that precede it. -/
def State.imageSigned (s : State) (bs : List Byte) : Bool :=
  let n := bs.length - 64
  let key := Config.engKey bs
  decide (64 ≤ bs.length) && s.customerKey key && Config.ecdsaVerify key (Config.sha256 (bs.take n)) (bs.drop n)

/-- The payload in clear. -/
def State.clearPayload (s : State) (slot : Nat) : List Byte :=
  let h := s.flashBytes (slotBase slot) imgHeader
  if (numAt h 6 1).testBit 0 then
    (Config.gcmOpen (s.otpBytes 0x50 32) (bytesAt h 0x0C 12) (bytesAt h 0x18 16) (s.payload slot)).getD []
  else s.payload slot

/-- The answer to a failed check: ST_MALFORMED (1), ST_AUTH (2, 3, 5), ST_RANGE (4), the reason in DETAIL. -/
def reasonStatus (r : Nat) : Nat := if r == 1 then stMalformed else if r == 4 then stRange else stAuth

/-! ## Challenge and response (R432, R433) -/

/-- The purpose `p` is granted. -/
def State.granted (s : State) (p : Nat) : Bool := (s.fld F.SEC_AUTH_GRANT).testBit (p - 1)

/-- `k` bytes that the spec leaves open. -/
def State.drawBytes (s : State) : Nat → List Byte × State
  | 0 => ([], s)
  | k + 1 =>
    let (v, s) := s.draw
    let (bs, s) := s.drawBytes k
    (BitVec.ofNat 8 v :: bs, s)

/-- A challenge: refused while locked or for an undefined purpose or level, else a nonce. -/
def State.challenge (s : State) (purpose level : Nat) : Nat × List Byte × State :=
  if s.flag F.SEC_AUTH_LOCK then (stAuth, [], s)
  else if !decide (1 ≤ purpose ∧ purpose ≤ 4) || (purpose == 2 && !decide (1 ≤ level ∧ level ≤ 2)) then (stRange, [], s)
  else
    let (bs, s) := s.drawBytes 32
    (stOk, bs, s.withSec { s.sec with nonce := some (purpose, level, bs) })

/-- A failed response (R432): FAIL, EV_188, and LOCK from the fourth consecutive one on. -/
def State.authFails (s : State) : State :=
  let s := s.inc F.SEC_AUTH_FAIL
  let s := if decide (4 ≤ s.fld F.SEC_AUTH_FAIL) then s.put F.SEC_AUTH_LOCK 1 else s
  s.assertEv 188

/-- A response of 64 key bytes and 64 signature bytes: accepted or not. The nonce is spent either way. -/
def State.respond (s : State) (bytes : List Byte) : Bool × State :=
  match s.sec.nonce with
  | none => (false, s.authFails)
  | some (p, l, nonce) =>
    let s := s.withSec { s.sec with nonce := none }
    let key := bytesAt bytes 0 64
    let msg := nonce ++ leBytes 4 (s.rd HW.base).toNat ++ [BitVec.ofNat 8 p, BitVec.ofNat 8 l]
    if s.customerKey key && Config.ecdsaVerify key (Config.sha256 msg) (bytesAt bytes 64 64) then
      let s := s.put F.SEC_AUTH_FAIL 0
      let s := s.put F.SEC_AUTH_GRANT (putBit (s.fld F.SEC_AUTH_GRANT) (p - 1) true)
      (true, if p == 2 then s.withSec { s.sec with dbgGrant := putBit s.sec.dbgGrant (l - 1) true } else s)
    else (false, s.authFails)

def execSecStatus (c : HostCmd) (s : State) : Out :=
  .next (s.hostCmd 0x90 c (fun s =>
    replyWith c.ch (s.reg4 R.SEC_LCS ++ s.reg4 R.SEC_KEYST ++ s.reg4 R.SEC_AUTH ++ s.reg4 R.SEC_DBG ++ s.reg4 R.SEC_BOOT ++
      (List.range 16).flatMap (fun k => s.reg4 (R.SEC_ARB k))) s))

def execSecChallenge (c : HostCmd) (s : State) : Out :=
  .next (s.hostCmd 0x91 c (fun s =>
    let (st, bs, s) := s.challenge (arg c 0 1) (arg c 1 1)
    if st == stOk then okResult bs s else refuse st s))

def execSecResponse (c : HostCmd) (s : State) : Out :=
  .next (s.hostCmd 0x92 c (fun s =>
    if c.handles.length != 1 then ({ status := stMalformed, detail := 0x04 }, s)
    else
      let (ok, s) := s.respond (s.attached c)
      if ok then okReply s else refuse stAuth s))

/-- The nonce expires 10 s after issue. -/
def execNonceExpiry (s : State) : Out := .next (s.withSec { s.sec with nonce := none })

/-- The 60 s lock of challenges ends. -/
def execAuthLockExpiry (s : State) : Out := .next (s.put F.SEC_AUTH_LOCK 0)

/-! ## Lifecycle, provisioning and anti-rollback (R429 to R431, R437) -/

/-- The next states of a lifecycle state. -/
def State.nextLcs (s : State) (l : Nat) : List Nat :=
  if l == lcsBlank then (if s.hashOk 0 || s.hashOk 1 then [lcsDevelop] else [])
  else if l == lcsDevelop then [lcsField, lcsReturn]
  else if l == lcsField then [lcsReturn] else []

/-- A lifecycle change is written to OTP at once and shown in PEND until the next Reset; the state it starts from is the one
that OTP already holds. -/
def execSecLifecycle (c : HostCmd) (s : State) : Out :=
  .next (s.hostCmd 0x97 c (fun s =>
    let t := arg c 0 1
    let l := s.fld F.SEC_LCS_PEND
    if !s.inModes [2, 10] then refuseMode s
    else if !(s.nextLcs l).contains t then refuse stState s
    else if l != lcsBlank && !s.granted 3 then refuse stAuth s
    else okReply ((s.wrOtp 0 (BitVec.ofNat 8 t)).put F.SEC_LCS_PEND t)))

/-- Write an OTP item once (R431), or revoke a key hash; `none` where that is refused. -/
def State.provision (s : State) (item : Nat) (v : List Byte) : Option State :=
  let once : Nat → Nat → Nat → (State → State) → Option State := fun i off n f =>
    if decide (lcsDevelop < s.lcs) || s.sec.written.testBit i then none
    else
      let t := s.wrOtpBytes off (bytesAt v 0 n)
      some (f (t.withSec { t.sec with written := putBit t.sec.written i true }))
  let revoke : Nat → Nat → Fld → Option State := fun other bit f =>
    if (s.lcs == lcsDevelop || s.lcs == lcsField) && s.hashOk other then
      some ((s.wrOtp 4 (s.otp8 4 ||| BitVec.ofNat 8 bit)).put f 1)
    else none
  if item == 0 then once 0 0x10 32 (fun t => t.put F.SEC_KEYST_KH0V 1)
  else if item == 1 then once 1 0x30 32 (fun t => t.put F.SEC_KEYST_KH1V 1)
  else if item == 2 then once 2 0x50 32 (fun t => t.put F.SEC_KEYST_IKV 1)
  else if item == 3 then once 3 0x08 6 (fun t => t)
  else if item == 4 then revoke 1 1 F.SEC_KEYST_KH0R
  else if item == 5 then revoke 0 2 F.SEC_KEYST_KH1R
  else none

def execSecProvision (c : HostCmd) (s : State) : Out :=
  .next (s.hostCmd 0x98 c (fun s =>
    if !s.inModes [modeConfigure] then refuseMode s
    else match s.provision (Config.otpItem (arg c 0 1)) (c.param.drop 1) with
      | some t => okReply t
      | none => refuse stState s))

/-- The versions of the images now running from counter `k` (R437): Mbanos on counter 0, and the engine images. -/
def State.imageVersions (s : State) (k : Nat) : List Nat :=
  (if k == 0 && s.fld F.SEC_BOOT_SLOT != 2 then [s.fld F.SEC_BOOT_VERSION] else []) ++
  ((List.range 16).filter (fun e => (s.engImg e).loaded && (s.engImg e).arb == k)).map (fun e => (s.engImg e).version)

/-- SEC_ARB_ADVANCE raises ARB[k] to the version of the image that runs from it; where several images do, which is open. -/
def execSecArbAdvance (c : HostCmd) (s : State) : Out :=
  .next (s.hostCmd 0x99 c (fun s =>
    let k := arg c 0 1
    let vs := s.imageVersions k
    if !s.inModes [modeConfigure] then refuseMode s
    else if decide (15 < k) || vs.isEmpty || s.flag F.SEC_BOOT_FALLBACK then refuse stState s
    else
      let (i, s) := s.draw
      let n := raiseTo (vs.getD (i % vs.length) 0) 64 0 (s.arbBits k)
      let s := s.wrOtpBytes (0x80 + 8 * k) (leBytes 8 n)
      okReply (s.put (F.SEC_ARB_VALUE k) (s.arbValue k))))

/-! ## Update (R438, R444) -/

/-- The slot a target of UPD_BEGIN names: an engine slot, or the inactive firmware slot (open where none is active). -/
def State.updSlot (s : State) (t : Nat) : Option (Nat × State) :=
  if decide (t < 16) then some (t + 2, s)
  else if t == 16 + Config.updFirmwareTarget then
    let b := s.fld F.SEC_BOOT_SLOT
    if b == 0 then some (1, s) else if b == 1 then some (0, s)
    else let (v, s) := s.draw; some (v % 2, s)
  else none

/-- The longest image of a slot: header and payload (R435). -/
def updLimit (slot : Nat) : Nat := imgHeader + imgLimit (if slot < 2 then 1 else 2)

def execUpdBegin (c : HostCmd) (s : State) : Out :=
  .next (s.hostCmd 0x93 c (fun s =>
    let n := arg c 1 4
    if !s.inModes [modeUpdate] then refuseMode s
    else if s.sec.upd.isSome then refuse stBusy s
    else match s.updSlot (arg c 0 1) with
      | none => refuse stRange s
      | some (slot, t) =>
        if n == 0 || decide (updLimit slot < n) then refuse stRange s
        else okReply (t.withSec { t.sec with upd := some ⟨slot, n, 0⟩, slotBad := putBit t.sec.slotBad slot true })))

/-- The data of UPD_DATA: attached buffers or, with MIN = 1, aperture slots, named as handles or, without any, one by one after the
length (R279; DESIGN CHOICE, assumption log 23). -/
def State.updBytes (s : State) (c : HostCmd) : List Byte :=
  if s.flag F.MODE_CUR_MIN && c.handles.isEmpty then (c.param.drop 8).flatMap (fun i => s.rdBytes (stagingBase (i.toNat % 128)) 256)
  else s.attached c

def State.wrFlashBytes (s : State) : Nat → List Byte → State
  | _, [] => s
  | a, b :: bs => (s.wrFlash8 a b).wrFlashBytes (a + 1) bs

def execUpdData (c : HostCmd) (s : State) : Out :=
  .next (s.hostCmd 0x94 c (fun s =>
    let off := arg c 0 4
    let n := arg c 4 4
    let bs := s.updBytes c
    match s.sec.upd with
    | none => refuseMode s
    | some u =>
      if !s.inModes [modeUpdate] then refuseMode s
      else if off != u.next || decide (bs.length < n) || decide (u.length < off + n) then refuse stMalformed s
      else
        let s := s.wrFlashBytes (slotBase u.slot + off) (bs.take n)
        okReply (s.withSec { s.sec with upd := some { u with next := off + n } })))

/-- UPD_END checks the written image under R436; a slot whose image passes is marked valid, and the Update is complete: the
warm reset that ends it is due (R30). -/
def execUpdEnd (c : HostCmd) (s : State) : Out :=
  .next (s.hostCmd 0x95 c (fun s =>
    match s.sec.upd with
    | none => refuseMode s
    | some u =>
      if !s.inModes [modeUpdate] then refuseMode s
      else
        let r := if u.next != u.length then 1 else s.imageCheck u.slot (if u.slot < 2 then 1 else 2)
        if r == 0 then
          let s := s.withSec { s.sec with upd := none, slotBad := putBit s.sec.slotBad u.slot false }
          okReply (s.withMode { s.mode with warmDue := putBit s.mode.warmDue 5 true })
        else
          let s := s.withSec { s.sec with upd := none }
          ({ status := reasonStatus r, detail := r }, s)))

def execUpdAbort (c : HostCmd) (s : State) : Out :=
  .next (s.hostCmd 0x96 c (fun s =>
    if !s.inModes [modeUpdate] then refuseMode s
    else
      let s := s.withSec { s.sec with upd := none }
      okReply (s.withMode { s.mode with warmDue := putBit s.mode.warmDue 5 true })))

/-! ## Host sessions (R281, R446) -/

/-- Forget the sent responses of MB_k that `p` selects: their staging buffers go free (R281). -/
def State.dropRsp (s : State) (k : Nat) (p : SentRsp → Bool) : State :=
  let gone := (s.chan k).sent.filter p
  let s := s.modChan k (fun c => { c with sent := c.sent.filter (fun r => !p r) })
  s.each (gone.flatMap (fun r => r.staging)) (fun b t => t.setOwner b 0)

/-- A session is closed; its channels return to the host port with their rings as they stand. -/
def State.closeSession (s : State) (n : Nat) : State :=
  let s := s.each (bitsOf 16 (s.session n).chans) (fun k t => t.dropRsp k (fun _ => true))
  s.setSession n Session.reset

/-- SEC_SESSION_OPEN; without feature 12 there are no host sessions (R274), and it is answered as a command of a feature that is not
accepted (DEDUCED, assumption log 23). -/
def execSecSessionOpen (c : HostCmd) (s : State) : Out :=
  .next (s.hostCmd 0x9A c (fun s =>
    let mask := arg c 4 2
    let num := arg c 6 4
    let used := [0, 1, 2, 3].filter (fun n => (s.session n).isOpen)
    let bound := used.foldl (fun m n => m ||| (s.session n).chans) 0
    if !s.inModes [2, 4, 9] then refuseMode s
    else if !s.feature 12 then ({ status := stUnsupported, detail := 0x02 }, s)
    else if c.handles.length != 1 then ({ status := stMalformed, detail := 0x04 }, s)
    else if !s.granted 4 then refuse stAuth s
    else match [0, 1, 2, 3].find? (fun n => !(s.session n).isOpen) with
      | none => refuse stBusy s
      | some n =>
        if bound &&& mask != 0 || decide (4 < (bitsOf 16 (bound ||| mask)).length) || used.any (fun n => (s.session n).number == num)
        then refuse stBusy s
        else okReply (s.setSession n ⟨true, num, arg c 0 4, s.attached c, mask, 0, 0, 0⟩)))

/-- SEC_SESSION_CLOSE; not in Update (R46; DEDUCED, assumption log 25). -/
def execSecSessionClose (c : HostCmd) (s : State) : Out :=
  .next (s.hostCmd 0x9B c (fun s =>
    if s.curMode == modeUpdate then refuseMode s
    else match [0, 1, 2, 3].find? (fun n => (s.session n).isOpen && (s.session n).number == arg c 0 4) with
    | none => refuse stRange s
    | some n => okReply (s.closeSession n)))

/-! ## Debug (R439 to R443) -/

/-- The cell of the matrix of R441 for a level in the present state and mode: 0 not granted, 1 open, 2 authorised. -/
def State.debugCell (s : State) (level : Nat) : Nat :=
  let m := s.curMode
  let l := s.lcs
  let free := l == lcsBlank || l == lcsReturn
  if m == modeReset || m == modeStandby then 0
  else if level == 1 then (if free || l == lcsDevelop then 1 else 2)
  else if level == 2 && (m == modeSafeOff || m == modeRecovery) then (if free then 1 else 2)
  else 0

/-- Every halted core resumes and every breakpoint is cleared (R440). -/
def State.resumeCores (s : State) : State :=
  (s.put F.SEC_DBG_HALTED 0).withSec { s.sec with halted := 0, brks := [], stepping := 0 }

/-- The end of a session (R440); the grants it was opened under end with it (R433). -/
def State.debugEnd (s : State) : State :=
  if s.fld F.SEC_DBG_LEVEL == 0 then s
  else
    let s := ((s.put F.SEC_DBG_LEVEL 0).resumeCores).canServeReads
    let left := s.sec.dbgGrant - (s.sec.dbgGrant &&& s.sec.dbgUsed)
    let s := s.put F.SEC_AUTH_GRANT (putBit (s.fld F.SEC_AUTH_GRANT) 1 (left != 0))
    s.withSec { s.sec with dbgGrant := left, dbgUsed := 0 }

/-- Open a debug session at a level: status, state (R440, R441, R444). What an open session of another level had halted resumes (DEDUCED,
assumption log 38). -/
def State.debugOpen (s : State) (level : Nat) : Nat × State :=
  let cell := s.debugCell level
  if cell == 0 then (stState, s)
  else if cell == 2 && !(s.granted 2 && s.sec.dbgGrant.testBit (level - 1)) then (stAuth, s)
  else
    let s := if s.fld F.SEC_DBG_LEVEL == level then s else s.resumeCores
    let s := if cell == 2 then s.withSec { s.sec with dbgUsed := putBit s.sec.dbgUsed (level - 1) true } else s
    (stOk, (s.put F.SEC_DBG_LEVEL level).assertEv 190)

/-- SEC_DEBUG, in Update too: the matrix of R441 names Update (DEDUCED, assumption log 25). -/
def execSecDebug (c : HostCmd) (s : State) : Out :=
  .next (s.hostCmd 0x9C c (fun s =>
    let l := arg c 0 1
    if l == 0 then okReply s.debugEnd
    else
      let (st, s) := s.debugOpen l
      if st == stOk then okReply s else refuse st s))

/-- The TAP answers: its port is not powered down (R443). -/
def State.tapUp (s : State) : Bool := !s.flag F.SEC_DBG_PORTOFF

/-- The TAP reaches the security unit, which is clocked in every mode but Reset and Standby (R441). -/
def State.tapSec (s : State) : Bool := s.tapUp && s.clocked

def State.setTap (s : State) (i : Nat) (out : List Byte) : State := s.withSec { s.sec with tap := i, tapOut := out }

def execTapSecChal (purpose level : Byte) (s : State) : Out :=
  .next (if s.tapSec then
    let (_, bs, s) := s.challenge purpose.toNat level.toNat
    s.setTap 4 bs
  else s)

def execTapSecOpen (level : Fin 4) (s : State) : Out :=
  .next (if s.tapSec then (s.debugOpen level).2.setTap 5 [] else s)

def execTapIdcode (s : State) : Out :=
  .next (if s.tapUp then s.setTap 1 (leBytes 4 Config.idcode.toNat) else s)

def execTapBypass (s : State) : Out := .next (if s.tapUp then s.setTap 0 [] else s)

/-- EXTEST and SAMPLE/PRELOAD act only in Halt in Blank or Return (R439). -/
def State.boundaryScan (s : State) : Bool := s.fld F.SEC_DBG_LEVEL == 2 && (s.lcs == lcsBlank || s.lcs == lcsReturn)

def execTapExtest (s : State) : Out :=
  .next (if s.tapUp then s.setTap (if s.boundaryScan then 2 else 0) [] else s)

def execTapSamplePreload (s : State) : Out :=
  .next (if s.tapUp then s.setTap (if s.boundaryScan then 3 else 0) [] else s)

/-- CE_e carries the speed task of a Shorted axis (R34). -/
def State.carriesSpeed (s : State) (e : Nat) : Bool :=
  axisList.any (fun n => s.axState n == axShorted && (s.axis n).engine == e && (s.axis n).configured)

/-- TRST_N low ends the session (R440). -/
def execTrstLow (s : State) : Out := .next (if s.tapUp then (s.debugEnd).setTap 0 [] else s)

end Sys2Proof.Machine
end

