-- ==== Sys2Proof/Machine/Net.lean ====
section
/-!
DEFINITION. The Ethernet switch, network time and the virtual-master streams (spec/14). Times are in 2^-16 ns. The frame layouts
are those of IEEE 802.3, 802.1Q, 1588 and of IPv4, which the chapter names (PRESUMED, assumption log 15).
-/

namespace Sys2Proof.Machine

/-- A wake source of MODE.WAKEEN bit `b` latches in Standby (R42); one that becomes active between the acceptance of the request and the
end of the entry is an operand of STANDBY_REST_CHECK_DONE (R43). -/
def State.wakeRequest (s : State) (b : Nat) : State :=
  if (s.rd R.MODE_WAKEEN).toNat.testBit b && s.curMode == modeStandby then
    s.put ⟨R.MODE_WAKESRC, b, 1⟩ 1
  else s

/-! ## Network time (R349 to R352) -/

def State.setOffset (s : State) (x : Int) : State :=
  let n := uns 80 x
  (s.wr64 R.TU_OFS0 R.TU_OFS1 n).put F.TU_OFS2_OFS (n / 2 ^ 64)

def rateNominal : Nat := 5 * 2 ^ 32
def rateLimit : Nat := 4294967

/-- RATE changes at a count and t is continuous (R350); a rate beyond 200 ppm of nominal is replaced by the nearest limit. -/
def State.applyRate (s : State) (req : Nat) : State :=
  let new := clampN (rateNominal - rateLimit) (rateNominal + rateLimit) req
  let old := s.tuRate
  let d := openRound ((s.tuCnt : Int) * ((old : Int) - (new : Int))) (2 ^ 16)
  let s := s.setOffset (s.tuOffset + d)
  let s := ((s.wr R.TU_RATEL (BitVec.ofNat 32 new)).put F.TU_RATEH_RATE (new / 2 ^ 32)).syncTime
  if new == req then s else (s.put F.TU_STAT_RATELIM 1).assertEv 170

/-- A write of RATEREQH applies the pair. -/
def execRateRequest (v : Word) (adv : Nat) (s : State) : Out :=
  .next (if s.netRuns then
    let s := (s.put F.TU_RATEREQH_RATE v.toNat).tuAdvance adv
    s.applyRate ((s.rd R.TU_RATEREQL).toNat + s.fld F.TU_RATEREQH_RATE * 2 ^ 32)
  else s)

/-- Why a step by `d` is refused (R351): the lowest-numbered condition that fails. -/
def State.stepReason (s : State) (d : Int) : Option Nat :=
  let m := s.curMode
  let armed := [0, 1, 2, 3].any (fun n => s.capArmed n) || (List.range 16).any (fun k => s.flag (F.ENC_CAPCFG_EN k))
  if s.flag F.TU_STAT_STEPPED then some 1
  else if m == modeRun || m == modeDerate || m == modeStop then some 2
  else if decide (d < 0) && armed then some 3
  else none

/-- The alarm (R359): reached with ALARMEN set. -/
def State.checkAlarm (s : State) : State :=
  let at_ : Int := ((s.rd R.TU_ALARML).toNat + (s.rd R.TU_ALARMH).toNat * 2 ^ 32 : Nat)
  if s.flag F.TU_CTRL_ALARMEN && decide (at_ * 65536 ≤ s.netTime) then (s.put F.TU_STAT_ALARM 1).wakeRequest 3 else s

/-- After a step or the enabling of the grid the next instant follows the present time (R357, R363). -/
def State.gridRestart (s : State) : State := s.withNet { s.net with gridFrom := s.tuCnt, gridSent := none }

/-- Add a step to OFFSET, or refuse it (R351). -/
def State.applyStep (s : State) : State :=
  let d := sgn 64 ((s.rd R.TU_STEPL).toNat + (s.rd R.TU_STEPH).toNat * 2 ^ 32)
  match s.stepReason d with
  | some r => (s.put F.TU_STAT_STEPREJ 1).put F.TU_STAT_STEPRSN r
  | none =>
    let s := ((s.setOffset (s.tuOffset + d)).put F.TU_STAT_STEPPED 1).syncTime
    s.gridRestart.checkAlarm

def execTimeStep (adv : Nat) (s : State) : Out := .next (if s.netRuns then (s.tuAdvance adv).applyStep else s)

def execAlarmReached (adv : Nat) (s : State) : Out := .next (if s.netRuns || s.curMode == modeStandby then (s.runOn adv).checkAlarm else s)

/-- GRIDPER as it acts. -/
def State.gridPeriod (s : State) : Nat := clampN 1000 1000000000 (s.fld F.TU_GRIDPER_PER)

/-- The next grid instant after t and after the latest one sent or skipped, in 2^-16 ns: k × GRIDPER + GRIDOFS (R357). -/
def State.gridNext (s : State) : Int :=
  let per : Int := (s.gridPeriod * 65536 : Nat)
  let ofs : Int := (s.fld F.TU_GRIDOFS_OFS * 65536 : Nat)
  let t := match s.net.gridSent with
    | some x => if s.netTime < x then x else s.netTime
    | none => s.netTime
  ofs + ((t - ofs) / per + 1) * per

/-- The counter value at which t reaches an instant under the present RATE and OFFSET. -/
def State.tickAt (s : State) (t : Int) : Nat :=
  ((t - s.tuOffset) * (2 ^ 16 : Nat) + (s.tuRate : Int) - 1).toNat / s.tuRate

/-- A mark, which carries its due tick, goes to every leader that locks to the grid (R105) and to the sample clocks that use it (R315). -/
def State.sendGridMark (s : State) (due : Nat) : State :=
  let s := if s.islandsRun then
      s.each (carrierList.filter (fun c => s.running c && s.leaderOf c == some c && s.fld (F.CB_CFG_SYNSRC c) == 2))
        (fun c t => t.modCarrier c (fun x => { x with marks := x.marks ++ [due] }))
    else s
  s.sampleClock (fun n => s.fld (F.BSN_SCFG_CSRC n) == 2) (some due)

/-- The mark of the next grid instant is sent with its due tick, at least 2 µs before it, or skipped less than 2 µs after a step or the
enabling (R357). -/
def execGridMarkSend (adv : Nat) (s : State) : Out :=
  .next (if s.netRuns && s.flag F.TU_CTRL_GRIDEN then
    let s := s.tuAdvance adv
    let due := s.tickAt s.gridNext
    let t := s.withNet { s.net with gridSent := some s.gridNext }
    if decide (due < s.net.gridFrom + 400) then (t.inc F.TU_STAT_GSKIP).assertEv 174
    else if decide (due < s.tuCnt + 400) then s
    else t.sendGridMark due
  else s)

/-! ## Timestamps (R344, R345) -/

def State.inLat (s : State) (p : Nat) : Int := (s.fld (F.SW_PDLY_INLAT p) * 1024 : Nat)
def State.egLat (s : State) (p : Nat) : Int := (s.fld (F.SW_PDLY_EGLAT p) * 1024 : Nat)

/-- The head of the queue in SW.TSQ0 to TSQ2, and DEPTH. -/
def State.syncTsq (s : State) : State :=
  let s := s.put F.SW_TSQSTAT_DEPTH s.net.tsq.length
  match s.net.tsq with
  | [] => ((s.wr R.SW_TSQ0 0).wr R.SW_TSQ1 0).wr R.SW_TSQ2 0
  | e :: _ =>
    let s := (s.wr R.SW_TSQ0 0).put F.SW_TSQ0_V 1
    let s := (s.put F.SW_TSQ0_PORT e.port).putB F.SW_TSQ0_DIR e.egress
    let s := (s.put F.SW_TSQ0_MSGT e.msgt).put F.SW_TSQ0_SEQID e.seq
    let s := s.wr R.SW_TSQ1 (BitVec.ofNat 32 (e.time / 2 ^ 16))
    (s.put F.SW_TSQ2_NSH (e.time / 2 ^ 48)).put F.SW_TSQ2_FRAC e.time

/-- The raw stamp of the MAC of port `p` at a moment (R344): network time, within ±1 ns on ports 0 and 1 and ±10 ns on ports 2 and 3, at
the free value drawn (assumption log 5). -/
def State.macStamp (s : State) (p back : Nat) : Int × State :=
  let (v, s) := s.draw
  let e : Nat := if p ≤ 1 then 65536 else 655360
  (s.netTime - (back : Int) + ((v % (2 * e + 1) : Nat) : Int) - (e : Int), s)

/-- A stamp goes to the queue; `false` when it is lost. -/
def State.pushStamp (s : State) (p : Nat) (eg : Bool) (msgt seq : Nat) (t : Int) : Bool × State :=
  if decide (s.net.tsq.length < 16) then
    (true, (s.withNet { s.net with tsq := s.net.tsq ++ [⟨p, eg, msgt, seq, uns 64 t⟩] }).syncTsq)
  else (false, (s.put F.SW_TSQSTAT_OVF 1).assertEv 173)

/-! ## Frames that arrive and leave (R340, R346) -/

/-- A frame arrives on an enabled port. A bad FCS, a runt or an oversize frame is dropped and counted; gPTP messages of the
device's own domain go to the firmware (rows of their own). `bytes` run from the destination to before the FCS. -/
def execFrameReceive (p : Fin 4) (bytes : List Byte) (bad : Bool) (full : Nat) (stamp : Moment) (s : State) : Out :=
  .next (if !s.netRuns || !s.flag (F.SW_PCFG_EN p) then s
    else
      let (raw, s) := (s.runOn stamp.adv).macStamp p stamp.back
      let n := bytes.length + 4
      if bad || decide (n < 64) || decide (1522 < n) then s.inc (F.SW_PSTAT_RXERR p)
      else if gptpLocal bytes then s
      else s.forward p bytes full (raw - s.inLat p) [])

/-- A gPTP message of the firmware leaves in queue 3 of port `p` through transmit buffers (R339, R347); a full queue drops it (R343), and
without buffers it is not sent. -/
def State.sendOwn (s : State) (p : Nat) (bytes : List Byte) (inPort : Nat) (inAt : Int) (evt : Option (Nat × Nat))
    (relay : Option (Nat × Int)) : State :=
  if s.queueFull p 3 then s.queueDrop p
  else match s.frameBufs 0x41 bytes with
    | some (bs, t) => t.txPush ⟨p, 3, bytes, inPort, inAt, bs, evt, relay⟩
    | none => s

/-- A gPTP message for the firmware takes receive buffers while the firmware works on it; without them it is dropped (R339, R343). -/
def State.rxOwn (s : State) (bytes : List Byte) : Option (List Nat × State) := s.frameBufs 0x40 bytes

/-- No receive buffer could be had for a frame of the internal port (R343). -/
def State.noBuf (s : State) : State := (s.inc (F.SW_PSTAT_TCSKIP 4)).assertEv 172

def State.freeBufs (s : State) (bs : List Nat) : State := s.each bs (fun b t => t.setOwner b 0)

/-- The earliest frame of the highest queue of a port. -/
def State.txHead (s : State) (p : Nat) : Option TxFrame :=
  [3, 2, 1, 0].findSome? (fun q => s.net.txq.find? (fun f => f.port == p && f.queue == q))

/-- Residence times of two-step Syncs are kept for 100 ms (R346). -/
def State.residLive (s : State) (now : Int) : List Resid :=
  s.net.resid.filter (fun r => decide (now - r.inAt ≤ (100000000 * 65536 : Nat)))

/-- The residence time of R346 goes into an event message of layer 2 or of UDP port 319, or is kept for the Follow_Up of a two-step Sync,
in place of those of an earlier Sync of the same ingress port and sequenceId. -/
def State.transparent (s : State) (f : TxFrame) (egAt : Int) : List Byte × State :=
  match ptpAt f.bytes with
  | none => (f.bytes, s)
  | some h =>
    let m := beAt f.bytes h 1 % 16
    let seq := beAt f.bytes (h + 30) 2
    let res := egAt - f.inAt
    let event := etherType f.bytes == 0x88F7 || beAt f.bytes (h - 6) 2 == 319
    let l := s.residLive f.inAt
    if m == 0 && event && (beAt f.bytes (h + 6) 1).testBit 1 then
      let l := l.filter (fun r => !(r.inPort == f.inPort && r.seq == seq && (r.inAt != f.inAt || r.port == f.port)))
      let keys := (l.map (fun r => (r.inPort, r.seq))).eraseDups
      let l := if keys.contains (f.inPort, seq) || decide (keys.length < 8) then l
        else l.filter (fun r => some (r.inPort, r.seq) != keys.head?)
      (f.bytes, s.withNet { s.net with resid := l ++ [⟨f.inPort, f.port, seq, f.inAt, res⟩] })
    else if decide (m ≤ 3) && event then (addCorrection f.bytes h res, s)
    else if m == 8 then
      match l.find? (fun r => r.inPort == f.inPort && r.port == f.port && r.seq == seq) with
      | some r => (addCorrection f.bytes h r.time, s.withNet { s.net with resid := l.filter (fun x => x != r) })
      | none => (f.bytes, s.withNet { s.net with resid := l })
    else (f.bytes, s)

/-- A Sync's origin: whole ns as its originTimestamp, the rest as its correctionField (DEDUCED, assumption log 34). `h` is where its header
stands. -/
def setOrigin (f : List Byte) (h : Nat) (t : Int) : List Byte :=
  let ns := t / 65536
  let f := putBe (putBe f (h + 34) 6 (uns 48 (ns / 1000000000))) (h + 40) 4 (ns % 1000000000).toNat
  putBe f (h + 8) 8 (t % 65536).toNat

def State.linkDelay (s : State) (p : Nat) : LinkDelay := SMap.get (fun _ => LinkDelay.reset) s.net.delays p

def State.setLinkDelay (s : State) (p : Nat) (v : LinkDelay) : State :=
  s.withNet { s.net with delays := SMap.set (fun _ => LinkDelay.reset) s.net.delays p v }

/-- A frame leaves port `p`: strict priority, the egress stamp, corrections, the time of the device's own one-step Sync (R347), the firmware's
stamp, its buffers freed. -/
def execFrameEgress (p : Fin 4) (stamp : Moment) (s : State) : Out :=
  .next (if !s.netRuns then s
    else match s.txHead p with
      | none => s
      | some f =>
        let (raw, s) := (s.runOn stamp.adv).macStamp p stamp.back
        let egAt := raw + s.egLat p
        let s := s.withNet { s.net with txq := s.net.txq.erase f }
        let (bytes, s) := match f.relay with
          | some (ratio, d) =>
            let h := typeAt f.bytes + 2
            (addCorrection f.bytes h (openRound ((egAt - f.inAt) * ratio) (2 ^ 32) + d), s)
          | none => if f.inPort != 4 then s.transparent f egAt
            else match f.evt with
              | some (0, _) => (setOrigin f.bytes (typeAt f.bytes + 2) egAt, s)
              | _ => (f.bytes, s)
        let s := s.freeSent f.bufs
        let s := s.withNet { s.net with wire := some (p, bytes) }
        match f.evt with
        | none => s
        | some (msgt, seq) =>
          let (kept, s) := s.pushStamp p true msgt seq egAt
          if msgt == 2 && kept then s.setLinkDelay p { s.linkDelay p with req := some (seq, egAt) } else s)

/-- Ageing of a learned address after 300 s without traffic (R340). -/
def execFdbAgeing (mac : BitVec 48) (s : State) : Out :=
  .next (if s.netRuns then s.withNet { s.net with fdb := s.net.fdb.filter (fun e => e.1 != mac.toNat) } else s)

/-- The link of a port goes up or down. -/
def execPortLinkChange (p : Fin 4) (up : Bool) (s : State) : Out :=
  .next (if s.netRuns || (s.curMode == modeStandby && p == 2) then
    let fell := s.flag (F.SW_PCFG_LINK p) && !up && s.flag (F.SW_PCFG_EN p)
    let s := s.putB (F.SW_PCFG_LINK p) up
    if fell then s.assertEv 171 else s
  else s)

/-! ## The internal port (R342, R343) -/

def sessionPort : Nat := 50116

/-- The virtual master bound to a UDP port. -/
def State.vmOf (s : State) (port : Nat) : Option Nat :=
  (List.range 4).find? (fun k => (s.vmBind k).en && (s.vmBind k).port == port)

/-- What the internal port does with a frame: 0 drops it, 1 answers it, 2 accepts its UDP payload. -/
def State.portAction (s : State) (f : List Byte) : Nat :=
  let e := typeAt f + 2
  let own := beAt f 0 6 == s.macAddr
  if etherType f == 0x0806 then
    (if (own || beAt f 0 6 == 0xFFFFFFFFFFFF) && beAt f (e + 6) 2 == 1 && beAt f (e + 24) 4 == s.net.ip then 1 else 0)
  else if !own || etherType f != 0x0800 || beAt f (e + 16) 4 != s.net.ip then 0
  else if beAt f (e + 6) 2 % 0x4000 != 0 then 0
  else if beAt f (e + 9) 1 == 1 then
    let i := e + beAt f e 1 % 16 * 4
    if beAt f i 1 == 8 && decide (beAt f (e + 2) 2 ≤ i - e + 8 + 256) then 1 else 0
  else match udpAt f with
    | some u =>
      let port := beAt f (u + 2) 2
      if (port == sessionPort && [0, 1, 2, 3].any (fun n => (s.session n).isOpen)) || (s.vmOf port).isSome then 2 else 0
    | none => 0

/-- The head frame of port 4 is dropped and counted, a fragment too (R282, R342), or reaches the firmware through buffers of owner 0x40, is
answered or accepted; without buffers it is dropped (R343). -/
def execInternalPortFrame (s : State) : Out :=
  .next (if !s.netRuns then s
    else match s.txHead 4 with
      | none => s
      | some f =>
        let s := s.withNet { s.net with txq := s.net.txq.erase f }
        let act := s.portAction f.bytes
        if act == 0 then s.inc (F.SW_PSTAT_VDROP 4)
        else match s.frameBufs 0x40 f.bytes with
          | none => s.noBuf
          | some (bs, t) =>
            if act == 1 then ((t.sendFrame (Config.netAnswer f.bytes t.macAddr t.net.ip)).2).freeBufs bs
            else
              let u := (udpAt f.bytes).getD 0
              let payload := bytesAt f.bytes (u + 8) (beAt f.bytes (u + 4) 2 - 8)
              t.withNet { t.net with rx := t.net.rx ++ [(bs, payload)] })

/-- The firmware takes an accepted payload: its buffers go free. -/
def State.takeRx (s : State) (payload : List Byte) : State :=
  match s.net.rx.find? (fun x => x.2 == payload) with
  | some x => (s.withNet { s.net with rx := s.net.rx.erase x }).freeBufs x.1
  | none => s

/-- A virtual-master datagram (R362). -/
def execVmDatagram (port : BitVec 16) (src : BitVec 32) (bytes : List Byte) (s : State) : Out :=
  .next (if !s.netRuns || !s.supRuns then s
    else
      let s := s.takeRx bytes
      match s.vmOf port.toNat with
      | none => s.inc (F.SW_PSTAT_VDROP 4)
      | some k =>
        let b := s.vmBind k
        let seq := numAt bytes 2 2
        if src.toNat != b.src || bytes.length != 24 || numAt bytes 0 2 != 0x7E17 || decide (seq < b.next) then
          s.setVmBind k { b with drops := b.drops + 1 }
        else
          let s := s.setVmBind k { b with next := seq + 1 }
          if !s.islandsRun then s
          else
            let s := s.wr64 (R.PU_VMPOSF k) (R.PU_VMPOSI k) (numAt bytes 4 8)
            let s := (s.wr (R.PU_VMVEL k) (BitVec.ofNat 32 (numAt bytes 12 4))).wr (R.PU_VMTL k) (BitVec.ofNat 32 (numAt bytes 16 4))
            s.vmthWrite k (BitVec.ofNat 32 (numAt bytes 20 4)))

/-- A wake frame on ETH_2 (R361); R43 where it meets the acceptance of a Standby request. -/
def execWakeFrame (bytes : List Byte) (s : State) : Out :=
  let dst := beAt bytes 0 6
  let id := numAt bytes 18 1
  let ok := (dst == s.macAddr || dst == 0xFFFFFFFFFFFF) && beAt bytes 12 2 == 0x88B5 && decide (19 ≤ bytes.length) &&
    numAt bytes 14 4 == (s.rd R.SW_WAKEKEY).toNat && (id == s.fld F.STRAP_VAL_NODEID || id == 0xFF)
  .next (if ok then s.wakeRequest 1 else s)

/-! ## gPTP and the servo (R345 to R355) -/

def roleMaster : Nat := 1
def roleSlave : Nat := 2

def State.role (s : State) (p : Nat) : Nat := s.net.roles.getD p 0

/-- A rate that takes an offset toward 0 (R353): below the rate at which local time keeps up with the master where local time is ahead, above
it where it is behind, within the limit of R350. That rate follows from the oscillator's error, and which of the rates on its side the
servo takes is not stated: both free (assumption log 34). -/
def servoRate (off : Int) (v : Nat) : Nat :=
  let lo := rateNominal - rateLimit
  let hi := rateNominal + rateLimit
  let n := clampN lo hi Config.neutralRate
  if 0 < off then lo + v % Nat.max 1 (n - lo) else if off < 0 then hi - v % Nat.max 1 (hi - n) else n

/-- One measured offset is corrected (R353, R354): by the epoch's one step, or by rate. EV_168 is asserted as DISC rises (R289; DEDUCED,
assumption log 34). -/
def State.servo (s : State) (off : Int) : State :=
  let lock := s.fld F.TU_CFG_LOCKTH * 65536
  let far := s.fld F.TU_CFG_STEPTH * 1000 * 65536
  let mag := off.natAbs
  let s := s.withNet { s.net with offset := off }
  let s :=
    if decide (lock < mag) && (s.stepReason (-off)).isNone then (s.wr64 R.TU_STEPL R.TU_STEPH (uns 64 (-off))).applyStep
    else
      let (v, s) := s.draw
      let rate := servoRate off v
      let s := (s.wr R.TU_RATEREQL (BitVec.ofNat 32 rate)).put F.TU_RATEREQH_RATE (rate / 2 ^ 32)
      let s := s.applyRate rate
      if decide (far < mag) && !s.flag F.TU_STAT_DISC then (s.put F.TU_STAT_DISC 1).assertEv 168 else s
  let good := if decide (mag ≤ lock) then bump 8 s.net.good else 0
  let s := s.withNet { s.net with good := good }
  let s := if decide (mag ≤ lock) then s.put F.TU_STAT_DISC 0 else s
  if good == 8 then s.put F.TU_STAT_SYNC 1
  else if decide (4 * lock < mag) then s.put F.TU_STAT_SYNC 0 else s

/-- A Sync in its one-step form (R347): a two-step one takes the master time of its Follow_Up. -/
def oneStepSync (f : List Byte) (h : Nat) (origin : Int) : List Byte :=
  if !(beAt f (h + 6) 1).testBit 1 then f
  else setOrigin (putBe f (h + 6) 1 (putBit (beAt f (h + 6) 1) 1 false)) h origin

/-- A one-step Sync, received on port `p` at `inAt` with origin time `origin`, is sent on by every master port (R349). -/
def State.relaySync (s : State) (p : Nat) (bytes : List Byte) (h : Nat) (origin inAt : Int) : State :=
  s.each ([0, 1, 2, 3].filter (fun q => s.role q == roleMaster && s.flag (F.SW_PCFG_EN q))) (fun q t =>
    t.sendOwn q (oneStepSync bytes h origin) p inAt (some (0, beAt bytes (h + 30) 2))
      (some ((s.linkDelay p).ratio, (s.linkDelay p).delay)))

/-- A Sync of domain 0 on an enabled port: its stamp goes to the queue. On the slave port, with its master time `origin` (timestamp and
corrections) in 2^-16 ns, it is relayed to every master port (R347) and measured, unless its stamp is lost (R345). -/
def execGptpSyncReceived (p : Fin 4) (bytes : List Byte) (stamp : Moment) (origin : Int) (s : State) : Out :=
  let h := typeAt bytes + 2
  .next (if !s.netRuns || !s.supRuns || !s.flag (F.SW_PCFG_EN p) || !isGptp bytes || beAt bytes (h + 4) 1 != 0 then s
    else
      let (raw, s) := (s.runOn stamp.adv).macStamp p stamp.back
      match s.rxOwn bytes with
      | none => s.noBuf
      | some (bs, s) =>
        let inAt := raw - s.inLat p
        let d := s.linkDelay p
        let slave := s.role p == roleSlave
        let s := if slave then s.relaySync p bytes h origin inAt else s
        let (kept, s) := s.pushStamp p false 0 (beAt bytes (h + 30) 2) inAt
        (if kept && slave then s.servo (inAt - (origin + d.delay)) else s).freeBufs bs)

/-- No Sync for SYNCTMO intervals: the rate holds, SYNC falls (R355). -/
def execSyncLossTimeout (s : State) : Out :=
  .next (if s.netRuns && s.supRuns && [0, 1, 2, 3].any (fun p => s.role p == roleSlave) then
    (s.put F.TU_STAT_SYNC 0).assertEv 169 else s)

def State.gptpBytes (s : State) (kind p seq : Nat) (t : Int) : List Byte :=
  Config.gptpFrame kind p s.macAddr s.net.prio seq t

/-- A Pdelay_Req is answered by the firmware; a message without its stamp takes no part (R345, R347). -/
def execPdelayReqReceived (p : Fin 4) (sequence : BitVec 16) (stamp : Moment) (s : State) : Out :=
  .next (if !s.netRuns || !s.supRuns || !s.flag (F.SW_PCFG_EN p) then s
    else
      let (raw, s) := (s.runOn stamp.adv).macStamp p stamp.back
      match s.rxOwn [] with
      | none => s.noBuf
      | some (bs, s) =>
        let inAt := raw - s.inLat p
        let (kept, s) := s.pushStamp p false 2 sequence.toNat inAt
        (if kept then s.sendOwn p (s.gptpBytes 3 p sequence.toNat inAt) 4 0 (some (3, sequence.toNat)) none else s).freeBufs bs)

/-- The firmware's interval falls due: a Pdelay_Req (0) on each enabled port; an Announce (1) or a Sync (2) on the master
ports of the grandmaster. -/
def execGptpTimerDue (p : Fin 4) (kind : Fin 3) (s : State) : Out :=
  .next (if !s.netRuns || !s.supRuns || !s.flag (F.SW_PCFG_EN p) ||
      (kind != 0 && !(s.net.grandmaster && s.role p == roleMaster)) then s
    else
      let seq := s.net.seq
      let s := s.withNet { s.net with seq := (seq + 1) % 65536 }
      let s := if kind == 0 then s.setLinkDelay p { s.linkDelay p with req := none } else s
      s.sendOwn p (s.gptpBytes kind p seq s.netTime) 4 0
        (if kind == 0 then some (2, seq) else if kind == 2 then some (0, seq) else none) none)

/-- The firmware measures the link with a stamped response to its own stamped Pdelay_Req, PASYM being the delayAsymmetry (R345, R347). -/
def State.takePdelay (s : State) (p : Nat) (kept : Bool) (seq : Nat) (ts : List Int) : State :=
  let d := s.linkDelay p
  match d.req with
  | some (q, t1) =>
    if kept && q == seq then
      let r := Config.linkDelay (t1 :: ts ++ [sgn 32 (s.fld (F.SW_PASYM_ASYM p))]) d.ratio
      s.setLinkDelay p ⟨r.1, r.2, none⟩
    else s
  | none => s

/-- The response to the device's own Pdelay_Req, with the peer's stamps `t2` and `t3`. -/
def execPdelayRespReceived (p : Fin 4) (sequence : BitVec 16) (stamp : Moment) (t2 t3 : Int) (s : State) : Out :=
  .next (if !s.netRuns || !s.supRuns || !s.flag (F.SW_PCFG_EN p) then s
    else
      let (raw, s) := (s.runOn stamp.adv).macStamp p stamp.back
      match s.rxOwn [] with
      | none => s.noBuf
      | some (bs, s) =>
        let t4 := raw - s.inLat p
        let (kept, s) := s.pushStamp p false 3 sequence.toNat t4
        (s.takePdelay p kept sequence.toNat [t2, t3, t4]).freeBufs bs)

/-- The port roles of the best master clock algorithm, or those of TIME_CFG; the device is grandmaster only with a priority1
below 255 and when it is selected (R347, R348). -/
def State.chooseRoles (s : State) : State :=
  if s.net.static then s.withNet { s.net with grandmaster := false }
  else
    let r := Config.bmca ((List.range 4).map (fun p => SMap.get (fun _ => []) s.net.announces p)) s.net.prio
    s.withNet { s.net with
      roles := (List.range 4).map (fun p => r.1.getD p 0 % 4)
      grandmaster := r.2 && decide (s.net.prio < 255) }

def execAnnounceReceived (p : Fin 4) (bytes : List Byte) (s : State) : Out :=
  .next (if s.netRuns && s.supRuns && s.flag (F.SW_PCFG_EN p) then
    match s.rxOwn bytes with
    | none => s.noBuf
    | some (bs, s) =>
      ((s.withNet { s.net with announces := SMap.set (fun _ => []) s.net.announces p bytes }).chooseRoles).freeBufs bs
  else s)

/-- The head of the timestamp queue is popped (R345); the firmware answers a stamped Pdelay_Resp with its follow-up (R347). -/
def State.tsqPop (s : State) : State :=
  if !s.netRuns then s
  else match s.net.tsq with
    | [] => s
    | e :: l =>
      let s := (s.withNet { s.net with tsq := l }).syncTsq
      if s.supRuns && e.egress && e.msgt == 3 then s.sendOwn e.port (s.gptpBytes 4 e.port e.seq e.time) 4 0 none none else s

/-- POP removes the head. After the stamp of its own Pdelay_Resp the firmware sends the Follow_Up (R347). -/
def execTsqPop (s : State) : Out := .next s.tsqPop

/-! ## Commands 0x40 to 0x4C (R365) -/

def netModes : List Nat := [2, 4, 5, 6, 7, 8, 9, 10]
def netConfigModes : List Nat := [2, 4, 9]

def execNetPortCfg (c : HostCmd) (s : State) : Out :=
  .next (s.hostCmd 0x40 c (fun s =>
    let p := arg c 0 1
    let spd := arg c 2 1
    if !s.inModes netConfigModes then refuseMode s
    else if decide (3 < p) || decide (1 < arg c 1 1) || decide (2 < spd) || decide (4094 < arg c 3 2) || arg c 3 2 == 0 then
      refuse stRange s
    else
      let s := (s.put (F.SW_PCFG_EN p) (arg c 1 1)).put (F.SW_PCFG_PVID p) (arg c 3 2)
      okReply (if decide (2 ≤ p) && spd == 0 then s else s.put (F.SW_PCFG_SPD p) spd)))

def execNetVlanCfg (c : HostCmd) (s : State) : Out :=
  .next (s.hostCmd 0x41 c (fun s =>
    let v := arg c 0 1
    if !s.inModes netConfigModes then refuseMode s
    else if decide (15 < v) || decide (4094 < arg c 1 2) || decide (31 < arg c 3 1) || decide (31 < arg c 4 1) then refuse stRange s
    else
      let s := (s.put (F.SW_VLAN_V v) 1).put (F.SW_VLAN_VID v) (arg c 1 2)
      let s := (s.put (F.SW_VLAN_MEMB v) (arg c 3 1)).put (F.SW_VLAN_UNTAG v) (arg c 4 1)
      okReply (s.put ⟨R.SW_PCPMAP, 0, 16⟩ (arg c 5 2))))

def execNetFdb (c : HostCmd) (s : State) : Out :=
  .next (s.hostCmd 0x42 c (fun s =>
    let i := arg c 0 1
    let mac := arg c 1 6
    if !s.inModes netModes then refuseMode s
    else if decide (15 < i) || decide (31 < arg c 7 1) || decide (1 < arg c 8 1) then refuse stRange s
    else
      let e := if arg c 8 1 == 1 then (true, mac, arg c 7 1) else (false, 0, 0)
      okReply (s.withNet { s.net with fixed := SMap.set (fun _ => (false, 0, 0)) s.net.fixed i e })))

def execNetIpCfg (c : HostCmd) (s : State) : Out :=
  .next (s.hostCmd 0x43 c (fun s =>
    let inv := 2 ^ 32 - 1 - arg c 4 4
    if !s.inModes netConfigModes then refuseMode s
    else if (inv &&& (inv + 1)) != 0 then refuse stRange s
    else okReply (s.withNet { s.net with ip := arg c 0 4, mask := arg c 4 4, gateway := arg c 8 4 })))

def execNetStatus (c : HostCmd) (s : State) : Out :=
  .next (s.hostCmd 0x44 c (fun s =>
    let p := arg c 0 1
    if !s.inModes netModes then refuseMode s
    else if decide (4 < p) then refuse stRange s
    else okResult (s.reg4 (R.SW_PSTAT p) ++ leBytes 1 (s.fld (F.SW_PCFG_LINK p))) s))

/-- TIME_CFG: priority1 (32 bits); roles (32 bits: two bits a port, bit 8 static); LOCKTH, STEPTH, SYNCTMO. -/
def execTimeCfg (c : HostCmd) (s : State) : Out :=
  .next (s.hostCmd 0x45 c (fun s =>
    let r := arg c 4 4
    let roles := (List.range 4).map (fun p => r / 4 ^ p % 4)
    let static := r.testBit 8
    let lock := arg c 8 1
    let step := arg c 9 2
    let tmo := arg c 11 1
    if !s.inModes netConfigModes then refuseMode s
    else if decide (255 < arg c 0 4) || decide (511 < r) || lock == 0 || step == 0 || decide (tmo < 2) ||
        (static && decide (1 < roles.countP (fun x => x == roleSlave))) then refuse stRange s
    else
      let s := ((s.put F.TU_CFG_LOCKTH lock).put F.TU_CFG_STEPTH step).put F.TU_CFG_SYNCTMO tmo
      let s := s.withNet { s.net with prio := arg c 0 4, static := static, roles := if static then roles else s.net.roles }
      okReply s.chooseRoles))

def execTimeStatus (c : HostCmd) (adv : Nat) (s : State) : Out :=
  .next (s.hostCmd 0x46 c (fun s =>
    if !s.inModes netModes then refuseMode s
    else
      let s := s.tuAdvance adv
      okResult (s.reg4 R.TU_STAT ++ leBytes 4 (uns 32 (satS 32 (asr s.net.offset 16))) ++ leBytes 5 s.tuRate ++
        leBytes 8 (uns 64 (asr s.netTime 16)) ++ (List.range 4).map (fun p => BitVec.ofNat 8 (s.role p))) s))

/-- A new epoch begins (R351, R356). -/
def State.newEpoch (s : State) : State := (s.put F.TU_STAT_STEPPED 0).incMod F.TU_STAT_EPOCH

def execTimeRestep (c : HostCmd) (s : State) : Out :=
  .next (s.hostCmd 0x47 c (fun s =>
    if !s.inModes netConfigModes then refuseMode s
    else okReply s.newEpoch))

def execTimeGrid (c : HostCmd) (adv : Nat) (s : State) : Out :=
  .next (s.hostCmd 0x48 c (fun s =>
    let per := arg c 0 4
    if !s.inModes netConfigModes then refuseMode s
    else if decide (per < 1000) || decide (1000000000 < per) || decide (per ≤ arg c 4 4) || decide (1 < arg c 8 1) then
      refuse stRange s
    else
      let s := s.tuAdvance adv
      let on := !s.flag F.TU_CTRL_GRIDEN && arg c 8 1 == 1
      let s := (s.put F.TU_GRIDPER_PER per).put F.TU_GRIDOFS_OFS (arg c 4 4)
      let s := s.put F.TU_CTRL_GRIDEN (arg c 8 1)
      okReply (if on then s.gridRestart else s)))

/-- The network time `t`, in ns, is not in the future. -/
def State.timePassed (s : State) (t : Nat) : Bool := decide ((t : Int) * 65536 ≤ s.netTime)

def execTimeAlarm (c : HostCmd) (adv : Nat) (s : State) : Out :=
  .next (s.hostCmd 0x49 c (fun s =>
    if !s.inModes netModes then refuseMode s
    else
      let s := s.tuAdvance adv
      if s.timePassed (arg c 0 8) || decide (1 < arg c 8 1) then refuse stRange s
      else okReply ((s.wr64 R.TU_ALARML R.TU_ALARMH (arg c 0 8)).put F.TU_CTRL_ALARMEN (arg c 8 1))))

def execNetPortDelay (c : HostCmd) (s : State) : Out :=
  .next (s.hostCmd 0x4A c (fun s =>
    let p := arg c 0 1
    if !s.inModes netConfigModes then refuseMode s
    else if decide (3 < p) then refuse stRange s
    else okReply (((s.put (F.SW_PDLY_INLAT p) (arg c 1 2)).put (F.SW_PDLY_EGLAT p) (arg c 3 2)).put (F.SW_PASYM_ASYM p) (arg c 5 4))))

def execNetVmBind (c : HostCmd) (s : State) : Out :=
  .next (s.hostCmd 0x4B c (fun s =>
    let k := arg c 0 1
    let port := arg c 1 4
    let on := arg c 9 1
    if !s.inModes netConfigModes then refuseMode s
    else if decide (3 < k) || decide (65535 < port) || port == 0 || decide (1 < on) then refuse stRange s
    else if on == 1 && (port == sessionPort || [0, 1, 2, 3].any (fun j => j != k && (s.vmBind j).en && (s.vmBind j).port == port))
      then refuse stBusy s
    else okReply (s.setVmBind k (if on == 1 then ⟨true, port, arg c 5 4, 0, 0⟩ else VmBind.reset))))

def execNetWakeCfg (c : HostCmd) (s : State) : Out :=
  .next (s.hostCmd 0x4C c (fun s =>
    if !s.inModes [modeConfigure, modeReady, modeSafeOff] then refuseMode s
    else okReply (s.wr R.SW_WAKEKEY (BitVec.ofNat 32 (arg c 0 4)))))

end Sys2Proof.Machine
end

