-- ==== Sys2Proof/Machine/Can.lean ====
section
/-!
DEFINITION. The CAN FD controllers (spec/15): frames received and sent, errors and bus-off, Standby, and the commands 0x50 to 0x57.
-/

namespace Sys2Proof.Machine

/-! ## Frames received (R369) -/

/-- A frame received as valid (R369): filtered by the filters of its SOF, queued or rejected; a wake filter requests a wake (R383). -/
def State.canReceive (s : State) (n : Nat) (f : CanFrame) (ns writes : Nat) : State :=
  let (filt, act, wake) := s.canFilter n writes (idWord f.id.toNat)
  if act == 1 || act == 2 then
    let s := s.canPlace n (act - 1) filt f ns
    let s := if wake && decide (n ≤ 1) then (s.put (F.CAN_STAT_WAKE n) 1).wakeRequest 0 else s
    (s.canCheck n).canServeReads
  else s

/-- A read of word 0x00 of QHEAD locks a head (R371). -/
def execQheadLock (n : Fin 8) (q : Fin 2) (s : State) : Out :=
  .next (if (s.canQueue n q).isEmpty then s else s.put (F.CAN_QSTAT_LOCK n q) 1)

/-- A REL write frees a locked head; with no lock held it is ignored (R371, R384). -/
def execQueueRelease (n : Fin 8) (q : Fin 2) (s : State) : Out :=
  .next (if s.flag (F.CAN_QSTAT_LOCK n q) then (s.canRelease n q).canCheck n else s)

/-- A SPLDONE write for the oldest spilled frame. -/
def execSpillDone (n : Fin 8) (s : State) : Out :=
  .next (match (s.can n).spills with
    | [] => s
    | e :: _ => (s.canSpillDone n e).canCheck n)

/-! ## Transmitting (R373 to R377) -/

def canTxb (n b : Nat) : Nat := 0x60020400 + 0x1000 * n + 0x60 * b

def State.canPending (s : State) (n : Nat) : List Nat := bitsOf 16 (s.fld (F.CAN_TXPEND_B n))

/-- Arbitration order of a buffer (R373): base identifier, base before extended, data before remote, extension. -/
def State.canKey (s : State) (n b : Nat) : Nat :=
  let w := idWord (s.rdMem32 (canTxb n b))
  ((w / 2 ^ 18 % 2 ^ 11 * 2 + w / 2 ^ 29 % 2) * 2 + w / 2 ^ 30 % 2) * 2 ^ 18 + w % 2 ^ 18

/-- A frame the controller can send: no FD frame with FDEN = 0 (R367). -/
def State.canSendable (s : State) (n b : Nat) : Bool :=
  s.flag (F.CAN_CFG_FDEN n) || !(s.rdMem32 (canTxb n b + 4)).testBit 4

/-- The pending buffer that would win arbitration, the lowest of equals. -/
def State.canChoice (s : State) (n : Nat) : Option Nat :=
  let l := (s.canPending n).filter (fun b => s.canSendable n b)
  l.find? (fun b => l.all (fun c => decide (s.canKey n b ≤ s.canKey n c)))

/-- The controller may send. -/
def State.canMaySend (s : State) (n : Nat) : Bool :=
  s.canOnBus n && s.canMode n != 1 && s.curMode != modeStandby

/-- An SOF that the controller may use: the chosen buffer is sending. -/
def State.canStart (s : State) (n : Nat) : State :=
  if (s.can n).sending.isSome || !s.canMaySend n then s
  else match s.canChoice n with
    | some b => (s.modCan n (fun x => { x with sending := some b })).put (F.CAN_TXST_RESULT n b) resSending
    | none => s

/-- The same where an SOF follows. -/
def State.startIf (s : State) (n : Nat) (sof : Bool) : State := if sof then s.canStart n else s

/-- An FD frame on a controller without FD (R367): protocol exception and bus integration, or a form error. -/
def State.canFdSeen (s : State) (n : Nat) : State :=
  if s.flag (F.CAN_CFG_PXEN n) then
    ((s.put (F.CAN_STAT_PXE n) 1).put (F.CAN_ERR_STATE n) canIntegrating).assertEv 164
  else
    let s := s.put (F.CAN_STAT_LEC n) 2
    if s.canMode n == 1 then s else s.setRec n (s.fld (F.CAN_ERR_REC n) + 1)

/-- A frame on the bus. In loopback the bus is not listened to (R378). -/
def execCanFrameReceived (n : Fin 8) (frame : CanFrame) (heard : CanHeard) (s : State) : Out :=
  .next (if !s.canOnBus n || s.canMode n == 2 then s
    else
    let rx := heard.rx
    let s := s.runOn rx.sof.adv
    let s := if frame.fdf && !s.flag (F.CAN_CFG_FDEN n) then s.canFdSeen n
      else
        let rec_ := s.fld (F.CAN_ERR_REC n)
        let s := if s.canMode n == 1 || rec_ == 0 then s
          else s.setRec n (if decide (127 < rec_) then 127 else rec_ - 1)
        let s := if s.canMode n == 1 then s else s.put (F.CAN_STAT_LEC n) 0
        s.canReceive n frame (s.nsAt rx.sof.back) rx.writes
    s.startIf n heard.next)

/-- The CAN_TX answer of a RESULT (R377). -/
def canReply (res : Nat) (late : Bool) : Reply :=
  if res == resSent then { status := stOk, detail := if late then 0x41 else 0 }
  else if res == resCancelled then { status := stOk, detail := 0x40 }
  else if res == resAck then { status := stNoack, detail := 0x42 }
  else if res == resOther then { status := stNoack, detail := 0x43 }
  else { status := stState, detail := 0x08 }

/-- A buffer is returned with RESULT `res` (R376): it is free, counted, and its CAN_TX is answered. -/
def State.canReturn (s : State) (n b res : Nat) (late : Bool) : State :=
  let s := (s.put (F.CAN_TXST_RESULT n b) res).putB (F.CAN_TXST_CANCELLATE n b) late
  let s := s.put (F.CAN_TXPEND_B n) (putBit (s.fld (F.CAN_TXPEND_B n)) b false)
  let ctr := if res == resSent then F.CAN_TXDONE_CNT n
    else if res == resCancelled then F.CAN_TXCANCEL_CNT n
    else if res == resFlushed then F.CAN_TXFLUSH_CNT n else F.CAN_TXLIMIT_CNT n
  let s := s.put ctr (s.fld ctr + 1)
  let tag := (s.can n).tags.find? (fun t => t.buf == b)
  let s := s.modCan n (fun x => { x with
    sending := if x.sending == some b then none else x.sending
    cancels := putBit x.cancels b false
    tags := x.tags.filter (fun t => t.buf != b) })
  match tag with
  | some t => s.finishHead t.ch (canReply res late)
  | none => s

/-- Request buffers: those pending already stay as they are (R373). -/
def State.canRequest (s : State) (n : Nat) (l : List Nat) : State :=
  s.each (l.filter (fun b => !(s.canPending n).contains b)) (fun b t =>
    let t := t.wr (R.CAN_TXST n b) 0
    let t := (t.put (F.CAN_TXST_RESULT n b) resPending).put (F.CAN_TXREQN_CNT n) (t.fld (F.CAN_TXREQN_CNT n) + 1)
    t.put (F.CAN_TXPEND_B n) (putBit (t.fld (F.CAN_TXPEND_B n)) b true))

/-- Cancel buffers: at once before their SOF, else at the end of the attempt (R375). -/
def State.canCancel (s : State) (n : Nat) (l : List Nat) : State :=
  s.each (l.filter (fun b => (s.canPending n).contains b)) (fun b t =>
    if (t.can n).sending == some b then t.modCan n (fun x => { x with cancels := putBit x.cancels b true })
    else t.canReturn n b resCancelled false)

/-- `sof`: the bus is idle and the chosen buffer's SOF follows at once. -/
def execTxRequest (n : Fin 8) (bufs : BitVec 16) (sof : Bool) (s : State) : Out :=
  .next (let s := (s.canRequest n (bitsOf 16 bufs.toNat)).canCheck n
    s.startIf n sof)

def execTxCancel (n : Fin 8) (bufs : BitVec 16) (s : State) : Out :=
  .next ((s.canCancel n (bitsOf 16 bufs.toNat)).canCheck n)

/-- The frame of a transmit buffer. -/
def State.canFrameOf (s : State) (n b : Nat) : CanFrame :=
  let w := s.rdMem32 (canTxb n b)
  let f := s.rdMem32 (canTxb n b + 4)
  ⟨BitVec.ofNat 31 w, BitVec.ofNat 4 f, f.testBit 4, f.testBit 5, f.testBit 6, s.rdBytes (canTxb n b + 0x14) 64⟩

/-- An attempt of the chosen buffer ends (R374, R375); where it takes TEC above 255 it fails and bus-off decides what becomes of the buffer
(R384). ATT counts those that are sent or fail (DEDUCED, assumption log 35); `sof`: the next attempt starts at once. -/
def execTxAttemptEnd (n : Fin 8) (out : CanEnd) (sof : Bool) (s : State) : Out :=
  .next (
    let s := s.canStart n
    match (s.can n).sending with
    | none => s
    | some b =>
      if !s.canMaySend n then s
      else
        let cancel := (s.can n).cancels.testBit b
        let s := match out with
          | .sent rx =>
            let s := s.runOn rx.sof.adv
            let ns := s.nsAt rx.sof.back
            let f := s.canFrameOf n b
            let s := (s.inc (F.CAN_TXST_ATT n b)).put (F.CAN_STAT_LEC n) 0
            let s := s.wrBytes (canTxb n b + 0x0C) (leBytes 8 ns)
            let tec := s.fld (F.CAN_ERR_TEC n)
            let s := s.setTec n (tec - 1)
            let s := s.canReturn n b resSent cancel
            if s.canMode n == 2 then s.canReceive n f ns rx.writes else s
          | .lost =>
            if cancel then s.canReturn n b resCancelled false
            else (s.modCan n (fun x => { x with sending := none })).put (F.CAN_TXST_RESULT n b) resPending
          | .failed err =>
            let lec := err.lec
            let s := (s.inc (F.CAN_TXST_ATT n b)).put (F.CAN_STAT_LEC n) lec.toNat
            let free := err.exempt && (lec == 1 || (lec == 3 && s.fld (F.CAN_ERR_STATE n) == canPassive))
            let s := s.setTec n (s.fld (F.CAN_ERR_TEC n) + (if free then 0 else 8) + 8 * err.eights)
            let retr := s.fld (F.CAN_CFG_RETR n)
            if decide (255 < s.fld (F.CAN_ERR_TEC n)) then
              (s.modCan n (fun x => { x with sending := none })).put (F.CAN_TXST_RESULT n b) resPending
            else if decide (retr < 16) && decide (retr < s.fld (F.CAN_TXST_ATT n b)) then
              ((s.canReturn n b (if lec == 3 then resAck else resOther) false).put (F.CAN_STAT_NOACK n) 1).assertEv 163
            else if cancel then s.canReturn n b resCancelled false
            else (s.modCan n (fun x => { x with sending := none })).put (F.CAN_TXST_RESULT n b) resPending
        let s := s.canCheck n
        s.startIf n sof)

/-- Every pending buffer is returned with RESULT 0x7. -/
def State.canFlush (s : State) (n : Nat) : State :=
  s.each (s.canPending n) (fun b t => t.canReturn n b resFlushed false)

/-! ## Errors and bus-off (R367, R379, R380) -/

/-- A bus error the controller detects while it does not transmit; in listen-only mode the counters do not change (R378). -/
def execCanBusError (n : Fin 8) (err : CanError) (s : State) : Out :=
  .next (if !s.canOnBus n || s.canMode n == 2 then s
    else
      let quiet := s.canMode n == 1
      match err with
      | .fdFrame next => if s.flag (F.CAN_CFG_FDEN n) then s else (s.canFdSeen n).startIf n next
      | .receive lec eights next =>
        let s := s.put (F.CAN_STAT_LEC n) lec.toNat
        (if quiet then s else s.setRec n (s.fld (F.CAN_ERR_REC n) + 1 + 8 * eights)).startIf n next
      | .overload tx eights next =>
        (if quiet then s
          else if tx then s.setTec n (s.fld (F.CAN_ERR_TEC n) + 8 * eights)
          else s.setRec n (s.fld (F.CAN_ERR_REC n) + 8 * eights)).startIf n next)

/-- TEC exceeds 255. A cancel that waited for the end of the attempt acts now (R375), unless the buffer is flushed. -/
def execBusOff (n : Fin 8) (s : State) : Out :=
  .next (if s.canRuns n && decide (255 < s.fld (F.CAN_ERR_TEC n)) && s.fld (F.CAN_ERR_STATE n) != canBusOff then
    let s := ((s.put (F.CAN_ERR_STATE n) canBusOff).put (F.CAN_ERR_BORCNT n) 0).put (F.CAN_STAT_BOFF n) 1
    let s := match (s.can n).sending with
      | some b => s.put (F.CAN_TXST_RESULT n b) resPending
      | none => s
    let s := s.modCan n (fun x => { x with sending := none, recovering := s.flag (F.CAN_CFG_BOAUTO n) })
    let s := if s.flag (F.CAN_CFG_BOFLUSH n) then s.canFlush n
      else s.each ((s.canPending n).filter (fun b => (s.can n).cancels.testBit b)) (fun b t => t.canReturn n b resCancelled false)
    (s.canCheck n).assertEv 160
  else s)

/-- 128 recessive sequences are complete: error-active, counters 0; the bus is idle, and a pending buffer's SOF follows. -/
def execBusoffRecovered (n : Fin 8) (s : State) : Out :=
  .next (if s.canRuns n && s.fld (F.CAN_ERR_STATE n) == canBusOff && (s.can n).recovering then
    let s := (s.wr (R.CAN_ERR n) 0).put (F.CAN_ERR_BORCNT n) 128
    (s.modCan n (fun x => { x with recovering := false })).canStart n
  else s)

def execStuckDominant (n : Fin 8) (s : State) : Out :=
  .next (if s.canRuns n then (s.put (F.CAN_STAT_STUCKD n) 1).assertEv 165 else s)

/-- Bus integration ends on an idle bus: a pending buffer's SOF follows. -/
def execBusIntegrationDone (n : Fin 8) (s : State) : Out :=
  .next (if s.canRuns n && s.fld (F.CAN_ERR_STATE n) == canIntegrating then
    ((s.put (F.CAN_ERR_STATE n) canActive).canErrState n).canStart n else s)

/-- Enable a stopped controller: RXSEQ from 0, bus integration (R366, R370); or disable one: its pending buffers are returned. -/
def State.canEnable (s : State) (n : Nat) (en : Bool) : State :=
  if en == s.flag (F.CAN_CTRL_EN n) then s
  else if en then
    let s := s.put (F.CAN_CTRL_EN n) 1
    let s := (s.put (F.CAN_QSTAT_NEXTSEQ n 0) 0).put (F.CAN_QSTAT_NEXTSEQ n 1) 0
    if s.fld (F.CAN_ERR_STATE n) == canBusOff then s else s.put (F.CAN_ERR_STATE n) canIntegrating
  else
    let s := s.put (F.CAN_CTRL_EN n) 0
    (s.canFlush n).canCheck n

/-! ## Standby (R382) -/

/-- The registers of a controller that the firmware copies and restores. -/
def canCopied (n : Nat) : List Nat :=
  [R.CAN_CTRL n, R.CAN_CFG n, R.CAN_NBT n, R.CAN_DBT n] ++ (List.range 32).flatMap (fun f => [R.CAN_FLTM n f, R.CAN_FLTK n f])

def State.canStandby (s : State) : State :=
  let s := s.each (List.range 8) (fun n t => (t.canFlush n).canCheck n)
  s.each [2, 3, 4, 5, 6, 7] (fun n t =>
    let t := t.each (canCopied n) (fun a u => u.withCtxCopy (SMap.set (fun _ => 0) u.ctxCopy a (u.rd a)))
    t.put (F.CAN_CTRL_EN n) 0)

/-- At wake CAN_2 to CAN_7 stand at reset, but for a failure flag with its counters (R420), and are configured again from the firmware's
copies; reads held across Standby are served. -/
def State.canWake (s : State) : State :=
  s.each [2, 3, 4, 5, 6, 7] (fun n t =>
    let kept := fun a => t.flag (F.CAN_INV_INVERR n) && decide (R.CAN_RXACC n ≤ a ∧ a ≤ R.CAN_INV n)
    let t := t.withRegs (t.regs.filter (fun e => !decide (0x60020000 + 0x1000 * n ≤ e.1 ∧ e.1 < 0x60021000 + 0x1000 * n) || kept e.1))
    let t := t.withMem (t.mem.filter (fun e => !decide (0x60020000 + 0x1000 * n ≤ e.1 ∧ e.1 < 0x60021000 + 0x1000 * n)))
    let t := t.each (t.can n).spills (fun e u => u.setOwner e.2.2 0)
    let t := t.setCan n { CanNode.reset with reads := (t.can n).reads }
    let en := SMap.get (fun _ => (0 : Word)) t.ctxCopy (R.CAN_CTRL n) == 1
    let t := t.each ((canCopied n).drop 1) (fun a u => u.wr a (SMap.get (fun _ => 0) u.ctxCopy a))
    t.canEnable n en)

/-- SUP reads the counters of the controllers that recover from bus-off: how many of the 128 recessive sequences have been counted since
is free (R379; assumption log 5). -/
def State.canCount (s : State) (addrs : List Nat) : State :=
  s.each ((List.range 8).filter (fun n => (s.can n).recovering && addrs.any (fun a => a / 4 * 4 == R.CAN_ERR n))) (fun n t =>
    let (v, t) := t.draw
    let b := t.fld (F.CAN_ERR_BORCNT n)
    t.put (F.CAN_ERR_BORCNT n) (b + v % (128 - b)))

/-! ## Commands 0x50 to 0x57 (R386) -/

def canModes : List Nat := [2, 4, 5, 6, 7, 8, 9]

/-- The settings of R368 are allowed. -/
def canTimingOk (nbt dbt : Nat) : Bool :=
  let nseg1 := nbt / 2 ^ 17 % 256 + 1
  let nseg2 := nbt / 2 ^ 10 % 128 + 1
  let nclk := (nbt % 512 + 1) * (1 + nseg1 + nseg2)
  let dseg1 := dbt / 2 ^ 15 % 32 + 1
  let dseg2 := dbt / 2 ^ 11 % 16 + 1
  let dbrp := dbt % 32 + 1
  let dclk := dbrp * (1 + dseg1 + dseg2)
  decide (80 ≤ nclk) && decide (10 ≤ dclk) && decide (2 ≤ nseg2) && decide (2 ≤ dseg2) &&
    decide (nbt / 2 ^ 25 % 128 + 1 ≤ nseg2) && decide (dbt / 2 ^ 20 % 16 + 1 ≤ dseg2) &&
    (dbt.testBit 31 || !(decide (dbrp ≤ 2) && decide (dclk < 80)))

def execCanCfg (c : HostCmd) (s : State) : Out :=
  .next (s.hostCmd 0x50 c (fun s =>
    let n := arg c 0 1
    let cfg := arg c 1 4
    let nbt := arg c 5 4
    let dbt := arg c 9 4
    if !s.inModes netConfigModes then refuseMode s
    else if decide (7 < n) then refuse stRange s
    else if s.flag (F.CAN_CTRL_EN n) then refuse stState s
    else if !canTimingOk nbt dbt || (cfg.testBit 17 && decide (2 ≤ n)) then refuse stRange s
    else
      let s := s.wr (R.CAN_CFG n) (BitVec.ofNat 32 (cfg / 1024 * 1024))
      let s := s.wr (R.CAN_NBT n) (BitVec.ofNat 32 (putBit nbt 9 false))
      okReply (s.wr (R.CAN_DBT n) (BitVec.ofNat 32 (dbt / 2048 * 2048 + dbt % 32)))))

def execCanFilter (c : HostCmd) (s : State) : Out :=
  .next (s.hostCmd 0x51 c (fun s =>
    let n := arg c 0 1
    let f := arg c 1 1
    let k := arg c 6 4
    if !s.inModes canModes then refuseMode s
    else if decide (7 < n) || decide (31 < f) || (k.testBit 31 && decide (2 ≤ n)) then refuse stRange s
    else
      let s := s.writeFilter n (R.CAN_FLTM n f) (BitVec.ofNat 32 (arg c 2 4))
      okReply (s.writeFilter n (R.CAN_FLTK n f) (BitVec.ofNat 32 (putBit k 30 false)))))

def execCanStart (c : HostCmd) (s : State) : Out :=
  .next (s.hostCmd 0x52 c (fun s =>
    if !s.inModes canModes then refuseMode s
    else okReply (s.each (bitsOf 8 (arg c 0 1)) (fun n t => t.canEnable n ((arg c 1 1).testBit 0)))))

/-- CAN_TX takes a free buffer; its response waits for RESULT (R377). -/
def execCanTx (c : HostCmd) (sof : Bool) (s : State) : Out :=
  .next (s.hostCmdW 0x53 c (fun s =>
    let n := arg c 0 1
    let id := arg c 4 4 % 2 ^ 31
    let flags := arg c 8 4 % 128
    let len := if id.testBit 30 then 0 else dlcBytes (flags.testBit 4) (flags % 16)
    let no : Nat → Nat → Step8 := fun st d => .done { status := st, detail := d } s
    if !s.inModes canModes then no stState 0x08
    else if decide (7 < n) then no stRange 0
    else match bufList16.find? (fun b => !(s.canPending n).contains b) with
      | none => no stBusy 0x44
      | some b =>
        if s.canMode n == 1 || !s.flag (F.CAN_CTRL_EN n) ||
            (s.fld (F.CAN_ERR_STATE n) == canBusOff && s.flag (F.CAN_CFG_BOFLUSH n)) then no stState 0
        else if decide (32 < len) && c.handles.isEmpty then no stMalformed 0x04
        else
          let data := if decide (32 < len) then (s.attached c).take len else bytesAt c.param 0x0C len
          let s := (s.wrMem32 (canTxb n b) id).wrMem32 (canTxb n b + 4) flags
          let s := s.wrBytes (canTxb n b + 0x14) (bytesAt data 0 64)
          let s := s.modCan n (fun x => { x with tags := x.tags ++ [⟨b, arg c 2 2, c.ch⟩] })
          let s := (s.canRequest n [b]).canCheck n
          .waits (s.startIf n sof)))

def execCanTxCancel (c : HostCmd) (s : State) : Out :=
  .next (s.hostCmd 0x54 c (fun s =>
    let n := arg c 0 1
    if !s.inModes canModes then refuseMode s
    else if decide (7 < n) then refuse stRange s
    else match (s.can n).tags.find? (fun t => t.tag == arg c 1 2) with
      | none => refuse stRange s
      | some t => okReply ((s.canCancel n [t.buf]).canCheck n)))

def execCanRxRead (c : HostCmd) (s : State) : Out :=
  .next (s.hostCmdW 0x55 c (fun s =>
    let n := arg c 0 1
    let q := arg c 1 1
    let k := arg c 2 1
    let wait := arg c 3 4
    if !s.inModes canModes then .done { status := stState, detail := 0x08 } s
    else if decide (7 < n) || decide (1 < q) || k == 0 || decide (12 < k) || decide (1000 < wait) then
      .done { status := stRange } s
    else if s.canAvail n q == 0 && decide (0 < wait) then
      .waits (s.modCan n (fun x => { x with reads := x.reads ++ [(c.ch.val, q, k)] }))
    else if s.canAvail n q == 0 then
      let (v, s) := s.draw
      .done { status := stOk, result := leBytes 1 0 ++ leBytes 2 v } s
    else let (r, s) := s.canDeliver c.ch n q k; .done r s))

/-- The wait of a held read ends: what is available is delivered; without a frame count 0, the first RXSEQ open. -/
def execRxReadWaitEnd (k : Fin 16) (s : State) : Out :=
  .next (if !s.supRuns then s
  else
    let s := s.canServeReads
    match (List.range 8).find? (fun n => (s.can n).reads.any (fun r => r.1 == k.val)) with
    | some n =>
      let s := s.modCan n (fun x => { x with reads := x.reads.filter (fun r => r.1 != k.val) })
      let (v, s) := s.draw
      s.finishHead k { status := stOk, result := leBytes 1 0 ++ leBytes 2 v }
    | none => s)

/-- The counters of R381 in address order. -/
def State.canCounters (s : State) (n : Nat) : List Byte :=
  (List.range 9).flatMap (fun i => s.reg4 (R.CAN_RXACC n + 4 * i))

def execCanStatus (c : HostCmd) (s : State) : Out :=
  .next (s.hostCmd 0x56 c (fun s =>
    let n := arg c 0 1
    if !s.inModes (canModes ++ [modeRecovery]) then refuseMode s
    else if decide (7 < n) then refuse stRange s
    else
      let s := s.canCount [R.CAN_ERR n]
      replyWith c.ch (s.reg4 (R.CAN_ERR n) ++ s.reg4 (R.CAN_STAT n) ++ s.reg4 (R.CAN_QSTAT n 0) ++ s.reg4 (R.CAN_QSTAT n 1) ++
      s.canCounters n ++ s.reg4 (R.CAN_INV n)) s))

def execCanBusoffRecover (c : HostCmd) (s : State) : Out :=
  .next (s.hostCmd 0x57 c (fun s =>
    let n := arg c 0 1
    if !s.inModes canModes then refuseMode s
    else if decide (7 < n) then refuse stRange s
    else if s.fld (F.CAN_ERR_STATE n) != canBusOff || s.flag (F.CAN_CFG_BOAUTO n) then refuse stState s
    else okReply (s.modCan n (fun x => { x with recovering := true }))))

end Sys2Proof.Machine
end

