-- ==== Sys2Proof/Machine/Field.lean ====
section
/-!
DEFINITION. The 24 V field inputs and outputs and the field-supply monitor (spec/16).
-/

namespace Sys2Proof.Machine

def inputList : List Nat := List.range 32

/-! ## Inputs (R387 to R394) -/

/-- Input `n` is sampled by pulses: always in Standby (R391, R392). -/
def State.inPulsed (s : State) (n : Nat) : Bool := s.curMode == modeStandby || s.flag (F.FIO_ICFG_PULSE n)

/-- Input `n` is sampled at all: enabled, and in Standby with ALL or as a wake input (R392). -/
def State.inSampled (s : State) (n : Nat) : Bool :=
  s.fieldUp && s.flag (F.FIO_ICFG_EN n) &&
    (s.curMode != modeStandby || s.flag F.FIO_SBCFG_ALL || (s.rd R.FIO_WAKE).toNat.testBit n)

/-- The debounced level of the raw input: LVL before POL. -/
def State.inRawLvl (s : State) (n : Nat) : Bool := s.flag (F.FIO_ISTAT_LVL n) != s.flag (F.FIO_ICFG_POL n)

def State.setLvl (s : State) (n : Nat) (b : Bool) : State :=
  (s.putB (F.FIO_ISTAT_LVL n) b).putB ⟨R.FIO_LEVELS, n, 1⟩ b

/-- Set or clear VALID; an invalid input shows the level it was last valid with or is forced active, and a debounce in progress is dropped
(R394). -/
def State.setInValid (s : State) (n : Nat) (b : Bool) : State :=
  let s := if s.flag (F.FIO_ISTAT_VALID n) && !b then s.modFin n (fun x => { x with held := s.flag (F.FIO_ISTAT_LVL n) }) else s
  let s := (s.putB (F.FIO_ISTAT_VALID n) b).putB ⟨R.FIO_VALIDS, n, 1⟩ b
  let s := s.modFin n (fun x => { x with agree := 0 })
  if b then s else s.setLvl n (s.flag (F.FIO_ICFG_INVLVL n) || (s.fin n).held)

/-- Whether input `n` is valid (R394). -/
def State.inValid (s : State) (n : Nat) : Bool :=
  s.flag (F.FIO_ICFG_EN n) && !(s.flag (F.FIO_ICFG_WBEN n) && decide (8 ≤ (s.fin n).wbRun)) && !s.flag F.FSM_STAT_INVIN

/-- VALID follows its conditions; an input that stays invalid shows the level that INVLVL selects. Without WBEN or EN no measurement
counts (R393), and in continuous sampling no sample. -/
def State.refreshIn (s : State) (n : Nat) : State :=
  let s := s.modFin n (fun x => { x with
    wbRun := if s.flag (F.FIO_ICFG_EN n) && s.flag (F.FIO_ICFG_WBEN n) then x.wbRun else 0
    agree := if s.inPulsed n then x.agree else 0 })
  if s.inValid n && s.flag (F.FIO_ISTAT_VALID n) then s else s.setInValid n (s.inValid n)

/-- An edge of the debounced level: RISE or FALL, and the wake request of an enabled wake input (R389, R392). -/
def State.inEdge (s : State) (n : Nat) : State :=
  let b := s.flag (F.FIO_ISTAT_RAW n) != s.flag (F.FIO_ICFG_POL n)
  let s := s.modFin n (fun x => { x with agree := 0 })
  let s := (s.setLvl n b).put (if b then F.FIO_ISTAT_RISE n else F.FIO_ISTAT_FALL n) 1
  if (s.rd R.FIO_WAKE).toNat.testBit n then s.wakeRequest 2 else s

/-- A rejected change: CHAT, and CHATTER from CHTH of them on within one 1 s window, with the source at the CHTH-th (R289; DEDUCED,
assumption log 36); `win`: a new window has begun (R389). -/
def State.inReject (s : State) (n : Nat) (win : Bool) : State :=
  let s := s.inc (F.FIO_ISTAT_CHAT n)
  let c := if win then 1 else (s.fin n).chat + 1
  let s := s.modFin n (fun x => { x with chat := c })
  let th := Nat.max 1 (s.fld (F.FIO_ICFG_CHTH n))
  let s := if decide (th ≤ c) then s.put (F.FIO_ISTAT_CHATTER n) 1 else s
  if c == th then s.assertEv 177 else s

/-- An edge of the raw level triggers capture units (R184). -/
def State.rawEdge (s : State) (n : Nat) (rise : Bool) : State :=
  s.captureDue 0 (fun k => s.fld (F.ENC_CAPCFG_TRIGI k) == n && (s.fld (F.ENC_CAPCFG_EDGE k)).testBit (if rise then 0 else 1))

/-- The raw level of a continuously sampled input changes; a return to the debounced level is a rejected change. -/
def execInputRawChange (n : Fin 32) (level win : Bool) (s : State) : Out :=
  .next (if !s.inSampled n || s.inPulsed n || s.flag (F.FIO_ISTAT_RAW n) == level then s
    else
      let s := (s.putB (F.FIO_ISTAT_RAW n) level).rawEdge n level
      if s.flag (F.FIO_ISTAT_VALID n) && level == s.inRawLvl n then s.inReject n win else s)

/-- The debounce of a continuously sampled input completes. -/
def execInputEdge (n : Fin 32) (s : State) : Out :=
  .next (if s.inSampled n && !s.inPulsed n && s.flag (F.FIO_ISTAT_VALID n) && s.flag (F.FIO_ISTAT_RAW n) != s.inRawLvl n then
    s.inEdge n else s)

/-- Samples that must agree in pulsed sampling (R388): max(1, ⌈DEB × 0.1 ms / interval⌉). -/
def State.inNeed (s : State) (n : Nat) : Nat :=
  let deb := clampN 1 250 (s.fld (F.FIO_ICFG_DEB n))
  let iv := clampN 1 1000 (if s.curMode == modeStandby then s.fld F.FIO_PCFG_SBINT else s.fld F.FIO_PCFG_RUNINT)
  Nat.max 1 ((deb + iv - 1) / iv)

/-- The entry to Standby: a debounce in progress on a continuously sampled input goes on in samples (R392). How many of them its time counts
for is free (DESIGN CHOICE, assumption log 36). -/
def State.pulseInputs (s : State) : State :=
  s.each (inputList.filter (fun n => !s.inPulsed n && s.flag (F.FIO_ISTAT_VALID n) && s.flag (F.FIO_ISTAT_RAW n) != s.inRawLvl n))
    (fun n t =>
      let (v, t) := t.draw
      t.modFin n (fun x => { x with agree := v }))

/-- One sample of a pulsed input; its debounce completes at the last agreeing sample, and a return before that is a rejected change. -/
def execPulseSample (n : Fin 32) (level win : Bool) (s : State) : Out :=
  .next (if !s.inSampled n || !s.inPulsed n then s
    else
      let was := s.flag (F.FIO_ISTAT_RAW n)
      let s := if was == level then s else s.rawEdge n level
      let s := s.putB (F.FIO_ISTAT_RAW n) level
      if !s.flag (F.FIO_ISTAT_VALID n) then s
      else
        let x := s.fin n
        let d := s.inRawLvl n
        if level == d then
          let s := s.modFin n (fun x => { x with agree := 0 })
          if was != d then s.inReject n win else s
        else if decide (s.inNeed n ≤ x.agree + 1) then s.inEdge n
        else s.modFin n (fun x => { x with cand := level, agree := x.agree + 1 }))

/-- A current measurement of an open contact (R393): from the eighth low one in a row on WB is set, with EV_176 each time it rises. -/
def execWireBreakMeasure (n : Fin 32) (low : Bool) (s : State) : Out :=
  .next (if !s.inSampled n || !s.flag (F.FIO_ICFG_WBEN n) || s.flag (F.FIO_ISTAT_RAW n) then s
    else if low then
      let s := s.modFin n (fun x => { x with wbRun := bump 8 x.wbRun })
      if decide ((s.fin n).wbRun < 8) || s.flag (F.FIO_ISTAT_WB n) then s
      else ((s.put (F.FIO_ISTAT_WB n) 1).refreshIn n).assertEv 176
    else ((s.modFin n (fun x => { x with wbRun := 0 })).put (F.FIO_ISTAT_WB n) 0).refreshIn n)

/-! ## Outputs (R395 to R400) -/

/-- Outputs may be on: FIELD runs, outside Standby (R400). -/
def State.outsMay (s : State) : Bool := s.fieldUp && s.curMode != modeStandby

def outList : List Nat := List.range 16

/-- ISUM is the sum of the output currents (R396). -/
def State.syncIsum (s : State) : State :=
  s.put F.FIO_OTOT_ISUM (Nat.min 4095 ((outList.map (fun m => s.fld (F.FIO_OSTAT_ILOAD m))).foldl (· + ·) 0))

/-- ON follows its condition (R395); an output that is off carries no current. -/
def State.refreshOut (s : State) (m : Nat) : State :=
  let on := s.outsMay && s.flag (F.FIO_OCFG_EN m) && s.flag ⟨R.FIO_OSET, m, 1⟩ &&
    !s.flag (F.FIO_OSTAT_LATCH m) && !s.flag F.FSM_STAT_CUT
  let s := s.putB (F.FIO_OSTAT_ON m) on
  if on then s else ((s.put (F.FIO_OSTAT_ILOAD m) 0).put (F.FIO_OSTAT_LIM m) 0).syncIsum

def State.refreshOuts (s : State) : State := s.each outList (fun m t => t.refreshOut m)

/-- An output is switched off and latched (R397). -/
def State.latchOut (s : State) (m : Nat) : State :=
  (s.put (F.FIO_OSTAT_LATCH m) 1).refreshOut m

/-- Current limit for LIMT on output `m`, or ISUM above 2 A for 10 ms. -/
def execOutputOverloadTrip (m : Option (Fin 16)) (s : State) : Out :=
  .next (if !s.outsMay then s
    else match m with
      | some m => if s.flag (F.FIO_OSTAT_ON m) then ((s.put (F.FIO_OSTAT_OVL m) 1).latchOut m).assertEv 178 else s
      | none =>
        if outList.any (fun m => s.flag (F.FIO_OSTAT_ON m)) then
          ((s.put F.FIO_OTOT_TOTOVL 1).each outList (fun m t => t.latchOut m)).assertEv 178
        else s)

def execOutputThermalShutdown (m : Fin 16) (s : State) : Out :=
  .next (if s.outsMay then ((s.put (F.FIO_OSTAT_TSD m) 1).latchOut m).assertEv 179 else s)

/-- An open load of an output that is on, or that is off with OLOFF = 1. -/
def execOpenLoadDetect (m : Fin 16) (s : State) : Out :=
  .next (if s.outsMay && (s.flag (F.FIO_OSTAT_ON m) || s.flag (F.FIO_OCFG_OLOFF m)) then
    (s.put (F.FIO_OSTAT_OL m) 1).assertEv 180 else s)

/-! ## The monitor (R401, R402) -/

/-- A measurement of VFLD; every 1 ms it is copied into WU.VFLD. -/
def execVfldMeasure (v : BitVec 16) (copy : Bool) (s : State) : Out :=
  .next (if !s.fieldUp then s
    else
      let s := s.put F.FSM_STAT_VFLD v.toNat
      let s := s.put F.FSM_VMIN_VMIN (Nat.min v.toNat (s.fld F.FSM_VMIN_VMIN))
      if copy && s.islandsRun then s.put F.WU_VFLD_VFLD v.toNat else s)

/-- The measured VFLD, in 10 mV, lies beyond the threshold of a condition, or beyond its return level (R401). -/
def vfldBeyond (cond : Nat) (enter : Bool) (v : Nat) : Bool :=
  match cond, enter with
  | 0, true => decide (3600 < v)
  | 0, false => decide (v < 3500)
  | 1, true => decide (v < 1800)
  | 1, false => decide (1850 < v)
  | 2, true => decide (v < 1400)
  | 2, false => decide (1450 < v)
  | 3, _ => decide (v < 900)
  | _, true => decide (v < 700)
  | _, false => decide (750 < v)

/-- The monitor is in a condition; each crossing of 9 V is a cut-off of its own. -/
def State.vfldIn (s : State) (cond : Nat) : Bool :=
  match cond with
  | 0 => s.flag F.FSM_STAT_HIGH
  | 1 => s.flag F.FSM_STAT_LOW
  | 2 => s.flag F.FSM_STAT_INVIN
  | 3 => false
  | _ => s.flag F.FSM_STAT_MISS

/-- VFLD has been 50 µs beyond a threshold, or beyond its return level: 0 high, 1 low, 2 inputs invalid, 3 cut-off, 4 missing. -/
def execVfldThreshold (cond : Fin 5) (enter : Bool) (s : State) : Out :=
  .next (if !s.fieldUp || s.vfldIn cond == enter || !vfldBeyond cond enter (s.fld F.FSM_STAT_VFLD) then s
    else match cond.val with
      | 0 => if enter then ((s.put F.FSM_STAT_HIGH 1).put F.FSM_EVT_HIGHF 1).assertEv 181 else s.put F.FSM_STAT_HIGH 0
      | 1 => if enter then ((s.put F.FSM_STAT_LOW 1).put F.FSM_EVT_LOWF 1).assertEv 181 else s.put F.FSM_STAT_LOW 0
      | 2 => (s.putB F.FSM_STAT_INVIN enter).each inputList (fun n t => t.refreshIn n)
      | 3 =>
        if enter then
          let s := ((s.put F.FSM_STAT_CUT 1).put F.FSM_EVT_CUTF 1).inc F.FSM_EVT_CUTCNT
          let s := s.each outList (fun m t => t.put (F.FIO_OSTAT_CUT m) 1)
          s.refreshOuts.assertEv 182
        else s
      | _ => if enter then ((s.put F.FSM_STAT_MISS 1).put F.FSM_EVT_MISSF 1).assertEv 183 else s.put F.FSM_STAT_MISS 0)

/-- Release of the cut-off latch: VFLD is above 11.0 V and, `above`, has been for 1 ms (R402). Answers whether it is accepted. -/
def State.cutRelease (s : State) (above : Bool) : Bool × State :=
  if above && decide (1100 < s.fld F.FSM_STAT_VFLD) then
    let s := (s.put F.FSM_STAT_CUT 0).each outList (fun m t => t.put (F.FIO_OSTAT_CUT m) 0)
    (true, s.refreshOuts)
  else (false, s)

/-- Release the latches of the outputs of a mask; `hot` are the sensors that have not cooled by 15 °C (R398). Answers the
refused outputs. -/
def State.clearOuts (s : State) (mask hot : Nat) : Nat × State :=
  let no := maskOf (outList.filter (fun m => mask.testBit m && s.flag (F.FIO_OSTAT_LATCH m) && hot.testBit m))
  (no, s.each (outList.filter (fun m => mask.testBit m && !no.testBit m)) (fun m t =>
    (t.put (F.FIO_OSTAT_LATCH m) 0).refreshOut m))

/-! ## Commands 0x60 to 0x66 (R405) -/

def fieldModes : List Nat := [2, 4, 5, 6, 7, 8, 9, 10]

def execFieldInCfg (c : HostCmd) (s : State) : Out :=
  .next (s.hostCmd 0x60 c (fun s =>
    let n := arg c 0 1
    let v := arg c 1 4
    let deb := v / 2 ^ 16 % 256
    if !s.inModes netConfigModes then refuseMode s
    else if decide (31 < n) || deb == 0 || decide (250 < deb) then refuse stRange s
    else
      let raw := s.inRawLvl n
      let s := s.wr (R.FIO_ICFG n) (BitVec.ofNat 32 (fieldPut (fieldPut v 24 2 0) 0 8 0))
      let s := if s.flag (F.FIO_ISTAT_VALID n) then s.setLvl n (raw != s.flag (F.FIO_ICFG_POL n)) else s
      okReply (s.refreshIn n)))

def execFieldInRead (c : HostCmd) (s : State) : Out :=
  .next (s.hostCmd 0x61 c (fun s =>
    if !s.inModes fieldModes then refuseMode s
    else
      let (r, t) := replyWith c.ch (s.reg4 R.FIO_LEVELS ++ s.reg4 R.FIO_VALIDS ++
        inputList.flatMap (fun n => s.reg4 (R.FIO_ISTAT n))) s
      if r.status != stOk then (r, t)
      else (r, t.each inputList (fun n u => u.put ⟨R.FIO_ISTAT n, 25, 4⟩ 0))))

def execFieldOutCfg (c : HostCmd) (s : State) : Out :=
  .next (s.hostCmd 0x62 c (fun s =>
    let m := arg c 0 1
    let v := arg c 1 4
    if !s.inModes netConfigModes then refuseMode s
    else if decide (15 < m) || decide (250 < v / 2 ^ 20 % 256) then refuse stRange s
    else okReply ((s.wr (R.FIO_OCFG m) (BitVec.ofNat 32 (fieldPut (fieldPut v 28 1 0) 0 20 0))).refreshOut m)))

def execFieldOutSet (c : HostCmd) (s : State) : Out :=
  .next (s.hostCmd 0x63 c (fun s =>
    let mask := arg c 0 2
    let v := arg c 2 2
    if !s.inModes fieldModes then refuseMode s
    else if s.inModes [modeSafeOff, modeRecovery] && outList.any (fun m => mask.testBit m && s.flag (F.FIO_OCFG_SOFF m)) then
      refuse stState s
    else okReply (s.each (bitsOf 16 mask) (fun m t => (t.putB ⟨R.FIO_OSET, m, 1⟩ (v.testBit m)).refreshOut m))))

/-- FIELD_OUT_CLEAR: `hot` and `above` are what the sensors and the monitor show. -/
def execFieldOutClear (c : HostCmd) (hot : BitVec 16) (above : Bool) (s : State) : Out :=
  .next (s.hostCmd 0x64 c (fun s =>
    if !s.inModes fieldModes then refuseMode s
    else
      let (no, s) := s.clearOuts (arg c 0 2) hot.toNat
      let s := if (arg c 3 1).testBit 0 then s.put F.FIO_OTOT_TOTOVL 0 else s
      let (ok, s) := if (arg c 2 1).testBit 0 then s.cutRelease above else (true, s)
      if no != 0 then ({ status := stBusy, detail := 0x40, result := leBytes 2 no }, s)
      else if !ok then ({ status := stState, detail := 0x41 }, s)
      else okReply s))

/-- What OSTAT[m].ILOAD shows of the measured currents `ma`: 0 while the output is off, and no more than the field holds. -/
def State.loadOf (s : State) (ma : List Nat) (m : Nat) : Nat :=
  if s.flag (F.FIO_OSTAT_ON m) then Nat.min 4095 (ma.getD m 0) else 0

/-- OSTAT[m].ILOAD and LIM, and OTOT.ISUM, as the outputs' currents `cur` in mA give them; one at the limit of 0.6 A is in current limit
(R395). -/
def State.takeLoads (s : State) (cur : Nat → Nat) : State :=
  (s.each outList (fun m t =>
    (t.put (F.FIO_OSTAT_ILOAD m) (cur m)).putB (F.FIO_OSTAT_LIM m) (decide (600 ≤ cur m)))).syncIsum

/-- A read of OSTAT or OTOT shows the currents measured by then: free, and at most the limit of 0.6 A for an output that is on (R395, R396;
assumption log 5). -/
def State.measureLoads (s : State) (addrs : List Nat) : State :=
  if s.outsMay && addrs.any (fun a => decide (R.FIO_OSTAT 0 ≤ a ∧ a < R.FIO_OSTAT 16) || decide (R.FIO_OTOT ≤ a ∧ a < R.FIO_OTOT + 4)) then
    let (v, s) := s.draw
    s.takeLoads (fun m => if s.flag (F.FIO_OSTAT_ON m) then v / 601 ^ m % 601 else 0)
  else s

/-- The bytes of FIELD_STATUS's result. -/
def State.fieldReport (s : State) : List Byte :=
  s.reg4 R.FSM_STAT ++ s.reg4 R.FSM_EVT ++ s.reg4 R.FSM_VMIN ++ outList.flatMap (fun m => s.reg4 (R.FIO_OSTAT m)) ++ s.reg4 R.FIO_OTOT

/-- VMIN takes the present VFLD where the answer `x` is ST_OK. -/
def restartVmin (x : Reply × State) : Reply × State :=
  if x.1.status != stOk then x else (x.1, x.2.put F.FSM_VMIN_VMIN (x.2.fld F.FSM_STAT_VFLD))

/-- FIELD_STATUS's answer on channel `k`, and VMIN begun anew. -/
def reportField (k : Nat) (s : State) : Reply × State := restartVmin (replyWith k s.fieldReport s)

/-- FIELD_STATUS: `ma` are the measured currents of the outputs. VMIN then takes the present VFLD. -/
def execFieldStatus (c : HostCmd) (ma : List Nat) (s : State) : Out :=
  .next (s.hostCmd 0x65 c (fun s =>
    if !s.inModes fieldModes then refuseMode s
    else reportField c.ch (s.takeLoads (s.loadOf ma))))

def execFieldWakeCfg (c : HostCmd) (s : State) : Out :=
  .next (s.hostCmd 0x66 c (fun s =>
    let iv := arg c 5 2
    if !s.inModes [modeConfigure, modeReady, modeSafeOff] then refuseMode s
    else if decide (1 < arg c 4 1) || iv == 0 || decide (1000 < iv) then refuse stRange s
    else okReply (((s.wr R.FIO_WAKE (BitVec.ofNat 32 (arg c 0 4))).put F.FIO_SBCFG_ALL (arg c 4 1)).put F.FIO_PCFG_SBINT iv)))

end Sys2Proof.Machine
end

