-- ==== Sys2Proof/Machine/Wear.lean ====
section
/-!
DEFINITION. The wear unit (R199 to R209): losses, junction temperatures, rainflow counting, life, derating factors, records,
and its commands. Temperatures are in 1/16 °C, Foster stages in 2^-16 °C.
-/

namespace Sys2Proof.Machine

/-! ## Table sets -/

/-- The word at `off` of table set `t`. -/
def tsetAddr (t off : Nat) : Nat := 0x40068000 + 0x800 * t + off

def State.tset32 (s : State) (t off : Nat) : Nat := (s.rd (tsetAddr t off)).toNat

/-- The 16-bit entry at `off`. -/
def State.tset16 (s : State) (t off : Nat) : Nat := s.tset32 t (off / 4 * 4) / 2 ^ (8 * (off % 4)) % 65536

def State.tsetValid (s : State) (t : Nat) : Bool := (s.fld F.WU_STAT_TSETV).testBit t

/-- A table of sixteen points at the current `iN / iD` A: interpolated linearly, beyond the last point along the last
segment (R201). -/
def State.wearTable (s : State) (t off iN iD : Nat) : Int × Nat :=
  let st := Nat.max 1 (s.tset16 t 4)
  let k := Nat.min 14 (iN / Nat.max 1 (iD * st))
  let a : Int := s.tset16 t (off + 2 * k)
  let b : Int := s.tset16 t (off + 2 * k + 2)
  (a * iD * st + (b - a) * ((iN : Int) - k * st * iD), iD * st)

def fracMul (a b : Int × Nat) : Int × Nat := (a.1 * b.1, a.2 * b.2)

/-- The sum of two fractions. -/
def fracSum (a b : Int × Nat) : Int × Nat := (a.1 * b.2 + b.1 * a.2, a.2 * b.2)

/-- Conduction energy in µJ for `t` edge units: V(|i|) (1 + KT (Tj - 25 °C)) |i| t (R201). -/
def State.conduction (s : State) (set off iN iD t : Nat) (tj : Int) : Int × Nat :=
  let kt := sgn 16 (s.tset16 set 6)
  fracMul (fracMul (s.wearTable set off iN iD) (2 ^ 20 + kt * (tj - 400), 2 ^ 20)) ((5 * iN * t : Nat), iD * 64000000)

/-- Switching energy in µJ of `k` edges: the table at |i| times Vdc / VREF. -/
def State.switching (s : State) (set off iN iD k : Nat) (vdc : Int × Nat) : Int × Nat :=
  fracMul (fracMul (s.wearTable set off iN iD) vdc) (k, Nat.max 1 (s.tset16 set 2))

/-! ## Axis measures -/

/-- The axis of a leg in the wear unit. -/
def State.wearAxis (s : State) (leg : Nat) : Option Nat := s.legGroup leg

/-- An ADC entry scaled by DCFS of the axis: volts (or °C, R202) as a fraction. -/
def State.adcScaled (s : State) (n entry : Nat) : Int × Nat :=
  (2 * s.fld (F.WU_AXCFG_DCFS n) * sgn 16 ((s.rd (R.ADC_RES entry)).toNat / 65536), 32768)

/-- The positions of axis `n` that the unit models. -/
def State.wearPositions (s : State) (n : Nat) : List Nat :=
  ((s.groupLegs n).filter (fun l => s.flag (F.WU_LEGCFG_EN l))).flatMap (fun l => [2 * l, 2 * l + 1])

/-- A ramp of R199 as unsigned 1.15: 1 on the unrestricted side of `a`, `floor` / 256 beyond `b`, linear between; disabled
where `b` does not lie beyond `a`. `x`, `a` and `b` carry one scale; `up` tells that it restricts large values. -/
def ramp (up : Bool) (x a b : Int) (floor : Nat) : Nat :=
  let (x, a, b) := if up then (x, a, b) else (-x, -a, -b)
  if b ≤ a ∨ x ≤ a then 32768
  else if b ≤ x then floor * 128
  else ((2 * (32768 * (b - a) - (x - a) * (32768 - floor * 128)) + (b - a)) / (2 * (b - a))).toNat

def maxOf (l : List Nat) : Nat := l.foldl Nat.max 0

/-- The two factors and the flags of axis `n` (R199, R200). -/
def State.derate (s : State) (n : Nat) : State :=
  let ps := s.wearPositions n
  let hot := ps.foldl (fun (m : Option Nat) k => match m with
    | some j => if decide ((s.wear j).tj < (s.wear k).tj) then some k else m
    | none => some k) none
  let tj := match hot with
    | some k => ramp true (s.wear k).tj (16 * s.fld (F.WU_DRTJ_START n)) (16 * s.fld (F.WU_DRTJ_END n)) (s.fld (F.WU_DRTJ_FLOOR n))
    | none => 32768
  let life := if ps.isEmpty then 32768 else
    ramp true (maxOf (ps.map (fun k => s.fld (F.WU_LIFE_LIFE k)))) (1000 * s.fld (F.WU_DRLIFE_START n))
      (1000 * s.fld (F.WU_DRLIFE_END n)) (s.fld (F.WU_DRLIFE_FLOOR n))
  let v := (s.adcScaled n (s.fld (F.WU_AXCFG_DCI n))).1
  let dcen := s.flag (F.WU_AXCFG_DCEN n)
  let volt (f : Fld) : Int := 4 * s.fld f * 32768
  let low := if dcen then ramp false v (volt (F.WU_DRDC_UVS n)) (volt (F.WU_DRDC_UVE n)) 0 else 32768
  let high := if dcen then ramp true v (volt (F.WU_DRDC_OVS n)) (volt (F.WU_DRDC_OVE n)) 0 else 32768
  let vf := ramp false (s.fld F.WU_VFLD_VFLD) (10 * s.fld F.WU_DRVF_START) (10 * s.fld F.WU_DRVF_END) (s.fld F.WU_DRVF_FLOOR)
  let both := Nat.min tj (Nat.min life vf)
  let s := (s.put (F.WU_AXDR_DRIVE n) (Nat.min both low)).put (F.WU_AXDR_REGEN n) (Nat.min both high)
  let s := match hot with
    | some k => (s.put (F.WU_AXST_TJMAX n) (uns 16 (s.wear k).tj)).put (F.WU_AXST_HOT n) k
    | none => s
  let below (x : Nat) : Bool := decide (x < 32768)
  let s := (s.putB (F.WU_AXST_TJ n) (below tj)).putB (F.WU_AXST_LIFE n) (below life)
  (s.putB (F.WU_AXST_DC n) (below low || below high)).putB (F.WU_AXST_VF n) (below vf)

/-! ## Cycle counting (R205, R206, R414) -/

/-- Queue an increment of a record; a full queue leaves it with the position, and the next increment of the field that is
queued carries it (R414). -/
def State.wearInc (s : State) (p field amount : Nat) : State :=
  let old := ((s.wear p).held.find? (fun x => x.1 == field)).elim 0 (fun x => x.2)
  let rest := (s.wear p).held.filter (fun x => x.1 != field)
  if decide (s.wearQ.length < 128) then
    (s.modWear p (fun w => { w with held := rest })).withWearQ (s.wearQ ++ [⟨p, field, old + amount⟩])
  else s.modWear p (fun w => { w with held := rest ++ [(field, old + amount)], holding := true })

/-- Add to the life sum of position `p`: WU.LIFE follows, and 1,000,000 ppm set the wear-end source of its axis (R206). -/
def State.wearLife (s : State) (p add : Nat) : State :=
  let was := (s.wear p).life / 1000000
  let s := s.modWear p (fun w => { w with life := w.life + add })
  let now := (s.wear p).life / 1000000
  let s := s.wr (R.WU_LIFE p) (BitVec.ofNat 32 (Nat.min now (2 ^ 32 - 1)))
  match s.wearAxis (p / 2) with
  | some n => if decide (was < 1000000) && decide (1000000 ≤ now) then s.assertEv (evAxis n 4) else s
  | none => s

/-- count(x, m, h) of R206 with `m` given as twice the mean. -/
def State.wearCount (s : State) (p : Nat) (x : Nat) (m2 : Int) (h : Nat) : State :=
  let sw := Nat.min (x / (16 * Nat.max 1 (s.fld F.WU_RFCFG_SWBW))) 15
  let base := sgn 8 (s.fld F.WU_RFCFG_MBASE)
  let mb := (clampI 0 15 ((m2 - 32 * base) / (32 * (Nat.max 1 (s.fld F.WU_RFCFG_MBW) : Nat)))).toNat
  let bin := 16 * sw + mb
  let add := h * s.tset32 (s.fld (F.WU_LEGCFG_TSET (p / 2))) (0x400 + 4 * bin)
  (((s.wearInc p bin h).wearInc p 256 add).wearInc p 257 h).wearLife p add

def idiff (a b : Int) : Nat := (a - b).natAbs

/-- The loop of R205 on the stack, newest first. -/
def State.wearLoop (p : Nat) : Nat → List Int → State → List Int × State
  | 0, st, s => (st, s)
  | k + 1, st, s =>
    match st with
    | a :: b :: c :: d :: rest =>
      let x := idiff b c
      if decide (idiff c d < x) || decide (idiff a b < x) then (st, s)
      else State.wearLoop p k (a :: d :: rest) (s.wearCount p x (b + c) 2)
    | _ => (st, s)

/-- A turning point is pushed and the cycles it closes are counted (R205). -/
def State.wearPush (s : State) (p : Nat) (x : Int) : State :=
  let (st, s) := State.wearLoop p 33 (x :: (s.wear p).stack.reverse) s
  let st := st.reverse
  let (st, s) := if decide (32 < st.length) then
      match st with
      | a :: b :: rest =>
        (b :: rest, ((s.wearCount p (idiff b a) (a + b) 1).wearInc p 258 1).put (F.WU_TJ_STKOVF p) 1)
      | _ => (st, s)
    else (st, s)
  (s.modWear p (fun w => { w with stack := st })).put (F.WU_TJ_DEPTH p) st.length

/-- The record of position `p` in shared SRAM (R207). -/
def wearRecord (p : Nat) : Nat := 0x10380000 + 0x800 * p

/-- The stack, 16 bits an entry, and its depth in the record. -/
def State.wearStackOut (s : State) (p : Nat) : State :=
  let st := (s.wear p).stack
  let s := s.each ((List.range st.length).zip st) (fun x t => t.wrBytes (wearRecord p + 0x410 + 2 * x.1) (leBytes 2 (uns 16 x.2)))
  s.wr8 (wearRecord p + 0x450) (BitVec.ofNat 8 st.length)

/-- Every adjacent pair on the stack counts as one half cycle and only the newest point stays (R205). -/
def State.wearFlushOne (s : State) (p : Nat) : State :=
  let st := (s.wear p).stack
  let s := s.each (st.zip st.tail) (fun x t => t.wearCount p (idiff x.1 x.2) (x.1 + x.2) 1)
  let s := s.modWear p (fun w => { w with stack := st.drop (st.length - 1) })
  (s.put (F.WU_TJ_DEPTH p) (s.wear p).stack.length).wearStackOut p

def wearList : List Nat := List.range 144

/-- The unit models the leg: it updates its two positions period by period. -/
def State.wearRuns (s : State) (leg : Nat) : Bool := s.islandsRun && s.flag F.WU_CTRL_EN && s.flag (F.WU_LEGCFG_EN leg)

/-- WU.CTRL.FLUSH (R205): after the turning points of the present period, so at the next update of a position that has one (R209). -/
def State.wearFlush (s : State) : State :=
  s.each wearList (fun p t =>
    if t.wearRuns (p / 2) then t.modWear p (fun w => { w with flush := true })
    else if (t.wear p).stack.isEmpty then t else t.wearFlushOne p)

def execWearFlush (s : State) : Out := .next (if s.islandsRun then s.wearFlush else s)

/-- A new Tj of position `p`: turning points confirmed by RFHYS (R205), the trip of R204. The first Tj is the first extreme (DEDUCED,
assumption log 30). -/
def State.newTj (s : State) (p : Nat) (tj : Int) : State :=
  let w := s.wear p
  let hys : Int := s.fld F.WU_RFCFG_RFHYS
  let s := s.modWear p (fun w => { w with tj := tj })
  let s := s.put (F.WU_TJ_TJ p) (uns 16 tj)
  let s := match w.extreme with
    | none => s.modWear p (fun w => { w with extreme := some tj })
    | some x =>
      let on := (w.dir == 1 && decide (x ≤ tj)) || (w.dir == 2 && decide (tj ≤ x))
      if on then s.modWear p (fun w => { w with extreme := some tj })
      else if decide (hys < (tj - x).natAbs) then
        ((s.wearPush p x).wearStackOut p).modWear p (fun w => { w with dir := if x < tj then 1 else 2, extreme := some tj })
      else s
  match s.wearAxis (p / 2) with
  | some n =>
    let trip : Int := 16 * s.fld (F.WU_DRTJ_TRIP n)
    if decide (w.tj < trip) && decide (trip ≤ tj) then s.assertEv (evAxis n 1) else s
  | none => s

/-- Tref of a leg (R202) in 1/16 °C. -/
def State.wearTref (s : State) (leg : Nat) : Int :=
  let n := (s.wearAxis leg).getD 0
  match s.fld (F.WU_LEGCFG_TREFK leg) with
  | 1 => 16 * ((s.fld (F.GL_ECHOA_NTC (s.fld (F.WU_LEGCFG_TREFI leg) % 16)) : Int) - 50)
  | 2 => let v := s.adcScaled n (s.fld (F.WU_LEGCFG_TREFI leg)); openRound (16 * v.1) v.2
  | _ => 16 * sgn 8 (s.fld (F.WU_AXCFG_TFIX n))

/-- The Taylor sum of exp (-y), `y` and the sum in 2^-64. -/
def expSmall (y : Nat) : Nat :=
  ((List.range 18).foldl (fun (acc : Int × Int) k => (acc.1 + acc.2, -(acc.2 * y / 2 ^ 64 / ((k : Int) + 1)))) (0, 2 ^ 64)).1.toNat

/-- exp (-n / d) in 2^-64 (assumption log 11): that of a 256th of the exponent, squared eight times; an exponent beyond 44 gives 0. -/
def decay (n d : Nat) : Nat :=
  if decide (44 * d ≤ n) then 0 else (List.range 8).foldl (fun a _ => a * a / 2 ^ 64) (expSmall (2 ^ 56 * n / d))

/-- A Foster stage after one update of `tp` ticks (R202), in 2^-16 °C: a θ + b E with a = exp (-Tp / TAU), b = RTH (1 - a) / Tp; RTH in
16.16 K/W, TAU in µs, the energy in µJ. Over no time the stage stays. -/
def foster (theta : Int) (rth tau tp : Nat) (e : Int × Nat) : Int :=
  if tp = 0 then theta else
  let a : Int := decay tp (200 * tau)
  openRound (a * theta * tp * e.2 + rth * (2 ^ 64 - a) * e.1 * 200) (2 ^ 64 * tp * e.2)

/-- One update of position `p` with energy `e` (µJ) over `tp` ticks (R202), and the flush that waits for it (R209); a set that is not valid
charges nothing and Tj follows Tref, while the stages stay for the set that follows (R209; DEDUCED, assumption log 30). -/
def State.wearStep (s : State) (p tp : Nat) (e : Int × Nat) : State :=
  let set := s.fld (F.WU_LEGCFG_TSET (p / 2))
  let valid := s.tsetValid set
  let th := if valid then
      ((List.range 4).zip (s.wear p).theta).map (fun x =>
        foster x.2 (s.tset32 set (0x100 + 4 * x.1)) (s.tset32 set (0x110 + 4 * x.1)) tp e)
    else (s.wear p).theta
  let s := s.modWear p (fun w => { w with theta := th })
  let rise := if valid then openRound (th.foldl (· + ·) 0) 4096 else 0
  let s := s.newTj p (clampI (-32768) 32767 (s.wearTref (p / 2) + rise))
  if (s.wear p).flush then
    let s := s.modWear p (fun w => { w with flush := false })
    if (s.wear p).stack.isEmpty then s else s.wearFlushOne p
  else s

/-! ### The period in which a table set is loaded (R209) -/

def State.tsetWords (s : State) (t : Nat) : List Word := (List.range 512).map (fun i => s.rd (tsetAddr t (4 * i)))

/-- Put words and validity of a table set. -/
def State.putTset (s : State) (t : Nat) (valid : Bool) (words : List Word) : State :=
  (s.each ((List.range 512).zip words) (fun x u => u.wr (tsetAddr t (4 * x.1)) x.2)).put F.WU_STAT_TSETV
    (putBit (s.fld F.WU_STAT_TSETV) t valid)

/-- The update of a leg at the end of a period. The period in which its table set was loaded has begun before TSETV rose, so that it
goes by the set as it was (R209). MODE.BGSTAT.WUHOLD counts a period in which an increment was kept (R414). -/
def State.wearPeriod (s : State) (leg : Nat) (f : State → State) : State :=
  let t := s.fld (F.WU_LEGCFG_TSET leg)
  let s := match (s.wear (2 * leg)).old with
    | none => f s
    | some (valid, words) => (f (s.putTset t valid words)).putTset t (s.tsetValid t) (s.tsetWords t)
  let hold := (s.wear (2 * leg)).holding || (s.wear (2 * leg + 1)).holding
  let s := s.each [2 * leg, 2 * leg + 1] (fun p u => u.modWear p (fun w => { w with old := none, holding := false }))
  if hold then s.inc F.MODE_BGSTAT_WUHOLD else s

/-- The link voltage of a leg's axis; without a configured channel the spec states none (a free value). -/
def State.wearVdc (s : State) (leg : Nat) : (Int × Nat) × State :=
  match s.wearAxis leg with
  | some n =>
    if s.flag (F.WU_AXCFG_DCEN n) then (s.adcScaled n (s.fld (F.WU_AXCFG_DCI n)), s)
    else (((s.draw.1 : Int), 1), s.draw.2)
  | none => (((s.draw.1 : Int), 1), s.draw.2)

/-- The energies in µJ of the lower and the upper position of a leg over the period that has ended (R201): the current is the mean of the
latest two period-average results of its SDI channel. Each turn-on of a complementary leg follows one dead time (DEDUCED, assumption log
30). -/
def State.wearEnergy (s : State) (leg : Nat) (vdc : Int × Nat) : (Int × Nat) × (Int × Nat) :=
  let set := s.fld (F.WU_LEGCFG_TSET leg)
  let pas := (s.sdChan (s.fld (F.WU_LEGCFG_ISDI leg))).pas
  let sum := pas.foldl (fun a w => a + sgn 24 (w / 256)) (0 : Int)
  let neg := (decide (sum < 0)) != s.flag (F.WU_LEGCFG_ISGN leg) && sum != 0
  let iN := s.tset16 set 0 * sum.natAbs
  let iD := 2 ^ 24
  let p := (s.sched leg).period
  let dead := if s.fld (F.ES_LEGCFG_MODE leg) == 0 then s.fld (F.ES_ACTDT_DT leg) * (p.upOn + p.loOn) else 0
  let tj (k : Nat) : Int := (s.wear (2 * leg + k)).tj
  if neg then
    (fracSum (s.conduction set 0x10 iN iD p.loTime (tj 0))
      (fracSum (s.switching set 0x50 iN iD p.loOn vdc) (s.switching set 0x70 iN iD p.loOff vdc)),
     fracSum (s.conduction set 0x30 iN iD (p.upTime + dead) (tj 1)) (s.switching set 0x90 iN iD p.loOn vdc))
  else
    (fracSum (s.conduction set 0x30 iN iD (p.loTime + dead) (tj 0)) (s.switching set 0x90 iN iD p.upOn vdc),
     fracSum (s.conduction set 0x10 iN iD p.upTime (tj 1))
      (fracSum (s.switching set 0x50 iN iD p.upOn vdc) (s.switching set 0x70 iN iD p.upOff vdc)))

/-- A result of the leg's SDI channel is missing or carries INV. -/
def State.wearInv (s : State) (leg : Nat) : Bool :=
  let pas := (s.sdChan (s.fld (F.WU_LEGCFG_ISDI leg))).pas
  pas.length != 2 || pas.any (fun w => w.testBit 7)

/-- The update of the two positions of a leg that the unit models (R201, R202). Without DCEN the DC-link voltage is free. -/
def State.wearLeg (s : State) (leg : Nat) : State :=
  let c := s.fld (F.ES_LEGCFG_CB leg)
  let tp := 2 * (s.carrier c).actPeriod * s.countTicks c
  let inv := s.wearInv leg
  let good := !inv && !(s.sched leg).period.held && s.tsetValid (s.fld (F.WU_LEGCFG_TSET leg))
  let (vdc, s) := s.wearVdc leg
  let (eL, eU) := if good then s.wearEnergy leg vdc else ((0, 1), (0, 1))
  let s := (s.wearStep (2 * leg) tp eL).wearStep (2 * leg + 1) tp eU
  if inv || good then (s.putB (F.WU_TJ_VALID (2 * leg)) good).putB (F.WU_TJ_VALID (2 * leg + 1)) good else s

/-- The factors of the leg's axis, if it has one. -/
def State.derateOf (s : State) (leg : Nat) : State :=
  match s.wearAxis leg with
  | some n => s.derate n
  | none => s

/-- A period of the leg's carrier ends (R199, R201, R204): its positions, if the unit models them, and the factors of its axis, which
have their ramps also where no leg of the axis is modelled. -/
def execWearPeriodUpdate (leg : Fin 72) (_ _ _ _ _ _ : Unit) (s : State) : Out :=
  .next (if s.islandsRun && s.flag F.WU_CTRL_EN then
    (if s.flag (F.WU_LEGCFG_EN leg) then s.wearPeriod leg (fun t => t.wearLeg leg) else s).derateOf leg
  else s)

/-- The 1 ms update of a leg whose carrier is not running (R203). -/
def execWearIdleUpdate (leg : Fin 72) (s : State) : Out :=
  .next (if s.wearRuns leg && !s.running (s.fld (F.ES_LEGCFG_CB leg)) then
    (s.wearPeriod leg (fun t => (t.wearStep (2 * leg.val) 200000 (0, 1)).wearStep (2 * leg.val + 1) 200000 (0, 1))).derateOf leg
  else s)

/-- The update at a wake from Standby (R203): no energy over the Standby duration in ticks. -/
def State.wearWake (s : State) (ticks : Nat) : State :=
  s.each wearList (fun p t => if t.flag (F.WU_LEGCFG_EN (p / 2)) then t.wearStep p ticks (0, 1) else t)

/-! ## Records (R207, R414) -/

/-- Add an increment to its record. -/
def State.wearApply (s : State) (i : WearInc) : State :=
  let a := wearRecord i.pos
  if decide (i.field < 256) then
    s.wrMem32 (a + 4 * i.field) (Nat.min (s.rdMem32 (a + 4 * i.field) + i.amount) (2 ^ 32 - 1))
  else if i.field == 256 then s.wrBytes (a + 0x400) (leBytes 8 (leNat (s.rdBytes (a + 0x400) 8) + i.amount))
  else
    let b := a + (if i.field == 257 then 0x408 else 0x40C)
    s.wrMem32 b (s.rdMem32 b + i.amount)

/-- The oldest increment drains (R414). -/
def execWearRecordWriteback (s : State) : Out :=
  .next (if s.islandsRun then
    match s.wearQ with
    | [] => s
    | i :: is => (s.withWearQ is).wearApply i
  else s)

/-- Drain the queue for one position (R414). -/
def State.wearDrain (s : State) (p : Nat) : State :=
  let mine := s.wearQ.filter (fun i => i.pos == p) ++ (s.wear p).held.map (fun x => (⟨p, x.1, x.2⟩ : WearInc))
  let s := s.withWearQ (s.wearQ.filter (fun i => i.pos != p))
  let s := s.modWear p (fun w => { w with held := [] })
  s.each mine (fun i t => t.wearApply i)

/-! ## Commands (R209, R211) -/

/-- WEAR_TABLES: the 2 KiB image comes in two commands of 1 KiB each (assumption log 12). -/
def execWearTables (c : HostCmd) (s : State) : Out :=
  .next (s.hostCmd 0x1B c (fun s =>
    let t := arg c 0 1
    let uses (n : Nat) : Bool := (s.groupLegs n).any (fun l => s.flag (F.WU_LEGCFG_EN l) && s.fld (F.WU_LEGCFG_TSET l) == t)
    let bs := s.attached c
    if !s.inModes [2, 4, 9] then refuseMode s
    else if decide (15 < t) then refuse stRange s
    else if axisList.any (fun n => s.axState n == axEnergised && uses n) then refuse stState s
    else if bs.length != 1024 then refuse stMalformed s
    else match s.wearPart with
      | some (u, first) =>
        if u != t then okReply (s.withWearPart (some (t, bs)))
        else
          let img := first ++ bs
          let s := s.withWearPart none
          if crc32 (img.take 0x3FC ++ img.drop 0x400) == numAt img 0x3FC 4 then
            let old := (s.tsetValid t, s.tsetWords t)
            let s := s.putTset t true ((List.range 512).map (fun i => BitVec.ofNat 32 (numAt img (4 * i) 4)))
            okReply (s.each (legList.filter (fun l => s.wearRuns l && s.fld (F.WU_LEGCFG_TSET l) == t)) (fun l u =>
              u.modWear (2 * l) (fun w => { w with old := match w.old with | none => some old | some x => some x })))
          else
            let s := s.put F.WU_STAT_TSETV (putBit (s.fld F.WU_STAT_TSETV) t false)
            refuse stMalformed (s.each (axisList.filter uses) (fun n t => t.assertEv (evAxis n 4)))
      | none => okReply (s.withWearPart (some (t, bs)))))

/-- The part of a record that goes with the histogram where it leaves no room for all: life sum, half cycles, overflows; the stack depth,
at most nine, and so many points, the newest (assumption log 12). -/
def State.wearTail (s : State) (p : Nat) : List Byte :=
  let st := (s.wear p).stack.drop ((s.wear p).stack.length - 9)
  s.rdBytes (wearRecord p + 0x400) 16 ++ BitVec.ofNat 8 st.length :: st.flatMap (fun x => leBytes 2 (uns 16 x))

/-- The record of a position as WEAR_READ gives it, with its CRC-32; its histogram stands before the rest where it is asked for. -/
def State.wearImage (s : State) (p : Nat) (hist : Bool) : List Byte :=
  let r := if hist then s.rdBytes (wearRecord p) 0x400 ++ s.wearTail p else s.rdBytes (wearRecord p + 0x400) 0x51
  r ++ leBytes 4 (crc32 r)

/-- WEAR_READ (R211, R498): Tj, WU.LIFE and the record with its CRC-32 from offset 0 of the result buffers, which are allocated before the
command acts (R277). With the histogram bit the result is longer than four buffers; what they do not hold stands in RESULT (assumption
log 12). -/
def execWearRead (c : HostCmd) (s : State) : Out :=
  .next (s.hostCmd 0x1C c (fun s =>
    let p := arg c 0 1
    let hist := arg c 2 1 % 2 == 1
    if !s.inModes liveModes then refuseMode s
    else if decide (143 < p) then refuse stRange s
    else match s.resultBufs c.ch (List.replicate (if hist then 1024 else 93) 0) with
      | none => ({ status := stBusy, detail := 0x09 }, s)
      | some (bs, s) =>
        let s := if arg c 1 1 % 2 == 1 then s.wearFlushOne p else s
        let s := s.wearDrain p
        let data := leBytes 4 (uns 32 (s.wear p).tj) ++ s.reg4 (R.WU_LIFE p) ++ s.wearImage p hist
        let s := s.each (bs.zip (cutBufs 4 data)) (fun x t => t.wrBytes (bufBase x.1) x.2)
        ({ status := stOk, result := data.drop 1024, bufs := bs }, s)))

/-- WEAR_RESTORE (R208, assumption log 12): the saved histogram, life sum, half cycles and overflows are added once. The image has the
layout in which WEAR_READ gives it with the histogram bit, its tail in PARAM. -/
def execWearRestore (c : HostCmd) (s : State) : Out :=
  .next (s.hostCmd 0x1D c (fun s =>
    let p := arg c 0 1
    let bs := s.attached c ++ c.param.drop 1
    let n := 0x411 + 2 * Nat.min 9 (numAt bs 0x410 1)
    if !s.inModes configModes then refuseMode s
    else if decide (143 < p) then refuse stRange s
    else if decide (bs.length < n + 4) || crc32 (bs.take n) != numAt bs n 4 then refuse stMalformed s
    else if (s.wear p).restored then refuse stState s
    else
      let s := s.wearDrain p
      let s := s.each (List.range 256) (fun b t => t.wearApply ⟨p, b, numAt bs (4 * b) 4⟩)
      let s := ((s.wearApply ⟨p, 256, numAt bs 0x400 8⟩).wearApply ⟨p, 257, numAt bs 0x408 4⟩).wearApply ⟨p, 258, numAt bs 0x40C 4⟩
      okReply ((s.modWear p (fun w => { w with restored := true })).wearLife p (numAt bs 0x400 8))))

/-- DERATE_CFG: DRTJ, DRLIFE and DRDC of an axis, or DRVF for 0xF. -/
def execDerateCfg (c : HostCmd) (s : State) : Out :=
  .next (s.hostCmd 0x1E c (fun s =>
    let n := arg c 0 1
    let w (off : Nat) : Word := BitVec.ofNat 32 (arg c off 4)
    if !s.inModes [2, 4, 9] then refuseMode s
    else if decide (15 < n) then refuse stRange s
    else if n == 15 then okReply (s.wr R.WU_DRVF (BitVec.ofNat 32 (arg c 1 4 / 256 * 256)))
    else okReply (((s.wr (R.WU_DRTJ n) (w 1)).wr (R.WU_DRLIFE n) (w 5)).wr (R.WU_DRDC n) (w 9))))

end Sys2Proof.Machine
end

