-- ==== Sys2Proof/Machine/Reset.lean ====
section
/-!
DEFINITION. Resets (R455, R456): the per-island reset, the warm and the power-on reset, the straps and the entry to the smallest
serving set.
-/

namespace Sys2Proof.Machine

/-- Islands of CLK.IRST: 0 COMPUTE, 1 TIMEBASE, 2 SENSE, 3 NETWORK, 4 CAN, 5 FIELD. -/
def islandOf (a : Nat) : Option Nat :=
  if decide (0x30000000 ≤ a ∧ a < 0x30400000) then some 0
  else if decide (0x40000000 ≤ a ∧ a < 0x40030000) || decide (0x40050000 ≤ a ∧ a < 0x40070000) then some 1
  else if decide (0x40030000 ≤ a ∧ a < 0x40050000) then some 2
  else if decide (0x60000000 ≤ a ∧ a < 0x60020000) then some 3
  else if decide (0x60020000 ≤ a ∧ a < 0x60028000) then some 4
  else if decide (0x70000000 ≤ a ∧ a < 0x7000C000) then some 5
  else none

/-- Keep the registers that satisfy `p`; the others stand at reset. -/
def State.keepRegs (s : State) (p : Nat → Bool) : State := s.withRegs (s.regs.filter (fun e => p e.1))

/-- Keep the bytes of memory that satisfy `p`; the others read 0. -/
def State.keepMem (s : State) (p : Nat → Bool) : State :=
  (s.withMem (s.mem.filter (fun e => p e.1))).withMode { s.mode with bad := s.mode.bad.filter (fun w => p (8 * w)) }

/-! ## Straps (R6, R458, R471) -/

/-- ASEN and PREF of SAFEST: 0b01 short on the lower set, 0b10 on the upper set, else freewheel. -/
def State.strapTimebase (s : State) : State :=
  let v := s.fld F.STRAP_VAL_SAFEST
  s.each axisList (fun n t => (t.putB (F.SPW_AXCFG_ASEN n) (v == 1 || v == 2)).putB (F.SPW_AXCFG_PREF n) (v == 2))

def State.strapField (s : State) : State := s.put F.FIO_SBCFG_ALL (s.fld F.STRAP_VAL_FLDSTBY)

/-- The registers whose reset value is a strap, and NODE of the host window. -/
def State.applyStraps (s : State) : State :=
  let s := (s.strapTimebase).strapField
  let s := s.put F.CLK_CFG_CLKSEL (s.fld F.STRAP_VAL_CLKSEL)
  let s := s.put F.HP_CFG_HOSTSEL (s.fld F.STRAP_VAL_HOSTSEL)
  s.put ⟨HW.node, 0, 4⟩ (s.fld F.STRAP_VAL_NODEID)

/-! ## Island resets -/

/-- Memory that neither R455 keeps across a reset nor R409 clears at it: the tightly coupled memory, the Basin and the engines'
memories. -/
def openMemory (a : Nat) : Bool := decide (0x04000000 ≤ a ∧ a < 0x04080000) || decide (0x20000000 ≤ a ∧ a < 0x30400000)

/-- Each listed byte that satisfies `p` takes a free value (assumption log 21). -/
def State.freeMem (s : State) (p : Nat → Bool) : State :=
  s.each ((s.mem.filter (fun e => p e.1)).map (fun e => e.1)) (fun a t =>
    let (v, t) := t.draw
    t.wr8 a (BitVec.ofNat 8 v))

/-- What of a switch position outlives a reset: its stack, its life sum, that it has been restored (R207, R208). -/
def wearKept (w : WearPos) : WearPos :=
  { WearPos.reset with stack := w.stack, life := w.life, restored := w.restored }

def State.keepWears (s : State) : State :=
  s.withWears ((s.wears.map (fun e => (e.1, wearKept e.2))).filter (fun e => decide (e.2 ≠ WearPos.reset)))

/-- A Spillway's reaction is in progress or holds a short. -/
def State.reacting (s : State) (n : Nat) : Bool :=
  s.gstate n == gsStep1 || s.gstate n == gsStep2 || (s.group n).phase2 || (s.group n).again || s.groupShorted n

/-- A reset of COMPUTE, TIMEBASE or FIELD ends every reaction in progress, that of a leg or link in no group included (R500), and leaves
its machine in freewheel (R12). -/
def State.endReactions (s : State) : State :=
  let s := s.each (axisList.filter s.reacting) (fun n t =>
    let t := (t.each (t.groupLegs n) (fun l u => u.holdLeg l)).step1 n 0 0
    let t := (t.put (F.SPW_GSTAT_STATE n) gsFreewheel).put (F.SPW_GSTAT_SAFE n) 1
    (t.modGroup n (fun g => { g with phase2 := false, again := false, maskSpillOver := g.maskSpill })).axisSafe n false)
  let s := s.each (legList.filter (fun l => (s.leg l).off == 1 || (s.leg l).off == 2)) (fun l t => (t.step2Leg l).offReached l)
  (s.each (List.range 16) (fun k t => if (t.link k).off == 0 then t else t.modLink k (fun x => { x with off := 0 }))).checkDone

/-- Starts on their way from or to an island that is put into reset do not arrive. -/
def State.dropStarts (s : State) (i : Nat) : State :=
  let stays := fun (x : Nat × Nat) => i != 1 && !(i == 0 && x.1 == 0) && !(i == 2 && startBoundary x.1 == 1)
  s.withWeir { s.weir with starts := (s.weir.starts.map (fun g => g.filter stays)).filter (fun g => !g.isEmpty) }

/-- The registers that a warm reset keeps: RILL's, and the failure flags with the counters of the failing instances (R420,
R455). -/
def State.warmKept (s : State) (a : Nat) : Bool :=
  let links := (List.range 16).filter (fun k => s.flag (F.GL_SEQOPEN_INVERR k))
  let cans := (List.range 8).filter (fun n => s.flag (F.CAN_INV_INVERR n))
  let caps := [0, 1, 2, 3].filter (fun n => s.flag (F.BSN_SQUE_INVERR n))
  decide (0x50010000 ≤ a ∧ a < 0x50018000) || decide (0x50020000 ≤ a ∧ a < 0x50028000) ||
    links.any (fun k => decide (R.GL_SEQSENT k ≤ a ∧ a ≤ R.GL_SEQOPEN k)) ||
    cans.any (fun n => decide (R.CAN_RXACC n ≤ a ∧ a ≤ R.CAN_INV n) || a == R.CAN_TXPEND n || a == R.CAN_QSTAT n 0 ||
      a == R.CAN_QSTAT n 1) ||
    caps.any (fun n => decide (R.BSN_SREC n ≤ a ∧ a ≤ R.BSN_SQUE n)) || a == R.MBX_INV ||
    (s.flag F.MBX_INV_CRERR && decide (R.MBX_CRED 0 ≤ a ∧ a ≤ R.MBX_CREDPOOL)) ||
    (s.flag F.MBX_INV_RSVERR && (decide (R.MBX_RSVCNT 0 ≤ a ∧ a ≤ R.MBX_RSVCNT 4) || a == R.MBX_RSVFREE ||
      decide (R.MBX_RSVOWN 0 ≤ a ∧ a ≤ R.MBX_RSVOWN 511)))

/-- Put island `i` into reset: its registers, but for the failure flags that only PORST_N clears and the counters with them (R420), and what
its sequencers hold. -/
def State.resetIsland (s : State) (i : Nat) : State :=
  let s := if i == 0 || i == 1 || i == 5 then s.endReactions else s
  let s := if i == 0 then s.each (List.range 16) (fun e t => t.unstall e) else s
  let s := s.dropStarts i
  let s := s.keepRegs (fun a => islandOf a != some i || s.warmKept a)
  match i with
  | 0 => (((s.freeMem (fun a => islandOf a == some 0)).withEngines []).withSlots []).withInputs []
  | 1 =>
    let s := (((s.withGroups []).withLegs []).withScheds []).withCarriers []
    let s := (((s.withTimers []).withLinks []).withCaps []).withCasc Casc.reset
    let s := (((s.withLatches []).withProfiles []).withVms []).withWearQ []
    (s.keepWears).strapTimebase
  | 2 => ((s.withSdChans []).withAdcSeqs []).withSense SenseState.reset
  | 3 => s.withNet { s.net with
      tsq := [], fdb := [], fixed := [], txq := [], rx := [], resid := [], gridFrom := 0, gridSent := none, wire := none,
      cntHeld := 0, timeHeld := 0 }
  | 4 =>
    let s := s.keepMem (fun a => islandOf a != some 4)
    s.withCans []
  | _ => (s.withFins []).strapField

/-- Write CLK.IRST: the islands newly held are reset. -/
def State.writeIrst (s : State) (v : Nat) : State :=
  let new := bitsOf 6 (v - (v &&& (s.rd R.CLK_IRST).toNat))
  (s.wr R.CLK_IRST (BitVec.ofNat 32 (v % 64))).each new (fun i t => t.resetIsland i)

/-! ## The smallest serving set (R23, R36) -/

/-- Recovery on the smallest serving set: every unit outside it is held in reset. `bit` is that of MODE.CAUSE. -/
def State.bootRecovery (s : State) (bit : Nat) : State :=
  let s := (s.writeIrst 63).setCause 0 [bit]
  (s.put F.MODE_CUR_MIN 1).toMode modeRecovery

/-! ## Warm and power-on reset -/

/-- What of the security unit no reset touches: OTP and the flash slots' marks. -/
def secKept (x : SecState) : SecState := { SecState.reset with otp := x.otp, written := x.written, slotBad := x.slotBad }

/-- Into the Reset mode by a warm reset (R302, R455): every island but RILL, with what R455 keeps, and the SFM's hold until PORST_N
(R309). `causes` are bits of
CLK.RSTCAUSE; during the Reset hold they are added and nothing else happens (R464). -/
def State.warmReset (s : State) (causes : Nat) : State :=
  let done := fun (t : State) => (t.withMode { t.mode with warmDue := 0 }).withClk { t.clk with faultDue := 0 }
  if s.curMode == modeReset then done (s.wr R.CLK_RSTCAUSE (s.rd R.CLK_RSTCAUSE ||| BitVec.ofNat 32 causes))
  else
    let stk := (List.range 6).map (fun i => s.rd (R.WEIR_STK i))
    let keep := s.warmKept
    let t : State := { State.reset with
      regs := s.regs.filter (fun e => keep e.1)
      mem := s.mem.filter (fun e => decide (0x10020000 ≤ e.1 ∧ e.1 < 0x10400000) || openMemory e.1)
      flash := s.flash
      sec := secKept s.sec
      wears := s.wears
      mode := { ModeState.reset with
        rillHeld := s.mode.rillHeld
        bad := s.mode.bad.filter (fun w => decide (0x10020000 ≤ 8 * w ∧ 8 * w < 0x10400000) || openMemory (8 * w)) }
      clk := { ClkState.reset with strapDue := s.clk.strapDue, cleared := s.clk.cleared }
      pins := s.pins
      free := s.free
      pending := s.pending }
    let t := (t.freeMem openMemory).keepWears
    let t := t.each ((List.range 6).zip stk) (fun x u => u.wr (R.WEIR_PREV x.1) x.2)
    let t := (t.put F.CLK_STAT_MLOCK 0).put F.CLK_STAT_SLOCK 0
    let t := t.putB F.WEIR_SFMSTAT_LSERR (s.flag F.WEIR_SFMSTAT_LSERR)
    let t := t.wr R.CLK_RSTCAUSE (t.rd R.CLK_RSTCAUSE ||| BitVec.ofNat 32 causes)
    (t.wr R.CLK_IRST 63).applyStraps

/-- Into the Reset mode by a power-on reset: nothing is kept but flash and OTP; POR or BOR alone stands in RSTCAUSE. -/
def State.powerOn (s : State) (bor : Bool) : State :=
  let t : State := { State.reset with
    flash := s.flash
    sec := secKept s.sec
    pins := s.pins
    free := s.free
    pending := s.pending }
  t.wr R.CLK_RSTCAUSE (if bor then 2 else 1)

end Sys2Proof.Machine
end

