-- ==== Sys2Proof/Machine/Trajectory.lean ====
section
/-!
DEFINITION. The trajectory and gearing commands (R242).
-/

namespace Sys2Proof.Machine

/-- "Profile modes" of R242: Run, Derate or Service, with the axis Energised in profile mode. -/
def State.profileMode (s : State) (n : Nat) : Bool :=
  s.inModes runModes && s.axState n == axEnergised && (s.axis n).sp.mode == 3

/-- What a word of a context keeps of a value written: CTL not its reserved bits nor COMMIT, LIM not its reserved bits. -/
def ctxBits (a v : Nat) : Nat :=
  if a % 128 == R.PU_CTX_CTL 0 % 128 then v % 2 ^ 32 / 2 ^ 20 * 2 ^ 20
  else if a % 128 == R.PU_CTX_LIM 0 % 128 then v % 2 ^ 32 / 2 ^ 16 * 2 ^ 16
  else v

/-- Write the words of a context from an image. -/
def State.writeCtx (s : State) (c : Nat) (bs : List Byte) : State :=
  s.each (List.range 32) (fun i t => t.wr (ctxAddr c (4 * i)) (BitVec.ofNat 32 (ctxBits (4 * i) (numAt bs (4 * i) 4))))

/-- The firmware's copy of a context that the host wrote (R220). -/
def State.copyCtx (s : State) (c : Nat) : State :=
  s.each (List.range 32) (fun i t =>
    t.withCtxCopy (SMap.set (fun _ => 0) t.ctxCopy (ctxAddr c (4 * i)) (t.rd (ctxAddr c (4 * i)))))

/-- A task bound to an axis other than the owner of context `c` holds a write window on it. -/
def State.ctxForeign (s : State) (c : Nat) : Bool :=
  let a := ctxAddr c 0
  (List.range 16).any (fun e => (List.range 8).any (fun k =>
    s.flag (F.CE_TASKENT_AXB e k) && s.fld (F.CE_TASKENT_AXIS e k) != s.fld (F.PU_CTXOWN_AXIS c) &&
    (List.range 8).any (fun i =>
      s.flag (F.CE_GRLIM_W e k i) && decide (s.fld (F.CE_GRBASE_BASE e k i) * 4 < a + 128) &&
        decide (a ≤ s.fld (F.CE_GRLIM_LIMIT e k i) * 4))))

/-- Context types that are empty or act as empty. -/
def emptyType (t : Nat) : Bool := t == 0 || decide (4 ≤ t)

def execTrajCtxWrite (c : HostCmd) (s : State) : Out :=
  .next (s.hostCmd 0x20 c (fun s =>
    let x := arg c 0 1
    let img := s.attached c
    let t := s.writeCtx x img
    if !s.inModes [2, 4, 5, 6, 7, 9] then refuseMode s
    else if s.ctxForeign x then refuse stState s
    else if img.isEmpty then refuse stMalformed s
    else if !((t.readCtx x).ok || emptyType (numAt img 0 4 / 2 ^ 28)) then refuse stRange s
    else
      let s := t.copyCtx x
      okReply (if arg c 1 1 % 2 == 1 then s.ctxCommit x else s)))

/-- TRAJ_CTX_READ: the image in a result buffer. -/
def execTrajCtxRead (c : HostCmd) (s : State) : Out :=
  .next (s.hostCmd 0x21 c (fun s =>
    if !s.inModes liveModes then refuseMode s
    else replyWith c.ch ((List.range 32).flatMap (fun i => s.reg4 (ctxAddr (arg c 0 1) (4 * i)))) s))

/-- Context `c` is active or queued on some axis (R218). -/
def State.ctxBusy (s : State) (c : Nat) : Bool :=
  axisList.any (fun n => (s.flag (F.PU_AXCTX_AV n) && s.fld (F.PU_AXCTX_ACTIVE n) == c) ||
    (s.flag (F.PU_AXCTX_NV n) && s.fld (F.PU_AXCTX_NEXT n) == c))

def execTrajAssign (c : HostCmd) (s : State) : Out :=
  .next (s.hostCmd 0x22 c (fun s =>
    let x := arg c 0 1
    let n := arg c 1 1
    if !s.inModes [2, 4, 5, 6, 9] then refuseMode s
    else if decide (15 < n) && n != 255 then refuse stRange s
    else if s.ctxBusy x then refuse stState s
    else okReply ((s.putB (F.PU_CTXOWN_V x) (n != 255)).put (F.PU_CTXOWN_AXIS x) (if n == 255 then 0 else n))))

/-- Queue context `c` on axis `n`. -/
def State.queueCtx (s : State) (n c : Nat) : State := (s.put (F.PU_AXCTX_NEXT n) c).put (F.PU_AXCTX_NV n) 1

/-- The direction from the reference to the target of a context: positive, negative or zero. -/
def State.ctxDirection (s : State) (n : Nat) (m : MoveCtx) : Int :=
  m.target + (if m.rel then (s.profile n).last else 0) - (s.profile n).pos

/-- A limit of the context is active in the direction of its target (R228). -/
def State.ctxBlocked (s : State) (n : Nat) (m : MoveCtx) : Bool :=
  let d := s.ctxDirection n m
  (decide (0 < d) && s.limitInput m.lim 24) || (decide (d < 0) && s.limitInput m.lim 16)

/-- TRAJ_START: when 0 now, 1 queued. Now, on a moving reference, is SWAPNOW (R230). -/
def execTrajStart (c : HostCmd) (s : State) : Out :=
  .next (s.hostCmd 0x23 c (fun s =>
    let n := arg c 0 1
    let x := arg c 1 1
    let w := arg c 2 1
    let m := s.readCtx x
    if decide (15 < n) then refuse stRange s
    else if !s.profileMode n then refuseMode s
    else if decide (1 < w) || !m.ok || !(s.flag (F.PU_CTXOWN_V x) && s.fld (F.PU_CTXOWN_AXIS x) == n) then refuse stRange s
    else if m.typ != 3 && s.ctxBlocked n m then refuse stState s
    else if s.freewheels n && !s.axValid n then refuse stState s
    else if s.flag (F.PU_AXCTX_NV n) then refuse stBusy s
    else
      let s := s.queueCtx n x
      okReply (if w == 1 then s.endFreewheel n else if s.refAtRest n || s.puState n == psTracking then s.beginMove n false
        else s.puRequest n reqSwap)))

/-- The active context of axis `n` is a move context. -/
def State.activeMove (s : State) (n : Nat) : Bool :=
  s.flag (F.PU_AXCTX_AV n) && ((s.profile n).ctx.typ == 1 || (s.profile n).ctx.typ == 2)

/-- TRAJ_TARGET writes TARGET and REL of the active context and commits it. -/
def execTrajTarget (c : HostCmd) (s : State) : Out :=
  .next (s.hostCmd 0x24 c (fun s =>
    let n := arg c 0 1
    let x := s.fld (F.PU_AXCTX_ACTIVE n)
    if decide (15 < n) then refuse stRange s
    else if !s.profileMode n then refuseMode s
    else if !s.activeMove n then refuse stState s
    else
      let s := (s.wr (ctxAddr x 8) (BitVec.ofNat 32 (arg c 1 4))).wr (ctxAddr x 12) (BitVec.ofNat 32 (arg c 5 4))
      let s := s.put (F.PU_CTX_CTL_REL x) (arg c 9 1)
      okReply (((s.copyCtx x).ctxCommit x).puRequest n reqTarget)))

/-- TRAJ_PARAM writes the parameters its mask names (bit 0 VMAX, 1 ACC, 2 DEC, 3 TJ) and commits; the tick that reads the
commit decides the answer. -/
def execTrajParam (c : HostCmd) (s : State) : Out :=
  .next (s.hostCmdW 0x25 c (fun s =>
    let n := arg c 0 1
    let k := arg c 1 1
    let x := s.fld (F.PU_AXCTX_ACTIVE n)
    let put (b : Nat) (t : State) (off v : Nat) : State := if k.testBit b then t.wr (ctxAddr x off) (BitVec.ofNat 32 v) else t
    let t := put 2 (put 1 (put 0 s 0x10 (arg c 2 4)) 0x14 (arg c 6 4)) 0x18 (arg c 10 4)
    let t := put 3 t 0x20 (t.ctxWord x 0x20 / 65536 * 65536 + arg c 14 2)
    if decide (15 < n) then .done { status := stRange } s
    else if !s.profileMode n then .done { status := stState, detail := 0x08 } s
    else if !s.activeMove n then .done { status := stState } s
    else if decide (15 < k) || !(t.readCtx x).ok then .done { status := stRange } s
    else
      let t := ((t.copyCtx x).ctxCommit x).modProfile n (fun p => { p with waiters := p.waiters ++ [c.ch.val] })
      .waits t))

/-- TRAJ_STOP: kind 0 ramp, 1 quick (R231). -/
def execTrajStop (c : HostCmd) (s : State) : Out :=
  .next (s.hostCmd 0x26 c (fun s =>
    if !s.inModes [5, 6, 7, 9] then refuseMode s
    else okReply (s.each (bitsOf 16 (arg c 0 2)) (fun n t => t.puRequest n (if arg c 2 1 == 0 then reqStop else reqQstop)))))

def execTrajStatus (c : HostCmd) (s : State) : Out :=
  .next (s.hostCmd 0x27 c (fun s =>
    let n := arg c 0 1
    if !s.inModes liveModes then refuseMode s
    else if decide (15 < n) then refuse stRange s
    else okResult (s.reg4 (R.PU_AXSTAT n) ++ s.reg4 (R.PU_AXCTX n) ++ s.reg4 (R.PU_REFPF n) ++ s.reg4 (R.PU_REFPI n) ++
      s.reg4 (R.PU_REFV n) ++ s.reg4 (R.PU_REFA n) ++ s.reg4 (R.PU_DECEFF n) ++ s.reg4 (R.PU_MPOSL n) ++
      s.reg4 (R.PU_MPOSH n)) s))

def execGearEngage (c : HostCmd) (s : State) : Out :=
  .next (s.hostCmd 0x28 c (fun s =>
    let n := arg c 0 1
    let x := arg c 1 1
    let m := s.readCtx x
    if decide (15 < n) then refuse stRange s
    else if !s.profileMode n then refuseMode s
    else if !(s.refAtRest n || s.puState n == psTracking) || (s.freewheels n && !s.axValid n) then refuse stState s
    else if !(m.typ == 3 && m.ok && s.flag (F.PU_CTXOWN_V x) && s.fld (F.PU_CTXOWN_AXIS x) == n) then refuse stRange s
    else okReply ((s.queueCtx n x).beginMove n true)))

/-- GEAR_TABLE writes the table of the active gear context and commits it; the tick that reads it decides (R237). -/
def execGearTable (c : HostCmd) (s : State) : Out :=
  .next (s.hostCmdW 0x29 c (fun s =>
    let n := arg c 0 1
    let x := s.fld (F.PU_AXCTX_ACTIVE n)
    let k := arg c 9 1
    let t := (s.wr (ctxAddr x 0x0C) (BitVec.ofNat 32 (arg c 1 4))).wr (ctxAddr x 0x10) (BitVec.ofNat 32 (arg c 5 4))
    let t := t.wr (ctxAddr x 0x14) (BitVec.ofNat 32 k)
    let t := t.each (List.range (Nat.min k 4)) (fun i t => t.each (List.range 4) (fun j t =>
      t.wr (ctxAddr x (0x28 + 0x14 * i + 4 * j)) (BitVec.ofNat 32 (arg c (10 + 16 * i + 4 * j) 4))))
    if decide (15 < n) then .done { status := stRange } s
    else if !(s.profileMode n && (s.profile n).gear != 0) then .done { status := stState, detail := 0x08 } s
    else if decide (4 < k) || !(t.readCtx x).ok then .done { status := stRange } s
    else .waits (((t.copyCtx x).ctxCommit x).modProfile n (fun p => { p with waiters := p.waiters ++ [c.ch.val] }))))

/-- GEAR_DISENGAGE: kind 0 ramp, 1 quick (R239). -/
def execGearDisengage (c : HostCmd) (s : State) : Out :=
  .next (s.hostCmd 0x2A c (fun s =>
    let n := arg c 0 1
    if !s.inModes [5, 6, 7, 9] then refuseMode s
    else if decide (15 < n) then refuse stRange s
    else if (s.profile n).gear == 0 then refuse stState s
    else okReply (s.puRequest n (if arg c 1 1 == 0 then reqStop else reqQstop))))

/-- VMASTER_SET. -/
def execVmasterSet (c : HostCmd) (s : State) : Out :=
  .next (s.hostCmd 0x2B c (fun s =>
    if !s.inModes liveModes then refuseMode s
    else if decide (3 < arg c 0 1) then refuse stRange s
    else okReply (s.vmSet (arg c 0 1) (arg c 1 8) (arg c 9 4) (arg c 13 8) (arg c 21 2))))

/-! ## PU_AXIS_CFG (R213, R244) -/

/-- The mean and the shortest interval in ticks between profile ticks of axis `n`, whose carrier events pass in every Nth period
(R84); none where it has no tick. -/
def State.tickInterval (s : State) (n : Nat) : Option (Nat × Nat) :=
  let sel := s.fld (F.PU_AXCFG_TSEL n)
  let src := s.fld (F.PU_AXCFG_TSRC n)
  if src == 1 then
    if decide (24 ≤ sel) then none
    else
      let half := s.fld (F.CB_PERIOD_PERIOD ((s.leaderOf sel).getD sel)) * s.countTicks sel
      let k := s.fld (F.CB_CFG_EVPS sel) + 1
      some (if s.fld (F.PU_AXCFG_TEVT n) == 2 then (half * k, half) else (2 * half * k, 2 * half * k))
  else if src == 2 && decide (sel < 8) then
    let t := Nat.max 200 ((s.rd (R.ES_ITMPER sel)).toNat + 1)
    some (t, t)
  else none

/-- The axes a sequencer serves. -/
def State.served (s : State) (k : Nat) : List Nat :=
  axisList.filter (fun n => s.flag (F.PU_AXCFG_EN n) && s.fld (F.PU_AXCFG_PS n) == k)

/-- R213 holds for every sequencer. -/
def State.puLoadOk (s : State) : Bool :=
  [0, 1].all (fun k =>
    let l := s.served k
    decide (l.length ≤ 8) && l.all (fun n => match s.tickInterval n with
      | some t => decide (5000 ≤ t.1) && decide (580 * l.length ≤ t.2)
      | none => true))

/-- PU.PSSTAT.NAX of both sequencers. -/
def State.syncNax (s : State) : State := s.each [0, 1] (fun k t => t.put (F.PU_PSSTAT_NAX k) (t.served k).length)

/-- PU_AXIS_CFG: axis, sequencer, tick source (TSRC, TSEL, TEVT), feedback source (FBSRC, FBIDX), one byte each. -/
def execPuAxisCfg (c : HostCmd) (s : State) : Out :=
  .next (s.hostCmd 0x2C c (fun s =>
    let n := arg c 0 1
    let t := (s.put (F.PU_AXCFG_EN n) 1).put (F.PU_AXCFG_PS n) (arg c 1 1)
    let t := ((t.put (F.PU_AXCFG_TSRC n) (arg c 2 1)).put (F.PU_AXCFG_TSEL n) (arg c 3 1)).put (F.PU_AXCFG_TEVT n) (arg c 4 1)
    let t := (t.put (F.PU_AXCFG_FBSRC n) (arg c 5 1)).put (F.PU_AXCFG_FBIDX n) (arg c 6 1)
    let x := s.axis n
    let stepOk := x.type != 3 || stepTick x.leader (arg c 2 1) (arg c 3 1) (arg c 4 1)
    if !s.inModes configModes then refuseMode s
    else if decide (15 < n) then refuse stRange s
    else if s.axState n != axDisabled then refuse stState s
    else if decide (1 < arg c 1 1) || decide (3 < arg c 2 1) || decide (31 < arg c 3 1) || decide (3 < arg c 4 1) ||
        decide (7 < arg c 5 1) || decide (15 < arg c 6 1) || !stepOk || !t.puLoadOk then refuse stRange s
    else okReply (t.syncNax)))

end Sys2Proof.Machine
end

