-- ==== Sys2Proof/Machine/Weir.lean ====
section
/-!
DEFINITION. The Weir's firmware parts, masks, self-test retries and safety monitor, and the fault commands 0x70 to 0x79
(spec/12). What a source does when it asserts is `State.assertEv` of Ops.
-/

namespace Sys2Proof.Machine

/-- A detector outside the commands' own asserts source `ev` (R289). A status event (192 to 255) is only routed (R288). -/
def execSourceAssert (ev : Fin 256) (s : State) : Out := .next (s.assertEv ev)

/-! ## The firmware's part of a reaction (R293, R294, R252) -/

/-- The angle of a stepper axis stays where its last activation put it (R252): the move or gearing ends, and the reference and with it the
step count hold that angle. `stage` is how the freeze goes on. -/
def State.freezeAngle (s : State) (n stage : Nat) : State :=
  let p := (s.axis n).loop.applied
  let s := ((s.put (F.PU_AXCTX_AV n) 0).put (F.PU_AXCTX_NV n) 0).modProfile n (fun x => { x with
    motion := none, gear := 0, vel := 0, acc := 0, pos := p * one32, last := p * one32, req := 0, limited := false })
  let s := (s.plainDec n).wr (R.PU_STEPCNT n) (BitVec.ofNat 32 (uns 32 p))
  let s := if s.puState n == psTracking || s.puState n == psLimit then s else s.setPuState n psRest
  s.modAxis n (fun x => { x with stopping := true, freeze := stage })

/-- The firmware stops an axis: a stepper's angle freezes at the next activation (R252), quick stop in profile mode, else the reference goes
to 0. -/
def State.stopAxis (s : State) (n : Nat) : State :=
  if s.axState n == axEnergised && (s.axis n).type == 3 then s.freezeAngle n 1
  else if s.axState n == axEnergised && (s.axis n).sp.mode == 3 then s.puRequest n reqQstop
  else s.modAxis n (fun x => { x with stopping := true })

/-- The test of R38: in profile mode the reference is at rest; an axis of a type with a speed for which AX_LIMITS set a speed limit
has `slow` (its measured speed has stayed below 1 % of the limit for 10 ms); any other has its torque, current or voltage
reference at 0. A stepper axis that freezes rests once the freeze is complete (R252, R255). -/
def State.axisAtRest (s : State) (n : Nat) (slow : Bool) : Bool :=
  let x := s.axis n
  if x.type == 3 && (x.stopping || x.sp.mode != 3) then x.freeze == 4
  else if x.sp.mode == 3 then s.refAtRest n
  else if (x.type == 1 || x.type == 2 || x.type == 4) && x.speed != 0 then slow
  else x.loop.ref == 0

/-- The firmware's part of an axis stop of AX_n (R293): it first starts the stop; when the axis is at rest it disables the
legs and takes the axis to Faulted, which completes the reaction. `slow` is the measured part of R38's test. -/
def execAxisStopFirmware (n : Fin 16) (slow : Bool) (s : State) : Out :=
  .next (if s.supRuns && s.fld (F.WEIR_DOMST_REACT n) == 2 && s.flag (F.WEIR_DOMST_ACT n) && s.axState n == axEnergised then
    if s.weir.stopDue.testBit n then
      (s.withWeir { s.weir with stopDue := putBit s.weir.stopDue n false }).stopAxis n
    else if s.axisAtRest n slow then
      ((s.clearAxisLegs n).setAxState n axFaulted).checkDone
    else s
  else s)

/-- STOPT has passed and the axis is not Faulted (R293): the domain escalates to axis SafeOff. -/
def execAxisStopEscalation (n : Fin 16) (s : State) : Out :=
  .next (if s.curMode != modeReset && s.fld (F.WEIR_DOMST_REACT n) == 2 && s.flag (F.WEIR_DOMST_ACT n) &&
      !s.flag (F.WEIR_DOMST_DONE n) then
    let s := (s.put (F.WEIR_DOMST_REACT n) 4).put (F.WEIR_DOMST_ESC n) 1
    (s.startReaction n 4 (s.fld (F.WEIR_DOMST_FIRST n)) []).checkDone
  else s)

/-- The firmware's part of an axis SafeOff (R294): the setpoint is 0 in its present mode with the watchdog off, the active and
queued contexts are cleared. -/
def execAxisSafeoffFirmware (n : Fin 16) (s : State) : Out :=
  .next (if s.supRuns && s.weir.safeOffDue.testBit n then
    let s := s.withWeir { s.weir with safeOffDue := putBit s.weir.safeOffDue n false }
    let s := s.writeSetpoint n ⟨(s.axis n).sp.mode, 0, 0, 0⟩
    let s := (s.put (F.PU_AXCTX_AV n) 0).put (F.PU_AXCTX_NV n) 0
    s.modProfile n (fun p => { p with motion := none, gear := 0, req := 0 })
  else s)

/-! ## Settle masks (R300, R301) -/

/-- The echo mismatch of a leg is masked. -/
def State.echoMasked (s : State) (l : Nat) : Bool :=
  (match s.legGroup l with
    | some n => (s.group n).maskSpill || (s.group n).maskClear
    | none => false) || (s.link (l / 3)).mask

/-- An echo mismatch that is still active when its mask ends asserts at that moment (R115, R301). -/
def State.echoAssert (s : State) (legs : List Nat) : State :=
  s.each (legs.filter (fun l => legLinked l && !s.echoMasked l)) (fun l t =>
    let up := (t.link (l / 3)).contra.testBit (2 * (l % 3) + 1) && decide (2 < (t.leg l).echoUp)
    let lo := (t.link (l / 3)).contra.testBit (2 * (l % 3)) && decide (2 < (t.leg l).echoLo)
    let t := if up then t.tripLeg l causeEcho true false else t
    if lo then t.tripLeg l causeEcho false true else t)

/-- TSET after its action has ended a settle mask ends; what is still active asserts (R300, R301). -/
def execSettleMaskEnd (m : MaskId) (s : State) : Out :=
  match m with
  | .spill n =>
    .next (if (s.group n).maskSpillOver then
      ((s.modGroup n (fun g => { g with maskSpill := false, maskSpillOver := false })).syncMask n).echoAssert (s.groupLegs n)
    else s)
  | .clear n =>
    .next (if (s.group n).maskClearOver then
      let s := (s.modGroup n (fun g => { g with maskClear := false, maskClearOver := false })).syncMask n
      let s := s.echoAssert (s.groupLegs n)
      if !s.flag (F.SPW_GSTAT_ENEFF n) && !s.flag (F.SPW_GSTAT_LATCH n) && !(s.groupLegs n).isEmpty then s.enableOff n else s
    else s)
  | .link k =>
    .next (if (s.link k).maskOver then
      let s := s.modLink k (fun x => { x with mask := false, maskOver := false })
      let s := s.syncMaskOf k
      let s := if s.linkState k == linkLost then s.linkLoss k else s
      s.echoAssert [3 * k.val, 3 * k.val + 1, 3 * k.val + 2]
    else s)
  | .axisStop n =>
    .next (if s.weir.maskStopOver.testBit n then
      let s := s.withWeir { s.weir with
        maskStop := putBit s.weir.maskStop n false, maskStopOver := putBit s.weir.maskStopOver n false }
      let s := s.syncMask n
      if (s.axis n).ramping then s.assertEv (evAxis n 4) else s
    else s)

/-! ## The safety monitor (R306 to R309) -/

/-- SUP writes WEIR.SUPHB.KICK. -/
def State.kick (s : State) : State := s.withWeir { s.weir with noKickSinceSafeOff := false }

def execSupHeartbeatKick (s : State) : Out := .next (if s.supRuns then s.kick else s)

/-- A heartbeat window passes without a kick (R307); not while a debugger halts SUP (R442). -/
def execSupWatchdogMiss (s : State) : Out :=
  .next (if s.flag F.WEIR_SFMSTAT_RUN && !s.clk.safetyStopped && !s.sec.halted.testBit 16 then
    ((s.put F.WEIR_SFMSTAT_WDMISS 1).inc F.WEIR_SFMSTAT_HBMISS).assertEv 137
  else s)

/-- A warm reset becomes due, with its bit of CLK.RSTCAUSE (R455). -/
def State.requestWarm (s : State) (bit : Nat) : State :=
  s.withMode { s.mode with warmDue := putBit s.mode.warmDue bit true }

/-- No kick for 100 ms after SafeOff was reached, with RSTEN = 1 (R307). -/
def execSfmResetRequest (s : State) : Out :=
  .next (if s.flag F.WEIR_SFMSTAT_RUN && !s.clk.safetyStopped && s.flag F.WEIR_SFMCFG_RSTEN && s.weir.noKickSinceSafeOff &&
      !s.sec.halted.testBit 16 then s.requestWarm 4 else s)

/-- The SFM recomputes the CRC of the safety configuration (R308). -/
def execSfmConfigCheck (s : State) : Out :=
  .next (if s.flag F.WEIR_SFMSTAT_RUN && !s.clk.safetyStopped && s.protectCrc % 2 ^ 32 != s.fld F.WEIR_SFMCRC_CRC then
    (s.put F.WEIR_SFMSTAT_CFGERR 1).assertEv 138
  else s)

/-- A mismatch of the lockstep pair (R309): the SFM is held in reset until PORST_N. -/
def execSfmLockstepMismatch (s : State) : Out :=
  .next (if s.flag F.WEIR_SFMSTAT_RUN && !s.clk.safetyStopped then
    ((s.put F.WEIR_SFMSTAT_LSERR 1).put F.WEIR_SFMSTAT_RUN 0).assertEv 136
  else s)

/-! ## Boot self-tests (R304, R305) -/

/-- The result field of an instance of a test: 0 desaturation, 1 gate-link loopback, 2 sigma-delta pattern, 3 field input. -/
def bistFld (t i : Nat) : Fld :=
  if t == 0 then ⟨R.WEIR_BISTDES (i / 16), 2 * (i % 16), 2⟩
  else if t == 1 then ⟨R.WEIR_BISTGL, 2 * i, 2⟩
  else if t == 2 then ⟨R.WEIR_BISTSD (i / 16), 2 * (i % 16), 2⟩
  else ⟨R.WEIR_BISTFI (i / 16), 2 * (i % 16), 2⟩

/-- How many instances a test has. -/
def bistCount (t : Nat) : Nat := if t == 1 then 16 else if t == 3 then 32 else 48

/-- Record a final result (1 pass, 2 fail, 3 inconclusive) of an instance. -/
def State.bistRecord (s : State) (t i r : Nat) : State :=
  let s := s.put (bistFld t i) r
  if r == 2 then s.put ⟨R.WEIR_BISTSUM, 4 + t, 1⟩ 1
  else if r == 3 then s.put ⟨R.WEIR_BISTSUM, 8 + t, 1⟩ 1 else s

/-- Once every test has ended: a failed one leads to Recovery on the smallest serving set (R36), and so does a BOOTSEL without
flash (R434). -/
def State.afterTests (s : State) : State :=
  if s.curMode != modeBoot || !s.clk.ready || !s.weir.retry.isEmpty then s
  else if s.fld F.WEIR_BISTSUM_FAIL != 0 then s.bootRecovery 3
  else if s.fld F.STRAP_VAL_BOOTSEL == 2 then s.bootRecovery 6
  else s

/-- The boot ROM's self-tests (R304): the instances listed fail (true) or end inconclusive for the first time (false), every
other one passes. -/
def State.selfTests (s : State) (bad : List (Fin 4 × Nat × Bool)) : State :=
  let s := s.put F.WEIR_BISTSUM_DONE 15
  let s := s.each [0, 1, 2, 3] (fun t u => u.each (List.range (bistCount t)) (fun i v =>
    match bad.find? (fun x => x.1.val == t && x.2.1 == i) with
    | none => v.bistRecord t i 1
    | some x =>
      if x.2.2 then v.bistRecord t i 2
      else (v.put ⟨R.WEIR_BISTSUM, 12 + t, 1⟩ 1).withWeir { v.weir with retry := v.weir.retry ++ [(t, i)] }))
  s.afterTests

/-- An instance that ended inconclusive is retried 1 ms later, once (R305): its second result stands. -/
def execSelfTestRetry (t : Fin 4) (inst : Nat) (result : Fin 4) (s : State) : Out :=
  .next (if s.curMode == modeBoot && s.weir.retry.contains (t.val, inst) && result.val != 0 then
    let s := s.withWeir { s.weir with retry := s.weir.retry.filter (fun x => x != (t.val, inst)) }
    (s.bistRecord t inst result).afterTests
  else s)

/-! ## Rearm, clear and notify (R299, R302, R303) -/

/-- Rearm the domains of a mask (R299): the refused ones, and the state. -/
def State.rearm (s : State) (mask : Nat) : Nat × State :=
  (List.range 17).foldl (fun (x : Nat × State) d =>
    if !mask.testBit d then x
    else
      let t := x.2
      if (t.flag (F.WEIR_DOMST_ACT d) && !t.flag (F.WEIR_DOMST_DONE d)) || (d == domDev && t.anyClassF) then
        (putBit x.1 d true, t.put ⟨R.WEIR_REARMREJ, d, 1⟩ 1)
      else
        let t := ((t.put (F.WEIR_DOMST_ACT d) 0).put (F.WEIR_DOMST_DONE d) 0).put (F.WEIR_DOMST_MERGED d) 0
        (x.1, ((t.put (F.WEIR_DOMST_ESC d) 0).put (F.WEIR_DOMST_REACT d) 0).put (F.WEIR_DOMST_FIRST d) 0)) (0, s)

/-- The class F bits of STK word `i`. -/
def State.classFBits (s : State) (i : Nat) : Nat :=
  maskOf ((List.range 32).filter (fun j => s.srcClass (32 * i + j) == classF))

/-- Write 1s to STK word `i`: bits of class F sources ignore them (R302). -/
def State.clearSticky (s : State) (i m : Nat) : State :=
  let w := s.fld (F.WEIR_STK_S i)
  s.put (F.WEIR_STK_S i) (w - (w &&& (m - (m &&& s.classFBits i))))

/-- Write WEIR.RCT.REACT of a source (R292): accepted in Configure and within ALLOW, else ignored with RCTIGN. -/
def State.writeReact (s : State) (ev r : Nat) : State :=
  if s.curMode == modeConfigure && (s.fld (F.WEIR_RCT_ALLOW ev)).testBit r then s.put (F.WEIR_RCT_REACT ev) r
  else s.put F.WEIR_REARMREJ_RCTIGN 1

/-- Remove the head of the notify queue. -/
def State.popNq (s : State) : State := (s.withWeir { s.weir with nq := s.weir.nq.drop 1 }).syncNq

/-! ## The fault commands (R311) -/

def execFaultRead (c : HostCmd) (s : State) : Out :=
  .next (s.hostCmd 0x70 c (fun s =>
    if !s.inModes liveModes then refuseMode s
    else
      let bytes := (List.range 6).flatMap (fun i => s.reg4 (R.WEIR_STK i)) ++
        (List.range 6).flatMap (fun i => s.reg4 (R.WEIR_PREV i)) ++
        (List.range 17).flatMap (fun d => s.reg4 (R.WEIR_DOMST d))
      replyWith c.ch bytes s))

def execFaultClear (c : HostCmd) (s : State) : Out :=
  .next (s.hostCmd 0x71 c (fun s =>
    if !s.inModes liveModes then refuseMode s
    else
      let ignored := ((List.range 6).map (fun i => (bitsOf 32 (arg c (4 * i) 4 &&& s.classFBits i)).length)).foldl (· + ·) 0
      let s := s.each (List.range 6) (fun i t => t.clearSticky i (arg c (4 * i) 4))
      okResult [BitVec.ofNat 8 ignored] s))

def execFaultRearm (c : HostCmd) (s : State) : Out :=
  .next (s.hostCmd 0x72 c (fun s =>
    if !s.inModes liveModes then refuseMode s
    else
      let (refused, s) := s.rearm (arg c 0 3)
      if refused == 0 then okResult (leBytes 3 0) s
      else ({ status := stState, result := leBytes 3 refused }, s)))

def execFaultReact (c : HostCmd) (s : State) : Out :=
  .next (s.hostCmd 0x73 c (fun s =>
    let ev := arg c 0 1
    let r := arg c 1 1
    if !s.inModes [modeConfigure] then refuseMode s
    else if decide (191 < ev) then refuse stRange s
    else
      let ok := decide (r < 7) && (s.fld (F.WEIR_RCT_ALLOW ev)).testBit r
      let s := s.writeReact ev r
      if ok then okReply s else refuse stRange s))

def execFaultInfo (c : HostCmd) (s : State) : Out :=
  .next (s.hostCmd 0x74 c (fun s =>
    if !s.inModes liveModes then refuseMode s
    else if decide (191 < arg c 0 1) then refuse stRange s
    else okResult (s.reg4 (R.WEIR_RCT (arg c 0 1))) s))

def execFaultDomcfg (c : HostCmd) (s : State) : Out :=
  .next (s.hostCmd 0x75 c (fun s =>
    let d := arg c 0 1
    let stopt := arg c 1 2
    let tset := arg c 3 2
    if !s.inModes [2, 4, 9] then refuseMode s
    else if decide (16 < d) || !decide (1 ≤ tset ∧ tset ≤ 1000) ||
        (d != domDev && !decide (100 ≤ stopt ∧ stopt ≤ 60000)) then refuse stRange s
    else
      let s := if d == domDev then s else s.put (F.WEIR_DOMCFG_STOPT d) stopt
      okReply (s.put (F.WEIR_DOMCFG_TSET d) tset)))

def execFaultNotify (c : HostCmd) (s : State) : Out :=
  .next (s.hostCmd 0x76 c (fun s =>
    if !s.inModes liveModes then refuseMode s
    else
      let bytes := s.weir.nq.map (fun e => BitVec.ofNat 8 e) ++ [BitVec.ofNat 8 (s.fld F.WEIR_NQ_OVF)]
      let s := (s.withWeir { s.weir with nq := [] }).syncNq
      okResult bytes (s.put F.WEIR_NQ_OVF 0)))

def execFaultBist (c : HostCmd) (s : State) : Out :=
  .next (s.hostCmd 0x77 c (fun s =>
    if !s.inModes liveModes then refuseMode s
    else
      okResult (s.reg4 R.WEIR_BISTSUM ++ (List.range 3).flatMap (fun w => s.reg4 (R.WEIR_BISTDES w)) ++ s.reg4 R.WEIR_BISTGL ++
        (List.range 3).flatMap (fun w => s.reg4 (R.WEIR_BISTSD w)) ++
        (List.range 2).flatMap (fun w => s.reg4 (R.WEIR_BISTFI w))) s))

def execEvtRoute (c : HostCmd) (s : State) : Out :=
  .next (s.hostCmd 0x78 c (fun s =>
    let t := arg c 0 1
    if !s.inModes [2, 4, 9] then refuseMode s
    else if decide (31 < t) then refuse stRange s
    else okReply ((s.put (F.EVR_ROUTE_EV t) (arg c 1 1)).put (F.EVR_ROUTE_EN t) (arg c 2 1))))

/-- SFM_STATUS returns SFMSTAT and the version of the SFM's program, which the spec does not give: free. -/
def execSfmStatus (c : HostCmd) (s : State) : Out :=
  .next (s.hostCmd 0x79 c (fun s =>
    if !s.inModes liveModes then refuseMode s
    else
      let (v, s) := s.draw
      okResult (s.reg4 R.WEIR_SFMSTAT ++ leBytes 4 v) s))

end Sys2Proof.Machine
end

