-- ==== Sys2Proof/Machine/Mode.lean ====
section
/-!
DEFINITION. Device modes and axis states (spec/02): the transition table, Stop, Derate, Standby and the wake.
-/

namespace Sys2Proof.Machine

/-! ## The transition table (R30) -/

/-- The STO inputs are high at this moment, whether or not the device has watched them (R30, R44). -/
def State.stoHigh (s : State) : Bool := s.pins.stoA && s.pins.stoB

/-- The image of CE_e stands as it was checked: its signature still verifies, program memory still holds its code, without a
double-bit error, and its tasks keep within their rights (R30). -/
def State.imageStands (s : State) (e : Nat) : Bool :=
  let g := s.engImg e
  !s.flag (F.CE_STAT_PMDBL e) &&
    (match g.stored with | some n => s.imageCheck (2 + n) 2 == 0 | none => s.imageSigned g.image) &&
    (match g.part with
      | some p => p.sections.all (fun x => x.1 || s.rdBytes (progBase e + x.2.1) x.2.2.length == x.2.2) && (s.rightsFail p).isNone
      | none => true)

/-- Every loaded engine task passes the check of its signature and rights (R30). -/
def State.enginesChecked (s : State) : Bool := axisList.all (fun e => !(s.engImg e).loaded || s.imageStands e)

/-- Any derating input of an axis that is not Disabled is active (R37, R200). -/
def State.derating (s : State) : Bool :=
  axisList.any (fun n => s.axState n != axDisabled &&
    (s.flag (F.WU_AXST_VF n) || s.flag (F.WU_AXST_DC n) || s.flag (F.WU_AXST_LIFE n) || s.flag (F.WU_AXST_TJ n)))

/-- Axes whose safe state may be active short: they take the rest check of R40. -/
def State.restAxes (s : State) : List Nat := axisList.filter s.mayShort

def reasonIf (c : Bool) (r : Nat) : List Nat := if c then [r] else []

/-- The Update session is authorised (R433, R438). -/
def State.updateAuth (s : State) : Bool := s.lcs == lcsBlank || s.lcs == lcsReturn || s.granted 1

/-- The reasons that refuse the change to mode `t`, in the codes of MODE.REQ.REFUSE; `host` for a request of the host. -/
def State.modeReasons (s : State) (t : Nat) (host : Bool) : List Nat :=
  let m := s.curMode
  let dis := reasonIf (!s.allAxes axDisabled) 2
  let noF := reasonIf s.anyClassF 4
  let dev := reasonIf (s.flag (F.WEIR_DOMST_ACT domDev)) 6
  let sto := reasonIf (!s.stoHigh) 5
  let halt := reasonIf ((m == modeSafeOff || m == modeRecovery) && s.fld F.SEC_DBG_LEVEL == 2) 8
  let pair (a b : Nat) : Bool := m == a && t == b
  halt ++
  (if pair modeConfigure modeReady then reasonIf (!s.committed || !s.enginesChecked) 8
  else if pair modeConfigure modeService || pair modeReady modeService then reasonIf (!s.feature 11) 8
  else if pair modeReady modeConfigure || pair modeService modeConfigure then dis
  else if pair modeReady modeRun then noF ++ sto ++ dev ++ reasonIf (!s.flag F.CLK_SUPMON_VDRVIN) 8
  else if (m == modeRun || m == modeDerate) && t == modeStop then []
  else if pair modeService modeReady then reasonIf (s.anyAxis axEnergised) 9
  else if pair modeSafeOff modeReady then noF ++ sto ++ dev
  else if (m == modeConfigure || m == modeReady || m == modeSafeOff) && t == modeStandby then
    dis ++ reasonIf (s.restAxes.any (fun n => s.flag (F.CE_STAT_ENGHALT ((s.axis n).engine % 16)))) 3 ++ noF ++
      reasonIf ([0, 1, 2, 3].any (fun n => s.capArmed n)) 8
  else if (m == modeConfigure || m == modeReady) && t == modeUpdate then dis ++ reasonIf (!s.updateAuth) 8
  else if pair modeRecovery modeUpdate then reasonIf (s.anyShorted || !s.updateAuth) 8
  else if pair modeRecovery modeReset && !host then reasonIf s.anyShorted 8
  else if pair modeRun modeDerate && !host then reasonIf (!s.derating) 8
  else if pair modeDerate modeRun && !host then reasonIf s.derating 8
  else if pair modeStop modeReady && !host then reasonIf (s.anyAxis axEnergised) 9
  else [1])

/-- The lowest of a list of reasons. -/
def lowest (l : List Nat) : Option Nat := l.foldl (fun m r => some (match m with | some x => Nat.min x r | none => r)) none

/-! ## Entering a mode -/

/-- Stop (R38): every Energised axis runs to rest, in profile mode through its sequencer; a stepper axis out of profile mode freezes its
angle (R255). Any other axis has no deceleration of its own: its task takes the reference to 0 as for a missed setpoint, at the rate
parameter (DESIGN CHOICE, assumption log 24). -/
def State.enterStop (s : State) : State :=
  let s := s.toMode modeStop
  s.each (axisList.filter (fun n => s.axState n == axEnergised)) (fun n t =>
    if (t.axis n).sp.mode == 3 then t.puRequest n reqStop
    else if (t.axis n).type == 3 then t.freezeAngle n 3
    else t.modAxis n (fun a => { a with ramping := true }))

/-- Update (R30, R46): from Recovery every axis goes to Disabled; COMPUTE is held in reset. -/
def State.enterUpdate (s : State) : State :=
  let s := s.each axisList (fun n t => if t.axState n == axDisabled then t else t.axGoto n axDisabled)
  (s.toMode modeUpdate).writeIrst (((s.rd R.CLK_IRST) ||| 1).toNat)


/-- Memories that Standby does not retain (R41): engine data memories and the Basin. -/
def standbyLost (a : Nat) : Bool :=
  decide (0x20000000 ≤ a ∧ a < 0x20200000) ||
    (decide (0x30000000 ≤ a ∧ a < 0x30400000) && decide (0x20000 ≤ a % 0x40000 ∧ a % 0x40000 < 0x30000))

/-- The wake to Configure (R41 to R44, R203, R220, R273, R360, R382, R400, R409), `clocks` XIN clocks after the time unit's latest command;
the Standby duration is what the time unit has counted since the entry. -/
def State.wakeUp (s : State) (clocks : Nat) : State :=
  let s := s.runOn clocks
  let ticks := (s.tuCnt + 2 ^ 64 - s.mode.standbyFrom) % 2 ^ 64
  let s := ((s.put F.CLK_STAT_MLOCK 1).put F.CLK_STAT_SLOCK 1).put F.SEC_DBG_PORTOFF 0
  let s := s.keepMem (fun a => !standbyLost a)
  let s := ((s.toMode modeConfigure).each inputList (fun n t => t.refreshIn n)).put F.MODE_CUR_WAKE 1
  let s := (s.irq 3).put F.FIO_OSET_ON 0
  let s := s.keepRegs (fun a => !decide (ctxAddr 0 0 ≤ a ∧ a < ctxAddr 256 0))
  let s := s.each (s.ctxCopy.filter (fun e => decide (ctxAddr 0 0 ≤ e.1 ∧ e.1 < ctxAddr 256 0))) (fun e t => t.wr e.1 e.2)
  let s := (s.canWake).put F.ES_GCTL_EN 1
  let s := s.withNet { s.net with phy10 := false }
  let s := s.wearWake ticks
  let s := (s.putB F.SPW_STOSTAT_STOA s.pins.stoA).putB F.SPW_STOSTAT_STOB s.pins.stoB
  let held := s.mode.rillHeld
  let s := s.withMode { s.mode with rillHeld := [] }
  (s.assertTogether held).canServeReads

/-- The way into Standby (R40, R41, R382, R400, R443, R449). With a wake source latched meanwhile the wake follows at once (R43). -/
def State.enterStandby (s : State) : State :=
  let s := (s.debugEnd).put F.SEC_DBG_PORTOFF 1
  let s := s.canStandby
  let s := s.withNet { s.net with phy10 := true }
  let s := s.withMode { s.mode with restCheck := none, speedTasks := 0, standbyFrom := s.tuCnt }
  let s := (s.pulseInputs.toMode modeStandby).refreshOuts
  let s := ((s.put F.CLK_STAT_MLOCK 0).put F.CLK_STAT_SLOCK 0).put F.CLK_STAT_SBYLOCK 1
  if (s.rd R.MODE_WAKESRC).toNat == 0 then s else s.wakeUp 0

/-- A Standby request while the rest check of another runs is dropped (R31; DEDUCED, assumption log 24). -/
def State.standbyReasons (s : State) (t : Nat) : List Nat := reasonIf (t == modeStandby && s.mode.restCheck.isSome) 7

/-- Start the rest check of R40 for a command of channel `w`, or for MODE.REQ (16): each axis's position source is enabled and its
speed task written and started. -/
def State.startRestCheck (s : State) (w : Fin 17) : State :=
  let s := s.each s.restAxes (fun n t => (t.enablePosition n).startSpeedTask n)
  s.withMode { s.mode with restCheck := some (w, false), restFail := 0 }

/-- Carry out an accepted change to mode `t`. -/
def State.goMode (s : State) (t : Nat) : State :=
  if t == modeStop then s.enterStop
  else if t == modeUpdate then s.enterUpdate
  else if t == modeReset then s.requestWarm 3
  else s.toMode t

/-- A refused request: its reason in MODE.REQ.REFUSE. -/
def State.refuseReq (s : State) (r : Nat) : State := s.put F.MODE_REQ_REFUSE r

/-! ## Requests -/

/-- The firmware writes TARGET and GO: the mode controller checks the transition. Standby starts with its rest check, or is
entered at once when no axis needs one. -/
def execModeRequest (target : Fin 16) (s : State) : Out :=
  .next (if !s.supRuns then s
    else
      let t := target.val
      let s := s.put F.MODE_REQ_TARGET t
      match lowest (s.modeReasons t false ++ s.standbyReasons t) with
      | some r => s.refuseReq r
      | none =>
        if t != modeStandby then s.goMode t
        else if s.restAxes.isEmpty then s.enterStandby
        else s.startRestCheck 16)

/-- SYS_MODE (R30, R286). For Standby it is answered before entry. -/
def execSysMode (c : HostCmd) (s : State) : Out :=
  let k := c.ch.val
  .next (
    let s := s.hostCmdW 0x03 c (fun s =>
      let t := arg c 0 1
      if t == 0 || t == 1 || t == 8 || t == 10 || decide (11 < t) then .done { status := stRange } s
      else
        let s := s.put F.MODE_REQ_TARGET t
        match lowest (s.modeReasons t true ++ s.standbyReasons t) with
        | some r => .done { status := stState, result := leBytes 1 r } (s.refuseReq r)
        | none =>
          if t == modeStandby then
            .waits (s.startRestCheck ⟨k % 17, Nat.mod_lt _ (by decide)⟩)
          else .done Reply.ok (s.goMode t))
    match s.mode.restCheck with
    | some (w, false) =>
      if w.val == k && s.restAxes.isEmpty && (s.chan k).inService.any (fun e => e.cmd == c && e.started) then
        ((s.withMode { s.mode with restCheck := none }).finishHead k Reply.ok).enterStandby
      else s
    | _ => s)

/-- The reasons that refuse a Standby request at the end of its rest check: 0x07 alone where another transition has dropped it (R31),
else 0x03 for an axis that failed (R40) and what the table asks. -/
def State.restReasons (s : State) (dropped : Bool) : List Nat :=
  if dropped then [7] else reasonIf (s.mode.restFail != 0) 3 ++ s.modeReasons modeStandby true

/-- The 10 ms of the rest check end (R40): an axis has failed that wrote a speed word at or above its active-short threshold, or,
without a position source, gave a period-average result above 2 % of its rated current. The firmware stops the tasks. `wakes` are the wake sources, by bit of
MODE.WAKEEN, that become active between the acceptance of the request and the end of the entry (R43). -/
def execStandbyRestCheckDone (wakes : BitVec 5) (s : State) : Out :=
  .next (match s.mode.restCheck with
    | none => s
    | some (w, dropped) =>
      let s := s.withMode { s.mode with
        restCheck := none, speedTasks := if s.curMode == modeSafeOff || s.curMode == modeRecovery then s.mode.speedTasks else 0 }
      let why := lowest (s.restReasons dropped)
      match why with
      | some r =>
        let s := s.refuseReq r
        if decide (w.val < 16) then s.finishHead w { status := stState, result := leBytes 1 r } else s
      | none =>
        let s := if decide (w.val < 16) then s.finishHead w Reply.ok else s
        (s.wr R.MODE_WAKESRC (s.rd R.MODE_WAKESRC ||| (wakes.setWidth 32 &&& s.rd R.MODE_WAKEEN))).enterStandby)

/-- SYS_WAKECFG writes MODE.WAKEEN. -/
def execSysWakecfg (c : HostCmd) (s : State) : Out :=
  .next (s.hostCmd 0x05 c (fun s =>
    if !s.inModes [modeConfigure, modeReady, modeSafeOff] then refuseMode s
    else if decide (31 < arg c 0 4) then refuse stRange s
    else okReply (s.wr R.MODE_WAKEEN (BitVec.ofNat 32 (arg c 0 4)))))

/-- SYS_LINKWD sets MODE.HLINK.TMO. -/
def execSysLinkwd (c : HostCmd) (s : State) : Out :=
  .next (s.hostCmd 0x0D c (fun s =>
    let t := arg c 0 4
    if !s.inModes [2, 4, 5, 6, 9] then refuseMode s
    else if t != 0 && !decide (10 ≤ t ∧ t ≤ 10000) then refuse stRange s
    else okReply (s.put F.MODE_HLINK_TMO t)))

/-! ## Hardware and firmware transitions -/

/-- SafeOff to Recovery after a class F source (R33): when every group reports safe, or (`late`) after 20 µs. -/
def execSafeoffToRecovery (late : Bool) (s : State) : Out :=
  .next (
    let safe := s.groupList.all (fun n => s.flag (F.SPW_GSTAT_SAFE n))
    if s.curMode == modeSafeOff && s.flag F.MODE_CAUSE_FATAL && (safe || late) then
      ((if safe then s else s.put F.MODE_CAUSE_SOTMO 1).toMode modeRecovery).checkDone
    else s)

/-- The firmware reads WU.AXST every 1 ms (R37, R200). -/
def execDeratePoll (s : State) : Out :=
  .next (if s.supRuns && s.curMode == modeRun && s.derating then s.toMode modeDerate else s)

def execDerateHoldExpiry (s : State) : Out :=
  .next (if s.supRuns && s.curMode == modeDerate && !s.derating then s.toMode modeRun else s)

/-- An Energised axis is at rest in Stop by the case of R38 that applies to it: Armed; the last one ends Stop (R30). Where R38 goes by
the measured speed, the event says that it has stayed below 1 % of the limit for 10 ms. -/
def execAxisRestReached (n : Fin 16) (s : State) : Out :=
  .next (if s.supRuns && s.curMode == modeStop && s.axState n == axEnergised && s.axisAtRest n true then
    let s := s.axGoto n axArmed
    if s.anyAxis axEnergised then s else s.toMode modeReady
  else s)

def execStopTimeout (s : State) : Out :=
  .next (if s.supRuns && s.curMode == modeStop && s.anyAxis axEnergised then s.assertEv 130 else s)

/-- No doorbell and no datagram for TMO ms in Run or Derate (R39). -/
def execHostLinkTimeout (s : State) : Out :=
  .next (if s.supRuns && s.inModes [modeRun, modeDerate] && s.fld F.MODE_HLINK_TMO != 0 then
    (s.put F.MODE_HLINK_LOST 1).enterStop else s)

/-- A wake source in Standby: 0 CAN, 1 ETH_2, 2 field input, 3 alarm, 4 HP_CS_N, 5 a fault (R42). One that MODE.WAKEEN does not
enable latches nothing; with any source latched the device wakes, `clocks` XIN clocks after the time unit's latest command. -/
def execWakeSource (src : Fin 6) (clocks : Nat) (s : State) : Out :=
  .next (if s.curMode != modeStandby then s
    else
      let s := if decide (src.val < 5) then s.wakeRequest src else s
      if (s.rd R.MODE_WAKESRC).toNat == 0 then s else s.wakeUp clocks)

/-- HELD stands on each leg of an axis that left Energised for Armed: the firmware enables the legs again (R48), also where the axis has
been Energised meanwhile, but not while the carrier's half-period is too short for its linked legs (R83). -/
def execLegsHeldReenable (n : Fin 16) (s : State) : Out :=
  .next (if s.supRuns && (s.axis n).reenable && s.axValid n && (s.groupLegs n).all (fun l => s.flag (F.ES_LEGSTAT_HELD l)) then
    let s := s.modAxis n (fun a => { a with reenable := false })
    if s.axState n == axArmed || s.axState n == axEnergised then s.enableAxisLegs n else s
  else s)

end Sys2Proof.Machine
end

