-- ==== Sys2Proof/Machine/Boot.lean ====
section
/-!
DEFINITION. Resets, straps, the boot sequence, clock monitors and supplies (spec/19, with R409, R429, R430, R436 and R471).
-/

namespace Sys2Proof.Machine

/-! ## The drive of direct legs (R9, R456, R461) -/

/-- The field die drives the gates of direct legs. -/
def State.directDrive (s : State) : Bool :=
  s.fieldUp && !s.flag F.CLK_IRST_TIMEBASE && !s.flag F.CLK_SUPMON_VDRVOFF

/-- The gate of a switch of a direct leg is driven on at its pin: commanded on, and the field die drives it. -/
def State.directGate (s : State) (leg : Nat) (upper : Bool) : Bool :=
  s.directDrive && s.flag (if upper then F.ES_LEGSTAT_UP (48 + leg) else F.ES_LEGSTAT_LO (48 + leg)) &&
    !(upper && (s.leg (48 + leg)).bsuvHold)

/-! ## Entering Reset (R455, R464) -/

/-- PORST_N goes low, or (`bor`) an internal supply monitor acts (R460). -/
def execPorstAssert (bor : Bool) (s : State) : Out := .next (s.powerOn bor)

/-- A warm reset that is due: after a SYS_RESET answer, at the end of Update, at the SFM's request. While a group is Shorted or
applying a short only the SFM's is carried out (R12, R35); the others stay due (DEDUCED, assumption log 25). -/
def execWarmReset (s : State) : Out :=
  let due := if s.anyShorted then s.mode.warmDue &&& 16 else s.mode.warmDue
  .next (if due == 0 then s else s.warmReset due)

/-- The warm reset that a clock fault has made due (R452, R453): one for both faults together. -/
def execClockFaultReset (s : State) : Out :=
  .next (if s.clk.faultDue == 0 then s else s.warmReset s.clk.faultDue)

/-! ## From reset to the host window (R463) -/

/-- Bytes of OTP set to all ones. -/
def State.burn (s : State) (off n : Nat) : State := s.wrOtpBytes off (List.replicate n 0xFF)

/-- Return takes effect: KH0, KH1 and IK are overwritten and invalid (R430). -/
def State.burnKeys (s : State) : State :=
  if s.otp8 0 == 3 then
    let s := ((s.burn 0x10 32).burn 0x30 32).burn 0x50 32
    s.withSec { s.sec with written := s.sec.written - (s.sec.written &&& 7) }
  else s

/-- The security registers from OTP, which is read again (R429 to R431): on a parity failure every key item is invalid. -/
def State.loadOtp (s : State) (bad : Bool) : State :=
  let s := s.burnKeys
  let l := (s.otp8 0).toNat % 16
  let w := s.sec.written
  let fl := (s.otp8 4).toNat
  let s := (s.put F.SEC_LCS_LCS l).put F.SEC_LCS_PEND l
  let s := (s.putB F.SEC_KEYST_OTPOK (!bad)).putB F.SEC_KEYST_KH0V (!bad && w.testBit 0)
  let s := (s.putB F.SEC_KEYST_KH1V (!bad && w.testBit 1)).putB F.SEC_KEYST_IKV (!bad && w.testBit 2)
  let s := (s.putB F.SEC_KEYST_KH0R (fl.testBit 0)).putB F.SEC_KEYST_KH1R (fl.testBit 1)
  let s := s.each (List.range 16) (fun k t => t.put (F.SEC_ARB_VALUE k) (t.arbValue k))
  s.put ⟨HW.node, 8, 4⟩ l

/-- The Reset hold ends and the boot ROM starts on the RC (R454, R455). `otpBad`: an OTP word fails its parity; `x32`: the
32.768 kHz crystal runs. After a power-on reset the straps have been latched before (R463). -/
def execResetRelease (otpBad x32 : Bool) (s : State) : Out :=
  .next (if s.curMode == modeReset && !s.clk.strapDue then
    let s := (s.loadOtp otpBad).putB F.CLK_STAT_X32OK x32
    let s := s.toMode modeBoot
    if otpBad then s.assertEv 191 else s
  else s)

/-- The straps are latched from their 16 samples by majority, 0 winning a tie (R458); bit i of a sample is STRAP.VAL bit
i + 1. -/
def execStrapLatch (samples : List (BitVec 14)) (s : State) : Out :=
  .next (if s.clk.strapDue && samples.length == 16 then
    let ones : Nat → Nat := fun i => (samples.filter (fun x => x.toNat.testBit i)).length
    let v := maskOf ((List.range 14).filter (fun i => decide (8 < ones i)))
    let u := maskOf ((List.range 14).filter (fun i => decide (0 < ones i ∧ ones i < 16)))
    let s := s.wr R.STRAP_VAL (BitVec.ofNat 32 (2 * v))
    let s := (s.put F.STRAP_STAT_UNST u).putB F.STRAP_STAT_UNSTABLE (u != 0)
    (s.withClk { s.clk with strapDue := false }).applyStraps
  else s)

/-- Boot, or Recovery that a class F source has brought about before the host window was first served. -/
def State.booting (s : State) : Bool := (s.curMode == modeBoot || s.curMode == modeRecovery) && !s.clk.ready

/-- Steps 4 to 7 of R463, as far as their conditions hold: with both PLLs locked the islands are released; with the memory
clear complete the host window is served; in Boot the self-tests run, `bad` their results other than pass. -/
def State.bootOn (s : State) (bad : List (Fin 4 × Nat × Bool)) : State :=
  if s.booting && s.flag F.CLK_STAT_MLOCK && s.flag F.CLK_STAT_SLOCK then
    let s := s.writeIrst 0
    if s.clk.cleared then
      let s := s.withClk { s.clk with ready := true }
      if s.curMode == modeBoot then s.selfTests bad else s
    else s
  else s

/-- PLL 0 main, 1 safety, 2 standby locks (R449). With the safety PLL the SAFETY island runs: RILL hands the sources it holds
over (R453). -/
def State.pllLock (s : State) (p : Nat) (bad : List (Fin 4 × Nat × Bool)) : State :=
  if p == 0 then
    if s.booting then ((s.put F.CLK_STAT_MLOCK 1).put F.CLK_STAT_XOK 1).bootOn bad else s
  else if p == 1 then
    if s.booting then
      let s := (s.put F.CLK_STAT_SLOCK 1).put F.CLK_STAT_SXOK 1
      let held := s.mode.rillHeld
      let s := s.withMode { s.mode with rillHeld := [] }
      (s.assertTogether held).bootOn bad
    else s
  else s.put F.CLK_STAT_SBYLOCK 1

def execPllLock (p : Fin 3) (bad : List (Fin 4 × Nat × Bool)) (s : State) : Out :=
  .next (if s.curMode == modeReset then s else s.pllLock p bad)

/-- The retry of R454: main (0) or safety PLL (1); `ok`, it locks now. -/
def execPllLockRetry (p : Fin 2) (ok : Bool) (bad : List (Fin 4 × Nat × Bool)) (s : State) : Out :=
  .next (if s.curMode == modeReset || !ok then s
    else if s.flag (if p.val == 0 then F.CLK_STAT_MLOCK else F.CLK_STAT_SLOCK) then s else s.pllLock p bad)

/-- The memory clear of R409 completes; it waits for the clocks of the islands. -/
def execMemoryClearDone (bad : List (Fin 4 × Nat × Bool)) (s : State) : Out :=
  .next (if s.booting && !s.clk.cleared && s.flag F.CLK_STAT_MLOCK then
    (s.withClk { s.clk with cleared := true }).bootOn bad
  else s)

/-! ## The firmware image (R434, R436, R463) -/

/-- The firmware slots in the order of BOOTSEL: 0 A, 1 B. -/
def State.bootOrder (s : State) : List Nat := if s.fld F.STRAP_VAL_BOOTSEL == 1 then [1, 0] else [0, 1]

/-- Mbanos starts (R274, R306), and the SFM with it unless a lockstep mismatch holds it in reset (R309): DEV_FEAT offers bit 0 and a free choice of the others; from Boot the device goes to
Configure. -/
def State.startFirmware (s : State) (slot : Nat) : State :=
  let h := s.flashBytes (slotBase slot) imgHeader
  let s := ((s.put F.SEC_BOOT_SLOT slot).put F.SEC_BOOT_VERSION (numAt h 7 1)).putB F.SEC_BOOT_ENC ((numAt h 6 1).testBit 0)
  let s := s.withClk { s.clk with started := true }
  let s := (s.putB F.WEIR_SFMSTAT_RUN (!s.flag F.WEIR_SFMSTAT_LSERR)).put F.ES_GCTL_EN 1
  let (v, s) := s.draw
  let s := s.wr HW.fwver (BitVec.ofNat 32 v)
  if s.curMode == modeBoot then
    let s := s.toMode modeConfigure
    let (f, s) := s.draw
    let s := s.wr (HW.devFeat 0) (BitVec.ofNat 32 (f % 2 ^ 15 ||| 1))
    (s.put HW.pub 1).irq 5
  else s

/-- The boot ROM may take a firmware image: in Boot after its self-tests, in Recovery off the smallest serving set. -/
def State.mayBoot (s : State) : Bool :=
  ((s.curMode == modeBoot && s.weir.retry.isEmpty) || (s.curMode == modeRecovery && !s.flag F.MODE_CUR_MIN)) && s.clk.ready &&
    !s.clk.started && decide (s.clk.tried < 2)

/-- A slot's read and check complete. A BOOTSEL without
flash leads to Recovery on the smallest serving set, from Recovery too (R434). -/
def execFirmwareImageChecked (s : State) : Out :=
  .next (if !s.mayBoot then s
  else if s.fld F.STRAP_VAL_BOOTSEL == 2 then s.bootRecovery 6
  else
    let slot := s.bootOrder.getD s.clk.tried 0
    let (r, s) := s.slotCheck slot 1
    if r == 0 then s.startFirmware slot
    else
      let s := s.put (if slot == 0 then F.SEC_BOOT_FAILA else F.SEC_BOOT_FAILB) r
      let first := s.clk.tried == 0
      let s := s.withClk { s.clk with tried := s.clk.tried + 1 }
      if first then (s.put F.SEC_BOOT_FALLBACK 1).assertEv 189
      else (s.put F.SEC_BOOT_SLOT 2).bootRecovery 3)

/-! ## Island resets (R456, R457) -/

/-- A write of CLK.IRST that R456 ignores. -/
def State.irstBarred (s : State) (v : Nat) : Bool :=
  (legsMaySwitch s.curMode && (v.testBit 0 || v.testBit 1 || v.testBit 2)) ||
    (s.anyShorted && (v.testBit 0 || v.testBit 1 || v.testBit 5))

def State.supWritesIrst (s : State) (v : Nat) : State :=
  if s.irstBarred v then s.put F.CLK_STAT_IRSTIGN 1 else s.writeIrst v

def execIslandResetWrite (v : BitVec 6) (s : State) : Out :=
  .next (if s.supServes then s.supWritesIrst v.toNat else s)

/-- An access to an island in reset is discarded and reported. -/
def State.resetAccess (s : State) : State := (s.put F.CLK_STAT_RSTACC 1).assertEv 158

def execIslandResetAccess (i : Fin 6) (s : State) : Out :=
  .next (if (s.rd R.CLK_IRST).toNat.testBit i && s.clocked then s.resetAccess else s)

/-! ## Clock monitors (R9, R451 to R453) -/

def State.faultReset (s : State) (bit : Nat) : State :=
  s.withClk { s.clk with faultDue := putBit s.clk.faultDue bit true }

/-- XIN (`xin`) or only the main PLL's lock is lost. In Standby, where the main PLL is off, only XIN counts. -/
def execMainClockLoss (xin : Bool) (s : State) : Out :=
  .next (if s.curMode == modeReset || s.clk.mainStopped || (s.curMode == modeStandby && !xin) then s
    else
      let s := s.put F.CLK_STAT_MLOCK 0
      let s := if xin then (s.put F.CLK_STAT_XOK 0).put F.CLK_STAT_SBYLOCK 0 else s
      let s := s.withClk { s.clk with mainStopped := true, fieldStopped := true }
      let s := s.refreshOuts
      (s.assertEv 152).faultReset 6)

/-- SFM_XIN (`sxin`) or only the safety PLL's lock is lost: TIMEBASE starts every Spillway; RILL holds EV_153. -/
def execSafetyClockLoss (sxin : Bool) (s : State) : Out :=
  .next (if s.curMode == modeReset || s.curMode == modeStandby || s.clk.safetyStopped then s
    else
      let s := s.put F.CLK_STAT_SLOCK 0
      let s := if sxin then s.put F.CLK_STAT_SXOK 0 else s
      let s := s.put F.CLK_STAT_SFLOST 1
      let s := s.withClk { s.clk with safetyStopped := true }
      let s := s.withMode { s.mode with rillHeld := s.mode.rillHeld ++ [153] }
      let s := if s.islandsRun then s.tripAll causeWeir [] else s
      s.faultReset 7)

/-- A window of XIN against SFM_XIN ends with a deviation of `dev` ppm; the second beyond ±1 % in a row asserts EV_154 (R289, R451). -/
def execReferenceMismatchWindow (dev : BitVec 16) (s : State) : Out :=
  .next (if s.flag F.CLK_STAT_XOK && s.flag F.CLK_STAT_SXOK then
    let s := s.put F.CLK_STAT_DEV dev.toNat
    if decide (10000 < dev.toInt.natAbs) then
      let was := s.clk.devRun
      let s := s.withClk { s.clk with devRun := Nat.min 2 (was + 1) }
      let s := if was == 0 then s else s.put F.CLK_STAT_MISMATCH 1
      if was == 1 then s.assertEv 154 else s
    else s.withClk { s.clk with devRun := 0 }
  else s)

def execX32Loss (s : State) : Out :=
  .next (if s.flag F.CLK_STAT_X32OK then (s.put F.CLK_STAT_X32OK 0).assertEv 155 else s)

/-- The forwarded field clock has stopped for more than 1 µs: the field die removes drive. `stays`: it has not come back. -/
def execForwardedClockStop (stays : Bool) (s : State) : Out :=
  .next (if s.curMode == modeReset || s.flag F.CLK_IRST_FIELD || s.clk.mainStopped then s
    else
      let s := (s.withClk { s.clk with fieldStopped := stays }).refreshOuts
      s.assertEv 139)

def execDieLinkParityError (s : State) : Out := .next (if s.fieldUp then s.assertEv 139 else s)

/-! ## Supplies and temperatures (R460, R461, R465) -/

/-- A rail (0 RILL, 1 core, 2 IO18, 3 IO33) enters or leaves the band between its reset threshold and its operating range. -/
def execSupplyWarning (rail : Fin 4) (low : Bool) (s : State) : Out :=
  .next (if s.curMode == modeReset || s.flag ⟨R.CLK_SUPMON, 1 + rail, 1⟩ == low then s
    else
      let s := s.putB ⟨R.CLK_SUPMON, 1 + rail, 1⟩ low
      if low then s.assertEv 157 else s)

/-- VDRV (in 10 mV) has been outside 13.5 V to 16.5 V for 2 µs: EV_156 as VDRVIN falls (R289, R461). -/
def execVdrvOutOfRange (v : BitVec 16) (s : State) : Out :=
  .next (if s.curMode == modeReset || decide (1350 ≤ v.toNat ∧ v.toNat ≤ 1650) then s
    else
      let fell := s.flag F.CLK_SUPMON_VDRVARM && s.flag F.CLK_SUPMON_VDRVIN
      let s := (s.put F.CLK_SUPMON_VDRV v.toNat).put F.CLK_SUPMON_VDRVIN 0
      if fell then s.assertEv 156 else s)

/-- VDRV has been below 11.0 V for 1 µs: the field die holds every direct leg off. -/
def execVdrvCollapse (v : BitVec 16) (s : State) : Out :=
  .next (if s.curMode == modeReset || decide (1100 ≤ v.toNat) then s
    else
      let s := s.put F.CLK_SUPMON_VDRV v.toNat
      (s.put F.CLK_SUPMON_VDRVOFF 1).withClk { s.clk with vdrvBack := false })

/-- VDRV enters its range, which arms the detector, or has risen above 11.5 V, so that the hold ends at the next CZ. -/
def execVdrvInRange (v : BitVec 16) (s : State) : Out :=
  .next (if s.curMode == modeReset then s
    else
      let s := s.put F.CLK_SUPMON_VDRV v.toNat
      let s := if decide (1350 ≤ v.toNat ∧ v.toNat ≤ 1650) then
          (s.put F.CLK_SUPMON_VDRVIN 1).put F.CLK_SUPMON_VDRVARM 1
        else s
      if decide (1150 < v.toNat) && s.flag F.CLK_SUPMON_VDRVOFF then s.withClk { s.clk with vdrvBack := true } else s)

/-- Die temperatures in 1/16 °C; EV_159 when one passes 150 °C. -/
def execDieTempUpdate (log fld : BitVec 16) (s : State) : Out :=
  .next (if s.curMode == modeReset then s
    else
      let hot : State → Bool := fun t =>
        decide (2400 < sgn 16 (t.fld F.CLK_TEMP_LOG)) || decide (2400 < sgn 16 (t.fld F.CLK_TEMP_FLD))
      let was := hot s
      let s := (s.put F.CLK_TEMP_LOG log.toNat).put F.CLK_TEMP_FLD fld.toNat
      if hot s && !was then s.assertEv 159 else s)

end Sys2Proof.Machine
end

