-- ==== Sys2Proof/Machine/Bus.lean ====
section
/-!
DEFINITION. The address map (R19, R51) and a write of a register or of memory by the bus: the access codes of R4, the fields that
a rule protects, and the actions that a w1t or action field starts. SUP's writes (REGISTER_WRITE) and the engines' stores both
come here.
-/

namespace Sys2Proof.Machine

/-! ## The address map -/

/-- Regions that hold bytes: tightly coupled memory, shared SRAM beyond the host window's words, the Basin. -/
def plainMemory (a : Nat) : Bool :=
  decide (0x04000000 ≤ a ∧ a < 0x04080000) || decide (0x10001000 ≤ a ∧ a < 0x10400000) ||
    decide (0x20000000 ≤ a ∧ a < 0x20200000)

/-- A region of registers, first and last address; CE control blocks apart. -/
def registerRegions : List (Nat × Nat) := [
  (0x10000000, 0x10000FFF), (0x40000000, 0x4001FFFF), (0x40020000, 0x40027FFF), (0x40030000, 0x4006FFFF),
  (0x50000000, 0x5001FFFF), (0x50020000, 0x5003FFFF), (0x60000000, 0x6001FFFF), (0x60020000, 0x60027FFF),
  (0x60030000, 0x6004FFFF), (0x70000000, 0x7000BFFF)]

/-- An address inside some region of the map; else R19. -/
def inMap (a : Nat) : Bool :=
  decide (a < 0x20000) || plainMemory a || engineMemory a ||
    (decide (0x30000000 ≤ a ∧ a < 0x30400000) && decide (0x30000 ≤ a % 0x40000 ∧ a % 0x40000 < 0x31000)) ||
    registerRegions.any (fun r => decide (r.1 ≤ a ∧ a ≤ r.2))

/-- A CAN transmit buffer's byte, in the register block of its controller; words 0x08 to 0x13 are read-only (R373). -/
def canTxByte (a : Nat) : Bool :=
  let o := a % 0x1000
  decide (0x60020000 ≤ a ∧ a < 0x60028000) && decide (0x400 ≤ o ∧ o < 0xA00) && decide ((o - 0x400) % 0x60 < 84)

def canTxStamp (a : Nat) : Bool := canTxByte a && decide (8 ≤ (a % 0x1000 - 0x400) % 0x60 ∧ (a % 0x1000 - 0x400) % 0x60 < 0x14)

/-! ## Access codes (R4) -/

/-- The bits of `a` that are not in `b`. -/
def andNot (a b : Nat) : Nat := a - (a &&& b)

def fieldMask (fs : List FieldDesc) (p : Acc → Bool) : Nat :=
  fs.foldl (fun n f => if p f.acc then n ||| ((2 ^ f.width - 1) * 2 ^ f.lo) else n) 0

/-- A write of value `v` to the bits `m` of the register at `a`, by the access codes of its fields. -/
def State.tableWrite (s : State) (a v m : Nat) : State :=
  match regTable.find? (fun r => r.covers a) with
  | none => s
  | some r =>
    let set := fieldMask r.fields (fun c => c == .rw || c == .wo) &&& m
    let clr := fieldMask r.fields (fun c => c == .w1c) &&& m &&& v
    s.wr a (BitVec.ofNat 32 (andNot (s.rd a).toNat (set ||| clr) ||| (v &&& set)))

/-- A write that leaves the bits `prot` as they are; whether it is a write of one of them. -/
def State.guardedWrite (s : State) (a v m prot : Nat) : Bool × State := (m &&& prot != 0, s.tableWrite a v (andNot m prot))

/-- The field of width `w` at `lo` in `v`. -/
def bitsAt (v lo w : Nat) : Nat := v / 2 ^ lo % 2 ^ w

/-! ## TIMEBASE: CB, ES, BSN, SPW, GL, PU, WU -/

/-- PRESC, GRP, LDSEL and the two EXP bits of CB.CFG (R100). -/
def cbProtected : Nat := 0x7FF00060

def prescMask : Nat := 0x03C00000

/-- CB.CFG (R83, R100, R103): a carrier that runs keeps its protected fields, PRESC 9 to 15 are ignored. -/
def State.writeCbCfg (s : State) (c v m : Nat) : State :=
  let bad := (m &&& prescMask) == prescMask && decide (8 < bitsAt v 22 4)
  let prot := (if s.running c then cbProtected else 0) ||| (if bad then prescMask else 0)
  let (ign, s) := s.guardedWrite (R.CB_CFG c) v (andNot m 0x80000000) prot
  let s := if ign || bad then s.put (F.CB_STAT_CFGIGN c) 1 else s
  if m.testBit 31 then s.carrierEnable c (v.testBit 31) else s

/-- ES.LEGCFG (R97, R98, R100): CB, MODE, BOOT and EXP of an enabled leg are kept; then EN acts. -/
def State.writeLegcfg (s : State) (l v m : Nat) : State :=
  let (ign, s) := s.guardedWrite (R.ES_LEGCFG l) v (andNot m 0x80000000) (if s.legEnabled l then 0x7F81C000 else 0)
  let s := if ign then s.legIgnored l else s
  if m.testBit 31 then (if v.testBit 31 then s.enableLeg l else s.clearLeg l) else s

def State.writeLegtim (s : State) (l v m : Nat) : State :=
  let (ign, s) := s.guardedWrite (R.ES_LEGTIM l) v m (if s.legEnabled l then 0xFFFFFFFF else 0)
  if ign then s.legIgnored l else s

/-- ES.GCTL.EN (R97). -/
def State.writeGctl (s : State) (v m : Nat) : State :=
  let was := s.flag F.ES_GCTL_EN
  let s := s.tableWrite R.ES_GCTL v m
  let now := s.flag F.ES_GCTL_EN
  if was && !now then s.each legList (fun l t => t.disableLeg l)
  else if !was && now then s.each legList (fun l t => t.refreshHeld l)
  else s

/-- ES.ITMCFG (R108): a timer enabled without ALIGN starts at once, one disabled stops. -/
def State.writeItmcfg (s : State) (k v m : Nat) : State :=
  let was := s.flag (F.ES_ITMCFG_EN k)
  let s := s.tableWrite (R.ES_ITMCFG k) v m
  let now := s.flag (F.ES_ITMCFG_EN k)
  if !was && now && !s.flag (F.ES_ITMCFG_ALIGN k) then s.setTimer k ⟨true, Nat.max 200 ((s.rd (R.ES_ITMPER k)).toNat + 1)⟩
  else if was && !now then s.setTimer k Timer.reset
  else s

/-- A write to CB / ES at offset below 0x8000. The moment of an LDALL against the load lead is free (assumption log 5). -/
def State.writeCbEs (s : State) (a v m : Nat) : State :=
  match s.shadowWrite a ((andNot (s.rd a).toNat m) ||| (v &&& m)) with
  | (t, true) => t
  | (_, false) =>
    if decide (a < R.CB_CFG 24) then
      let c := (a - R.CB_CFG 0) / 0x100
      if a == R.CB_CFG c then s.writeCbCfg c v m
      else if a == R.CB_LOAD c then
        if (v &&& m).testBit 0 then let (x, s) := s.draw; s.ldall c (x % 2 == 1) else s
      else if a == R.CB_STAT c then
        (if (v &&& m).testBit 28 then s.cbClrcnt c else s).tableWrite a v m
      else s.tableWrite a v m
    else if a == R.ES_GCTL then s.writeGctl v m
    else if decide (R.ES_ITMCFG 0 ≤ a ∧ a < R.ES_ITMCFG 8) && a % 16 == 0 then s.writeItmcfg ((a - R.ES_ITMCFG 0) / 16) v m
    else if decide (R.ES_LEGCFG 0 ≤ a ∧ a < R.ES_LEGCFG 72) then
      let l := (a - R.ES_LEGCFG 0) / 0x40
      if a == R.ES_LEGCFG l then s.writeLegcfg l v m
      else if a == R.ES_LEGTIM l then s.writeLegtim l v m
      else s.tableWrite a v m
    else s.tableWrite a v m

/-- The sets that are not Idle and name probe `p` in their channels or enabled edge conditions (R319). -/
def State.setsNaming (s : State) (p : Nat) : List Nat :=
  [0, 1, 2, 3].filter (fun n => s.capState n != csIdle &&
    ((s.capChans n).any (fun c => s.capProbe n c == p) ||
      (List.range 4).any (fun j => s.flag (F.BSN_TCND_EN n j) && s.fld (F.BSN_TCND_KIND n j) == 0 &&
        s.fld (F.BSN_TCND_SRC n j) == p)))

/-- Write BSN.CDLY: on the master it stays 0 (R330). -/
def State.writeCdly (s : State) (v m : Nat) : State :=
  let s := s.tableWrite R.BSN_CDLY v m
  if s.flag F.BSN_CCFG_MASTER then s.put F.BSN_CDLY_CDLY 0 else s

/-- A write to BSN (R318, R319, R324, R330). -/
def State.writeBsn (s : State) (a v m : Nat) : State :=
  if decide (a < R.BSN_PRB 48) then
    match s.setsNaming ((a - R.BSN_PRB 0) / 4) with
    | [] => s.tableWrite a v m
    | l => s.each l (fun n t => t.acqNotice (F.BSN_SSTAT_CFGIGN n))
  else if decide (R.BSN_SCFG 0 ≤ a ∧ a < R.BSN_SCFG 4) then
    let n := (a - R.BSN_SCFG 0) / 0x100
    if a == R.BSN_SCTL n then
      let b := v &&& m
      let s := if b.testBit 1 then s.disarm n else s
      let s := if b.testBit 0 then s.arm n else s
      (if b.testBit 2 then s.commandTrig n else s).capCheck n
    else if decide (a < R.BSN_SCTL n) && s.capState n != csIdle then s.acqNotice (F.BSN_SSTAT_CFGIGN n)
    else s.tableWrite a v m
  else if a == R.BSN_CCFG then
    if s.inModes [2, 4, 9] then s.writeCcfg (andNot (s.rd a).toNat m ||| (v &&& m)) else s
  else if a == R.BSN_CDLY then s.writeCdly v m
  else s.tableWrite a v m

/-- A group in STATE 0 with every leg disabled. -/
def State.groupFree (s : State) (n : Nat) : Bool := s.gstate n == gsIdle && (s.groupLegs n).all (fun l => !s.legEnabled l)

/-- SPW.LEGAX (spec/05): the leg and its groups before and after the write are disabled. -/
def State.writeLegax (s : State) (l v m : Nat) : State :=
  let t := s.tableWrite (R.SPW_LEGAX l) v m
  let free (g : Option Nat) : Bool := match g with | some n => s.groupFree n | none => true
  if !s.legEnabled l && free (s.legGroup l) && free (t.legGroup l) then
    t.each (axisList.filter (fun n => s.legGroup l == some n || t.legGroup l == some n)) (fun n u =>
      u.setGen n (u.flag (F.SPW_GEN_EN n)))
  else s

def State.writeSpw (s : State) (a v m : Nat) : State :=
  if decide (a < R.SPW_LEGAX 72) then s.writeLegax ((a - R.SPW_LEGAX 0) / 4) v m
  else if decide (R.SPW_AXCFG 0 ≤ a ∧ a < R.SPW_AXCFG 16) then
    let n := (a - R.SPW_AXCFG 0) / 0x40
    if a == R.SPW_AXCFG n then (if s.groupFree n then s.tableWrite a v m else s)
    else if a == R.SPW_SPD n then s.speedWord n ((andNot (s.rd a).toNat m ||| (v &&& m)) % 65536)
    else if a == R.SPW_GEN n then (if m.testBit 0 then s.setGen n (v.testBit 0) else s)
    else s.tableWrite a v m
  else if a == R.SPW_STOCFG then (if s.curMode == modeConfigure then s.tableWrite a v m else s)
  else s.tableWrite a v m

def State.writeGl (s : State) (a v m : Nat) : State :=
  let k := (a - R.GL_CTRL 0) / 0x800
  if a == R.GL_CTRL k then
    let s := if m.testBit 0 then s.glEnable k (v.testBit 0) else s
    let s := if (v &&& m).testBit 1 then s.glReset k else s
    if (v &&& m).testBit 2 then s.glCfgSend k else s
  else s.tableWrite a v m

/-- Contexts are plain words but for CTL and LIM (R218, R219); the other PU registers. -/
def State.writePu (s : State) (a v m : Nat) : State :=
  if decide (a < 0x40058000) then
    let c := (a - 0x40050000) / 0x80
    if a == R.PU_CTX_CTL c then
      let s := s.tableWrite a v m
      if (v &&& m).testBit 0 then s.ctxCommit c else s
    else if a == R.PU_CTX_LIM c then s.tableWrite a v m
    else s.wr a (BitVec.ofNat 32 (andNot (s.rd a).toNat m ||| (v &&& m)))
  else if decide (a < R.PU_AXCFG 16) then
    let n := (a - R.PU_AXCFG 0) / 0x40
    if a == R.PU_AXCFG n then
      if s.flag (F.PU_AXCFG_EN n) && !(m.testBit 31 && !v.testBit 31) then s else (s.tableWrite a v m).syncNax
    else if a == R.PU_AXCMD n then s.each ((List.range 5).filter (fun i => (v &&& m).testBit i)) (fun i t => t.puRequest n i)
    else if a == R.PU_STEPCNT n then
      if s.axState n == axEnergised then s else (s.tableWrite a v m).wr (R.PU_STEPST n) 0
    else s.tableWrite a v m
  else if decide (R.PU_VMPOSF 0 ≤ a ∧ a < R.PU_VMPOSF 4) && a % 0x20 == 0x10 then
    s.vmthWrite ((a - R.PU_VMPOSF 0) / 0x20) (BitVec.ofNat 32 (andNot (s.rd a).toNat m ||| (v &&& m)))
  else s.tableWrite a v m

/-- WU: LEGCFG of a leg enabled in ES is kept (spec/08), table sets are plain words, FLUSH acts. -/
def State.writeWu (s : State) (a v m : Nat) : State :=
  if decide (0x40068000 ≤ a) then s.wr a (BitVec.ofNat 32 (andNot (s.rd a).toNat m ||| (v &&& m)))
  else if a == R.WU_CTRL then
    let s := s.tableWrite a v m
    if (v &&& m).testBit 1 then s.wearFlush else s
  else if decide (R.WU_LEGCFG 0 ≤ a ∧ a < R.WU_LEGCFG 72) && s.flag (F.ES_LEGCFG_EN ((a - R.WU_LEGCFG 0) / 4)) then s
  else s.tableWrite a v m

/-! ## SENSE: SDF, ADC, ENC -/

/-- A register of a channel whose bit 31 is its enable: written while the channel is disabled, or to clear the enable. `rise` acts
when the write sets the enable. -/
def State.writeEnabled (s : State) (a v m : Nat) (en : Fld) (rise : State → State) : State :=
  if s.flag en && !(en.addr == a && m.testBit 31 && !v.testBit 31) then s
  else
    let t := s.tableWrite a v m
    if !s.flag en && t.flag en then rise t else t

/-- SDF.SDC (R160, R162): a DIV outside its set is ignored; an output switched off is a fault of every enabled channel on it. -/
def State.writeSdc (s : State) (a v m : Nat) : State :=
  let d := (andNot (s.rd a).toNat m ||| (v &&& m)) % 64
  let t := if decide (8 ≤ d ∧ d ≤ 40) && d % 2 == 0 then s.tableWrite a v m else s.tableWrite a v (andNot m 63)
  t.each (List.range 48) (fun n u => u.noteFault n (s.sdFault n))

/-- A write to the sensing blocks. Where it disables a comparator or its channel, CMPH and CMPL keep the level they show, and hold off the
clear of R133, until a release while enabled (DESIGN CHOICE, assumption log 27). -/
def State.writeSense (s : State) (a v m : Nat) : State :=
  if decide (a < R.SDF_CFG 48) then
    let n := (a - R.SDF_CFG 0) / 0x20
    if a == R.SDF_CFG n then s.writeEnabled a v m (F.SDF_CFG_EN n) (fun t => t.sdEnabled n)
    else if a == R.SDF_S3CFG n then
      if s.flag (F.SDF_CFG_EN n) && !(m.testBit 31 && !v.testBit 31) then s else s.tableWrite a v m
    else if a == R.SDF_CMPCFG n then
      if s.flag (F.SDF_CFG_EN n) && !(m.testBit 31 && !v.testBit 31) then s else s.tableWrite a v m
    else s.tableWrite a v m
  else if decide (R.SDF_SDC 0 ≤ a ∧ a < R.SDF_SDC 8) then s.writeSdc a v m
  else if a == R.ADC_CALCTL then
    let s := s.tableWrite a v m
    if (v &&& m).testBit 0 then s.withSense { s.sense with trimNow := 15 } else s
  else if decide (R.ENC_CFG 0 ≤ a ∧ a < R.ENC_CFG 12) then
    let n := (a - R.ENC_CFG 0) / 0x20
    if a == R.ENC_CFG n then s.writeEnabled a v m (F.ENC_CFG_EN n) (fun t => t.encEnabled n)
    else if a == R.ENC_POS n then (s.tableWrite a v m).put (F.ENC_STAT_VALID n) 1
    else s.tableWrite a v m
  else if decide (R.ENC_ABSCFG 0 ≤ a ∧ a < R.ENC_ABSCFG 4) && a % 0x20 == 0 then
    s.writeEnabled a v m (F.ENC_ABSCFG_EN ((a - R.ENC_ABSCFG 0) / 0x20)) (fun t => t)
  else if decide (R.ENC_RESANG 0 ≤ a ∧ a < R.ENC_RESANG 4) then
    s.resangWrite ((a - R.ENC_RESANG 0) / 4) (andNot (s.rd a).toNat m ||| (v &&& m))
  else if decide (R.ENC_CAPCFG 0 ≤ a ∧ a < R.ENC_CAPCFG 16) && a % 0x20 == 0 then
    let s := s.tableWrite a v m
    if (v &&& m).testBit 7 then s.put (F.ENC_CAPSTAT_FULL ((a - R.ENC_CAPCFG 0) / 0x20)) 0 else s
  else s.tableWrite a v m

/-! ## SAFETY, SUPERVISOR, NETWORK, CAN and FIELD -/

/-- TU.CTRL: NEWEP begins an epoch (R351), GRIDEN starts the grid (R357); STEP has its own row. -/
def State.writeTuCtrl (s : State) (v m : Nat) : State :=
  let was := s.flag F.TU_CTRL_GRIDEN
  let s := s.tableWrite R.TU_CTRL v m
  let s := if !was && s.flag F.TU_CTRL_GRIDEN then s.gridRestart else s
  if (v &&& m).testBit 1 then s.newEpoch else s

/-- WEIR: STK by class (R302), RCT only in Configure and within ALLOW (R292), REARM, NQ.POP, the kick. -/
def State.writeWeir (s : State) (a v m : Nat) : State :=
  let b := v &&& m
  if decide (a < R.WEIR_STK 6) then s.clearSticky ((a - R.WEIR_STK 0) / 4) b
  else if decide (R.WEIR_RCT 0 ≤ a ∧ a < R.WEIR_RCT 192) then s.writeReact ((a - R.WEIR_RCT 0) / 4) (v % 8)
  else if a == R.WEIR_REARM then (s.rearm (b % 2 ^ 17)).2
  else if a == R.WEIR_NQ then
    let s := s.tableWrite a v m
    if b.testBit 29 then s.popNq else s
  else if a == R.WEIR_SUPHB then (if b.testBit 0 then s.kick else s)
  else s.tableWrite a v m

/-- MBX: RSVXFER.GO moves a buffer (R276), a new LIMIT is checked (R270), a raised LOW may leave FREE below it (R273, R287). -/
def State.writeMbx (s : State) (a v m : Nat) : State :=
  let low := decide (s.fld F.MBX_RSVFREE_FREE < s.fld F.MBX_RSVFREE_LOW)
  let s := s.tableWrite a v m
  let s := if !low && decide (s.fld F.MBX_RSVFREE_FREE < s.fld F.MBX_RSVFREE_LOW) then (s.irq 7).assertEv 141 else s
  if a == R.MBX_RSVXFER && (v &&& m).testBit 15 then
    match s.transfer (s.fld F.MBX_RSVXFER_BUF) (s.fld F.MBX_RSVXFER_FROM) (s.fld F.MBX_RSVXFER_TO) with
    | some t => t.checkReservoir
    | none => (s.put F.MBX_RSVXST_REJ 1).inc F.MBX_RSVXST_REJCNT
  else if decide (R.MBX_CRED 0 ≤ a ∧ a < R.MBX_CRED 16) then s.checkCredit
  else s

/-- CAN: CFG, NBT and DBT only while EN = 0 (R378), the queue releases, cancels and the enable. -/
def State.writeCan (s : State) (a v m : Nat) : State :=
  let n := (a - R.CAN_CTRL 0) / 0x1000
  let b := v &&& m
  if a == R.CAN_CTRL n then
    let s := if m.testBit 0 then s.canEnable n (v.testBit 0) else s
    if b.testBit 1 && s.fld (F.CAN_ERR_STATE n) == canBusOff && !s.flag (F.CAN_CFG_BOAUTO n) then
      s.modCan n (fun x => { x with recovering := true }) else s
  else if (a == R.CAN_CFG n || a == R.CAN_NBT n || a == R.CAN_DBT n) && s.flag (F.CAN_CTRL_EN n) then
    s.put (F.CAN_STAT_CFGIGN n) 1
  else if a == R.CAN_QCTL n then
    let s := s.each ([0, 1].filter (fun q => b.testBit q && s.flag (F.CAN_QSTAT_LOCK n q))) (fun q t => t.canRelease n q)
    let s := if b.testBit 2 then (match (s.can n).spills with | [] => s | e :: _ => s.canSpillDone n e) else s
    s.canCheck n
  else if decide (R.CAN_FLTM n 0 ≤ a ∧ a < R.CAN_FLTM n 32) then
    (s.tableWrite a v m).modCan n (fun x => { x with replaced := ((a, s.rd a) :: x.replaced).take 256 })
  else if a == R.CAN_TXREQ n then (s.canRequest n (bitsOf 16 b)).canCheck n
  else if a == R.CAN_TXCAN n then (s.canCancel n (bitsOf 16 b)).canCheck n
  else s.tableWrite a v m

/-- FIO and FSM: the input and output conditions follow at once (R388, R395); what a latch release meets is free
(assumption log 5). -/
def State.writeField (s : State) (a v m : Nat) : State :=
  let b := v &&& m
  if decide (a < R.FIO_ICFG 32) then
    let n := (a - R.FIO_ICFG 0) / 4
    let raw := s.inRawLvl n
    let s := s.tableWrite a v m
    let s := if s.flag (F.FIO_ISTAT_VALID n) then s.setLvl n (raw != s.flag (F.FIO_ICFG_POL n)) else s
    s.refreshIn n
  else if decide (R.FIO_OCFG 0 ≤ a ∧ a < R.FIO_OCFG 16) then (s.tableWrite a v m).refreshOut ((a - R.FIO_OCFG 0) / 4)
  else if a == R.FIO_OSET then (s.tableWrite a v m).refreshOuts
  else if a == R.FIO_OCLR then let (x, s) := s.draw; (s.clearOuts (b % 65536) x).2
  else if a == R.FSM_CTRL then
    let s := if b.testBit 0 then s.put F.FSM_VMIN_VMIN (s.fld F.FSM_STAT_VFLD) else s
    if b.testBit 1 then let (x, s) := s.draw; (s.cutRelease (x % 2 == 1)).2 else s
  else s.tableWrite a v m

/-- CE control blocks: CLRCNT and the doorbell act; the rest by its access codes. -/
def State.writeCe (s : State) (a v m : Nat) : State :=
  let e := (a - 0x30000000) / 0x40000
  let b := v &&& m
  if a == R.CE_CTRL e then
    let s := s.tableWrite a v m
    if b.testBit 2 then s.each (List.range 8) (fun k t => t.wr (R.CE_TASKCNT e k) 0) else s
  else if a == R.CE_DBELL e then
    s.each ((List.range 8).filter (fun k => b.testBit k && s.fld (F.CE_TASKCFG_SRC e k) == 4)) (fun k t => t.taskEvent e k)
  else s.tableWrite a v m

/-! ## The bus -/

/-- A write of the bits `m` of the register word at `a`, outside an island in reset. Fields that have a row of their own with an
operand of its own (MODE.REQ.GO, TU.CTRL.STEP, TU.RATEREQH) act through that row. -/
def State.registerWord (s : State) (a v m : Nat) : State :=
  if decide (a < 0x20000000) then s.wr a (BitVec.ofNat 32 (andNot (s.rd a).toNat m ||| (v &&& m)))
  else if decide (a < 0x40000000) then s.writeCe a v m
  else if decide (a < 0x40008000) then s.writeCbEs a v m
  else if decide (a < 0x40010000) then s.writeBsn a v m
  else if decide (a < 0x40018000) then s.tableWrite a v m
  else if decide (a < 0x40020000) then s.writeSpw a v m
  else if decide (a < 0x40030000) then s.writeGl a v m
  else if decide (a < 0x40050000) then s.writeSense a v m
  else if decide (a < 0x40060000) then s.writePu a v m
  else if decide (a < 0x40070000) then s.writeWu a v m
  else if decide (a < 0x50008000) then s.writeWeir a v m
  else if a == R.CLK_IRST then s.supWritesIrst ((andNot (s.rd a).toNat m ||| (v &&& m)) % 64)
  else if decide (0x60020000 ≤ a ∧ a < 0x60028000) then s.writeCan a v m
  else if decide (0x60040000 ≤ a ∧ a < 0x60050000) then s.writeMbx a v m
  else if decide (0x70000000 ≤ a) then s.writeField a v m
  else if a == R.TU_CTRL then s.writeTuCtrl v m
  else if a == R.SW_TSQ0 then (if (v &&& m).testBit 30 then s.tsqPop else s)
  else s.tableWrite a v m

/-- A write of the bits `m` of the word at `a` (word aligned): memory takes its bytes, the boot ROM and the SOF stamps of CAN
buffers nothing, a register what `registerWord` says. -/
def State.busWord (s : State) (a v m : Nat) : State :=
  if decide (a < 0x20000) then s
  else if plainMemory a || engineMemory a || canTxByte a then
    if canTxStamp a then s
    else s.each ([0, 1, 2, 3].filter (fun i => m.testBit (8 * i))) (fun i t => t.wr8 (a + i) (BitVec.ofNat 8 (v / 2 ^ (8 * i))))
  else s.registerWord a v m

/-- Bytes with their addresses, gathered into words: word address, value, bit mask, in order. -/
def gatherBytes (l : List (Nat × Byte)) : List (Nat × Nat × Nat) :=
  l.foldr (fun e acc =>
    let w := e.1 / 4 * 4
    let sh := 2 ^ (8 * (e.1 % 4))
    match acc with
    | (w', v', m') :: r =>
      if w' == w && m' &&& (255 * sh) == 0 then (w, v' + e.2.toNat * sh, m' + 255 * sh) :: r
      else (w, e.2.toNat * sh, 255 * sh) :: acc
    | [] => [(w, e.2.toNat * sh, 255 * sh)]) []

/-- A store of bytes that arrives at its block. -/
def State.busStore (s : State) (l : List (Nat × Byte)) : State := s.each (gatherBytes l) (fun e t => t.busWord e.1 e.2.1 e.2.2)

/-- The island of an address is held in reset (R457). -/
def State.islandDown (s : State) (a : Nat) : Bool :=
  match islandOf a with
  | some i => (s.rd R.CLK_IRST).toNat.testBit i
  | none => false

/-- SUP writes a word (R4, R19, R21, R457): outside the map a bus error; toward an island in reset nothing but the report. The access
takes a shared tag of the fabric (R426). -/
def execRegisterWrite (addr : Nat) (v : Word) (s : State) : Out :=
  if !s.supRuns then .next s
  else if !inMap addr then .fault .busError
  else if s.islandDown addr then .next s.resetAccess
  else .next (s.sharedAccess (fun t => t.busWord (addr / 4 * 4) v.toNat 0xFFFFFFFF))

end Sys2Proof.Machine
end

