-- ==== Sys2Proof/Machine/Operands.lean ====
section
/-!
DEFINITION. The operand forms of engine instructions: the register bank of a slot (R53), vector pairs and lanes, pointers with
circular addressing (R57, R58).
-/

namespace Sys2Proof.Machine

/-! ## Registers -/

def Slot.xr (b : Slot) (r : Nat) : Word := SMap.get (fun _ => 0) b.x r

def Slot.setX (b : Slot) (r : Nat) (v : Word) : Slot := { b with x := SMap.set (fun _ => 0) b.x r v }

def Slot.src (b : Slot) : Src → Word
  | .reg r => b.xr r
  | .imm v => v

/-- A vector pair as 64 bits: x2k low, x2k+1 high. -/
def Slot.pair (b : Slot) (k : Nat) : BitVec 64 := (b.xr (2 * k + 1)) ++ (b.xr (2 * k))

def Slot.setPair (b : Slot) (k : Nat) (v : BitVec 64) : Slot :=
  (b.setX (2 * k) (v.extractLsb' 0 32)).setX (2 * k + 1) (v.extractLsb' 32 32)

/-- Lane `j` of a pair, signed. -/
def lane (v : BitVec 64) (j : Nat) : Int := (v.extractLsb' (16 * j) 16).toInt

/-- Four signed lanes packed, lane 0 lowest. -/
def packLanes (f : Nat → Int) : BitVec 64 :=
  (BitVec.ofInt 16 (f 3)) ++ (BitVec.ofInt 16 (f 2)) ++ (BitVec.ofInt 16 (f 1)) ++ (BitVec.ofInt 16 (f 0))

def Slot.acc (b : Slot) (k : Nat) : BitVec 40 := SMap.get (fun _ => 0) b.a k

def Slot.setAcc (b : Slot) (k : Nat) (v : Int) : Slot := { b with a := SMap.set (fun _ => 0) b.a k (BitVec.ofInt 40 v) }

def Slot.pacc (b : Slot) (k : Nat) : BitVec 56 := SMap.get (fun _ => 0) b.e k

def Slot.setPacc (b : Slot) (k : Nat) (v : Int) : Slot := { b with e := SMap.set (fun _ => 0) b.e k (BitVec.ofInt 56 v) }

/-! ## Pointers (R57, R58) -/

def Slot.ptr (b : Slot) (p : Nat) : Word := SMap.get (fun _ => 0) b.p p

def Slot.setPtr (b : Slot) (p : Nat) (v : Word) : Slot := { b with p := SMap.set (fun _ => 0) b.p p v }

/-- Base and length of a pointer; length 0 is linear. -/
def Slot.base (b : Slot) (p : Nat) : Word := SMap.get (fun _ => 0) b.pbase p

def Slot.len (b : Slot) (p : Nat) : Nat := (SMap.get (fun _ => (0 : Word)) b.plen p).toNat

def Slot.setCirc (b : Slot) (p : Nat) (base : Word) (len : Nat) : Slot :=
  { b with
    pbase := SMap.set (fun _ => 0) b.pbase p base
    plen := SMap.set (fun _ => 0) b.plen p (BitVec.ofNat 32 len) }

/-- An address of pointer `p` folded into its buffer: base + ((x − base) mod L), the residue being 0 to L − 1. -/
def Slot.fold (b : Slot) (p : Nat) (x : Int) : Word :=
  if b.len p = 0 then BitVec.ofInt 32 x else b.base p + BitVec.ofNat 32 ((x - (b.base p).toNat) % (b.len p : Int)).toNat

/-- The pointer of an address form, and the address before folding; steps and offsets are signed. -/
def addrPtr : Addr → Nat
  | .ind p => p
  | .post p _ => p
  | .off p _ => p

def Slot.at (b : Slot) : Addr → Int
  | .ind p => (b.ptr p).toNat
  | .post p _ => (b.ptr p).toNat
  | .off p o => (b.ptr p).toNat + o.toInt

/-- The byte addresses of an access of `n` bytes, each byte folded on its own (R58). -/
def Slot.bytesOf (b : Slot) (m : Addr) (n : Nat) : List Nat :=
  (List.range n).map (fun (i : Nat) => (b.fold (addrPtr m) (b.at m + (i : Int))).toNat)

/-- The post-modify of an address form: base + ((p + step − base) mod L). -/
def Slot.postModify (b : Slot) : Addr → Slot
  | .post p step => b.setPtr p (b.fold p ((b.ptr p).toNat + step.toInt))
  | _ => b

/-! ## The slot of an engine that issues -/

/-- The engine may issue: it schedules, or a debugger steps it, no access stalls it. -/
def State.mayIssue (s : State) (e : Nat) : Bool :=
  (s.engineOn e || (s.computeRuns && s.flag (F.CE_CTRL_EN e) && !s.flag (F.CE_STAT_ENGHALT e) && s.sec.stepping.testBit e)) &&
    (s.engine e).stall == .none

/-- The slot whose next instruction may issue: the running one, with no higher slot able to run (R63). -/
def State.issuing (s : State) (e : Nat) : Option Nat :=
  let k := s.fld (F.CE_STAT_SLOT e)
  if s.mayIssue e && s.flag (F.CE_STAT_ACT e) && (s.engine e).active.testBit k && topSlot (s.runnable e) == some k
  then some k else none

/-- The bank of slot `k` of CE_e. -/
def State.bank (s : State) (e k : Nat) : Slot := s.slot (slotKey e k)

def State.setBank (s : State) (e k : Nat) (b : Slot) : State := s.setSlot (slotKey e k) b

end Sys2Proof.Machine
end

