-- ==== Sys2Proof/Machine/Flags.lean ====
section
/-!
DEFINITION. The status register sr of a slot (R53): flags Z, N, C, V at [3:0], Z highest; SATM at [4]; the ACCSAT mirror at [5]
and SCALE at [11:8], both read only.
-/

namespace Sys2Proof.Machine

def bitZ : Nat := 3
def bitN : Nat := 2
def bitC : Nat := 1
def bitV : Nat := 0
def bitSatm : Nat := 4

def Slot.flag (b : Slot) (i : Nat) : Bool := b.sr.testBit i

def Slot.setFlag (b : Slot) (i : Nat) (v : Bool) : Slot := { b with sr := putBit b.sr i v }

/-- All four flags, the rest of sr kept. -/
def Slot.setFlags (b : Slot) (z n c v : Bool) : Slot :=
  (((b.setFlag bitZ z).setFlag bitN n).setFlag bitC c).setFlag bitV v

/-- Z and N of a result with the C and V given. -/
def Slot.resultFlags (b : Slot) (r : Word) (c v : Bool) : Slot := b.setFlags (r == 0) r.msb c v

/-- C of an addition: the carry out of bit 31. -/
def addCarry (x y : Word) : Bool := decide (2 ^ 32 ≤ x.toNat + y.toNat)

/-- V of an addition, of a subtraction: the exact signed result is not representable. -/
def addOverflow (x y : Word) : Bool := decide ((x + y).toInt ≠ x.toInt + y.toInt)

def subOverflow (x y : Word) : Bool := decide ((x - y).toInt ≠ x.toInt - y.toInt)

/-- The conditions of Bcc, signed after CMP: LT is N ≠ V (DEDUCED, assumption log 17). -/
def Slot.holds (b : Slot) : Cond → Bool
  | .eq => b.flag bitZ
  | .ne => !b.flag bitZ
  | .lt => b.flag bitN != b.flag bitV
  | .ge => b.flag bitN == b.flag bitV
  | .gt => !b.flag bitZ && b.flag bitN == b.flag bitV
  | .le => b.flag bitZ || b.flag bitN != b.flag bitV
  | .vs => b.flag bitV
  | .vc => !b.flag bitV

/-- sr as RDSR reads it, with the read-only fields. -/
def State.srWord (s : State) (e k : Nat) : Nat :=
  (s.bank e k).sr % 32 + (s.flag (F.CE_STAT_ACCSAT e)).toNat * 32 + s.fld (F.CE_TASKCFG_SCALE e k) * 256

end Sys2Proof.Machine
end

