-- ==== Sys2Proof/Machine/Engine.lean ====
section
/-!
DEFINITION. Issuing one engine instruction: the issuing slot, the datapath check (R27), the program offset, hardware loops, the
ends of an activation that a misused instruction brings about (R60, R62). Every instruction takes 4 bytes of program memory
(DESIGN CHOICE, assumption log 17).
-/

namespace Sys2Proof.Machine

/-- The Path column of R59: any datapath, run only, precise only (codes of MODE.CUR.DPATH). -/
def pathBoth : Nat := 0
def pathRun : Nat := 1
def pathPrecise : Nat := 2

/-- The end of the innermost loop, where the instruction at `pc` has just passed on to the next one: another pass, or the loop
closes; two loops may end at one instruction. lc0 counts the outer loop, lc1 the inner one. -/
def Slot.loopPass (pc : Nat) : Nat → Slot → Slot
  | 0, b => b
  | n + 1, b =>
    match b.loops with
    | [] => b
    | (first, last) :: l =>
      if last != pc || b.pc != pc + 4 then b
      else
        let c := if l.isEmpty then b.lc0 else b.lc1
        let b := if l.isEmpty then { b with lc0 := c - 1 } else { b with lc1 := c - 1 }
        if decide (1 < c) then { b with pc := first } else Slot.loopPass pc n { b with loops := l }

/-- The slot issues its next instruction: `body` performs it for slot `k`, with the program offset already past it. An
instruction of a datapath other than the activation's is not performed (R27). A breakpoint stops the core before it (R439); the fetch of a word
with an uncorrectable error halts the engine (R76, R410). -/
def State.issue (s : State) (e path : Nat) (body : Nat → State → State) : State :=
  match s.issuing e with
  | none => s
  | some k =>
    let b := s.bank e k
    if s.sec.brks.contains (e, b.pc) && !s.sec.stepping.testBit e then
      (s.withSec { s.sec with halted := putBit s.sec.halted e true }).put F.SEC_DBG_HALTED 1
    else if s.badAt (codeAddr e b.pc) then s.fetchDouble e
    else
      let s := s.setBank e k { b with pc := b.pc + 4 }
      let s := if path == pathBoth || path == b.dp then body k s
        else (s.put (F.CE_STAT_DPVIOL e) 1).assertEv (evAxis e 6)
      let s := s.setBank e k ((s.bank e k).loopPass b.pc 2)
      s.withSec { s.sec with stepping := putBit s.sec.stepping e false }

/-- An instruction that acts on the registers of its slot alone. -/
def State.onBank (s : State) (e path : Nat) (f : Slot → Slot) : State :=
  s.issue e path (fun k t => t.setBank e k (f (t.bank e k)))

/-- An illegal instruction: its source, and the activation ends (R60). -/
def State.illegal (s : State) (e k : Nat) : State := (s.assertEv (evAxis e 6)).endActivation e k

/-- Misuse of the return stack or of the loop nesting (R62). -/
def State.stackError (s : State) (e k : Nat) : State := (s.put (F.CE_STAT_STKERR e) 1).illegal e k

/-- A move or a lane operation has saturated (R55): sr and CE.STAT. -/
def State.noteSatm (s : State) (e k : Nat) (sat : Bool) : State :=
  if sat then (s.setBank e k ((s.bank e k).setFlag bitSatm true)).put (F.CE_STAT_SATM e) 1 else s

/-- An accumulator has saturated (R54). -/
def State.noteAccsat (s : State) (e : Nat) (sat : Bool) : State :=
  if sat then (s.put (F.CE_STAT_ACCSAT e) 1).assertEv (evAxis e 5) else s

end Sys2Proof.Machine
end

