-- ==== Sys2Proof/Machine/Host.lean ====
section
/-!
DEFINITION. The host port, doorbells, consumption, Ethernet host sessions and the system commands (spec/11).
-/

namespace Sys2Proof.Machine

/-! ## The host window (R259 to R262) -/

/-- The aperture slot and the byte in it of a window offset. -/
def apSlot (off : Nat) : Nat × Nat := ((off - 0x18000) / 256, off % 256)

/-- Where an aperture byte lies: the buffer the slot maps, or on the smallest serving set its staging area (R277, R279). -/
def State.apAddr (s : State) (off : Nat) : Option Nat :=
  let (i, j) := apSlot off
  if s.flag F.MODE_CUR_MIN then some (0x10038000 + 0x100 * i + j)
  else if s.flag (F.MBX_APMAP_V i) then some (bufBase (s.fld (F.MBX_APMAP_BUF i)) + j)
  else none

/-- The aligned word of the window at an offset, as the host reads it. -/
def State.windowWord (s : State) (off : Nat) : Nat :=
  if decide (0x18000 ≤ off) then (match s.apAddr off with | some a => s.rdMem32 a | none => 0)
  else if decide (0x11000 ≤ off) then 0
  else if decide (0x1000 ≤ off) then s.rdMem32 (0x10000000 + off)
  else if off == 0x30 then 0
  else if off == 0x38 then (s.rd R.MODE_CUR).toNat
  else if decide (0x200 ≤ off ∧ off < 0x240) then s.credWord ((off - 0x200) / 4)
  else if off == 0x240 then s.fld F.MBX_CREDPOOL_POOL
  else if off == 0x300 then s.irqStat
  else (s.rd (0x10000000 + off)).toNat

def State.windowByte (s : State) (off : Nat) : Byte :=
  BitVec.ofNat 8 (s.windowWord (off - off % 4) / 2 ^ (8 * (off % 4)))

/-- The lines of the host port that carry a phase (R258). -/
def State.hpWidth (s : State) : Nat :=
  let h := s.fld F.HP_CFG_HOSTSEL
  if h == 0 then 1 else if h == 1 then 2 else 4

/-- The bits that the samples of HP_IO[3:0] carry on `w` lines, HP_IO of the highest number first (PRESUMED, assumption log 23). -/
def hpBits (w : Nat) (l : List (BitVec 4)) : List Bool :=
  l.flatMap (fun x => (List.range w).map (fun i => x.toNat.testBit (w - 1 - i)))

/-- Whole bytes of a sequence of bits, the highest bit first (PRESUMED, assumption log 23). -/
def wholeBytes : Nat → List Bool → List Byte
  | 0, _ => []
  | n + 1, l =>
    if decide (l.length < 8) then []
    else BitVec.ofNat 8 ((l.take 8).foldl (fun a b => 2 * a + b.toNat) 0) :: wholeBytes n (l.drop 8)

/-- The bytes that the host clocks in: one sample of HP_IO[3:0] a clock, on the lines that HOSTSEL gives. In both clock modes a sample is
taken at the rising edge of HP_CLK (PRESUMED, assumption log 23). -/
def State.hpBytes (s : State) (l : List (BitVec 4)) : List Byte := wholeBytes l.length (hpBits s.hpWidth l)

/-- The address of a transaction whose instruction is `instr`: any other instruction byte ends it without effect (R258), and so does
HP_CS_N that rises before the address is complete. -/
def State.hpAddr (s : State) (instr : Byte) (head : List (BitVec 4)) : Option Nat :=
  match s.hpBytes head with
  | [i, a2, a1, a0] => if i == instr then some (a2.toNat * 65536 + a1.toNat * 256 + a0.toNat) else none
  | _ => none

/-- READ, its instruction and address as the host clocks them in: the bytes from the address, wrapping at the end of the window. Address
bits above the window make the transaction void; while READY is 0 it gives zeros (R260). -/
def execHpRead (head : List (BitVec 4)) (len : Nat) (s : State) : Out :=
  .next (match s.hpAddr 0x0B head with
  | none => s
  | some a =>
    if !s.supServes then s.withHpOut (List.replicate len 0)
    else if decide (0x20000 ≤ a) then (s.inc F.HP_STAT_ADRERR).withHpOut (List.replicate len 0)
    else s.sharedAccess (fun t => t.withHpOut ((List.range len).map (fun i => t.windowByte ((a + i) % 0x20000)))))

/-- RDSR is always answered. -/
def execHpRdsr (s : State) : Out :=
  .next (s.withHpOut [BitVec.ofNat 8 (s.supServes.toNat + 2 * s.hostIrq.toNat + 4 * s.fld F.MODE_CUR_WAKE + 16 * s.curMode)])

/-! ## Doorbells and credits (R266, R268) -/

/-- The responses of MB_k from index `a` up to `b`, not included, have been read. -/
def inSpan (a b i : Nat) : Bool := decide ((i + 65536 - a) % 65536 < (b + 65536 - a) % 65536)

/-- The two conditions of R266. -/
def State.doorbellValid (s : State) (k cmdpi rspci : Nat) : Bool :=
  let ci := s.fld (HW.cmdci k)
  let old := s.fld (HW.rspci k)
  decide ((cmdpi + 65536 - ci) % 65536 ≤ 32) &&
    decide ((s.fld (HW.cmdpi k) + 65536 - ci) % 65536 ≤ (cmdpi + 65536 - ci) % 65536) &&
    decide ((rspci + 65536 - old) % 65536 ≤ (s.fld (HW.rsppi k) + 65536 - old) % 65536)

/-- One newly posted command: a credit as far as AVAIL reaches. -/
def State.grantCredit (s : State) (k : Nat) : State :=
  let c := decide (1 ≤ s.avail k)
  let s := if c then s.put (F.MBX_CRED_INFL k) (s.fld (F.MBX_CRED_INFL k) + 1) else s
  s.modChan k (fun x => { x with posted := x.posted ++ [c] })

/-- An invalid doorbell changes nothing but BADDB and LASTERR (R266, R272). -/
def State.badDoorbell (s : State) (k : Nat) : State :=
  let s := (s.inc (HW.baddb k)).put (HW.lasterr k) (stMalformed + 256 * 0x0A)
  (s.irq 4).assertEv 140

/-- A doorbell with these indices: whether it is valid, and what it does. -/
def State.doorbell (s : State) (k cmdpi rspci : Nat) : Bool × State :=
  if s.doorbellValid k cmdpi rspci then
    let n := (cmdpi + 65536 - s.fld (HW.cmdpi k)) % 65536
    let old := s.fld (HW.rspci k)
    let s := (s.put (HW.cmdpi k) cmdpi).put (HW.rspci k) rspci
    let s := s.dropRsp k (fun r => inSpan old rspci r.index)
    let s := s.each (List.range n) (fun _ t => t.grantCredit k)
    (true, s.checkCredit)
  else (false, s.badDoorbell k)

/-- A doorbell over the host port; on a channel bound to a session it is invalid (R281). -/
def State.qspiDoorbell (s : State) (k v : Nat) : State :=
  if (s.chanSession k).isSome then s.badDoorbell k else (s.doorbell k (v % 65536) (v / 65536)).2

def execDoorbellWrite (k : Fin 16) (v : Word) (s : State) : Out :=
  .next (if s.supServes then s.qspiDoorbell k v.toNat else s)

/-! ## Feature negotiation (R274) -/

/-- The reason that refuses a commit, 0 for none: of several the first of the table. -/
def State.commitReason (s : State) : Nat :=
  if !(List.range 4).all (fun i => (s.rd (HW.hostFeat i)) &&& ~~~(s.rd (HW.devFeat i)) == 0) then 1
  else if !(s.rd (HW.hostFeat 0)).toNat.testBit 0 then 2
  else if s.committed then 3
  else if s.curMode != modeConfigure || !s.flag HW.pub then 4
  else 0

/-- A write to FEAT_COMMIT. -/
def State.featCommit (s : State) (v : Nat) : State :=
  if v != 1 || s.flag F.MODE_CUR_MIN then s
  else
    let r := s.commitReason
    if r == 0 then ((s.put HW.commit 1).put HW.rej 0).put HW.reason 0
    else (s.put HW.rej 1).put HW.reason r

def execFeatCommit (v : Word) (s : State) : Out := .next (if s.supServes then s.featCommit v.toNat else s)

/-! ## Host writes (R259, R261) -/

/-- The host stores one whole word of the window. -/
def State.windowStore (s : State) (off v : Nat) : State :=
  if decide (0x18000 ≤ off) then
    match s.apAddr off with
    | some a => s.wrMem32 a v
    | none => s.inc F.HP_STAT_APERR
  else if decide (0x1000 ≤ off ∧ off < 0x11000) && decide (off % 0x1000 < 0x800) then s.wrMem32 (0x10000000 + off) v
  else if decide (0x20 ≤ off ∧ off < 0x30) && !s.committed then s.wr (0x10000000 + off) (BitVec.ofNat 32 v)
  else if off == 0x30 then s.featCommit v
  else if decide (0x100 ≤ off ∧ off < 0x140) then s.qspiDoorbell ((off - 0x100) / 4) v
  else if off == 0x300 then s.wr HW.irqStat (s.rd HW.irqStat &&& ~~~(BitVec.ofNat 32 v))
  else if off == 0x304 then s.wr HW.irqEn (BitVec.ofNat 32 (v % 256))
  else if off == 0x308 then s.wr HW.rspIrq (s.rd HW.rspIrq &&& ~~~(BitVec.ofNat 32 v))
  else s.inc F.HP_STAT_ROWR

/-- Store the bytes of a transaction from window offset `off`: whole aligned words are stored, what is left of a word is
discarded and counted. -/
def State.windowWrite : Nat → State → Nat → List Byte → State
  | 0, s, _, _ => s
  | n + 1, s, off, bs =>
    if bs.isEmpty then s
    else
      let k := 4 - off % 4
      let next := (off + k) % 0x20000
      if off % 4 == 0 && decide (4 ≤ bs.length) then State.windowWrite n (s.windowStore off (numAt bs 0 4)) next (bs.drop 4)
      else State.windowWrite n (s.inc F.HP_STAT_PARTW) next (bs.drop k)

/-- WRITE, as the host clocks it in: instruction and address, then the data. -/
def execHpWrite (head data : List (BitVec 4)) (s : State) : Out :=
  .next (match s.hpAddr 0x02 head with
  | none => s
  | some a =>
    let bs := s.hpBytes data
    if !s.supServes then s
    else if decide (0x20000 ≤ a) then s.inc F.HP_STAT_ADRERR
    else State.windowWrite bs.length s a bs)

/-! ## Consumption (R267, R271) -/

/-- The command descriptor of a slot (R263). -/
def readCommand (k : Nat) (credited : Bool) (b : List Byte) : InService :=
  let len := numAt b 4 1
  let nbuf := numAt b 5 1
  let bad := decide (48 < len) || decide (4 < nbuf) || decide (1 < numAt b 1 1) || numAt b 6 2 != 0
  { opcode := numAt b 0 1
    credited := credited
    bad := bad
    cmd :=
      { ch := ⟨k % 16, Nat.mod_lt _ (by decide)⟩
        irq := (numAt b 1 1).testBit 0
        tag := BitVec.ofNat 16 (numAt b 2 2)
        handles := (List.range (Nat.min nbuf 4)).map (fun j => BitVec.ofNat 16 (numAt b (8 + 2 * j) 2))
        param := bytesAt b 16 (Nat.min len 48) }
    checked := false
    started := false }

/-- The engine may consume a command of MB_k. -/
def State.mayConsume (s : State) (k : Nat) : Bool := !(s.chan k).posted.isEmpty && s.rspRoom k

/-- Consume the next command of MB_k; a command at the head of its queue is checked at once. -/
def State.consume (s : State) (k : Nat) : State :=
  let e := readCommand k ((s.chan k).posted.headD false) (s.rdBytes (cmdSlot k (s.fld (HW.cmdci k))) 64)
  let s := (s.incMod (HW.cmdci k)).modChan k (fun c => { c with posted := c.posted.tail, inService := c.inService ++ [e] })
  let s := s.withMbxTurn ((k + 1) % 16)
  (s.serveAll k).checkCredit

/-- The mailbox engine consumes one command, of the next channel in turn that has one; none once a Standby request is accepted, which is
the moment of its entry (R40, R284). -/
def execCommandConsume (s : State) : Out :=
  .next (if !s.supServes then s
    else match ((List.range 16).map (fun i => (s.mbxTurn + i) % 16)).find? (fun k => s.mayConsume k) with
      | some k => s.consume k
      | none => s)

/-! ## Ethernet host sessions (R280 to R282) -/

/-- A discarded datagram; `burst`: the sixteenth within 1 s (EV_142). -/
def State.discardDatagram (s : State) (n : Nat) (burst : Bool) : State :=
  let s := s.modSession n (fun x => { x with drops := x.drops + 1 })
  if burst then s.assertEv 142 else s

/-- KIND 0x01: a doorbell; the descriptors it carries from CMDCI on go into the ring. -/
def State.sessionCommands (s : State) (k : Nat) (b : List Byte) : State :=
  let count := numAt b 13 1
  let first := numAt b 14 2
  let ci := s.fld (HW.cmdci k)
  let (ok, t) := s.doorbell k ((first + count) % 65536) (numAt b 16 2)
  if ok then
    t.each ((List.range count).filter (fun j => decide ((first + j + 65536 - ci) % 65536 < 32)))
      (fun j u => u.wrBytes (cmdSlot k ((first + j) % 65536)) (bytesAt b (20 + 64 * j) 64))
  else t

/-- KIND 0x03: a write into a buffer that the host owns through this channel. -/
def State.sessionBuffer (s : State) (k : Nat) (b : List Byte) : State :=
  let h := numAt b 20 2
  let off := numAt b 22 1
  let n := numAt b 23 2
  if decide (h < 2048) && s.owner h == 0x10 + k && decide (off + n ≤ 256) && decide (25 + n + 16 ≤ b.length) then
    s.wrBytes (bufBase h + off) (bytesAt b 25 n)
  else s

/-- A datagram to UDP port 50,116, which the device serves with feature 12 alone (R274). One whose header or length breaks the layout of R280 or R282 has no effect. -/
def execHostSessionDatagram (bytes : List Byte) (burst : Bool) (s : State) : Out :=
  .next (if !s.netRuns || !s.supRuns then s
    else
      let s := s.takeRx bytes
      if !s.feature 12 then s else
      match [0, 1, 2, 3].find? (fun n => (s.session n).isOpen && (s.session n).number == numAt bytes 4 4) with
      | none => if burst then s.assertEv 142 else s
      | some n =>
        let x := s.session n
        let body := bytes.take (bytes.length - 16)
        let seq := numAt bytes 8 4
        let k := numAt bytes 12 1
        if bytes.drop (bytes.length - 16) != hmacTag x.key body || decide (seq < x.rxNext) then
          s.discardDatagram n burst
        else if numAt bytes 0 2 != 0x7E16 || numAt bytes 2 1 != 1 || decide (1472 < bytes.length) || !x.chans.testBit k ||
            decide (16 < numAt bytes 13 1) then s
        else
          let t := s.modSession n (fun x => { x with rxNext := seq + 1 })
          if numAt bytes 3 1 == 1 then
            if bytes.length == 36 + 64 * numAt bytes 13 1 then t.sessionCommands k bytes else s
          else if numAt bytes 3 1 == 3 then t.sessionBuffer k bytes
          else s)

/-- A response that RSPCI has not passed within 10 ms is sent again, with the content kept in its staging buffers, and with the later
ones that fit the datagram (R282). -/
def execSessionResponseResend (k : Fin 16) (index : BitVec 16) (s : State) : Out :=
  .next (if !s.netRuns || !s.supRuns then s
    else
      let l := oneDatagram ((s.chan k).sent.dropWhile (fun r => r.index != index.toNat))
      match s.chanSession k with
      | some n =>
        if l.isEmpty then s
        else
          let (ok, t) := s.sendDatagram n k l
          if ok then t.each l (fun r u => u.stage k r) else s
      | none => s)

/-- No accepted datagram for 5 s. -/
def execSessionIdleClose (n : Fin 4) (s : State) : Out :=
  .next (if s.supRuns && (s.session n).isOpen then s.closeSession n else s)

/-! ## System commands (R286) -/

/-- SYS_NOP; not in Update (R46; DEDUCED, assumption log 25). -/
def execSysNop (c : HostCmd) (s : State) : Out :=
  .next (s.hostCmd 0x00 c (fun s => if s.curMode == modeUpdate then refuseMode s else okReply s))

/-- SYS_ID: the first four words of the window, STRAP.VAL, and for each engine the identifier of its image, 0 where it holds
none; in result buffers, as R498 says of SYS_ID. -/
def execSysId (c : HostCmd) (s : State) : Out :=
  .next (s.hostCmd 0x01 c (fun s =>
    let ids := axisList.flatMap (fun e => leBytes 4 (if (s.engImg e).loaded then (s.engImg e).ident else 0))
    replyWith c.ch ([0, 4, 8, 12].flatMap (fun o => leBytes 4 (s.windowWord o)) ++ s.reg4 R.STRAP_VAL ++ ids) s))

/-- The non-zero words of WEIR.STK. -/
def State.stickyMap (s : State) : Nat := maskOf ((List.range 6).filter (fun i => (s.rd (R.WEIR_STK i)).toNat != 0))

def execSysStatus (c : HostCmd) (s : State) : Out :=
  .next (s.hostCmd 0x02 c (fun s =>
    okResult (s.reg4 R.MODE_CUR ++ s.reg4 R.MODE_CAUSE ++ s.reg4 R.MODE_AXST0 ++ s.reg4 (R.MODE_AXST0 + 4) ++
      leBytes 1 s.stickyMap ++ s.reg4 R.MBX_RSVFREE ++ leBytes 1 (s.fld F.MBX_CREDPOOL_POOL) ++ s.reg4 R.MBX_INV) s))

/-- SYS_RESET; not in Update (R46; DEDUCED, assumption log 25). -/
def execSysReset (c : HostCmd) (s : State) : Out :=
  .next (s.hostCmd 0x04 c (fun s =>
    if s.curMode == modeUpdate then refuseMode s
    else if arg c 0 1 != 1 then refuse stRange s
    else if s.anyShorted then refuseMode s
    else okReply (s.requestWarm 3)))

/-- A new LIMIT `n` of MB_k (R269), or `none`: LIMIT counts the credits still held, INFL those in flight that stay. -/
def State.setLimit (s : State) (k n : Nat) : Option State :=
  let l := s.fld (F.MBX_CRED_LIMIT k)
  let pool := s.fld F.MBX_CREDPOOL_POOL
  let flight := s.fld (F.MBX_CRED_INFL k) + s.fld (F.MBX_CRED_PEND k)
  if !decide (1 ≤ n ∧ n ≤ 32) || decide (l + pool < n) then none
  else if decide (flight ≤ n) then
    some ((((s.put (F.MBX_CRED_LIMIT k) n).put (F.MBX_CRED_INFL k) flight).put (F.MBX_CRED_PEND k) 0).put
      F.MBX_CREDPOOL_POOL (pool + l - n))
  else
    some ((((s.put (F.MBX_CRED_LIMIT k) flight).put (F.MBX_CRED_INFL k) n).put (F.MBX_CRED_PEND k) (flight - n)).put
      F.MBX_CREDPOOL_POOL (pool + l - flight))

/-- CREDIT_SET; in Update the firmware accepts only the Update, ID and status commands (R46; DEDUCED, assumption log 25). -/
def execCreditSet (c : HostCmd) (s : State) : Out :=
  .next (s.hostCmd 0x06 c (fun s =>
    let k := arg c 0 1
    if s.curMode == modeUpdate then refuseMode s
    else if decide (15 < k) then refuse stRange s
    else match s.setLimit k (arg c 1 1) with
      | some t => okReply t.checkCredit
      | none => refuse stRange s))

/-- BUF_ALLOC: handles and aperture slots, 16 entries of each. -/
def execBufAlloc (c : HostCmd) (s : State) : Out :=
  .next (s.hostCmd 0x07 c (fun s =>
    let n := arg c 0 1
    if !decide (1 ≤ n ∧ n ≤ 16) then refuse stRange s
    else match s.allocN (0x10 + c.ch.val) n with
      | none => ({ status := stBusy, detail := 0x09 }, s)
      | some (bs, t) => match t.mapAll bs with
        | none => ({ status := stBusy, detail := 0x09 }, s)
        | some (is, t) =>
          okResult ((List.range 16).flatMap (fun j => leBytes 2 (bs.getD j 0)) ++
            (List.range 16).map (fun j => BitVec.ofNat 8 (is.getD j 0))) t))

def execBufFree (c : HostCmd) (s : State) : Out :=
  .next (s.hostCmd 0x08 c (fun s =>
    let n := arg c 0 1
    let hs := (List.range n).map (fun j => arg c (1 + 2 * j) 2)
    if !decide (1 ≤ n ∧ n ≤ 16) then ({ status := stMalformed, detail := 0x04 }, s)
    else if !hs.all (fun h => decide (h < 2048) && s.owner h == 0x10 + c.ch.val) || !noRepeat hs then
      ({ status := stMalformed, detail := 0x05 }, s)
    else okReply (s.each hs (fun h t => t.freeBuf h))))

def execRsvStatus (c : HostCmd) (s : State) : Out :=
  .next (s.hostCmd 0x09 c (fun s =>
    okResult (leBytes 2 (s.fld F.MBX_RSVFREE_FREE) ++ (List.range 5).flatMap (fun i =>
      leBytes 2 (s.fld (F.MBX_RSVCNT_COUNT i)) ++ leBytes 2 (s.fld (F.MBX_RSVQ_CAP i)) ++
        leBytes 2 (s.fld (F.MBX_RSVQ_FLOOR i)))) s))

def execRsvQuota (c : HostCmd) (s : State) : Out :=
  .next (s.hostCmd 0x0A c (fun s =>
    let cap : Nat → Nat := fun i => arg c (4 * i) 2
    let floor : Nat → Nat := fun i => arg c (4 * i + 2) 2
    if !s.inModes [modeConfigure] then refuseMode s
    else if decide (2048 < ((List.range 5).map floor).foldl (· + ·) 0) || (List.range 5).any (fun i =>
        decide (cap i < floor i) || decide (cap i < s.fld (F.MBX_RSVCNT_COUNT i)) || decide (4095 < cap i)) then refuse stRange s
    else okReply (s.each (List.range 5) (fun i t => (t.put (F.MBX_RSVQ_CAP i) (cap i)).put (F.MBX_RSVQ_FLOOR i) (floor i)))))

def execChanStatus (c : HostCmd) (s : State) : Out :=
  .next (s.hostCmd 0x0B c (fun s =>
    let k := arg c 0 1
    if decide (15 < k) then refuse stRange s
    else
      let bound := match s.chanSession k with
        | some n => (1 : Byte) :: leBytes 4 (s.session n).number
        | none => (0 : Byte) :: leBytes 4 0
      okResult (leBytes 4 (s.credWord k) ++ (List.range 4).flatMap (fun w => s.reg4 (HW.chst k w)) ++ bound) s))

/-- SYS_ECHO: copies of the attached buffers in new ones, and the parameters; not in Update (R46; assumption log 25). -/
def execSysEcho (c : HostCmd) (s : State) : Out :=
  .next (s.hostCmd 0x0C c (fun s =>
    if s.curMode == modeUpdate then refuseMode s
    else if c.handles.isEmpty then ({ status := stMalformed, detail := 0x04 }, s)
    else match s.resultBufs c.ch (s.attached c) with
      | none => ({ status := stBusy, detail := 0x09 }, s)
      | some (bs, t) => ({ status := stOk, result := c.param, bufs := bs }, t)))

end Sys2Proof.Machine
end

