-- ==== Sys2Proof/Machine/Access.lean ====
section
/-!
DEFINITION. Engine accesses: rights and windows (R20, R74), loads and stores with the second posted lane (R71 to R73), memory
errors (R76), pointers (R57, R58), input slots, probes, and the scans of R56.
-/

namespace Sys2Proof.Machine

/-! ## Rights -/

/-- A window of the task that covers a byte for the access. -/
def State.inWindow (s : State) (e k : Nat) (write : Bool) (a : Nat) : Bool :=
  (List.range 8).any (fun w =>
    s.flag (if write then F.CE_GRLIM_W e k w else F.CE_GRLIM_R e k w) &&
      decide (s.fld (F.CE_GRBASE_BASE e k w) ≤ a / 4 ∧ a / 4 ≤ s.fld (F.CE_GRLIM_LIMIT e k w)))

/-- A byte that the task may access: its engine's data memory, the speed word of its bound axis, its windows (R74). -/
def State.mayAccess (s : State) (e k : Nat) (write : Bool) (a : Nat) : Bool :=
  ownData e a ||
    (write && s.flag (F.CE_TASKENT_AXB e k) && a / 4 * 4 == R.SPW_SPD (s.fld (F.CE_TASKENT_AXIS e k))) ||
    ((if write then engWritable a else engReadable a) && s.inWindow e k write a)

/-- An access outside the grant (R20). -/
def State.rightsError (s : State) (e : Nat) : State := (s.put (F.CE_STAT_RIGHTS e) 1).assertEv (evAxis e 6)

/-- What a load of data memory meets (R76): 1 a corrected error, 2 a double-bit error. -/
def State.dataError (s : State) (e ecc : Nat) : State :=
  if ecc = 2 then (s.put (F.CE_STAT_DMDBL e) 1).assertEv (evAxis e 6)
  else if ecc = 1 then (s.put (F.CE_STAT_ECC1 e) 1).assertEv (evAxis e 5)
  else s

/-! ## Reading -/

/-- A register word as an engine reads it; a running carrier shows the count `cnt`, TU's high words are latched. -/
def State.engWord (s : State) (w cnt : Nat) : Nat :=
  if decide (w < 0x10001000) then s.windowWord (w - 0x10000000)
  else if w == R.TU_CNTH then s.net.cntHeld.toNat
  else if w == R.TU_TIMEH then s.net.timeHeld.toNat
  else match carrierList.find? (fun c => w == R.CB_STAT c && s.running c) with
    | some _ => fieldPut (s.rd w).toNat 0 18 cnt
    | none => (s.rd w).toNat

def State.engByte (s : State) (cnt a : Nat) : Byte :=
  if plainMemory a || engineMemory a then s.rd8 a else BitVec.ofNat 8 (s.engWord (a / 4 * 4) cnt / 2 ^ (8 * (a % 4)))

/-- The destination of a load takes its bytes: a signed half-word, a word or a pair. -/
def Slot.setLoaded (b : Slot) (d size : Nat) (bytes : List Byte) : Slot :=
  let n := leNat bytes
  if size = 2 then b.setX d ((BitVec.ofNat 16 n).signExtend 32)
  else if size = 8 then b.setPair d (BitVec.ofNat 64 n)
  else b.setX d (BitVec.ofNat 32 n)

/-- What a load of data memory meets: `ecc`, but a double-bit error where one of its words is known to have one (R410). -/
def State.eccAt (s : State) (addrs : List Nat) (ecc : Nat) : Nat := if addrs.any s.badAt then 2 else ecc

/-- The words of a load that meets a double-bit error are known to have one. -/
def State.markLoad (s : State) (addrs : List Nat) (ecc : Nat) : State :=
  if ecc = 2 then s.each addrs (fun a t => t.markBad a) else s

/-- A load of `size` bytes; `ecc` is what data memory meets, or that the context memory has a parity error. From another island it stalls the engine (R73)
and holds the engine's own tag (R426). -/
def State.load (s : State) (e d size : Nat) (m : Addr) (ecc : Nat) : State :=
  s.issue e pathBoth (fun k t =>
    let b := t.bank e k
    let addrs := b.bytesOf m size
    let b := b.postModify m
    if addrs.any (fun a => !t.mayAccess e k false a) then
      (t.setBank e k (b.setLoaded d size [])).rightsError e
    else if addrs.all dataMemory then
      let ecc := t.eccAt addrs ecc
      ((t.markLoad addrs ecc).setBank e k (b.setLoaded d size (if ecc = 2 then [] else addrs.map (fun a => t.rd8 a)))).dataError e ecc
    else ((t.setBank e k b).modEngine e (fun x => { x with stall := .load d size addrs (ecc != 0) })).issueTag e)

def execLd (e d : Fin 16) (m : Addr) (ecc : Fin 3) (s : State) : Out := .next (s.load e d 4 m ecc)

def execLdh (e d : Fin 16) (m : Addr) (ecc : Fin 3) (s : State) : Out := .next (s.load e d 2 m ecc)

def execLdv (e : Fin 16) (d : Fin 8) (m : Addr) (ecc : Fin 3) (s : State) : Out := .next (s.load e d 8 m ecc)

/-! ## Writing -/

/-- A store arrives at its block, or is discarded at an island in reset (R457). -/
def State.arrive (s : State) (l : List (Nat × Byte)) : State :=
  if l.any (fun x => s.islandDown x.1) then s else s.busStore l

/-- A store of bytes: own data memory and the TIMEBASE lane take it at once (R71), the second lane if it has room (R72). -/
def State.store (s : State) (e : Nat) (m : Addr) (bytes : Slot → List Byte) : State :=
  s.issue e pathBoth (fun k t =>
    let b := t.bank e k
    let bs := bytes b
    let l := (b.bytesOf m bs.length).zip bs
    let t := t.setBank e k (b.postModify m)
    if l.any (fun x => !t.mayAccess e k true x.1) then t.rightsError e
    else if l.all (fun x => ownData e x.1 || decide (0x40000000 ≤ x.1 ∧ x.1 < 0x40020000)) then t.arrive l
    else if decide ((t.engine e).lane.length < 8) then t.modEngine e (fun x => { x with lane := x.lane ++ [⟨l⟩] })
    else t.modEngine e (fun x => { x with stall := .store ⟨l⟩ }))

def execSt (e a : Fin 16) (m : Addr) (s : State) : Out :=
  .next (s.store e m (fun b => leBytes 4 (b.xr a).toNat))

def execSth (e a : Fin 16) (m : Addr) (s : State) : Out :=
  .next (s.store e m (fun b => leBytes 2 (b.xr a).toNat))

def execStv (e : Fin 16) (a : Fin 8) (m : Addr) (s : State) : Out :=
  .next (s.store e m (fun b => leBytes 8 (b.pair a).toNat))

/-! ## The second lane and remote loads -/

/-- The island of a posted store, by its first byte. -/
def Posted.island (p : Posted) : Option Nat := islandOf (p.bytes.headD (0, 0)).1

/-- The oldest entry of the second lane arrives; a store that waits enters the lane (R72). -/
def execPostedLaneRoom (e : Fin 16) (s : State) : Out :=
  .next (if !s.computeRuns then s
  else match (s.engine e).lane with
    | [] => s
    | p :: l =>
      let s := s.arrive p.bytes
      s.modEngine e (fun x => match x.stall with
        | .store q => { x with lane := l ++ [q], stall := .none }
        | _ => { x with lane := l }))

/-- A read of TU's counter or time: it has advanced by `adv`, and its high word is latched (spec/14). -/
def State.latchTime (s : State) (adv : Nat) (addrs : List Nat) : State :=
  if addrs.any (fun a => decide (R.TU_CNTL ≤ a ∧ a < R.TU_CNTL + 4) || decide (R.TU_TIMEL ≤ a ∧ a < R.TU_TIMEL + 4)) then
    let s := s.runOn adv
    if addrs.any (fun a => decide (R.TU_CNTL ≤ a ∧ a < R.TU_CNTL + 4)) then
      s.withNet { s.net with cntHeld := s.rd R.TU_CNTH }
    else s.withNet { s.net with timeHeld := s.rd R.TU_TIMEH }
  else s

/-- The memory of the trajectory contexts (R212). -/
def contextMemory (a : Nat) : Bool := decide (0x40050000 ≤ a ∧ a < 0x40058000)

/-- The value of a stalled load returns (R73), with the source of R221 where a word of the context memory has a parity error: stores sent earlier across the same boundary have arrived (R8), an island in
reset gives 0 (R457). `adv` is how far TU's counter has advanced, `cnt` the count of a running carrier. -/
def execRemoteLoadReturn (e : Fin 16) (adv : Nat) (cnt : BitVec 18) (s : State) : Out :=
  .next (if !s.computeRuns then s
  else match (s.engine e).stall with
    | .load d size addrs bad =>
      let isl := islandOf (addrs.headD 0)
      let old := (s.engine e).lane
      let s := s.each (old.filter (fun p => p.island == isl)) (fun p t => t.arrive p.bytes)
      let s := (s.modEngine e (fun x => { x with lane := old.filter (fun p => p.island != isl) })).unstall e
      let k := s.fld (F.CE_STAT_SLOT e)
      if addrs.any (fun a => s.islandDown a) then s.setBank e k ((s.bank e k).setLoaded d size [])
      else
        let s := ((s.latchTime adv addrs).canCount addrs).measureLoads addrs
        let s := if bad && addrs.any contextMemory then s.assertEv 150 else s
        s.setBank e k ((s.bank e k).setLoaded d size (addrs.map (fun a => s.engByte cnt.toNat a)))
    | _ => s)

/-! ## The debug port (R439, R442) -/

/-- The words of SEC.OTP as SUP reads them: IK reads 0 (R431). -/
def State.otpWord (s : State) (off : Nat) : Nat := if decide (0x50 ≤ off ∧ off < 0x70) then 0 else leNat (s.otpBytes off 4)

/-- A word as SUP reads it: as an engine does, and the OTP window at offset 0x400 of SEC (R431). `rom` stands for a word of the boot ROM,
`cnt` for the count of a running carrier. -/
def State.supWord (s : State) (w cnt rom : Nat) : Nat :=
  if decide (w < 0x20000) then rom
  else if s.islandDown w then 0
  else if plainMemory w || engineMemory w || canTxByte w then s.rdMem32 w
  else if decide (0x50030400 ≤ w ∧ w < 0x50030800) then s.otpWord (w - 0x50030400)
  else s.engWord w cnt

/-- IK and the SEC key registers: the words of KH0, KH1 and IK in SEC.OTP (DEDUCED, assumption log 38). -/
def secKeyWord (w : Nat) : Bool := decide (0x50030410 ≤ w ∧ w < 0x50030470)

/-- Observe reads every memory and register but IK and the SEC key registers; the word goes out at TDO. A word of the boot ROM, the count
of a running carrier and how far the time unit has counted are free (assumption log 5). -/
def State.debugRead (s : State) (w : Nat) : State :=
  if secKeyWord w || !inMap w then s
  else
    let (v, s) := s.draw
    let (rom, s) := s.draw
    let s := ((if s.netRuns then s.latchTime v [w] else s).canCount [w]).measureLoads [w]
    let word := s.supWord w (v % 2 ^ 18) rom
    (s.sharedAccess (fun t => t)).setTap s.sec.tap (leBytes 4 word)

/-- Halt writes a word as SUP would (R439): nothing outside the map, the report alone toward an island in reset. -/
def State.debugWrite (s : State) (w : Nat) (v : Word) : State :=
  if !inMap w then s
  else if s.islandDown w then s.resetAccess
  else s.sharedAccess (fun t => t.busWord w v.toNat 0xFFFFFFFF)

/-- An Observe or Halt session reads; a Halt session writes, halts a core, steps it or sets a breakpoint (R439, R442). A step is the
core's own next instruction, after which it stands halted. -/
def execDebugHalt (core : Fin 17) (op : DebugOp) (s : State) : Out :=
  .next (
    let level := s.fld F.SEC_DBG_LEVEL
    if !s.tapUp || level == 0 then s
    else match op with
    | .read a => s.debugRead (a.toNat / 4 * 4)
    | .write a v => if level == 2 then s.debugWrite (a.toNat / 4 * 4) v else s
    | .brk a => if level == 2 then s.withSec { s.sec with brks := (core.val, a) :: s.sec.brks } else s
    | _ =>
      if level != 2 || s.carriesSpeed core then s
      else (s.withSec { s.sec with
        halted := putBit s.sec.halted core true
        stepping := putBit s.sec.stepping core (op == .step) }).put F.SEC_DBG_HALTED 1)

/-! ## Pointers -/

/-- SETC (R57): an odd length leaves the pointer linear and sets V; an even one above 65,534 gives an open length and an open V
(assumption log 17). -/
def execSetc (e : Fin 16) (p : Fin 8) (b l : Fin 16) (s : State) : Out :=
  .next (s.issue e pathBoth (fun k t =>
    let x := t.bank e k
    let n := (x.xr l).toNat
    if n % 2 = 1 then t.setBank e k ((x.setCirc p (x.xr b) 0).setFlag bitV true)
    else if decide (n ≤ 65534) then t.setBank e k (x.setCirc p (x.xr b) n)
    else
      let (v, t) := t.draw
      t.setBank e k ((x.setCirc p (x.xr b) (v % 32768 * 2)).setFlag bitV (v / 32768 % 2 == 1))))

def execAddp (e : Fin 16) (p : Fin 8) (imm : Word) (s : State) : Out :=
  .next (s.onBank e pathBoth (fun b => b.setPtr p (b.fold p ((b.ptr p).toNat + imm.toInt))))

/-! ## Input slots and probes -/

/-- LDIN (R70): the slot's value; its valid bit clears. -/
def execLdin (e d : Fin 16) (i : Fin 64) (s : State) : Out :=
  .next (s.issue e pathBoth (fun k t =>
    let v := SMap.get (fun _ => (0 : Word)) t.inputs (64 * e.val + i.val)
    (t.setBank e k ((t.bank e k).setX d v)).put (invalidFld e i) 0))

/-- WAITV: where a slot named is not yet valid the task waits and yields the engine. -/
def execWaitv (e a b : Fin 16) (s : State) : Out :=
  .next (s.issue e pathBoth (fun k t =>
    let x := t.bank e k
    let lo := (x.xr a).toNat
    let hi := (x.xr b).toNat
    if t.slotsValid e lo hi then t
    else
      let t := t.setBank e k { x with waitLo := lo, waitHi := hi }
      (t.modEngine e (fun y => { y with waiting := putBit y.waiting k true })).showSlot e none))

/-- PROBE (R314): the value reaches the latches bound to port `k` of this engine. -/
def execProbe (e k a : Fin 16) (s : State) : Out :=
  .next (s.issue e pathBoth (fun j t => t.pushLatch 8 e k ((t.bank e j).xr a)))

/-! ## Scans (R56) -/

/-- The first best element of a list and its number. -/
def firstBest (better : Int → Int → Bool) : List Int → Nat → Int × Nat → Int × Nat
  | [], _, best => best
  | v :: vs, j, best => firstBest better vs (j + 1) (if better v best.1 then (v, j) else best)

/-- The byte addresses of element `j` of a scan through pointer `p`. -/
def Slot.elementAt (b : Slot) (p j : Nat) : List Nat :=
  [2 * j, 2 * j + 1].map (fun (o : Nat) => (b.fold p ((b.ptr p).toNat + (o : Int))).toNat)

/-- The task may read element `j`. -/
def State.elementOk (s : State) (e k p j : Nat) : Bool := ((s.bank e k).elementAt p j).all (fun a => s.mayAccess e k false a)

/-- Element `j` as it is read: 0 outside the grant, from an island in reset, or on a double-bit error (`bad`). Elements in another
island are read without a stall, and the count of a running carrier is the free value `cnt` (DESIGN CHOICE, assumption log 39). -/
def State.elementValue (s : State) (e k p cnt j : Nat) (bad : Bool) : Int :=
  let l := (s.bank e k).elementAt p j
  if bad || !s.elementOk e k p j || (l.all dataMemory && l.any s.badAt) || l.any (fun a => s.islandDown a) then 0 else sgn 16 (leNat (l.map (fun a => s.engByte cnt a)))

/-- MAXI and MINI over `n` elements; what data memory meets at element `at_` is `ecc`. With `stop` above 0 a preemption comes after
so many groups of four: the scan stands in the slot and the instruction resumes there when it issues again (R64). The element number
is written last. An `n` outside 1 to 4,096 is no defined encoding. -/
def State.scan (s : State) (e d i p n ecc at_ stop : Nat) (better : Int → Int → Bool) : State :=
  s.issue e pathBoth (fun k t =>
    if !decide (1 ≤ n ∧ n ≤ 4096) then t.illegal e k
    else
      let b := t.bank e k
      let j0 := match b.scan with | some x => x.1 | none => 0
      let j1 := if stop = 0 then n else Nat.min n (j0 + 4 * stop)
      let hit := decide (j0 ≤ at_ ∧ at_ < j1) && t.elementOk e k p at_ && (b.elementAt p at_).all dataMemory
      let (cnt, t) := t.draw
      let l := (List.range (j1 - j0)).map (fun j => t.elementValue e k p (cnt % 2 ^ 18) (j0 + j) (hit && j0 + j == at_ && ecc == 2))
      let r := firstBest better l j0 (match b.scan with | some x => x.2 | none => (l.headD 0, j0))
      let ok := (List.range (j1 - j0)).all (fun j => t.elementOk e k p (j0 + j))
      let t := t.setBank e k (if decide (j1 < n) then { b with pc := b.pc - 4, scan := some (j1, r) }
        else { (b.setX d (BitVec.ofInt 32 r.1)).setX i (BitVec.ofNat 32 r.2) with scan := none })
      let t := if ok then t else t.rightsError e
      let met := (List.range (j1 - j0)).any (fun j =>
        t.elementOk e k p (j0 + j) && (b.elementAt p (j0 + j)).all dataMemory && (b.elementAt p (j0 + j)).any t.badAt)
      let t := if hit then t.markLoad (b.elementAt p at_) ecc else t
      if met then t.dataError e 2 else if hit then t.dataError e ecc else t)

def execMaxi (e d i : Fin 16) (p : Fin 8) (n : Nat) (ecc : Fin 3) (at_ : ScanAt) (s : State) : Out :=
  .next (s.scan e d i p n ecc at_.elem at_.stop (fun v w => decide (w < v)))

def execMini (e d i : Fin 16) (p : Fin 8) (n : Nat) (ecc : Fin 3) (at_ : ScanAt) (s : State) : Out :=
  .next (s.scan e d i p n ecc at_.elem at_.stop (fun v w => decide (v < w)))

end Sys2Proof.Machine
end

