-- ==== Sys2Proof/Machine/Alu.lean ====
section
/-!
DEFINITION. The engine's data instructions (R59): moves, 32-bit arithmetic and logic, shifts, products, quotients, sine and
reciprocal square root, the status register.
-/

namespace Sys2Proof.Machine

def execMov (e d a : Fin 16) (s : State) : Out := .next (s.onBank e pathBoth (fun b => b.setX d (b.xr a)))

def execMovi (e d : Fin 16) (imm : BitVec 16) (s : State) : Out :=
  .next (s.onBank e pathBoth (fun b => b.setX d (imm.signExtend 32)))

/-- Bits [31:16] take the immediate; bits [15:0] are kept (DEDUCED, assumption log 17). -/
def execMovhi (e d : Fin 16) (imm : BitVec 16) (s : State) : Out :=
  .next (s.onBank e pathBoth (fun b => b.setX d (imm ++ (b.xr d).extractLsb' 0 16)))

/-! ## Arithmetic and logic with flags -/

def Slot.addOp (b : Slot) (d : Nat) (x y : Word) : Slot :=
  (b.setX d (x + y)).resultFlags (x + y) (addCarry x y) (addOverflow x y)

/-- Flags of x − y; C is open (assumption log 17). -/
def Slot.subFlags (b : Slot) (x y : Word) : Slot := b.resultFlags (x - y) (Config.subCarry x y) (subOverflow x y)

/-- A logic operation, `op` 0 AND, 1 OR, 2 XOR: Z and N of the result, C and V open (assumption log 17). -/
def Slot.logicOp (b : Slot) (op d : Nat) (x y r : Word) : Slot :=
  (b.setX d r).resultFlags r (Config.logicFlags op x y).1 (Config.logicFlags op x y).2

def execAdd (e d a : Fin 16) (b : Src) (s : State) : Out :=
  .next (s.onBank e pathBoth (fun k => k.addOp d (k.xr a) (k.src b)))

def execSub (e d a : Fin 16) (b : Src) (s : State) : Out :=
  .next (s.onBank e pathBoth (fun k => (k.setX d (k.xr a - k.src b)).subFlags (k.xr a) (k.src b)))

def execAnd (e d a : Fin 16) (b : Src) (s : State) : Out :=
  .next (s.onBank e pathBoth (fun k => k.logicOp 0 d (k.xr a) (k.src b) (k.xr a &&& k.src b)))

def execOr (e d a : Fin 16) (b : Src) (s : State) : Out :=
  .next (s.onBank e pathBoth (fun k => k.logicOp 1 d (k.xr a) (k.src b) (k.xr a ||| k.src b)))

def execXor (e d a : Fin 16) (b : Src) (s : State) : Out :=
  .next (s.onBank e pathBoth (fun k => k.logicOp 2 d (k.xr a) (k.src b) (k.xr a ^^^ k.src b)))

/-- The flags of xa − xb; no register is written (DEDUCED, assumption log 17). -/
def execCmp (e a b : Fin 16) (s : State) : Out :=
  .next (s.onBank e pathBoth (fun k => k.subFlags (k.xr a) (k.xr b)))

/-! ## Saturating arithmetic -/

def sat32 (x : Int) : Word := BitVec.ofInt 32 (satS 32 x)

def execAdds (e d a b : Fin 16) (s : State) : Out :=
  .next (s.onBank e pathBoth (fun k => k.setX d (sat32 ((k.xr a).toInt + (k.xr b).toInt))))

def execSubs (e d a b : Fin 16) (s : State) : Out :=
  .next (s.onBank e pathBoth (fun k => k.setX d (sat32 ((k.xr a).toInt - (k.xr b).toInt))))

def execAbs (e d a : Fin 16) (s : State) : Out :=
  .next (s.onBank e pathBoth (fun k => k.setX d (sat32 ((k.xr a).toInt.natAbs : Int))))

def execNeg (e d a : Fin 16) (s : State) : Out :=
  .next (s.onBank e pathBoth (fun k => k.setX d (sat32 (-(k.xr a).toInt))))

/-! ## Shifts -/

/-- A shift by 0 to 31; the result of a register amount above 31 is open (assumption log 17). -/
def Slot.shiftOp (b : Slot) (op : Nat) (f : Word → Nat → Word) (x : Word) : Amount → Word
  | .imm n => f x n
  | .reg r => if decide ((b.xr r).toNat ≤ 31) then f x (b.xr r).toNat else Config.shiftResult op x (b.xr r)

def execShl (e d a : Fin 16) (n : Amount) (s : State) : Out :=
  .next (s.onBank e pathBoth (fun k => k.setX d (k.shiftOp 0 (fun x j => x <<< j) (k.xr a) n)))

def execShr (e d a : Fin 16) (n : Amount) (s : State) : Out :=
  .next (s.onBank e pathBoth (fun k => k.setX d (k.shiftOp 1 (fun x j => x >>> j) (k.xr a) n)))

def execSra (e d a : Fin 16) (n : Amount) (s : State) : Out :=
  .next (s.onBank e pathBoth (fun k => k.setX d (k.shiftOp 2 (fun x j => x.sshiftRight j) (k.xr a) n)))

/-! ## Minimum, maximum, product, quotient -/

def execMin (e d a b : Fin 16) (s : State) : Out :=
  .next (s.onBank e pathBoth (fun k => k.setX d (if (k.xr a).sle (k.xr b) then k.xr a else k.xr b)))

def execMax (e d a b : Fin 16) (s : State) : Out :=
  .next (s.onBank e pathBoth (fun k => k.setX d (if (k.xr a).sle (k.xr b) then k.xr b else k.xr a)))

def execMul (e d a b : Fin 16) (s : State) : Out :=
  .next (s.onBank e pathBoth (fun k => k.setX d (k.xr a * k.xr b)))

/-- n / d rounded to nearest, a half toward plus infinity (the rounding of R55). -/
def divRound (n d : Int) : Int := if d < 0 then (2 * -n + -d) / (2 * -d) else (2 * n + d) / (2 * d)

/-- sat16(round(x × 2^15 / y)), sign-extended; y = 0 gives full scale of x's sign. For x = 0 by y = 0 the sign is taken as positive
(DESIGN CHOICE, assumption log 39). -/
def divq (x y : Word) : Word :=
  if y = 0 then BitVec.ofInt 32 (if x.msb then -32768 else 32767)
  else BitVec.ofInt 32 (satS 16 (divRound (x.toInt * 32768) y.toInt))

def execDivq (e d a b : Fin 16) (s : State) : Out :=
  .next (s.onBank e pathBoth (fun k =>
    let y := k.xr b
    let k := k.setX d (divq (k.xr a) y)
    if y = 0 then k.setFlag bitV true else k))

/-! ## Sine, cosine, reciprocal square root -/

/-- π / 2 in units of 2^-40. -/
def halfPi40 : Nat := 1727108826179

/-- The Taylor terms of the sine of `x` (2^-40 rad) from degree `2 n + 1` on, with `t` the term of degree 2 n − 1. -/
def sinTerms (x : Int) : Nat → Nat → Int → Int
  | 0, _, _ => 0
  | fuel + 1, n, t =>
    let u := -(t * x / (2 ^ 40 : Int) * x / (2 ^ 40 : Int)) / ((2 * n * (2 * n + 1) : Nat) : Int)
    u + sinTerms x fuel (n + 1) u

/-- sin(r / 16,384 × π / 2) in units of 2^-40, r 0 to 16,384. -/
def sinQuarter (r : Nat) : Int :=
  let x : Int := (r * halfPi40 / 16384 : Nat)
  x + sinTerms x 12 1 x

/-- The sine of an angle of 65,536 to the turn, in units of 2^-40. -/
def sinTurn (n : Nat) : Int :=
  let n := n % 65536
  let r := n % 16384
  match n / 16384 with
  | 0 => sinQuarter r
  | 1 => sinQuarter (16384 - r)
  | 2 => -(sinQuarter r)
  | _ => -(sinQuarter (16384 - r))

/-- The Q15 results within 2 LSB of `v` (2^-40), in range; `pick` chooses among them. -/
def q15Near (v : Int) (pick : Nat) : BitVec 16 :=
  let q := v / (2 ^ 25 : Int)
  let l := [q - 2, q - 1, q, q + 1, q + 2, q + 3].filter (fun r =>
    decide (-32768 ≤ r ∧ r ≤ 32767) && decide (r * 2 ^ 25 - v ≤ 2 ^ 26 ∧ v - r * 2 ^ 25 ≤ 2 ^ 26))
  BitVec.ofInt 16 (l.getD (pick % l.length) 0)

/-- xd[15:0] the cosine, xd[31:16] the sine of the angle xs[15:0], each within 2 LSB (assumption log 17). -/
def sincos (x : Word) : Word :=
  let n := x.toNat % 65536
  let a := BitVec.ofNat 32 n
  q15Near (sinTurn n) (Config.sinPick a) ++ q15Near (sinTurn (n + 16384)) (Config.cosPick a)

def execSincos (e d a : Fin 16) (s : State) : Out :=
  .next (s.onBank e pathBoth (fun k => k.setX d (sincos (k.xr a))))

/-- 2^31 / √x for x > 0: the integers within a relative error of 2^-14; Config picks one (assumption log 17). -/
def rsq (x : Word) : Word :=
  let n := x.toNat
  let lo := topRoot (fun r => decide (r * r * n * 2 ^ 28 < 2 ^ 62 * (2 ^ 14 - 1) ^ 2)) 33 0 + 1
  let hi := topRoot (fun r => decide (r * r * n * 2 ^ 28 ≤ 2 ^ 62 * (2 ^ 14 + 1) ^ 2)) 33 0
  BitVec.ofNat 32 (lo + Config.rsqPick x % (hi + 1 - lo))

def execRsq (e d a : Fin 16) (s : State) : Out :=
  .next (s.onBank e pathBoth (fun k =>
    let x := k.xr a
    if decide (x.toInt ≤ 0) then (k.setX d 0x7FFFFFFF).setFlag bitV true else k.setX d (rsq x)))

/-! ## The status register, and nothing -/

def execRdsr (e d : Fin 16) (s : State) : Out :=
  .next (s.issue e pathBoth (fun k t => t.setBank e k ((t.bank e k).setX d (BitVec.ofNat 32 (t.srWord e k)))))

/-- Flags and SATM are written, the read-only fields kept. -/
def execWrsr (e a : Fin 16) (s : State) : Out :=
  .next (s.onBank e pathBoth (fun k => { k with sr := (k.xr a).toNat % 32 }))

def execNop (e : Fin 16) (s : State) : Out := .next (s.onBank e pathBoth (fun k => k))

end Sys2Proof.Machine
end

