-- ==== Sys2Proof/Machine/Background.lean ====
section
/-!
DEFINITION. Scrubbing, telemetry and the stable reads of the invariants (spec/17).
-/

namespace Sys2Proof.Machine

/-! ## Scrubbing (R408 to R412) -/

/-- The scrubber reads region `r`: it is enabled, the memory's island runs, and the device has been in Configure since Reset,
which FEAT_STAT.PUB shows (R274, R408). -/
def State.scrubs (s : State) (r : Nat) : Bool :=
  s.supServes && s.flag HW.pub && s.flag F.MODE_SCRCFG_EN && (s.fld F.MODE_SCRCFG_REG).testBit r &&
    (if r == 1 then !s.flag F.MODE_CUR_MIN else if decide (3 ≤ r) then s.computeRuns else true)

/-- Words of 64 bits of a region (of one engine). -/
def scrubWords (r : Nat) : Nat := [524288, 262144, 65536, 12288, 8192].getD r 0

/-- The units of a region whose passes run together: its engines, or the one memory. -/
def scrubUnits (r : Nat) : List Nat := if 3 ≤ r then List.range 16 else [0]

/-- Words that the present pass has read of unit `e` of region `r`. -/
def State.scrubbed (s : State) (r e : Nat) : Nat := SMap.get (fun _ => 0) s.mode.scrub (16 * r + e)

def State.setScrubbed (s : State) (r e v : Nat) : State :=
  s.withMode { s.mode with scrub := SMap.set (fun _ => 0) s.mode.scrub (16 * r + e) v }

/-- A word of unit `e` is done; with the last word of every unit the pass is complete and the next begins (R408). -/
def State.scrubNext (s : State) (r e : Nat) : State :=
  let s := s.setScrubbed r e (s.scrubbed r e + 1)
  if (scrubUnits r).all (fun u => decide (scrubWords r ≤ s.scrubbed r u)) then
    (s.each (scrubUnits r) (fun u t => t.setScrubbed r u 0)).incMod (F.MODE_SCRSTAT_PASSCNT r)
  else s

/-- Where word `i` of unit `e` of a region lies. -/
def scrubAddr (r e i : Nat) : Nat :=
  8 * i + (if r = 0 then 0x10000000 else if r = 1 then 0x20000000 else if r = 2 then 0x04000000
    else codeAddr e (if r = 3 then 0 else 0x20000))

/-- What a word's check finds (R410): 1 a single-bit error, 2 a double-bit error, at byte `ofs`. -/
def State.scrubFinds (s : State) (r e ofs err : Nat) : State :=
  if err == 1 then
    let s := s.inc (F.MODE_SCRCNT_SBCNT r)
    if decide (3 ≤ r) then (s.put (F.CE_STAT_ECC1 e) 1).assertEv (evAxis e 5) else s.assertEv 146
  else if err == 2 then
    let s := s.inc (F.MODE_SCRCNT_DBCNT r)
    let s := ((s.put F.MODE_SCRERR_V 1).put F.MODE_SCRERR_REGION r).put F.MODE_SCRERR_OFS ofs
    let s := s.put F.MODE_SCRERR_ENG (if decide (3 ≤ r) then e else 0)
    if r == 2 then s.assertEv 148
    else if decide (r < 2) then s.assertEv 147
    else if r == 3 then (s.put (F.CE_STAT_PMDBL e) 1).assertEv (if s.curMode == modeRun then evAxis e 7 else evAxis e 6)
    else (s.put (F.CE_STAT_DMDBL e) 1).assertEv (evAxis e 6)
  else s

/-- A slot of the scrubber on engine `e` of region `r`, or on the one memory of a region of one (R406, R408, R410 to R412): the next word of
the pass is read. `busy`: a foreground user has the memory, and the scrubber waits; `err` 0 none, 1 a single-bit error (written back),
2 a double-bit error (left, recorded, and found again until the word is written); `raced`: the word was written since, the write-back is dropped and the word read again; `lag`:
the pass has taken more than twice PASS. -/
def execScrubRead (region : Fin 5) (e : Fin 16) (err : Fin 3) (raced lag busy : Bool) (s : State) : Out :=
  .next (
    let r := region.val
    let u := if decide (3 ≤ r) then e.val else 0
    let at_ := s.scrubbed r u
    if !s.scrubs region then s
    else
      let s := if lag && decide (3 ≤ r) then s.put (F.MODE_SCRSTAT_LAG r) 1 else s
      if busy || decide (scrubWords r ≤ at_) then s
      else
        let a := scrubAddr r u at_
        let err := if s.badAt a then 2 else err.val
        let s := s.sharedAccess (fun t => if err == 2 then t.markBad a else t)
        let s := s.scrubFinds r u (8 * at_) err
        if raced && err == 1 then s else s.scrubNext r u)

/-! ## Telemetry (R415 to R418) -/

def invLinks (s : State) : Bool := (List.range 16).any (fun k => s.flag (F.GL_SEQOPEN_INVERR k))
def invCans (s : State) : Bool := (List.range 8).any (fun n => s.flag (F.CAN_INV_INVERR n))
def invCaps (s : State) : Bool := [0, 1, 2, 3].any (fun n => s.flag (F.BSN_SQUE_INVERR n))

/-- Invariant failure flags: gate link, credit, Reservoir, CAN, Basin. -/
def State.invFlags (s : State) : Nat :=
  (invLinks s).toNat + s.fld F.MBX_INV_CRERR * 2 + s.fld F.MBX_INV_RSVERR * 4 + (invCans s).toNat * 8 + (invCaps s).toNat * 16

def sumOf (l : List Nat) : Nat := l.foldl (· + ·) 0

/-- RESULT bytes 0x1C to 0x3F of a telemetry descriptor of a kind 0 to 3 and instance (R416). The reference is that of the axis's loop, in
2^-16 of rated; the measured current and the speed are values of its engine program and free here (assumption log 37). -/
def State.telFields (s : State) (kind i : Nat) : List Byte × State :=
  match kind with
  | 0 =>
    let stk := maskOf ((List.range 6).filter (fun j => s.rd (R.WEIR_STK j) != 0))
    let bits : (Nat → Fld) → Nat := fun f => maskOf ((List.range 17).filter (fun d => s.flag (f d)))
    (s.reg4 R.MODE_CUR ++ leBytes 4 (stk + s.invFlags * 256 + s.fld F.MBX_RSVFREE_FREE * 65536) ++
      leBytes 4 (bits F.WEIR_DOMST_ACT) ++ leBytes 4 (bits F.WEIR_DOMST_DONE) ++
      leBytes 2 (s.fld F.FSM_STAT_VFLD) ++ leBytes 1 (s.fld F.MBX_CREDPOOL_POOL) ++ leBytes 1 s.weir.nq.length ++
      leBytes 4 (uns 32 (satS 32 (asr s.net.offset 16))) ++ s.reg4 R.TU_STAT ++ s.reg4 R.MODE_CAUSE ++ leBytes 4 0, s)
  | 1 =>
    let (v, s) := s.draw
    let (cur, s) := s.draw
    let (spd, s) := s.draw
    let x := s.axis i
    let ref := if x.rated = 0 then v else uns 32 (satS 32 (openRound (x.loop.ref * 65536) x.rated))
    let p := s.axPosition i
    let life := ((s.groupLegs i).flatMap (fun l => [2 * l, 2 * l + 1])).foldl
      (fun m k => Nat.max m (s.fld (F.WU_LIFE_LIFE k))) 0
    (leBytes 1 (s.axState i) ++ leBytes 1 (s.gstate i) ++ leBytes 1 (s.axis i).sp.mode ++
      leBytes 1 (p.2 + (s.posUncertain i).toNat * 2 + s.fld (F.PU_AXSTAT_DECELRAISED i) * 4) ++
      leBytes 2 (s.fld (F.SPW_SPD_FREQ i)) ++ leBytes 1 (s.fld (F.WU_AXST_HOT i)) ++ leBytes 1 0 ++
      s.reg4 (R.WU_AXDR i) ++ leBytes 2 (s.fld (F.WU_AXST_TJMAX i)) ++ leBytes 2 0 ++ leBytes 4 life ++
      leBytes 4 p.1.toNat ++ leBytes 4 ref ++ leBytes 4 cur ++ leBytes 4 spd, s)
  | 2 =>
    let r5 := List.range 5
    (r5.flatMap (fun r => leBytes 2 (s.fld (F.MODE_SCRSTAT_PASSCNT r))) ++
      leBytes 1 (maskOf (r5.filter (fun r => s.flag (F.MODE_SCRSTAT_LAG r)))) ++ leBytes 1 0 ++
      leBytes 4 (sumOf (r5.map (fun r => s.fld (F.MODE_SCRCNT_SBCNT r)))) ++
      leBytes 4 (sumOf (r5.map (fun r => s.fld (F.MODE_SCRCNT_DBCNT r)))) ++
      s.reg4 R.MODE_BGSTAT ++ leBytes 1 (s.fld (HW.tdrop 15)) ++ leBytes 1 s.tel.drops, s)
  | _ => (s.reg4 (R.CE_STAT i) ++ (List.range 8).flatMap (fun k => s.reg4 (R.CE_TASKCNT i k)), s)

/-- The 48 RESULT bytes of a descriptor captured at network time `ns`. -/
def State.telResult (s : State) (kind i ns : Nat) : List Byte × State :=
  let seq := SMap.get (fun _ => 0) s.tel.tseq (16 * kind + i)
  let (f, s) := s.telFields kind i
  (leBytes 8 ns ++ leBytes 2 seq ++ leBytes 1 i ++ [0] ++ bytesAt f 0 36, s)

/-- Count a descriptor of a kind and instance. -/
def State.telCount (s : State) (kind i : Nat) : State :=
  let key := 16 * kind + i
  let seq := SMap.get (fun _ => 0) s.tel.tseq key
  s.withTel { s.tel with tseq := SMap.set (fun _ => 0) s.tel.tseq key ((seq + 1) % 65536) }

/-- A descriptor in a response slot of MB_15 that no consumed command holds, or dropped (R283). -/
def State.telPost (s : State) (kind : Nat) (result : List Byte) : State :=
  if s.rspRoom 15 then
    let i := s.fld (HW.rsppi 15)
    (s.wrBytes (rspSlot 15 i) (descriptor (0xA8 + kind) 0 0 48 0 i true [] result)).incMod (HW.rsppi 15)
  else (s.inc (HW.tdrop 15)).irq 6

/-- Instances of a kind. -/
def State.telInstances (s : State) (kind : Nat) : List Nat :=
  if kind == 1 || kind == 3 then bitsOf 16 (s.tel.kinds.getD kind (0, 0, 0)).2.2 else [0]

/-- The descriptors of the datagrams, 22 at most in each (R417): the switch forwards each to the port of its address, behind the frames of
higher queues (R406); one whose buffers cannot be had is dropped and counted. -/
def State.telSend : Nat → List (List Byte) → State → State
  | 0, _, s => s
  | k + 1, l, s =>
    if l.isEmpty then s
    else
      let part := l.take 22
      let bytes := leBytes 2 0x7E18 ++ [1, BitVec.ofNat 8 part.length] ++ leBytes 4 (s.tel.dseq + 1) ++ leBytes 8 0 ++ part.flatten
      let (ok, t) := s.sendUdp bytes s.tel.ip s.tel.port
      let s := if ok then t.withTel { t.tel with dseq := t.tel.dseq + 1 } else s.withTel { s.tel with drops := (s.tel.drops + 1) % 256 }
      State.telSend k (l.drop 22) s

/-- The kinds due at the 10 ms instant `i`: those whose period divides it (DESIGN CHOICE, assumption log 37). -/
def State.telKinds (s : State) (i : Nat) : List Nat :=
  [0, 1, 2, 3].filter (fun k =>
    let p := (s.tel.kinds.getD k (0, 0, 0)).1
    p != 0 && i % p == 0)

/-- The next 10 ms instant (R415): the kinds that are due are sent in the order of their opcodes, instances rising, each gathered under a
shared tag (R426); `late` lists those
whose previous descriptor has not been written (R418). -/
def execTelemetryDue (_ : Unit) (late : List (Fin 4 × Fin 16)) (adv : Nat) (s : State) : Out :=
  .next (if !s.supRuns || !s.feature 10 then s
    else
      let s := (s.runOn adv).withTel { s.tel with instant := s.tel.instant + 1 }
      let ks := s.telKinds s.tel.instant
      let step : List (List Byte) × State → Nat × Nat → List (List Byte) × State := fun acc ki =>
        let (out, s) := acc
        let (k, i) := ki
        if late.any (fun x => x.1.val == k && x.2.val == i) then (out, (s.inc F.MODE_BGSTAT_TELLATE).telCount k i)
        else
          let (res, s) := (s.sharedAccess (fun t => t)).telResult k i (s.nsAt 0)
          let s := s.telCount k i
          let dest := (s.tel.kinds.getD k (0, 0, 0)).2.1
          let (out, s) := if dest.testBit 1 then
              (out ++ [descriptor (0xA8 + k) 0 0 48 0 0 true [] res], s) else (out, s)
          (out, if dest.testBit 0 then s.telPost k res else s)
      let (out, s) := (ks.flatMap (fun k => (s.telInstances k).map (fun i => (k, i)))).foldl step ([], s)
      State.telSend 3 out s)

/-! ## Commands 0xA0 to 0xA4 (R428) -/

def telModes : List Nat := [2, 4, 5, 6, 7, 8, 9, 10]

def execTelCfg (c : HostCmd) (s : State) : Out :=
  .next (s.hostCmd 0xA0 c (fun s =>
    let kinds := (List.range 4).map (fun k => (arg c (7 * k) 4, arg c (7 * k + 4) 1, arg c (7 * k + 5) 2))
    let ip := arg c 28 4
    let port := arg c 32 4
    if !s.inModes netConfigModes then refuseMode s
    else if kinds.any (fun x => decide (100 < x.1) || decide (3 < x.2.1)) || decide (65535 < port) then refuse stRange s
    else if port == sessionPort || (s.vmOf port).isSome then refuse stBusy s
    else okReply (s.withTel { s.tel with kinds := kinds, ip := ip, port := port })))

/-- TEL_READ: kind 0xA8 to 0xAB. -/
def execTelRead (c : HostCmd) (adv : Nat) (s : State) : Out :=
  .next (s.hostCmd 0xA1 c (fun s =>
    let k := arg c 0 1
    let i := arg c 1 1
    if !s.inModes telModes then refuseMode s
    else if decide (k < 0xA8) || decide (0xAB < k) || decide ((if k == 0xA9 || k == 0xAB then 15 else 0) < i) then refuse stRange s
    else
      let s := s.runOn adv
      let (r, s) := s.telResult (k - 0xA8) i (s.nsAt 0)
      okResult r s))

/-- The failure flag and the counters of an invariant and instance (R419). Of the 512 words of MBX.RSVOWN the read holds as many as the four
result buffers of a response take (DESIGN CHOICE, assumption log 37). -/
def State.invRead (s : State) (q i : Nat) : Bool × List Byte :=
  match q with
  | 0 => (s.flag (F.GL_SEQOPEN_INVERR i),
      s.reg4 (R.GL_SEQSENT i) ++ s.reg4 (R.GL_SEQACK i) ++ s.reg4 (R.GL_SEQLOST i) ++ s.reg4 (R.GL_SEQOPEN i))
  | 1 => (s.flag F.MBX_INV_CRERR, (List.range 16).flatMap (fun k => s.reg4 (R.MBX_CRED k)) ++ s.reg4 R.MBX_CREDPOOL ++
      (List.range 16).flatMap (fun k => leBytes 4 (s.credWord k)))
  | 2 => (s.flag F.MBX_INV_RSVERR, (List.range 5).flatMap (fun k => s.reg4 (R.MBX_RSVCNT k)) ++ s.reg4 R.MBX_RSVFREE ++
      (List.range 249).flatMap (fun w => s.reg4 (R.MBX_RSVOWN w)))
  | 3 => (s.flag (F.CAN_INV_INVERR i),
      s.canCounters i ++ s.reg4 (R.CAN_QSTAT i 0) ++ s.reg4 (R.CAN_QSTAT i 1) ++ s.reg4 (R.CAN_TXPEND i))
  | _ => (s.flag (F.BSN_SQUE_INVERR i), (List.range 6).flatMap (fun j => s.reg4 (R.BSN_SREC i + 4 * j)))

/-- TEL_INV: byte 0 holds the failure flag in bit 0 and bit 7 set for an unstable read (R421); then the counters. -/
def execTelInv (c : HostCmd) (unstable : Bool) (s : State) : Out :=
  .next (s.hostCmd 0xA2 c (fun s =>
    let q := arg c 0 1
    let i := arg c 1 1
    if !s.inModes telModes then refuseMode s
    else if decide (4 < q) || decide ([16, 1, 1, 8, 4].getD q 0 ≤ i) then refuse stRange s
    else
      let (bad, bytes) := s.invRead q i
      replyWith c.ch (leBytes 1 (bad.toNat + unstable.toNat * 128) ++ bytes) s))

def execScrubStatus (c : HostCmd) (s : State) : Out :=
  .next (s.hostCmd 0xA3 c (fun s =>
    if !s.inModes telModes then refuseMode s
    else
      let r5 := List.range 5
      let (r, t) := replyWith c.ch (s.reg4 R.MODE_SCRCFG ++ r5.flatMap (fun r => s.reg4 (R.MODE_SCRSTAT r)) ++
        r5.flatMap (fun r => s.reg4 (R.MODE_SCRCNT r)) ++ s.reg4 R.MODE_SCRERR ++ s.reg4 R.MODE_BGSTAT) s
      if r.status != stOk then (r, t) else (r, t.put F.MODE_SCRERR_V 0)))

def execScrubCfg (c : HostCmd) (s : State) : Out :=
  .next (s.hostCmd 0xA4 c (fun s =>
    let v := arg c 0 4
    if !s.inModes netConfigModes then refuseMode s
    else if decide (v % 65536 < 50) || decide (6000 < v % 65536) then refuse stRange s
    else okReply (s.wr R.MODE_SCRCFG (BitVec.ofNat 32 (fieldPut v 21 10 0)))))

end Sys2Proof.Machine
end

