-- ==== Sys2Proof/Machine/Branch.lean ====
section
/-!
DEFINITION. Control flow of the engines (R59 to R62): branches, calls, hardware loops, the end of an activation.
-/

namespace Sys2Proof.Machine

def execBr (e : Fin 16) (t : BitVec 17) (s : State) : Out := .next (s.onBank e pathBoth (fun b => { b with pc := t.toNat }))

def execBcc (e : Fin 16) (c : Cond) (t : BitVec 17) (s : State) : Out :=
  .next (s.onBank e pathBoth (fun b => if b.holds c then { b with pc := t.toNat } else b))

/-- CALL pushes the address of the next instruction; a full stack is misuse (R62). -/
def execCall (e : Fin 16) (t : BitVec 17) (s : State) : Out :=
  .next (s.issue e pathBoth (fun k u =>
    let b := u.bank e k
    if decide (b.ret.length < 8) then u.setBank e k { b with ret := b.pc :: b.ret, pc := t.toNat } else u.stackError e k))

def execRet (e : Fin 16) (s : State) : Out :=
  .next (s.issue e pathBoth (fun k u =>
    let b := u.bank e k
    match b.ret with
    | [] => u.stackError e k
    | a :: l => u.setBank e k { b with ret := l, pc := a }))

/-- Open a loop of `n` passes that ends with the instruction at `last`: the outer level counts in lc0, the inner in lc1. -/
def Slot.openLoop (b : Slot) (n last : Nat) : Slot :=
  let b := if b.loops.isEmpty then { b with lc0 := n } else { b with lc1 := n }
  { b with loops := (b.pc, last) :: b.loops }

/-- LOOP: a third level is misuse (R62), an immediate of 0 is no defined encoding (R60); the passes of a register value outside 1
to 65,535 are open (assumption log 17). -/
def execLoop (e : Fin 16) (n : Passes) (last : BitVec 17) (s : State) : Out :=
  .next (s.issue e pathBoth (fun k u =>
    let b := u.bank e k
    if n == .imm 0 then u.illegal e k
    else if decide (2 ≤ b.loops.length) then u.stackError e k
    else
      let c := match n with | .imm i => i.toNat | .reg r => (b.xr r).toNat
      if decide (1 ≤ c ∧ c ≤ 65535) then u.setBank e k (b.openLoop c last.toNat)
      else let (v, u) := u.draw; u.setBank e k (b.openLoop (1 + v % 65535) last.toNat)))

def execEnd (e : Fin 16) (s : State) : Out := .next (s.issue e pathBoth (fun k u => u.endActivation e k))

/-- An encoding that R59 does not define (R60). -/
def execIllegalInstruction (e : Fin 16) (s : State) : Out := .next (s.issue e pathBoth (fun k u => u.illegal e k))

end Sys2Proof.Machine
end

