-- ==== Sys2Proof/Machine/Code.lean ====
section
/-!
DEFINITION. Engine code: the checks and the installation of an image, and the commands 0x80 to 0x88 (R52, R69, R74 to R79). How
the bytes of an image spell its sections and descriptors is open (assumption log 18).
-/

namespace Sys2Proof.Machine

/-! ## Format and reserved ranges (R52, R77) -/

/-- A section inside its memory and outside the reserved range. -/
def sectionOk (x : Bool × Nat × List Byte) : Bool :=
  decide (x.2.1 + x.2.2.length ≤ (if x.1 then 0xFC00 else 0x17800))

def descOk (d : TaskDesc) : Bool :=
  decide (d.slot < 8) && (d.dpath == 1 || d.dpath == 2) && decide (d.entry < 0x17800) && d.entry % 4 == 0 &&
    decide (d.src < 8 ∧ d.sel < 2 ^ 14 ∧ d.div < 16 ∧ d.phase ≤ d.div ∧ d.scale < 16 ∧ d.budget < 2 ^ 20) &&
    (match d.axis with | some n => decide (n < 16) | none => true) &&
    decide (d.windows.length ≤ 8) && d.windows.all (fun w => w.1 % 4 == 0 && w.2.1 % 4 == 3 && decide (w.1 ≤ w.2.1 ∧ w.2.1 < 2 ^ 32)) &&
    d.inputs.all (fun i => decide (i.1 < 64 ∧ i.2.1 < 16 ∧ i.2.2 < 64))

def partOk (p : EngPart) : Bool :=
  p.sections.all sectionOk && p.tasks.all descOk && noRepeat (p.tasks.map (fun d => d.slot)) &&
    p.exports.all (fun x => decide (x.1 ≤ x.2.1 ∧ x.2.1 < 0x10000))

/-- One part for every engine of the mask, each well formed. -/
def partsOk (mask : Nat) (l : List EngPart) : Bool :=
  l.all partOk && noRepeat (l.map (fun p => p.engine)) && bitsOf 16 mask == (bitsOf 16 (maskOf (l.map (fun p => p.engine)))) &&
    l.all (fun p => decide (p.engine < 16))

/-! ## Installation -/

/-- A register bank after a load of its slot: R53 says that a load changes it and not to what. Every register, the bases and lengths
of the pointers and the loop counters are free (assumption log 5, 39). -/
def State.freshBank (s : State) : Slot × State :=
  let v : Nat → Nat := fun i => Config.freeNat (s.free + i)
  ({ Slot.reset with
      x := (List.range 16).foldl (fun m r => SMap.set (fun _ => 0) m r (BitVec.ofNat 32 (v r))) []
      a := (List.range 4).foldl (fun m r => SMap.set (fun _ => 0) m r (BitVec.ofNat 40 (v (16 + r)))) []
      e := (List.range 2).foldl (fun m r => SMap.set (fun _ => 0) m r (BitVec.ofNat 56 (v (20 + r)))) []
      p := (List.range 8).foldl (fun m r => SMap.set (fun _ => 0) m r (BitVec.ofNat 32 (v (22 + r)))) []
      pbase := (List.range 8).foldl (fun m r => SMap.set (fun _ => 0) m r (BitVec.ofNat 32 (v (31 + r)))) []
      plen := (List.range 8).foldl (fun m r => SMap.set (fun _ => 0) m r (BitVec.ofNat 32 (v (39 + r) % 32768 * 2))) []
      lc0 := v 47 % 65536
      lc1 := v 48 % 65536
      sr := v 30 % 32 }, s.withFree (s.free + 49))

/-- The registers of a task slot, from its descriptor; the slot is not enabled. -/
def State.installTask (s : State) (e : Nat) (d : TaskDesc) : State :=
  let k := d.slot
  let s := s.wr (R.CE_TASKCFG e k) (BitVec.ofNat 32
    (d.dpath * 2 ^ 29 + d.src * 2 ^ 26 + d.div * 2 ^ 22 + d.phase * 2 ^ 18 + d.scale * 2 ^ 14 + d.sel))
  let s := s.wr (R.CE_TASKENT e k) (BitVec.ofNat 32
    ((match d.axis with | some n => 2 ^ 31 + n * 2 ^ 27 | none => 0) + d.entry))
  let s := s.wr (R.CE_TASKBUD e k) (BitVec.ofNat 32 d.budget)
  let s := s.each (List.range 8) (fun w t =>
    match d.windows.getD w (0, 3, false, false) with
    | (lo, hi, r, wr) =>
      (t.wr (R.CE_GRBASE e k w) (BitVec.ofNat 32 (lo / 4 * 4))).wr (R.CE_GRLIM e k w)
        (BitVec.ofNat 32 (hi / 4 * 4 + wr.toNat * 2 + r.toNat)))
  let s := s.each d.inputs (fun i t => t.wr (R.CE_INBIND e i.1) (BitVec.ofNat 32 (2 ^ 31 + i.2.1 * 2 ^ 27 + i.2.2 * 2 ^ 21)))
  let (b, s) := s.freshBank
  s.setBank e k b

/-- An engine without tasks: its slots, windows, bindings, activations. -/
def State.clearEngine (s : State) (e : Nat) : State :=
  let s := s.each (List.range 8) (fun k t =>
    let t := ((t.wr (R.CE_TASKCFG e k) 0).wr (R.CE_TASKENT e k) 0).wr (R.CE_TASKBUD e k) 0
    t.each (List.range 8) (fun w u => (u.wr (R.CE_GRBASE e k w) 0).wr (R.CE_GRLIM e k w) 0))
  let s := s.each (List.range 64) (fun i t => t.wr (R.CE_INBIND e i) 0)
  (s.endAll e).setEngImg e EngImg.reset

/-- Install a part: a load ends ENGHALT (R76). What was checked is kept for the check of R30. -/
def State.installPart (s : State) (p : EngPart) (ident arb version : Nat) (stored : Option Nat) (image : List Byte) : State :=
  let e := p.engine
  let s := s.clearEngine e
  let s := s.each p.sections (fun x t => t.wrBytes ((if x.1 then dataBase e else progBase e) + x.2.1) x.2.2)
  let s := s.each p.tasks (fun d t => t.installTask e d)
  (s.put (F.CE_STAT_ENGHALT e) 0).setEngImg e ⟨true, ident, arb, version, p.exports, stored, image, some p⟩

/-- Checks 2 to 4 of R77 on the parts of an image, and their installation: the engines are as before unless all pass. -/
def State.loadParts (s : State) (mask : Nat) (parts : Option (List EngPart)) (ident arb version : Nat) (stored : Option Nat)
    (image : List Byte) : Reply × State :=
  match parts with
  | none => refuse stMalformed s
  | some l =>
    if !partsOk mask l then refuse stMalformed s
    else
      let t := s.each l (fun p t => t.installPart p ident arb version stored image)
      match t.partsFail l with
      | some k => ({ status := stRange, result := [BitVec.ofNat 8 k] }, s)
      | none => okReply t

/-! ## Commands 0x80 to 0x88 (R79) -/

/-- The engines of a mask. -/
def engineList (mask : Nat) : List Nat := bitsOf 16 mask

/-- A load that is still open is answered ST_BUSY and is then closed. -/
def execEngLoadBegin (c : HostCmd) (s : State) : Out :=
  .next (s.hostCmd 0x80 c (fun s =>
    let mask := arg c 0 2
    let len := arg c 2 4
    if !s.inModes [modeConfigure] then refuseMode s
    else if s.engLoad.isOpen then refuse stBusy s.closeLoad
    else if decide (160 * 1024 * (engineList mask).length < len) then refuse stRange s
    else
      let held := maskOf ((engineList mask).filter (fun e => s.flag (F.CE_CTRL_HALT e)))
      let s := s.each (engineList mask) (fun e t => t.put (F.CE_CTRL_HALT e) 1)
      okReply (s.withEngLoad ⟨true, mask, len, arg c 6 4, [], held⟩)))

def execEngLoadData (c : HostCmd) (s : State) : Out :=
  .next (s.hostCmd 0x81 c (fun s =>
    let n := arg c 4 2
    let bs := s.attached c
    let l := s.engLoad
    if !s.inModes [modeConfigure] || !l.isOpen then refuseMode s
    else if arg c 0 4 != l.bytes.length || decide (bs.length < n) || decide (l.length < l.bytes.length + n) then refuse stMalformed s
    else okReply (s.withEngLoad { l with bytes := l.bytes ++ bs.take n })))

/-- The checks run in the order of R77: the signature over what has arrived, then the format, of which the announced length is
part. -/
def execEngLoadEnd (c : HostCmd) (s : State) : Out :=
  .next (s.hostCmd 0x82 c (fun s =>
    let l := s.engLoad
    if !s.inModes [modeConfigure] || !l.isOpen then refuseMode s
    else
      let s := s.closeLoad
      if !s.imageSigned l.bytes then refuse stAuth s
      else if l.bytes.length != l.length then refuse stMalformed s
      else s.loadParts l.mask (Config.engParts (l.bytes.take (l.bytes.length - 64))) l.ident 16 0 none l.bytes))

/-- ENG_LOAD_STORED: the image in engine slot `n` of the flash, checked by R436, with its mark (R438), before the checks of R77. -/
def execEngLoadStored (c : HostCmd) (s : State) : Out :=
  .next (s.hostCmd 0x83 c (fun s =>
    let n := arg c 2 1
    let h := s.flashBytes (slotBase (2 + n)) imgHeader
    if !s.inModes [modeConfigure] then refuseMode s
    else if decide (15 < n) || numAt h 0 4 == 0xFFFFFFFF then refuse stRange s
    else
      let (r, s) := s.slotCheck (2 + n) 2
      if r != 0 then ({ status := reasonStatus r, detail := r }, s)
      else
        let (ident, s) := s.draw
        s.loadParts (arg c 0 2) (Config.engParts (s.clearPayload (2 + n))) (ident % 2 ^ 32) (numAt h 5 1) (numAt h 7 1)
          (some n) []))

/-- A bound axis of an engine is not Disabled. -/
def State.engineInUse (s : State) (e : Nat) : Bool :=
  (List.range 8).any (fun k => s.fld (F.CE_TASKCFG_DPATH e k) != 0 && s.flag (F.CE_TASKENT_AXB e k) &&
    s.axState (s.fld (F.CE_TASKENT_AXIS e k)) != axDisabled)

def execEngUnload (c : HostCmd) (s : State) : Out :=
  .next (s.hostCmd 0x84 c (fun s =>
    let l := engineList (arg c 0 2)
    if !s.inModes [modeConfigure] then refuseMode s
    else if l.any s.engineInUse then refuse stState s
    else okReply (s.each l (fun e t => t.clearEngine e))))

/-- ENG_TASK_ENABLE sets TASKCFG.EN of the slots named; enabling a task lets its engine schedule (DEDUCED, assumption log 18). -/
def execEngTaskEnable (c : HostCmd) (s : State) : Out :=
  .next (s.hostCmd 0x85 c (fun s =>
    let e := arg c 0 1
    let ks := bitsOf 8 (arg c 1 1)
    let en := (arg c 2 1).testBit 0
    let energised := ks.any (fun k => s.flag (F.CE_TASKENT_AXB e k) && s.axState (s.fld (F.CE_TASKENT_AXIS e k)) == axEnergised)
    if !(s.inModes [2, 4, 9] || (s.inModes [5, 6] && (decide (15 < e) || !energised))) then refuseMode s
    else if decide (15 < e) || ks.any (fun k => s.fld (F.CE_TASKCFG_DPATH e k) == 0) then refuse stRange s
    else
      let s := s.each ks (fun k t => t.putB (F.CE_TASKCFG_EN e k) en)
      okReply (if en && !ks.isEmpty then s.put (F.CE_CTRL_EN e) 1 else s)))

def execEngStatus (c : HostCmd) (s : State) : Out :=
  .next (s.hostCmd 0x86 c (fun s =>
    let e := arg c 0 1
    if !s.inModes liveModes then refuseMode s
    else if decide (15 < e) then refuse stRange s
    else okResult (s.reg4 (R.CE_STAT e) ++ (List.range 8).flatMap (fun k => s.reg4 (R.CE_TASKCNT e k)) ++
      s.reg4 (R.CE_INOVW0 e) ++ s.reg4 (R.CE_INOVW1 e)) s))

def execEngGrantRead (c : HostCmd) (s : State) : Out :=
  .next (s.hostCmd 0x87 c (fun s =>
    let e := arg c 0 1
    let k := arg c 1 1
    if !s.inModes liveModes then refuseMode s
    else if decide (15 < e) || decide (7 < k) || s.fld (F.CE_TASKCFG_DPATH e k) == 0 then refuse stRange s
    else replyWith c.ch ((List.range 8).flatMap (fun w => s.reg4 (R.CE_GRBASE e k w) ++ s.reg4 (R.CE_GRLIM e k w))) s))

/-- The w1c fields of CE.STAT stand at [16:9]. -/
def execEngClearFlags (c : HostCmd) (s : State) : Out :=
  .next (s.hostCmd 0x88 c (fun s =>
    if !s.inModes liveModes then refuseMode s
    else okReply (s.each (engineList (arg c 0 2)) (fun e t =>
      let t := t.put ⟨R.CE_STAT e, 9, 8⟩ 0
      let t := (t.wr (R.CE_INOVW0 e) 0).wr (R.CE_INOVW1 e) 0
      t.each (List.range 8) (fun k u => u.wr (R.CE_TASKCNT e k) 0)))))

end Sys2Proof.Machine
end

