-- ==== Sys2Proof/Machine/Loop.lean ====
section
/-!
DEFINITION. What an activation of a loop-library task does (spec/08, spec/10), taken as one with the activation's start: the setpoint,
parameters and limits in force, the reference, the library's sources, the step generator, the speed word; and the dispatch of
tasks. The instructions of the task's own program run after it (assumption log 28).
-/

namespace Sys2Proof.Machine

/-! ## Tasks of the library -/

/-- The task in slot `k` of CE_e is a loop task of the library, bound to a configured axis of this engine (R189). -/
def State.libraryTask (s : State) (e k : Nat) : Bool :=
  let x := s.axis (s.fld (F.CE_TASKENT_AXIS e k))
  s.flag (F.CE_TASKENT_AXB e k) && x.configured && x.engine == e && Config.libraryImage (s.engImg e).ident k

/-- The task is a speed task: an interval timer starts it (R195). -/
def State.speedTask (s : State) (e k : Nat) : Bool := s.fld (F.CE_TASKCFG_SRC e k) == 3

/-- Axis `n` has an enabled speed task. Where it has none its one loop task is its speed loop too (DEDUCED, assumption log 28). -/
def State.hasSpeedTask (s : State) (n : Nat) : Bool :=
  let e := (s.axis n).engine
  (List.range 8).any (fun k => s.flag (F.CE_TASKCFG_EN e k) && s.flag (F.CE_TASKENT_AXB e k) &&
    s.fld (F.CE_TASKENT_AXIS e k) == n && s.speedTask e k)

def State.modLoop (s : State) (n : Nat) (f : Loop → Loop) : State := s.modAxis n (fun x => { x with loop := f x.loop })

/-- A library parameter in force. -/
def State.loopParam (s : State) (n id : Nat) : List Byte :=
  match (s.axis n).loop.params.find? (fun y => y.1 == id) with
  | some y => y.2
  | none => paramDefault (s.axis n).type id

/-! ## Setpoint, limits, reference (R191 to R195, R200) -/

/-- The newest setpoint and parameters are taken (R191, R198). Another control mode is taken at a speed-loop activation alone, the new
loop's integrator preset from the present reference (R193). -/
def State.takeSetpoint (s : State) (n : Nat) (speed : Bool) : State :=
  s.modAxis n (fun x =>
    let y := { x.loop with params := x.params }
    { x with loop :=
        if x.sp.mode == y.sp.mode then { y with sp := x.sp }
        else if speed then { y with sp := x.sp, integ := y.ref }
        else y })

/-- The current limits in force: those of AX_LIMITS, in Service at most the cap (R45), times the derating factors (R200). -/
def State.currentLimits (s : State) (n : Nat) : State :=
  let x := s.axis n
  let cap := fun v => if s.curMode == modeService then Nat.min v x.svcCap else v
  let by_ := fun v f => (openRound ((cap v * f : Nat) : Int) 32768).toNat
  s.modLoop n (fun y => { y with
    limDrive := by_ x.drive (s.fld (F.WU_AXDR_DRIVE n)), limRegen := by_ x.regen (s.fld (F.WU_AXDR_REGEN n)) })

/-- The axis's current limit for the present sign of power, which nothing in the model tells: free (R195, assumption log 5). -/
def State.powerLimit (s : State) (n : Nat) : Nat × State :=
  let (p, s) := s.draw
  let y := (s.axis n).loop
  (if p % 2 == 1 then y.limDrive else y.limRegen, s)

/-- The types with d and q currents. -/
def State.machine (s : State) (n : Nat) : Bool := (s.axis n).type == 1 || (s.axis n).type == 2

/-- A reference is taken: a torque as it is, its q current being limited (R195); a current within the limit. -/
def State.limitRef (s : State) (n : Nat) (v : Int) : State :=
  let (lim, s) := s.powerLimit n
  s.modLoop n (fun y => { y with ref := if s.machine n then v else clampI (-(lim : Int)) lim v })

/-- The interval of slot `k` of CE_e in cycles of 2.5 ns. -/
def State.slotInterval (s : State) (e k : Nat) : Nat :=
  s.taskInterval ⟨k, 0, 0, s.fld (F.CE_TASKCFG_SRC e k), s.fld (F.CE_TASKCFG_SEL e k), s.fld (F.CE_TASKCFG_DIV e k), 0, 0, none,
    0, 0, 0, [], []⟩

/-- How far the reference moves in one interval of task `k`: RATE % of the peak current per ms (R192, R198). -/
def State.rampStep (s : State) (e k n : Nat) : Int :=
  openRound (((s.axis n).peak * numAt (s.loopParam n 13) 0 4 * s.slotInterval e k : Nat) : Int) (100 * 400000)

/-- `v` moved toward `goal` by at most `d`. -/
def toward (d v goal : Int) : Int := if v < goal then min goal (v + d) else max goal (v - d)

/-- The speed reference of the speed loop: the setpoint, or what the position loop gives, a proportional law of gain KPP with a speed
feed-forward (R195). Positions are those of the axis's position source; the feed-forward's factor is not stated: free. -/
def State.speedRef (s : State) (n : Nat) : Int × State :=
  let m := (s.axis n).loop.sp.mode
  let v := sgn 32 (s.axis n).loop.sp.value
  if m == 1 then (v, s)
  else
    let goal := if m == 3 then sgn 32 (s.rd (R.PU_REFPI n)).toNat else v
    let (f, s) := s.draw
    (openRound (numAt (s.loopParam n 10) 0 4 * sgn 32 (uns 32 (goal - (s.axPosition n).1.toNat))) 65536 + sgn 32 f, s)

/-- The speed loop of an activation of slot `k` (R195): P and I of the speed error with KPW and KIW, and an acceleration feed-forward. The
measured speed in the library's unit, the feed-forward and the form of the anti-windup are not stated: the first two are free, and so is
whether the integrator stands (assumption log 28). -/
def State.speedLoop (s : State) (e k n : Nat) : State :=
  let (r, s) := s.speedRef n
  let (w, s) := s.draw
  let (f, s) := s.draw
  let (hold, s) := s.draw
  let err := r - sgn 32 w
  let y := (s.axis n).loop
  let i := y.integ + openRound (numAt (s.loopParam n 9) 4 4 * err * s.slotInterval e k) (65536 * 400000000)
  let v := openRound (numAt (s.loopParam n 9) 0 4 * err) 65536 + i + sgn 32 f
  (s.modLoop n (fun y => { y with integ := if hold % 2 == 1 then y.integ else i })).limitRef n v

/-- The reference of an activation: toward 0 after a setpoint timeout or an axis stop (R192, R293); toward the setpoint in torque or current
mode, both at RATE (R198); in speed, position and profile mode what the speed loop gives, in DC-link mode a voltage loop whose law is not
stated. At a change of mode it keeps its value, from which the new loop starts (R193). -/
def State.loopRef (s : State) (e k n : Nat) (was : Nat) : State :=
  let x := s.axis n
  let r := x.loop.ref
  let slow := s.speedTask e k || !s.hasSpeedTask n
  if x.ramping || x.stopping then
    if s.speedTask e k then s else s.modLoop n (fun y => { y with ref := toward (s.rampStep e k n) r 0 })
  else if x.loop.sp.mode != was then s
  else if x.loop.sp.mode == 0 then
    if s.speedTask e k then s else s.limitRef n (toward (s.rampStep e k n) r (sgn 32 x.loop.sp.value))
  else if !slow then s
  else if x.loop.sp.mode == 4 then
    let (v, s) := s.draw
    let (i, s) := s.draw
    (s.modLoop n (fun y => { y with integ := sgn 32 i })).limitRef n (sgn 32 v)
  else s.speedLoop e k n

/-! ## The d and q references (R195, R196) -/

/-- The d reference of the 16-point table at the torque `t`: that of a point, between two points a value between theirs, beyond the table
open; how the table is read between its points is not stated: free (assumption log 28). -/
def State.tableId (s : State) (n : Nat) (t : Int) : Int × State :=
  let v := s.loopParam n 7
  let pts := (List.range 16).map (fun i => (sgn 32 (numAt v (8 * i) 4), sgn 32 (numAt v (8 * i + 4) 4)))
  let below := pts.filter (fun p => decide (p.1 ≤ t))
  let above := pts.filter (fun p => decide (t ≤ p.1))
  let (f, s) := s.draw
  match (if decide ((pts.headD (0, 0)).1 ≤ (pts.getLastD (0, 0)).1) then (below.getLast?, above.head?) else (below.head?, above.getLast?)) with
  | (some a, some b) => (if a.1 == t then a.2 else clampI (min a.2 b.2) (max a.2 b.2) (sgn 32 f), s)
  | _ => (sgn 32 f, s)

/-- What field weakening takes from the table's d reference `id` after an activation (R196): while the modulation index lies above MFW the
integrator of gain KFW goes on toward IDMIN, while it lies below it goes back. The index, in Q15, is that of the current law's output, which
the model does not form: free. -/
def State.weaken (s : State) (e k n : Nat) (id : Int) : State :=
  let v := s.loopParam n 8
  let mfw := numAt v 0 4
  let room := (id - sgn 32 (numAt v 8 4)).toNat
  let (m, s) := s.draw
  let m := m % 65536
  let d := (openRound ((numAt v 4 4 * (m - mfw + (mfw - m)) * s.slotInterval e k : Nat) : Int) (32768 * 400000000)).toNat
  s.modLoop n (fun y => { y with weak := Nat.min room (if mfw < m then y.weak + d else y.weak - d) })

/-- The d and q references of a machine's current task (R195, R196): the d reference by the table and field weakening, the q reference that
goes with the torque, 0 without torque and else not stated, within √(ILIM² − id²). -/
def State.dqRefs (s : State) (e k n : Nat) : State :=
  if !s.machine n then s
  else
    let t := (s.axis n).loop.ref
    let (id, s) := s.tableId n t
    let s := s.weaken e k n id
    let d := id - (s.axis n).loop.weak
    let (lim, s) := s.powerLimit n
    let q : Int := openSqrt (lim * lim - d.natAbs * d.natAbs)
    let (v, s) := s.draw
    s.modLoop n (fun y => { y with idRef := d, iqRef := if t = 0 then 0 else clampI (-q) q (sgn 32 v) })

/-! ## The library's sources (R194, R210) -/

/-- The currents of an axis: its SDI channels, then its ADC entries, rising. -/
def State.loopCurrents (s : State) (n : Nat) : List Int :=
  (bitsOf 48 (s.axis n).sdi).map (fun k => Config.currentOf k (sgn 24 ((s.rd (R.SDF_PARES k)).toNat / 256))) ++
  (bitsOf 32 (s.axis n).adc).map (fun r => Config.currentOf (64 + r) (sgn 16 ((s.rd (R.ADC_RES r)).toNat / 65536)))

/-- A bridge of three measured currents has a sum beyond ISUMTH. -/
def State.sumBeyond (s : State) (n : Nat) : Bool :=
  let i := s.loopCurrents n
  let th : Int := numAt (s.loopParam n 11) 0 4
  let past := fun (l : List Int) => l.length == 3 && decide (th < (l.foldl (· + ·) 0).natAbs)
  if (s.axis n).type == 1 then past i
  else if (s.axis n).type == 2 && i.length == 6 then past (i.take 3) || past (i.drop 3)
  else false

/-- Current sum in 3 consecutive updates, and software overcurrent, at each change of its detector to active (R210, R289). -/
def State.checkCurrents (s : State) (n : Nat) : State :=
  let y := (s.axis n).loop
  let run := if s.sumBeyond n then Nat.min 3 (y.sumRun + 1) else 0
  let max : Int := numAt (s.loopParam n 12) 0 4
  let beyond := (s.loopCurrents n).any (fun i => decide (max < i.natAbs))
  let s := s.modLoop n (fun y => { y with sumRun := run, beyond := beyond })
  let s := if run == 3 && y.sumRun != 3 then s.assertEv (evAxis n 1) else s
  if beyond && !y.beyond then s.assertEv (evAxis n 0) else s

/-- The model-predictive law of a three-phase axis that names region tables counts a clamp to the hexagon (R194); whether the state or
the voltage of this activation needs one is free. -/
def State.mpcClamp (s : State) (n : Nat) : State :=
  if (s.axis n).type == 1 && (s.axis n).loop.params.any (fun y => y.1 == 14) then
    let (v, s) := s.draw
    s.modLoop n (fun y => { y with mpcsat := y.mpcsat + v % 2 })
  else s

/-! ## The step generator (R243 to R247, R249) -/

/-- The sine of an angle of 65,536 to the turn in 2^-40, exact at the quarters. -/
def sinAt (a : Nat) : Int :=
  let a := a % 65536
  if a % 32768 = 0 then 0 else if a = 16384 then 2 ^ 40 else if a = 49152 then -(2 ^ 40) else sinTurn a

/-- The published reference of an axis rounded to the nearest count, an exact half up (R244). -/
def State.stepTarget (s : State) (n : Nat) : Int :=
  sgn 32 (s.rd (R.PU_REFPI n)).toNat + (if decide (2 ^ 23 ≤ s.fld (F.PU_REFPF_FRAC n)) then 1 else 0)

/-- The microstep position of an activation and whether the clamp of R247 acts; a stop freezes it (R252), and in a standstill it stays
(R249), at the clamped angle where the clamp has acted (R256). -/
def State.stepNext (s : State) (n : Nat) : Int × Bool :=
  let a := (s.axis n).loop.applied
  let d := s.stepTarget n - a
  if (s.axis n).stopping || (s.axis n).standstill != 0 then (a, false)
  else if decide (256 < d) then (a + 256, true)
  else if decide (d < -256) then (a - 256, true)
  else (a + d, false)

/-- The coil voltages of R245 as numerators over 2^139 × 1000 mV, from the position and the speed word. -/
def State.coilVolts (s : State) (n : Nat) (p v : Int) : Int × Int :=
  let amp : Int := numAt (s.loopParam n 16) (if (s.axis n).standstill == 1 then 4 else 0) 4 * s.fld (F.WU_AXDR_DRIVE n)
  let rc : Int := numAt (s.loopParam n 17) 0 4
  let lc : Int := numAt (s.loopParam n 18) 0 4
  let ke : Int := numAt (s.loopParam n 19) 0 4
  let a := uns 10 p * 64
  let c := sinAt (a + 16384)
  let q := sinAt a
  let x : Int := (halfPi40 : Int) * v * lc * amp + ke * v * (1000 * 2 ^ 71)
  let r : Int := rc * amp * (1000 * 2 ^ 52)
  (r * c - x * q, r * q + x * c)

/-- VBUS in 2^-16 V: a fixed value or an ADC entry (R257). -/
def State.busVolts (s : State) (n : Nat) : Nat :=
  let v := numAt (s.loopParam n 20) 0 4
  Nat.max 1 (if decide (v < 32) then Config.busVolts v (s.rd (R.ADC_RES v)).toNat else v)

/-- 1 - d of the two terminals of a coil as numerators over `2 v`, for a voltage `u` within ±`v` (R246). -/
def coilGaps (mode : Nat) (u v : Int) : Int × Int :=
  if mode = 0 then (v - u, v + u)
  else if 0 ≤ u then (0, 2 * u) else (-(2 * u), 0)

/-- CMPA = CMPB of a leg as a shadow write (R85, R90). -/
def State.writeCompare (s : State) (l v : Nat) : State := ((s.shadowWrite (R.ES_CMPA l) v).1.shadowWrite (R.ES_CMPB l) v).1

/-- The compares of the four legs: duties of the two coils, or in the short standstill every compare at its greatest value, at or above
every peak. -/
def State.stepCompares (s : State) (n : Nat) (u w : Int) : State :=
  let per := (s.carrier (s.axis n).leader).actPeriod * 64
  let never := 2 ^ 24 - 1
  let legs := bitsOf 72 (s.axis n).legs
  let full : Int := s.busVolts n * (10 ^ 6 * 2 ^ 123 : Nat)
  let mode := numAt (s.loopParam n 22) 0 1
  let uc := clampI (-full) full u
  let wc := clampI (-full) full w
  let gaps := [(coilGaps mode uc full).1, (coilGaps mode uc full).2, (coilGaps mode wc full).1, (coilGaps mode wc full).2]
  let s := s.modLoop n (fun y => { y with
    coilSat := y.coilSat + (uc != u).toNat + (wc != w).toNat
    uA := openRound uc (10 ^ 6 * 2 ^ 123), uB := openRound wc (10 ^ 6 * 2 ^ 123) })
  if (s.axis n).standstill == 3 then s.each legs (fun l t => t.writeCompare l never)
  else s.each (List.range 4) (fun i t => t.writeCompare (legs.getD i 0) (openRound ((per : Int) * gaps.getD i 0) (2 * full).toNat).toNat)

/-- One activation of the step generator of an Energised stepper axis: the position, the coils, the compares and LDALL. A reference that
moves again ends a standstill, the legs of a freewheel being enabled again (R249). Nothing is written in the freewheel standstill, whose legs
are disabled. An axis stop freezes the angle here, and is complete when this activation's load takes effect (R252). -/
def State.stepGenerator (s : State) (n : Nat) : State :=
  let s := if (s.axis n).standstill != 0 && !s.refAtRest n then
      (s.endFreewheel n).modAxis n (fun x => { x with standstill := 0 }) else s
  let frozen := (s.axis n).freeze == 1
  let (p, clamp) := s.stepNext n
  let s := s.modLoop n (fun y => { y with applied := p, clamped := y.clamped || clamp })
  let s := if frozen then s.modAxis n (fun x => { x with freeze := if x.standstill == 2 then 3 else 2 }) else s
  if (s.axis n).standstill == 2 || !s.islandsRun then s
  else
    let v := if (s.axis n).stopping then 0 else sgn 32 (s.rd (R.PU_REFV n)).toNat
    let (u, w) := s.coilVolts n p v
    let s := s.stepCompares n u w
    let (late, s) := s.draw
    s.ldall (s.axis n).leader (late % 2 == 1)

/-! ## An activation -/

/-- The task is started by the passed CP of carrier `c` (R244). -/
def State.peakTask (s : State) (e k c : Nat) : Bool :=
  let sel := s.fld (F.CE_TASKCFG_SEL e k)
  s.fld (F.CE_TASKCFG_SRC e k) == 1 && sel % 32 == c && sel / 32 % 4 == 1

/-- The library's part of an activation of slot `k` of CE_e. The step generator runs in the task that the CP of the axis's carrier
starts. -/
def State.loopActivation (s : State) (e k : Nat) : State :=
  if !s.libraryTask e k then s
  else
    let n := s.fld (F.CE_TASKENT_AXIS e k)
    let speed := s.speedTask e k
    let was := (s.axis n).loop.sp.mode
    let s := s.takeSetpoint n (speed || !s.hasSpeedTask n)
    let s := if speed then s else ((s.currentLimits n).checkCurrents n).mpcClamp n
    if (s.axis n).type == 3 then (if s.peakTask e k (s.axis n).leader && s.axState n == axEnergised then s.stepGenerator n else s)
    else
      let s := s.loopRef e k n was
      if speed then s else s.dqRefs e k n

/-- At an instruction boundary the highest-priority slot that can run runs (R63, R64); a pending slot's activation begins, and the
library's part of it is taken.
`ecc` is what the first fetch meets: 0 no error, 1 a corrected single-bit error, 2 a double-bit error (R76), which a word known to have one
gives in any case (R410). An engine that
is stalled by a load or a full lane changes nothing. -/
def execTaskDispatch (e : Fin 16) (ecc : Fin 3) (s : State) : Out :=
  .next (if s.engineOn e && (s.engine e).stall == .none then
    let s := s.dropPending e
    match topSlot (s.runnable e) with
    | none => s.showSlot e none
    | some k =>
      let s := if (s.engine e).active.testBit k then s else (s.activate e k).loopActivation e k
      let s := s.showSlot e (some k)
      let at_ := codeAddr e (s.slot (slotKey e k)).pc
      if ecc == 2 || s.badAt at_ then (s.markBad at_).fetchDouble e
      else if ecc == 1 then (s.put (F.CE_STAT_ECC1 e) 1).assertEv (evAxis e 5)
      else s
  else s)

/-! ## The speed word (R197) -/

/-- The speed of an axis beyond NMAX (R210): `fe` in 2^-16 Hz is a machine's electrical frequency, or the turns per second of a type 4
axis with an encoder (DEDUCED, assumption log 28). -/
def State.overspeed (s : State) (n fe : Nat) : State :=
  let poles := if s.machine n then numAt (s.loopParam n 6) 0 1 else 1
  let fast := (s.machine n || (s.axis n).type == 4) && decide (numAt (s.loopParam n 12) 4 4 * poles * 65536 < 60 * fe)
  let was := (s.axis n).loop.fast
  let s := s.modLoop n (fun y => { y with fast := fast })
  if fast && !was then s.assertEv (evAxis n 2) else s

/-- The measured speed in 2^-16 Hz (R197): the position source's where it is VALID, else for a machine the observer's where that lies above
its floor, else 0. -/
def State.measuredSpeed (s : State) (n fe : Nat) (obs : Option Nat) : Nat :=
  if (s.axis n).posKind != 0 && (s.axPosition n).2 == 1 then fe
  else if decide (3 ≤ (s.axis n).type) then 0 else obs.getD 0

/-- |fe| as the speed word takes it: 0 for the types without active short (R188). -/
def State.speedOf (s : State) (n fe : Nat) (obs : Option Nat) : Nat :=
  if decide (3 ≤ (s.axis n).type) then 0 else s.measuredSpeed n fe obs

/-- min(0xFFFF, round(16 |fe|)), a half up. -/
def speedWordOf (fe : Nat) : Nat := Nat.min 0xFFFF ((fe + 2 ^ 11) / 2 ^ 12)

/-- An activation of the current task of an axis, or of the firmware's speed task for it (R34), writes the speed word. In the rest check a word at or above
the active-short threshold fails the axis (R40). -/
def execSpeedWordWrite (n : Fin 16) (fe : FeReading) (s : State) : Out :=
  .next (
    let firm := s.mode.speedTasks.testBit n
    let loop := s.axState n != axDisabled && s.curMode != modeRecovery && !s.loopMissing n
    if s.computeRuns && (firm || loop) then
      let f := s.speedOf n fe.source fe.observer
      let w := speedWordOf f
      let s := if loop then s.overspeed n (s.measuredSpeed n fe.source fe.observer) else s
      let s := if s.mode.restCheck.isSome && firm && (s.axis n).posKind != 0 && decide (s.fld (F.SPW_AXCFG_ASTH n) ≤ w) then
          s.withMode { s.mode with restFail := putBit s.mode.restFail n true } else s
      if s.islandsRun then s.speedWord n w else s
    else s)

end Sys2Proof.Machine
end

