-- ==== Sys2Proof/Machine/Mac.lean ====
section
/-!
DEFINITION. The accumulator instructions of the two datapaths (R54, R55, R59).
-/

namespace Sys2Proof.Machine

/-- Saturate an exact sum to an accumulator of `w` bits (R54), and whether that acts. -/
def accSat (w : Nat) (x : Int) : Int × Bool := (satS w x, satS w x != x)

/-- round(v × 2^s), half toward plus infinity (R55). -/
def scaleRound (v s : Int) : Int := if s < 0 then roundShift v s.natAbs else v * ((2 ^ s.toNat : Nat) : Int)

/-- An instruction of the run datapath that gives each accumulator listed a new exact value. -/
def State.accOp (s : State) (e : Nat) (l : List Nat) (f : Slot → Nat → Int) : State :=
  s.issue e pathRun (fun k t =>
    let b := t.bank e k
    let t := t.setBank e k (l.foldl (fun c j => c.setAcc j (accSat 40 (f b j)).1) b)
    t.noteAccsat e (l.any (fun j => (accSat 40 (f b j)).2)))

def laneList : List Nat := [0, 1, 2, 3]

/-- The product of lane `j` of two pairs. -/
def Slot.laneMul (b : Slot) (x y j : Nat) : Int := lane (b.pair x) j * lane (b.pair y) j

def execVclr (e : Fin 16) (s : State) : Out := .next (s.accOp e laneList (fun _ _ => 0))

def execVmul (e : Fin 16) (a b : Fin 8) (s : State) : Out :=
  .next (s.accOp e laneList (fun k j => k.laneMul a b j))

def execVmac (e : Fin 16) (a b : Fin 8) (s : State) : Out :=
  .next (s.accOp e laneList (fun k j => (k.acc j).toInt + k.laneMul a b j))

def execVmsu (e : Fin 16) (a b : Fin 8) (s : State) : Out :=
  .next (s.accOp e laneList (fun k j => (k.acc j).toInt - k.laneMul a b j))

/-- The cross MAC: lanes 0 and 1, and 2 and 3, of the second pair change places. -/
def crossLane (j : Nat) : Nat := if j % 2 = 0 then j + 1 else j - 1

def execVmacx (e : Fin 16) (a b : Fin 8) (s : State) : Out :=
  .next (s.accOp e laneList (fun k j => (k.acc j).toInt + lane (k.pair a) j * lane (k.pair b) (crossLane j)))

/-- The high or low half of a register, signed. -/
def half (x : Word) (high : Bool) : Int := if high then (x.extractLsb' 16 16).toInt else (x.extractLsb' 0 16).toInt

def execMacl (e : Fin 16) (k : Fin 4) (a : Fin 16) (ah : Bool) (b : Fin 16) (bh : Bool) (s : State) : Out :=
  .next (s.accOp e [k.val] (fun x j => (x.acc j).toInt + half (x.xr a) ah * half (x.xr b) bh))

def execVsum (e : Fin 16) (s : State) : Out :=
  .next (s.accOp e [0] (fun x _ => (x.acc 0).toInt + (x.acc 1).toInt + (x.acc 2).toInt + (x.acc 3).toInt))

/-! ## Four 16-bit lanes -/

/-- A lane operation with exact results `f`: each saturated to 16 bits, SATM where one was. -/
def State.laneOp (s : State) (e d : Nat) (f : Slot → Nat → Int) : State :=
  s.issue e pathRun (fun k t =>
    let b := t.bank e k
    let t := t.setBank e k (b.setPair d (packLanes (fun j => satS 16 (f b j))))
    t.noteSatm e k (laneList.any (fun j => satS 16 (f b j) != f b j)))

def execVadd (e : Fin 16) (d a b : Fin 8) (s : State) : Out :=
  .next (s.laneOp e d (fun k j => lane (k.pair a) j + lane (k.pair b) j))

def execVsub (e : Fin 16) (d a b : Fin 8) (s : State) : Out :=
  .next (s.laneOp e d (fun k j => lane (k.pair a) j - lane (k.pair b) j))

def execVabs (e : Fin 16) (d a : Fin 8) (s : State) : Out :=
  .next (s.laneOp e d (fun k j => ((lane (k.pair a) j).natAbs : Int)))

/-! ## Moves from the accumulators (R55) -/

/-- SCALE of a slot, −8 to +7. -/
def State.scale (s : State) (e k : Nat) : Int := sgn 4 (s.fld (F.CE_TASKCFG_SCALE e k))

/-- A scaled value saturated to `w` bits and sign-extended to the register. -/
def State.moveAcc (s : State) (e path d w : Nat) (v : Slot → Int) (sh : State → Nat → Int) : State :=
  s.issue e path (fun k t =>
    let x := scaleRound (v (t.bank e k)) (sh t k)
    (t.setBank e k ((t.bank e k).setX d (BitVec.ofInt 32 (satS w x)))).noteSatm e k (satS w x != x))

def execMva (e d : Fin 16) (k : Fin 4) (s : State) : Out :=
  .next (s.moveAcc e pathRun d 32 (fun b => (b.acc k).toInt) (fun t j => t.scale e j))

/-- The immediate shift of MVAS and PMVES is taken as the four bits of SCALE, −8 to +7 (DESIGN CHOICE, assumption log 39). -/
def execMvas (e d : Fin 16) (k : Fin 4) (sh : BitVec 4) (s : State) : Out :=
  .next (s.moveAcc e pathRun d 32 (fun b => (b.acc k).toInt) (fun _ _ => sh.toInt))

def execVmva (e : Fin 16) (d : Fin 8) (s : State) : Out :=
  .next (s.issue e pathRun (fun k t =>
    let b := t.bank e k
    let x : Nat → Int := fun j => scaleRound (b.acc j).toInt (t.scale e k - 15)
    (t.setBank e k (b.setPair d (packLanes (fun j => satS 16 (x j))))).noteSatm e k
      (laneList.any (fun j => satS 16 (x j) != x j))))

/-! ## The precise datapath -/

/-- An instruction of the precise datapath that gives accumulator `j` a new exact value. -/
def State.paccOp (s : State) (e j : Nat) (f : Slot → Int) : State :=
  s.issue e pathPrecise (fun k t =>
    let b := t.bank e k
    (t.setBank e k (b.setPacc j (accSat 56 (f b)).1)).noteAccsat e (accSat 56 (f b)).2)

/-- Bits [23:0] of a register, signed. -/
def low24 (x : Word) : Int := (x.extractLsb' 0 24).toInt

def execPclr (e : Fin 16) (k : Fin 2) (s : State) : Out := .next (s.paccOp e k (fun _ => 0))

def execPmul (e : Fin 16) (k : Fin 2) (a b : Fin 16) (s : State) : Out :=
  .next (s.paccOp e k (fun x => low24 (x.xr a) * low24 (x.xr b)))

def execPmac (e : Fin 16) (k : Fin 2) (a b : Fin 16) (s : State) : Out :=
  .next (s.paccOp e k (fun x => (x.pacc k).toInt + low24 (x.xr a) * low24 (x.xr b)))

def execPmsu (e : Fin 16) (k : Fin 2) (a b : Fin 16) (s : State) : Out :=
  .next (s.paccOp e k (fun x => (x.pacc k).toInt - low24 (x.xr a) * low24 (x.xr b)))

def execPadd (e : Fin 16) (s : State) : Out :=
  .next (s.paccOp e 0 (fun x => (x.pacc 0).toInt + (x.pacc 1).toInt))

/-- A shift by −16 to +15, positive to the left; to the right it truncates toward minus infinity (DEDUCED, assumption log 17). -/
def execPsha (e : Fin 16) (k : Fin 2) (n : BitVec 5) (s : State) : Out :=
  .next (s.paccOp e k (fun x =>
    if n.toInt < 0 then asr (x.pacc k).toInt n.toInt.natAbs else (x.pacc k).toInt * ((2 ^ n.toInt.toNat : Nat) : Int)))

def execPmve (e d : Fin 16) (k : Fin 2) (s : State) : Out :=
  .next (s.moveAcc e pathPrecise d 24 (fun b => (b.pacc k).toInt) (fun t j => t.scale e j - 23))

def execPmves (e d : Fin 16) (k : Fin 2) (sh : BitVec 4) (s : State) : Out :=
  .next (s.moveAcc e pathPrecise d 24 (fun b => (b.pacc k).toInt) (fun _ _ => sh.toInt - 23))

end Sys2Proof.Machine
end

