-- ==== Sys2Proof/Machine/Dispatch.lean ====
section
/-!
DEFINITION. One arm per command: the one direct call of its meaning, or the command rejected by name.
-/

namespace Sys2Proof.Machine

def exec (i : Instr) (s : State) : Host.Outcome State Fault Refusal :=
  match i with
  | .sysNop c => Sys2Proof.Machine.execSysNop c s
  | .sysId c => Sys2Proof.Machine.execSysId c s
  | .sysStatus c => Sys2Proof.Machine.execSysStatus c s
  | .sysMode c => Sys2Proof.Machine.execSysMode c s
  | .sysReset c => Sys2Proof.Machine.execSysReset c s
  | .sysWakecfg c => Sys2Proof.Machine.execSysWakecfg c s
  | .creditSet c => Sys2Proof.Machine.execCreditSet c s
  | .bufAlloc c => Sys2Proof.Machine.execBufAlloc c s
  | .bufFree c => Sys2Proof.Machine.execBufFree c s
  | .rsvStatus c => Sys2Proof.Machine.execRsvStatus c s
  | .rsvQuota c => Sys2Proof.Machine.execRsvQuota c s
  | .chanStatus c => Sys2Proof.Machine.execChanStatus c s
  | .sysEcho c => Sys2Proof.Machine.execSysEcho c s
  | .sysLinkwd c => Sys2Proof.Machine.execSysLinkwd c s
  | .axConfig c => Sys2Proof.Machine.execAxConfig c s
  | .axState c => Sys2Proof.Machine.execAxState c s
  | .axRecover c => Sys2Proof.Machine.execAxRecover c s
  | .axBridgeEn c => Sys2Proof.Machine.execAxBridgeEn c s
  | .axSetpoint c => Sys2Proof.Machine.execAxSetpoint c s
  | .axLimits c => Sys2Proof.Machine.execAxLimits c s
  | .axParamWrite c => Sys2Proof.Machine.execAxParamWrite c s
  | .axParamRead c => Sys2Proof.Machine.execAxParamRead c s
  | .axStatus c => Sys2Proof.Machine.execAxStatus c s
  | .axPositionSet c => Sys2Proof.Machine.execAxPositionSet c s
  | .axCapture c => Sys2Proof.Machine.execAxCapture c s
  | .wearTables c => Sys2Proof.Machine.execWearTables c s
  | .wearRead c => Sys2Proof.Machine.execWearRead c s
  | .wearRestore c => Sys2Proof.Machine.execWearRestore c s
  | .derateCfg c => Sys2Proof.Machine.execDerateCfg c s
  | .trajCtxWrite c => Sys2Proof.Machine.execTrajCtxWrite c s
  | .trajCtxRead c => Sys2Proof.Machine.execTrajCtxRead c s
  | .trajAssign c => Sys2Proof.Machine.execTrajAssign c s
  | .trajStart c => Sys2Proof.Machine.execTrajStart c s
  | .trajTarget c => Sys2Proof.Machine.execTrajTarget c s
  | .trajParam c => Sys2Proof.Machine.execTrajParam c s
  | .trajStop c => Sys2Proof.Machine.execTrajStop c s
  | .trajStatus c => Sys2Proof.Machine.execTrajStatus c s
  | .gearEngage c => Sys2Proof.Machine.execGearEngage c s
  | .gearTable c => Sys2Proof.Machine.execGearTable c s
  | .gearDisengage c => Sys2Proof.Machine.execGearDisengage c s
  | .vmasterSet c => Sys2Proof.Machine.execVmasterSet c s
  | .puAxisCfg c => Sys2Proof.Machine.execPuAxisCfg c s
  | .acqProbe c => Sys2Proof.Machine.execAcqProbe c s
  | .acqSetCfg c => Sys2Proof.Machine.execAcqSetCfg c s
  | .acqTrigCfg c => Sys2Proof.Machine.execAcqTrigCfg c s
  | .acqArm c => Sys2Proof.Machine.execAcqArm c s
  | .acqDisarm c => Sys2Proof.Machine.execAcqDisarm c s
  | .acqTrigger c => Sys2Proof.Machine.execAcqTrigger c s
  | .acqStatus c => Sys2Proof.Machine.execAcqStatus c s
  | .acqRead c => Sys2Proof.Machine.execAcqRead c s
  | .cascCfg c => Sys2Proof.Machine.execCascCfg c s
  | .cascPing c => Sys2Proof.Machine.execCascPing c s
  | .cascStatus c => Sys2Proof.Machine.execCascStatus c s
  | .netPortCfg c => Sys2Proof.Machine.execNetPortCfg c s
  | .netVlanCfg c => Sys2Proof.Machine.execNetVlanCfg c s
  | .netFdb c => Sys2Proof.Machine.execNetFdb c s
  | .netIpCfg c => Sys2Proof.Machine.execNetIpCfg c s
  | .netStatus c => Sys2Proof.Machine.execNetStatus c s
  | .timeCfg c => Sys2Proof.Machine.execTimeCfg c s
  | .timeStatus c adv => Sys2Proof.Machine.execTimeStatus c adv s
  | .timeRestep c => Sys2Proof.Machine.execTimeRestep c s
  | .timeGrid c adv => Sys2Proof.Machine.execTimeGrid c adv s
  | .timeAlarm c adv => Sys2Proof.Machine.execTimeAlarm c adv s
  | .netPortDelay c => Sys2Proof.Machine.execNetPortDelay c s
  | .netVmBind c => Sys2Proof.Machine.execNetVmBind c s
  | .netWakeCfg c => Sys2Proof.Machine.execNetWakeCfg c s
  | .canCfg c => Sys2Proof.Machine.execCanCfg c s
  | .canFilter c => Sys2Proof.Machine.execCanFilter c s
  | .canStart c => Sys2Proof.Machine.execCanStart c s
  | .canTx c sof => Sys2Proof.Machine.execCanTx c sof s
  | .canTxCancel c => Sys2Proof.Machine.execCanTxCancel c s
  | .canRxRead c => Sys2Proof.Machine.execCanRxRead c s
  | .canStatus c => Sys2Proof.Machine.execCanStatus c s
  | .canBusoffRecover c => Sys2Proof.Machine.execCanBusoffRecover c s
  | .fieldInCfg c => Sys2Proof.Machine.execFieldInCfg c s
  | .fieldInRead c => Sys2Proof.Machine.execFieldInRead c s
  | .fieldOutCfg c => Sys2Proof.Machine.execFieldOutCfg c s
  | .fieldOutSet c => Sys2Proof.Machine.execFieldOutSet c s
  | .fieldOutClear c hot above => Sys2Proof.Machine.execFieldOutClear c hot above s
  | .fieldStatus c ma => Sys2Proof.Machine.execFieldStatus c ma s
  | .fieldWakeCfg c => Sys2Proof.Machine.execFieldWakeCfg c s
  | .faultRead c => Sys2Proof.Machine.execFaultRead c s
  | .faultClear c => Sys2Proof.Machine.execFaultClear c s
  | .faultRearm c => Sys2Proof.Machine.execFaultRearm c s
  | .faultReact c => Sys2Proof.Machine.execFaultReact c s
  | .faultInfo c => Sys2Proof.Machine.execFaultInfo c s
  | .faultDomcfg c => Sys2Proof.Machine.execFaultDomcfg c s
  | .faultNotify c => Sys2Proof.Machine.execFaultNotify c s
  | .faultBist c => Sys2Proof.Machine.execFaultBist c s
  | .evtRoute c => Sys2Proof.Machine.execEvtRoute c s
  | .sfmStatus c => Sys2Proof.Machine.execSfmStatus c s
  | .engLoadBegin c => Sys2Proof.Machine.execEngLoadBegin c s
  | .engLoadData c => Sys2Proof.Machine.execEngLoadData c s
  | .engLoadEnd c => Sys2Proof.Machine.execEngLoadEnd c s
  | .engLoadStored c => Sys2Proof.Machine.execEngLoadStored c s
  | .engUnload c => Sys2Proof.Machine.execEngUnload c s
  | .engTaskEnable c => Sys2Proof.Machine.execEngTaskEnable c s
  | .engStatus c => Sys2Proof.Machine.execEngStatus c s
  | .engGrantRead c => Sys2Proof.Machine.execEngGrantRead c s
  | .engClearFlags c => Sys2Proof.Machine.execEngClearFlags c s
  | .secStatus c => Sys2Proof.Machine.execSecStatus c s
  | .secChallenge c => Sys2Proof.Machine.execSecChallenge c s
  | .secResponse c => Sys2Proof.Machine.execSecResponse c s
  | .updBegin c => Sys2Proof.Machine.execUpdBegin c s
  | .updData c => Sys2Proof.Machine.execUpdData c s
  | .updEnd c => Sys2Proof.Machine.execUpdEnd c s
  | .updAbort c => Sys2Proof.Machine.execUpdAbort c s
  | .secLifecycle c => Sys2Proof.Machine.execSecLifecycle c s
  | .secProvision c => Sys2Proof.Machine.execSecProvision c s
  | .secArbAdvance c => Sys2Proof.Machine.execSecArbAdvance c s
  | .secSessionOpen c => Sys2Proof.Machine.execSecSessionOpen c s
  | .secSessionClose c => Sys2Proof.Machine.execSecSessionClose c s
  | .secDebug c => Sys2Proof.Machine.execSecDebug c s
  | .telCfg c => Sys2Proof.Machine.execTelCfg c s
  | .telRead c adv => Sys2Proof.Machine.execTelRead c adv s
  | .telInv c unstable => Sys2Proof.Machine.execTelInv c unstable s
  | .scrubStatus c => Sys2Proof.Machine.execScrubStatus c s
  | .scrubCfg c => Sys2Proof.Machine.execScrubCfg c s
  | .hpRead head len => Sys2Proof.Machine.execHpRead head len s
  | .hpWrite head data => Sys2Proof.Machine.execHpWrite head data s
  | .hpRdsr => Sys2Proof.Machine.execHpRdsr s
  | .doorbellWrite k v => Sys2Proof.Machine.execDoorbellWrite k v s
  | .featCommit v => Sys2Proof.Machine.execFeatCommit v s
  | .commandConsume => Sys2Proof.Machine.execCommandConsume s
  | .hostSessionDatagram bytes burst => Sys2Proof.Machine.execHostSessionDatagram bytes burst s
  | .sessionResponseResend k index => Sys2Proof.Machine.execSessionResponseResend k index s
  | .sessionIdleClose n => Sys2Proof.Machine.execSessionIdleClose n s
  | .modeRequest target => Sys2Proof.Machine.execModeRequest target s
  | .safeoffToRecovery late => Sys2Proof.Machine.execSafeoffToRecovery late s
  | .deratePoll => Sys2Proof.Machine.execDeratePoll s
  | .derateHoldExpiry => Sys2Proof.Machine.execDerateHoldExpiry s
  | .axisRestReached n => Sys2Proof.Machine.execAxisRestReached n s
  | .stopTimeout => Sys2Proof.Machine.execStopTimeout s
  | .hostLinkTimeout => Sys2Proof.Machine.execHostLinkTimeout s
  | .standbyRestCheckDone wakes => Sys2Proof.Machine.execStandbyRestCheckDone wakes s
  | .wakeSource src ticks => Sys2Proof.Machine.execWakeSource src ticks s
  | .legsHeldReenable n => Sys2Proof.Machine.execLegsHeldReenable n s
  | .mov e d a => Sys2Proof.Machine.execMov e d a s
  | .movi e d imm => Sys2Proof.Machine.execMovi e d imm s
  | .movhi e d imm => Sys2Proof.Machine.execMovhi e d imm s
  | .add e d a b => Sys2Proof.Machine.execAdd e d a b s
  | .sub e d a b => Sys2Proof.Machine.execSub e d a b s
  | .and_ e d a b => Sys2Proof.Machine.execAnd e d a b s
  | .or_ e d a b => Sys2Proof.Machine.execOr e d a b s
  | .xor_ e d a b => Sys2Proof.Machine.execXor e d a b s
  | .adds e d a b => Sys2Proof.Machine.execAdds e d a b s
  | .subs e d a b => Sys2Proof.Machine.execSubs e d a b s
  | .abs_ e d a => Sys2Proof.Machine.execAbs e d a s
  | .neg_ e d a => Sys2Proof.Machine.execNeg e d a s
  | .shl e d a n => Sys2Proof.Machine.execShl e d a n s
  | .shr e d a n => Sys2Proof.Machine.execShr e d a n s
  | .sra e d a n => Sys2Proof.Machine.execSra e d a n s
  | .min_ e d a b => Sys2Proof.Machine.execMin e d a b s
  | .max_ e d a b => Sys2Proof.Machine.execMax e d a b s
  | .cmp e a b => Sys2Proof.Machine.execCmp e a b s
  | .mul e d a b => Sys2Proof.Machine.execMul e d a b s
  | .divq e d a b => Sys2Proof.Machine.execDivq e d a b s
  | .sincos e d a => Sys2Proof.Machine.execSincos e d a s
  | .rsq e d a => Sys2Proof.Machine.execRsq e d a s
  | .ld e d m ecc => Sys2Proof.Machine.execLd e d m ecc s
  | .ldh e d m ecc => Sys2Proof.Machine.execLdh e d m ecc s
  | .ldv e d m ecc => Sys2Proof.Machine.execLdv e d m ecc s
  | .st e a m => Sys2Proof.Machine.execSt e a m s
  | .sth e a m => Sys2Proof.Machine.execSth e a m s
  | .stv e a m => Sys2Proof.Machine.execStv e a m s
  | .setc e p b l => Sys2Proof.Machine.execSetc e p b l s
  | .addp e p imm => Sys2Proof.Machine.execAddp e p imm s
  | .ldin e d i_ => Sys2Proof.Machine.execLdin e d i_ s
  | .waitv e a b => Sys2Proof.Machine.execWaitv e a b s
  | .waitvResume e k => Sys2Proof.Machine.execWaitvResume e k s
  | .probe e k a => Sys2Proof.Machine.execProbe e k a s
  | .maxi e d i_ p n ecc at_ => Sys2Proof.Machine.execMaxi e d i_ p n ecc at_ s
  | .mini e d i_ p n ecc at_ => Sys2Proof.Machine.execMini e d i_ p n ecc at_ s
  | .br e t => Sys2Proof.Machine.execBr e t s
  | .bcc e c t => Sys2Proof.Machine.execBcc e c t s
  | .call_ e t => Sys2Proof.Machine.execCall e t s
  | .ret_ e => Sys2Proof.Machine.execRet e s
  | .loop_ e n last => Sys2Proof.Machine.execLoop e n last s
  | .rdsr e d => Sys2Proof.Machine.execRdsr e d s
  | .wrsr e a => Sys2Proof.Machine.execWrsr e a s
  | .nop e => Sys2Proof.Machine.execNop e s
  | .end_ e => Sys2Proof.Machine.execEnd e s
  | .vclr e => Sys2Proof.Machine.execVclr e s
  | .vmul e a b => Sys2Proof.Machine.execVmul e a b s
  | .vmac e a b => Sys2Proof.Machine.execVmac e a b s
  | .vmsu e a b => Sys2Proof.Machine.execVmsu e a b s
  | .vmacx e a b => Sys2Proof.Machine.execVmacx e a b s
  | .macl e k a ah b bh => Sys2Proof.Machine.execMacl e k a ah b bh s
  | .vsum e => Sys2Proof.Machine.execVsum e s
  | .vadd e d a b => Sys2Proof.Machine.execVadd e d a b s
  | .vsub e d a b => Sys2Proof.Machine.execVsub e d a b s
  | .vabs e d a => Sys2Proof.Machine.execVabs e d a s
  | .mva e d k => Sys2Proof.Machine.execMva e d k s
  | .mvas e d k sh => Sys2Proof.Machine.execMvas e d k sh s
  | .vmva e d => Sys2Proof.Machine.execVmva e d s
  | .pclr e k => Sys2Proof.Machine.execPclr e k s
  | .pmul e k a b => Sys2Proof.Machine.execPmul e k a b s
  | .pmac e k a b => Sys2Proof.Machine.execPmac e k a b s
  | .pmsu e k a b => Sys2Proof.Machine.execPmsu e k a b s
  | .padd e => Sys2Proof.Machine.execPadd e s
  | .psha e k n => Sys2Proof.Machine.execPsha e k n s
  | .pmve e d k => Sys2Proof.Machine.execPmve e d k s
  | .pmves e d k sh => Sys2Proof.Machine.execPmves e d k sh s
  | .illegalInstruction e => Sys2Proof.Machine.execIllegalInstruction e s
  | .remoteLoadReturn e adv cnt => Sys2Proof.Machine.execRemoteLoadReturn e adv cnt s
  | .postedLaneRoom e => Sys2Proof.Machine.execPostedLaneRoom e s
  | .taskTrigger e k => Sys2Proof.Machine.execTaskTrigger e k s
  | .taskDispatch e ecc => Sys2Proof.Machine.execTaskDispatch e ecc s
  | .taskBudgetAbort e k => Sys2Proof.Machine.execTaskBudgetAbort e k s
  | .ceDoorbell e ring => Sys2Proof.Machine.execCeDoorbell e ring s
  | .ceClrcnt e => Sys2Proof.Machine.execCeClrcnt e s
  | .inputSlotPush ty idx v => Sys2Proof.Machine.execInputSlotPush ty idx v s
  | .carrierZero c late => Sys2Proof.Machine.execCarrierZero c late s
  | .carrierPeak c => Sys2Proof.Machine.execCarrierPeak c s
  | .shadowWrite addr v => Sys2Proof.Machine.execShadowWrite addr v s
  | .ldall c late => Sys2Proof.Machine.execLdall c late s
  | .speedWordWrite n fe => Sys2Proof.Machine.execSpeedWordWrite n fe s
  | .edgeComputeDone c tight => Sys2Proof.Machine.execEdgeComputeDone c tight s
  | .loadDeadlineEmission c tight => Sys2Proof.Machine.execLoadDeadlineEmission c tight s
  | .legEdge leg => Sys2Proof.Machine.execLegEdge leg s
  | .carrierEnable c en => Sys2Proof.Machine.execCarrierEnable c en s
  | .syncMark c ticks => Sys2Proof.Machine.execSyncMark c ticks s
  | .syncMiss c => Sys2Proof.Machine.execSyncMiss c s
  | .intervalTimerEvent k => Sys2Proof.Machine.execIntervalTimerEvent k s
  | .cbClrcnt c => Sys2Proof.Machine.execCbClrcnt c s
  | .sluiceRelease leg upper wait => Sys2Proof.Machine.execSluiceRelease leg upper wait s
  | .interlockTimeout leg upper => Sys2Proof.Machine.execInterlockTimeout leg upper s
  | .desatDetect leg at_ => Sys2Proof.Machine.execDesatDetect leg at_ s
  | .shuntOvercurrent leg => Sys2Proof.Machine.execShuntOvercurrent leg s
  | .bootstrapUv leg low => Sys2Proof.Machine.execBootstrapUv leg low s
  | .stoInput b => Sys2Proof.Machine.execStoInput b s
  | .stoDiscrepancy => Sys2Proof.Machine.execStoDiscrepancy s
  | .spillwayStep2 tgt => Sys2Proof.Machine.execSpillwayStep2 tgt s
  | .safeStateReached tgt => Sys2Proof.Machine.execSafeStateReached tgt s
  | .shortApplyFail n leg => Sys2Proof.Machine.execShortApplyFail n leg s
  | .effectiveEnableFall n => Sys2Proof.Machine.execEffectiveEnableFall n s
  | .effectiveEnableRise n at_ => Sys2Proof.Machine.execEffectiveEnableRise n at_ s
  | .glEnable k en => Sys2Proof.Machine.execGlEnable k en s
  | .glReset k => Sys2Proof.Machine.execGlReset k s
  | .glCfgsend k => Sys2Proof.Machine.execGlCfgsend k s
  | .trainAligned k => Sys2Proof.Machine.execTrainAligned k s
  | .bringupTimeout k => Sys2Proof.Machine.execBringupTimeout k s
  | .bringupFrameDue k => Sys2Proof.Machine.execBringupFrameDue k s
  | .heartbeatDue k req => Sys2Proof.Machine.execHeartbeatDue k req s
  | .echoReceived k syms gates cover late => Sys2Proof.Machine.execEchoReceived k syms gates cover late s
  | .statusReceived k syms rtt => Sys2Proof.Machine.execStatusReceived k syms rtt s
  | .badFrameReceived k f => Sys2Proof.Machine.execBadFrameReceived k f s
  | .linkSilence k => Sys2Proof.Machine.execLinkSilence k s
  | .sinc3Result n z since => Sys2Proof.Machine.execSinc3Result n z since s
  | .paWindowClose n sum k since u => Sys2Proof.Machine.execPaWindowClose n sum k since u s
  | .paResultValid n => Sys2Proof.Machine.execPaResultValid n s
  | .modulatorFault r => Sys2Proof.Machine.execModulatorFault r s
  | .fastComparatorDecision n zs => Sys2Proof.Machine.execFastComparatorDecision n zs s
  | .fastComparatorRelease r => Sys2Proof.Machine.execFastComparatorRelease r s
  | .offsetCalStep n up => Sys2Proof.Machine.execOffsetCalStep n up s
  | .adcSequenceStart q => Sys2Proof.Machine.execAdcSequenceStart q s
  | .adcStepSample q codes u => Sys2Proof.Machine.execAdcStepSample q codes u s
  | .adcResult q => Sys2Proof.Machine.execAdcResult q s
  | .adcTrim c gain ofs => Sys2Proof.Machine.execAdcTrim c gain ofs s
  | .resolverPeak r second => Sys2Proof.Machine.execResolverPeak r second s
  | .resangWrite r v => Sys2Proof.Machine.execResangWrite r v s
  | .encTransition n a b z => Sys2Proof.Machine.execEncTransition n a b z s
  | .encIndex n err => Sys2Proof.Machine.execEncIndex n err s
  | .ssiReadStart m high => Sys2Proof.Machine.execSsiReadStart m high s
  | .ssiReadDone m bits mono => Sys2Proof.Machine.execSsiReadDone m bits mono s
  | .captureTrigger k adv age => Sys2Proof.Machine.execCaptureTrigger k adv age s
  | .captureArm k => Sys2Proof.Machine.execCaptureArm k s
  | .setpointTimeout n => Sys2Proof.Machine.execSetpointTimeout n s
  | .wearPeriodUpdate leg u1 u2 u3 u4 u5 u6 => Sys2Proof.Machine.execWearPeriodUpdate leg u1 u2 u3 u4 u5 u6 s
  | .wearIdleUpdate leg => Sys2Proof.Machine.execWearIdleUpdate leg s
  | .wearFlush => Sys2Proof.Machine.execWearFlush s
  | .wearRecordWriteback => Sys2Proof.Machine.execWearRecordWriteback s
  | .profileTick n dt at_ => Sys2Proof.Machine.execProfileTick n dt at_ s
  | .referencePublish n work par => Sys2Proof.Machine.execReferencePublish n work par s
  | .ctxCommit c => Sys2Proof.Machine.execCtxCommit c s
  | .puStart n => Sys2Proof.Machine.execPuStart n s
  | .puSwapnow n => Sys2Proof.Machine.execPuSwapnow n s
  | .puStop n => Sys2Proof.Machine.execPuStop n s
  | .puQstop n => Sys2Proof.Machine.execPuQstop n s
  | .puEngage n => Sys2Proof.Machine.execPuEngage n s
  | .vmthWrite k v => Sys2Proof.Machine.execVmthWrite k v s
  | .standstillEnter n => Sys2Proof.Machine.execStandstillEnter n s
  | .stepperLegsReady n => Sys2Proof.Machine.execStepperLegsReady n s
  | .stepClampReport n => Sys2Proof.Machine.execStepClampReport n s
  | .sourceAssert ev => Sys2Proof.Machine.execSourceAssert ev s
  | .axisStopFirmware n rest => Sys2Proof.Machine.execAxisStopFirmware n rest s
  | .axisStopEscalation n => Sys2Proof.Machine.execAxisStopEscalation n s
  | .axisSafeoffFirmware n => Sys2Proof.Machine.execAxisSafeoffFirmware n s
  | .settleMaskEnd m => Sys2Proof.Machine.execSettleMaskEnd m s
  | .supHeartbeatKick => Sys2Proof.Machine.execSupHeartbeatKick s
  | .supWatchdogMiss => Sys2Proof.Machine.execSupWatchdogMiss s
  | .sfmResetRequest => Sys2Proof.Machine.execSfmResetRequest s
  | .sfmConfigCheck => Sys2Proof.Machine.execSfmConfigCheck s
  | .sfmLockstepMismatch => Sys2Proof.Machine.execSfmLockstepMismatch s
  | .selfTestRetry t inst result => Sys2Proof.Machine.execSelfTestRetry t inst result s
  | .basinSample n adv => Sys2Proof.Machine.execBasinSample n adv s
  | .probePush p v => Sys2Proof.Machine.execProbePush p v s
  | .basinRecordWrite n => Sys2Proof.Machine.execBasinRecordWrite n s
  | .triggerDecision n => Sys2Proof.Machine.execTriggerDecision n s
  | .exportBufferFill n => Sys2Proof.Machine.execExportBufferFill n s
  | .syncClkLoss => Sys2Proof.Machine.execSyncClkLoss s
  | .cascadeLaunch => Sys2Proof.Machine.execCascadeLaunch s
  | .cascadeTriggerReceive t => Sys2Proof.Machine.execCascadeTriggerReceive t s
  | .trigIoStuck => Sys2Proof.Machine.execTrigIoStuck s
  | .pingAnswer => Sys2Proof.Machine.execPingAnswer s
  | .pingRound rtt trig => Sys2Proof.Machine.execPingRound rtt trig s
  | .frameReceive p bytes bad full stamp => Sys2Proof.Machine.execFrameReceive p bytes bad full stamp s
  | .internalPortFrame => Sys2Proof.Machine.execInternalPortFrame s
  | .gptpSyncReceived p bytes stamp origin => Sys2Proof.Machine.execGptpSyncReceived p bytes stamp origin s
  | .pdelayReqReceived p sequence stamp => Sys2Proof.Machine.execPdelayReqReceived p sequence stamp s
  | .syncLossTimeout => Sys2Proof.Machine.execSyncLossTimeout s
  | .rateRequest v adv => Sys2Proof.Machine.execRateRequest v adv s
  | .timeStep adv => Sys2Proof.Machine.execTimeStep adv s
  | .gridMarkSend adv => Sys2Proof.Machine.execGridMarkSend adv s
  | .alarmReached adv => Sys2Proof.Machine.execAlarmReached adv s
  | .wakeFrame bytes => Sys2Proof.Machine.execWakeFrame bytes s
  | .vmDatagram port src bytes => Sys2Proof.Machine.execVmDatagram port src bytes s
  | .tsqPop => Sys2Proof.Machine.execTsqPop s
  | .canFrameReceived n frame heard => Sys2Proof.Machine.execCanFrameReceived n frame heard s
  | .qheadLock n q => Sys2Proof.Machine.execQheadLock n q s
  | .queueRelease n q => Sys2Proof.Machine.execQueueRelease n q s
  | .spillDone n => Sys2Proof.Machine.execSpillDone n s
  | .txRequest n bufs sof => Sys2Proof.Machine.execTxRequest n bufs sof s
  | .txCancel n bufs => Sys2Proof.Machine.execTxCancel n bufs s
  | .txAttemptEnd n out sof => Sys2Proof.Machine.execTxAttemptEnd n out sof s
  | .busOff n => Sys2Proof.Machine.execBusOff n s
  | .busoffRecovered n => Sys2Proof.Machine.execBusoffRecovered n s
  | .stuckDominant n => Sys2Proof.Machine.execStuckDominant n s
  | .inputRawChange n level win => Sys2Proof.Machine.execInputRawChange n level win s
  | .inputEdge n => Sys2Proof.Machine.execInputEdge n s
  | .pulseSample n level win => Sys2Proof.Machine.execPulseSample n level win s
  | .wireBreakMeasure n low => Sys2Proof.Machine.execWireBreakMeasure n low s
  | .outputOverloadTrip m => Sys2Proof.Machine.execOutputOverloadTrip m s
  | .outputThermalShutdown m => Sys2Proof.Machine.execOutputThermalShutdown m s
  | .openLoadDetect m => Sys2Proof.Machine.execOpenLoadDetect m s
  | .vfldMeasure v copy => Sys2Proof.Machine.execVfldMeasure v copy s
  | .vfldThreshold cond enter => Sys2Proof.Machine.execVfldThreshold cond enter s
  | .scrubRead region e err raced lag busy => Sys2Proof.Machine.execScrubRead region e err raced lag busy s
  | .telemetryDue u late adv => Sys2Proof.Machine.execTelemetryDue u late adv s
  | .nonceExpiry => Sys2Proof.Machine.execNonceExpiry s
  | .authLockExpiry => Sys2Proof.Machine.execAuthLockExpiry s
  | .tapSecChal purpose level => Sys2Proof.Machine.execTapSecChal purpose level s
  | .tapSecOpen level => Sys2Proof.Machine.execTapSecOpen level s
  | .tapIdcode => Sys2Proof.Machine.execTapIdcode s
  | .tapBypass => Sys2Proof.Machine.execTapBypass s
  | .tapExtest => Sys2Proof.Machine.execTapExtest s
  | .tapSamplePreload => Sys2Proof.Machine.execTapSamplePreload s
  | .debugHalt core op => Sys2Proof.Machine.execDebugHalt core op s
  | .trstLow => Sys2Proof.Machine.execTrstLow s
  | .porstAssert bor => Sys2Proof.Machine.execPorstAssert bor s
  | .warmReset => Sys2Proof.Machine.execWarmReset s
  | .resetRelease otpBad x32 => Sys2Proof.Machine.execResetRelease otpBad x32 s
  | .strapLatch samples => Sys2Proof.Machine.execStrapLatch samples s
  | .pllLock p bad => Sys2Proof.Machine.execPllLock p bad s
  | .pllLockRetry p ok bad => Sys2Proof.Machine.execPllLockRetry p ok bad s
  | .memoryClearDone bad => Sys2Proof.Machine.execMemoryClearDone bad s
  | .firmwareImageChecked => Sys2Proof.Machine.execFirmwareImageChecked s
  | .islandResetWrite v => Sys2Proof.Machine.execIslandResetWrite v s
  | .islandResetAccess i_ => Sys2Proof.Machine.execIslandResetAccess i_ s
  | .mainClockLoss xin => Sys2Proof.Machine.execMainClockLoss xin s
  | .safetyClockLoss sxin => Sys2Proof.Machine.execSafetyClockLoss sxin s
  | .clockFaultReset => Sys2Proof.Machine.execClockFaultReset s
  | .referenceMismatchWindow dev => Sys2Proof.Machine.execReferenceMismatchWindow dev s
  | .x32Loss => Sys2Proof.Machine.execX32Loss s
  | .forwardedClockStop stays => Sys2Proof.Machine.execForwardedClockStop stays s
  | .supplyWarning rail low => Sys2Proof.Machine.execSupplyWarning rail low s
  | .vdrvOutOfRange v => Sys2Proof.Machine.execVdrvOutOfRange v s
  | .vdrvCollapse v => Sys2Proof.Machine.execVdrvCollapse v s
  | .dieTempUpdate log fld => Sys2Proof.Machine.execDieTempUpdate log fld s
  | .enDlNChange high at_ => Sys2Proof.Machine.execEnDlNChange high at_ s
  | .registerWrite addr v => Sys2Proof.Machine.execRegisterWrite addr v s
  | .legCompareEvent leg b => Sys2Proof.Machine.execLegCompareEvent leg b s
  | .syncClkEdge near low => Sys2Proof.Machine.execSyncClkEdge near low s
  | .stoInputHigh b => Sys2Proof.Machine.execStoInputHigh b s
  | .vdrvInRange v => Sys2Proof.Machine.execVdrvInRange v s
  | .portLinkChange p up => Sys2Proof.Machine.execPortLinkChange p up s
  | .canBusError n err => Sys2Proof.Machine.execCanBusError n err s
  | .busIntegrationDone n => Sys2Proof.Machine.execBusIntegrationDone n s
  | .rxReadWaitEnd k => Sys2Proof.Machine.execRxReadWaitEnd k s
  | .symbolError x => Sys2Proof.Machine.execSymbolError x s
  | .virtualMasterTimeout k => Sys2Proof.Machine.execVirtualMasterTimeout k s
  | .fdbAgeing mac => Sys2Proof.Machine.execFdbAgeing mac s
  | .frameEgress p stamp => Sys2Proof.Machine.execFrameEgress p stamp s
  | .gptpTimerDue p kind => Sys2Proof.Machine.execGptpTimerDue p kind s
  | .pdelayRespReceived p sequence stamp t2 t3 => Sys2Proof.Machine.execPdelayRespReceived p sequence stamp t2 t3 s
  | .announceReceived p bytes => Sys2Proof.Machine.execAnnounceReceived p bytes s
  | .dieLinkParityError => Sys2Proof.Machine.execDieLinkParityError s

end Sys2Proof.Machine
end

