-- ==== Sys2Proof/Safety.lean ====
section
/-!
DEFINITION. The vocabulary of the claims: a sound state (the register file, the memories and the flash stand in their one canonical
form, so that equal contents are equal data), a host command that reaches its step 8, and an engine that issues an instruction.
-/

namespace Sys2Proof.Machine

/-- Memory in canonical form: addresses strictly rising, no byte listed that an unlisted address reads as anyway. -/
def Memory.wf (m : SMap Byte) : Bool := SMap.wf memDefault m

def Registers.wf (m : SMap Word) : Bool := SMap.wf regReset m

def Flash.wf (m : SMap Byte) : Bool := SMap.wf flashDefault m

/-- The invariant of the model's stores. -/
structure State.Sound (s : State) : Prop where
  regs : Registers.wf s.regs = true
  mem : Memory.wf s.mem = true
  flash : Flash.wf s.flash = true

/-- A step that answers a next state: neither a fault nor a refusal. -/
def completes (s : State) : Prop := ∃ t, step s = .next t

/-- A byte of the ranges reserved for the firmware's speed task (R52): its program and its data in one of the engines. -/
def inSpeedTask (a : Nat) : Prop :=
  ∃ e, e < 16 ∧ (progBase e + 0x17800 ≤ a ∧ a < progBase e + 0x18000 ∨ dataBase e + 0xFC00 ≤ a ∧ a < dataBase e + 0x10000)

/-- From `s` to `t` no byte of memory changes but those of the speed task, which an entry to SafeOff or Recovery may write (R34). -/
def State.keepsMemory (s t : State) : Prop := ∀ a, ¬ inSpeedTask a → t.rd8 a = s.rd8 a

/-- The tags of the internal fabric balance (R426); between two commands no shared tag is held. -/
def State.tagsBalance (s : State) : Prop :=
  s.tags.issued = s.tags.returned + (bitsOf 64 s.tags.held).length ∧ 16 ≤ s.tags.turn ∧ s.tags.turn < 64 ∧
    ∀ n, 16 ≤ n → s.tags.held.testBit n = false

/-! ## Host commands -/

/-- The service entry of a command presented directly (assumption log 7). -/
def State.entry (s : State) (op : Nat) (c : HostCmd) : InService := ⟨op, decide (1 ≤ s.avail c.ch.val), false, c, false, false⟩

/-- The command of opcode `op`, presented on an idle channel, passes steps 1 to 7 of R271 and reaches its step 8. -/
def State.serves (s : State) (op : Nat) (c : HostCmd) : Bool :=
  s.supRuns && (s.chan c.ch.val).inService.isEmpty && (s.chan c.ch.val).posted.isEmpty && s.rspRoom c.ch.val &&
  (s.checkCommand c.ch.val (s.entry op c)).isNone

/-- The state in which step 8 of that command acts: its credit in flight, the command at the head of its channel's service queue
and its buffers with the firmware. -/
def State.atStep8 (s : State) (op : Nat) (c : HostCmd) : State :=
  let k := c.ch.val
  let e := { s.entry op c with checked := true }
  let t := s.put (F.MBX_CRED_INFL k) (s.fld (F.MBX_CRED_INFL k) + 1)
  let t := t.modChan k (fun x => { x with inService := [e] })
  let t := t.modChan k (fun x => { x with inService := { e with checked := true, started := true } :: x.inService.tail })
  t.takeAttached k c

/-! ## Engine instructions -/

/-- CE_e issues an instruction of datapath `path` from slot `k` and performs it: the running slot is `k`, no breakpoint holds it, its word has
no uncorrectable error, and the instruction belongs to the activation's datapath (R27, R76, R439). -/
def State.performs (s : State) (e k path : Nat) : Bool :=
  s.issuing e == some k && !(s.sec.brks.contains (e, (s.bank e k).pc) && !s.sec.stepping.testBit e) &&
  !s.badAt (codeAddr e (s.bank e k).pc) && (path == pathBoth || path == (s.bank e k).dp)

/-- The bank of a slot with the program offset past the instruction it issues. -/
def Slot.next (b : Slot) : Slot := { b with pc := b.pc + 4 }

/-- The whole effect of an instruction that CE_e performs for slot `k`: `body` acts with the program offset already past the
instruction, the hardware loops that end there pass (R59), and a debugger's step is used up (R439). -/
def State.performed (s : State) (e k : Nat) (body : State → State) : State :=
  let t := body (s.setBank e k (s.bank e k).next)
  let t := t.setBank e k ((t.bank e k).loopPass (s.bank e k).pc 2)
  t.withSec { t.sec with stepping := putBit t.sec.stepping e false }

/-- The frame of an instruction that acts on the registers of slot `k` of CE_e alone: every other slot's bank, every register of the
block, every byte of memory and every other piece of state stands; only a debugger's step is used up. -/
def State.sameButBank (s t : State) (e k : Nat) : Prop :=
  (∀ j, j ≠ slotKey e k → t.slot j = s.slot j) ∧ (t.withSlots s.slots).withSec s.sec = s ∧
    t.sec = { s.sec with stepping := putBit s.sec.stepping e false }

/-- exec of `i` answers a next state in which slot `k` of CE_e holds the bank `b` (after the hardware loops that end there), and
nothing else has changed. -/
def State.writesBank (s : State) (i : Instr) (e k : Nat) (b : Slot) : Prop :=
  ∃ t, exec i s = .next t ∧ t.bank e k = b.loopPass (s.bank e k).pc 2 ∧ s.sameButBank t e k

/-- CE_e issues an instruction that belongs to the other datapath than its activation's (R27): the running slot is `k`, no
breakpoint holds it and its word has no uncorrectable error. -/
def State.wrongPath (s : State) (e k path : Nat) : Bool :=
  s.issuing e == some k && !(s.sec.brks.contains (e, (s.bank e k).pc) && !s.sec.stepping.testBit e) &&
  !s.badAt (codeAddr e (s.bank e k).pc) && path != pathBoth && path != (s.bank e k).dp

/-- The engine of an instruction of the run datapath (R in the Path column of R59). -/
def runEngine : Instr → Option (Fin 16)
  | .vclr e => some e
  | .vmul e _ _ => some e
  | .vmac e _ _ => some e
  | .vmsu e _ _ => some e
  | .vmacx e _ _ => some e
  | .macl e _ _ _ _ _ => some e
  | .vsum e => some e
  | .vadd e _ _ _ => some e
  | .vsub e _ _ _ => some e
  | .vabs e _ _ => some e
  | .mva e _ _ => some e
  | .mvas e _ _ _ => some e
  | .vmva e _ => some e
  | _ => none

/-- The engine of an instruction of the precise datapath (P in the Path column of R59). -/
def preciseEngine : Instr → Option (Fin 16)
  | .pclr e _ => some e
  | .pmul e _ _ _ => some e
  | .pmac e _ _ _ => some e
  | .pmsu e _ _ _ => some e
  | .padd e => some e
  | .psha e _ _ => some e
  | .pmve e _ _ => some e
  | .pmves e _ _ _ => some e
  | _ => none

/-- An exact value in `w` signed bits: beyond the range, the full-scale value of its sign (R54, R55). -/
def fullScale (w : Nat) (x : Int) : Int :=
  if (2 : Int) ^ (w - 1) - 1 < x then 2 ^ (w - 1) - 1 else if x < -(2 : Int) ^ (w - 1) then -(2 : Int) ^ (w - 1) else x

/-- The regions of the address map (spec/01, "Address map"), first and last byte. -/
def addressMap : List (Nat × Nat) :=
  [(0x00000000, 0x0001FFFF), (0x04000000, 0x0407FFFF), (0x10000000, 0x103FFFFF), (0x20000000, 0x201FFFFF)] ++
  (List.range 16).flatMap (fun n => [(0x30000000 + n * 0x40000, 0x30017FFF + n * 0x40000),
    (0x30020000 + n * 0x40000, 0x3002FFFF + n * 0x40000), (0x30030000 + n * 0x40000, 0x30030FFF + n * 0x40000)]) ++
  [(0x40000000, 0x4000FFFF), (0x40010000, 0x40017FFF), (0x40018000, 0x4001FFFF)] ++
  (List.range 16).map (fun n => (0x40020000 + n * 0x800, 0x400207FF + n * 0x800)) ++
  [(0x40030000, 0x40037FFF), (0x40038000, 0x4003FFFF), (0x40040000, 0x4004FFFF), (0x40050000, 0x4005FFFF),
    (0x40060000, 0x4006FFFF), (0x50000000, 0x50007FFF), (0x50008000, 0x5000FFFF), (0x50010000, 0x50017FFF),
    (0x50018000, 0x5001FFFF), (0x50020000, 0x5002FFFF), (0x50030000, 0x5003FFFF), (0x60000000, 0x6000FFFF),
    (0x60010000, 0x6001FFFF)] ++
  (List.range 8).map (fun n => (0x60020000 + n * 0x1000, 0x60020FFF + n * 0x1000)) ++
  [(0x60030000, 0x6003FFFF), (0x60040000, 0x6004FFFF), (0x70000000, 0x70003FFF), (0x70004000, 0x70007FFF),
    (0x70008000, 0x7000BFFF)]

end Sys2Proof.Machine
end

