-- ==== Sys2Proof/Certificates/Slice0/Obligations.lean ====
section
/-!
DEFINITION. The statements for the provers: twenty-three about the whole block, its stores, its queue, its engines, the Weir, the
mailbox, Update, time and reset, and thirty-six that say, clause by clause, in which next state every command completes.
-/

section Slice0
open Sys2Proof Sys2Proof.Machine

/-- The state after reset is sound: its register file, its memory and its flash each list strictly rising addresses and no
entry equal to what an unlisted address reads as. -/
def Obligations.ResetIsSound : Prop := State.reset.Sound

/-- For every state whose register file, memory and flash stand in canonical form, if a step answers a next state, its
register file, memory and flash stand in canonical form too: whatever command is in front, equal contents stay equal
data. The canonical form is the model's own (a register file, memory and flash held sparsely). -/
def Obligations.EveryStepKeepsSound : Prop :=
  ∀ s t : State, s.Sound → step s = .next t → t.Sound

/-- For every command c, queue rest and state s, a step of s with c in front of rest is exec of c on s with queue rest; on
an empty queue the step answers the state unchanged (the idling is the model's choice, assumption log 1). -/
def Obligations.StepRunsTheFrontCommand : Prop :=
  (∀ (c : Instr) (rest : List Instr) (s : State), step (s.withPending (c :: rest)) = exec c (s.withPending rest)) ∧
    ∀ s : State, s.pending = [] → step s = .next s

/-- For every command c, queue rest and state s, if a step of s with c in front of rest answers a next state, its queue is
rest: no command adds, drops or reorders waiting commands. -/
def Obligations.StepKeepsTheQueueBehind : Prop :=
  ∀ (c : Instr) (rest : List Instr) (s t : State), step (s.withPending (c :: rest)) = .next t → t.pending = rest

/-- Every command other than REGISTER_WRITE answers a next state from every state. REGISTER_WRITE answers the fault busError
exactly when SUP runs and the address lies outside the address map, and a next state otherwise. -/
def Obligations.OnlyABusErrorStops : Prop :=
  (∀ (i : Instr) (s : State), (∀ a v, i ≠ .registerWrite a v) → ∃ t, exec i s = .next t) ∧
    ∀ (a : Nat) (v : Word) (s : State),
      (s.supRuns = true ∧ inMap a = false → exec (.registerWrite a v) s = .fault .busError) ∧
      (s.supRuns = false ∨ inMap a = true → ∃ t, exec (.registerWrite a v) s = .next t)

/-- While SUP runs, a REGISTER_WRITE to an address that no range of the address map holds ends in the fault busError, and to
an address that a range holds it answers a next state. -/
def Obligations.AccessOutsideTheMap : Prop :=
  ∀ (a : Nat) (v : Word) (s : State), s.supRuns = true →
    ((∀ r ∈ addressMap, ¬ (r.1 ≤ a ∧ a ≤ r.2)) → exec (.registerWrite a v) s = .fault .busError) ∧
    ((∃ r ∈ addressMap, r.1 ≤ a ∧ a ≤ r.2) → ∃ t, exec (.registerWrite a v) s = .next t)

/-- After reset the mode is Reset, no command waits, memory lists nothing, no feature is committed, each of the 16 channels
has a credit limit of 8, no credit in flight and both of its indices that the device writes at 0, every axis is
Disabled, all 2048 buffers are free and count as free, no aperture slot is valid, and the credit equality holds. -/
def Obligations.ResetOfTheHostWindow : Prop :=
  let s := State.reset
  s.curMode = modeReset ∧ s.pending = [] ∧ s.mem = [] ∧ s.committed = false ∧
    (∀ k : Fin 16, s.fld (F.MBX_CRED_LIMIT k) = 8 ∧ s.fld (F.MBX_CRED_INFL k) = 0 ∧ s.fld (HW.cmdci k) = 0 ∧
      s.fld (HW.rsppi k) = 0 ∧ s.axState k = axDisabled) ∧
    (∀ b : Fin 2048, s.owner b = 0) ∧ (∀ i : Fin 128, s.flag (F.MBX_APMAP_V i) = false) ∧
    s.fld F.MBX_RSVFREE_FREE = 2048 ∧ s.creditOk = true

/-- For every engine instruction of the run or the precise datapath that slot k of CE_e issues in an activation of the other
datapath: the next state sets CE.STAT.DPVIOL and asserts the engine's source EV_(8e+6), of class U, in the Weir; every
register, accumulator, pointer and the status register of the bank, every other slot, the memory (but for the words of
the speed task, which an entry to SafeOff or Recovery may write) and the engines keep their values, and the program
offset moves past the instruction. -/
def Obligations.WrongDatapathIsNotPerformed : Prop :=
  (∀ (i : Instr) (e : Fin 16) (k : Nat) (s : State),
    (runEngine i = some e ∧ s.wrongPath e k pathRun = true ∨ preciseEngine i = some e ∧ s.wrongPath e k pathPrecise = true) →
    ∃ t, exec i s = .next t ∧
      t = s.performed e k (fun u => (u.put (F.CE_STAT_DPVIOL e) 1).assertEv (evAxis e 6)) ∧
      t.bank e k = (s.bank e k).next.loopPass (s.bank e k).pc 2 ∧
      (t.bank e k).x = (s.bank e k).x ∧ (t.bank e k).a = (s.bank e k).a ∧ (t.bank e k).e = (s.bank e k).e ∧
      (t.bank e k).p = (s.bank e k).p ∧ (t.bank e k).sr = (s.bank e k).sr ∧
      (∀ j, j ≠ slotKey e k → t.slot j = s.slot j) ∧ s.keepsMemory t ∧ t.engines = s.engines) ∧
    ∀ e : Fin 16, State.reset.srcClass (evAxis e 6) = classU

/-- When slot k of CE_e issues an undefined encoding, a hardware loop of 0 passes, or a scan of 0 or of more than 4096
elements, or misuses a stack (a ninth nested CALL, a RET with none, a third nested loop): the next state sets
CE.STAT.STKERR for the misuse alone, asserts the class U source EV_(8e+6), and ends the activation with both stacks
empty; the registers, accumulators, pointers, status register and memory (but for the words of the speed task) keep
their values. -/
def Obligations.MisuseEndsTheActivation : Prop :=
  (∀ (i : Instr) (e : Fin 16) (k : Fin 8) (s : State), s.performs e k pathBoth = true →
    (∀ (undefined misused : Prop) [Decidable misused],
      (undefined ↔ i = .illegalInstruction e ∨ (∃ l, i = .loop_ e (.imm 0) l) ∨
        ∃ d x p n ecc m, (i = .maxi e d x p n ecc m ∨ i = .mini e d x p n ecc m) ∧ (n = 0 ∨ 4096 < n)) →
      (misused ↔ (∃ l, i = .call_ e l ∧ 8 ≤ (s.bank e k).ret.length) ∨ (i = .ret_ e ∧ (s.bank e k).ret = []) ∨
        ∃ n l, i = .loop_ e n l ∧ n ≠ .imm 0 ∧ 2 ≤ (s.bank e k).loops.length) → undefined ∨ misused →
    ∃ t, exec i s = .next t ∧
      t = s.performed e k (fun u => (if misused then u.put (F.CE_STAT_STKERR e) 1 else u).illegal e k) ∧
      (t.engine e).active.testBit k = false ∧ (t.bank e k).ret = [] ∧ (t.bank e k).loops = [] ∧
      (t.bank e k).x = (s.bank e k).x ∧ (t.bank e k).a = (s.bank e k).a ∧ (t.bank e k).e = (s.bank e k).e ∧
      (t.bank e k).p = (s.bank e k).p ∧ (t.bank e k).pbase = (s.bank e k).pbase ∧ (t.bank e k).plen = (s.bank e k).plen ∧
      (t.bank e k).sr = (s.bank e k).sr ∧ s.keepsMemory t)) ∧
    ∀ e : Fin 16, State.reset.srcClass (evAxis e 6) = classU

/-- For VMAC, VMSU, VMACX, MACL and VSUM over a0 to a3, and PMAC, PMSU and PADD over e0 and e1: the accumulator takes the
exact sum where it lies within 40 or 56 bits and else the full-scale value of its sign; the other accumulators, the
registers, the engines and the memory (but for the words of the speed task) stay; when a sum saturates, CE.STAT.ACCSAT
of the engine is set and its source EV_(8e+5), of class C, asserted; the instruction completes and the program offset
moves on. -/
def Obligations.AccumulatorsSaturate : Prop :=
  let run := fun (i : Instr) (e : Fin 16) (k : Nat) (s : State) (l : List Nat) (x : Nat → Int) =>
    ∃ t, exec i s = .next t ∧ (∀ j ∈ l, ((t.bank e k).acc j).toInt = fullScale 40 (x j)) ∧
      (∀ j, j ∉ l → (t.bank e k).acc j = (s.bank e k).acc j) ∧ (t.bank e k).x = (s.bank e k).x ∧
      t.engines = s.engines ∧ s.keepsMemory t ∧
      ∃ b : Slot, t = s.performed e k (fun u => if l.all (fun j => x j == fullScale 40 (x j)) then u.setBank e k b
        else ((u.setBank e k b).put (F.CE_STAT_ACCSAT e) 1).assertEv (evAxis e 5))
  let precise := fun (i : Instr) (e : Fin 16) (k : Nat) (s : State) (j : Nat) (x : Int) =>
    ∃ t, exec i s = .next t ∧ ((t.bank e k).pacc j).toInt = fullScale 56 x ∧
      (∀ m, m ≠ j → (t.bank e k).pacc m = (s.bank e k).pacc m) ∧ (t.bank e k).x = (s.bank e k).x ∧
      t.engines = s.engines ∧ s.keepsMemory t ∧
      ∃ b : Slot, t = s.performed e k (fun u => if x == fullScale 56 x then u.setBank e k b
        else ((u.setBank e k b).put (F.CE_STAT_ACCSAT e) 1).assertEv (evAxis e 5))
  (∀ (e : Fin 16) (k : Nat) (s : State), s.performs e k pathRun = true →
    (∀ f g : Fin 8,
      run (.vmac e f g) e k s [0, 1, 2, 3] (fun j => ((s.bank e k).acc j).toInt +
        lane ((s.bank e k).pair f) j * lane ((s.bank e k).pair g) j) ∧
      run (.vmsu e f g) e k s [0, 1, 2, 3] (fun j => ((s.bank e k).acc j).toInt -
        lane ((s.bank e k).pair f) j * lane ((s.bank e k).pair g) j) ∧
      run (.vmacx e f g) e k s [0, 1, 2, 3] (fun j => ((s.bank e k).acc j).toInt +
        lane ((s.bank e k).pair f) j * lane ((s.bank e k).pair g) ([1, 0, 3, 2].getD j 0))) ∧
    (∀ (c : Fin 4) (a b : Fin 16) (ah bh : Bool),
      run (.macl e c a ah b bh) e k s [c.val] (fun j => ((s.bank e k).acc j).toInt +
        half ((s.bank e k).xr a) ah * half ((s.bank e k).xr b) bh)) ∧
    run (.vsum e) e k s [0] (fun _ => ((s.bank e k).acc 0).toInt + ((s.bank e k).acc 1).toInt +
      ((s.bank e k).acc 2).toInt + ((s.bank e k).acc 3).toInt)) ∧
  (∀ (e : Fin 16) (k : Nat) (s : State), s.performs e k pathPrecise = true →
    (∀ (c : Fin 2) (a b : Fin 16),
      precise (.pmac e c a b) e k s c (((s.bank e k).pacc c).toInt + low24 ((s.bank e k).xr a) * low24 ((s.bank e k).xr b)) ∧
      precise (.pmsu e c a b) e k s c (((s.bank e k).pacc c).toInt - low24 ((s.bank e k).xr a) * low24 ((s.bank e k).xr b))) ∧
    precise (.padd e) e k s 0 (((s.bank e k).pacc 0).toInt + ((s.bank e k).pacc 1).toInt)) ∧
  ∀ e : Fin 16, State.reset.srcClass (evAxis e 5) = classC

/-- For MVA and MVAS the destination register takes v * 2^s rounded to nearest with halves up, for VMVA each lane v * 2^(s -
15), for PMVE and PMVES v * 2^(s - 23), each saturated to 32, 16 or 24 bits, with s the task's SCALE or the immediate;
the other registers, the accumulators and the pointers stay; SATM in the status register and CE.STAT.SATM are set
exactly when a value saturates, and nothing else changes in the status register. -/
def Obligations.MovesScaleRoundSaturate : Prop :=
  let scaled := fun (v s : Int) => ⌊(v : ℚ) * (2 : ℚ) ^ s + 1 / 2⌋
  let scale := fun (s : State) (e : Fin 16) (k : Nat) => (BitVec.ofNat 4 (s.fld (F.CE_TASKCFG_SCALE e k))).toInt
  let moved := fun (i : Instr) (e : Fin 16) (k : Nat) (s : State) (w : Nat) (l : List Nat) (y : Nat → Int) (z : Slot → Nat → Int)
      (kept : Nat → Prop) =>
    ∃ t, exec i s = .next t ∧ (∀ j ∈ l, z (t.bank e k) j = fullScale w (y j)) ∧
      (∀ r, kept r → (t.bank e k).xr r = (s.bank e k).xr r) ∧ (t.bank e k).a = (s.bank e k).a ∧
      (t.bank e k).e = (s.bank e k).e ∧ (t.bank e k).p = (s.bank e k).p ∧
      (if l.all (fun j => y j == fullScale w (y j)) then (t.bank e k).sr = (s.bank e k).sr ∧ t.regs = s.regs
        else (t.bank e k).flag bitSatm = true ∧ t = (t.withRegs s.regs).put (F.CE_STAT_SATM e) 1) ∧
      t.weir = s.weir ∧ t.mem = s.mem ∧ t.engines = s.engines
  (∀ (e : Fin 16) (k : Nat) (s : State), s.performs e k pathRun = true →
    (∀ (d : Fin 16) (c : Fin 4),
      moved (.mva e d c) e k s 32 [0] (fun _ => scaled ((s.bank e k).acc c).toInt (scale s e k))
        (fun b _ => (b.xr d).toInt) (fun r => r ≠ d.val)) ∧
    (∀ (d : Fin 16) (c : Fin 4) (n : BitVec 4),
      moved (.mvas e d c n) e k s 32 [0] (fun _ => scaled ((s.bank e k).acc c).toInt n.toInt)
        (fun b _ => (b.xr d).toInt) (fun r => r ≠ d.val)) ∧
    (∀ d : Fin 8,
      moved (.vmva e d) e k s 16 [0, 1, 2, 3] (fun j => scaled ((s.bank e k).acc j).toInt (scale s e k - 15))
        (fun b j => lane (b.pair d) j) (fun r => r / 2 ≠ d.val))) ∧
  (∀ (e : Fin 16) (k : Nat) (s : State), s.performs e k pathPrecise = true →
    (∀ (d : Fin 16) (c : Fin 2),
      moved (.pmve e d c) e k s 24 [0] (fun _ => scaled ((s.bank e k).pacc c).toInt (scale s e k - 23))
        (fun b _ => (b.xr d).toInt) (fun r => r ≠ d.val)) ∧
    (∀ (d : Fin 16) (c : Fin 2) (n : BitVec 4),
      moved (.pmves e d c n) e k s 24 [0] (fun _ => scaled ((s.bank e k).pacc c).toInt (n.toInt - 23))
        (fun b _ => (b.xr d).toInt) (fun r => r ≠ d.val)))

/-- For MAXI and MINI over 1 to 4096 signed 16-bit elements from a pointer that the task may read, none in an island held in
reset and none in a word known to be uncorrectable, in a scan that starts afresh and is not preempted: the next state
holds in one register the element number, counted from 0, of the largest (smallest) element, the lowest one where the
value occurs more than once, and in the other register, where it is another one, that value; the other registers and the
pointer keep their values. An element that reads a running carrier has the free value that the scan draws (assumption
log 39). -/
def Obligations.ScansFindTheFirstBest : Prop :=
  ∀ (e d i : Fin 16) (k : Nat) (p : Fin 8) (n : Nat) (s : State) (max : Bool) (addr : Nat → Nat → Nat) (elem : Nat → Int),
    s.performs e k pathBoth = true → (s.bank e k).scan = none → 1 ≤ n ∧ n ≤ 4096 →
    (∀ j o, addr j o = ((s.bank e k).fold p (((s.bank e k).ptr p).toNat + (2 * j + o : Nat))).toNat) →
    (∀ j, j < n → ∀ o, o < 2 → s.mayAccess e k false (addr j o) = true ∧ s.islandDown (addr j o) = false ∧ s.badAt (addr j o) = false) →
    (∀ j, elem j = (BitVec.ofNat 16 ((s.engByte (s.draw.1 % 2 ^ 18) (addr j 0)).toNat +
      256 * (s.engByte (s.draw.1 % 2 ^ 18) (addr j 1)).toNat)).toInt) →
    ∃ t j, exec (if max then .maxi e d i p n 0 ⟨0, 0⟩ else .mini e d i p n 0 ⟨0, 0⟩) s = .next t ∧ j < n ∧
      (t.bank e k).xr i = BitVec.ofNat 32 j ∧ (d ≠ i → ((t.bank e k).xr d).toInt = elem j) ∧
      (∀ m, m < n → if max then elem m ≤ elem j else elem j ≤ elem m) ∧
      (∀ m, m < j → elem m ≠ elem j) ∧ (∀ r, r ≠ d.val → r ≠ i.val → (t.bank e k).xr r = (s.bank e k).xr r) ∧
      (t.bank e k).p = (s.bank e k).p ∧ s.draw.2.sameButBank t e k

/-- With a buffer of length L > 0 at base B and no uncorrectable word met, LD with post-modification by any step reads the
four bytes at B + (P + j - B) mod L and leaves the pointer at B + (P + step - B) mod L, the other pointers unchanged.
SETC of an odd length sets length 0 and V; of an even length up to 65534 it sets the length and the base and changes no
flag and no pointer. Folding each byte of an access is the model's reading (assumption log 17). -/
def Obligations.CircularLoads : Prop :=
  (∀ (e d : Fin 16) (k : Nat) (p : Fin 8) (step : Word) (s : State) (L : Int) (base : Int) (ptr : Int) (A : Nat → Nat),
    s.performs e k pathBoth = true → L = (s.bank e k).len p → base = ((s.bank e k).base p).toNat →
    ptr = ((s.bank e k).ptr p).toNat → 0 < L → base + L ≤ 2 ^ 32 →
    (∀ j, A j = (base + (ptr + j - base) % L).toNat) → (∀ j, j < 4 → ownData e (A j) = true ∧ s.badAt (A j) = false) →
    ∃ t, exec (.ld e d (.post p step) 0) s = .next t ∧
      (t.bank e k).xr d = s.rd8 (A 3) ++ s.rd8 (A 2) ++ s.rd8 (A 1) ++ s.rd8 (A 0) ∧
      (((t.bank e k).ptr p).toNat : Int) = base + (ptr + step.toInt - base) % L ∧
      (∀ q, q ≠ p.val → (t.bank e k).ptr q = (s.bank e k).ptr q) ∧ s.sameButBank t e k) ∧
  (∀ (e b l : Fin 16) (k : Nat) (p : Fin 8) (s : State), s.performs e k pathBoth = true →
    ((s.bank e k).xr l).toNat % 2 = 1 →
    ∃ t, exec (.setc e p b l) s = .next t ∧ (t.bank e k).len p = 0 ∧ (t.bank e k).flag bitV = true ∧ s.sameButBank t e k) ∧
  ∀ (e b l : Fin 16) (k : Nat) (p : Fin 8) (s : State), s.performs e k pathBoth = true →
    ((s.bank e k).xr l).toNat % 2 = 0 → ((s.bank e k).xr l).toNat ≤ 65534 →
    ∃ t, exec (.setc e p b l) s = .next t ∧ (t.bank e k).len p = ((s.bank e k).xr l).toNat ∧
      (t.bank e k).base p = (s.bank e k).xr b ∧ (t.bank e k).sr = (s.bank e k).sr ∧
      (t.bank e k).p = (s.bank e k).p ∧ s.sameButBank t e k

/-- For every bank, addressing form, access size and byte address: when the pointer of the form is circular with length L >
0 and base B, every byte that the access touches lies in B .. B + L - 1. Folding each byte of an access is the model's
reading (assumption log 17). -/
def Obligations.CircularAccessesStayInside : Prop :=
  ∀ (b : Slot) (m : Addr) (n a : Nat), 0 < b.len (addrPtr m) → (b.base (addrPtr m)).toNat + b.len (addrPtr m) ≤ 2 ^ 32 →
    a ∈ b.bytesOf m n → (b.base (addrPtr m)).toNat ≤ a ∧ a < (b.base (addrPtr m)).toNat + b.len (addrPtr m)

/-- For every positive operand x, RSQ completes and its destination differs from 2^31 / sqrt(x) by at most 2^-14 of that
value; nothing but the bank changes. Which value within the bound the hardware picks is open; the model's value is
assumption log 17. -/
def Obligations.ReciprocalRootWithinItsBound : Prop :=
  ∀ (e d a : Fin 16) (k : Nat) (s : State), s.performs e k pathBoth = true → 0 < ((s.bank e k).xr a).toInt →
    ∃ t, exec (.rsq e d a) s = .next t ∧
      |(((t.bank e k).xr d).toNat : ℝ) - 2 ^ 31 / Real.sqrt (((s.bank e k).xr a).toNat : ℝ)| ≤
        2 ^ 31 / Real.sqrt (((s.bank e k).xr a).toNat : ℝ) / 2 ^ 14 ∧ s.sameButBank t e k

/-- For an enabled task whose start is the next to arrive on its boundary and whose divider matches, in a mode that does not
allow its datapath: the trigger increments CE.TASKCNT[k].SKIP up to its greatest value, whatever the engine and the axis
do; it leaves the pending start and the overrun count alone, takes the start off its way, and changes no other register,
engine or Weir state. That starts arrive in the order of their sending is R8. -/
def Obligations.SkippedTaskStarts : Prop :=
  ∀ (e : Fin 16) (k : Fin 8) (s : State), s.startNext 0 (slotKey e k) = true → s.computeRuns = true →
    s.flag (F.CE_TASKCFG_EN e k) = true → (s.slot (slotKey e k)).div = s.fld (F.CE_TASKCFG_PHASE e k) → s.taskAllowed e k = false →
    ∃ t, exec (.taskTrigger e k) s = .next t ∧
      t.fld (F.CE_TASKCNT_SKIP e k) =
        (if s.fld (F.CE_TASKCNT_SKIP e k) < 2 ^ (F.CE_TASKCNT_SKIP e k).width - 1 then s.fld (F.CE_TASKCNT_SKIP e k) + 1
          else s.fld (F.CE_TASKCNT_SKIP e k)) ∧
      t.fld (F.CE_STAT_PEND e) = s.fld (F.CE_STAT_PEND e) ∧ t.fld (F.CE_TASKCNT_OVR e k) = s.fld (F.CE_TASKCNT_OVR e k) ∧
      t.engines = s.engines ∧ t.weir = (s.takeStart 0 (slotKey e k)).weir ∧ (∀ a, a ≠ R.CE_TASKCNT e k → t.rd a = s.rd a)

/-- For every source number and state, SOURCE_ASSERT answers a next state whose memory reads as before outside the ranges of
the speed task (an entry to SafeOff or Recovery may write those), and whose flash, channels, sessions, slot banks,
engines, input slots, security state, network state and CAN controllers are those before it. -/
def Obligations.AssertionsTouchOnlyProtection : Prop :=
  ∀ (ev : Fin 256) (s : State), ∃ t, exec (.sourceAssert ev) s = .next t ∧ s.keepsMemory t ∧ t.flash = s.flash ∧
    t.chans = s.chans ∧ t.sessions = s.sessions ∧ t.slots = s.slots ∧ t.engines = s.engines ∧ t.inputs = s.inputs ∧
    t.sec = s.sec ∧ t.net = s.net ∧ t.cans = s.cans

/-- Outside Reset and Standby and with the safety clock running: an assertion of a defined source of EV_0 to EV_191 whose
reaction is none or notify sets its sticky bit and no other; with reaction notify and the bit clear before, the source
joins the notification queue while it holds fewer than 32, else the queue stays and its overflow flag is set; with no
reaction, or the bit already set, the queue stays. EV_192 to EV_227 only reach the event routing and change no register.
A reserved source (class reserved, or EV_228 to EV_255) changes nothing in any mode. -/
def Obligations.AssertionsSetTheirStickyBit : Prop :=
  (∀ (ev : Nat) (h : ev < 256) (s : State), s.curMode ≠ modeReset → s.curMode ≠ modeStandby → s.clk.safetyStopped = false →
    ev < 192 → s.srcClass ev ≠ classReserved → s.fld (F.WEIR_RCT_REACT ev) ≤ 1 →
    ∃ t, exec (.sourceAssert ⟨ev, h⟩) s = .next t ∧ t.flag (stkFld ev) = true ∧
      (∀ j, j < 192 → j ≠ ev → t.flag (stkFld j) = s.flag (stkFld j)) ∧
      (s.fld (F.WEIR_RCT_REACT ev) = 1 → s.flag (stkFld ev) = false → s.weir.nq.length < 32 → t.weir.nq = s.weir.nq ++ [ev]) ∧
      (s.fld (F.WEIR_RCT_REACT ev) = 1 → s.flag (stkFld ev) = false → 32 ≤ s.weir.nq.length →
        t.weir.nq = s.weir.nq ∧ t.flag F.WEIR_NQ_OVF = true) ∧
      (s.fld (F.WEIR_RCT_REACT ev) = 0 ∨ s.flag (stkFld ev) = true → t.weir.nq = s.weir.nq)) ∧
  (∀ (ev : Nat) (h : ev < 256) (s : State), s.curMode ≠ modeReset → s.curMode ≠ modeStandby → s.clk.safetyStopped = false →
    192 ≤ ev → ev < 228 → ∃ t, exec (.sourceAssert ⟨ev, h⟩) s = .next t ∧ t = s.routeEvent ev ∧ t.regs = s.regs) ∧
  ∀ (ev : Nat) (h : ev < 256) (s : State), (ev < 192 ∧ s.srcClass ev = classReserved) ∨ 228 ≤ ev →
    exec (.sourceAssert ⟨ev, h⟩) s = .next s

/-- A write of v to WEIR.STK[i] clears exactly those of its sticky bits where v holds 1 and whose source is not of class F;
every other register and everything else of the state stays, but for the count of the fabric tags, which stay in
balance. The tags are assumed to balance before (the access takes one and returns it, assumption log 39). -/
def Obligations.StickyBitsClearByClass : Prop :=
  ∀ (i : Fin 6) (v : Word) (s : State), s.supRuns = true → s.tagsBalance →
    ∃ t, exec (.registerWrite (R.WEIR_STK i) v) s = .next t ∧
      (∀ j, j < 32 → t.flag (stkFld (32 * i + j)) =
        (s.flag (stkFld (32 * i + j)) && !(v.getLsbD j && s.srcClass (32 * i + j) != classF))) ∧
      (∀ a, a ≠ R.WEIR_STK i → t.rd a = s.rd a) ∧ t.tagsBalance ∧ t.tags.held = s.tags.held ∧
      t = (s.withRegs t.regs).withTags t.tags

/-- Outside Update, a SYS_NOP that reaches step 8 on a channel without a session writes at its channel's response index the
64 bytes of a response with status ST_OK, its tag, no buffers, the phase of the pass and a zero result; no other byte of
memory changes; the response index advances by one modulo 2^16, the command leaves service, and flash, engines and Weir
stay. -/
def Obligations.NopResponse : Prop :=
  ∀ (c : HostCmd) (s : State), s.serves 0x00 c = true → s.curMode ≠ modeUpdate → c.handles = [] → s.chanSession c.ch.val = none →
    ∃ t, exec (.sysNop c) s = .next t ∧
      t.rdBytes (rspSlot c.ch.val (s.fld (HW.rsppi c.ch.val))) 64 =
        [0x00, 0x00, BitVec.ofNat 8 c.tag.toNat, BitVec.ofNat 8 (c.tag.toNat / 256), 0x00, 0x00, 0x00,
          BitVec.ofNat 8 ((1 - s.fld (HW.rsppi c.ch.val) / 32 % 2) * 128)] ++ List.replicate 56 0x00 ∧
      (∀ a, a < rspSlot c.ch.val (s.fld (HW.rsppi c.ch.val)) ∨ rspSlot c.ch.val (s.fld (HW.rsppi c.ch.val)) + 64 ≤ a →
        t.rd8 a = s.rd8 a) ∧
      t.fld (HW.rsppi c.ch.val) = (s.fld (HW.rsppi c.ch.val) + 1) % 65536 ∧
      (t.chan c.ch.val).inService = [] ∧ t.flash = s.flash ∧ t.engines = s.engines ∧ t.weir = s.weir

/-- In Update, with an open transfer whose next offset the command names and whose length its bytes do not exceed: UPD_DATA
puts byte j at slot base + offset + j of the flash, leaves every other flash byte and the OTP as they were, and moves
the next offset by the length. -/
def Obligations.UpdateDataReachesTheFlash : Prop :=
  ∀ (c : HostCmd) (s : State) (u : Update), s.serves 0x94 c = true → s.curMode = modeUpdate → s.sec.upd = some u →
    arg c 0 4 = u.next → arg c 4 4 ≤ (s.updBytes c).length → u.next + arg c 4 4 ≤ u.length →
    ∃ t, exec (.updData c) s = .next t ∧
      (∀ j, j < arg c 4 4 → t.flash8 (slotBase u.slot + u.next + j) = (s.updBytes c).getD j 0) ∧
      (∀ a, a < slotBase u.slot + u.next ∨ slotBase u.slot + u.next + arg c 4 4 ≤ a → t.flash8 a = s.flash8 a) ∧
      t.sec.upd = some { u with next := u.next + arg c 4 4 } ∧ t.sec.otp = s.sec.otp

/-- For a rate within its limit, RATE_REQUEST sets the rate, leaves the counter where its advance since the last event has
brought it, and network time before and after the change differs by at most 2 units of 2^-16 ns. The counter and the
offset are assumed within the range that the time unit keeps. The rounding is assumption log 9. -/
def Obligations.TimeIsContinuousAcrossARateChange : Prop :=
  ∀ (v : Word) (adv new : Nat) (s : State), s.netRuns = true →
    new = (s.rd R.TU_RATEREQL).toNat + v.toNat % 2 ^ (F.TU_RATEREQH_RATE).width * 2 ^ 32 →
    rateNominal - rateLimit ≤ new ∧ new ≤ rateNominal + rateLimit →
    rateNominal - rateLimit ≤ s.tuRate ∧ s.tuRate ≤ rateNominal + rateLimit →
    -2 ^ 78 ≤ s.tuOffset ∧ s.tuOffset ≤ 2 ^ 78 →
    ∃ t, exec (.rateRequest v adv) s = .next t ∧ t.tuRate = new ∧ t.tuCnt = (s.tuCnt + adv) % 2 ^ 64 ∧
      (t.netTime - (s.tuAdvance adv).netTime).natAbs ≤ 2

/-- A warm reset that is due, while a group is Shorted or applying a short one at the request of the SFM, leaves the device
in Reset; WEIR.PREV holds the sticky bits and WEIR.STK none; credits, ring indices, buffer ownership, aperture slots and
the committed features are back at reset; the host window reads 0 and the rest of SRAM, the flash, the OTP and the
waiting commands are kept. Which memory keeps its content is assumption log 21. -/
def Obligations.WarmResetKeepsAndClears : Prop :=
  ∀ s : State, (if s.anyShorted then s.mode.warmDue &&& 16 else s.mode.warmDue) ≠ 0 → s.curMode ≠ modeReset → s.flag F.MBX_INV_CRERR = false → s.flag F.MBX_INV_RSVERR = false →
    ∃ t, exec .warmReset s = .next t ∧ t.curMode = modeReset ∧
      (∀ i, i < 6 → t.rd (R.WEIR_PREV i) = s.rd (R.WEIR_STK i) ∧ t.rd (R.WEIR_STK i) = 0) ∧
      (∀ k : Fin 16, t.fld (F.MBX_CRED_LIMIT k) = 8 ∧ t.fld (HW.cmdpi k) = 0 ∧ t.fld (HW.cmdci k) = 0 ∧
        t.fld (HW.rsppi k) = 0 ∧ t.fld (HW.rspci k) = 0) ∧
      (∀ b : Fin 2048, t.owner b = 0) ∧ (∀ i : Fin 128, t.flag (F.MBX_APMAP_V i) = false) ∧ t.committed = false ∧
      (∀ a, 0x10000000 ≤ a → a < 0x10020000 → t.rd8 a = 0) ∧
      (∀ a, 0x10020000 ≤ a → a < 0x10400000 → t.rd8 a = s.rd8 a) ∧
      t.flash = s.flash ∧ t.sec.otp = s.sec.otp ∧ t.pending = s.pending

/-- Every step of the Spillway, the enable edges and the speed word take effect as their rules say (R125, R126, R127, R128,
R132, R133). Each clause answers the whole next state of its command under conditions on the state and the operands
alone, so whatever it does not write stays. Where a value is the model's choice: assumption log 4, 26. -/
def Obligations.SpillwayStepsComplete : Prop :=
  (∀ (n : Fin 16) (s : State),
    s.islandsRun = true →
    s.gstate n = gsStep1 →
    exec (.spillwayStep2 (.group n)) s = .next (s.step2Group n)) ∧
  (∀ (l : Fin 72) (s : State),
    s.islandsRun = true →
    (s.leg l).off = 1 →
    exec (.spillwayStep2 (.leg l)) s = .next (s.step2Leg l)) ∧
  (∀ (k : Fin 16) (s t : State),
    s.islandsRun = true →
    (s.link k).off = 1 →
    t = (s.each [3 * k.val, 3 * k.val + 1, 3 * k.val + 2] (fun l t => t.step2Leg l)).modLink k (fun x => { x with off := 2 }) →
    exec (.spillwayStep2 (.link k)) s = .next (if t.linkState k = linkUp then (t.send k [.softoff 2 0]).flushHeld k else t)) ∧
  (∀ (n : Fin 16) (s : State),
    s.islandsRun = true →
    s.flag (F.SPW_GSTAT_LATCH n) = true →
    (s.group n).phase2 = true →
    exec (.safeStateReached (.group n)) s = .next (s.reportSafe n)) ∧
  (∀ (l : Fin 72) (s : State),
    s.islandsRun = true →
    (s.leg l).off = 2 →
    exec (.safeStateReached (.leg l)) s = .next (s.offReached l)) ∧
  (∀ (k : Fin 16) (s : State),
    s.islandsRun = true →
    (s.link k).off = 2 →
    exec (.safeStateReached (.link k)) s = .next ((s.each [3 * k.val, 3 * k.val + 1, 3 * k.val + 2] (fun l t =>
      t.offReached l)).modLink k (fun x => { x with off := 0 }))) ∧
  (∀ (n : Fin 16) (leg : Fin 72) (s : State),
    s.islandsRun = true →
    s.legGroup leg = some n.val →
    (if s.groupLinked n then s.groupShorted n else s.gstate n == gsApplying) = true →
    exec (.shortApplyFail n leg) s = .next (s.shortFails n leg)) ∧
  (∀ (n : Fin 16) (s : State),
    s.islandsRun = true →
    exec (.effectiveEnableFall n) s = .next ((s.put (F.SPW_GEN_EN n) 0).syncEnable n false false)) ∧
  (∀ (n : Fin 16) (cmp trip : Bool) (s : State),
    s.islandsRun = true →
    exec (.effectiveEnableRise n ⟨cmp, trip⟩) s = .next ((s.put (F.SPW_GEN_EN n) 1).syncEnable n cmp trip)) ∧
  (∀ (high : Bool) (m : EnableMasks) (s t : State),
    t = s.withPins { s.pins with enDl := !high } →
    t.islandsRun = true →
    exec (.enDlNChange high m) s = .next (t.each (t.groupList.filter (fun n => !t.groupLinked n)) (fun n u =>
    u.syncEnable n (m.cmp.toNat.testBit n) (m.trips.toNat.testBit n)))) ∧
  (∀ (n : Fin 16) (fe : FeReading) (s : State),
    s.computeRuns = true →
    s.mode.speedTasks.testBit n = true →
    s.curMode = modeRecovery →
    s.mode.restCheck = none →
    s.islandsRun = true →
    exec (.speedWordWrite n fe) s = .next (s.speedWord n (speedWordOf (s.speedOf n fe.source fe.observer)))) ∧
  (∀ (n : Fin 16) (fe : FeReading) (s t : State),
    s.computeRuns = true →
    s.axState n ≠ axDisabled →
    s.curMode ≠ modeRecovery →
    s.loopMissing n = false →
    s.mode.restCheck = none →
    t = s.overspeed n (s.measuredSpeed n fe.source fe.observer) →
    t.mode.restCheck = none →
    t.islandsRun = true →
    exec (.speedWordWrite n fe) s = .next (t.speedWord n (speedWordOf (s.speedOf n fe.source fe.observer))))

/-- Sluice waits, interlock timeouts, driver detectors and the STO inputs act on their leg or on every group (R111, R114,
R116, R119, R120). Each clause answers the whole next state of its command under conditions on the state and the
operands alone, so whatever it does not write stays. Where a value is the model's choice: assumption log 4, 26. -/
def Obligations.BridgeDetectorsComplete : Prop :=
  (∀ (leg : Fin 72) (wait : Nat) (s t : State),
    s.islandsRun = true →
    (s.leg leg).waitUp = true →
    legLinked leg = true ∨ wait ≤ s.waitLimit leg →
    t = s.modLeg leg (fun x => { x with waitUp := false }) →
    exec (.sluiceRelease leg true wait) s = .next (((t.switchOn leg true).gateReleased leg true).put (F.SLU_LEGSTAT_LASTW leg)
    (if legLinked leg then 0 else wait))) ∧
  (∀ (leg : Fin 72) (wait : Nat) (s t : State),
    s.islandsRun = true →
    (s.leg leg).waitLo = true →
    legLinked leg = true ∨ wait ≤ s.waitLimit leg →
    t = s.modLeg leg (fun x => { x with waitLo := false }) →
    exec (.sluiceRelease leg false wait) s = .next (((t.switchOn leg false).gateReleased leg false).put (F.SLU_LEGSTAT_LASTW leg)
    (if legLinked leg then 0 else wait))) ∧
  (∀ (leg : Fin 72) (upper : Bool) (wait : Nat) (s : State),
    s.islandsRun = true →
    (if upper then (s.leg leg).waitUp else (s.leg leg).waitLo) = true →
    legLinked leg = false →
    s.waitLimit leg < wait →
    exec (.sluiceRelease leg upper wait) s = .next (s.interlockTimeout leg upper)) ∧
  (∀ (leg : Fin 72) (upper : Bool) (s : State),
    s.islandsRun = true →
    (if upper then (s.leg leg).waitUp else (s.leg leg).waitLo) = true →
    exec (.interlockTimeout leg upper) s = .next (s.interlockTimeout leg upper)) ∧
  (∀ (leg : Fin 24) (d : DesatAt) (s t : State),
    s.dieWatches leg = true →
    t = s.put (if d.upper then F.DLD_LEGSTAT_UPDES leg else F.DLD_LEGSTAT_LODES leg) 1 →
    t.flag (if d.upper then F.ES_LEGSTAT_UP (48 + leg.val) else F.ES_LEGSTAT_LO (48 + leg.val)) = true →
    t.blank leg ≤ d.since →
    exec (.desatDetect leg d) s = .next (t.desaturated (48 + leg.val) d.upper)) ∧
  (∀ (leg : Fin 24) (d : DesatAt) (s t : State),
    s.dieWatches leg = true →
    t = s.put (if d.upper then F.DLD_LEGSTAT_UPDES leg else F.DLD_LEGSTAT_LODES leg) 1 →
    t.flag (if d.upper then F.ES_LEGSTAT_UP (48 + leg.val) else F.ES_LEGSTAT_LO (48 + leg.val)) = false ∨ d.since < t.blank leg →
    exec (.desatDetect leg d) s = .next t) ∧
  (∀ (leg : Fin 24) (s : State),
    s.dieWatches leg = true →
    exec (.shuntOvercurrent leg) s = .next ((s.put (F.DLD_LEGSTAT_OC leg) 1).tripLeg (48 + leg.val) causeOc false false)) ∧
  (∀ (leg : Fin 24) (s t : State) l,
    s.dieWatches leg = true →
    l = 48 + leg.val →
    t = (s.put (F.DLD_LEGSTAT_BSUV leg) 1).modLeg l (fun x => { x with bsuvHold := true, bsuvOver := false, waitUp := false }) →
    t.legGroup l = none →
    exec (.bootstrapUv leg true) s = .next ((t.switchOff l true).assertEv 144)) ∧
  (∀ (leg : Fin 24) (s t u v : State) l n p,
    s.dieWatches leg = true →
    l = 48 + leg.val →
    t = (s.put (F.DLD_LEGSTAT_BSUV leg) 1).modLeg l (fun x => { x with bsuvHold := true, bsuvOver := false, waitUp := false }) →
    t.legGroup l = some n →
    p = 2 ^ t.legPos n l →
    u = t.put (F.SPW_CAUSE_BSUV n) 1 →
    v = ((u.put (F.SPW_FLTSW_UP n) (u.fld (F.SPW_FLTSW_UP n) ||| p)).modGroup n (fun g => { g with bsuvUp := if (t.fld (F.SPW_FLTSW_UP n) &&& p) == 0 then g.bsuvUp ||| p else g.bsuvUp })).stepUnc n (F.PU_STEPST_BSUV n) →
    exec (.bootstrapUv leg true) s = .next (State.assertEv (if v.gstate n == gsShortUp then v.beginPass n (.rechoice true) else v.switchOff l true) (evAxis n 3))) ∧
  (∀ (leg : Fin 24) (s : State),
    s.dieWatches leg = true →
    exec (.bootstrapUv leg false) s = .next ((s.put (F.DLD_LEGSTAT_BSUV leg) 0).modLeg (48 + leg.val) (fun x => { x with bsuvOver := x.bsuvHold }))) ∧
  (∀ (b : Bool) (s t u : State),
    t = s.stoPin b false →
    t.islandsRun = true →
    u = (t.put (if b then F.SPW_STOSTAT_STOB else F.SPW_STOSTAT_STOA) 0).syncSto.tripAll causeSto [] →
    exec (.stoInput b) s = .next ((u.hwSafeOff 128 [0] false).assertOwn 128 (u.hwSafeOff 128 [0] false).groupList)) ∧
  (∀ (b : Bool) (s : State),
    (s.stoPin b false).islandsRun = false →
    exec (.stoInput b) s = .next (s.stoPin b false)) ∧
  (∀ (b : Bool) (s t : State),
    t = s.stoPin b true →
    t.islandsRun = true →
    exec (.stoInputHigh b) s = .next ((t.put (if b then F.SPW_STOSTAT_STOB else F.SPW_STOSTAT_STOA) 1).syncSto)) ∧
  (∀ (b : Bool) (s : State),
    (s.stoPin b true).islandsRun = false →
    exec (.stoInputHigh b) s = .next (s.stoPin b true)) ∧
  (∀ (s : State),
    s.islandsRun = true →
    s.flag F.SPW_STOSTAT_STOA ≠ s.flag F.SPW_STOSTAT_STOB →
    exec (.stoDiscrepancy) s = .next ((s.put F.SPW_STOSTAT_DISC 1).assertEv 129))

/-- Task starts, dispatch, budget aborts, doorbells, input-slot pushes and WAITV resumption (R4, R59, R63, R65, R67, R70).
Each clause answers the whole next state of its command under conditions on the state and the operands alone, so
whatever it does not write stays. Where a value is the model's choice: assumption log 4, 5. -/
def Obligations.TaskEventsComplete : Prop :=
  (∀ (e : Fin 16) (k : Fin 8) (s : State),
    s.startNext 0 (slotKey e k) = true →
    exec (.taskTrigger e k) s = .next ((s.takeStart 0 (slotKey e k)).taskEvent e k)) ∧
  (∀ (e : Fin 16) (k : Fin 8) (s : State),
    s.startNext 0 (slotKey e k) = false →
    exec (.taskTrigger e k) s = .next s) ∧
  (∀ (e : Fin 16) (ecc : Fin 3) (s t : State),
    s.engineOn e = true →
    (s.engine e).stall = .none →
    t = s.dropPending e →
    topSlot (t.runnable e) = none →
    exec (.taskDispatch e ecc) s = .next (t.showSlot e none)) ∧
  (∀ (e : Fin 16) (ecc : Fin 3) (s t u : State) k a,
    s.engineOn e = true →
    (s.engine e).stall = .none →
    t = s.dropPending e →
    topSlot (t.runnable e) = some k →
    u = State.showSlot (if (t.engine e).active.testBit k then t else (t.activate e k).loopActivation e k) e (some k) →
    a = codeAddr e (u.slot (slotKey e k)).pc →
    exec (.taskDispatch e ecc) s = .next (if ecc = 2 ∨ u.badAt a = true then (u.markBad a).fetchDouble e
      else if ecc = 1 then (u.put (F.CE_STAT_ECC1 e) 1).assertEv (evAxis e 5)
      else u)) ∧
  (∀ (e : Fin 16) (k : Fin 8) (s : State),
    s.computeRuns = true →
    s.fld (F.CE_TASKBUD_BUDGET e k) ≠ 0 →
    ((s.engine e).active.testBit k || (s.fld (F.CE_STAT_PEND e)).testBit k) = true →
    exec (.taskBudgetAbort e k) s = .next (let s := s.put (F.CE_STAT_PEND e) (putBit (s.fld (F.CE_STAT_PEND e)) k false)
    let s := if (s.engine e).active.testBit k then s.endActivation e k else s
    (s.inc (F.CE_TASKCNT_ABT e k)).assertEv (s.taskSource e k))) ∧
  (∀ (e : Fin 16) (ring : BitVec 8) (s : State),
    exec (.ceDoorbell e ring) s = .next (s.each ((List.range 8).filter (fun k => ring.toNat.testBit k && s.fld (F.CE_TASKCFG_SRC e k) == 4))
    (fun k t => t.taskEvent e k))) ∧
  (∀ (e : Fin 16) (s : State),
    exec (.ceClrcnt e) s = .next (s.each (List.range 8) (fun k t => t.wr (R.CE_TASKCNT e k) 0))) ∧
  (∀ (ty : Fin 16) (idx : Fin 64) (v : Word) (s : State),
    1 ≤ ty.val ∧ ty.val ≤ 7 →
    exec (.inputSlotPush ty idx v) s = .next (s.pushResult ty idx v)) ∧
  (∀ (e : Fin 16) (k : Fin 8) (s : State),
    s.computeRuns = true →
    (s.engine e).waiting.testBit k = true →
    s.slotsValid e (s.slot (slotKey e k)).waitLo (s.slot (slotKey e k)).waitHi = true →
    exec (.waitvResume e k) s = .next (let s := s.modEngine e (fun x => { x with waiting := putBit x.waiting k false })
    s.modSlot (slotKey e k) (fun x => { x with waitLo := 0, waitHi := 0 })))

/-- Filter results, fast comparators, offset calibration and the ADC sequences (R162, R163, R164, R166, R167, R168, R169,
R171, R172, R174). Each clause answers the whole next state of its command under conditions on the state and the
operands alone, so whatever it does not write stays. Where a value is the model's choice: assumption log 5, 6, 27. -/
def Obligations.CurrentSensingCompletes : Prop :=
  (∀ (n : Fin 48) (z since : Nat) (s t u : State) m w v sat,
    s.senseRuns = true →
    s.flag (F.SDF_CFG_EN n) = true →
    s.flag (F.SDF_S3CFG_S3EN n) = true →
    m = Nat.max (s.fld (F.SDF_S3CFG_S3OSR n)) 7 + 1 →
    w = (if s.flag (F.SDF_S3CFG_S3W n) then 24 else 16) →
    filterResult w z (m ^ 3) = (v, sat) →
    t = (if sat then s.put (F.SDF_STAT_S3SAT n) 1 else s) →
    u = t.modSdChan n (fun c => { c with s3Count := (c.s3Count + 1) % 16, calRun := if t.calAllowed n then Nat.min 3 (c.calRun + 1) else 0 }) →
    exec (.sinc3Result n z since) s = .next (
    let word := BitVec.ofNat 32 (sdWord w (t.offsetOf n w (sgn 24 (t.fld (F.SDF_CALOFS_OFS n))) v) (t.spanFaulted n (3 * m - 2) since) sat false
      (t.flag (F.SDF_CFG_OFSEN n)) (t.sdChan n).s3Count)
    let u := if u.fld (F.SDF_CFG_PAWIN n) = 0 then u.calTake n (t.calAllowed n && decide (3 ≤ (t.sdChan n).calRun)) (if w == 24 then v else v * 256) else u
    (u.wr (R.SDF_S3RES n) word).pushResult 2 n word)) ∧
  (∀ (n : Fin 48) (sum k since : Nat) (s : State) x xs m v sat,
    s.senseRuns = true →
    s.flag (F.SDF_CFG_EN n) = true →
    (s.sdChan n).closed = x :: xs →
    m = Nat.max (s.fld (F.SDF_CFG_PAOSR n)) 3 + 1 →
    filterResult 24 sum (k * m ^ 3) = (v, sat) →
    exec (.paWindowClose n sum k since ()) s = .next (
    let word := sdWord 24 (s.offsetOf n 24 x.ofs v) (x.inv || s.spanFaulted n (k + 3 * m - 3) since) sat x.atCz (s.flag (F.SDF_CFG_OFSEN n)) (s.sdChan n).paCount
    (s.modSdChan n (fun c => { c with closed := xs, paPend := c.paPend ++ [word], paCount := (c.paCount + 1) % 16 })).calTake n x.cal v)) ∧
  (∀ (n : Fin 48) (sum k since : Nat) (s : State),
    s.senseRuns = true →
    (s.sdChan n).closed = [] →
    exec (.paWindowClose n sum k since ()) s = .next s) ∧
  (∀ (n : Fin 48) (s : State),
    s.senseRuns = true →
    (s.sdChan n).paPend = [] →
    exec (.paResultValid n) s = .next s) ∧
  (∀ (n : Fin 48) (s t : State) w ws,
    s.senseRuns = true →
    (s.sdChan n).paPend = w :: ws →
    t = (s.modSdChan n (fun c => { c with paPend := ws, pas := (w :: c.pas).take 2 })).restCurrent n w →
    exec (.paResultValid n) s = .next ((t.wr (R.SDF_PARES n) (BitVec.ofNat 32 w)).pushResult 1 n (BitVec.ofNat 32 w))) ∧
  (∀ (n : Fin 48) (run : Nat) (s : State),
    s.senseRuns = true →
    s.flag (F.SDF_CFG_EN n) = true →
    exec (.modulatorFault ⟨n, run⟩) s = .next ((s.modSdChan n (fun c => { c with stuck := decide (s.stuckRun n ≤ run) })).noteFault n (s.sdFault n))) ∧
  (∀ (n : Fin 48) (zs : List Nat) (s t : State) high low,
    high = s.cmpAll n zs (fun v => decide (s.cmpHi n < v)) →
    low = s.cmpAll n zs (fun v => decide (v < s.cmpLo n)) →
    ((high && !s.flag (F.SDF_STAT_CMPH n)) || (low && !s.flag (F.SDF_STAT_CMPL n))) = true →
    s.senseRuns = true →
    s.flag (F.SDF_CFG_EN n) = true →
    s.flag (F.SDF_CMPCFG_EN n) = true →
    t = ((s.putB (F.SDF_STAT_CMPH n) high).putB (F.SDF_STAT_CMPL n) low).put (F.SDF_STAT_TRIPD n) 1 →
    exec (.fastComparatorDecision n zs) s = .next (
    let ax := t.fld (F.SDF_CFG_AX n)
    if t.flag (F.SDF_CFG_AXB n) && t.flag (F.SDF_CMPCFG_ACT n) && t.groupLinked ax then
      (t.tripGroup ax causeOc 0 0).assertOwn (evAxis ax 0) [ax]
    else t.assertEv (t.sdSource n 0))) ∧
  (∀ (n : Fin 48) (zs : List Nat) (s : State) (h : Int),
    h = s.fld (F.SDF_CMPCFG_HYS n) →
    s.senseRuns = true →
    s.flag (F.SDF_CFG_EN n) = true →
    s.flag (F.SDF_CMPCFG_EN n) = true →
    s.cmpAll n zs (fun v => decide (s.cmpLo n + h ≤ v ∧ v ≤ s.cmpHi n - h)) = true →
    exec (.fastComparatorRelease ⟨n, zs⟩) s = .next ((s.put (F.SDF_STAT_CMPH n) 0).put (F.SDF_STAT_CMPL n) 0)) ∧
  (∀ (n : Fin 48) (up : Bool) (s : State) (sum need mean ofs : Int),
    s.senseRuns = true →
    s.flag (F.SDF_CFG_EN n) = true →
    s.flag (F.SDF_CFG_CALEN n) = true →
    (s.sdChan n).calN = s.calNeed n →
    sum = (s.sdChan n).calSum →
    need = s.calNeed n →
    mean = sum / need + (if up && sum % need != 0 then 1 else 0) →
    ofs = sgn 24 (s.fld (F.SDF_CALOFS_OFS n)) →
    exec (.offsetCalStep n up) s = .next (((s.put (F.SDF_CALOFS_OFS n) (uns 24 (satS 24 (ofs + clampI (-16) 16 (mean - ofs))))).put (F.SDF_STAT_CALV n) 1).modSdChan n (fun c => { c with calSum := 0, calN := 0 }))) ∧
  (∀ (q : Fin 8) (s : State),
    s.startNext 1 q = true →
    exec (.adcSequenceStart q) s = .next ((s.takeStart 1 q).adcStart q false)) ∧
  (∀ (q : Fin 8) (s : State),
    s.startNext 1 q = false →
    exec (.adcSequenceStart q) s = .next s) ∧
  (∀ (q : Fin 8) (codes : List (Fin 16384)) (s t : State) i,
    s.senseRuns = true →
    s.flag (F.ADC_SEQSTAT_RUN q) = true →
    i = (s.adcSeq q).next →
    i ≤ s.fld (F.ADC_SEQCFG_NSTEP q) →
    t = s.put (F.ADC_SEQSTAT_STEP q) i →
    (!t.stepFree q i || t.stepYields q i) = true →
    exec (.adcStepSample q codes ()) s = .next (t.modAdcSeq q (fun x => { x with waiting := true }))) ∧
  (∀ (q : Fin 8) (codes : List (Fin 16384)) (s t : State) i,
    s.senseRuns = true →
    s.flag (F.ADC_SEQSTAT_RUN q) = true →
    i = (s.adcSeq q).next →
    i ≤ s.fld (F.ADC_SEQCFG_NSTEP q) →
    t = s.put (F.ADC_SEQSTAT_STEP q) i →
    (!t.stepFree q i || t.stepYields q i) = false →
    exec (.adcStepSample q codes ()) s = .next (
    let u := if (t.adcSeq q).waiting then t.inc (F.ADC_SEQSTAT_DLYD q) else t
    u.modAdcSeq q (fun x => { x with samples := x.samples ++ [⟨i, codes.map (fun c => c.val), x.pol, x.run, u.sense.trimmed⟩], next := i + 1, waiting := false }))) ∧
  (∀ (q : Fin 8) (s t : State) x xs,
    s.senseRuns = true →
    (s.adcSeq q).samples = x :: xs →
    t = (s.modAdcSeq q (fun y => { y with samples := xs })).each (List.range 4) (fun c t => if t.flag ⟨R.ADC_STEP q x.step, 8 * c + 7, 1⟩ then (t.wr (R.ADC_RES (t.fld ⟨R.ADC_STEP q x.step, 8 * c, 5⟩)) (t.adcWord q c x)).pushResult 3 (t.fld ⟨R.ADC_STEP q x.step, 8 * c, 5⟩) (t.adcWord q c x) else t) →
    exec (.adcResult q) s = .next (if xs.isEmpty && decide (t.fld (F.ADC_SEQCFG_NSTEP q) < (t.adcSeq q).next) then (t.put (F.ADC_SEQSTAT_RUN q) 0).put (F.ADC_SEQSTAT_STEP q) 0 else t)) ∧
  (∀ (c : Fin 4) (gain : Nat) (ofs : Int) (s t u : State),
    s.senseRuns = true →
    (s.flag F.ADC_CALCTL_EN || s.sense.trimNow.testBit c) = true →
    32768 - 655 ≤ gain ∧ gain ≤ 32768 + 655 ∧ -64 ≤ ofs ∧ ofs ≤ 64 →
    t = s.withSense { s.sense with trimNow := putBit s.sense.trimNow c false } →
    u = State.withSense ((t.put (F.ADC_TRIM_GAIN c) gain).put (F.ADC_TRIM_OFS c) (uns 16 ofs)) { t.sense with trimmed := putBit t.sense.trimmed c true } →
    exec (.adcTrim c gain ofs) s = .next (if u.sense.trimmed == 15 then u.put F.ADC_CALCTL_TRIMV 1 else u)) ∧
  (∀ (c : Fin 4) (gain : Nat) (ofs : Int) (s : State),
    s.senseRuns = true →
    (s.flag F.ADC_CALCTL_EN || s.sense.trimNow.testBit c) = true →
    ¬ (32768 - 655 ≤ gain ∧ gain ≤ 32768 + 655 ∧ -64 ≤ ofs ∧ ofs ≤ 64) →
    exec (.adcTrim c gain ofs) s = .next ((s.withSense { s.sense with trimNow := putBit s.sense.trimNow c false }).assertEv 143))

/-- Resolver, quadrature, absolute encoder and position capture (R176, R177, R178, R179, R182, R183, R186). Each clause
answers the whole next state of its command under conditions on the state and the operands alone, so whatever it does
not write stays. Where a value is the model's choice: assumption log 6, 27. -/
def Obligations.PositionInputsComplete : Prop :=
  (∀ (r : Fin 4) (second : Bool) (s : State),
    s.senseRuns = true →
    s.flag (F.ADC_RESCFG_EN r) = true →
    exec (.resolverPeak r second) s = .next (let q := s.fld (F.ADC_RESCFG_SEQ r)
    if s.fld (F.ADC_SEQCFG_SRC q) == 4 && s.fld (F.ADC_SEQCFG_SEL q) == r.val then s.adcStart q second else s)) ∧
  (∀ (r : Fin 4) (v : Word) (s : State),
    s.senseRuns = true →
    exec (.resangWrite r v) s = .next (s.resangWrite r v.toNat)) ∧
  (∀ (n : Fin 12) (a b : Bool) (e : EncZ) (s t : State) a0 b0,
    s.senseRuns = true →
    s.flag (F.ENC_CFG_EN n) = true →
    a0 = s.flag (F.ENC_STAT_A n) →
    b0 = s.flag (F.ENC_STAT_B n) →
    t = (s.putB (F.ENC_STAT_A n) a).putB (F.ENC_STAT_B n) b →
    (a0 != a && b0 != b) = true →
    exec (.encTransition n a b e) s = .next ((t.encError n (F.ENC_STAT_ILLEG n)).encZ n e.z true)) ∧
  (∀ (n : Fin 12) (a b : Bool) (e : EncZ) (s : State),
    s.senseRuns = true →
    s.flag (F.ENC_CFG_EN n) = true →
    s.flag (F.ENC_STAT_A n) = a →
    s.flag (F.ENC_STAT_B n) = b →
    exec (.encTransition n a b e) s = .next (State.encZ ((s.putB (F.ENC_STAT_A n) a).putB (F.ENC_STAT_B n) b) n e.z false)) ∧
  (∀ (n : Fin 12) (a b : Bool) (e : EncZ) (s t u : State) a0 b0 m,
    s.senseRuns = true →
    s.flag (F.ENC_CFG_EN n) = true →
    a0 = s.flag (F.ENC_STAT_A n) →
    b0 = s.flag (F.ENC_STAT_B n) →
    t = (s.putB (F.ENC_STAT_A n) a).putB (F.ENC_STAT_B n) b →
    (a0 != a && b0 != b) = false →
    (a0 == a && b0 == b) = false →
    m = t.fld (F.ENC_CFG_MODE n) →
    u = (if m == 0 then t.encCount n (quadStep a0 a b == Config.quadForward) else if m == 1 && a && !a0 then t.encCount n (b == Config.stepForward) else t) →
    exec (.encTransition n a b e) s = .next (if e.fast then (u.encError n (F.ENC_STAT_OVSPD n)).encZ n e.z true else u.encZ n e.z false)) ∧
  (∀ (n : Fin 12) (err : Bool) (s : State),
    s.senseRuns = true →
    s.flag (F.ENC_CFG_EN n) = true →
    exec (.encIndex n err) s = .next (s.encZ n true err)) ∧
  (∀ (m : Fin 4) (high : Bool) (s : State) len,
    len = s.fld (F.ENC_ABSCFG_LEN m) →
    s.startNext 4 m = true →
    s.senseRuns = true →
    s.flag (F.ENC_ABSCFG_EN m) = true →
    8 ≤ len ∧ len ≤ 40 →
    s.sense.reading.testBit m = false →
    exec (.ssiReadStart m high) s = .next ((s.takeStart 4 m).withSense { s.sense with reading := putBit s.sense.reading m true, notReady := putBit s.sense.notReady m (!high) })) ∧
  (∀ (m : Fin 4) (high : Bool) (s : State) len,
    len = s.fld (F.ENC_ABSCFG_LEN m) →
    s.startNext 4 m = true →
    s.senseRuns = true →
    s.flag (F.ENC_ABSCFG_EN m) = true →
    len < 8 ∨ 40 < len →
    s.sense.reading.testBit m = false →
    exec (.ssiReadStart m high) s = .next ((s.takeStart 4 m).withSense { s.sense with reading := putBit s.sense.reading m false, notReady := putBit s.sense.notReady m (s.sense.notReady.testBit m) })) ∧
  (∀ (m : Fin 4) (bits : List Bool) (mono : Bool) (s : State),
    s.senseRuns = true →
    s.sense.reading.testBit m = true →
    bits.length = s.fld (F.ENC_ABSCFG_LEN m) →
    exec (.ssiReadDone m bits mono) s = .next (let nrdy := s.sense.notReady.testBit m
    let pb := s.ssiBits m bits
    let pos := bitsMsb (if s.flag (F.ENC_ABSCFG_GRAY m) then grayDecode pb else pb)
    let jmp := s.fld (F.ENC_ABSTRG_JMP m)
    let parE := !s.ssiParityOk m bits
    let jumpE := jmp != 0 && s.sense.absGood.testBit m && decide (jmp < absDiff pos (s.rd (R.ENC_ABSPOS m)).toNat)
    let s := s.withSense { s.sense with reading := putBit s.sense.reading m false, notReady := putBit s.sense.notReady m false }
    let s :=
      if nrdy || parE || !mono || jumpE then
        let s := if nrdy then s.put (F.ENC_ABSSTAT_NRDY m) 1 else s
        let s := if parE then s.put (F.ENC_ABSSTAT_PARE m) 1 else s
        let s := if !mono then s.put (F.ENC_ABSSTAT_MONOE m) 1 else s
        let s := if jumpE then s.put (F.ENC_ABSSTAT_JUMPE m) 1 else s
        let s := (s.put (F.ENC_ABSSTAT_VALID m) 0).inc (F.ENC_ABSSTAT_ERRCNT m)
        let s := s.inc (F.ENC_ABSSTAT_CONS m)
        if s.fld (F.ENC_ABSSTAT_CONS m) == s.fld (F.ENC_ABSTRG_ERRN m) + 1 then s.assertEv (s.absSource m) else s
      else
        let s := s.wr (R.ENC_ABSPOS m) (BitVec.ofNat 32 pos)
        let s := (s.put (F.ENC_ABSSTAT_VALID m) 1).put (F.ENC_ABSSTAT_CONS m) 0
        s.withSense { s.sense with absGood := putBit s.sense.absGood m true }
    s.pushResult 5 m (s.absWord m))) ∧
  (∀ (k : Fin 16) (adv age : Nat) (s t : State) e,
    s.senseRuns = true →
    s.capWaits k = true →
    (s.runOn adv).draw = (e, t) →
    exec (.captureTrigger k adv age) s = .next (t.each ((List.range 16).filter (fun j => (s.runOn adv).capWaits j && (s.runOn adv).sameTrigger j k))
    (fun j t => (t.takeTrigger j).capture j age (t.capStamp j e)))) ∧
  (∀ (k : Fin 16) (s : State),
    s.senseRuns = true →
    exec (.captureArm k) s = .next (s.put (F.ENC_CAPSTAT_FULL k) 0))

/-- Gate links: enable, training, heartbeats, bad frames, silence, ECHO and STATUS frames (R141, R143, R145, R150, R154,
R155). Each clause answers the whole next state of its command under conditions on the state and the operands alone, so
whatever it does not write stays. Where a value is the model's choice: assumption log 5, 26. -/
def Obligations.GateLinksComplete : Prop :=
  (∀ (k : Fin 16) (en : Bool) (s : State),
    s.islandsRun = true →
    exec (.glEnable k en) s = .next (s.glEnable k en)) ∧
  (∀ (k : Fin 16) (s : State),
    s.islandsRun = true →
    exec (.glReset k) s = .next (s.glReset k)) ∧
  (∀ (k : Fin 16) (s : State),
    s.islandsRun = true →
    exec (.glCfgsend k) s = .next (s.glCfgSend k)) ∧
  (∀ (k : Fin 16) (s : State),
    s.islandsRun = true →
    s.linkState k = linkTrain →
    exec (.trainAligned k) s = .next ((s.setLinkState k linkMeasure).modLink k (fun x => { x with validSyms := 64, replies := 0 }))) ∧
  (∀ (k : Fin 16) (y : LinkSym) (s : State),
    s.islandsRun = true →
    s.linkState k = linkTrain →
    symError y = true →
    exec (.symbolError ⟨k, some y⟩) s = .next (s.modLink k (fun x => { x with validSyms := 0 }))) ∧
  (∀ (k : Fin 16) (s : State),
    s.islandsRun = true →
    s.linkState k = linkTrain →
    exec (.symbolError ⟨k, none⟩) s = .next (s.modLink k (fun x => { x with validSyms := 0 }))) ∧
  (∀ (k : Fin 16) (s : State) st,
    st = s.linkState k →
    s.islandsRun = true →
    (st == linkTrain || st == linkMeasure || st == linkConfig) = true →
    exec (.bringupTimeout k) s = .next (let s := s.enterTrain k
    let s := s.modLink k (fun x => { x with returns := x.returns + 1 })
    if decide (16 ≤ (s.link k).returns) then s.put (F.GL_STAT_CFGFAIL k) 1 else s)) ∧
  (∀ (k : Fin 16) (s : State),
    s.islandsRun = true →
    s.linkState k = linkMeasure →
    exec (.bringupFrameDue k) s = .next (s.sendHeartbeat k true)) ∧
  (∀ (k : Fin 16) (s : State),
    s.islandsRun = true →
    s.linkState k = linkConfig →
    exec (.bringupFrameDue k) s = .next (s.sendConfig k)) ∧
  (∀ (k : Fin 16) (s : State),
    s.linkState k ≠ linkMeasure →
    s.linkState k ≠ linkConfig →
    exec (.bringupFrameDue k) s = .next s) ∧
  (∀ (k : Fin 16) (req : Bool) (s : State),
    s.islandsRun = true →
    s.linkState k = linkUp →
    exec (.heartbeatDue k req) s = .next (s.sendHeartbeat k req)) ∧
  (∀ (k : Fin 16) (f : BadFrame) (s : State),
    s.islandsRun = true →
    s.linkState k ≠ linkOff →
    rxJudge f.syms = .bad →
    exec (.badFrameReceived k f) s = .next (s.badFrame k f.sil)) ∧
  (∀ (k : Fin 16) (s : State),
    s.islandsRun = true →
    s.linkState k = linkUp →
    exec (.linkSilence k) s = .next (s.loseLink k false true)) ∧
  (∀ (k : Fin 16) (syms : List LinkSym) (gates : List GateAt) (cover late : List (BitVec 8)) (s t : State) p,
    s.islandsRun = true →
    s.linkState k ≠ linkOff →
    rxPayload 0x81 syms = some p →
    t = s.modLink k (fun x => { x with badRun := 0 }) →
    t.linkHears k = true →
    exec (.echoReceived k syms gates cover late) s = .next (t.echo k p gates (cover.map (fun c => c.toNat)) (late.map (fun c => c.toNat)))) ∧
  (∀ (k : Fin 16) (syms : List LinkSym) (gates : List GateAt) (cover late : List (BitVec 8)) (s : State),
    s.islandsRun = true →
    s.linkState k ≠ linkOff →
    rxPayload 0x81 syms = none →
    rxJudge syms = .bad →
    exec (.echoReceived k syms gates cover late) s = .next (s.badFrame k false)) ∧
  (∀ (k : Fin 16) (syms : List LinkSym) (rtt : Nat) (s t : State) p,
    s.islandsRun = true →
    s.linkState k ≠ linkOff →
    rxPayload 0x82 syms = some p →
    t = s.modLink k (fun x => { x with badRun := 0 }) →
    t.linkHears k = true →
    exec (.statusReceived k syms rtt) s = .next (t.status k p rtt)) ∧
  (∀ (k : Fin 16) (syms : List LinkSym) (rtt : Nat) (s : State),
    s.islandsRun = true →
    s.linkState k ≠ linkOff →
    rxPayload 0x82 syms = none →
    rxJudge syms = .bad →
    exec (.statusReceived k syms rtt) s = .next (s.badFrame k false))

/-- Carriers, shadow sets, loads, compare events, edges, synchronisation and interval timers (R4, R83, R84, R86, R90, R91,
R96, R103, R105, R107, R108). Each clause answers the whole next state of its command under conditions on the state and
the operands alone, so whatever it does not write stays. Where a value is the model's choice: assumption log 5, 25. -/
def Obligations.CarriersAndEdgesComplete : Prop :=
  (∀ (c : Fin 24) (en : Bool) (s : State),
    s.islandsRun = true →
    exec (.carrierEnable c en) s = .next (s.carrierEnable c en)) ∧
  (∀ (addr : Nat) (v : Word) (s : State),
    s.islandsRun = true →
    exec (.shadowWrite addr v) s = .next ((s.shadowWrite addr v.toNat).1)) ∧
  (∀ (c : Fin 24) (late : Bool) (s : State),
    s.islandsRun = true →
    exec (.ldall c late) s = .next (s.ldall c late)) ∧
  (∀ (c : Fin 24) (tight : List (Fin 16 × Fin 8)) (s : State),
    s.islandsRun = true →
    s.flag (F.CB_LOAD_PEND c) = true →
    exec (.edgeComputeDone c tight) s = .next (s.emitCarriers (((s.groupCarriers c).filter (fun d => !(s.carrier d).computed && !(s.carrier d).emitted && s.pendNext d)).map
      (fun d => (d, true))) (tight.map (fun x => (x.1.val, x.2.val))))) ∧
  (∀ (c : Fin 24) (tight : List (Fin 16 × Fin 8)) (s : State),
    s.islandsRun = true →
    s.running c = true →
    exec (.loadDeadlineEmission c tight) s = .next (s.loadDeadline c (tight.map (fun x => (x.1.val, x.2.val))))) ∧
  (∀ (c : Fin 24) (late : List (Fin 72)) (s : State),
    s.islandsRun = true →
    s.running c = true →
    s.countingUp c = false →
    exec (.carrierZero c late) s = .next (s.carrierZero c (late.map (fun l => l.val)))) ∧
  (∀ (c : Fin 24) (s : State),
    s.islandsRun = true →
    s.running c = true →
    s.countingUp c = true →
    exec (.carrierPeak c) s = .next (s.carrierPeak c)) ∧
  (∀ (leg : Fin 72) (b : Bool) (s : State) c,
    c = s.fld (F.ES_LEGCFG_CB leg) →
    s.islandsRun = true →
    c < 24 →
    s.running c = true →
    s.countingUp c = !b →
    s.eventsPass c = true →
    exec (.legCompareEvent leg b) s = .next (s.sendStarts (s.carrierTasks c (if b then 3 else 2) leg))) ∧
  (∀ (leg : Fin 72) (s : State),
    s.islandsRun = true →
    exec (.legEdge leg) s = .next (match (s.sched leg).edges with
    | [] => s
    | e :: es =>
      let s := s.modSched leg (fun x => { x with edges := es })
      if !e.on then
        let s := s.switchOff leg e.upper
        s.modLeg leg (fun x => if e.upper then { x with waitUp := false } else { x with waitLo := false })
      else if legLinked leg then s.switchOn leg e.upper
      else if e.upper && (s.leg leg).bsuvHold then s
      else s.modLeg leg (fun x => if e.upper then { x with waitUp := true } else { x with waitLo := true }))) ∧
  (∀ (c : Fin 24) (at_ : Int) (s t u : State) (src v : Nat) (ticks want k p : Int),
    src = s.fld (F.CB_CFG_SYNSRC c) →
    s.islandsRun = true →
    s.running c = true →
    s.leaderOf c = some c.val →
    src = 1 ∨ (src = 2 ∧ (s.carrier c).marks ≠ []) →
    ticks = (if src = 2 then ((s.carrier c).marks.headD 0 : Int) - (s.carrier c).zeroAt else at_) →
    t = (if src = 2 then s.modCarrier c (fun x => { x with marks := x.marks.tail }) else s) →
    want = ticks + t.fld (F.CB_SYNCCFG_OFFSET c) →
    k = t.countTicks c →
    (v, u) = (if want % k = 0 then (0, t) else t.draw) →
    p = want / k + (v % 2 : Nat) →
    exec (.syncMark c at_) s = .next (match u.syncCandidates c p with
    | [] => u
    | j :: js =>
      let err := fun i => p - u.zeroTime c i
      let best := js.foldl (fun b i => if (err i).natAbs < (err b).natAbs then i else b) j
      let e := err best
      let x := u.carrier c
      let done := if best ≤ 0 then ((x.corrs.take (best.natAbs + 1)).foldl (· + ·) 0) else 0
      let u := u.modCarrier c (fun x => { x with ePrime := e - done, eSkip := (best - 1).toNat })
      let u := (u.put (F.CB_SYNC_ERR c) (uns 20 e)).put (F.CB_SYNC_MISS c) 0
      let u := u.putB (F.CB_SYNC_LOCK c) (decide ((e - done).natAbs ≤ 1))
      let was := u.flag (F.CB_SYNC_BIG c)
      let u := u.putB (F.CB_SYNC_BIG c) (decide (x.actPeriod < e.natAbs))
      if !was && u.flag (F.CB_SYNC_BIG c) then u.carrierSource c else u)) ∧
  (∀ (c : Fin 24) (s : State) src,
    src = s.fld (F.CB_CFG_SYNSRC c) →
    s.islandsRun = true →
    s.running c = true →
    s.leaderOf c = some c.val →
    (src == 1 || src == 2) = true →
    exec (.syncMiss c) s = .next ((s.put (F.CB_SYNC_MISS c) 1).carrierSource c)) ∧
  (∀ (c : Fin 24) (s : State),
    s.islandsRun = true →
    exec (.cbClrcnt c) s = .next (s.cbClrcnt c)) ∧
  (∀ (k : Fin 8) (s : State),
    s.islandsRun = true →
    s.flag (F.ES_ITMCFG_EN k) = true →
    (s.timer k).started = true →
    exec (.intervalTimerEvent k) s = .next (let s := s.setTimer k ⟨true, Nat.max 200 ((s.rd (R.ES_ITMPER k)).toNat + 1)⟩
    let s := s.sendStarts (s.taskStarts 3 (fun sel => sel % 8 == k.val) ++ s.adcStarts 2 0 (fun sel => sel == k.val) ++ s.ssiStarts 2 k 0)
    s.profileEvent 2 k 0))

/-- The profile unit: context commits, starts, stops, ticks, publication and virtual masters (R214, R219, R230, R231, R234,
R236). Each clause answers the whole next state of its command under conditions on the state and the operands alone, so
whatever it does not write stays. Where a value is the model's choice: assumption log 9, 10, 29. -/
def Obligations.ProfileEventsComplete : Prop :=
  (∀ (c : Fin 256) (s : State),
    s.islandsRun = true →
    exec (.ctxCommit c) s = .next (s.ctxCommit c)) ∧
  (∀ (n : Fin 16) (s : State),
    s.islandsRun = true →
    exec (.puStart n) s = .next (s.puRequest n reqStart)) ∧
  (∀ (n : Fin 16) (s : State),
    s.islandsRun = true →
    exec (.puSwapnow n) s = .next (s.puRequest n reqSwap)) ∧
  (∀ (n : Fin 16) (s : State),
    s.islandsRun = true →
    exec (.puStop n) s = .next (s.puRequest n reqStop)) ∧
  (∀ (n : Fin 16) (s : State),
    s.islandsRun = true →
    exec (.puQstop n) s = .next (s.puRequest n reqQstop)) ∧
  (∀ (n : Fin 16) (s : State),
    s.islandsRun = true →
    exec (.puEngage n) s = .next (s.puRequest n reqEngage)) ∧
  (∀ (n : Fin 16) (dt : Nat) (at_ : TickAt) (s u t : State),
    s.islandsRun = true →
    s.flag F.PU_CTRL_EN = true →
    s.flag (F.PU_AXCFG_EN n) = true →
    s.fld (F.PU_AXCFG_TSRC n) = 1 ∨ s.fld (F.PU_AXCFG_TSRC n) = 2 →
    0 < (s.profile n).arrived →
    u = (s.runOn at_.adv).modProfile n (fun p => { p with arrived := p.arrived - 1 }) →
    t = (if u.axState n == axEnergised && (u.axis n).type == 3 && !(u.axis n).stopping then u.wr (R.PU_STEPCNT n) (BitVec.ofNat 32 (uns 32 (roundShift (u.profile n).pos 32))) else u) →
    (u.profile n).due = true →
    exec (.profileTick n dt at_) s = .next (State.assertEv (State.inc ((t.modProfile n (fun p => { p with missed := p.missed + dt })).put (F.PU_AXSTAT_LATE n) 1) (F.PU_PSSTAT_LATE (u.fld (F.PU_AXCFG_PS n)))) (evAxis n 3))) ∧
  (∀ (n : Fin 16) (dt : Nat) (at_ : TickAt) (s u t v : State) m e x ok,
    s.islandsRun = true →
    s.flag F.PU_CTRL_EN = true →
    s.flag (F.PU_AXCFG_EN n) = true →
    s.fld (F.PU_AXCFG_TSRC n) = 1 ∨ s.fld (F.PU_AXCFG_TSRC n) = 2 →
    0 < (s.profile n).arrived →
    u = (s.runOn at_.adv).modProfile n (fun p => { p with arrived := p.arrived - 1 }) →
    t = (if u.axState n == axEnergised && (u.axis n).type == 3 && !(u.axis n).stopping then u.wr (R.PU_STEPCNT n) (BitVec.ofNat 32 (uns 32 (roundShift (u.profile n).pos 32))) else u) →
    (u.profile n).due = false →
    m = (if (u.profile n).gear == 0 && t.flag (F.PU_AXCTX_NV n) then t.readCtx (t.fld (F.PU_AXCTX_NEXT n)) else (u.profile n).ctx) →
    t.draw = (e, v) →
    (if m.typ == 3 then v.sampleMaster m.msrc m.midx (v.netTime + ((e % 327681 : Nat) : Int) - 163840) else (0, true)) = (x, ok) →
    exec (.profileTick n dt at_) s = .next (v.modProfile n (fun p => { p with due := true, turn := v.tickTurn n at_.together, span := p.span + dt, taken := p.req, req := 0, takenCommits := p.commits, commits := [], sample := x, sampleOk := ok, fb := v.feedback n }))) ∧
  (∀ (n : Fin 16) (work : Nat) (par : Bool) (s : State),
    s.islandsRun = true →
    (s.profile n).due = true →
    s.firstDue n = true →
    exec (.referencePublish n work par) s = .next (let k := s.fld (F.PU_AXCFG_PS n)
    let s := s.put (F.PU_PSSTAT_BUSYMAX k) (Nat.max (s.fld (F.PU_PSSTAT_BUSYMAX k)) (Nat.min work 580))
    let s :=
      if s.axState n != axEnergised then
        let s := (s.answerWaiter n false).showLimits n
        let p := s.profile n
        let s := if s.puState n != psTracking && s.limitHard n && s.limitBlocks n p.vel then s.stepUnc n (F.PU_STEPST_LIMV n) else s
        let s := s.modProfile n (fun p => { p with pos := p.fb, vel := 0, acc := 0, motion := none, gear := 0 })
        s.setPuState n psTracking
      else
        let s := if s.puState n == psTracking then
            (s.modProfile n (fun p => { p with last := p.pos })).setPuState n psRest else s
        let s := s.takeRequests n par
        let before := (s.profile n).master
        let seen := (s.profile n).masterSeen
        let s := s.takeMaster n
        if (s.profile n).gear != 0 then s.gearTick n (if seen then before else (s.profile n).master) par
        else
          let p := s.profile n
          let d := if p.vel = 0 then (match p.motion with | some m => m.goal - p.pos | none => 0) else p.vel
          let s := s.takeLimits n d
          s.advanceRef n par
    let s := s.modProfile n (fun p => { p with due := false, span := p.missed, missed := 0, taken := 0, takenCommits := [] })
    s.publish n)) ∧
  (∀ (k : Fin 4) (v : Word) (s : State),
    s.islandsRun = true →
    exec (.vmthWrite k v) s = .next (s.vmthWrite k v)) ∧
  (∀ (k : Fin 4) (s : State),
    s.islandsRun = true →
    exec (.virtualMasterTimeout k) s = .next (s.put (F.PU_VMCFG_VALID k) 0))

/-- The axis commands and the events of axes: configuration, states, setpoints, parameters, standstill (R48, R132, R181,
R188, R191, R192, R198, R211, R247, R249, R250). Each clause answers the whole next state of its command under
conditions on the state and the operands alone, so whatever it does not write stays. Where a value is the model's
choice: assumption log 5, 7, 19, 28. -/
def Obligations.AxisCommandsComplete : Prop :=
  (∀ (c : HostCmd) (s u : State) a,
    s.serves 0x10 c = true →
    u = s.atStep8 0x10 c →
    a = readAxCfg c →
    u.inModes configModes = true →
    a.axis ≤ 15 →
    u.axState a.axis = axDisabled →
    u.axCfgErrors c a = [] →
    exec (.axConfig c) s = .next ((u.bindAxis a).finishHead c.ch.val .ok)) ∧
  (∀ (c : HostCmd) (s u : State) n,
    s.serves 0x11 c = true →
    u = s.atStep8 0x11 c →
    n = arg c 0 1 →
    u.inModes liveModes = true →
    n ≤ 15 →
    u.axStateReasons n (arg c 1 1) = [] →
    exec (.axState c) s = .next ((u.axGoto n (arg c 1 1)).finishHead c.ch.val .ok)) ∧
  (∀ (c : HostCmd) (s u : State) n,
    s.serves 0x12 c = true →
    u = s.atStep8 0x12 c →
    n = arg c 0 1 →
    u.inModes armModes = true →
    n ≤ 15 →
    u.axState n = axFreewheel ∨ u.axState n = axFaulted →
    u.flag (F.WEIR_DOMST_ACT n) = false →
    u.axValid n = true →
    u.axCleared n = true →
    exec (.axRecover c) s = .next ((u.axGoto n axArmed).finishHead c.ch.val .ok)) ∧
  (∀ (c : HostCmd) (s u : State) n,
    s.serves 0x13 c = true →
    u = s.atStep8 0x13 c →
    n = arg c 0 1 →
    u.inModes liveModes = true →
    n ≤ 15 →
    u.islandsRun = true →
    exec (.axBridgeEn c) s = .next ((u.setGen n (arg c 1 1 % 2 == 1)).finishHead c.ch.val .ok)) ∧
  (∀ (c : HostCmd) (s u : State) n m,
    s.serves 0x14 c = true →
    u = s.atStep8 0x14 c →
    n = arg c 0 1 →
    m = arg c 1 1 →
    u.inModes armModes = true →
    n ≤ 15 →
    (u.axis n).configured = true →
    m ≤ 3 →
    exec (.axSetpoint c) s = .next ((u.writeSetpoint n ⟨m, arg c 2 4, arg c 6 4, arg c 10 2⟩).finishHead c.ch.val .ok)) ∧
  (∀ (n : Fin 16) (s : State),
    s.computeRuns = true →
    (s.axis n).sp.wdog ≠ 0 →
    (s.axis n).ramping = false →
    exec (.setpointTimeout n) s = .next (let s := s.modAxis n (fun x => { x with ramping := true })
    if s.weir.maskStop.testBit n then s.maskHit n else s.assertEv (evAxis n 4))) ∧
  (∀ (c : HostCmd) (s u : State) n,
    s.serves 0x15 c = true →
    u = s.atStep8 0x15 c →
    n = arg c 0 1 →
    u.inModes (2 :: armModes) = true →
    ¬ (15 < n) →
    ¬ ((u.axis n).rated < 4 * arg c 13 4) →
    exec (.axLimits c) s = .next ((u.modAxis n (fun x => { x with drive := arg c 1 4, regen := arg c 5 4, speed := arg c 9 4, svcCap := arg c 13 4 })).finishHead c.ch.val .ok)) ∧
  (∀ (c : HostCmd) (s u : State) n id given v,
    s.serves 0x16 c = true →
    u = s.atStep8 0x16 c →
    n = arg c 0 1 →
    id = arg c 1 1 →
    given = (if c.handles.isEmpty then c.param.drop 2 else u.attached c) →
    v = given.take (paramSize (u.axis n).type id) →
    u.inModes liveModes = true →
    n ≤ 15 →
    id ≠ 12 →
    id ≠ 14 →
    paramSize (u.axis n).type id ≠ 0 →
    paramLive id = true ∨ u.axState n = axDisabled ∨ u.axState n = axArmed →
    paramSize (u.axis n).type id ≤ given.length →
    paramOk (u.axis n) id 0 v = true →
    exec (.axParamWrite c) s = .next (((u.modAxis n (fun x => { x with params := (id, v) :: x.params.filter (fun y => y.1 != id) })).applyParam n id v).finishHead c.ch.val .ok)) ∧
  (∀ (c : HostCmd) (s u : State) n id,
    s.serves 0x17 c = true →
    u = s.atStep8 0x17 c →
    n = arg c 0 1 →
    id = arg c 1 1 →
    u.inModes liveModes = true →
    n ≤ 15 →
    paramSize (u.axis n).type id ≠ 0 →
    exec (.axParamRead c) s = .next (let r := replyWith c.ch (u.paramValue n id) u
    r.2.finishHead c.ch.val r.1)) ∧
  (∀ (c : HostCmd) (s u : State) n p,
    s.serves 0x18 c = true →
    u = s.atStep8 0x18 c →
    n = arg c 0 1 →
    u.inModes liveModes = true →
    n ≤ 15 →
    p = u.axPosition n →
    exec (.axStatus c) s = .next (u.finishHead c.ch.val { status := stOk, result := (leBytes 1 (u.axState n) ++ u.reg4 (R.SPW_GSTAT n) ++ u.reg4 (R.SPW_CAUSE n) ++ u.reg4 (R.SPW_FLTSW n) ++ u.reg4 (R.SPW_SPD n) ++ u.reg4 (R.WU_AXDR n) ++ u.reg4 (R.WU_AXST n) ++ leBytes 4 p.1.toNat ++ leBytes 1 p.2 ++ leBytes 1 (u.axis n).loop.mpcsat ++ (if (u.axis n).type == 3 then leBytes 1 (u.posUncertain n).toNat else [])) })) ∧
  (∀ (c : HostCmd) (s u : State) n i,
    s.serves 0x19 c = true →
    u = s.atStep8 0x19 c →
    n = arg c 0 1 →
    i = (u.axis n).posInst →
    u.inModes liveModes = true →
    ¬ (15 < n) →
    u.axState n ≠ axEnergised →
    (u.axis n).posKind = 1 →
    exec (.axPositionSet c) s = .next (((u.wr (R.ENC_POS i) (BitVec.ofNat 32 (arg c 1 4))).put (F.ENC_STAT_VALID i) 1).finishHead c.ch.val .ok)) ∧
  (∀ (c : HostCmd) (s u : State) k,
    s.serves 0x1A c = true →
    u = s.atStep8 0x1A c →
    k = arg c 0 1 →
    u.inModes liveModes = true →
    k ≤ 15 →
    arg c 1 1 = 2 →
    exec (.axCapture c) s = .next (u.finishHead c.ch.val { status := stOk, result := u.reg4 (R.ENC_CAPPOS k) ++ u.reg4 (R.ENC_CAPTSL k) ++ u.reg4 (R.ENC_CAPTSH k) ++ u.reg4 (R.ENC_CAPSTAT k) })) ∧
  (∀ (c : HostCmd) (s u : State) k,
    s.serves 0x1A c = true →
    u = s.atStep8 0x1A c →
    k = arg c 0 1 →
    u.inModes liveModes = true →
    k ≤ 15 →
    arg c 1 1 = 1 →
    exec (.axCapture c) s = .next ((u.put (F.ENC_CAPSTAT_FULL k) 0).finishHead c.ch.val .ok)) ∧
  (∀ (n : Fin 16) (s : State),
    s.islandsRun = true →
    (s.axis n).type = 3 →
    s.axState n = axEnergised →
    s.refAtRest n = true →
    s.moveWaits n = false →
    (s.axis n).standstill = 0 →
    exec (.standstillEnter n) s = .next (let m := s.standMode n
    let s := s.modAxis n (fun x => { x with standstill := m + 1 })
    if m == 1 then s.clearAxisLegs n else s)) ∧
  (∀ (n : Fin 16) (s : State),
    s.islandsRun = true →
    (s.axis n).startWait ≠ 0 →
    (s.groupLegs n).all (fun l => !s.flag (F.ES_LEGSTAT_HELD l) && !(s.sched l).awaitSet) = true →
    exec (.stepperLegsReady n) s = .next (let w := (s.axis n).startWait
    (s.modAxis n (fun x => { x with startWait := 0 })).puRequest n (if w == 2 then reqEngage else reqStart))) ∧
  (∀ (n : Fin 16) (s : State),
    s.computeRuns = true →
    (s.axis n).type = 3 →
    (s.axis n).loop.clamped = true →
    exec (.stepClampReport n) s = .next (s.modAxis n (fun x => { x with clamp := true })))

/-- The trajectory and gearing commands (R213, R218, R219, R225, R226, R230, R231, R234, R236, R237, R239, R242). Each
clause answers the whole next state of its command under conditions on the state and the operands alone, so whatever it
does not write stays. Where a value is the model's choice: assumption log 5, 7, 10, 19, 29. -/
def Obligations.TrajectoryCommandsComplete : Prop :=
  (∀ (c : HostCmd) (s u : State) x img t,
    s.serves 0x20 c = true →
    u = s.atStep8 0x20 c →
    x = arg c 0 1 →
    img = u.attached c →
    t = u.writeCtx x img →
    u.inModes [2, 4, 5, 6, 7, 9] = true →
    u.ctxForeign x = false →
    img.isEmpty = false →
    ((t.readCtx x).ok || emptyType (numAt img 0 4 / 2 ^ 28)) = true →
    exec (.trajCtxWrite c) s = .next (let u := t.copyCtx x
    (if arg c 1 1 % 2 == 1 then u.ctxCommit x else u).finishHead c.ch.val .ok)) ∧
  (∀ (c : HostCmd) (s u : State),
    s.serves 0x21 c = true →
    u = s.atStep8 0x21 c →
    u.inModes liveModes = true →
    exec (.trajCtxRead c) s = .next (    let r := replyWith c.ch ((List.range 32).flatMap (fun i => u.reg4 (ctxAddr (arg c 0 1) (4 * i)))) u
    r.2.finishHead c.ch.val r.1)) ∧
  (∀ (c : HostCmd) (s u : State) x n,
    s.serves 0x22 c = true →
    u = s.atStep8 0x22 c →
    x = arg c 0 1 →
    n = arg c 1 1 →
    u.inModes [2, 4, 5, 6, 9] = true →
    (decide (15 < n) && n != 255) = false →
    u.ctxBusy x = false →
    exec (.trajAssign c) s = .next (((u.putB (F.PU_CTXOWN_V x) (n != 255)).put (F.PU_CTXOWN_AXIS x) (if n == 255 then 0 else n)).finishHead c.ch.val .ok)) ∧
  (∀ (c : HostCmd) (s u : State) n x w m,
    s.serves 0x23 c = true →
    u = s.atStep8 0x23 c →
    n = arg c 0 1 →
    x = arg c 1 1 →
    w = arg c 2 1 →
    m = u.readCtx x →
    ¬ (15 < n) →
    u.profileMode n = true →
    ¬ (1 < w) →
    m.ok = true →
    u.flag (F.PU_CTXOWN_V x) = true →
    u.fld (F.PU_CTXOWN_AXIS x) = n →
    (m.typ != 3 && u.ctxBlocked n m) = false →
    (u.freewheels n && !u.axValid n) = false →
    u.flag (F.PU_AXCTX_NV n) = false →
    exec (.trajStart c) s = .next (let u := u.queueCtx n x
    (if w == 1 then u.endFreewheel n else if u.refAtRest n || u.puState n == psTracking then u.beginMove n false
        else u.puRequest n reqSwap).finishHead c.ch.val .ok)) ∧
  (∀ (c : HostCmd) (s u : State) n x,
    s.serves 0x24 c = true →
    u = s.atStep8 0x24 c →
    n = arg c 0 1 →
    x = u.fld (F.PU_AXCTX_ACTIVE n) →
    ¬ (15 < n) →
    u.profileMode n = true →
    u.activeMove n = true →
    exec (.trajTarget c) s = .next (let u := (u.wr (ctxAddr x 8) (BitVec.ofNat 32 (arg c 1 4))).wr (ctxAddr x 12) (BitVec.ofNat 32 (arg c 5 4))
      let u := u.put (F.PU_CTX_CTL_REL x) (arg c 9 1)
    (((u.copyCtx x).ctxCommit x).puRequest n reqTarget).finishHead c.ch.val .ok)) ∧
  (∀ (c : HostCmd) (s u a t : State) (put : Nat → State → Nat → Nat → State) n k x,
    s.serves 0x25 c = true →
    u = s.atStep8 0x25 c →
    n = arg c 0 1 →
    k = arg c 1 1 →
    x = u.fld (F.PU_AXCTX_ACTIVE n) →
    n ≤ 15 →
    k ≤ 15 →
    u.profileMode n = true →
    u.activeMove n = true →
    put = (fun b t off v => if k.testBit b then t.wr (ctxAddr x off) (BitVec.ofNat 32 v) else t) →
    a = put 2 (put 1 (put 0 u 0x10 (arg c 2 4)) 0x14 (arg c 6 4)) 0x18 (arg c 10 4) →
    t = put 3 a 0x20 (a.ctxWord x 0x20 / 65536 * 65536 + arg c 14 2) →
    (t.readCtx x).ok = true →
    exec (.trajParam c) s = .next (((t.copyCtx x).ctxCommit x).modProfile n (fun p => { p with waiters := p.waiters ++ [c.ch.val] }))) ∧
  (∀ (c : HostCmd) (s u : State),
    s.serves 0x26 c = true →
    u = s.atStep8 0x26 c →
    u.inModes [5, 6, 7, 9] = true →
    exec (.trajStop c) s = .next ((u.each (bitsOf 16 (arg c 0 2)) (fun n t => t.puRequest n (if arg c 2 1 == 0 then reqStop else reqQstop))).finishHead c.ch.val .ok)) ∧
  (∀ (c : HostCmd) (s u : State) n,
    s.serves 0x27 c = true →
    u = s.atStep8 0x27 c →
    n = arg c 0 1 →
    u.inModes liveModes = true →
    ¬ (15 < n) →
    exec (.trajStatus c) s = .next (u.finishHead c.ch.val { status := stOk, result := (u.reg4 (R.PU_AXSTAT n) ++ u.reg4 (R.PU_AXCTX n) ++ u.reg4 (R.PU_REFPF n) ++ u.reg4 (R.PU_REFPI n) ++ u.reg4 (R.PU_REFV n) ++ u.reg4 (R.PU_REFA n) ++ u.reg4 (R.PU_DECEFF n) ++ u.reg4 (R.PU_MPOSL n) ++ u.reg4 (R.PU_MPOSH n)) })) ∧
  (∀ (c : HostCmd) (s u : State) n x m,
    s.serves 0x28 c = true →
    u = s.atStep8 0x28 c →
    n = arg c 0 1 →
    x = arg c 1 1 →
    m = u.readCtx x →
    ¬ (15 < n) →
    u.profileMode n = true →
    (u.refAtRest n || u.puState n == psTracking) = true →
    (u.freewheels n && !u.axValid n) = false →
    m.typ = 3 →
    m.ok = true →
    u.flag (F.PU_CTXOWN_V x) = true →
    u.fld (F.PU_CTXOWN_AXIS x) = n →
    exec (.gearEngage c) s = .next (((u.queueCtx n x).beginMove n true).finishHead c.ch.val .ok)) ∧
  (∀ (c : HostCmd) (s u a t : State) n x k,
    s.serves 0x29 c = true →
    u = s.atStep8 0x29 c →
    n = arg c 0 1 →
    x = u.fld (F.PU_AXCTX_ACTIVE n) →
    k = arg c 9 1 →
    n ≤ 15 →
    u.profileMode n = true →
    (u.profile n).gear ≠ 0 →
    k ≤ 4 →
    a = ((u.wr (ctxAddr x 0x0C) (BitVec.ofNat 32 (arg c 1 4))).wr (ctxAddr x 0x10) (BitVec.ofNat 32 (arg c 5 4))).wr (ctxAddr x 0x14) (BitVec.ofNat 32 k) →
    t = a.each (List.range (Nat.min k 4)) (fun i t => t.each (List.range 4) (fun j t => t.wr (ctxAddr x (0x28 + 0x14 * i + 4 * j)) (BitVec.ofNat 32 (arg c (10 + 16 * i + 4 * j) 4)))) →
    (t.readCtx x).ok = true →
    exec (.gearTable c) s = .next (((t.copyCtx x).ctxCommit x).modProfile n (fun p => { p with waiters := p.waiters ++ [c.ch.val] }))) ∧
  (∀ (c : HostCmd) (s u : State) n,
    s.serves 0x2A c = true →
    u = s.atStep8 0x2A c →
    n = arg c 0 1 →
    u.inModes [5, 6, 7, 9] = true →
    ¬ (15 < n) →
    (u.profile n).gear ≠ 0 →
    exec (.gearDisengage c) s = .next ((u.puRequest n (if arg c 1 1 == 0 then reqStop else reqQstop)).finishHead c.ch.val .ok)) ∧
  (∀ (c : HostCmd) (s u : State),
    s.serves 0x2B c = true →
    u = s.atStep8 0x2B c →
    u.inModes liveModes = true →
    ¬ (3 < arg c 0 1) →
    exec (.vmasterSet c) s = .next ((u.vmSet (arg c 0 1) (arg c 1 8) (arg c 9 4) (arg c 13 8) (arg c 21 2)).finishHead c.ch.val .ok)) ∧
  (∀ (c : HostCmd) (s u t : State) n,
    s.serves 0x2C c = true →
    u = s.atStep8 0x2C c →
    n = arg c 0 1 →
    t = (((((((u.put (F.PU_AXCFG_EN n) 1).put (F.PU_AXCFG_PS n) (arg c 1 1)).put (F.PU_AXCFG_TSRC n) (arg c 2 1)).put (F.PU_AXCFG_TSEL n) (arg c 3 1)).put (F.PU_AXCFG_TEVT n) (arg c 4 1)).put (F.PU_AXCFG_FBSRC n) (arg c 5 1)).put (F.PU_AXCFG_FBIDX n) (arg c 6 1)) →
    u.inModes configModes = true →
    n ≤ 15 →
    u.axState n = axDisabled →
    arg c 1 1 ≤ 1 →
    arg c 2 1 ≤ 3 →
    arg c 3 1 ≤ 31 →
    arg c 4 1 ≤ 3 →
    arg c 5 1 ≤ 7 →
    arg c 6 1 ≤ 15 →
    ((u.axis n).type != 3 || stepTick (u.axis n).leader (arg c 2 1) (arg c 3 1) (arg c 4 1)) = true →
    t.puLoadOk = true →
    exec (.puAxisCfg c) s = .next (t.syncNax.finishHead c.ch.val .ok))

/-- Wear accounting, its commands, scrubbing and telemetry (R201, R203, R205, R207, R208, R209, R211, R410, R414, R415,
R421, R428). Each clause answers the whole next state of its command under conditions on the state and the operands
alone, so whatever it does not write stays. Where a value is the model's choice: assumption log 5, 7, 9, 11, 12, 30, 37. -/
def Obligations.WearAndBackgroundComplete : Prop :=
  (∀ (s : State),
    s.islandsRun = true →
    exec (.wearFlush) s = .next (s.wearFlush)) ∧
  (∀ (leg : Fin 72) (s : State),
    s.islandsRun = true →
    s.flag F.WU_CTRL_EN = true →
    s.flag (F.WU_LEGCFG_EN leg) = true →
    exec (.wearPeriodUpdate leg () () () () () ()) s = .next ((s.wearPeriod leg (fun t => t.wearLeg leg)).derateOf leg)) ∧
  (∀ (leg : Fin 72) (s : State),
    s.islandsRun = true →
    s.flag F.WU_CTRL_EN = true →
    s.flag (F.WU_LEGCFG_EN leg) = false →
    exec (.wearPeriodUpdate leg () () () () () ()) s = .next (s.derateOf leg)) ∧
  (∀ (leg : Fin 72) (s : State),
    s.wearRuns leg = true →
    s.running (s.fld (F.ES_LEGCFG_CB leg)) = false →
    exec (.wearIdleUpdate leg) s = .next ((s.wearPeriod leg (fun t => (t.wearStep (2 * leg.val) 200000 (0, 1)).wearStep (2 * leg.val + 1) 200000 (0, 1))).derateOf leg)) ∧
  (∀ (s : State),
    s.islandsRun = true →
    exec (.wearRecordWriteback) s = .next (match s.wearQ with
    | [] => s
    | i :: is => (s.withWearQ is).wearApply i)) ∧
  (∀ (c : HostCmd) (s u : State) t,
    s.serves 0x1B c = true →
    u = s.atStep8 0x1B c →
    t = arg c 0 1 →
    u.inModes [2, 4, 9] = true →
    t ≤ 15 →
    axisList.any (fun n => u.axState n == axEnergised && (u.groupLegs n).any (fun l => u.flag (F.WU_LEGCFG_EN l) && u.fld (F.WU_LEGCFG_TSET l) == t)) = false →
    (u.attached c).length = 1024 →
    u.wearPart = none →
    exec (.wearTables c) s = .next ((u.withWearPart (some (t, u.attached c))).finishHead c.ch.val .ok)) ∧
  (∀ (c : HostCmd) (s u : State) t first img,
    s.serves 0x1B c = true →
    u = s.atStep8 0x1B c →
    t = arg c 0 1 →
    u.inModes [2, 4, 9] = true →
    t ≤ 15 →
    axisList.any (fun n => u.axState n == axEnergised && (u.groupLegs n).any (fun l => u.flag (F.WU_LEGCFG_EN l) && u.fld (F.WU_LEGCFG_TSET l) == t)) = false →
    (u.attached c).length = 1024 →
    u.wearPart = some (t, first) →
    img = first ++ u.attached c →
    exec (.wearTables c) s = .next (
    let v := u.withWearPart none
    let old := (v.tsetValid t, v.tsetWords t)
    let w := v.putTset t true ((List.range 512).map (fun i => BitVec.ofNat 32 (numAt img (4 * i) 4)))
    let bad := v.put F.WU_STAT_TSETV (putBit (v.fld F.WU_STAT_TSETV) t false)
    if crc32 (img.take 0x3FC ++ img.drop 0x400) = numAt img 0x3FC 4 then
      (w.each (legList.filter (fun l => w.wearRuns l && w.fld (F.WU_LEGCFG_TSET l) == t)) (fun l x =>
        x.modWear (2 * l) (fun y => { y with old := match y.old with | none => some old | some z => some z }))).finishHead c.ch.val .ok
    else (bad.each (axisList.filter (fun n => (u.groupLegs n).any (fun l => u.flag (F.WU_LEGCFG_EN l) && u.fld (F.WU_LEGCFG_TSET l) == t)))
      (fun n t => t.assertEv (evAxis n 4))).finishHead c.ch.val { status := stMalformed })) ∧
  (∀ (c : HostCmd) (s u v w : State) p hist bs data,
    s.serves 0x1C c = true →
    u = s.atStep8 0x1C c →
    p = arg c 0 1 →
    hist = (arg c 2 1 % 2 == 1) →
    u.inModes liveModes = true →
    p ≤ 143 →
    u.resultBufs c.ch (List.replicate (if hist then 1024 else 93) 0) = some (bs, v) →
    w = State.wearDrain (if arg c 1 1 % 2 == 1 then v.wearFlushOne p else v) p →
    data = leBytes 4 (uns 32 (w.wear p).tj) ++ w.reg4 (R.WU_LIFE p) ++ w.wearImage p hist →
    exec (.wearRead c) s = .next ((w.each (bs.zip (cutBufs 4 data)) (fun x t => t.wrBytes (bufBase x.1) x.2)).finishHead c.ch.val
    { status := stOk, result := data.drop 1024, bufs := bs })) ∧
  (∀ (c : HostCmd) (s u : State) p bs n,
    s.serves 0x1D c = true →
    u = s.atStep8 0x1D c →
    p = arg c 0 1 →
    bs = u.attached c ++ c.param.drop 1 →
    n = 0x411 + 2 * Nat.min 9 (numAt bs 0x410 1) →
    u.inModes configModes = true →
    p ≤ 143 →
    n + 4 ≤ bs.length →
    crc32 (bs.take n) = numAt bs n 4 →
    (u.wear p).restored = false →
    exec (.wearRestore c) s = .next (let u := u.wearDrain p
      let u := u.each (List.range 256) (fun b t => t.wearApply ⟨p, b, numAt bs (4 * b) 4⟩)
      let u := ((u.wearApply ⟨p, 256, numAt bs 0x400 8⟩).wearApply ⟨p, 257, numAt bs 0x408 4⟩).wearApply ⟨p, 258, numAt bs 0x40C 4⟩
      ((u.modWear p (fun w => { w with restored := true })).wearLife p (numAt bs 0x400 8)).finishHead c.ch.val .ok)) ∧
  (∀ (c : HostCmd) (s u : State) n,
    s.serves 0x1E c = true →
    u = s.atStep8 0x1E c →
    n = arg c 0 1 →
    u.inModes [2, 4, 9] = true →
    n ≤ 14 →
    exec (.derateCfg c) s = .next ((((u.wr (R.WU_DRTJ n) (BitVec.ofNat 32 (arg c 1 4))).wr (R.WU_DRLIFE n)
      (BitVec.ofNat 32 (arg c 5 4))).wr (R.WU_DRDC n) (BitVec.ofNat 32 (arg c 9 4))).finishHead c.ch.val .ok)) ∧
  (∀ (c : HostCmd) (s u : State),
    s.serves 0x1E c = true →
    u = s.atStep8 0x1E c →
    arg c 0 1 = 15 →
    u.inModes [2, 4, 9] = true →
    exec (.derateCfg c) s = .next ((u.wr R.WU_DRVF (BitVec.ofNat 32 (arg c 1 4 / 256 * 256))).finishHead c.ch.val .ok)) ∧
  (∀ (region : Fin 5) (e : Fin 16) (err : Fin 3) (raced lag : Bool) (s t u : State) k a x,
    s.scrubs region = true →
    k = (if decide (3 ≤ region.val) then e.val else 0) →
    t = (if lag && decide (3 ≤ region.val) then s.put (F.MODE_SCRSTAT_LAG region) 1 else s) →
    s.scrubbed region k < scrubWords region →
    a = scrubAddr region k (s.scrubbed region k) →
    x = (if t.badAt a then 2 else err.val) →
    u = t.sharedAccess (fun v => if x == 2 then v.markBad a else v) →
    exec (.scrubRead region e err raced lag false) s = .next (
    let v := u.scrubFinds region k (8 * s.scrubbed region k) x
    if raced && x == 1 then v else v.scrubNext region k)) ∧
  (∀ (region : Fin 5) (e : Fin 16) (err : Fin 3) (raced lag : Bool) (s : State),
    s.scrubs region = true →
    exec (.scrubRead region e err raced lag true) s = .next (if lag && decide (3 ≤ region.val) then s.put (F.MODE_SCRSTAT_LAG region) 1 else s)) ∧
  (∀ (late : List (Fin 4 × Fin 16)) (adv : Nat) (s : State),
    s.supRuns = true →
    s.feature 10 = true →
    exec (.telemetryDue () late adv) s = .next (      let s := (s.runOn adv).withTel { s.tel with instant := s.tel.instant + 1 }
      let ks := s.telKinds s.tel.instant
      let step : List (List Byte) × State → Nat × Nat → List (List Byte) × State := fun acc ki =>
        let (out, s) := acc
        let (k, i) := ki
        if late.any (fun x => x.1.val == k && x.2.val == i) then (out, (s.inc F.MODE_BGSTAT_TELLATE).telCount k i)
        else
          let (res, s) := (s.sharedAccess (fun t => t)).telResult k i (s.nsAt 0)
          let s := s.telCount k i
          let dest := (s.tel.kinds.getD k (0, 0, 0)).2.1
          let (out, s) := if dest.testBit 1 then
              (out ++ [descriptor (0xA8 + k) 0 0 48 0 0 true [] res], s) else (out, s)
          (out, if dest.testBit 0 then s.telPost k res else s)
      let (out, s) := (ks.flatMap (fun k => (s.telInstances k).map (fun i => (k, i)))).foldl step ([], s)
      State.telSend 3 out s)) ∧
  (∀ (c : HostCmd) (s u : State) kinds port,
    s.serves 0xA0 c = true →
    u = s.atStep8 0xA0 c →
    kinds = (List.range 4).map (fun k => (arg c (7 * k) 4, arg c (7 * k + 4) 1, arg c (7 * k + 5) 2)) →
    port = arg c 32 4 →
    u.inModes netConfigModes = true →
    kinds.any (fun x => decide (100 < x.1) || decide (3 < x.2.1)) = false →
    port ≤ 65535 →
    port ≠ sessionPort →
    u.vmOf port = none →
    exec (.telCfg c) s = .next ((u.withTel { u.tel with kinds := kinds, ip := arg c 28 4, port := port }).finishHead c.ch.val .ok)) ∧
  (∀ (c : HostCmd) (adv : Nat) (s u v : State) k i r,
    s.serves 0xA1 c = true →
    u = s.atStep8 0xA1 c →
    k = arg c 0 1 →
    i = arg c 1 1 →
    u.inModes telModes = true →
    0xA8 ≤ k ∧ k ≤ 0xAB →
    i ≤ (if k == 0xA9 || k == 0xAB then 15 else 0) →
    (u.runOn adv).telResult (k - 0xA8) i ((u.runOn adv).nsAt 0) = (r, v) →
    exec (.telRead c adv) s = .next (v.finishHead c.ch.val { status := stOk, result := r })) ∧
  (∀ (c : HostCmd) (unstable : Bool) (s u : State) q i,
    s.serves 0xA2 c = true →
    u = s.atStep8 0xA2 c →
    q = arg c 0 1 →
    i = arg c 1 1 →
    u.inModes telModes = true →
    ¬ (4 < q) →
    ¬ ([16, 1, 1, 8, 4].getD q 0 ≤ i) →
    exec (.telInv c unstable) s = .next (let (bad, bytes) := u.invRead q i
    let r := replyWith c.ch (leBytes 1 (bad.toNat + unstable.toNat * 128) ++ bytes) u
    r.2.finishHead c.ch.val r.1)) ∧
  (∀ (c : HostCmd) (s u : State),
    s.serves 0xA3 c = true →
    u = s.atStep8 0xA3 c →
    u.inModes telModes = true →
    exec (.scrubStatus c) s = .next (
    let r := replyWith c.ch (u.reg4 R.MODE_SCRCFG ++ (List.range 5).flatMap (fun r => u.reg4 (R.MODE_SCRSTAT r)) ++
        (List.range 5).flatMap (fun r => u.reg4 (R.MODE_SCRCNT r)) ++ u.reg4 R.MODE_SCRERR ++ u.reg4 R.MODE_BGSTAT) u
    (if r.1.status = stOk then r.2.put F.MODE_SCRERR_V 0 else r.2).finishHead c.ch.val r.1)) ∧
  (∀ (c : HostCmd) (s u : State) v,
    s.serves 0xA4 c = true →
    u = s.atStep8 0xA4 c →
    v = arg c 0 4 →
    u.inModes netConfigModes = true →
    ¬ (v % 65536 < 50) →
    ¬ (6000 < v % 65536) →
    exec (.scrubCfg c) s = .next ((u.wr R.MODE_SCRCFG (BitVec.ofNat 32 (fieldPut v 21 10 0))).finishHead c.ch.val .ok))

/-- The events of the Weir: assertions, firmware stops, masks, watchdogs and the SFM (R289, R293, R294, R300, R305, R307,
R308, R309). Each clause answers the whole next state of its command under conditions on the state and the operands
alone, so whatever it does not write stays. Where a value is the model's choice: assumption log 5, 13, 31. -/
def Obligations.WeirEventsComplete : Prop :=
  (∀ (ev : Fin 256) (s : State),
    exec (.sourceAssert ev) s = .next (s.assertEv ev)) ∧
  (∀ (n : Fin 16) (rest : Bool) (s : State),
    s.supRuns = true →
    s.fld (F.WEIR_DOMST_REACT n) = 2 →
    s.flag (F.WEIR_DOMST_ACT n) = true →
    s.axState n = axEnergised →
    exec (.axisStopFirmware n rest) s = .next (if s.weir.stopDue.testBit n then
      (s.withWeir { s.weir with stopDue := putBit s.weir.stopDue n false }).stopAxis n
    else if s.axisAtRest n rest then
      ((s.clearAxisLegs n).setAxState n axFaulted).checkDone
    else s)) ∧
  (∀ (n : Fin 16) (s : State),
    s.curMode ≠ modeReset →
    s.fld (F.WEIR_DOMST_REACT n) = 2 →
    s.flag (F.WEIR_DOMST_ACT n) = true →
    s.flag (F.WEIR_DOMST_DONE n) = false →
    exec (.axisStopEscalation n) s = .next (let s := (s.put (F.WEIR_DOMST_REACT n) 4).put (F.WEIR_DOMST_ESC n) 1
    (s.startReaction n 4 (s.fld (F.WEIR_DOMST_FIRST n)) []).checkDone)) ∧
  (∀ (n : Fin 16) (s : State),
    s.supRuns = true →
    s.weir.safeOffDue.testBit n = true →
    exec (.axisSafeoffFirmware n) s = .next (let s := s.withWeir { s.weir with safeOffDue := putBit s.weir.safeOffDue n false }
    let s := s.writeSetpoint n ⟨(s.axis n).sp.mode, 0, 0, 0⟩
    let s := (s.put (F.PU_AXCTX_AV n) 0).put (F.PU_AXCTX_NV n) 0
    s.modProfile n (fun p => { p with motion := none, gear := 0, req := 0 }))) ∧
  (∀ (n : Fin 16) (s : State),
    (s.group n).maskSpillOver = true →
    exec (.settleMaskEnd (.spill n)) s = .next (((s.modGroup n (fun g => { g with maskSpill := false, maskSpillOver := false })).syncMask n).echoAssert (s.groupLegs n))) ∧
  (∀ (n : Fin 16) (s t u : State),
    (s.group n).maskClearOver = true →
    t = (s.modGroup n (fun g => { g with maskClear := false, maskClearOver := false })).syncMask n →
    u = t.echoAssert (t.groupLegs n) →
    exec (.settleMaskEnd (.clear n)) s = .next (if !u.flag (F.SPW_GSTAT_ENEFF n) && !u.flag (F.SPW_GSTAT_LATCH n) && !(u.groupLegs n).isEmpty then u.enableOff n else u)) ∧
  (∀ (k : Fin 16) (s t : State),
    (s.link k).maskOver = true →
    t = (s.modLink k (fun x => { x with mask := false, maskOver := false })).syncMaskOf k →
    exec (.settleMaskEnd (.link k)) s = .next (State.echoAssert (if t.linkState k == linkLost then t.linkLoss k else t) [3 * k.val, 3 * k.val + 1, 3 * k.val + 2])) ∧
  (∀ (n : Fin 16) (s t : State),
    s.weir.maskStopOver.testBit n = true →
    t = State.syncMask (s.withWeir { s.weir with maskStop := putBit s.weir.maskStop n false, maskStopOver := putBit s.weir.maskStopOver n false }) n →
    exec (.settleMaskEnd (.axisStop n)) s = .next (if (t.axis n).ramping then t.assertEv (evAxis n 4) else t)) ∧
  (∀ (s : State),
    s.supRuns = true →
    exec (.supHeartbeatKick) s = .next (s.kick)) ∧
  (∀ (s : State),
    s.flag F.WEIR_SFMSTAT_RUN = true →
    s.clk.safetyStopped = false →
    s.sec.halted.testBit 16 = false →
    exec (.supWatchdogMiss) s = .next (((s.put F.WEIR_SFMSTAT_WDMISS 1).inc F.WEIR_SFMSTAT_HBMISS).assertEv 137)) ∧
  (∀ (s : State),
    s.flag F.WEIR_SFMSTAT_RUN = true →
    s.clk.safetyStopped = false →
    s.flag F.WEIR_SFMCFG_RSTEN = true →
    s.weir.noKickSinceSafeOff = true →
    s.sec.halted.testBit 16 = false →
    exec (.sfmResetRequest) s = .next (s.requestWarm 4)) ∧
  (∀ (s : State),
    s.flag F.WEIR_SFMSTAT_RUN = true →
    s.clk.safetyStopped = false →
    exec .sfmConfigCheck s = .next (if s.protectCrc % 2 ^ 32 ≠ s.fld F.WEIR_SFMCRC_CRC then (s.put F.WEIR_SFMSTAT_CFGERR 1).assertEv 138 else s)) ∧
  (∀ (s : State),
    s.flag F.WEIR_SFMSTAT_RUN = true →
    s.clk.safetyStopped = false →
    exec (.sfmLockstepMismatch) s = .next (((s.put F.WEIR_SFMSTAT_LSERR 1).put F.WEIR_SFMSTAT_RUN 0).assertEv 136)) ∧
  (∀ (t : Fin 4) (inst : Nat) (result : Fin 4) (s : State),
    s.curMode = modeBoot →
    s.weir.retry.contains (t.val, inst) = true →
    result.val ≠ 0 →
    exec (.selfTestRetry t inst result) s = .next (let s := s.withWeir { s.weir with retry := s.weir.retry.filter (fun x => x != (t.val, inst)) }
    (s.bistRecord t inst result).afterTests))

/-- The fault commands: reading, clearing, re-arming, reactions, domains, notification and routing (R292, R299, R302, R303,
R304, R311, R312). Each clause answers the whole next state of its command under conditions on the state and the
operands alone, so whatever it does not write stays. Where a value is the model's choice: assumption log 7, 19, 31. -/
def Obligations.FaultCommandsComplete : Prop :=
  (∀ (c : HostCmd) (s u : State) bytes,
    s.serves 0x70 c = true →
    u = s.atStep8 0x70 c →
    bytes = (List.range 6).flatMap (fun i => u.reg4 (R.WEIR_STK i)) ++ (List.range 6).flatMap (fun i => u.reg4 (R.WEIR_PREV i)) ++ (List.range 17).flatMap (fun d => u.reg4 (R.WEIR_DOMST d)) →
    u.inModes liveModes = true →
    exec (.faultRead c) s = .next (    let r := replyWith c.ch bytes u
    r.2.finishHead c.ch.val r.1)) ∧
  (∀ (c : HostCmd) (s u : State) ignored,
    s.serves 0x71 c = true →
    u = s.atStep8 0x71 c →
    ignored = ((List.range 6).map (fun i => (bitsOf 32 (arg c (4 * i) 4 &&& u.classFBits i)).length)).foldl (· + ·) 0 →
    u.inModes liveModes = true →
    exec (.faultClear c) s = .next (let u := u.each (List.range 6) (fun i t => t.clearSticky i (arg c (4 * i) 4))
    u.finishHead c.ch.val { status := stOk, result := [BitVec.ofNat 8 ignored] })) ∧
  (∀ (c : HostCmd) (s u v : State) r,
    s.serves 0x72 c = true →
    u = s.atStep8 0x72 c →
    u.inModes liveModes = true →
    u.rearm (arg c 0 3) = (r, v) →
    exec (.faultRearm c) s = .next (v.finishHead c.ch.val { status := if r = 0 then stOk else stState, result := leBytes 3 r })) ∧
  (∀ (c : HostCmd) (s u : State) ev r,
    s.serves 0x73 c = true →
    u = s.atStep8 0x73 c →
    ev = arg c 0 1 →
    r = arg c 1 1 →
    u.inModes [modeConfigure] = true →
    ev ≤ 191 →
    r ≤ 6 →
    (u.fld (F.WEIR_RCT_ALLOW ev)).testBit r = true →
    exec (.faultReact c) s = .next ((u.writeReact ev r).finishHead c.ch.val .ok)) ∧
  (∀ (c : HostCmd) (s u : State),
    s.serves 0x74 c = true →
    u = s.atStep8 0x74 c →
    u.inModes liveModes = true →
    ¬ (191 < arg c 0 1) →
    exec (.faultInfo c) s = .next (u.finishHead c.ch.val { status := stOk, result := (u.reg4 (R.WEIR_RCT (arg c 0 1))) })) ∧
  (∀ (c : HostCmd) (s u : State) d stopt tset,
    s.serves 0x75 c = true →
    u = s.atStep8 0x75 c →
    d = arg c 0 1 →
    stopt = arg c 1 2 →
    tset = arg c 3 2 →
    u.inModes [2, 4, 9] = true →
    ¬ (16 < d) →
    1 ≤ tset ∧ tset ≤ 1000 →
    (d != domDev && !decide (100 ≤ stopt ∧ stopt ≤ 60000)) = false →
    exec (.faultDomcfg c) s = .next (let u := if d == domDev then u else u.put (F.WEIR_DOMCFG_STOPT d) stopt
    (u.put (F.WEIR_DOMCFG_TSET d) tset).finishHead c.ch.val .ok)) ∧
  (∀ (c : HostCmd) (s u : State),
    s.serves 0x76 c = true →
    u = s.atStep8 0x76 c →
    u.inModes liveModes = true →
    exec (.faultNotify c) s = .next ((((u.withWeir { u.weir with nq := [] }).syncNq).put F.WEIR_NQ_OVF 0).finishHead c.ch.val
      { status := stOk, result := u.weir.nq.map (fun e => BitVec.ofNat 8 e) ++ [BitVec.ofNat 8 (u.fld F.WEIR_NQ_OVF)] })) ∧
  (∀ (c : HostCmd) (s u : State),
    s.serves 0x77 c = true →
    u = s.atStep8 0x77 c →
    u.inModes liveModes = true →
    exec (.faultBist c) s = .next (u.finishHead c.ch.val { status := stOk, result := (u.reg4 R.WEIR_BISTSUM ++ (List.range 3).flatMap (fun w => u.reg4 (R.WEIR_BISTDES w)) ++ u.reg4 R.WEIR_BISTGL ++ (List.range 3).flatMap (fun w => u.reg4 (R.WEIR_BISTSD w)) ++ (List.range 2).flatMap (fun w => u.reg4 (R.WEIR_BISTFI w))) })) ∧
  (∀ (c : HostCmd) (s u : State) t,
    s.serves 0x78 c = true →
    u = s.atStep8 0x78 c →
    t = arg c 0 1 →
    u.inModes [2, 4, 9] = true →
    ¬ (31 < t) →
    exec (.evtRoute c) s = .next (((u.put (F.EVR_ROUTE_EV t) (arg c 1 1)).put (F.EVR_ROUTE_EN t) (arg c 2 1)).finishHead c.ch.val .ok)) ∧
  (∀ (c : HostCmd) (s u : State),
    s.serves 0x79 c = true →
    u = s.atStep8 0x79 c →
    u.inModes liveModes = true →
    exec (.sfmStatus c) s = .next (let (v, u) := u.draw
    u.finishHead c.ch.val { status := stOk, result := (u.reg4 R.WEIR_SFMSTAT ++ leBytes 4 v) }))

/-- The security commands: challenge and response, lifecycle, provisioning, Update and sessions (R429, R431, R432, R436,
R437, R438, R440, R446). Each clause answers the whole next state of its command under conditions on the state and the
operands alone, so whatever it does not write stays. Where a value is the model's choice: assumption log 5, 7, 8, 14,
32. -/
def Obligations.SecurityCommandsComplete : Prop :=
  (∀ (c : HostCmd) (s u : State),
    s.serves 0x90 c = true →
    u = s.atStep8 0x90 c →
    exec (.secStatus c) s = .next (    let r := replyWith c.ch (u.reg4 R.SEC_LCS ++ u.reg4 R.SEC_KEYST ++ u.reg4 R.SEC_AUTH ++ u.reg4 R.SEC_DBG ++ u.reg4 R.SEC_BOOT ++
      (List.range 16).flatMap (fun k => u.reg4 (R.SEC_ARB k))) u
    r.2.finishHead c.ch.val r.1)) ∧
  (∀ (c : HostCmd) (s u v : State) bs,
    s.serves 0x91 c = true →
    u = s.atStep8 0x91 c →
    u.challenge (arg c 0 1) (arg c 1 1) = (stOk, bs, v) →
    exec (.secChallenge c) s = .next (v.finishHead c.ch.val { status := stOk, result := bs })) ∧
  (∀ (c : HostCmd) (s u v : State) ok,
    s.serves 0x92 c = true →
    u = s.atStep8 0x92 c →
    c.handles.length = 1 →
    u.respond (u.attached c) = (ok, v) →
    exec (.secResponse c) s = .next (v.finishHead c.ch.val (if ok then .ok else { status := stAuth }))) ∧
  (∀ (s : State),
    exec (.nonceExpiry) s = .next (s.withSec { s.sec with nonce := none })) ∧
  (∀ (s : State),
    exec (.authLockExpiry) s = .next (s.put F.SEC_AUTH_LOCK 0)) ∧
  (∀ (c : HostCmd) (s u : State) t l,
    s.serves 0x97 c = true →
    u = s.atStep8 0x97 c →
    t = arg c 0 1 →
    l = u.fld F.SEC_LCS_PEND →
    u.inModes [2, 10] = true →
    (u.nextLcs l).contains t = true →
    (l != lcsBlank && !u.granted 3) = false →
    exec (.secLifecycle c) s = .next (((u.wrOtp 0 (BitVec.ofNat 8 t)).put F.SEC_LCS_PEND t).finishHead c.ch.val .ok)) ∧
  (∀ (c : HostCmd) (s u : State) r,
    s.serves 0x98 c = true →
    u = s.atStep8 0x98 c →
    u.inModes [modeConfigure] = true →
    u.provision (Config.otpItem (arg c 0 1)) (c.param.drop 1) = r →
    exec (.secProvision c) s = .next (match r with
    | some v => v.finishHead c.ch.val .ok
    | none => u.finishHead c.ch.val { status := stState })) ∧
  (∀ (c : HostCmd) (s u : State) k vs,
    s.serves 0x99 c = true →
    u = s.atStep8 0x99 c →
    k = arg c 0 1 →
    vs = u.imageVersions k →
    u.inModes [modeConfigure] = true →
    k ≤ 15 →
    vs.isEmpty = false →
    u.flag F.SEC_BOOT_FALLBACK = false →
    exec (.secArbAdvance c) s = .next (
    let t := u.draw.2.wrOtpBytes (0x80 + 8 * k) (leBytes 8 (raiseTo (vs.getD (u.draw.1 % vs.length) 0) 64 0 (u.draw.2.arbBits k)))
    (t.put (F.SEC_ARB_VALUE k) (t.arbValue k)).finishHead c.ch.val .ok)) ∧
  (∀ (c : HostCmd) (s u t : State) n slot,
    s.serves 0x93 c = true →
    u = s.atStep8 0x93 c →
    n = arg c 1 4 →
    u.inModes [modeUpdate] = true →
    u.sec.upd.isSome = false →
    u.updSlot (arg c 0 1) = some (slot, t) →
    n ≠ 0 →
    n ≤ updLimit slot →
    exec (.updBegin c) s = .next ((t.withSec { t.sec with upd := some ⟨slot, n, 0⟩, slotBad := putBit t.sec.slotBad slot true }).finishHead c.ch.val .ok)) ∧
  (∀ (c : HostCmd) (s u : State) x n,
    s.serves 0x94 c = true →
    u = s.atStep8 0x94 c →
    u.sec.upd = some x →
    n = arg c 4 4 →
    u.inModes [modeUpdate] = true →
    arg c 0 4 = x.next →
    n ≤ (u.updBytes c).length →
    x.next + n ≤ x.length →
    exec (.updData c) s = .next (
    let t := u.wrFlashBytes (slotBase x.slot + x.next) ((u.updBytes c).take n)
    (t.withSec { t.sec with upd := some { x with next := x.next + n } }).finishHead c.ch.val .ok)) ∧
  (∀ (c : HostCmd) (s u : State) x,
    s.serves 0x95 c = true →
    u = s.atStep8 0x95 c →
    u.sec.upd = some x →
    u.inModes [modeUpdate] = true →
    x.next ≠ x.length →
    exec (.updEnd c) s = .next ((u.withSec { u.sec with upd := none }).finishHead c.ch.val { status := reasonStatus 1, detail := 1 })) ∧
  (∀ (c : HostCmd) (s u t : State) x r,
    s.serves 0x95 c = true →
    u = s.atStep8 0x95 c →
    u.sec.upd = some x →
    u.inModes [modeUpdate] = true →
    x.next = x.length →
    r = u.imageCheck x.slot (if x.slot < 2 then 1 else 2) →
    t = u.withSec { u.sec with upd := none, slotBad := putBit u.sec.slotBad x.slot false } →
    exec (.updEnd c) s = .next (if r = 0 then (t.withMode { t.mode with warmDue := putBit t.mode.warmDue 5 true }).finishHead c.ch.val .ok
    else (u.withSec { u.sec with upd := none }).finishHead c.ch.val { status := reasonStatus r, detail := r })) ∧
  (∀ (c : HostCmd) (s u : State),
    s.serves 0x96 c = true →
    u = s.atStep8 0x96 c →
    u.inModes [modeUpdate] = true →
    exec (.updAbort c) s = .next (let u := u.withSec { u.sec with upd := none }
    (u.withMode { u.mode with warmDue := putBit u.mode.warmDue 5 true }).finishHead c.ch.val .ok)) ∧
  (∀ (c : HostCmd) (s u : State) mask num used bound n,
    s.serves 0x9A c = true →
    u = s.atStep8 0x9A c →
    mask = arg c 4 2 →
    num = arg c 6 4 →
    used = [0, 1, 2, 3].filter (fun n => (u.session n).isOpen) →
    bound = used.foldl (fun m n => m ||| (u.session n).chans) 0 →
    u.inModes [2, 4, 9] = true →
    u.feature 12 = true →
    c.handles.length = 1 →
    u.granted 4 = true →
    [0, 1, 2, 3].find? (fun n => !(u.session n).isOpen) = some n →
    bound &&& mask = 0 →
    (bitsOf 16 (bound ||| mask)).length ≤ 4 →
    used.any (fun n => (u.session n).number == num) = false →
    exec (.secSessionOpen c) s = .next ((u.setSession n ⟨true, num, arg c 0 4, u.attached c, mask, 0, 0, 0⟩).finishHead c.ch.val .ok)) ∧
  (∀ (c : HostCmd) (s u : State) n,
    s.serves 0x9B c = true →
    u = s.atStep8 0x9B c →
    u.curMode ≠ modeUpdate →
    [0, 1, 2, 3].find? (fun n => (u.session n).isOpen && (u.session n).number == arg c 0 4) = some n →
    exec (.secSessionClose c) s = .next ((u.closeSession n).finishHead c.ch.val .ok)) ∧
  (∀ (c : HostCmd) (s u : State),
    s.serves 0x9C c = true →
    u = s.atStep8 0x9C c →
    u.curMode ≠ modeUpdate →
    arg c 0 1 = 0 →
    exec (.secDebug c) s = .next (u.debugEnd.finishHead c.ch.val .ok))

/-- The test access port and the debugger (R432, R439, R440, R442). Each clause answers the whole next state of its command
under conditions on the state and the operands alone, so whatever it does not write stays. Where a value is the model's
choice: assumption log 5, 8, 32. -/
def Obligations.DebugPortCompletes : Prop :=
  (∀ (purpose level : Byte) (s : State),
    s.tapSec = true →
    exec (.tapSecChal purpose level) s = .next (let (_, bs, s) := s.challenge purpose.toNat level.toNat
    s.setTap 4 bs)) ∧
  (∀ (level : Fin 4) (s : State),
    s.tapSec = true →
    exec (.tapSecOpen level) s = .next ((s.debugOpen level).2.setTap 5 [])) ∧
  (∀ (s : State),
    s.tapUp = true →
    exec (.tapIdcode) s = .next (s.setTap 1 (leBytes 4 Config.idcode.toNat))) ∧
  (∀ (s : State),
    s.tapUp = true →
    exec (.tapBypass) s = .next (s.setTap 0 [])) ∧
  (∀ (s : State),
    s.tapUp = true →
    exec (.tapExtest) s = .next (s.setTap (if s.boundaryScan then 2 else 0) [])) ∧
  (∀ (s : State),
    s.tapUp = true →
    exec (.tapSamplePreload) s = .next (s.setTap (if s.boundaryScan then 3 else 0) [])) ∧
  (∀ (core : Fin 17) (a : Nat) (s : State),
    s.fld F.SEC_DBG_LEVEL = 2 →
    s.tapUp = true →
    exec (.debugHalt core (.brk a)) s = .next (s.withSec { s.sec with brks := (core.val, a) :: s.sec.brks })) ∧
  (∀ (core : Fin 17) (op : DebugOp) (s : State),
    op = .halt ∨ op = .step →
    s.fld F.SEC_DBG_LEVEL = 2 →
    s.tapUp = true →
    s.carriesSpeed core = false →
    exec (.debugHalt core op) s = .next ((s.withSec { s.sec with halted := putBit s.sec.halted core true, stepping := putBit s.sec.stepping core (op == .step) }).put F.SEC_DBG_HALTED 1)) ∧
  (∀ (s : State),
    s.tapUp = true →
    exec (.trstLow) s = .next ((s.debugEnd).setTap 0 []))

/-- The Basin: probe latches, samples, records, triggers and exports; the cascade cable and its pings (R314, R315, R317,
R322, R325, R330, R331, R332, R333). Each clause answers the whole next state of its command under conditions on the
state and the operands alone, so whatever it does not write stays. Where a value is the model's choice: assumption log
5, 33. -/
def Obligations.BasinEventsComplete : Prop :=
  (∀ (p : Fin 48) (v : Word) (s : State),
    s.islandsRun = true →
    exec (.probePush p v) s = .next (s.latch p v)) ∧
  (∀ (n : Fin 4) (adv : Nat) (s t : State),
    s.islandsRun = true →
    t = s.runOn adv →
    s.fld (F.BSN_SCFG_CSRC n) = 3 →
    exec (.basinSample n adv) s = .next (t.capSample n (t.nsAt 0))) ∧
  (∀ (n : Fin 4) (adv : Nat) (s t u : State) ds,
    s.islandsRun = true →
    s.fld (F.BSN_SCFG_CSRC n) ≠ 3 →
    (s.cap n).due = none :: ds →
    t = s.runOn (Nat.max adv (0 - s.tuCnt)) →
    u = t.modCap n (fun x => { x with due := ds }) →
    exec (.basinSample n adv) s = .next (u.capSample n (u.nsAt (openRound ((0 * u.tuRate : Nat) : Int) (2 ^ 16)).toNat))) ∧
  (∀ (n : Fin 4) (adv : Nat) (s t u : State) d ds,
    s.islandsRun = true →
    s.fld (F.BSN_SCFG_CSRC n) ≠ 3 →
    (s.cap n).due = some d :: ds →
    t = s.runOn (Nat.max adv (d - s.tuCnt)) →
    u = t.modCap n (fun x => { x with due := ds }) →
    exec (.basinSample n adv) s = .next (u.capSample n (u.nsAt (openRound (((u.tuCnt - d) * u.tuRate : Nat) : Int) (2 ^ 16)).toNat))) ∧
  (∀ (n : Fin 4) (adv : Nat) (s : State),
    s.islandsRun = true →
    s.fld (F.BSN_SCFG_CSRC n) ≠ 3 →
    (s.cap n).due = [] →
    exec (.basinSample n adv) s = .next (s.runOn adv)) ∧
  (∀ (n : Fin 4) (s a b t : State) r rs,
    s.clocked = true →
    (s.cap n).left = [] →
    (s.cap n).queue = r :: rs →
    a = (s.modCap n (fun x => { x with queue := rs })).wrBytes r.addr (r.words.flatMap (fun w => leBytes 4 w.toNat)) →
    b = a.put (F.BSN_SWR_CNT n) (a.fld (F.BSN_SWR_CNT n) + 1) →
    t = (b.put (F.BSN_SQUE_QUE n) (b.fld (F.BSN_SQUE_QUE n) - 1)).capCheck n →
    exec (.basinRecordWrite n) s = .next (
    let t := if t.capArmed n && decide (t.fld (F.BSN_SLEN_LEN n) ≤ r.index) then t.put (F.BSN_SSTAT_WRAP n) 1 else t
    let t := if t.capState n == csFilling && decide (t.fld (F.BSN_SPRE_PRE n) ≤ (t.cap n).written) then t.put (F.BSN_SSTAT_STATE n) csWaiting else t
    t.capDone n)) ∧
  (∀ (n : Fin 4) (s : State) r rs,
    s.clocked = true →
    (s.cap n).left = r :: rs →
    exec (.basinRecordWrite n) s = .next ((s.modCap n (fun x => { x with left := rs })).wrBytes r.addr (r.words.flatMap (fun w => leBytes 4 w.toNat)))) ∧
  (∀ (n : Fin 4) (s t : State) e es,
    s.islandsRun = true →
    (s.cap n).samples = e :: es →
    t = s.modCap n (fun x => { x with samples := es }) →
    t.capState n = csWaiting →
    e.filling = false →
    e.met ≠ 0 →
    t.fld (F.BSN_SPRE_PRE n) ≤ e.index →
    exec (.triggerDecision n) s = .next (
    let t := t.modCap n (fun x => { x with trigAt := e.index })
    let t := t.put (F.BSN_STRIG_SLOT n) (e.index % t.fld (F.BSN_SLEN_LEN n))
    let t := (t.put (F.BSN_STSL_NS n) e.recNs).put (F.BSN_STSH_NS n) (e.recNs / 2 ^ 32)
    let t := t.put (F.BSN_SSTAT_CAUSE n) ((bitsOf 4 e.met).headD 0)
    let t := (t.put (F.BSN_SSTAT_COINC n) e.met).putB (F.BSN_SSTAT_CASC n) ((e.casc &&& e.met) != 0)
    ((t.put (F.BSN_SSTAT_STATE n) csPost).assertEv (224 + n.val)).capDone n)) ∧
  (∀ (n : Fin 4) (s : State) e es,
    s.islandsRun = true →
    (s.cap n).samples = e :: es →
    e.met = 0 →
    exec (.triggerDecision n) s = .next (s.modCap n (fun x => { x with samples := es }))) ∧
  (∀ (n : Fin 4) (s t u : State) left b k,
    s.clocked = true →
    s.capState n = csDone →
    left = s.streamLen n - (s.cap n).fill →
    left ≠ 0 →
    (s.cap n).staged.length < 8 →
    s.alloc (0x50 + n.val) = some (b, t) →
    k = Nat.min 256 left →
    u = t.sharedAccess (fun t => t.wrBytes (bufBase b) ((List.range k).map (fun i => s.streamByte n ((s.cap n).fill + i)))) →
    exec (.exportBufferFill n) s = .next (u.modCap n (fun x => { x with fill := x.fill + k, staged := x.staged ++ [(b, x.fill, k)] }))) ∧
  (∀ (n : Fin 4) (s : State),
    s.capState n ≠ csDone →
    exec (.exportBufferFill n) s = .next s) ∧
  (∀ (near low : Bool) (s : State),
    s.cascOn = true →
    exec (.syncClkEdge near low) s = .next (let x := s.casc
    let run := if near then Nat.min 16 (x.run + 1) else 0
    let s := if decide (16 ≤ run) then s.put F.BSN_CSTAT_LOCK 1 else s
    let start := x.launch && s.flag F.BSN_CSTAT_LOCK
    let s := if start then s.incMod F.BSN_CSTAT_TXCNT else s
    s.withCasc { x with run := run, launch := x.launch && !start, drive := if start then 3 else x.drive - 1, highs := if low then x.highs else if x.lows == 0 then Nat.min 2 (x.highs + 1) else 1, lows := if low then x.lows + 1 else 0 })) ∧
  (∀ (s : State),
    s.cascOn = true →
    exec (.syncClkLoss) s = .next (let s := s.withCasc { s.casc with run := 0, launch := false }
    ((s.put F.BSN_CSTAT_LOCK 0).put F.BSN_CSTAT_CLKLOSS 1).assertEv 186)) ∧
  (∀ (s t : State),
    s.islandsRun = true →
    s.startNext 3 0 = true →
    t = s.takeStart 3 0 →
    t.flag F.BSN_CCFG_EN = true →
    t.flag F.BSN_CSTAT_LOCK = true →
    t.casc.lows = 0 →
    2 ≤ t.casc.highs →
    exec (.cascadeLaunch) s = .next (t.withCasc { t.casc with launch := true })) ∧
  (∀ (m : Moment) (s t u : State),
    s.cascOn = true →
    s.flag F.BSN_CSTAT_LOCK = true →
    s.casc.lows = 2 →
    2 ≤ s.casc.highs →
    t = (s.runOn m.adv).withCasc { s.casc with highs := 0 } →
    u = (if t.flag F.BSN_CCFG_OUTEN then (t.cascPulse (t.fld F.BSN_CCFG_OUTLINE) (t.nsAt m.back)).incMod F.BSN_CSTAT_RXCNT else t) →
    exec (.cascadeTriggerReceive m) s = .next (if u.flag F.BSN_CSTAT_PINGBUSY then u.pingEnd { status := stBusy } false else u)) ∧
  (∀ (s : State),
    s.cascOn = true →
    exec (.trigIoStuck) s = .next (((s.withCasc { s.casc with highs := 0 }).put F.BSN_CSTAT_STUCK 1).assertEv 187)) ∧
  (∀ (s : State),
    s.cascOn = true →
    s.flag F.BSN_CCFG_MASTER = true →
    exec (.pingAnswer) s = .next (s.withCasc { s.casc with drive := 1 })) ∧
  (∀ (r : Nat) (s : State),
    s.islandsRun = true →
    s.flag F.BSN_CSTAT_PINGBUSY = true →
    s.casc.rtts.length < 15 →
    exec (.pingRound (some r) false) s = .next (s.withCasc { s.casc with rtts := r :: s.casc.rtts, drive := 1 })) ∧
  (∀ (s : State),
    s.islandsRun = true →
    s.flag F.BSN_CSTAT_PINGBUSY = true →
    exec (.pingRound none false) s = .next (s.pingEnd { status := stNoack } false)) ∧
  (∀ (rtt : Option Nat) (s : State),
    s.islandsRun = true →
    s.flag F.BSN_CSTAT_PINGBUSY = true →
    exec (.pingRound rtt true) s = .next (s.pingEnd { status := stBusy } false)) ∧
  (∀ (r : Nat) (s t : State) l,
    s.islandsRun = true →
    s.flag F.BSN_CSTAT_PINGBUSY = true →
    l = r :: s.casc.rtts →
    16 ≤ l.length →
    t = s.put F.BSN_CSTAT_SPREAD (Nat.min (l.foldl Nat.max 0 - l.foldl Nat.min r) 255) →
    l.foldl Nat.max 0 - l.foldl Nat.min r ≤ 13 →
    exec (.pingRound (some r) false) s = .next (((t.put F.BSN_CDLY_CDLY (if t.flag F.BSN_CCFG_MASTER then 0 else (openRound ((l.foldl (· + ·) 0 : Nat) : Int) 32).toNat)).put F.BSN_CDLY_VALID 1).pingEnd { status := stOk } true))

/-- The acquisition and cascade commands (R314, R318, R320, R321, R324, R326, R329, R333, R338). Each clause answers the
whole next state of its command under conditions on the state and the operands alone, so whatever it does not write
stays. Where a value is the model's choice: assumption log 7, 19, 33. -/
def Obligations.AcquisitionCommandsComplete : Prop :=
  (∀ (c : HostCmd) (s u : State) p v t,
    s.serves 0x30 c = true →
    u = s.atStep8 0x30 c →
    p = arg c 0 1 →
    v = arg c 1 4 →
    t = v / 2 ^ 27 % 16 →
    u.captureMode = true →
    (decide (p < 48) && u.probeInUse p) = false →
    ¬ (47 < p) →
    v % 2 ^ 17 = 0 →
    ¬ (8 < t) →
    (t != 0 && decide (probeCount t ≤ v / 2 ^ 21 % 64)) = false →
    exec (.acqProbe c) s = .next ((u.wr (R.BSN_PRB p) (BitVec.ofNat 32 v)).finishHead c.ch.val .ok)) ∧
  (∀ (c : HostCmd) (s u v w x : State) n scfg sdiv base len pre post lo hi clash,
    s.serves 0x31 c = true →
    u = s.atStep8 0x31 c →
    n = arg c 0 1 →
    scfg = arg c 1 4 →
    sdiv = arg c 5 4 →
    base = arg c 9 2 →
    len = arg c 11 3 →
    pre = arg c 14 3 →
    post = arg c 17 3 →
    lo = 64 * base →
    hi = lo + len * recBytes (scfg / 2 ^ 27) (scfg / 2 ^ 16 % 256) →
    clash = [0, 1, 2, 3].any (fun m => m != n && decide (lo < (u.capRegion m).2) && decide ((u.capRegion m).1 < hi)) →
    u.captureMode = true →
    n ≤ 3 →
    u.capState n = csIdle →
    base < 2 ^ 15 →
    len < 2 ^ 20 →
    pre < len →
    post ≤ len - pre →
    u.clockOk scfg sdiv = true →
    hi ≤ basinSize →
    clash = false →
    v = (u.wr (R.BSN_SCFG n) (BitVec.ofNat 32 (scfg - scfg % 128 - (scfg / 2 ^ 24 % 8) * 2 ^ 24))).wr (R.BSN_SDIV n) (BitVec.ofNat 32 sdiv) →
    w = (v.put (F.BSN_SBASE_BASE n) base).put (F.BSN_SLEN_LEN n) len →
    x = (w.put (F.BSN_SPRE_PRE n) pre).put (F.BSN_SPOST_POST n) post →
    exec (.acqSetCfg c) s = .next ((x.each (List.range 32) (fun i t => t.put ⟨R.BSN_SCH n (i / 4), 8 * (i % 4), 6⟩ (Nat.min 63 (arg c (20 + i) 1)))).finishHead c.ch.val .ok)) ∧
  (∀ (c : HostCmd) (s u : State) n,
    s.serves 0x32 c = true →
    u = s.atStep8 0x32 c →
    n = arg c 0 1 →
    u.captureMode = true →
    n ≤ 3 →
    u.capState n = csIdle →
    (∀ j < 4, (arg c (1 + 8 * j) 4 / 2 ^ 29 % 4 = 0 → arg c (1 + 8 * j) 4 / 2 ^ 21 % 64 ≤ 47) ∧ (arg c (1 + 8 * j) 4 / 2 ^ 29 % 4 = 1 → arg c (1 + 8 * j) 4 / 2 ^ 21 % 64 ≤ 31)) →
    exec (.acqTrigCfg c) s = .next ((u.each (List.range 4) (fun j t =>
      (t.wr (R.BSN_TCND n j) (BitVec.ofNat 32 (arg c (1 + 8 * j) 4))).wr (R.BSN_TLVL n j)
        (BitVec.ofNat 32 (arg c (5 + 8 * j) 4)))).finishHead c.ch.val .ok)) ∧
  (∀ (c : HostCmd) (s u : State) m,
    s.serves 0x33 c = true →
    u = s.atStep8 0x33 c →
    m = arg c 0 1 →
    u.captureMode = true →
    (setsOf m).any (fun n => u.capArmed n || u.fld (F.BSN_SCFG_CSRC n) == 0) = false →
    ¬ (15 < m) →
    (setsOf m).any (fun n => decide (u.fld (F.BSN_SLEN_LEN n) < u.fld (F.BSN_SPRE_PRE n) + u.fld (F.BSN_SPOST_POST n))) = false →
    exec (.acqArm c) s = .next ((u.each (setsOf m) (fun n t => t.arm n)).finishHead c.ch.val .ok)) ∧
  (∀ (c : HostCmd) (s u : State),
    s.serves 0x34 c = true →
    u = s.atStep8 0x34 c →
    u.captureMode = true →
    exec (.acqDisarm c) s = .next ((u.each (setsOf (arg c 0 1)) (fun n t => t.disarm n)).finishHead c.ch.val .ok)) ∧
  (∀ (c : HostCmd) (s u : State) l,
    s.serves 0x35 c = true →
    u = s.atStep8 0x35 c →
    l = setsOf (arg c 0 1) →
    u.captureMode = true →
    l.any (fun n => u.capState n != csWaiting) = false →
    exec (.acqTrigger c) s = .next ((u.each l (fun n t => t.commandTrig n)).finishHead c.ch.val .ok)) ∧
  (∀ (c : HostCmd) (s u : State) n,
    s.serves 0x36 c = true →
    u = s.atStep8 0x36 c →
    n = arg c 0 1 →
    u.captureMode = true →
    ¬ (3 < n) →
    exec (.acqStatus c) s = .next (u.finishHead c.ch.val { status := stOk, result := (u.reg4 (R.BSN_SSTAT n) ++ u.reg4 (R.BSN_STRIG n) ++ u.reg4 (R.BSN_STSL n) ++ u.reg4 (R.BSN_STSH n) ++ u.reg4 (R.BSN_SREC n) ++ u.reg4 (R.BSN_SWR n) ++ u.reg4 (R.BSN_SEXP n) ++ u.reg4 (R.BSN_SLEFT n) ++ u.reg4 (R.BSN_SDISC n) ++ u.reg4 (R.BSN_SQUE n)) })) ∧
  (∀ (c : HostCmd) (s u t : State) n out off len fst,
    s.serves 0x37 c = true →
    u = s.atStep8 0x37 c →
    n = arg c 0 1 →
    u.captureMode = true →
    n ≤ 3 →
    u.capState n = csDone →
    out = (u.cap n).staged.take 4 →
    out.getLast? = some (fst, off, len) →
    u.passBufs c.ch.val (0x50 + n) (out.map (fun x => x.1)) = some t →
    exec (.acqRead c) s = .next (
    let t := t.modCap n (fun x => { x with staged := x.staged.drop 4 })
    let exported := (off + len - 64) / t.capBytes n
    let t' := (t.put (F.BSN_SEXP_CNT n) exported).put (F.BSN_SLEFT_CNT n) (t.capRecords n - exported)
    (t'.capCheck n).finishHead c.ch.val { status := stOk, bufs := out.map (fun x => x.1), result := leBytes 4 (out.headD (0, 0, 0)).2.1 ++ leBytes 4 (putBit len 31 (off + len == t.streamLen n)) })) ∧
  (∀ (c : HostCmd) (s u : State) v,
    s.serves 0x38 c = true →
    u = s.atStep8 0x38 c →
    v = arg c 0 4 →
    u.inModes [2, 4, 9] = true →
    v / 2 % 2 ^ 16 = 0 →
    exec (.cascCfg c) s = .next ((u.writeCcfg v).finishHead c.ch.val .ok)) ∧
  (∀ (c : HostCmd) (s u : State),
    s.serves 0x39 c = true →
    u = s.atStep8 0x39 c →
    u.inModes [2, 4, 9] = true →
    u.flag F.BSN_CCFG_MASTER = false →
    u.flag F.BSN_CCFG_EN = true →
    u.flag F.BSN_CSTAT_PINGBUSY = false →
    exec (.cascPing c) s = .next (u.pingStart (some c.ch))) ∧
  (∀ (c : HostCmd) (s u : State),
    s.serves 0x3A c = true →
    u = s.atStep8 0x3A c →
    u.captureMode = true →
    exec (.cascStatus c) s = .next (u.finishHead c.ch.val { status := stOk, result := u.reg4 R.BSN_CCFG ++ u.reg4 R.BSN_CDLY ++ u.reg4 R.BSN_CSTAT }))

/-- The network island: time, frames, ageing, links, gPTP messages and egress stamps (R340, R342, R345, R347, R348, R350,
R351, R353, R355, R357, R359, R361). Each clause answers the whole next state of its command under conditions on the
state and the operands alone, so whatever it does not write stays. Where a value is the model's choice: assumption log
5, 9, 15, 34. -/
def Obligations.NetworkEventsComplete : Prop :=
  (∀ (v : Word) (adv : Nat) (s : State),
    s.netRuns = true →
    exec (.rateRequest v adv) s = .next (let s := (s.put F.TU_RATEREQH_RATE v.toNat).tuAdvance adv
    s.applyRate ((s.rd R.TU_RATEREQL).toNat + s.fld F.TU_RATEREQH_RATE * 2 ^ 32))) ∧
  (∀ (adv : Nat) (s : State),
    s.netRuns = true →
    exec (.timeStep adv) s = .next ((s.tuAdvance adv).applyStep)) ∧
  (∀ (adv : Nat) (s : State),
    s.netRuns = true ∨ s.curMode = modeStandby →
    exec (.alarmReached adv) s = .next ((s.runOn adv).checkAlarm)) ∧
  (∀ (adv : Nat) (s t : State) due,
    s.netRuns = true →
    s.flag F.TU_CTRL_GRIDEN = true →
    t = s.tuAdvance adv →
    due = t.tickAt t.gridNext →
    due < t.net.gridFrom + 400 →
    exec (.gridMarkSend adv) s = .next (((t.withNet { t.net with gridSent := some t.gridNext }).inc F.TU_STAT_GSKIP).assertEv 174)) ∧
  (∀ (adv : Nat) (s t : State) due,
    s.netRuns = true →
    s.flag F.TU_CTRL_GRIDEN = true →
    t = s.tuAdvance adv →
    due = t.tickAt t.gridNext →
    t.net.gridFrom + 400 ≤ due →
    t.tuCnt + 400 ≤ due →
    exec (.gridMarkSend adv) s = .next ((t.withNet { t.net with gridSent := some t.gridNext }).sendGridMark due)) ∧
  (∀ (p : Fin 4) (bytes : List Byte) (bad : Bool) (full : Nat) (stamp : Moment) (s t : State) raw,
    s.netRuns = true →
    s.flag (F.SW_PCFG_EN p) = true →
    (s.runOn stamp.adv).macStamp p stamp.back = (raw, t) →
    bad = true ∨ bytes.length < 60 ∨ 1518 < bytes.length →
    exec (.frameReceive p bytes bad full stamp) s = .next (t.inc (F.SW_PSTAT_RXERR p))) ∧
  (∀ (p : Fin 4) (bytes : List Byte) (full : Nat) (stamp : Moment) (s t : State) raw,
    s.netRuns = true →
    s.flag (F.SW_PCFG_EN p) = true →
    (s.runOn stamp.adv).macStamp p stamp.back = (raw, t) →
    60 ≤ bytes.length ∧ bytes.length ≤ 1518 →
    gptpLocal bytes = false →
    exec (.frameReceive p bytes false full stamp) s = .next (t.forward p bytes full (raw - t.inLat p) [])) ∧
  (∀ (p : Fin 4) (stamp : Moment) (s t u : State) f ratio d raw,
    s.netRuns = true →
    s.txHead p = some f →
    f.relay = some (ratio, d) →
    f.evt = none →
    (s.runOn stamp.adv).macStamp p stamp.back = (raw, t) →
    u = (t.withNet { t.net with txq := t.net.txq.erase f }).freeSent f.bufs →
    exec (.frameEgress p stamp) s = .next (u.withNet { u.net with wire := some (p.val, addCorrection f.bytes (typeAt f.bytes + 2) (openRound ((raw + t.egLat p - f.inAt) * ratio) (2 ^ 32) + d)) })) ∧
  (∀ (p : Fin 4) (stamp : Moment) (s t u : State) f raw,
    s.netRuns = true →
    s.txHead p = some f →
    f.relay = none →
    f.inPort = 4 →
    f.evt = none →
    (s.runOn stamp.adv).macStamp p stamp.back = (raw, t) →
    u = (t.withNet { t.net with txq := t.net.txq.erase f }).freeSent f.bufs →
    exec (.frameEgress p stamp) s = .next (u.withNet { u.net with wire := some (p.val, f.bytes) })) ∧
  (∀ (p : Fin 4) (stamp : Moment) (s t u v : State) f raw seq bytes kept,
    s.netRuns = true →
    s.txHead p = some f →
    f.relay = none →
    f.inPort = 4 →
    f.evt = some (0, seq) →
    (s.runOn stamp.adv).macStamp p stamp.back = (raw, t) →
    bytes = setOrigin f.bytes (typeAt f.bytes + 2) (raw + t.egLat p) →
    u = (t.withNet { t.net with txq := t.net.txq.erase f }).freeSent f.bufs →
    (u.withNet { u.net with wire := some (p.val, bytes) }).pushStamp p true 0 seq (raw + t.egLat p) = (kept, v) →
    exec (.frameEgress p stamp) s = .next v) ∧
  (∀ (mac : BitVec 48) (s : State),
    s.netRuns = true →
    exec (.fdbAgeing mac) s = .next (s.withNet { s.net with fdb := s.net.fdb.filter (fun e => e.1 != mac.toNat) })) ∧
  (∀ (p : Fin 4) (up : Bool) (s : State),
    (s.netRuns || (s.curMode == modeStandby && p == 2)) = true →
    exec (.portLinkChange p up) s = .next (let fell := s.flag (F.SW_PCFG_LINK p) && !up && s.flag (F.SW_PCFG_EN p)
    let s := s.putB (F.SW_PCFG_LINK p) up
    if fell then s.assertEv 171 else s)) ∧
  (∀ (s t : State) f,
    s.netRuns = true →
    s.txHead 4 = some f →
    t = s.withNet { s.net with txq := s.net.txq.erase f } →
    t.portAction f.bytes = 0 →
    exec .internalPortFrame s = .next (t.inc (F.SW_PSTAT_VDROP 4))) ∧
  (∀ (s t : State) f,
    s.netRuns = true →
    s.txHead 4 = some f →
    t = s.withNet { s.net with txq := s.net.txq.erase f } →
    t.portAction f.bytes ≠ 0 →
    t.frameBufs 0x40 f.bytes = none →
    exec .internalPortFrame s = .next ((t.inc (F.SW_PSTAT_TCSKIP 4)).assertEv 172)) ∧
  (∀ (s t u : State) f bs,
    s.netRuns = true →
    s.txHead 4 = some f →
    t = s.withNet { s.net with txq := s.net.txq.erase f } →
    t.frameBufs 0x40 f.bytes = some (bs, u) →
    t.portAction f.bytes = 1 →
    exec .internalPortFrame s = .next (((u.sendFrame (Config.netAnswer f.bytes u.macAddr u.net.ip)).2).freeBufs bs)) ∧
  (∀ (s t u : State) f bs a,
    s.netRuns = true →
    s.txHead 4 = some f →
    t = s.withNet { s.net with txq := s.net.txq.erase f } →
    t.frameBufs 0x40 f.bytes = some (bs, u) →
    t.portAction f.bytes = 2 →
    udpAt f.bytes = some a →
    exec .internalPortFrame s = .next (u.withNet { u.net with rx := u.net.rx ++ [(bs, bytesAt f.bytes (a + 8) (beAt f.bytes (a + 4) 2 - 8))] })) ∧
  (∀ (port : BitVec 16) (src : BitVec 32) (bytes : List Byte) (s : State),
    s.netRuns = true →
    s.supRuns = true →
    (s.takeRx bytes).vmOf port.toNat = none →
    exec (.vmDatagram port src bytes) s = .next ((s.takeRx bytes).inc (F.SW_PSTAT_VDROP 4))) ∧
  (∀ (port : BitVec 16) (src : BitVec 32) (bytes : List Byte) (s t : State) k,
    s.netRuns = true →
    s.supRuns = true →
    t = s.takeRx bytes →
    t.vmOf port.toNat = some k →
    src.toNat ≠ (t.vmBind k).src ∨ bytes.length ≠ 24 ∨ numAt bytes 0 2 ≠ 0x7E17 ∨ numAt bytes 2 2 < (t.vmBind k).next →
    exec (.vmDatagram port src bytes) s = .next (t.setVmBind k { t.vmBind k with drops := (t.vmBind k).drops + 1 })) ∧
  (∀ (port : BitVec 16) (src : BitVec 32) (bytes : List Byte) (s t u : State) k,
    s.netRuns = true →
    s.supRuns = true →
    t = s.takeRx bytes →
    t.vmOf port.toNat = some k →
    src.toNat = (t.vmBind k).src →
    bytes.length = 24 →
    numAt bytes 0 2 = 0x7E17 →
    (t.vmBind k).next ≤ numAt bytes 2 2 →
    u = t.setVmBind k { t.vmBind k with next := numAt bytes 2 2 + 1 } →
    u.islandsRun = true →
    exec (.vmDatagram port src bytes) s = .next ((((u.wr64 (R.PU_VMPOSF k) (R.PU_VMPOSI k) (numAt bytes 4 8)).wr (R.PU_VMVEL k) (BitVec.ofNat 32 (numAt bytes 12 4))).wr (R.PU_VMTL k) (BitVec.ofNat 32 (numAt bytes 16 4))).vmthWrite k (BitVec.ofNat 32 (numAt bytes 20 4)))) ∧
  (∀ (bytes : List Byte) (s : State),
    beAt bytes 0 6 = s.macAddr ∨ beAt bytes 0 6 = 0xFFFFFFFFFFFF →
    beAt bytes 12 2 = 0x88B5 →
    19 ≤ bytes.length →
    numAt bytes 14 4 = (s.rd R.SW_WAKEKEY).toNat →
    numAt bytes 18 1 = s.fld F.STRAP_VAL_NODEID ∨ numAt bytes 18 1 = 0xFF →
    exec (.wakeFrame bytes) s = .next (s.wakeRequest 1)) ∧
  (∀ (p : Fin 4) (bytes : List Byte) (stamp : Moment) (origin : Int) (s t u v : State) h raw bs kept,
    h = typeAt bytes + 2 →
    s.netRuns = true →
    s.supRuns = true →
    s.flag (F.SW_PCFG_EN p) = true →
    isGptp bytes = true →
    beAt bytes (h + 4) 1 = 0 →
    (s.runOn stamp.adv).macStamp p stamp.back = (raw, t) →
    t.rxOwn bytes = some (bs, u) →
    u.role p = roleSlave →
    (u.relaySync p bytes h origin (raw - u.inLat p)).pushStamp p false 0 (beAt bytes (h + 30) 2) (raw - u.inLat p) = (kept, v) →
    exec (.gptpSyncReceived p bytes stamp origin) s = .next ((if kept then v.servo (raw - u.inLat p - (origin + (u.linkDelay p).delay)) else v).freeBufs bs)) ∧
  (∀ (p : Fin 4) (bytes : List Byte) (stamp : Moment) (origin : Int) (s t u v : State) h raw bs kept,
    h = typeAt bytes + 2 →
    s.netRuns = true →
    s.supRuns = true →
    s.flag (F.SW_PCFG_EN p) = true →
    isGptp bytes = true →
    beAt bytes (h + 4) 1 = 0 →
    (s.runOn stamp.adv).macStamp p stamp.back = (raw, t) →
    t.rxOwn bytes = some (bs, u) →
    u.role p ≠ roleSlave →
    u.pushStamp p false 0 (beAt bytes (h + 30) 2) (raw - u.inLat p) = (kept, v) →
    exec (.gptpSyncReceived p bytes stamp origin) s = .next (v.freeBufs bs)) ∧
  (∀ (s : State),
    s.netRuns = true →
    s.supRuns = true →
    [0, 1, 2, 3].any (fun p => s.role p == roleSlave) = true →
    exec (.syncLossTimeout) s = .next ((s.put F.TU_STAT_SYNC 0).assertEv 169)) ∧
  (∀ (p : Fin 4) (sequence : BitVec 16) (stamp : Moment) (s t r u : State) raw bs kept,
    s.netRuns = true →
    s.supRuns = true →
    s.flag (F.SW_PCFG_EN p) = true →
    (s.runOn stamp.adv).macStamp p stamp.back = (raw, t) →
    t.rxOwn [] = some (bs, r) →
    r.pushStamp p false 2 sequence.toNat (raw - r.inLat p) = (kept, u) →
    exec (.pdelayReqReceived p sequence stamp) s = .next ((if kept then u.sendOwn p (u.gptpBytes 3 p sequence.toNat (raw - r.inLat p)) 4 0 (some (3, sequence.toNat)) none else u).freeBufs bs)) ∧
  (∀ (p : Fin 4) (s t : State),
    s.netRuns = true →
    s.supRuns = true →
    s.flag (F.SW_PCFG_EN p) = true →
    t = State.setLinkDelay (s.withNet { s.net with seq := (s.net.seq + 1) % 65536 }) p { (s.withNet { s.net with seq := (s.net.seq + 1) % 65536 }).linkDelay p with req := none } →
    exec (.gptpTimerDue p 0) s = .next (t.sendOwn p (t.gptpBytes 0 p s.net.seq t.netTime) 4 0 (some (2, s.net.seq)) none)) ∧
  (∀ (p : Fin 4) (kind : Fin 3) (s t : State),
    s.netRuns = true →
    s.supRuns = true →
    s.flag (F.SW_PCFG_EN p) = true →
    kind ≠ 0 →
    s.net.grandmaster = true →
    s.role p = roleMaster →
    t = s.withNet { s.net with seq := (s.net.seq + 1) % 65536 } →
    exec (.gptpTimerDue p kind) s = .next (t.sendOwn p (t.gptpBytes kind p s.net.seq t.netTime) 4 0 (if kind == 2 then some (0, s.net.seq) else none) none)) ∧
  (∀ (p : Fin 4) (sequence : BitVec 16) (stamp : Moment) (t2 t3 : Int) (s t x u : State) raw bs kept q t1 r,
    s.netRuns = true →
    s.supRuns = true →
    s.flag (F.SW_PCFG_EN p) = true →
    (s.runOn stamp.adv).macStamp p stamp.back = (raw, t) →
    t.rxOwn [] = some (bs, x) →
    x.pushStamp p false 3 sequence.toNat (raw - x.inLat p) = (kept, u) →
    (u.linkDelay p).req = some (q, t1) →
    r = Config.linkDelay [t1, t2, t3, raw - x.inLat p, sgn 32 (u.fld (F.SW_PASYM_ASYM p))] (u.linkDelay p).ratio →
    exec (.pdelayRespReceived p sequence stamp t2 t3) s = .next ((if kept && q == sequence.toNat then u.setLinkDelay p ⟨r.1, r.2, none⟩ else u).freeBufs bs)) ∧
  (∀ (p : Fin 4) (bytes : List Byte) (s t : State) bs,
    s.netRuns = true →
    s.supRuns = true →
    s.flag (F.SW_PCFG_EN p) = true →
    s.rxOwn bytes = some (bs, t) →
    exec (.announceReceived p bytes) s = .next (((t.withNet { t.net with announces := SMap.set (fun _ => []) t.net.announces p bytes }).chooseRoles).freeBufs bs)) ∧
  (∀ (p : Fin 4) (bytes : List Byte) (s : State),
    s.netRuns = true →
    s.supRuns = true →
    s.flag (F.SW_PCFG_EN p) = true →
    s.rxOwn bytes = none →
    exec (.announceReceived p bytes) s = .next ((s.inc (F.SW_PSTAT_TCSKIP 4)).assertEv 172)) ∧
  (∀ (s : State),
    exec .tsqPop s = .next s.tsqPop)

/-- The network and time commands (R339, R340, R341, R342, R344, R347, R356, R357, R359, R361, R362, R365). Each clause
answers the whole next state of its command under conditions on the state and the operands alone, so whatever it does
not write stays. Where a value is the model's choice: assumption log 7, 15, 19, 34. -/
def Obligations.NetworkCommandsComplete : Prop :=
  (∀ (c : HostCmd) (s u : State) p spd,
    s.serves 0x40 c = true →
    u = s.atStep8 0x40 c →
    p = arg c 0 1 →
    spd = arg c 2 1 →
    u.inModes netConfigModes = true →
    ¬ (3 < p) →
    ¬ (1 < arg c 1 1) →
    ¬ (2 < spd) →
    ¬ (4094 < arg c 3 2) →
    arg c 3 2 ≠ 0 →
    exec (.netPortCfg c) s = .next (let u := (u.put (F.SW_PCFG_EN p) (arg c 1 1)).put (F.SW_PCFG_PVID p) (arg c 3 2)
    (if decide (2 ≤ p) && spd == 0 then u else u.put (F.SW_PCFG_SPD p) spd).finishHead c.ch.val .ok)) ∧
  (∀ (c : HostCmd) (s u : State) v,
    s.serves 0x41 c = true →
    u = s.atStep8 0x41 c →
    v = arg c 0 1 →
    u.inModes netConfigModes = true →
    ¬ (15 < v) →
    ¬ (4094 < arg c 1 2) →
    ¬ (31 < arg c 3 1) →
    ¬ (31 < arg c 4 1) →
    exec (.netVlanCfg c) s = .next (let u := (u.put (F.SW_VLAN_V v) 1).put (F.SW_VLAN_VID v) (arg c 1 2)
      let u := (u.put (F.SW_VLAN_MEMB v) (arg c 3 1)).put (F.SW_VLAN_UNTAG v) (arg c 4 1)
    (u.put ⟨R.SW_PCPMAP, 0, 16⟩ (arg c 5 2)).finishHead c.ch.val .ok)) ∧
  (∀ (c : HostCmd) (s u : State) i mac e,
    s.serves 0x42 c = true →
    u = s.atStep8 0x42 c →
    i = arg c 0 1 →
    mac = arg c 1 6 →
    e = (if arg c 8 1 == 1 then (true, mac, arg c 7 1) else (false, 0, 0)) →
    u.inModes netModes = true →
    ¬ (15 < i) →
    ¬ (31 < arg c 7 1) →
    ¬ (1 < arg c 8 1) →
    exec (.netFdb c) s = .next ((u.withNet { u.net with fixed := SMap.set (fun _ => (false, 0, 0)) u.net.fixed i e }).finishHead c.ch.val .ok)) ∧
  (∀ (c : HostCmd) (s u : State) inv,
    s.serves 0x43 c = true →
    u = s.atStep8 0x43 c →
    inv = 2 ^ 32 - 1 - arg c 4 4 →
    u.inModes netConfigModes = true →
    (inv &&& (inv + 1)) = 0 →
    exec (.netIpCfg c) s = .next ((u.withNet { u.net with ip := arg c 0 4, mask := arg c 4 4, gateway := arg c 8 4 }).finishHead c.ch.val .ok)) ∧
  (∀ (c : HostCmd) (s u : State) p,
    s.serves 0x44 c = true →
    u = s.atStep8 0x44 c →
    p = arg c 0 1 →
    u.inModes netModes = true →
    ¬ (4 < p) →
    exec (.netStatus c) s = .next (u.finishHead c.ch.val { status := stOk, result := (u.reg4 (R.SW_PSTAT p) ++ leBytes 1 (u.fld (F.SW_PCFG_LINK p))) })) ∧
  (∀ (c : HostCmd) (s u : State) r roles static lock step tmo,
    s.serves 0x45 c = true →
    u = s.atStep8 0x45 c →
    r = arg c 4 4 →
    roles = (List.range 4).map (fun p => r / 4 ^ p % 4) →
    static = r.testBit 8 →
    lock = arg c 8 1 →
    step = arg c 9 2 →
    tmo = arg c 11 1 →
    u.inModes netConfigModes = true →
    ¬ (255 < arg c 0 4) →
    ¬ (511 < r) →
    lock ≠ 0 →
    step ≠ 0 →
    ¬ (tmo < 2) →
    (static && decide (1 < roles.countP (fun x => x == roleSlave))) = false →
    exec (.timeCfg c) s = .next (let u := ((u.put F.TU_CFG_LOCKTH lock).put F.TU_CFG_STEPTH step).put F.TU_CFG_SYNCTMO tmo
      let u := u.withNet { u.net with prio := arg c 0 4, static := static, roles := if static then roles else u.net.roles }
    (u.chooseRoles).finishHead c.ch.val .ok)) ∧
  (∀ (c : HostCmd) (adv : Nat) (s u : State),
    s.serves 0x46 c = true →
    u = s.atStep8 0x46 c →
    u.inModes netModes = true →
    exec (.timeStatus c adv) s = .next (let u := u.tuAdvance adv
    u.finishHead c.ch.val { status := stOk, result := (u.reg4 R.TU_STAT ++ leBytes 4 (uns 32 (satS 32 (asr u.net.offset 16))) ++ leBytes 5 u.tuRate ++ leBytes 8 (uns 64 (asr u.netTime 16)) ++ (List.range 4).map (fun p => BitVec.ofNat 8 (u.role p))) })) ∧
  (∀ (c : HostCmd) (s u : State),
    s.serves 0x47 c = true →
    u = s.atStep8 0x47 c →
    u.inModes netConfigModes = true →
    exec (.timeRestep c) s = .next (((u.put F.TU_STAT_STEPPED 0).incMod F.TU_STAT_EPOCH).finishHead c.ch.val .ok)) ∧
  (∀ (c : HostCmd) (adv : Nat) (s u : State) per,
    s.serves 0x48 c = true →
    u = s.atStep8 0x48 c →
    per = arg c 0 4 →
    u.inModes netConfigModes = true →
    ¬ (per < 1000) →
    ¬ (1000000000 < per) →
    ¬ (per ≤ arg c 4 4) →
    ¬ (1 < arg c 8 1) →
    exec (.timeGrid c adv) s = .next (let u := u.tuAdvance adv
      let on := !u.flag F.TU_CTRL_GRIDEN && arg c 8 1 == 1
      let u := (u.put F.TU_GRIDPER_PER per).put F.TU_GRIDOFS_OFS (arg c 4 4)
      let u := u.put F.TU_CTRL_GRIDEN (arg c 8 1)
    (if on then u.gridRestart else u).finishHead c.ch.val .ok)) ∧
  (∀ (c : HostCmd) (adv : Nat) (s u v : State),
    s.serves 0x49 c = true →
    u = s.atStep8 0x49 c →
    u.inModes netModes = true →
    v = u.tuAdvance adv →
    v.timePassed (arg c 0 8) = false →
    arg c 8 1 ≤ 1 →
    exec (.timeAlarm c adv) s = .next (((v.wr64 R.TU_ALARML R.TU_ALARMH (arg c 0 8)).put F.TU_CTRL_ALARMEN (arg c 8 1)).finishHead c.ch.val .ok)) ∧
  (∀ (c : HostCmd) (s u : State) p,
    s.serves 0x4A c = true →
    u = s.atStep8 0x4A c →
    p = arg c 0 1 →
    u.inModes netConfigModes = true →
    ¬ (3 < p) →
    exec (.netPortDelay c) s = .next ((((u.put (F.SW_PDLY_INLAT p) (arg c 1 2)).put (F.SW_PDLY_EGLAT p) (arg c 3 2)).put (F.SW_PASYM_ASYM p) (arg c 5 4)).finishHead c.ch.val .ok)) ∧
  (∀ (c : HostCmd) (s u : State) k port on,
    s.serves 0x4B c = true →
    u = s.atStep8 0x4B c →
    k = arg c 0 1 →
    port = arg c 1 4 →
    on = arg c 9 1 →
    u.inModes netConfigModes = true →
    ¬ (3 < k) →
    ¬ (65535 < port) →
    port ≠ 0 →
    ¬ (1 < on) →
    (on == 1 && (port == sessionPort || [0, 1, 2, 3].any (fun j => j != k && (u.vmBind j).en && (u.vmBind j).port == port))) = false →
    exec (.netVmBind c) s = .next ((u.setVmBind k (if on == 1 then ⟨true, port, arg c 5 4, 0, 0⟩ else VmBind.reset)).finishHead c.ch.val .ok)) ∧
  (∀ (c : HostCmd) (s u : State),
    s.serves 0x4C c = true →
    u = s.atStep8 0x4C c →
    u.inModes [modeConfigure, modeReady, modeSafeOff] = true →
    exec (.netWakeCfg c) s = .next ((u.wr R.SW_WAKEKEY (BitVec.ofNat 32 (arg c 0 4))).finishHead c.ch.val .ok))

/-- CAN controllers: received frames, queues, spills, transmission, errors and bus-off (R366, R367, R370, R371, R372, R373,
R374, R375, R379, R380). Each clause answers the whole next state of its command under conditions on the state and the
operands alone, so whatever it does not write stays. Where a value is the model's choice: assumption log 16, 35. -/
def Obligations.CanEventsComplete : Prop :=
  (∀ (n : Fin 8) (frame : CanFrame) (heard : CanHeard) (s t : State),
    s.canOnBus n = true →
    s.canMode n ≠ 2 →
    t = s.runOn heard.rx.sof.adv →
    (frame.fdf && !t.flag (F.CAN_CFG_FDEN n)) = true →
    exec (.canFrameReceived n frame heard) s = .next ((t.canFdSeen n).startIf n heard.next)) ∧
  (∀ (n : Fin 8) (frame : CanFrame) (heard : CanHeard) (s t u : State),
    s.canOnBus n = true →
    s.canMode n ≠ 2 →
    t = s.runOn heard.rx.sof.adv →
    (frame.fdf && !t.flag (F.CAN_CFG_FDEN n)) = false →
    u = (if t.canMode n == 1 || t.fld (F.CAN_ERR_REC n) == 0 then t else t.setRec n (if decide (127 < t.fld (F.CAN_ERR_REC n)) then 127 else t.fld (F.CAN_ERR_REC n) - 1)) →
    exec (.canFrameReceived n frame heard) s = .next (let v := if u.canMode n == 1 then u else u.put (F.CAN_STAT_LEC n) 0
    (v.canReceive n frame (v.nsAt heard.rx.sof.back) heard.rx.writes).startIf n heard.next)) ∧
  (∀ (n : Fin 8) (q : Fin 2) (s : State),
    exec (.qheadLock n q) s = .next (if (s.canQueue n q).isEmpty then s else s.put (F.CAN_QSTAT_LOCK n q) 1)) ∧
  (∀ (n : Fin 8) (q : Fin 2) (s : State),
    s.flag (F.CAN_QSTAT_LOCK n q) = true →
    exec (.queueRelease n q) s = .next ((s.canRelease n q).canCheck n)) ∧
  (∀ (n : Fin 8) (s : State) e es,
    (s.can n).spills = e :: es →
    exec (.spillDone n) s = .next ((s.canSpillDone n e).canCheck n)) ∧
  (∀ (n : Fin 8) (bufs : BitVec 16) (sof : Bool) (s : State),
    exec (.txRequest n bufs sof) s = .next (((s.canRequest n (bitsOf 16 bufs.toNat)).canCheck n).startIf n sof)) ∧
  (∀ (n : Fin 8) (bufs : BitVec 16) (s : State),
    exec (.txCancel n bufs) s = .next ((s.canCancel n (bitsOf 16 bufs.toNat)).canCheck n)) ∧
  (∀ (n : Fin 8) (rx : CanRx) (s t v : State) b ns,
    t = s.canStart n →
    (t.can n).sending = some b →
    t.canMaySend n = true →
    v = t.runOn rx.sof.adv →
    ns = v.nsAt rx.sof.back →
    exec (.txAttemptEnd n (.sent rx) false) s = .next (
    let u := ((v.inc (F.CAN_TXST_ATT n b)).put (F.CAN_STAT_LEC n) 0).wrBytes (canTxb n b + 0x0C) (leBytes 8 ns)
    let u := u.setTec n (u.fld (F.CAN_ERR_TEC n) - 1)
    let u := u.canReturn n b resSent ((t.can n).cancels.testBit b)
    (if u.canMode n == 2 then u.canReceive n (v.canFrameOf n b) ns rx.writes else u).canCheck n)) ∧
  (∀ (n : Fin 8) (s t : State) b,
    t = s.canStart n →
    (t.can n).sending = some b →
    t.canMaySend n = true →
    (t.can n).cancels.testBit b = false →
    exec (.txAttemptEnd n .lost false) s = .next (((t.modCan n (fun x => { x with sending := none })).put (F.CAN_TXST_RESULT n b) resPending).canCheck n)) ∧
  (∀ (n : Fin 8) (s t : State) b,
    t = s.canStart n →
    (t.can n).sending = some b →
    t.canMaySend n = true →
    (t.can n).cancels.testBit b = true →
    exec (.txAttemptEnd n .lost false) s = .next ((t.canReturn n b resCancelled false).canCheck n)) ∧
  (∀ (n : Fin 8) (err : CanFail) (s t u v : State) b,
    t = s.canStart n →
    (t.can n).sending = some b →
    t.canMaySend n = true →
    (t.can n).cancels.testBit b = false →
    u = (t.inc (F.CAN_TXST_ATT n b)).put (F.CAN_STAT_LEC n) err.lec.toNat →
    v = u.setTec n (u.fld (F.CAN_ERR_TEC n) + (if err.exempt && (err.lec == 1 || (err.lec == 3 && u.fld (F.CAN_ERR_STATE n) == canPassive)) then 0 else 8) + 8 * err.eights) →
    255 < v.fld (F.CAN_ERR_TEC n) ∨ 16 ≤ v.fld (F.CAN_CFG_RETR n) ∨ v.fld (F.CAN_TXST_ATT n b) ≤ v.fld (F.CAN_CFG_RETR n) →
    exec (.txAttemptEnd n (.failed err) false) s = .next (((v.modCan n (fun x => { x with sending := none })).put (F.CAN_TXST_RESULT n b) resPending).canCheck n)) ∧
  (∀ (n : Fin 8) (next : Bool) (s : State),
    s.canOnBus n = true →
    s.canMode n ≠ 2 →
    s.flag (F.CAN_CFG_FDEN n) = false →
    exec (.canBusError n (.fdFrame next)) s = .next ((s.canFdSeen n).startIf n next)) ∧
  (∀ (n : Fin 8) (lec : BitVec 3) (eights : Nat) (next : Bool) (s t : State),
    s.canOnBus n = true →
    s.canMode n = 0 →
    t = s.put (F.CAN_STAT_LEC n) lec.toNat →
    exec (.canBusError n (.receive lec eights next)) s = .next ((t.setRec n (t.fld (F.CAN_ERR_REC n) + 1 + 8 * eights)).startIf n next)) ∧
  (∀ (n : Fin 8) (lec : BitVec 3) (eights : Nat) (next : Bool) (s : State),
    s.canOnBus n = true →
    s.canMode n = 1 →
    exec (.canBusError n (.receive lec eights next)) s = .next ((s.put (F.CAN_STAT_LEC n) lec.toNat).startIf n next)) ∧
  (∀ (n : Fin 8) (tx : Bool) (eights : Nat) (next : Bool) (s : State),
    s.canOnBus n = true →
    s.canMode n = 0 →
    exec (.canBusError n (.overload tx eights next)) s = .next ((if tx then s.setTec n (s.fld (F.CAN_ERR_TEC n) + 8 * eights)
      else s.setRec n (s.fld (F.CAN_ERR_REC n) + 8 * eights)).startIf n next)) ∧
  (∀ (n : Fin 8) (s : State),
    s.canRuns n = true →
    255 < s.fld (F.CAN_ERR_TEC n) →
    s.fld (F.CAN_ERR_STATE n) ≠ canBusOff →
    exec (.busOff n) s = .next (let s := ((s.put (F.CAN_ERR_STATE n) canBusOff).put (F.CAN_ERR_BORCNT n) 0).put (F.CAN_STAT_BOFF n) 1
    let s := match (s.can n).sending with
      | some b => s.put (F.CAN_TXST_RESULT n b) resPending
      | none => s
    let s := s.modCan n (fun x => { x with sending := none, recovering := s.flag (F.CAN_CFG_BOAUTO n) })
    let s := if s.flag (F.CAN_CFG_BOFLUSH n) then s.canFlush n
      else s.each ((s.canPending n).filter (fun b => (s.can n).cancels.testBit b)) (fun b t => t.canReturn n b resCancelled false)
    (s.canCheck n).assertEv 160)) ∧
  (∀ (n : Fin 8) (s : State),
    s.canRuns n = true →
    s.fld (F.CAN_ERR_STATE n) = canBusOff →
    (s.can n).recovering = true →
    exec (.busoffRecovered n) s = .next (let s := (s.wr (R.CAN_ERR n) 0).put (F.CAN_ERR_BORCNT n) 128
    (s.modCan n (fun x => { x with recovering := false })).canStart n)) ∧
  (∀ (n : Fin 8) (s : State),
    s.canRuns n = true →
    exec (.stuckDominant n) s = .next ((s.put (F.CAN_STAT_STUCKD n) 1).assertEv 165)) ∧
  (∀ (n : Fin 8) (s : State),
    s.canRuns n = true →
    s.fld (F.CAN_ERR_STATE n) = canIntegrating →
    exec (.busIntegrationDone n) s = .next (((s.put (F.CAN_ERR_STATE n) canActive).canErrState n).canStart n))

/-- The CAN commands (R368, R369, R372, R375, R377, R379, R386). Each clause answers the whole next state of its command
under conditions on the state and the operands alone, so whatever it does not write stays. Where a value is the model's
choice: assumption log 7, 16, 19, 35. -/
def Obligations.CanCommandsComplete : Prop :=
  (∀ (c : HostCmd) (s u : State) n cfg nbt dbt,
    s.serves 0x50 c = true →
    u = s.atStep8 0x50 c →
    n = arg c 0 1 →
    cfg = arg c 1 4 →
    nbt = arg c 5 4 →
    dbt = arg c 9 4 →
    u.inModes netConfigModes = true →
    ¬ (7 < n) →
    u.flag (F.CAN_CTRL_EN n) = false →
    canTimingOk nbt dbt = true →
    (cfg.testBit 17 && decide (2 ≤ n)) = false →
    exec (.canCfg c) s = .next (let u := u.wr (R.CAN_CFG n) (BitVec.ofNat 32 (cfg / 1024 * 1024))
      let u := u.wr (R.CAN_NBT n) (BitVec.ofNat 32 (putBit nbt 9 false))
    (u.wr (R.CAN_DBT n) (BitVec.ofNat 32 (dbt / 2048 * 2048 + dbt % 32))).finishHead c.ch.val .ok)) ∧
  (∀ (c : HostCmd) (s u : State) n f k,
    s.serves 0x51 c = true →
    u = s.atStep8 0x51 c →
    n = arg c 0 1 →
    f = arg c 1 1 →
    k = arg c 6 4 →
    u.inModes canModes = true →
    n ≤ 7 →
    f ≤ 31 →
    (k.testBit 31 && decide (2 ≤ n)) = false →
    exec (.canFilter c) s = .next (((u.writeFilter n (R.CAN_FLTM n f) (BitVec.ofNat 32 (arg c 2 4))).writeFilter n (R.CAN_FLTK n f) (BitVec.ofNat 32 (putBit k 30 false))).finishHead c.ch.val .ok)) ∧
  (∀ (c : HostCmd) (s u : State),
    s.serves 0x52 c = true →
    u = s.atStep8 0x52 c →
    u.inModes canModes = true →
    exec (.canStart c) s = .next ((u.each (bitsOf 8 (arg c 0 1)) (fun n t => t.canEnable n ((arg c 1 1).testBit 0))).finishHead c.ch.val .ok)) ∧
  (∀ (c : HostCmd) (sof : Bool) (s u : State) n b id flags len data,
    s.serves 0x53 c = true →
    u = s.atStep8 0x53 c →
    n = arg c 0 1 →
    id = arg c 4 4 % 2 ^ 31 →
    flags = arg c 8 4 % 128 →
    len = (if id.testBit 30 then 0 else dlcBytes (flags.testBit 4) (flags % 16)) →
    data = (if decide (32 < len) then (u.attached c).take len else bytesAt c.param 0x0C len) →
    u.inModes canModes = true →
    n ≤ 7 →
    bufList16.find? (fun b => !(u.canPending n).contains b) = some b →
    u.canMode n ≠ 1 →
    u.flag (F.CAN_CTRL_EN n) = true →
    u.fld (F.CAN_ERR_STATE n) ≠ canBusOff ∨ u.flag (F.CAN_CFG_BOFLUSH n) = false →
    len ≤ 32 ∨ c.handles.isEmpty = false →
    exec (.canTx c sof) s = .next (
    let t := (u.wrMem32 (canTxb n b) id).wrMem32 (canTxb n b + 4) flags
    let t := t.wrBytes (canTxb n b + 0x14) (bytesAt data 0 64)
    let t := t.modCan n (fun x => { x with tags := x.tags ++ [⟨b, arg c 2 2, c.ch⟩] })
    ((t.canRequest n [b]).canCheck n).startIf n sof)) ∧
  (∀ (c : HostCmd) (s u : State) n t,
    s.serves 0x54 c = true →
    u = s.atStep8 0x54 c →
    n = arg c 0 1 →
    u.inModes canModes = true →
    n ≤ 7 →
    (u.can n).tags.find? (fun t => t.tag == arg c 1 2) = some t →
    exec (.canTxCancel c) s = .next (((u.canCancel n [t.buf]).canCheck n).finishHead c.ch.val .ok)) ∧
  (∀ (c : HostCmd) (s u : State) n q k wait,
    s.serves 0x55 c = true →
    u = s.atStep8 0x55 c →
    n = arg c 0 1 →
    q = arg c 1 1 →
    k = arg c 2 1 →
    wait = arg c 3 4 →
    u.inModes canModes = true →
    n ≤ 7 →
    q ≤ 1 →
    k ≠ 0 →
    k ≤ 12 →
    wait ≤ 1000 →
    u.canAvail n q ≠ 0 →
    exec (.canRxRead c) s = .next ((u.canDeliver c.ch n q k).2.finishHead c.ch.val (u.canDeliver c.ch n q k).1)) ∧
  (∀ (c : HostCmd) (s u : State) n q k wait,
    s.serves 0x55 c = true →
    u = s.atStep8 0x55 c →
    n = arg c 0 1 →
    q = arg c 1 1 →
    k = arg c 2 1 →
    wait = arg c 3 4 →
    u.inModes canModes = true →
    n ≤ 7 →
    q ≤ 1 →
    k ≠ 0 →
    k ≤ 12 →
    wait ≤ 1000 →
    0 < wait →
    u.canAvail n q = 0 →
    exec (.canRxRead c) s = .next (u.modCan n (fun x => { x with reads := x.reads ++ [(c.ch.val, q, k)] }))) ∧
  (∀ (k : Fin 16) (s t u : State) n v,
    s.supRuns = true →
    t = s.canServeReads →
    (List.range 8).find? (fun n => (t.can n).reads.any (fun r => r.1 == k.val)) = some n →
    (t.modCan n (fun x => { x with reads := x.reads.filter (fun r => r.1 != k.val) })).draw = (v, u) →
    exec (.rxReadWaitEnd k) s = .next (u.finishHead k { status := stOk, result := leBytes 1 0 ++ leBytes 2 v })) ∧
  (∀ (k : Fin 16) (s t : State),
    s.supRuns = true →
    t = s.canServeReads →
    (List.range 8).find? (fun n => (t.can n).reads.any (fun r => r.1 == k.val)) = none →
    exec (.rxReadWaitEnd k) s = .next t) ∧
  (∀ (c : HostCmd) (s u v : State) n,
    s.serves 0x56 c = true →
    u = s.atStep8 0x56 c →
    n = arg c 0 1 →
    u.inModes (canModes ++ [modeRecovery]) = true →
    ¬ (7 < n) →
    v = u.canCount [R.CAN_ERR n] →
    exec (.canStatus c) s = .next (    let r := replyWith c.ch (v.reg4 (R.CAN_ERR n) ++ v.reg4 (R.CAN_STAT n) ++ v.reg4 (R.CAN_QSTAT n 0) ++ v.reg4 (R.CAN_QSTAT n 1) ++
      v.canCounters n ++ v.reg4 (R.CAN_INV n)) v
    r.2.finishHead c.ch.val r.1)) ∧
  (∀ (c : HostCmd) (s u : State) n,
    s.serves 0x57 c = true →
    u = s.atStep8 0x57 c →
    n = arg c 0 1 →
    u.inModes canModes = true →
    ¬ (7 < n) →
    u.fld (F.CAN_ERR_STATE n) = canBusOff →
    u.flag (F.CAN_CFG_BOAUTO n) = false →
    exec (.canBusoffRecover c) s = .next ((u.modCan n (fun x => { x with recovering := true })).finishHead c.ch.val .ok))

/-- Field inputs and outputs, the field supply and their commands (R387, R388, R389, R391, R392, R393, R395, R397, R398,
R399, R401, R405). Each clause answers the whole next state of its command under conditions on the state and the
operands alone, so whatever it does not write stays. Where a value is the model's choice: assumption log 5, 7, 19, 36. -/
def Obligations.FieldIoCompletes : Prop :=
  (∀ (n : Fin 32) (level win : Bool) (s t : State),
    s.inSampled n = true →
    s.inPulsed n = false →
    s.flag (F.FIO_ISTAT_RAW n) ≠ level →
    t = (s.putB (F.FIO_ISTAT_RAW n) level).rawEdge n level →
    exec (.inputRawChange n level win) s = .next (if t.flag (F.FIO_ISTAT_VALID n) && level == t.inRawLvl n then t.inReject n win else t)) ∧
  (∀ (n : Fin 32) (s : State),
    s.inSampled n = true →
    s.inPulsed n = false →
    s.flag (F.FIO_ISTAT_VALID n) = true →
    s.flag (F.FIO_ISTAT_RAW n) ≠ s.inRawLvl n →
    exec (.inputEdge n) s = .next (s.inEdge n)) ∧
  (∀ (n : Fin 32) (level win : Bool) (s t : State),
    s.inSampled n = true →
    s.inPulsed n = true →
    t = State.putB (if s.flag (F.FIO_ISTAT_RAW n) == level then s else s.rawEdge n level) (F.FIO_ISTAT_RAW n) level →
    t.flag (F.FIO_ISTAT_VALID n) = false →
    exec (.pulseSample n level win) s = .next t) ∧
  (∀ (n : Fin 32) (level win : Bool) (s t : State),
    s.inSampled n = true →
    s.inPulsed n = true →
    t = State.putB (if s.flag (F.FIO_ISTAT_RAW n) == level then s else s.rawEdge n level) (F.FIO_ISTAT_RAW n) level →
    t.flag (F.FIO_ISTAT_VALID n) = true →
    level = t.inRawLvl n →
    exec (.pulseSample n level win) s = .next (let u := t.modFin n (fun x => { x with agree := 0 })
    if s.flag (F.FIO_ISTAT_RAW n) != t.inRawLvl n then u.inReject n win else u)) ∧
  (∀ (n : Fin 32) (level win : Bool) (s t : State),
    s.inSampled n = true →
    s.inPulsed n = true →
    t = State.putB (if s.flag (F.FIO_ISTAT_RAW n) == level then s else s.rawEdge n level) (F.FIO_ISTAT_RAW n) level →
    t.flag (F.FIO_ISTAT_VALID n) = true →
    level ≠ t.inRawLvl n →
    exec (.pulseSample n level win) s = .next (if decide (t.inNeed n ≤ (t.fin n).agree + 1) then t.inEdge n
    else t.modFin n (fun x => { x with cand := level, agree := x.agree + 1 }))) ∧
  (∀ (n : Fin 32) (s t : State),
    s.inSampled n = true →
    s.flag (F.FIO_ICFG_WBEN n) = true →
    s.flag (F.FIO_ISTAT_RAW n) = false →
    t = s.modFin n (fun x => { x with wbRun := bump 8 x.wbRun }) →
    exec (.wireBreakMeasure n true) s = .next (if (t.fin n).wbRun < 8 ∨ t.flag (F.FIO_ISTAT_WB n) = true then t
    else ((t.put (F.FIO_ISTAT_WB n) 1).refreshIn n).assertEv 176)) ∧
  (∀ (n : Fin 32) (s : State),
    s.inSampled n = true →
    s.flag (F.FIO_ICFG_WBEN n) = true →
    s.flag (F.FIO_ISTAT_RAW n) = false →
    exec (.wireBreakMeasure n false) s = .next (((s.modFin n (fun x => { x with wbRun := 0 })).put (F.FIO_ISTAT_WB n) 0).refreshIn n)) ∧
  (∀ (m : Fin 16) (s : State),
    s.outsMay = true →
    s.flag (F.FIO_OSTAT_ON m) = true →
    exec (.outputOverloadTrip (some m)) s = .next (((s.put (F.FIO_OSTAT_OVL m) 1).latchOut m).assertEv 178)) ∧
  (∀ (s : State),
    s.outsMay = true →
    outList.any (fun m => s.flag (F.FIO_OSTAT_ON m)) = true →
    exec (.outputOverloadTrip none) s = .next (((s.put F.FIO_OTOT_TOTOVL 1).each outList (fun m t => t.latchOut m)).assertEv 178)) ∧
  (∀ (m : Fin 16) (s : State),
    s.outsMay = true →
    exec (.outputThermalShutdown m) s = .next (((s.put (F.FIO_OSTAT_TSD m) 1).latchOut m).assertEv 179)) ∧
  (∀ (m : Fin 16) (s : State),
    s.outsMay = true →
    (s.flag (F.FIO_OSTAT_ON m) || s.flag (F.FIO_OCFG_OLOFF m)) = true →
    exec (.openLoadDetect m) s = .next ((s.put (F.FIO_OSTAT_OL m) 1).assertEv 180)) ∧
  (∀ (v : BitVec 16) (copy : Bool) (s t : State),
    s.fieldUp = true →
    t = s.put F.FSM_STAT_VFLD v.toNat →
    exec (.vfldMeasure v copy) s = .next (let u := t.put F.FSM_VMIN_VMIN (Nat.min v.toNat (t.fld F.FSM_VMIN_VMIN))
      if copy && u.islandsRun then u.put F.WU_VFLD_VFLD v.toNat else u)) ∧
  (∀ (cond : Fin 5) (enter : Bool) (s : State),
    s.fieldUp = true →
    cond.val = 0 →
    s.vfldIn cond ≠ enter →
    vfldBeyond cond enter (s.fld F.FSM_STAT_VFLD) = true →
    exec (.vfldThreshold cond enter) s = .next (if enter then ((s.put F.FSM_STAT_HIGH 1).put F.FSM_EVT_HIGHF 1).assertEv 181 else s.put F.FSM_STAT_HIGH 0)) ∧
  (∀ (cond : Fin 5) (enter : Bool) (s : State),
    s.fieldUp = true →
    cond.val = 1 →
    s.vfldIn cond ≠ enter →
    vfldBeyond cond enter (s.fld F.FSM_STAT_VFLD) = true →
    exec (.vfldThreshold cond enter) s = .next (if enter then ((s.put F.FSM_STAT_LOW 1).put F.FSM_EVT_LOWF 1).assertEv 181 else s.put F.FSM_STAT_LOW 0)) ∧
  (∀ (cond : Fin 5) (enter : Bool) (s : State),
    s.fieldUp = true →
    cond.val = 2 →
    s.vfldIn cond ≠ enter →
    vfldBeyond cond enter (s.fld F.FSM_STAT_VFLD) = true →
    exec (.vfldThreshold cond enter) s = .next ((s.putB F.FSM_STAT_INVIN enter).each inputList (fun n t => t.refreshIn n))) ∧
  (∀ (cond : Fin 5) (enter : Bool) (s : State),
    s.fieldUp = true →
    cond.val = 3 →
    s.vfldIn cond ≠ enter →
    vfldBeyond cond enter (s.fld F.FSM_STAT_VFLD) = true →
    exec (.vfldThreshold cond enter) s = .next (if enter then ((((((s.put F.FSM_STAT_CUT 1).put F.FSM_EVT_CUTF 1).inc F.FSM_EVT_CUTCNT).each outList (fun m t => t.put (F.FIO_OSTAT_CUT m) 1)).refreshOuts).assertEv 182) else s)) ∧
  (∀ (cond : Fin 5) (enter : Bool) (s : State),
    s.fieldUp = true →
    cond.val = 4 →
    s.vfldIn cond ≠ enter →
    vfldBeyond cond enter (s.fld F.FSM_STAT_VFLD) = true →
    exec (.vfldThreshold cond enter) s = .next (if enter then ((s.put F.FSM_STAT_MISS 1).put F.FSM_EVT_MISSF 1).assertEv 183 else s.put F.FSM_STAT_MISS 0)) ∧
  (∀ (c : HostCmd) (s u : State) n v deb raw,
    s.serves 0x60 c = true →
    u = s.atStep8 0x60 c →
    n = arg c 0 1 →
    v = arg c 1 4 →
    deb = v / 2 ^ 16 % 256 →
    raw = u.inRawLvl n →
    u.inModes netConfigModes = true →
    ¬ (31 < n) →
    deb ≠ 0 →
    ¬ (250 < deb) →
    exec (.fieldInCfg c) s = .next (let u := u.wr (R.FIO_ICFG n) (BitVec.ofNat 32 (fieldPut (fieldPut v 24 2 0) 0 8 0))
      let u := if u.flag (F.FIO_ISTAT_VALID n) then u.setLvl n (raw != u.flag (F.FIO_ICFG_POL n)) else u
    (u.refreshIn n).finishHead c.ch.val .ok)) ∧
  (∀ (c : HostCmd) (s u : State),
    s.serves 0x61 c = true →
    u = s.atStep8 0x61 c →
    u.inModes fieldModes = true →
    exec (.fieldInRead c) s = .next (
    let r := replyWith c.ch (u.reg4 R.FIO_LEVELS ++ u.reg4 R.FIO_VALIDS ++ inputList.flatMap (fun n => u.reg4 (R.FIO_ISTAT n))) u
    (if r.1.status = stOk then r.2.each inputList (fun n u => u.put ⟨R.FIO_ISTAT n, 25, 4⟩ 0) else r.2).finishHead c.ch.val r.1)) ∧
  (∀ (c : HostCmd) (s u : State) m v,
    s.serves 0x62 c = true →
    u = s.atStep8 0x62 c →
    m = arg c 0 1 →
    v = arg c 1 4 →
    u.inModes netConfigModes = true →
    ¬ (15 < m) →
    ¬ (250 < v / 2 ^ 20 % 256) →
    exec (.fieldOutCfg c) s = .next ((((u.wr (R.FIO_OCFG m) (BitVec.ofNat 32 (fieldPut (fieldPut v 28 1 0) 0 20 0))).refreshOut m)).finishHead c.ch.val .ok)) ∧
  (∀ (c : HostCmd) (s u : State) mask v,
    s.serves 0x63 c = true →
    u = s.atStep8 0x63 c →
    mask = arg c 0 2 →
    v = arg c 2 2 →
    u.inModes fieldModes = true →
    (u.inModes [modeSafeOff, modeRecovery] && outList.any (fun m => mask.testBit m && u.flag (F.FIO_OCFG_SOFF m))) = false →
    exec (.fieldOutSet c) s = .next ((u.each (bitsOf 16 mask) (fun m t => (t.putB ⟨R.FIO_OSET, m, 1⟩ (v.testBit m)).refreshOut m)).finishHead c.ch.val .ok)) ∧
  (∀ (c : HostCmd) (hot : BitVec 16) (above : Bool) (s u : State),
    s.serves 0x64 c = true →
    u = s.atStep8 0x64 c →
    u.inModes fieldModes = true →
    (arg c 2 1).testBit 0 = false →
    (arg c 3 1).testBit 0 = false →
    (u.clearOuts (arg c 0 2) hot.toNat).1 = 0 →
    exec (.fieldOutClear c hot above) s = .next ((u.clearOuts (arg c 0 2) hot.toNat).2.finishHead c.ch.val .ok)) ∧
  (∀ (c : HostCmd) (ma : List Nat) (s u v : State) r,
    s.serves 0x65 c = true →
    u = s.atStep8 0x65 c →
    u.inModes fieldModes = true →
    reportField c.ch (u.takeLoads (u.loadOf ma)) = (r, v) →
    exec (.fieldStatus c ma) s = .next (v.finishHead c.ch.val r)) ∧
  (∀ (c : HostCmd) (s u : State) iv,
    s.serves 0x66 c = true →
    u = s.atStep8 0x66 c →
    iv = arg c 5 2 →
    u.inModes [modeConfigure, modeReady, modeSafeOff] = true →
    ¬ (1 < arg c 4 1) →
    iv ≠ 0 →
    ¬ (1000 < iv) →
    exec (.fieldWakeCfg c) s = .next (((((u.wr R.FIO_WAKE (BitVec.ofNat 32 (arg c 0 4))).put F.FIO_SBCFG_ALL (arg c 4 1)).put F.FIO_PCFG_SBINT iv)).finishHead c.ch.val .ok))

/-- Mode requests and the events that change the mode or follow a change (R30, R33, R37, R38, R39, R40, R42, R48, R200,
R286). Each clause answers the whole next state of its command under conditions on the state and the operands alone, so
whatever it does not write stays. Where a value is the model's choice: assumption log 4, 5, 7, 24. -/
def Obligations.ModesComplete : Prop :=
  (∀ (target : Fin 16) (s t : State) r,
    s.supRuns = true →
    t = s.put F.MODE_REQ_TARGET target.val →
    lowest (t.modeReasons target.val false ++ t.standbyReasons target.val) = some r →
    exec (.modeRequest target) s = .next (t.refuseReq r)) ∧
  (∀ (target : Fin 16) (s t : State),
    s.supRuns = true →
    t = s.put F.MODE_REQ_TARGET target.val →
    lowest (t.modeReasons target.val false ++ t.standbyReasons target.val) = none →
    target.val ≠ modeStandby →
    exec (.modeRequest target) s = .next (t.goMode target.val)) ∧
  (∀ (target : Fin 16) (s t : State),
    s.supRuns = true →
    t = s.put F.MODE_REQ_TARGET target.val →
    lowest (t.modeReasons target.val false ++ t.standbyReasons target.val) = none →
    target.val = modeStandby →
    exec (.modeRequest target) s = .next (if t.restAxes.isEmpty then t.enterStandby else t.startRestCheck 16)) ∧
  (∀ (c : HostCmd) (s u : State) m,
    s.serves 0x03 c = true →
    u = s.atStep8 0x03 c →
    m = arg c 0 1 →
    m ∈ [2, 4, 5, 6, 7, 9, 11] →
    lowest ((u.put F.MODE_REQ_TARGET m).modeReasons m true ++ (u.put F.MODE_REQ_TARGET m).standbyReasons m) = none →
    (((u.put F.MODE_REQ_TARGET m).goMode m).finishHead c.ch.val .ok).mode.restCheck = none →
    exec (.sysMode c) s = .next (((u.put F.MODE_REQ_TARGET m).goMode m).finishHead c.ch.val .ok)) ∧
  (∀ (wakes : BitVec 5) (s t : State) w dropped r,
    s.mode.restCheck = some (w, dropped) →
    t = s.withMode { s.mode with restCheck := none, speedTasks := if s.curMode == modeSafeOff || s.curMode == modeRecovery then s.mode.speedTasks else 0 } →
    lowest (t.restReasons dropped) = some r →
    exec (.standbyRestCheckDone wakes) s = .next (if w.val < 16 then (t.refuseReq r).finishHead w { status := stState, result := leBytes 1 r } else t.refuseReq r)) ∧
  (∀ (wakes : BitVec 5) (s t u : State) w dropped,
    s.mode.restCheck = some (w, dropped) →
    t = s.withMode { s.mode with restCheck := none, speedTasks := if s.curMode == modeSafeOff || s.curMode == modeRecovery then s.mode.speedTasks else 0 } →
    lowest (t.restReasons dropped) = none →
    u = (if w.val < 16 then t.finishHead w Reply.ok else t) →
    exec (.standbyRestCheckDone wakes) s = .next ((u.wr R.MODE_WAKESRC (u.rd R.MODE_WAKESRC ||| (wakes.setWidth 32 &&& u.rd R.MODE_WAKEEN))).enterStandby)) ∧
  (∀ (c : HostCmd) (s u : State),
    s.serves 0x05 c = true →
    u = s.atStep8 0x05 c →
    u.inModes [modeConfigure, modeReady, modeSafeOff] = true →
    ¬ (31 < arg c 0 4) →
    exec (.sysWakecfg c) s = .next ((u.wr R.MODE_WAKEEN (BitVec.ofNat 32 (arg c 0 4))).finishHead c.ch.val .ok)) ∧
  (∀ (c : HostCmd) (s u : State) t,
    s.serves 0x0D c = true →
    u = s.atStep8 0x0D c →
    t = arg c 0 4 →
    u.inModes [2, 4, 5, 6, 9] = true →
    (t != 0 && !decide (10 ≤ t ∧ t ≤ 10000)) = false →
    exec (.sysLinkwd c) s = .next ((u.put F.MODE_HLINK_TMO t).finishHead c.ch.val .ok)) ∧
  (∀ (late : Bool) (s : State) safe,
    safe = s.groupList.all (fun n => s.flag (F.SPW_GSTAT_SAFE n)) →
    s.curMode = modeSafeOff →
    s.flag F.MODE_CAUSE_FATAL = true →
    (safe || late) = true →
    exec (.safeoffToRecovery late) s = .next (State.checkDone (State.toMode (if safe then s else s.put F.MODE_CAUSE_SOTMO 1) modeRecovery))) ∧
  (∀ (s : State),
    s.supRuns = true →
    s.curMode = modeRun →
    s.derating = true →
    exec (.deratePoll) s = .next (s.toMode modeDerate)) ∧
  (∀ (s : State),
    s.supRuns = true →
    s.curMode = modeDerate →
    s.derating = false →
    exec (.derateHoldExpiry) s = .next (s.toMode modeRun)) ∧
  (∀ (n : Fin 16) (s t : State),
    s.supRuns = true →
    s.curMode = modeStop →
    s.axState n = axEnergised →
    s.axisAtRest n true = true →
    t = s.axGoto n axArmed →
    exec (.axisRestReached n) s = .next (if t.anyAxis axEnergised then t else t.toMode modeReady)) ∧
  (∀ (s : State),
    s.supRuns = true →
    s.curMode = modeStop →
    s.anyAxis axEnergised = true →
    exec (.stopTimeout) s = .next (s.assertEv 130)) ∧
  (∀ (s : State),
    s.supRuns = true →
    s.inModes [modeRun, modeDerate] = true →
    s.fld F.MODE_HLINK_TMO ≠ 0 →
    exec (.hostLinkTimeout) s = .next ((s.put F.MODE_HLINK_LOST 1).enterStop)) ∧
  (∀ (src : Fin 6) (clocks : Nat) (s : State),
    s.curMode ≠ modeStandby →
    exec (.wakeSource src clocks) s = .next s) ∧
  (∀ (src : Fin 6) (clocks : Nat) (s t : State),
    s.curMode = modeStandby →
    t = (if decide (src.val < 5) then s.wakeRequest src else s) →
    (t.rd R.MODE_WAKESRC).toNat ≠ 0 →
    exec (.wakeSource src clocks) s = .next (t.wakeUp clocks)) ∧
  (∀ (src : Fin 6) (clocks : Nat) (s t : State),
    s.curMode = modeStandby →
    t = (if decide (src.val < 5) then s.wakeRequest src else s) →
    (t.rd R.MODE_WAKESRC).toNat = 0 →
    exec (.wakeSource src clocks) s = .next t) ∧
  (∀ (n : Fin 16) (s t : State),
    s.supRuns = true →
    (s.axis n).reenable = true →
    s.axValid n = true →
    (s.groupLegs n).all (fun l => s.flag (F.ES_LEGSTAT_HELD l)) = true →
    t = s.modAxis n (fun a => { a with reenable := false }) →
    exec (.legsHeldReenable n) s = .next (if t.axState n == axArmed || t.axState n == axEnergised then t.enableAxisLegs n else t))

/-- Resets, straps, PLL lock, memory clear, image check and island resets (R409, R436, R449, R452, R454, R455, R456, R457,
R458, R463). Each clause answers the whole next state of its command under conditions on the state and the operands
alone, so whatever it does not write stays. Where a value is the model's choice: assumption log 3, 5, 21, 22. -/
def Obligations.ResetAndBootComplete : Prop :=
  (∀ (bor : Bool) (s : State),
    exec (.porstAssert bor) s = .next (s.powerOn bor)) ∧
  (∀ (s : State) due,
    due = (if s.anyShorted then s.mode.warmDue &&& 16 else s.mode.warmDue) →
    due ≠ 0 →
    exec (.warmReset) s = .next (s.warmReset due)) ∧
  (∀ (s : State),
    (if s.anyShorted then s.mode.warmDue &&& 16 else s.mode.warmDue) = 0 →
    exec (.warmReset) s = .next s) ∧
  (∀ (s : State),
    exec (.clockFaultReset) s = .next (if s.clk.faultDue == 0 then s else s.warmReset s.clk.faultDue)) ∧
  (∀ (otpBad x32 : Bool) (s : State),
    s.curMode = modeReset →
    s.clk.strapDue = false →
    exec (.resetRelease otpBad x32) s = .next (let s := (s.loadOtp otpBad).putB F.CLK_STAT_X32OK x32
    let s := s.toMode modeBoot
    if otpBad then s.assertEv 191 else s)) ∧
  (∀ (samples : List (BitVec 14)) (s : State),
    s.clk.strapDue = true →
    samples.length = 16 →
    exec (.strapLatch samples) s = .next (let ones : Nat → Nat := fun i => (samples.filter (fun x => x.toNat.testBit i)).length
    let v := maskOf ((List.range 14).filter (fun i => decide (8 < ones i)))
    let u := maskOf ((List.range 14).filter (fun i => decide (0 < ones i ∧ ones i < 16)))
    let s := s.wr R.STRAP_VAL (BitVec.ofNat 32 (2 * v))
    let s := (s.put F.STRAP_STAT_UNST u).putB F.STRAP_STAT_UNSTABLE (u != 0)
    (s.withClk { s.clk with strapDue := false }).applyStraps)) ∧
  (∀ (p : Fin 3) (bad : List (Fin 4 × Nat × Bool)) (s : State),
    exec (.pllLock p bad) s = .next (if s.curMode == modeReset then s else s.pllLock p bad)) ∧
  (∀ (p : Fin 2) (ok : Bool) (bad : List (Fin 4 × Nat × Bool)) (s : State),
    exec (.pllLockRetry p ok bad) s = .next (if s.curMode == modeReset || !ok then s
    else if s.flag (if p.val == 0 then F.CLK_STAT_MLOCK else F.CLK_STAT_SLOCK) then s else s.pllLock p bad)) ∧
  (∀ (bad : List (Fin 4 × Nat × Bool)) (s : State),
    s.booting = true →
    s.clk.cleared = false →
    s.flag F.CLK_STAT_MLOCK = true →
    exec (.memoryClearDone bad) s = .next ((s.withClk { s.clk with cleared := true }).bootOn bad)) ∧
  (∀ (s t u v : State) slot r,
    s.mayBoot = true →
    s.fld F.STRAP_VAL_BOOTSEL ≠ 2 →
    slot = s.bootOrder.getD s.clk.tried 0 →
    s.slotCheck slot 1 = (r, t) →
    u = t.put (if slot = 0 then F.SEC_BOOT_FAILA else F.SEC_BOOT_FAILB) r →
    v = u.withClk { u.clk with tried := u.clk.tried + 1 } →
    exec (.firmwareImageChecked) s = .next (if r = 0 then t.startFirmware slot
      else if u.clk.tried = 0 then (v.put F.SEC_BOOT_FALLBACK 1).assertEv 189
      else (v.put F.SEC_BOOT_SLOT 2).bootRecovery 3)) ∧
  (∀ (s : State),
    s.mayBoot = true →
    s.fld F.STRAP_VAL_BOOTSEL = 2 →
    exec (.firmwareImageChecked) s = .next (s.bootRecovery 6)) ∧
  (∀ (v : BitVec 6) (s : State),
    s.supServes = true →
    exec (.islandResetWrite v) s = .next (s.supWritesIrst v.toNat)) ∧
  (∀ (i : Fin 6) (s : State),
    (s.rd R.CLK_IRST).toNat.testBit i = true →
    s.clocked = true →
    exec (.islandResetAccess i) s = .next (s.resetAccess))

/-- Clock losses, the die link, supply warnings, the driver rail and the die temperature (R9, R290, R451, R452, R453, R460,
R461, R465). Each clause answers the whole next state of its command under conditions on the state and the operands
alone, so whatever it does not write stays. Where a value is the model's choice: assumption log 5, 38. -/
def Obligations.ClocksAndSuppliesComplete : Prop :=
  (∀ (xin : Bool) (s : State),
    exec (.mainClockLoss xin) s = .next (if s.curMode == modeReset || s.clk.mainStopped || (s.curMode == modeStandby && !xin) then s
    else
      let s := s.put F.CLK_STAT_MLOCK 0
      let s := if xin then (s.put F.CLK_STAT_XOK 0).put F.CLK_STAT_SBYLOCK 0 else s
      let s := s.withClk { s.clk with mainStopped := true, fieldStopped := true }
      let s := s.refreshOuts
      (s.assertEv 152).faultReset 6)) ∧
  (∀ (sxin : Bool) (s : State),
    exec (.safetyClockLoss sxin) s = .next (if s.curMode == modeReset || s.curMode == modeStandby || s.clk.safetyStopped then s
    else
      let s := s.put F.CLK_STAT_SLOCK 0
      let s := if sxin then s.put F.CLK_STAT_SXOK 0 else s
      let s := s.put F.CLK_STAT_SFLOST 1
      let s := s.withClk { s.clk with safetyStopped := true }
      let s := s.withMode { s.mode with rillHeld := s.mode.rillHeld ++ [153] }
      let s := if s.islandsRun then s.tripAll causeWeir [] else s
      s.faultReset 7)) ∧
  (∀ (dev : BitVec 16) (s t : State) was,
    s.flag F.CLK_STAT_XOK = true →
    s.flag F.CLK_STAT_SXOK = true →
    t = s.put F.CLK_STAT_DEV dev.toNat →
    10000 < dev.toInt.natAbs →
    was = t.clk.devRun →
    exec (.referenceMismatchWindow dev) s = .next (let u := t.withClk { t.clk with devRun := Nat.min 2 (was + 1) }
      let u := if was == 0 then u else u.put F.CLK_STAT_MISMATCH 1
      if was == 1 then u.assertEv 154 else u)) ∧
  (∀ (dev : BitVec 16) (s t : State),
    s.flag F.CLK_STAT_XOK = true →
    s.flag F.CLK_STAT_SXOK = true →
    t = s.put F.CLK_STAT_DEV dev.toNat →
    dev.toInt.natAbs ≤ 10000 →
    exec (.referenceMismatchWindow dev) s = .next (t.withClk { t.clk with devRun := 0 })) ∧
  (∀ (s : State),
    s.flag F.CLK_STAT_X32OK = true →
    exec (.x32Loss) s = .next ((s.put F.CLK_STAT_X32OK 0).assertEv 155)) ∧
  (∀ (stays : Bool) (s t : State),
    s.curMode ≠ modeReset →
    s.flag F.CLK_IRST_FIELD = false →
    s.clk.mainStopped = false →
    t = (s.withClk { s.clk with fieldStopped := stays }).refreshOuts →
    exec (.forwardedClockStop stays) s = .next (t.assertEv 139)) ∧
  (∀ (s : State),
    s.fieldUp = true →
    exec (.dieLinkParityError) s = .next (s.assertEv 139)) ∧
  (∀ (rail : Fin 4) (low : Bool) (s t : State),
    s.curMode ≠ modeReset →
    s.flag ⟨R.CLK_SUPMON, 1 + rail, 1⟩ ≠ low →
    t = s.putB ⟨R.CLK_SUPMON, 1 + rail, 1⟩ low →
    exec (.supplyWarning rail low) s = .next (if low then t.assertEv 157 else t)) ∧
  (∀ (v : BitVec 16) (s t : State),
    s.curMode ≠ modeReset →
    v.toNat < 1350 ∨ 1650 < v.toNat →
    t = (s.put F.CLK_SUPMON_VDRV v.toNat).put F.CLK_SUPMON_VDRVIN 0 →
    exec (.vdrvOutOfRange v) s = .next (if s.flag F.CLK_SUPMON_VDRVARM && s.flag F.CLK_SUPMON_VDRVIN then t.assertEv 156 else t)) ∧
  (∀ (v : BitVec 16) (s t : State),
    s.curMode ≠ modeReset →
    v.toNat < 1100 →
    t = s.put F.CLK_SUPMON_VDRV v.toNat →
    exec (.vdrvCollapse v) s = .next ((t.put F.CLK_SUPMON_VDRVOFF 1).withClk { t.clk with vdrvBack := false })) ∧
  (∀ (v : BitVec 16) (s : State),
    exec (.vdrvInRange v) s = .next (if s.curMode == modeReset then s
    else
      let s := s.put F.CLK_SUPMON_VDRV v.toNat
      let s := if decide (1350 ≤ v.toNat ∧ v.toNat ≤ 1650) then
          (s.put F.CLK_SUPMON_VDRVIN 1).put F.CLK_SUPMON_VDRVARM 1
        else s
      if decide (1150 < v.toNat) && s.flag F.CLK_SUPMON_VDRVOFF then s.withClk { s.clk with vdrvBack := true } else s)) ∧
  (∀ (log fld : BitVec 16) (s : State),
    exec (.dieTempUpdate log fld) s = .next (if s.curMode == modeReset then s
    else
      let hot : State → Bool := fun t =>
        decide (2400 < sgn 16 (t.fld F.CLK_TEMP_LOG)) || decide (2400 < sgn 16 (t.fld F.CLK_TEMP_FLD))
      let was := hot s
      let s := (s.put F.CLK_TEMP_LOG log.toNat).put F.CLK_TEMP_FLD fld.toNat
      if hot s && !was then s.assertEv 159 else s))

/-- The host port, doorbells, command consumption, feature commit and host sessions (R258, R259, R266, R267, R274, R281).
Each clause answers the whole next state of its command under conditions on the state and the operands alone, so
whatever it does not write stays. Where a value is the model's choice: assumption log 8, 22, 23. -/
def Obligations.HostPortCompletes : Prop :=
  (∀ (head : List (BitVec 4)) (len : Nat) (s : State) a,
    s.hpAddr 0x0B head = some a →
    exec (.hpRead head len) s = .next (if !s.supServes then s.withHpOut (List.replicate len 0)
    else if decide (0x20000 ≤ a) then (s.inc F.HP_STAT_ADRERR).withHpOut (List.replicate len 0)
    else s.sharedAccess (fun t => t.withHpOut ((List.range len).map (fun i => t.windowByte ((a + i) % 0x20000)))))) ∧
  (∀ (head : List (BitVec 4)) (len : Nat) (s : State),
    s.hpAddr 0x0B head = none →
    exec (.hpRead head len) s = .next s) ∧
  (∀ (s : State),
    exec (.hpRdsr) s = .next (s.withHpOut [BitVec.ofNat 8 (s.supServes.toNat + 2 * s.hostIrq.toNat + 4 * s.fld F.MODE_CUR_WAKE + 16 * s.curMode)])) ∧
  (∀ (k : Fin 16) (v : Word) (s : State),
    s.supServes = true →
    exec (.doorbellWrite k v) s = .next (s.qspiDoorbell k v.toNat)) ∧
  (∀ (v : Word) (s : State),
    s.supServes = true →
    exec (.featCommit v) s = .next (s.featCommit v.toNat)) ∧
  (∀ (head data : List (BitVec 4)) (s : State) a,
    s.hpAddr 0x02 head = some a →
    exec (.hpWrite head data) s = .next (if !s.supServes then s
    else if decide (0x20000 ≤ a) then s.inc F.HP_STAT_ADRERR
    else State.windowWrite (s.hpBytes data).length s a (s.hpBytes data))) ∧
  (∀ (head data : List (BitVec 4)) (s : State),
    s.hpAddr 0x02 head = none →
    exec (.hpWrite head data) s = .next s) ∧
  (∀ (s : State),
    exec (.commandConsume) s = .next (if !s.supServes then s
    else match ((List.range 16).map (fun i => (s.mbxTurn + i) % 16)).find? (fun k => s.mayConsume k) with
      | some k => s.consume k
      | none => s)) ∧
  (∀ (bytes : List Byte) (burst : Bool) (s : State),
    s.netRuns = true →
    s.supRuns = true →
    (s.takeRx bytes).feature 12 = true →
    [0, 1, 2, 3].find? (fun n => ((s.takeRx bytes).session n).isOpen && ((s.takeRx bytes).session n).number == numAt bytes 4 4) = none →
    exec (.hostSessionDatagram bytes burst) s = .next (if burst then (s.takeRx bytes).assertEv 142 else s.takeRx bytes)) ∧
  (∀ (bytes : List Byte) (burst : Bool) (s t : State) n,
    s.netRuns = true →
    s.supRuns = true →
    t = s.takeRx bytes →
    t.feature 12 = true →
    [0, 1, 2, 3].find? (fun n => (t.session n).isOpen && (t.session n).number == numAt bytes 4 4) = some n →
    bytes.drop (bytes.length - 16) ≠ hmacTag (t.session n).key (bytes.take (bytes.length - 16)) ∨ numAt bytes 8 4 < (t.session n).rxNext →
    exec (.hostSessionDatagram bytes burst) s = .next (t.discardDatagram n burst)) ∧
  (∀ (bytes : List Byte) (burst : Bool) (s t : State) n x,
    s.netRuns = true →
    s.supRuns = true →
    t = s.takeRx bytes →
    t.feature 12 = true →
    [0, 1, 2, 3].find? (fun n => (t.session n).isOpen && (t.session n).number == numAt bytes 4 4) = some n →
    x = t.session n →
    bytes.drop (bytes.length - 16) = hmacTag x.key (bytes.take (bytes.length - 16)) →
    x.rxNext ≤ numAt bytes 8 4 →
    numAt bytes 0 2 = 0x7E16 →
    numAt bytes 2 1 = 1 →
    bytes.length ≤ 1472 →
    x.chans.testBit (numAt bytes 12 1) = true →
    numAt bytes 13 1 ≤ 16 →
    numAt bytes 3 1 = 1 →
    bytes.length = 36 + 64 * numAt bytes 13 1 →
    exec (.hostSessionDatagram bytes burst) s = .next ((t.modSession n (fun x => { x with rxNext := numAt bytes 8 4 + 1 })).sessionCommands (numAt bytes 12 1) bytes)) ∧
  (∀ (bytes : List Byte) (burst : Bool) (s t : State) n x,
    s.netRuns = true →
    s.supRuns = true →
    t = s.takeRx bytes →
    t.feature 12 = true →
    [0, 1, 2, 3].find? (fun n => (t.session n).isOpen && (t.session n).number == numAt bytes 4 4) = some n →
    x = t.session n →
    bytes.drop (bytes.length - 16) = hmacTag x.key (bytes.take (bytes.length - 16)) →
    x.rxNext ≤ numAt bytes 8 4 →
    numAt bytes 0 2 = 0x7E16 →
    numAt bytes 2 1 = 1 →
    bytes.length ≤ 1472 →
    x.chans.testBit (numAt bytes 12 1) = true →
    numAt bytes 13 1 ≤ 16 →
    numAt bytes 3 1 = 3 →
    exec (.hostSessionDatagram bytes burst) s = .next ((t.modSession n (fun x => { x with rxNext := numAt bytes 8 4 + 1 })).sessionBuffer (numAt bytes 12 1) bytes)) ∧
  (∀ (k : Fin 16) (index : BitVec 16) (s t : State) n l ok,
    s.netRuns = true →
    s.supRuns = true →
    s.chanSession k = some n →
    l = oneDatagram ((s.chan k).sent.dropWhile (fun r => r.index != index.toNat)) →
    l ≠ [] →
    s.sendDatagram n k l = (ok, t) →
    exec (.sessionResponseResend k index) s = .next (if ok then t.each l (fun r u => u.stage k r) else s)) ∧
  (∀ (k : Fin 16) (index : BitVec 16) (s : State),
    s.chanSession k = none →
    exec (.sessionResponseResend k index) s = .next s) ∧
  (∀ (n : Fin 4) (s : State),
    s.supRuns = true →
    (s.session n).isOpen = true →
    exec (.sessionIdleClose n) s = .next (s.closeSession n))

/-- The system commands: identification, status, reset, credits, buffers, channels and echo (R269, R277, R286). Each clause
answers the whole next state of its command under conditions on the state and the operands alone, so whatever it does
not write stays. Where a value is the model's choice: assumption log 7, 19, 23. -/
def Obligations.SystemCommandsComplete : Prop :=
  (∀ (c : HostCmd) (s u : State),
    s.serves 0x00 c = true →
    u = s.atStep8 0x00 c →
    u.curMode ≠ modeUpdate →
    exec (.sysNop c) s = .next (u.finishHead c.ch.val .ok)) ∧
  (∀ (c : HostCmd) (s u : State) ids,
    s.serves 0x01 c = true →
    u = s.atStep8 0x01 c →
    ids = axisList.flatMap (fun e => leBytes 4 (if (u.engImg e).loaded then (u.engImg e).ident else 0)) →
    exec (.sysId c) s = .next (    let r := replyWith c.ch ([0, 4, 8, 12].flatMap (fun o => leBytes 4 (u.windowWord o)) ++ u.reg4 R.STRAP_VAL ++ ids) u
    r.2.finishHead c.ch.val r.1)) ∧
  (∀ (c : HostCmd) (s u : State),
    s.serves 0x02 c = true →
    u = s.atStep8 0x02 c →
    exec (.sysStatus c) s = .next (u.finishHead c.ch.val { status := stOk, result := (u.reg4 R.MODE_CUR ++ u.reg4 R.MODE_CAUSE ++ u.reg4 R.MODE_AXST0 ++ u.reg4 (R.MODE_AXST0 + 4) ++ leBytes 1 u.stickyMap ++ u.reg4 R.MBX_RSVFREE ++ leBytes 1 (u.fld F.MBX_CREDPOOL_POOL) ++ u.reg4 R.MBX_INV) })) ∧
  (∀ (c : HostCmd) (s u : State),
    s.serves 0x04 c = true →
    u = s.atStep8 0x04 c →
    u.curMode ≠ modeUpdate →
    arg c 0 1 = 1 →
    u.anyShorted = false →
    exec (.sysReset c) s = .next ((u.requestWarm 3).finishHead c.ch.val .ok)) ∧
  (∀ (c : HostCmd) (s u t : State) k,
    s.serves 0x06 c = true →
    u = s.atStep8 0x06 c →
    k = arg c 0 1 →
    u.curMode ≠ modeUpdate →
    k ≤ 15 →
    u.setLimit k (arg c 1 1) = some t →
    exec (.creditSet c) s = .next (t.checkCredit.finishHead c.ch.val .ok)) ∧
  (∀ (c : HostCmd) (s u t v : State) n bs is,
    s.serves 0x07 c = true →
    u = s.atStep8 0x07 c →
    n = arg c 0 1 →
    1 ≤ n ∧ n ≤ 16 →
    u.allocN (0x10 + c.ch.val) n = some (bs, t) →
    t.mapAll bs = some (is, v) →
    exec (.bufAlloc c) s = .next (v.finishHead c.ch.val { status := stOk, result := (List.range 16).flatMap (fun j => leBytes 2 (bs.getD j 0)) ++ (List.range 16).map (fun j => BitVec.ofNat 8 (is.getD j 0)) })) ∧
  (∀ (c : HostCmd) (s u : State) n hs,
    s.serves 0x08 c = true →
    u = s.atStep8 0x08 c →
    n = arg c 0 1 →
    hs = (List.range n).map (fun j => arg c (1 + 2 * j) 2) →
    1 ≤ n ∧ n ≤ 16 →
    hs.all (fun h => decide (h < 2048) && u.owner h == 0x10 + c.ch.val) = true →
    noRepeat hs = true →
    exec (.bufFree c) s = .next ((u.each hs (fun h t => t.freeBuf h)).finishHead c.ch.val .ok)) ∧
  (∀ (c : HostCmd) (s u : State),
    s.serves 0x09 c = true →
    u = s.atStep8 0x09 c →
    exec (.rsvStatus c) s = .next (u.finishHead c.ch.val { status := stOk, result := (leBytes 2 (u.fld F.MBX_RSVFREE_FREE) ++ (List.range 5).flatMap (fun i => leBytes 2 (u.fld (F.MBX_RSVCNT_COUNT i)) ++ leBytes 2 (u.fld (F.MBX_RSVQ_CAP i)) ++ leBytes 2 (u.fld (F.MBX_RSVQ_FLOOR i)))) })) ∧
  (∀ (c : HostCmd) (s u : State),
    s.serves 0x0A c = true →
    u = s.atStep8 0x0A c →
    u.inModes [modeConfigure] = true →
    ((List.range 5).map (fun i => arg c (4 * i + 2) 2)).foldl (· + ·) 0 ≤ 2048 →
    (List.range 5).any (fun i => decide (arg c (4 * i) 2 < arg c (4 * i + 2) 2) || decide (arg c (4 * i) 2 < u.fld (F.MBX_RSVCNT_COUNT i)) || decide (4095 < arg c (4 * i) 2)) = false →
    exec (.rsvQuota c) s = .next ((u.each (List.range 5) (fun i t =>
      (t.put (F.MBX_RSVQ_CAP i) (arg c (4 * i) 2)).put (F.MBX_RSVQ_FLOOR i) (arg c (4 * i + 2) 2))).finishHead c.ch.val .ok)) ∧
  (∀ (c : HostCmd) (s u : State) k,
    s.serves 0x0B c = true →
    u = s.atStep8 0x0B c →
    k = arg c 0 1 →
    k ≤ 15 →
    u.chanSession k = none →
    exec (.chanStatus c) s = .next (u.finishHead c.ch.val { status := stOk, result := leBytes 4 (u.credWord k) ++ (List.range 4).flatMap (fun w => u.reg4 (HW.chst k w)) ++ (0 : Byte) :: leBytes 4 0 })) ∧
  (∀ (c : HostCmd) (s u t : State) bs,
    s.serves 0x0C c = true →
    u = s.atStep8 0x0C c →
    u.curMode ≠ modeUpdate →
    c.handles.isEmpty = false →
    u.resultBufs c.ch (u.attached c) = some (bs, t) →
    exec (.sysEcho c) s = .next (t.finishHead c.ch.val { status := stOk, result := c.param, bufs := bs }))

/-- Register writes by SUP and the engine-code commands (R4, R77, R79). Each clause answers the whole next state of its
command under conditions on the state and the operands alone, so whatever it does not write stays. Where a value is the
model's choice: assumption log 5, 7, 18, 20. -/
def Obligations.BusAndCodeLoadingComplete : Prop :=
  (∀ (addr : Nat) (v : Word) (s : State),
    s.supRuns = true →
    inMap addr = true →
    s.islandDown addr = false →
    exec (.registerWrite addr v) s = .next (s.sharedAccess (fun t => t.busWord (addr / 4 * 4) v.toNat 0xFFFFFFFF))) ∧
  (∀ (addr : Nat) (v : Word) (s : State),
    s.supRuns = true →
    inMap addr = true →
    s.islandDown addr = true →
    exec (.registerWrite addr v) s = .next s.resetAccess) ∧
  (∀ (addr : Nat) (v : Word) (s : State),
    s.supRuns = true →
    inMap addr = false →
    exec (.registerWrite addr v) s = .fault .busError) ∧
  (∀ (c : HostCmd) (s u v : State) mask len held,
    s.serves 0x80 c = true →
    u = s.atStep8 0x80 c →
    mask = arg c 0 2 →
    len = arg c 2 4 →
    u.inModes [modeConfigure] = true →
    u.engLoad.isOpen = false →
    len ≤ 160 * 1024 * (engineList mask).length →
    held = maskOf ((engineList mask).filter (fun e => u.flag (F.CE_CTRL_HALT e))) →
    v = u.each (engineList mask) (fun e t => t.put (F.CE_CTRL_HALT e) 1) →
    exec (.engLoadBegin c) s = .next ((v.withEngLoad ⟨true, mask, len, arg c 6 4, [], held⟩).finishHead c.ch.val .ok)) ∧
  (∀ (c : HostCmd) (s u : State),
    s.serves 0x80 c = true →
    u = s.atStep8 0x80 c →
    u.inModes [modeConfigure] = true →
    u.engLoad.isOpen = true →
    exec (.engLoadBegin c) s = .next (u.closeLoad.finishHead c.ch.val { status := stBusy })) ∧
  (∀ (c : HostCmd) (s u : State) n bs l,
    s.serves 0x81 c = true →
    u = s.atStep8 0x81 c →
    n = arg c 4 2 →
    bs = u.attached c →
    l = u.engLoad →
    u.inModes [modeConfigure] = true →
    l.isOpen = true →
    arg c 0 4 = l.bytes.length →
    ¬ (bs.length < n) →
    ¬ (l.length < l.bytes.length + n) →
    exec (.engLoadData c) s = .next ((u.withEngLoad { l with bytes := l.bytes ++ bs.take n }).finishHead c.ch.val .ok)) ∧
  (∀ (c : HostCmd) (s u : State) l,
    s.serves 0x82 c = true →
    u = s.atStep8 0x82 c →
    l = u.engLoad →
    u.inModes [modeConfigure] = true →
    l.isOpen = true →
    l.bytes.length = l.length →
    exec (.engLoadEnd c) s = .next (
    let r := u.closeLoad.loadParts l.mask (Config.engParts (l.bytes.take (l.bytes.length - 64))) l.ident 16 0 none l.bytes
    if u.closeLoad.imageSigned l.bytes then r.2.finishHead c.ch.val r.1 else u.closeLoad.finishHead c.ch.val { status := stAuth })) ∧
  (∀ (c : HostCmd) (s u v : State) n h check,
    s.serves 0x83 c = true →
    u = s.atStep8 0x83 c →
    n = arg c 2 1 →
    h = u.flashBytes (slotBase (2 + n)) imgHeader →
    u.inModes [modeConfigure] = true →
    n ≤ 15 →
    numAt h 0 4 ≠ 0xFFFFFFFF →
    u.slotCheck (2 + n) 2 = (check, v) →
    exec (.engLoadStored c) s = .next (
    let r := v.draw.2.loadParts (arg c 0 2) (Config.engParts (v.draw.2.clearPayload (2 + n))) (v.draw.1 % 2 ^ 32) (numAt h 5 1)
      (numAt h 7 1) (some n) []
    if check = 0 then r.2.finishHead c.ch.val r.1 else v.finishHead c.ch.val { status := reasonStatus check, detail := check })) ∧
  (∀ (c : HostCmd) (s u : State) l,
    s.serves 0x84 c = true →
    u = s.atStep8 0x84 c →
    l = engineList (arg c 0 2) →
    u.inModes [modeConfigure] = true →
    l.any u.engineInUse = false →
    exec (.engUnload c) s = .next ((u.each l (fun e t => t.clearEngine e)).finishHead c.ch.val .ok)) ∧
  (∀ (c : HostCmd) (s u : State) e ks en energised,
    s.serves 0x85 c = true →
    u = s.atStep8 0x85 c →
    e = arg c 0 1 →
    ks = bitsOf 8 (arg c 1 1) →
    en = (arg c 2 1).testBit 0 →
    energised = ks.any (fun k => u.flag (F.CE_TASKENT_AXB e k) && u.axState (u.fld (F.CE_TASKENT_AXIS e k)) == axEnergised) →
    (u.inModes [2, 4, 9] || (u.inModes [5, 6] && (decide (15 < e) || !energised))) = true →
    ¬ (15 < e) →
    ks.any (fun k => u.fld (F.CE_TASKCFG_DPATH e k) == 0) = false →
    exec (.engTaskEnable c) s = .next (let u := u.each ks (fun k t => t.putB (F.CE_TASKCFG_EN e k) en)
    (if en && !ks.isEmpty then u.put (F.CE_CTRL_EN e) 1 else u).finishHead c.ch.val .ok)) ∧
  (∀ (c : HostCmd) (s u : State) e,
    s.serves 0x86 c = true →
    u = s.atStep8 0x86 c →
    e = arg c 0 1 →
    u.inModes liveModes = true →
    ¬ (15 < e) →
    exec (.engStatus c) s = .next (u.finishHead c.ch.val { status := stOk, result := (u.reg4 (R.CE_STAT e) ++ (List.range 8).flatMap (fun k => u.reg4 (R.CE_TASKCNT e k)) ++ u.reg4 (R.CE_INOVW0 e) ++ u.reg4 (R.CE_INOVW1 e)) })) ∧
  (∀ (c : HostCmd) (s u : State) e k,
    s.serves 0x87 c = true →
    u = s.atStep8 0x87 c →
    e = arg c 0 1 →
    k = arg c 1 1 →
    u.inModes liveModes = true →
    ¬ (15 < e) →
    ¬ (7 < k) →
    u.fld (F.CE_TASKCFG_DPATH e k) ≠ 0 →
    exec (.engGrantRead c) s = .next (    let r := replyWith c.ch ((List.range 8).flatMap (fun w => u.reg4 (R.CE_GRBASE e k w) ++ u.reg4 (R.CE_GRLIM e k w))) u
    r.2.finishHead c.ch.val r.1)) ∧
  (∀ (c : HostCmd) (s u : State),
    s.serves 0x88 c = true →
    u = s.atStep8 0x88 c →
    u.inModes liveModes = true →
    exec (.engClearFlags c) s = .next ((u.each (engineList (arg c 0 2)) (fun e t =>
      let t := t.put ⟨R.CE_STAT e, 9, 8⟩ 0
      let t := (t.wr (R.CE_INOVW0 e) 0).wr (R.CE_INOVW1 e) 0
      t.each (List.range 8) (fun k u => u.wr (R.CE_TASKCNT e k) 0))).finishHead c.ch.val .ok))

/-- Engine addition, subtraction, logic and comparison with their flags; saturating arithmetic (R59). Each clause answers
the whole next state of its command under conditions on the state and the operands alone, so whatever it does not write
stays. Where a value is the model's choice: assumption log 17. -/
def Obligations.EngineArithmeticAndFlags : Prop :=
  (∀ (e : Fin 16) (d a : Fin 16) (z : Src) (k : Nat) (s : State) (b : Slot) x y r,
    s.performs e k pathBoth = true →
    b = (s.bank e k).next →
    x = b.xr a →
    y = b.src z →
    r = x + y →
    s.writesBank (.add e d a z) e k ((b.setX d r).setFlags (r == 0) r.msb (decide (2 ^ 32 ≤ x.toNat + y.toNat)) (decide (r.toInt ≠ x.toInt + y.toInt)))) ∧
  (∀ (e : Fin 16) (d a : Fin 16) (z : Src) (k : Nat) (s : State) (b : Slot) x y r,
    s.performs e k pathBoth = true →
    b = (s.bank e k).next →
    x = b.xr a →
    y = b.src z →
    r = x - y →
    s.writesBank (.sub e d a z) e k ((b.setX d r).setFlags (r == 0) r.msb (Config.subCarry x y) (decide (r.toInt ≠ x.toInt - y.toInt)))) ∧
  (∀ (e : Fin 16) (d a : Fin 16) (z : Src) (k : Nat) (s : State) (b : Slot) x y r,
    s.performs e k pathBoth = true →
    b = (s.bank e k).next →
    x = b.xr a →
    y = b.src z →
    r = x &&& y →
    s.writesBank (.and_ e d a z) e k ((b.setX d r).setFlags (r == 0) r.msb ((Config.logicFlags 0 x y).1) ((Config.logicFlags 0 x y).2))) ∧
  (∀ (e : Fin 16) (d a : Fin 16) (z : Src) (k : Nat) (s : State) (b : Slot) x y r,
    s.performs e k pathBoth = true →
    b = (s.bank e k).next →
    x = b.xr a →
    y = b.src z →
    r = x ||| y →
    s.writesBank (.or_ e d a z) e k ((b.setX d r).setFlags (r == 0) r.msb ((Config.logicFlags 1 x y).1) ((Config.logicFlags 1 x y).2))) ∧
  (∀ (e : Fin 16) (d a : Fin 16) (z : Src) (k : Nat) (s : State) (b : Slot) x y r,
    s.performs e k pathBoth = true →
    b = (s.bank e k).next →
    x = b.xr a →
    y = b.src z →
    r = x ^^^ y →
    s.writesBank (.xor_ e d a z) e k ((b.setX d r).setFlags (r == 0) r.msb ((Config.logicFlags 2 x y).1) ((Config.logicFlags 2 x y).2))) ∧
  (∀ (e : Fin 16) (a z : Fin 16) (k : Nat) (s : State) (b : Slot) x y r,
    s.performs e k pathBoth = true →
    b = (s.bank e k).next →
    x = b.xr a →
    y = b.xr z →
    r = x - y →
    s.writesBank (.cmp e a z) e k (b.setFlags (r == 0) r.msb (Config.subCarry x y) (decide (r.toInt ≠ x.toInt - y.toInt)))) ∧
  (∀ (e : Fin 16) (d a z : Fin 16) (k : Nat) (s : State) (b : Slot),
    s.performs e k pathBoth = true →
    b = (s.bank e k).next →
    s.writesBank (.adds e d a z) e k (b.setX d (BitVec.ofInt 32 (satS 32 ((b.xr a).toInt + (b.xr z).toInt))))) ∧
  (∀ (e : Fin 16) (d a z : Fin 16) (k : Nat) (s : State) (b : Slot),
    s.performs e k pathBoth = true →
    b = (s.bank e k).next →
    s.writesBank (.subs e d a z) e k (b.setX d (BitVec.ofInt 32 (satS 32 ((b.xr a).toInt - (b.xr z).toInt))))) ∧
  (∀ (e : Fin 16) (d a : Fin 16) (k : Nat) (s : State) (b : Slot),
    s.performs e k pathBoth = true →
    b = (s.bank e k).next →
    s.writesBank (.abs_ e d a) e k (b.setX d (BitVec.ofInt 32 (satS 32 ((b.xr a).toInt.natAbs : Int))))) ∧
  (∀ (e : Fin 16) (d a : Fin 16) (k : Nat) (s : State) (b : Slot),
    s.performs e k pathBoth = true →
    b = (s.bank e k).next →
    s.writesBank (.neg_ e d a) e k (b.setX d (BitVec.ofInt 32 (satS 32 (-(b.xr a).toInt)))))

/-- Engine moves, shifts, minimum, maximum, product, quotient, sine and root, status register (R59). Each clause answers the
whole next state of its command under conditions on the state and the operands alone, so whatever it does not write
stays. Where a value is the model's choice: assumption log 17. -/
def Obligations.EngineMovesShiftsProducts : Prop :=
  (∀ (e : Fin 16) (d a : Fin 16) (k : Nat) (s : State) (b : Slot),
    s.performs e k pathBoth = true →
    b = (s.bank e k).next →
    s.writesBank (.mov e d a) e k (b.setX d (b.xr a))) ∧
  (∀ (e : Fin 16) (d : Fin 16) (i : BitVec 16) (k : Nat) (s : State) (b : Slot),
    s.performs e k pathBoth = true →
    b = (s.bank e k).next →
    s.writesBank (.movi e d i) e k (b.setX d (i.signExtend 32))) ∧
  (∀ (e : Fin 16) (d : Fin 16) (i : BitVec 16) (k : Nat) (s : State) (b : Slot),
    s.performs e k pathBoth = true →
    b = (s.bank e k).next →
    s.writesBank (.movhi e d i) e k (b.setX d (i ++ (b.xr d).extractLsb' 0 16))) ∧
  (∀ (e : Fin 16) (d a : Fin 16) (n : Fin 32) (k : Nat) (s : State) (b : Slot),
    s.performs e k pathBoth = true →
    b = (s.bank e k).next →
    s.writesBank (.shl e d a (.imm n)) e k (b.setX d ((b.xr a) <<< n.val))) ∧
  (∀ (e : Fin 16) (d a v : Fin 16) (k : Nat) (s : State) (b : Slot) j,
    s.performs e k pathBoth = true →
    b = (s.bank e k).next →
    j = (b.xr v).toNat →
    s.writesBank (.shl e d a (.reg v)) e k (b.setX d (if j ≤ 31 then (b.xr a) <<< j else Config.shiftResult 0 (b.xr a) (b.xr v)))) ∧
  (∀ (e : Fin 16) (d a : Fin 16) (n : Fin 32) (k : Nat) (s : State) (b : Slot),
    s.performs e k pathBoth = true →
    b = (s.bank e k).next →
    s.writesBank (.shr e d a (.imm n)) e k (b.setX d ((b.xr a) >>> n.val))) ∧
  (∀ (e : Fin 16) (d a v : Fin 16) (k : Nat) (s : State) (b : Slot) j,
    s.performs e k pathBoth = true →
    b = (s.bank e k).next →
    j = (b.xr v).toNat →
    s.writesBank (.shr e d a (.reg v)) e k (b.setX d (if j ≤ 31 then (b.xr a) >>> j else Config.shiftResult 1 (b.xr a) (b.xr v)))) ∧
  (∀ (e : Fin 16) (d a : Fin 16) (n : Fin 32) (k : Nat) (s : State) (b : Slot),
    s.performs e k pathBoth = true →
    b = (s.bank e k).next →
    s.writesBank (.sra e d a (.imm n)) e k (b.setX d ((b.xr a).sshiftRight n.val))) ∧
  (∀ (e : Fin 16) (d a v : Fin 16) (k : Nat) (s : State) (b : Slot) j,
    s.performs e k pathBoth = true →
    b = (s.bank e k).next →
    j = (b.xr v).toNat →
    s.writesBank (.sra e d a (.reg v)) e k (b.setX d (if j ≤ 31 then (b.xr a).sshiftRight j else Config.shiftResult 2 (b.xr a) (b.xr v)))) ∧
  (∀ (e : Fin 16) (d a z : Fin 16) (k : Nat) (s : State) (b : Slot),
    s.performs e k pathBoth = true →
    b = (s.bank e k).next →
    s.writesBank (.min_ e d a z) e k (b.setX d (if (b.xr a).toInt ≤ (b.xr z).toInt then b.xr a else b.xr z))) ∧
  (∀ (e : Fin 16) (d a z : Fin 16) (k : Nat) (s : State) (b : Slot),
    s.performs e k pathBoth = true →
    b = (s.bank e k).next →
    s.writesBank (.max_ e d a z) e k (b.setX d (if (b.xr a).toInt ≤ (b.xr z).toInt then b.xr z else b.xr a))) ∧
  (∀ (e : Fin 16) (d a z : Fin 16) (k : Nat) (s : State) (b : Slot),
    s.performs e k pathBoth = true →
    b = (s.bank e k).next →
    s.writesBank (.mul e d a z) e k (b.setX d (BitVec.ofNat 32 ((b.xr a).toNat * (b.xr z).toNat)))) ∧
  (∀ (e : Fin 16) (d a z : Fin 16) (k : Nat) (s : State) (b : Slot),
    s.performs e k pathBoth = true →
    b = (s.bank e k).next →
    b.xr z ≠ 0 →
    s.writesBank (.divq e d a z) e k (b.setX d (BitVec.ofInt 32 (satS 16 (divRound ((b.xr a).toInt * 32768) (b.xr z).toInt))))) ∧
  (∀ (e : Fin 16) (d a z : Fin 16) (k : Nat) (s : State) (b : Slot),
    s.performs e k pathBoth = true →
    b = (s.bank e k).next →
    b.xr z = 0 →
    s.writesBank (.divq e d a z) e k ((b.setX d (BitVec.ofInt 32 (if (b.xr a).msb then -32768 else 32767))).setFlag bitV true)) ∧
  (∀ (e : Fin 16) (d a : Fin 16) (k : Nat) (s : State) (b : Slot),
    s.performs e k pathBoth = true →
    b = (s.bank e k).next →
    s.writesBank (.sincos e d a) e k (b.setX d (sincos (b.xr a)))) ∧
  (∀ (e : Fin 16) (d a : Fin 16) (k : Nat) (s : State) (b : Slot),
    s.performs e k pathBoth = true →
    b = (s.bank e k).next →
    0 < (b.xr a).toInt →
    s.writesBank (.rsq e d a) e k (b.setX d (rsq (b.xr a)))) ∧
  (∀ (e : Fin 16) (d a : Fin 16) (k : Nat) (s : State) (b : Slot),
    s.performs e k pathBoth = true →
    b = (s.bank e k).next →
    (b.xr a).toInt ≤ 0 →
    s.writesBank (.rsq e d a) e k ((b.setX d 0x7FFFFFFF).setFlag bitV true)) ∧
  (∀ (e d : Fin 16) (k : Nat) (s : State) (b : Slot),
    s.performs e k pathBoth = true →
    b = (s.bank e k).next →
    exec (.rdsr e d) s = .next (s.performed e k (fun t => t.setBank e k (b.setX d (BitVec.ofNat 32 (b.sr % 32 + (s.flag (F.CE_STAT_ACCSAT e)).toNat * 32 + s.fld (F.CE_TASKCFG_SCALE e k) * 256)))))) ∧
  (∀ (e : Fin 16) (a : Fin 16) (k : Nat) (s : State) (b : Slot),
    s.performs e k pathBoth = true →
    b = (s.bank e k).next →
    s.writesBank (.wrsr e a) e k ({ b with sr := (b.xr a).toNat % 32 })) ∧
  (∀ (e : Fin 16) (k : Nat) (s : State) (b : Slot),
    s.performs e k pathBoth = true →
    b = (s.bank e k).next →
    s.writesBank (.nop e) e k (b))

/-- The run datapath: accumulators, four-lane arithmetic and moves from the accumulators (R54, R55, R59). Each clause
answers the whole next state of its command under conditions on the state and the operands alone, so whatever it does
not write stays. Where a value is the model's choice: assumption log 17. -/
def Obligations.EngineRunDatapath : Prop :=
  (∀ (e : Fin 16) (k : Nat) (s : State) (b : Slot) v,
    s.performs e k pathRun = true →
    b = (s.bank e k).next →
    v = (fun (_ : Nat) => (0 : Int)) →
    exec (.vclr e) s = .next (s.performed e k (fun t => (t.setBank e k ((((b.setAcc 0 (satS 40 (v 0))).setAcc 1 (satS 40 (v 1))).setAcc 2 (satS 40 (v 2))).setAcc 3 (satS 40 (v 3)))).noteAccsat e (laneList.any (fun j => satS 40 (v j) != v j))))) ∧
  (∀ (e : Fin 16) (f g : Fin 8) (k : Nat) (s : State) (b : Slot) v,
    s.performs e k pathRun = true →
    b = (s.bank e k).next →
    v = (fun (j : Nat) => ((lane (b.pair f) j * lane (b.pair g) j) : Int)) →
    exec (.vmul e f g) s = .next (s.performed e k (fun t => (t.setBank e k ((((b.setAcc 0 (satS 40 (v 0))).setAcc 1 (satS 40 (v 1))).setAcc 2 (satS 40 (v 2))).setAcc 3 (satS 40 (v 3)))).noteAccsat e (laneList.any (fun j => satS 40 (v j) != v j))))) ∧
  (∀ (e : Fin 16) (f g : Fin 8) (k : Nat) (s : State) (b : Slot) v,
    s.performs e k pathRun = true →
    b = (s.bank e k).next →
    v = (fun (j : Nat) => (((b.acc j).toInt + lane (b.pair f) j * lane (b.pair g) j) : Int)) →
    exec (.vmac e f g) s = .next (s.performed e k (fun t => (t.setBank e k ((((b.setAcc 0 (satS 40 (v 0))).setAcc 1 (satS 40 (v 1))).setAcc 2 (satS 40 (v 2))).setAcc 3 (satS 40 (v 3)))).noteAccsat e (laneList.any (fun j => satS 40 (v j) != v j))))) ∧
  (∀ (e : Fin 16) (f g : Fin 8) (k : Nat) (s : State) (b : Slot) v,
    s.performs e k pathRun = true →
    b = (s.bank e k).next →
    v = (fun (j : Nat) => (((b.acc j).toInt - lane (b.pair f) j * lane (b.pair g) j) : Int)) →
    exec (.vmsu e f g) s = .next (s.performed e k (fun t => (t.setBank e k ((((b.setAcc 0 (satS 40 (v 0))).setAcc 1 (satS 40 (v 1))).setAcc 2 (satS 40 (v 2))).setAcc 3 (satS 40 (v 3)))).noteAccsat e (laneList.any (fun j => satS 40 (v j) != v j))))) ∧
  (∀ (e : Fin 16) (f g : Fin 8) (k : Nat) (s : State) (b : Slot) v,
    s.performs e k pathRun = true →
    b = (s.bank e k).next →
    v = (fun (j : Nat) => (((b.acc j).toInt + lane (b.pair f) j * lane (b.pair g) (if j % 2 = 0 then j + 1 else j - 1)) : Int)) →
    exec (.vmacx e f g) s = .next (s.performed e k (fun t => (t.setBank e k ((((b.setAcc 0 (satS 40 (v 0))).setAcc 1 (satS 40 (v 1))).setAcc 2 (satS 40 (v 2))).setAcc 3 (satS 40 (v 3)))).noteAccsat e (laneList.any (fun j => satS 40 (v j) != v j))))) ∧
  (∀ (e : Fin 16) (j : Fin 4) (a : Fin 16) (ah : Bool) (z : Fin 16) (zh : Bool) (k : Nat) (s : State) (b : Slot) v,
    s.performs e k pathRun = true →
    b = (s.bank e k).next →
    v = (b.acc j).toInt + half (b.xr a) ah * half (b.xr z) zh →
    exec (.macl e j a ah z zh) s = .next (s.performed e k (fun t => (t.setBank e k (b.setAcc j (satS 40 v))).noteAccsat e (satS 40 v != v)))) ∧
  (∀ (e : Fin 16) (k : Nat) (s : State) (b : Slot) v,
    s.performs e k pathRun = true →
    b = (s.bank e k).next →
    v = (b.acc 0).toInt + (b.acc 1).toInt + (b.acc 2).toInt + (b.acc 3).toInt →
    exec (.vsum e) s = .next (s.performed e k (fun t => (t.setBank e k (b.setAcc 0 (satS 40 v))).noteAccsat e (satS 40 v != v)))) ∧
  (∀ (e : Fin 16) (d f g : Fin 8) (k : Nat) (s : State) (b : Slot) v,
    s.performs e k pathRun = true →
    b = (s.bank e k).next →
    v = (fun (j : Nat) => ((lane (b.pair f) j + lane (b.pair g) j) : Int)) →
    exec (.vadd e d f g) s = .next (s.performed e k (fun t => (t.setBank e k (b.setPair d (packLanes (fun j => satS 16 (v j))))).noteSatm e k (laneList.any (fun j => satS 16 (v j) != v j))))) ∧
  (∀ (e : Fin 16) (d f g : Fin 8) (k : Nat) (s : State) (b : Slot) v,
    s.performs e k pathRun = true →
    b = (s.bank e k).next →
    v = (fun (j : Nat) => ((lane (b.pair f) j - lane (b.pair g) j) : Int)) →
    exec (.vsub e d f g) s = .next (s.performed e k (fun t => (t.setBank e k (b.setPair d (packLanes (fun j => satS 16 (v j))))).noteSatm e k (laneList.any (fun j => satS 16 (v j) != v j))))) ∧
  (∀ (e : Fin 16) (d f : Fin 8) (k : Nat) (s : State) (b : Slot) v,
    s.performs e k pathRun = true →
    b = (s.bank e k).next →
    v = (fun (j : Nat) => (((lane (b.pair f) j).natAbs) : Int)) →
    exec (.vabs e d f) s = .next (s.performed e k (fun t => (t.setBank e k (b.setPair d (packLanes (fun j => satS 16 (v j))))).noteSatm e k (laneList.any (fun j => satS 16 (v j) != v j))))) ∧
  (∀ (e : Fin 16) (d : Fin 16) (j : Fin 4) (k : Nat) (s : State) (b : Slot) v,
    s.performs e k pathRun = true →
    b = (s.bank e k).next →
    v = scaleRound (b.acc j).toInt (sgn 4 (s.fld (F.CE_TASKCFG_SCALE e k))) →
    exec (.mva e d j) s = .next (s.performed e k (fun t => (t.setBank e k (b.setX d (BitVec.ofInt 32 (satS 32 v)))).noteSatm e k (satS 32 v != v)))) ∧
  (∀ (e : Fin 16) (d : Fin 16) (j : Fin 4) (n : BitVec 4) (k : Nat) (s : State) (b : Slot) v,
    s.performs e k pathRun = true →
    b = (s.bank e k).next →
    v = scaleRound (b.acc j).toInt (n.toInt) →
    exec (.mvas e d j n) s = .next (s.performed e k (fun t => (t.setBank e k (b.setX d (BitVec.ofInt 32 (satS 32 v)))).noteSatm e k (satS 32 v != v)))) ∧
  (∀ (e : Fin 16) (d : Fin 8) (k : Nat) (s : State) (b : Slot) v,
    s.performs e k pathRun = true →
    b = (s.bank e k).next →
    v = (fun (j : Nat) => scaleRound (b.acc j).toInt (sgn 4 (s.fld (F.CE_TASKCFG_SCALE e k)) - 15)) →
    exec (.vmva e d) s = .next (s.performed e k (fun t => (t.setBank e k (b.setPair d (packLanes (fun j => satS 16 (v j))))).noteSatm e k (laneList.any (fun j => satS 16 (v j) != v j)))))

/-- The precise datapath: accumulators e0 and e1, their shift and moves (R54, R55, R59). Each clause answers the whole next
state of its command under conditions on the state and the operands alone, so whatever it does not write stays. Where a
value is the model's choice: assumption log 17. -/
def Obligations.EnginePreciseDatapath : Prop :=
  (∀ (e : Fin 16) (j : Fin 2) (k : Nat) (s : State) (b : Slot) v,
    s.performs e k pathPrecise = true →
    b = (s.bank e k).next →
    v = ((0) : Int) →
    exec (.pclr e j) s = .next (s.performed e k (fun t => (t.setBank e k (b.setPacc j (satS 56 v))).noteAccsat e (satS 56 v != v)))) ∧
  (∀ (e : Fin 16) (j : Fin 2) (a z : Fin 16) (k : Nat) (s : State) (b : Slot) v,
    s.performs e k pathPrecise = true →
    b = (s.bank e k).next →
    v = (((((b.xr a).extractLsb' 0 24).toInt * ((b.xr z).extractLsb' 0 24).toInt)) : Int) →
    exec (.pmul e j a z) s = .next (s.performed e k (fun t => (t.setBank e k (b.setPacc j (satS 56 v))).noteAccsat e (satS 56 v != v)))) ∧
  (∀ (e : Fin 16) (j : Fin 2) (a z : Fin 16) (k : Nat) (s : State) (b : Slot) v,
    s.performs e k pathPrecise = true →
    b = (s.bank e k).next →
    v = (((b.pacc j).toInt + (((b.xr a).extractLsb' 0 24).toInt * ((b.xr z).extractLsb' 0 24).toInt)) : Int) →
    exec (.pmac e j a z) s = .next (s.performed e k (fun t => (t.setBank e k (b.setPacc j (satS 56 v))).noteAccsat e (satS 56 v != v)))) ∧
  (∀ (e : Fin 16) (j : Fin 2) (a z : Fin 16) (k : Nat) (s : State) (b : Slot) v,
    s.performs e k pathPrecise = true →
    b = (s.bank e k).next →
    v = (((b.pacc j).toInt - (((b.xr a).extractLsb' 0 24).toInt * ((b.xr z).extractLsb' 0 24).toInt)) : Int) →
    exec (.pmsu e j a z) s = .next (s.performed e k (fun t => (t.setBank e k (b.setPacc j (satS 56 v))).noteAccsat e (satS 56 v != v)))) ∧
  (∀ (e : Fin 16) (k : Nat) (s : State) (b : Slot) v,
    s.performs e k pathPrecise = true →
    b = (s.bank e k).next →
    v = (((b.pacc 0).toInt + (b.pacc 1).toInt) : Int) →
    exec (.padd e) s = .next (s.performed e k (fun t => (t.setBank e k (b.setPacc 0 (satS 56 v))).noteAccsat e (satS 56 v != v)))) ∧
  (∀ (e : Fin 16) (j : Fin 2) (n : BitVec 5) (k : Nat) (s : State) (b : Slot) v,
    s.performs e k pathPrecise = true →
    b = (s.bank e k).next →
    v = ((if n.toInt < 0 then asr (b.pacc j).toInt n.toInt.natAbs else (b.pacc j).toInt * ((2 ^ n.toInt.toNat : Nat) : Int)) : Int) →
    exec (.psha e j n) s = .next (s.performed e k (fun t => (t.setBank e k (b.setPacc j (satS 56 v))).noteAccsat e (satS 56 v != v)))) ∧
  (∀ (e : Fin 16) (d : Fin 16) (j : Fin 2) (k : Nat) (s : State) (b : Slot) v,
    s.performs e k pathPrecise = true →
    b = (s.bank e k).next →
    v = scaleRound (b.pacc j).toInt (sgn 4 (s.fld (F.CE_TASKCFG_SCALE e k)) - 23) →
    exec (.pmve e d j) s = .next (s.performed e k (fun t => (t.setBank e k (b.setX d (BitVec.ofInt 32 (satS 24 v)))).noteSatm e k (satS 24 v != v)))) ∧
  (∀ (e : Fin 16) (d : Fin 16) (j : Fin 2) (n : BitVec 4) (k : Nat) (s : State) (b : Slot) v,
    s.performs e k pathPrecise = true →
    b = (s.bank e k).next →
    v = scaleRound (b.pacc j).toInt (n.toInt - 23) →
    exec (.pmves e d j n) s = .next (s.performed e k (fun t => (t.setBank e k (b.setX d (BitVec.ofInt 32 (satS 24 v)))).noteSatm e k (satS 24 v != v))))

/-- Loads of half-words, words and pairs, local and remote, with their memory errors (R59, R73). Each clause answers the
whole next state of its command under conditions on the state and the operands alone, so whatever it does not write
stays. Where a value is the model's choice: assumption log 5, 17. -/
def Obligations.EngineLoads : Prop :=
  (∀ (e : Fin 16) (d : Fin 16) (m : Addr) (ecc : Fin 3) (k : Nat) (s : State) (b : Slot) l,
    s.performs e k pathBoth = true →
    b = (s.bank e k).next →
    l = b.bytesOf m 4 →
    l.any (fun a => !s.mayAccess e k false a) = true →
    exec (.ld e d m ecc) s = .next (s.performed e k (fun t => (t.setBank e k ((b.postModify m).setLoaded d 4 [])).rightsError e))) ∧
  (∀ (e : Fin 16) (d : Fin 16) (m : Addr) (ecc : Fin 3) (k : Nat) (s : State) (b : Slot) l x,
    s.performs e k pathBoth = true →
    b = (s.bank e k).next →
    l = b.bytesOf m 4 →
    l.any (fun a => !s.mayAccess e k false a) = false →
    l.all dataMemory = true →
    x = s.eccAt l ecc →
    exec (.ld e d m ecc) s = .next (s.performed e k (fun t => ((t.markLoad l x).setBank e k ((b.postModify m).setLoaded d 4 (if x = 2 then [] else l.map (fun a => s.rd8 a)))).dataError e x))) ∧
  (∀ (e : Fin 16) (d : Fin 16) (m : Addr) (ecc : Fin 3) (k : Nat) (s : State) (b : Slot) l,
    s.performs e k pathBoth = true →
    b = (s.bank e k).next →
    l = b.bytesOf m 4 →
    l.any (fun a => !s.mayAccess e k false a) = false →
    l.all dataMemory = false →
    exec (.ld e d m ecc) s = .next (s.performed e k (fun t => ((t.setBank e k (b.postModify m)).modEngine e (fun x => { x with stall := .load d 4 l (ecc.val != 0) })).issueTag e))) ∧
  (∀ (e : Fin 16) (d : Fin 16) (m : Addr) (ecc : Fin 3) (k : Nat) (s : State) (b : Slot) l,
    s.performs e k pathBoth = true →
    b = (s.bank e k).next →
    l = b.bytesOf m 2 →
    l.any (fun a => !s.mayAccess e k false a) = true →
    exec (.ldh e d m ecc) s = .next (s.performed e k (fun t => (t.setBank e k ((b.postModify m).setLoaded d 2 [])).rightsError e))) ∧
  (∀ (e : Fin 16) (d : Fin 16) (m : Addr) (ecc : Fin 3) (k : Nat) (s : State) (b : Slot) l x,
    s.performs e k pathBoth = true →
    b = (s.bank e k).next →
    l = b.bytesOf m 2 →
    l.any (fun a => !s.mayAccess e k false a) = false →
    l.all dataMemory = true →
    x = s.eccAt l ecc →
    exec (.ldh e d m ecc) s = .next (s.performed e k (fun t => ((t.markLoad l x).setBank e k ((b.postModify m).setLoaded d 2 (if x = 2 then [] else l.map (fun a => s.rd8 a)))).dataError e x))) ∧
  (∀ (e : Fin 16) (d : Fin 16) (m : Addr) (ecc : Fin 3) (k : Nat) (s : State) (b : Slot) l,
    s.performs e k pathBoth = true →
    b = (s.bank e k).next →
    l = b.bytesOf m 2 →
    l.any (fun a => !s.mayAccess e k false a) = false →
    l.all dataMemory = false →
    exec (.ldh e d m ecc) s = .next (s.performed e k (fun t => ((t.setBank e k (b.postModify m)).modEngine e (fun x => { x with stall := .load d 2 l (ecc.val != 0) })).issueTag e))) ∧
  (∀ (e : Fin 16) (d : Fin 8) (m : Addr) (ecc : Fin 3) (k : Nat) (s : State) (b : Slot) l,
    s.performs e k pathBoth = true →
    b = (s.bank e k).next →
    l = b.bytesOf m 8 →
    l.any (fun a => !s.mayAccess e k false a) = true →
    exec (.ldv e d m ecc) s = .next (s.performed e k (fun t => (t.setBank e k ((b.postModify m).setLoaded d 8 [])).rightsError e))) ∧
  (∀ (e : Fin 16) (d : Fin 8) (m : Addr) (ecc : Fin 3) (k : Nat) (s : State) (b : Slot) l x,
    s.performs e k pathBoth = true →
    b = (s.bank e k).next →
    l = b.bytesOf m 8 →
    l.any (fun a => !s.mayAccess e k false a) = false →
    l.all dataMemory = true →
    x = s.eccAt l ecc →
    exec (.ldv e d m ecc) s = .next (s.performed e k (fun t => ((t.markLoad l x).setBank e k ((b.postModify m).setLoaded d 8 (if x = 2 then [] else l.map (fun a => s.rd8 a)))).dataError e x))) ∧
  (∀ (e : Fin 16) (d : Fin 8) (m : Addr) (ecc : Fin 3) (k : Nat) (s : State) (b : Slot) l,
    s.performs e k pathBoth = true →
    b = (s.bank e k).next →
    l = b.bytesOf m 8 →
    l.any (fun a => !s.mayAccess e k false a) = false →
    l.all dataMemory = false →
    exec (.ldv e d m ecc) s = .next (s.performed e k (fun t => ((t.setBank e k (b.postModify m)).modEngine e (fun x => { x with stall := .load d 8 l (ecc.val != 0) })).issueTag e))) ∧
  (∀ (e : Fin 16) (adv : Nat) (cnt : BitVec 18) (s t u v w : State) (d size k : Nat) (l : List Nat) (bad : Bool),
    s.computeRuns = true →
    (s.engine e).stall = .load d size l bad →
    t = s.each ((s.engine e).lane.filter (fun p => p.island == islandOf (l.headD 0))) (fun p t => t.arrive p.bytes) →
    u = (t.modEngine e (fun x => { x with lane := (s.engine e).lane.filter (fun p => p.island != islandOf (l.headD 0)) })).unstall e →
    k = u.fld (F.CE_STAT_SLOT e) →
    l.any (fun a => u.islandDown a) = false →
    v = ((u.latchTime adv l).canCount l).measureLoads l →
    w = (if bad && l.any contextMemory then v.assertEv 150 else v) →
    exec (.remoteLoadReturn e adv cnt) s = .next (w.setBank e k ((w.bank e k).setLoaded d size (l.map (fun a => w.engByte cnt.toNat a))))) ∧
  (∀ (e : Fin 16) (adv : Nat) (cnt : BitVec 18) (s t u : State) (d size k : Nat) (l : List Nat) (bad : Bool),
    s.computeRuns = true →
    (s.engine e).stall = .load d size l bad →
    t = s.each ((s.engine e).lane.filter (fun p => p.island == islandOf (l.headD 0))) (fun p t => t.arrive p.bytes) →
    u = (t.modEngine e (fun x => { x with lane := (s.engine e).lane.filter (fun p => p.island != islandOf (l.headD 0)) })).unstall e →
    k = u.fld (F.CE_STAT_SLOT e) →
    l.any (fun a => u.islandDown a) = true →
    exec (.remoteLoadReturn e adv cnt) s = .next (u.setBank e k ((u.bank e k).setLoaded d size [])))

/-- Stores of half-words, words and pairs, and the second posted lane (R71, R72). Each clause answers the whole next state
of its command under conditions on the state and the operands alone, so whatever it does not write stays. Where a value
is the model's choice: assumption log 17. -/
def Obligations.EngineStores : Prop :=
  (∀ (e : Fin 16) (a : Fin 16) (m : Addr) (k : Nat) (s : State) (b : Slot) l,
    s.performs e k pathBoth = true →
    b = (s.bank e k).next →
    l = (b.bytesOf m (leBytes 4 (b.xr a).toNat).length).zip (leBytes 4 (b.xr a).toNat) →
    l.any (fun x => !s.mayAccess e k true x.1) = true →
    exec (.st e a m) s = .next (s.performed e k (fun t => (t.setBank e k (b.postModify m)).rightsError e))) ∧
  (∀ (e : Fin 16) (a : Fin 16) (m : Addr) (k : Nat) (s : State) (b : Slot) l,
    s.performs e k pathBoth = true →
    b = (s.bank e k).next →
    l = (b.bytesOf m (leBytes 4 (b.xr a).toNat).length).zip (leBytes 4 (b.xr a).toNat) →
    l.any (fun x => !s.mayAccess e k true x.1) = false →
    l.all (fun x => ownData e x.1 || decide (0x40000000 ≤ x.1 ∧ x.1 < 0x40020000)) = true →
    exec (.st e a m) s = .next (s.performed e k (fun t => (t.setBank e k (b.postModify m)).arrive l))) ∧
  (∀ (e : Fin 16) (a : Fin 16) (m : Addr) (k : Nat) (s : State) (b : Slot) l,
    s.performs e k pathBoth = true →
    b = (s.bank e k).next →
    l = (b.bytesOf m (leBytes 4 (b.xr a).toNat).length).zip (leBytes 4 (b.xr a).toNat) →
    l.any (fun x => !s.mayAccess e k true x.1) = false →
    l.all (fun x => ownData e x.1 || decide (0x40000000 ≤ x.1 ∧ x.1 < 0x40020000)) = false →
    (s.engine e).lane.length < 8 →
    exec (.st e a m) s = .next (s.performed e k (fun t => (t.setBank e k (b.postModify m)).modEngine e (fun x => { x with lane := x.lane ++ [⟨l⟩] })))) ∧
  (∀ (e : Fin 16) (a : Fin 16) (m : Addr) (k : Nat) (s : State) (b : Slot) l,
    s.performs e k pathBoth = true →
    b = (s.bank e k).next →
    l = (b.bytesOf m (leBytes 4 (b.xr a).toNat).length).zip (leBytes 4 (b.xr a).toNat) →
    l.any (fun x => !s.mayAccess e k true x.1) = false →
    l.all (fun x => ownData e x.1 || decide (0x40000000 ≤ x.1 ∧ x.1 < 0x40020000)) = false →
    8 ≤ (s.engine e).lane.length →
    exec (.st e a m) s = .next (s.performed e k (fun t => (t.setBank e k (b.postModify m)).modEngine e (fun x => { x with stall := .store ⟨l⟩ })))) ∧
  (∀ (e : Fin 16) (a : Fin 16) (m : Addr) (k : Nat) (s : State) (b : Slot) l,
    s.performs e k pathBoth = true →
    b = (s.bank e k).next →
    l = (b.bytesOf m (leBytes 2 (b.xr a).toNat).length).zip (leBytes 2 (b.xr a).toNat) →
    l.any (fun x => !s.mayAccess e k true x.1) = true →
    exec (.sth e a m) s = .next (s.performed e k (fun t => (t.setBank e k (b.postModify m)).rightsError e))) ∧
  (∀ (e : Fin 16) (a : Fin 16) (m : Addr) (k : Nat) (s : State) (b : Slot) l,
    s.performs e k pathBoth = true →
    b = (s.bank e k).next →
    l = (b.bytesOf m (leBytes 2 (b.xr a).toNat).length).zip (leBytes 2 (b.xr a).toNat) →
    l.any (fun x => !s.mayAccess e k true x.1) = false →
    l.all (fun x => ownData e x.1 || decide (0x40000000 ≤ x.1 ∧ x.1 < 0x40020000)) = true →
    exec (.sth e a m) s = .next (s.performed e k (fun t => (t.setBank e k (b.postModify m)).arrive l))) ∧
  (∀ (e : Fin 16) (a : Fin 16) (m : Addr) (k : Nat) (s : State) (b : Slot) l,
    s.performs e k pathBoth = true →
    b = (s.bank e k).next →
    l = (b.bytesOf m (leBytes 2 (b.xr a).toNat).length).zip (leBytes 2 (b.xr a).toNat) →
    l.any (fun x => !s.mayAccess e k true x.1) = false →
    l.all (fun x => ownData e x.1 || decide (0x40000000 ≤ x.1 ∧ x.1 < 0x40020000)) = false →
    (s.engine e).lane.length < 8 →
    exec (.sth e a m) s = .next (s.performed e k (fun t => (t.setBank e k (b.postModify m)).modEngine e (fun x => { x with lane := x.lane ++ [⟨l⟩] })))) ∧
  (∀ (e : Fin 16) (a : Fin 16) (m : Addr) (k : Nat) (s : State) (b : Slot) l,
    s.performs e k pathBoth = true →
    b = (s.bank e k).next →
    l = (b.bytesOf m (leBytes 2 (b.xr a).toNat).length).zip (leBytes 2 (b.xr a).toNat) →
    l.any (fun x => !s.mayAccess e k true x.1) = false →
    l.all (fun x => ownData e x.1 || decide (0x40000000 ≤ x.1 ∧ x.1 < 0x40020000)) = false →
    8 ≤ (s.engine e).lane.length →
    exec (.sth e a m) s = .next (s.performed e k (fun t => (t.setBank e k (b.postModify m)).modEngine e (fun x => { x with stall := .store ⟨l⟩ })))) ∧
  (∀ (e : Fin 16) (a : Fin 8) (m : Addr) (k : Nat) (s : State) (b : Slot) l,
    s.performs e k pathBoth = true →
    b = (s.bank e k).next →
    l = (b.bytesOf m (leBytes 8 (b.pair a).toNat).length).zip (leBytes 8 (b.pair a).toNat) →
    l.any (fun x => !s.mayAccess e k true x.1) = true →
    exec (.stv e a m) s = .next (s.performed e k (fun t => (t.setBank e k (b.postModify m)).rightsError e))) ∧
  (∀ (e : Fin 16) (a : Fin 8) (m : Addr) (k : Nat) (s : State) (b : Slot) l,
    s.performs e k pathBoth = true →
    b = (s.bank e k).next →
    l = (b.bytesOf m (leBytes 8 (b.pair a).toNat).length).zip (leBytes 8 (b.pair a).toNat) →
    l.any (fun x => !s.mayAccess e k true x.1) = false →
    l.all (fun x => ownData e x.1 || decide (0x40000000 ≤ x.1 ∧ x.1 < 0x40020000)) = true →
    exec (.stv e a m) s = .next (s.performed e k (fun t => (t.setBank e k (b.postModify m)).arrive l))) ∧
  (∀ (e : Fin 16) (a : Fin 8) (m : Addr) (k : Nat) (s : State) (b : Slot) l,
    s.performs e k pathBoth = true →
    b = (s.bank e k).next →
    l = (b.bytesOf m (leBytes 8 (b.pair a).toNat).length).zip (leBytes 8 (b.pair a).toNat) →
    l.any (fun x => !s.mayAccess e k true x.1) = false →
    l.all (fun x => ownData e x.1 || decide (0x40000000 ≤ x.1 ∧ x.1 < 0x40020000)) = false →
    (s.engine e).lane.length < 8 →
    exec (.stv e a m) s = .next (s.performed e k (fun t => (t.setBank e k (b.postModify m)).modEngine e (fun x => { x with lane := x.lane ++ [⟨l⟩] })))) ∧
  (∀ (e : Fin 16) (a : Fin 8) (m : Addr) (k : Nat) (s : State) (b : Slot) l,
    s.performs e k pathBoth = true →
    b = (s.bank e k).next →
    l = (b.bytesOf m (leBytes 8 (b.pair a).toNat).length).zip (leBytes 8 (b.pair a).toNat) →
    l.any (fun x => !s.mayAccess e k true x.1) = false →
    l.all (fun x => ownData e x.1 || decide (0x40000000 ≤ x.1 ∧ x.1 < 0x40020000)) = false →
    8 ≤ (s.engine e).lane.length →
    exec (.stv e a m) s = .next (s.performed e k (fun t => (t.setBank e k (b.postModify m)).modEngine e (fun x => { x with stall := .store ⟨l⟩ })))) ∧
  (∀ (e : Fin 16) (s : State) p l,
    s.computeRuns = true →
    (s.engine e).lane = p :: l →
    exec (.postedLaneRoom e) s = .next ((s.arrive p.bytes).modEngine e (fun x => match x.stall with | .store q => { x with lane := l ++ [q], stall := .none } | _ => { x with lane := l }))) ∧
  (∀ (e : Fin 16) (s : State),
    s.computeRuns = true →
    (s.engine e).lane = [] →
    exec (.postedLaneRoom e) s = .next s)

/-- Circular pointers, input slots, probes, WAITV and the scans (R56, R57, R58, R59, R70, R314). Each clause answers the
whole next state of its command under conditions on the state and the operands alone, so whatever it does not write
stays. Where a value is the model's choice: assumption log 5, 17. -/
def Obligations.EnginePointersSlotsScans : Prop :=
  (∀ (e : Fin 16) (p : Fin 8) (z y : Fin 16) (k : Nat) (s : State) (b : Slot) n,
    s.performs e k pathBoth = true →
    b = (s.bank e k).next →
    n = (b.xr y).toNat →
    n % 2 = 1 →
    exec (.setc e p z y) s = .next (s.performed e k (fun t => t.setBank e k ((b.setCirc p (b.xr z) 0).setFlag bitV true)))) ∧
  (∀ (e : Fin 16) (p : Fin 8) (z y : Fin 16) (k : Nat) (s : State) (b : Slot) n,
    s.performs e k pathBoth = true →
    b = (s.bank e k).next →
    n = (b.xr y).toNat →
    n % 2 = 0 →
    n ≤ 65534 →
    exec (.setc e p z y) s = .next (s.performed e k (fun t => t.setBank e k (b.setCirc p (b.xr z) n)))) ∧
  (∀ (e : Fin 16) (p : Fin 8) (z y : Fin 16) (k : Nat) (s : State) (b : Slot) n,
    s.performs e k pathBoth = true →
    b = (s.bank e k).next →
    n = (b.xr y).toNat →
    n % 2 = 0 →
    65534 < n →
    exec (.setc e p z y) s = .next (s.performed e k (fun t => t.draw.2.setBank e k ((b.setCirc p (b.xr z) (t.draw.1 % 32768 * 2)).setFlag bitV (t.draw.1 / 32768 % 2 == 1))))) ∧
  (∀ (e : Fin 16) (p : Fin 8) (i : Word) (k : Nat) (s : State) (b : Slot),
    s.performs e k pathBoth = true →
    b = (s.bank e k).next →
    s.writesBank (.addp e p i) e k (b.setPtr p (b.fold p ((b.ptr p).toNat + i.toInt)))) ∧
  (∀ (e : Fin 16) (d : Fin 16) (i : Fin 64) (k : Nat) (s : State) (b : Slot),
    s.performs e k pathBoth = true →
    b = (s.bank e k).next →
    exec (.ldin e d i) s = .next (s.performed e k (fun t => (t.setBank e k (b.setX d (SMap.get (fun _ => (0 : Word)) s.inputs (64 * e.val + i.val)))).put (invalidFld e i) 0))) ∧
  (∀ (e : Fin 16) (x y : Fin 16) (k : Nat) (s : State) (b : Slot),
    s.performs e k pathBoth = true →
    b = (s.bank e k).next →
    s.slotsValid e (b.xr x).toNat (b.xr y).toNat = true →
    exec (.waitv e x y) s = .next (s.performed e k (fun t => t))) ∧
  (∀ (e : Fin 16) (x y : Fin 16) (k : Nat) (s : State) (b : Slot),
    s.performs e k pathBoth = true →
    b = (s.bank e k).next →
    s.slotsValid e (b.xr x).toNat (b.xr y).toNat = false →
    exec (.waitv e x y) s = .next (s.performed e k (fun t => ((t.setBank e k { b with waitLo := (b.xr x).toNat, waitHi := (b.xr y).toNat }).modEngine e (fun z => { z with waiting := putBit z.waiting k true })).showSlot e none))) ∧
  (∀ (e : Fin 16) (j a : Fin 16) (k : Nat) (s : State) (b : Slot),
    s.performs e k pathBoth = true →
    b = (s.bank e k).next →
    exec (.probe e j a) s = .next (s.performed e k (fun t => t.pushLatch 8 e j (b.xr a)))) ∧
  (∀ (e : Fin 16) (d i : Fin 16) (p : Fin 8) (n : Nat) (ecc : Fin 3) (f : ScanAt) (k : Nat) (s w v : State) (b : Slot) j0 j1 hit cnt l r ok x met,
    s.performs e k pathBoth = true →
    b = (s.bank e k).next →
    1 ≤ n ∧ n ≤ 4096 →
    w = s.setBank e k b →
    j0 = (match b.scan with | some x => x.1 | none => 0) →
    j1 = (if f.stop = 0 then n else Nat.min n (j0 + 4 * f.stop)) →
    hit = (decide (j0 ≤ f.elem ∧ f.elem < j1) && w.elementOk e k p f.elem && (b.elementAt p f.elem).all dataMemory) →
    w.draw = (cnt, v) →
    l = (List.range (j1 - j0)).map (fun j => v.elementValue e k p (cnt % 2 ^ 18) (j0 + j) (hit && j0 + j == f.elem && ecc.val == 2)) →
    r = firstBest (fun v w => decide (w < v)) l j0 (match b.scan with | some x => x.2 | none => (l.headD 0, j0)) →
    ok = (List.range (j1 - j0)).all (fun j => v.elementOk e k p (j0 + j)) →
    x = v.setBank e k (if decide (j1 < n) then { b with pc := b.pc - 4, scan := some (j1, r) } else { (b.setX d (BitVec.ofInt 32 r.1)).setX i (BitVec.ofNat 32 r.2) with scan := none }) →
    met = (let x := if ok then x else x.rightsError e; (List.range (j1 - j0)).any (fun j => x.elementOk e k p (j0 + j) && (b.elementAt p (j0 + j)).all dataMemory && (b.elementAt p (j0 + j)).any x.badAt)) →
    exec (.maxi e d i p n ecc f) s = .next (s.performed e k (fun _ =>
      let u := x
      let u := if ok then u else u.rightsError e
      let u := if hit then u.markLoad (b.elementAt p f.elem) ecc else u
      if met then u.dataError e 2 else if hit then u.dataError e ecc else u))) ∧
  (∀ (e : Fin 16) (d i : Fin 16) (p : Fin 8) (n : Nat) (ecc : Fin 3) (f : ScanAt) (k : Nat) (s : State) (b : Slot),
    s.performs e k pathBoth = true →
    b = (s.bank e k).next →
    n = 0 ∨ 4096 < n →
    exec (.maxi e d i p n ecc f) s = .next (s.performed e k (fun t => t.illegal e k))) ∧
  (∀ (e : Fin 16) (d i : Fin 16) (p : Fin 8) (n : Nat) (ecc : Fin 3) (f : ScanAt) (k : Nat) (s w v : State) (b : Slot) j0 j1 hit cnt l r ok x met,
    s.performs e k pathBoth = true →
    b = (s.bank e k).next →
    1 ≤ n ∧ n ≤ 4096 →
    w = s.setBank e k b →
    j0 = (match b.scan with | some x => x.1 | none => 0) →
    j1 = (if f.stop = 0 then n else Nat.min n (j0 + 4 * f.stop)) →
    hit = (decide (j0 ≤ f.elem ∧ f.elem < j1) && w.elementOk e k p f.elem && (b.elementAt p f.elem).all dataMemory) →
    w.draw = (cnt, v) →
    l = (List.range (j1 - j0)).map (fun j => v.elementValue e k p (cnt % 2 ^ 18) (j0 + j) (hit && j0 + j == f.elem && ecc.val == 2)) →
    r = firstBest (fun v w => decide (v < w)) l j0 (match b.scan with | some x => x.2 | none => (l.headD 0, j0)) →
    ok = (List.range (j1 - j0)).all (fun j => v.elementOk e k p (j0 + j)) →
    x = v.setBank e k (if decide (j1 < n) then { b with pc := b.pc - 4, scan := some (j1, r) } else { (b.setX d (BitVec.ofInt 32 r.1)).setX i (BitVec.ofNat 32 r.2) with scan := none }) →
    met = (let x := if ok then x else x.rightsError e; (List.range (j1 - j0)).any (fun j => x.elementOk e k p (j0 + j) && (b.elementAt p (j0 + j)).all dataMemory && (b.elementAt p (j0 + j)).any x.badAt)) →
    exec (.mini e d i p n ecc f) s = .next (s.performed e k (fun _ =>
      let u := x
      let u := if ok then u else u.rightsError e
      let u := if hit then u.markLoad (b.elementAt p f.elem) ecc else u
      if met then u.dataError e 2 else if hit then u.dataError e ecc else u))) ∧
  (∀ (e : Fin 16) (d i : Fin 16) (p : Fin 8) (n : Nat) (ecc : Fin 3) (f : ScanAt) (k : Nat) (s : State) (b : Slot),
    s.performs e k pathBoth = true →
    b = (s.bank e k).next →
    n = 0 ∨ 4096 < n →
    exec (.mini e d i p n ecc f) s = .next (s.performed e k (fun t => t.illegal e k)))

/-- Branches, calls, returns, hardware loops, ends and illegal encodings (R60, R61, R62). Each clause answers the whole next
state of its command under conditions on the state and the operands alone, so whatever it does not write stays. Where a
value is the model's choice: assumption log 5, 17. -/
def Obligations.EngineControlFlow : Prop :=
  (∀ (e : Fin 16) (x : BitVec 17) (k : Nat) (s : State) (b : Slot),
    s.performs e k pathBoth = true →
    b = (s.bank e k).next →
    s.writesBank (.br e x) e k ({ b with pc := x.toNat })) ∧
  (∀ (e : Fin 16) (c : Cond) (x : BitVec 17) (k : Nat) (s : State) (b : Slot),
    s.performs e k pathBoth = true →
    b = (s.bank e k).next →
    s.writesBank (.bcc e c x) e k (if b.holds c then { b with pc := x.toNat } else b)) ∧
  (∀ (e : Fin 16) (x : BitVec 17) (k : Nat) (s : State) (b : Slot),
    s.performs e k pathBoth = true →
    b = (s.bank e k).next →
    b.ret.length < 8 →
    exec (.call_ e x) s = .next (s.performed e k (fun t => t.setBank e k { b with ret := b.pc :: b.ret, pc := x.toNat }))) ∧
  (∀ (e : Fin 16) (x : BitVec 17) (k : Nat) (s : State) (b : Slot),
    s.performs e k pathBoth = true →
    b = (s.bank e k).next →
    8 ≤ b.ret.length →
    exec (.call_ e x) s = .next (s.performed e k (fun t => t.stackError e k))) ∧
  (∀ (e : Fin 16) (k : Nat) (s : State) (b : Slot) a r,
    s.performs e k pathBoth = true →
    b = (s.bank e k).next →
    b.ret = a :: r →
    exec (.ret_ e) s = .next (s.performed e k (fun t => t.setBank e k { b with ret := r, pc := a }))) ∧
  (∀ (e : Fin 16) (k : Nat) (s : State) (b : Slot),
    s.performs e k pathBoth = true →
    b = (s.bank e k).next →
    b.ret = [] →
    exec (.ret_ e) s = .next (s.performed e k (fun t => t.stackError e k))) ∧
  (∀ (e : Fin 16) (n : Passes) (x : BitVec 17) (k : Nat) (s : State) (b : Slot) c,
    s.performs e k pathBoth = true →
    b = (s.bank e k).next →
    c = (match n with | .imm i => i.toNat | .reg r => (b.xr r).toNat) →
    n ≠ .imm 0 →
    b.loops.length < 2 →
    1 ≤ c ∧ c ≤ 65535 →
    exec (.loop_ e n x) s = .next (s.performed e k (fun t => t.setBank e k (b.openLoop c x.toNat)))) ∧
  (∀ (e : Fin 16) (n : Passes) (x : BitVec 17) (k : Nat) (s : State) (b : Slot),
    s.performs e k pathBoth = true →
    b = (s.bank e k).next →
    n = .imm 0 →
    exec (.loop_ e n x) s = .next (s.performed e k (fun t => t.illegal e k))) ∧
  (∀ (e : Fin 16) (n : Passes) (x : BitVec 17) (k : Nat) (s : State) (b : Slot),
    s.performs e k pathBoth = true →
    b = (s.bank e k).next →
    n ≠ .imm 0 →
    2 ≤ b.loops.length →
    exec (.loop_ e n x) s = .next (s.performed e k (fun t => t.stackError e k))) ∧
  (∀ (e : Fin 16) (n : Passes) (x : BitVec 17) (k : Nat) (s : State) (b : Slot) r,
    s.performs e k pathBoth = true →
    b = (s.bank e k).next →
    n = .reg r →
    b.loops.length < 2 →
    (b.xr r).toNat = 0 ∨ 65535 < (b.xr r).toNat →
    exec (.loop_ e n x) s = .next (s.performed e k (fun t => t.draw.2.setBank e k (b.openLoop (1 + t.draw.1 % 65535) x.toNat)))) ∧
  (∀ (e : Fin 16) (k : Nat) (s : State) (b : Slot),
    s.performs e k pathBoth = true →
    b = (s.bank e k).next →
    exec (.end_ e) s = .next (s.performed e k (fun t => t.endActivation e k))) ∧
  (∀ (e : Fin 16) (k : Nat) (s : State) (b : Slot),
    s.performs e k pathBoth = true →
    b = (s.bank e k).next →
    exec (.illegalInstruction e) s = .next (s.performed e k (fun t => t.illegal e k)))

end Slice0
end

