-- ==== Sys2Proof/Laws/State.lean ====
section
/-!
SUPPORT. What each field of State reads after each update: the written field reads what was written, every other field is unchanged.
-/

namespace Sys2Proof.Machine

@[simp] theorem State.withRegs_regs (s : State) (v : SMap Word) : (s.withRegs v).regs = v := rfl
@[simp] theorem State.withRegs_mem (s : State) (v : SMap Word) : (s.withRegs v).mem = s.mem := rfl
@[simp] theorem State.withRegs_flash (s : State) (v : SMap Word) : (s.withRegs v).flash = s.flash := rfl
@[simp] theorem State.withRegs_chans (s : State) (v : SMap Word) : (s.withRegs v).chans = s.chans := rfl
@[simp] theorem State.withRegs_mbxTurn (s : State) (v : SMap Word) : (s.withRegs v).mbxTurn = s.mbxTurn := rfl
@[simp] theorem State.withRegs_sessions (s : State) (v : SMap Word) : (s.withRegs v).sessions = s.sessions := rfl
@[simp] theorem State.withRegs_hpOut (s : State) (v : SMap Word) : (s.withRegs v).hpOut = s.hpOut := rfl
@[simp] theorem State.withRegs_netOut (s : State) (v : SMap Word) : (s.withRegs v).netOut = s.netOut := rfl
@[simp] theorem State.withRegs_sec (s : State) (v : SMap Word) : (s.withRegs v).sec = s.sec := rfl
@[simp] theorem State.withRegs_groups (s : State) (v : SMap Word) : (s.withRegs v).groups = s.groups := rfl
@[simp] theorem State.withRegs_legs (s : State) (v : SMap Word) : (s.withRegs v).legs = s.legs := rfl
@[simp] theorem State.withRegs_scheds (s : State) (v : SMap Word) : (s.withRegs v).scheds = s.scheds := rfl
@[simp] theorem State.withRegs_carriers (s : State) (v : SMap Word) : (s.withRegs v).carriers = s.carriers := rfl
@[simp] theorem State.withRegs_timers (s : State) (v : SMap Word) : (s.withRegs v).timers = s.timers := rfl
@[simp] theorem State.withRegs_links (s : State) (v : SMap Word) : (s.withRegs v).links = s.links := rfl
@[simp] theorem State.withRegs_engines (s : State) (v : SMap Word) : (s.withRegs v).engines = s.engines := rfl
@[simp] theorem State.withRegs_slots (s : State) (v : SMap Word) : (s.withRegs v).slots = s.slots := rfl
@[simp] theorem State.withRegs_tags (s : State) (v : SMap Word) : (s.withRegs v).tags = s.tags := rfl
@[simp] theorem State.withRegs_inputs (s : State) (v : SMap Word) : (s.withRegs v).inputs = s.inputs := rfl
@[simp] theorem State.withRegs_latches (s : State) (v : SMap Word) : (s.withRegs v).latches = s.latches := rfl
@[simp] theorem State.withRegs_caps (s : State) (v : SMap Word) : (s.withRegs v).caps = s.caps := rfl
@[simp] theorem State.withRegs_casc (s : State) (v : SMap Word) : (s.withRegs v).casc = s.casc := rfl
@[simp] theorem State.withRegs_engLoad (s : State) (v : SMap Word) : (s.withRegs v).engLoad = s.engLoad := rfl
@[simp] theorem State.withRegs_engImgs (s : State) (v : SMap Word) : (s.withRegs v).engImgs = s.engImgs := rfl
@[simp] theorem State.withRegs_sdChans (s : State) (v : SMap Word) : (s.withRegs v).sdChans = s.sdChans := rfl
@[simp] theorem State.withRegs_adcSeqs (s : State) (v : SMap Word) : (s.withRegs v).adcSeqs = s.adcSeqs := rfl
@[simp] theorem State.withRegs_sense (s : State) (v : SMap Word) : (s.withRegs v).sense = s.sense := rfl
@[simp] theorem State.withRegs_axes (s : State) (v : SMap Word) : (s.withRegs v).axes = s.axes := rfl
@[simp] theorem State.withRegs_profiles (s : State) (v : SMap Word) : (s.withRegs v).profiles = s.profiles := rfl
@[simp] theorem State.withRegs_vms (s : State) (v : SMap Word) : (s.withRegs v).vms = s.vms := rfl
@[simp] theorem State.withRegs_net (s : State) (v : SMap Word) : (s.withRegs v).net = s.net := rfl
@[simp] theorem State.withRegs_binds (s : State) (v : SMap Word) : (s.withRegs v).binds = s.binds := rfl
@[simp] theorem State.withRegs_cans (s : State) (v : SMap Word) : (s.withRegs v).cans = s.cans := rfl
@[simp] theorem State.withRegs_fins (s : State) (v : SMap Word) : (s.withRegs v).fins = s.fins := rfl
@[simp] theorem State.withRegs_tel (s : State) (v : SMap Word) : (s.withRegs v).tel = s.tel := rfl
@[simp] theorem State.withRegs_ctxCopy (s : State) (v : SMap Word) : (s.withRegs v).ctxCopy = s.ctxCopy := rfl
@[simp] theorem State.withRegs_wears (s : State) (v : SMap Word) : (s.withRegs v).wears = s.wears := rfl
@[simp] theorem State.withRegs_wearQ (s : State) (v : SMap Word) : (s.withRegs v).wearQ = s.wearQ := rfl
@[simp] theorem State.withRegs_wearPart (s : State) (v : SMap Word) : (s.withRegs v).wearPart = s.wearPart := rfl
@[simp] theorem State.withRegs_weir (s : State) (v : SMap Word) : (s.withRegs v).weir = s.weir := rfl
@[simp] theorem State.withRegs_mode (s : State) (v : SMap Word) : (s.withRegs v).mode = s.mode := rfl
@[simp] theorem State.withRegs_clk (s : State) (v : SMap Word) : (s.withRegs v).clk = s.clk := rfl
@[simp] theorem State.withRegs_pins (s : State) (v : SMap Word) : (s.withRegs v).pins = s.pins := rfl
@[simp] theorem State.withRegs_free (s : State) (v : SMap Word) : (s.withRegs v).free = s.free := rfl
@[simp] theorem State.withRegs_pending (s : State) (v : SMap Word) : (s.withRegs v).pending = s.pending := rfl
@[simp] theorem State.withMem_regs (s : State) (v : SMap Byte) : (s.withMem v).regs = s.regs := rfl
@[simp] theorem State.withMem_mem (s : State) (v : SMap Byte) : (s.withMem v).mem = v := rfl
@[simp] theorem State.withMem_flash (s : State) (v : SMap Byte) : (s.withMem v).flash = s.flash := rfl
@[simp] theorem State.withMem_chans (s : State) (v : SMap Byte) : (s.withMem v).chans = s.chans := rfl
@[simp] theorem State.withMem_mbxTurn (s : State) (v : SMap Byte) : (s.withMem v).mbxTurn = s.mbxTurn := rfl
@[simp] theorem State.withMem_sessions (s : State) (v : SMap Byte) : (s.withMem v).sessions = s.sessions := rfl
@[simp] theorem State.withMem_hpOut (s : State) (v : SMap Byte) : (s.withMem v).hpOut = s.hpOut := rfl
@[simp] theorem State.withMem_netOut (s : State) (v : SMap Byte) : (s.withMem v).netOut = s.netOut := rfl
@[simp] theorem State.withMem_sec (s : State) (v : SMap Byte) : (s.withMem v).sec = s.sec := rfl
@[simp] theorem State.withMem_groups (s : State) (v : SMap Byte) : (s.withMem v).groups = s.groups := rfl
@[simp] theorem State.withMem_legs (s : State) (v : SMap Byte) : (s.withMem v).legs = s.legs := rfl
@[simp] theorem State.withMem_scheds (s : State) (v : SMap Byte) : (s.withMem v).scheds = s.scheds := rfl
@[simp] theorem State.withMem_carriers (s : State) (v : SMap Byte) : (s.withMem v).carriers = s.carriers := rfl
@[simp] theorem State.withMem_timers (s : State) (v : SMap Byte) : (s.withMem v).timers = s.timers := rfl
@[simp] theorem State.withMem_links (s : State) (v : SMap Byte) : (s.withMem v).links = s.links := rfl
@[simp] theorem State.withMem_engines (s : State) (v : SMap Byte) : (s.withMem v).engines = s.engines := rfl
@[simp] theorem State.withMem_slots (s : State) (v : SMap Byte) : (s.withMem v).slots = s.slots := rfl
@[simp] theorem State.withMem_tags (s : State) (v : SMap Byte) : (s.withMem v).tags = s.tags := rfl
@[simp] theorem State.withMem_inputs (s : State) (v : SMap Byte) : (s.withMem v).inputs = s.inputs := rfl
@[simp] theorem State.withMem_latches (s : State) (v : SMap Byte) : (s.withMem v).latches = s.latches := rfl
@[simp] theorem State.withMem_caps (s : State) (v : SMap Byte) : (s.withMem v).caps = s.caps := rfl
@[simp] theorem State.withMem_casc (s : State) (v : SMap Byte) : (s.withMem v).casc = s.casc := rfl
@[simp] theorem State.withMem_engLoad (s : State) (v : SMap Byte) : (s.withMem v).engLoad = s.engLoad := rfl
@[simp] theorem State.withMem_engImgs (s : State) (v : SMap Byte) : (s.withMem v).engImgs = s.engImgs := rfl
@[simp] theorem State.withMem_sdChans (s : State) (v : SMap Byte) : (s.withMem v).sdChans = s.sdChans := rfl
@[simp] theorem State.withMem_adcSeqs (s : State) (v : SMap Byte) : (s.withMem v).adcSeqs = s.adcSeqs := rfl
@[simp] theorem State.withMem_sense (s : State) (v : SMap Byte) : (s.withMem v).sense = s.sense := rfl
@[simp] theorem State.withMem_axes (s : State) (v : SMap Byte) : (s.withMem v).axes = s.axes := rfl
@[simp] theorem State.withMem_profiles (s : State) (v : SMap Byte) : (s.withMem v).profiles = s.profiles := rfl
@[simp] theorem State.withMem_vms (s : State) (v : SMap Byte) : (s.withMem v).vms = s.vms := rfl
@[simp] theorem State.withMem_net (s : State) (v : SMap Byte) : (s.withMem v).net = s.net := rfl
@[simp] theorem State.withMem_binds (s : State) (v : SMap Byte) : (s.withMem v).binds = s.binds := rfl
@[simp] theorem State.withMem_cans (s : State) (v : SMap Byte) : (s.withMem v).cans = s.cans := rfl
@[simp] theorem State.withMem_fins (s : State) (v : SMap Byte) : (s.withMem v).fins = s.fins := rfl
@[simp] theorem State.withMem_tel (s : State) (v : SMap Byte) : (s.withMem v).tel = s.tel := rfl
@[simp] theorem State.withMem_ctxCopy (s : State) (v : SMap Byte) : (s.withMem v).ctxCopy = s.ctxCopy := rfl
@[simp] theorem State.withMem_wears (s : State) (v : SMap Byte) : (s.withMem v).wears = s.wears := rfl
@[simp] theorem State.withMem_wearQ (s : State) (v : SMap Byte) : (s.withMem v).wearQ = s.wearQ := rfl
@[simp] theorem State.withMem_wearPart (s : State) (v : SMap Byte) : (s.withMem v).wearPart = s.wearPart := rfl
@[simp] theorem State.withMem_weir (s : State) (v : SMap Byte) : (s.withMem v).weir = s.weir := rfl
@[simp] theorem State.withMem_mode (s : State) (v : SMap Byte) : (s.withMem v).mode = s.mode := rfl
@[simp] theorem State.withMem_clk (s : State) (v : SMap Byte) : (s.withMem v).clk = s.clk := rfl
@[simp] theorem State.withMem_pins (s : State) (v : SMap Byte) : (s.withMem v).pins = s.pins := rfl
@[simp] theorem State.withMem_free (s : State) (v : SMap Byte) : (s.withMem v).free = s.free := rfl
@[simp] theorem State.withMem_pending (s : State) (v : SMap Byte) : (s.withMem v).pending = s.pending := rfl
@[simp] theorem State.withFlash_regs (s : State) (v : SMap Byte) : (s.withFlash v).regs = s.regs := rfl
@[simp] theorem State.withFlash_mem (s : State) (v : SMap Byte) : (s.withFlash v).mem = s.mem := rfl
@[simp] theorem State.withFlash_flash (s : State) (v : SMap Byte) : (s.withFlash v).flash = v := rfl
@[simp] theorem State.withFlash_chans (s : State) (v : SMap Byte) : (s.withFlash v).chans = s.chans := rfl
@[simp] theorem State.withFlash_mbxTurn (s : State) (v : SMap Byte) : (s.withFlash v).mbxTurn = s.mbxTurn := rfl
@[simp] theorem State.withFlash_sessions (s : State) (v : SMap Byte) : (s.withFlash v).sessions = s.sessions := rfl
@[simp] theorem State.withFlash_hpOut (s : State) (v : SMap Byte) : (s.withFlash v).hpOut = s.hpOut := rfl
@[simp] theorem State.withFlash_netOut (s : State) (v : SMap Byte) : (s.withFlash v).netOut = s.netOut := rfl
@[simp] theorem State.withFlash_sec (s : State) (v : SMap Byte) : (s.withFlash v).sec = s.sec := rfl
@[simp] theorem State.withFlash_groups (s : State) (v : SMap Byte) : (s.withFlash v).groups = s.groups := rfl
@[simp] theorem State.withFlash_legs (s : State) (v : SMap Byte) : (s.withFlash v).legs = s.legs := rfl
@[simp] theorem State.withFlash_scheds (s : State) (v : SMap Byte) : (s.withFlash v).scheds = s.scheds := rfl
@[simp] theorem State.withFlash_carriers (s : State) (v : SMap Byte) : (s.withFlash v).carriers = s.carriers := rfl
@[simp] theorem State.withFlash_timers (s : State) (v : SMap Byte) : (s.withFlash v).timers = s.timers := rfl
@[simp] theorem State.withFlash_links (s : State) (v : SMap Byte) : (s.withFlash v).links = s.links := rfl
@[simp] theorem State.withFlash_engines (s : State) (v : SMap Byte) : (s.withFlash v).engines = s.engines := rfl
@[simp] theorem State.withFlash_slots (s : State) (v : SMap Byte) : (s.withFlash v).slots = s.slots := rfl
@[simp] theorem State.withFlash_tags (s : State) (v : SMap Byte) : (s.withFlash v).tags = s.tags := rfl
@[simp] theorem State.withFlash_inputs (s : State) (v : SMap Byte) : (s.withFlash v).inputs = s.inputs := rfl
@[simp] theorem State.withFlash_latches (s : State) (v : SMap Byte) : (s.withFlash v).latches = s.latches := rfl
@[simp] theorem State.withFlash_caps (s : State) (v : SMap Byte) : (s.withFlash v).caps = s.caps := rfl
@[simp] theorem State.withFlash_casc (s : State) (v : SMap Byte) : (s.withFlash v).casc = s.casc := rfl
@[simp] theorem State.withFlash_engLoad (s : State) (v : SMap Byte) : (s.withFlash v).engLoad = s.engLoad := rfl
@[simp] theorem State.withFlash_engImgs (s : State) (v : SMap Byte) : (s.withFlash v).engImgs = s.engImgs := rfl
@[simp] theorem State.withFlash_sdChans (s : State) (v : SMap Byte) : (s.withFlash v).sdChans = s.sdChans := rfl
@[simp] theorem State.withFlash_adcSeqs (s : State) (v : SMap Byte) : (s.withFlash v).adcSeqs = s.adcSeqs := rfl
@[simp] theorem State.withFlash_sense (s : State) (v : SMap Byte) : (s.withFlash v).sense = s.sense := rfl
@[simp] theorem State.withFlash_axes (s : State) (v : SMap Byte) : (s.withFlash v).axes = s.axes := rfl
@[simp] theorem State.withFlash_profiles (s : State) (v : SMap Byte) : (s.withFlash v).profiles = s.profiles := rfl
@[simp] theorem State.withFlash_vms (s : State) (v : SMap Byte) : (s.withFlash v).vms = s.vms := rfl
@[simp] theorem State.withFlash_net (s : State) (v : SMap Byte) : (s.withFlash v).net = s.net := rfl
@[simp] theorem State.withFlash_binds (s : State) (v : SMap Byte) : (s.withFlash v).binds = s.binds := rfl
@[simp] theorem State.withFlash_cans (s : State) (v : SMap Byte) : (s.withFlash v).cans = s.cans := rfl
@[simp] theorem State.withFlash_fins (s : State) (v : SMap Byte) : (s.withFlash v).fins = s.fins := rfl
@[simp] theorem State.withFlash_tel (s : State) (v : SMap Byte) : (s.withFlash v).tel = s.tel := rfl
@[simp] theorem State.withFlash_ctxCopy (s : State) (v : SMap Byte) : (s.withFlash v).ctxCopy = s.ctxCopy := rfl
@[simp] theorem State.withFlash_wears (s : State) (v : SMap Byte) : (s.withFlash v).wears = s.wears := rfl
@[simp] theorem State.withFlash_wearQ (s : State) (v : SMap Byte) : (s.withFlash v).wearQ = s.wearQ := rfl
@[simp] theorem State.withFlash_wearPart (s : State) (v : SMap Byte) : (s.withFlash v).wearPart = s.wearPart := rfl
@[simp] theorem State.withFlash_weir (s : State) (v : SMap Byte) : (s.withFlash v).weir = s.weir := rfl
@[simp] theorem State.withFlash_mode (s : State) (v : SMap Byte) : (s.withFlash v).mode = s.mode := rfl
@[simp] theorem State.withFlash_clk (s : State) (v : SMap Byte) : (s.withFlash v).clk = s.clk := rfl
@[simp] theorem State.withFlash_pins (s : State) (v : SMap Byte) : (s.withFlash v).pins = s.pins := rfl
@[simp] theorem State.withFlash_free (s : State) (v : SMap Byte) : (s.withFlash v).free = s.free := rfl
@[simp] theorem State.withFlash_pending (s : State) (v : SMap Byte) : (s.withFlash v).pending = s.pending := rfl
@[simp] theorem State.withChans_regs (s : State) (v : SMap Chan) : (s.withChans v).regs = s.regs := rfl
@[simp] theorem State.withChans_mem (s : State) (v : SMap Chan) : (s.withChans v).mem = s.mem := rfl
@[simp] theorem State.withChans_flash (s : State) (v : SMap Chan) : (s.withChans v).flash = s.flash := rfl
@[simp] theorem State.withChans_chans (s : State) (v : SMap Chan) : (s.withChans v).chans = v := rfl
@[simp] theorem State.withChans_mbxTurn (s : State) (v : SMap Chan) : (s.withChans v).mbxTurn = s.mbxTurn := rfl
@[simp] theorem State.withChans_sessions (s : State) (v : SMap Chan) : (s.withChans v).sessions = s.sessions := rfl
@[simp] theorem State.withChans_hpOut (s : State) (v : SMap Chan) : (s.withChans v).hpOut = s.hpOut := rfl
@[simp] theorem State.withChans_netOut (s : State) (v : SMap Chan) : (s.withChans v).netOut = s.netOut := rfl
@[simp] theorem State.withChans_sec (s : State) (v : SMap Chan) : (s.withChans v).sec = s.sec := rfl
@[simp] theorem State.withChans_groups (s : State) (v : SMap Chan) : (s.withChans v).groups = s.groups := rfl
@[simp] theorem State.withChans_legs (s : State) (v : SMap Chan) : (s.withChans v).legs = s.legs := rfl
@[simp] theorem State.withChans_scheds (s : State) (v : SMap Chan) : (s.withChans v).scheds = s.scheds := rfl
@[simp] theorem State.withChans_carriers (s : State) (v : SMap Chan) : (s.withChans v).carriers = s.carriers := rfl
@[simp] theorem State.withChans_timers (s : State) (v : SMap Chan) : (s.withChans v).timers = s.timers := rfl
@[simp] theorem State.withChans_links (s : State) (v : SMap Chan) : (s.withChans v).links = s.links := rfl
@[simp] theorem State.withChans_engines (s : State) (v : SMap Chan) : (s.withChans v).engines = s.engines := rfl
@[simp] theorem State.withChans_slots (s : State) (v : SMap Chan) : (s.withChans v).slots = s.slots := rfl
@[simp] theorem State.withChans_tags (s : State) (v : SMap Chan) : (s.withChans v).tags = s.tags := rfl
@[simp] theorem State.withChans_inputs (s : State) (v : SMap Chan) : (s.withChans v).inputs = s.inputs := rfl
@[simp] theorem State.withChans_latches (s : State) (v : SMap Chan) : (s.withChans v).latches = s.latches := rfl
@[simp] theorem State.withChans_caps (s : State) (v : SMap Chan) : (s.withChans v).caps = s.caps := rfl
@[simp] theorem State.withChans_casc (s : State) (v : SMap Chan) : (s.withChans v).casc = s.casc := rfl
@[simp] theorem State.withChans_engLoad (s : State) (v : SMap Chan) : (s.withChans v).engLoad = s.engLoad := rfl
@[simp] theorem State.withChans_engImgs (s : State) (v : SMap Chan) : (s.withChans v).engImgs = s.engImgs := rfl
@[simp] theorem State.withChans_sdChans (s : State) (v : SMap Chan) : (s.withChans v).sdChans = s.sdChans := rfl
@[simp] theorem State.withChans_adcSeqs (s : State) (v : SMap Chan) : (s.withChans v).adcSeqs = s.adcSeqs := rfl
@[simp] theorem State.withChans_sense (s : State) (v : SMap Chan) : (s.withChans v).sense = s.sense := rfl
@[simp] theorem State.withChans_axes (s : State) (v : SMap Chan) : (s.withChans v).axes = s.axes := rfl
@[simp] theorem State.withChans_profiles (s : State) (v : SMap Chan) : (s.withChans v).profiles = s.profiles := rfl
@[simp] theorem State.withChans_vms (s : State) (v : SMap Chan) : (s.withChans v).vms = s.vms := rfl
@[simp] theorem State.withChans_net (s : State) (v : SMap Chan) : (s.withChans v).net = s.net := rfl
@[simp] theorem State.withChans_binds (s : State) (v : SMap Chan) : (s.withChans v).binds = s.binds := rfl
@[simp] theorem State.withChans_cans (s : State) (v : SMap Chan) : (s.withChans v).cans = s.cans := rfl
@[simp] theorem State.withChans_fins (s : State) (v : SMap Chan) : (s.withChans v).fins = s.fins := rfl
@[simp] theorem State.withChans_tel (s : State) (v : SMap Chan) : (s.withChans v).tel = s.tel := rfl
@[simp] theorem State.withChans_ctxCopy (s : State) (v : SMap Chan) : (s.withChans v).ctxCopy = s.ctxCopy := rfl
@[simp] theorem State.withChans_wears (s : State) (v : SMap Chan) : (s.withChans v).wears = s.wears := rfl
@[simp] theorem State.withChans_wearQ (s : State) (v : SMap Chan) : (s.withChans v).wearQ = s.wearQ := rfl
@[simp] theorem State.withChans_wearPart (s : State) (v : SMap Chan) : (s.withChans v).wearPart = s.wearPart := rfl
@[simp] theorem State.withChans_weir (s : State) (v : SMap Chan) : (s.withChans v).weir = s.weir := rfl
@[simp] theorem State.withChans_mode (s : State) (v : SMap Chan) : (s.withChans v).mode = s.mode := rfl
@[simp] theorem State.withChans_clk (s : State) (v : SMap Chan) : (s.withChans v).clk = s.clk := rfl
@[simp] theorem State.withChans_pins (s : State) (v : SMap Chan) : (s.withChans v).pins = s.pins := rfl
@[simp] theorem State.withChans_free (s : State) (v : SMap Chan) : (s.withChans v).free = s.free := rfl
@[simp] theorem State.withChans_pending (s : State) (v : SMap Chan) : (s.withChans v).pending = s.pending := rfl
@[simp] theorem State.withMbxTurn_regs (s : State) (v : Nat) : (s.withMbxTurn v).regs = s.regs := rfl
@[simp] theorem State.withMbxTurn_mem (s : State) (v : Nat) : (s.withMbxTurn v).mem = s.mem := rfl
@[simp] theorem State.withMbxTurn_flash (s : State) (v : Nat) : (s.withMbxTurn v).flash = s.flash := rfl
@[simp] theorem State.withMbxTurn_chans (s : State) (v : Nat) : (s.withMbxTurn v).chans = s.chans := rfl
@[simp] theorem State.withMbxTurn_mbxTurn (s : State) (v : Nat) : (s.withMbxTurn v).mbxTurn = v := rfl
@[simp] theorem State.withMbxTurn_sessions (s : State) (v : Nat) : (s.withMbxTurn v).sessions = s.sessions := rfl
@[simp] theorem State.withMbxTurn_hpOut (s : State) (v : Nat) : (s.withMbxTurn v).hpOut = s.hpOut := rfl
@[simp] theorem State.withMbxTurn_netOut (s : State) (v : Nat) : (s.withMbxTurn v).netOut = s.netOut := rfl
@[simp] theorem State.withMbxTurn_sec (s : State) (v : Nat) : (s.withMbxTurn v).sec = s.sec := rfl
@[simp] theorem State.withMbxTurn_groups (s : State) (v : Nat) : (s.withMbxTurn v).groups = s.groups := rfl
@[simp] theorem State.withMbxTurn_legs (s : State) (v : Nat) : (s.withMbxTurn v).legs = s.legs := rfl
@[simp] theorem State.withMbxTurn_scheds (s : State) (v : Nat) : (s.withMbxTurn v).scheds = s.scheds := rfl
@[simp] theorem State.withMbxTurn_carriers (s : State) (v : Nat) : (s.withMbxTurn v).carriers = s.carriers := rfl
@[simp] theorem State.withMbxTurn_timers (s : State) (v : Nat) : (s.withMbxTurn v).timers = s.timers := rfl
@[simp] theorem State.withMbxTurn_links (s : State) (v : Nat) : (s.withMbxTurn v).links = s.links := rfl
@[simp] theorem State.withMbxTurn_engines (s : State) (v : Nat) : (s.withMbxTurn v).engines = s.engines := rfl
@[simp] theorem State.withMbxTurn_slots (s : State) (v : Nat) : (s.withMbxTurn v).slots = s.slots := rfl
@[simp] theorem State.withMbxTurn_tags (s : State) (v : Nat) : (s.withMbxTurn v).tags = s.tags := rfl
@[simp] theorem State.withMbxTurn_inputs (s : State) (v : Nat) : (s.withMbxTurn v).inputs = s.inputs := rfl
@[simp] theorem State.withMbxTurn_latches (s : State) (v : Nat) : (s.withMbxTurn v).latches = s.latches := rfl
@[simp] theorem State.withMbxTurn_caps (s : State) (v : Nat) : (s.withMbxTurn v).caps = s.caps := rfl
@[simp] theorem State.withMbxTurn_casc (s : State) (v : Nat) : (s.withMbxTurn v).casc = s.casc := rfl
@[simp] theorem State.withMbxTurn_engLoad (s : State) (v : Nat) : (s.withMbxTurn v).engLoad = s.engLoad := rfl
@[simp] theorem State.withMbxTurn_engImgs (s : State) (v : Nat) : (s.withMbxTurn v).engImgs = s.engImgs := rfl
@[simp] theorem State.withMbxTurn_sdChans (s : State) (v : Nat) : (s.withMbxTurn v).sdChans = s.sdChans := rfl
@[simp] theorem State.withMbxTurn_adcSeqs (s : State) (v : Nat) : (s.withMbxTurn v).adcSeqs = s.adcSeqs := rfl
@[simp] theorem State.withMbxTurn_sense (s : State) (v : Nat) : (s.withMbxTurn v).sense = s.sense := rfl
@[simp] theorem State.withMbxTurn_axes (s : State) (v : Nat) : (s.withMbxTurn v).axes = s.axes := rfl
@[simp] theorem State.withMbxTurn_profiles (s : State) (v : Nat) : (s.withMbxTurn v).profiles = s.profiles := rfl
@[simp] theorem State.withMbxTurn_vms (s : State) (v : Nat) : (s.withMbxTurn v).vms = s.vms := rfl
@[simp] theorem State.withMbxTurn_net (s : State) (v : Nat) : (s.withMbxTurn v).net = s.net := rfl
@[simp] theorem State.withMbxTurn_binds (s : State) (v : Nat) : (s.withMbxTurn v).binds = s.binds := rfl
@[simp] theorem State.withMbxTurn_cans (s : State) (v : Nat) : (s.withMbxTurn v).cans = s.cans := rfl
@[simp] theorem State.withMbxTurn_fins (s : State) (v : Nat) : (s.withMbxTurn v).fins = s.fins := rfl
@[simp] theorem State.withMbxTurn_tel (s : State) (v : Nat) : (s.withMbxTurn v).tel = s.tel := rfl
@[simp] theorem State.withMbxTurn_ctxCopy (s : State) (v : Nat) : (s.withMbxTurn v).ctxCopy = s.ctxCopy := rfl
@[simp] theorem State.withMbxTurn_wears (s : State) (v : Nat) : (s.withMbxTurn v).wears = s.wears := rfl
@[simp] theorem State.withMbxTurn_wearQ (s : State) (v : Nat) : (s.withMbxTurn v).wearQ = s.wearQ := rfl
@[simp] theorem State.withMbxTurn_wearPart (s : State) (v : Nat) : (s.withMbxTurn v).wearPart = s.wearPart := rfl
@[simp] theorem State.withMbxTurn_weir (s : State) (v : Nat) : (s.withMbxTurn v).weir = s.weir := rfl
@[simp] theorem State.withMbxTurn_mode (s : State) (v : Nat) : (s.withMbxTurn v).mode = s.mode := rfl
@[simp] theorem State.withMbxTurn_clk (s : State) (v : Nat) : (s.withMbxTurn v).clk = s.clk := rfl
@[simp] theorem State.withMbxTurn_pins (s : State) (v : Nat) : (s.withMbxTurn v).pins = s.pins := rfl
@[simp] theorem State.withMbxTurn_free (s : State) (v : Nat) : (s.withMbxTurn v).free = s.free := rfl
@[simp] theorem State.withMbxTurn_pending (s : State) (v : Nat) : (s.withMbxTurn v).pending = s.pending := rfl
@[simp] theorem State.withSessions_regs (s : State) (v : SMap Session) : (s.withSessions v).regs = s.regs := rfl
@[simp] theorem State.withSessions_mem (s : State) (v : SMap Session) : (s.withSessions v).mem = s.mem := rfl
@[simp] theorem State.withSessions_flash (s : State) (v : SMap Session) : (s.withSessions v).flash = s.flash := rfl
@[simp] theorem State.withSessions_chans (s : State) (v : SMap Session) : (s.withSessions v).chans = s.chans := rfl
@[simp] theorem State.withSessions_mbxTurn (s : State) (v : SMap Session) : (s.withSessions v).mbxTurn = s.mbxTurn := rfl
@[simp] theorem State.withSessions_sessions (s : State) (v : SMap Session) : (s.withSessions v).sessions = v := rfl
@[simp] theorem State.withSessions_hpOut (s : State) (v : SMap Session) : (s.withSessions v).hpOut = s.hpOut := rfl
@[simp] theorem State.withSessions_netOut (s : State) (v : SMap Session) : (s.withSessions v).netOut = s.netOut := rfl
@[simp] theorem State.withSessions_sec (s : State) (v : SMap Session) : (s.withSessions v).sec = s.sec := rfl
@[simp] theorem State.withSessions_groups (s : State) (v : SMap Session) : (s.withSessions v).groups = s.groups := rfl
@[simp] theorem State.withSessions_legs (s : State) (v : SMap Session) : (s.withSessions v).legs = s.legs := rfl
@[simp] theorem State.withSessions_scheds (s : State) (v : SMap Session) : (s.withSessions v).scheds = s.scheds := rfl
@[simp] theorem State.withSessions_carriers (s : State) (v : SMap Session) : (s.withSessions v).carriers = s.carriers := rfl
@[simp] theorem State.withSessions_timers (s : State) (v : SMap Session) : (s.withSessions v).timers = s.timers := rfl
@[simp] theorem State.withSessions_links (s : State) (v : SMap Session) : (s.withSessions v).links = s.links := rfl
@[simp] theorem State.withSessions_engines (s : State) (v : SMap Session) : (s.withSessions v).engines = s.engines := rfl
@[simp] theorem State.withSessions_slots (s : State) (v : SMap Session) : (s.withSessions v).slots = s.slots := rfl
@[simp] theorem State.withSessions_tags (s : State) (v : SMap Session) : (s.withSessions v).tags = s.tags := rfl
@[simp] theorem State.withSessions_inputs (s : State) (v : SMap Session) : (s.withSessions v).inputs = s.inputs := rfl
@[simp] theorem State.withSessions_latches (s : State) (v : SMap Session) : (s.withSessions v).latches = s.latches := rfl
@[simp] theorem State.withSessions_caps (s : State) (v : SMap Session) : (s.withSessions v).caps = s.caps := rfl
@[simp] theorem State.withSessions_casc (s : State) (v : SMap Session) : (s.withSessions v).casc = s.casc := rfl
@[simp] theorem State.withSessions_engLoad (s : State) (v : SMap Session) : (s.withSessions v).engLoad = s.engLoad := rfl
@[simp] theorem State.withSessions_engImgs (s : State) (v : SMap Session) : (s.withSessions v).engImgs = s.engImgs := rfl
@[simp] theorem State.withSessions_sdChans (s : State) (v : SMap Session) : (s.withSessions v).sdChans = s.sdChans := rfl
@[simp] theorem State.withSessions_adcSeqs (s : State) (v : SMap Session) : (s.withSessions v).adcSeqs = s.adcSeqs := rfl
@[simp] theorem State.withSessions_sense (s : State) (v : SMap Session) : (s.withSessions v).sense = s.sense := rfl
@[simp] theorem State.withSessions_axes (s : State) (v : SMap Session) : (s.withSessions v).axes = s.axes := rfl
@[simp] theorem State.withSessions_profiles (s : State) (v : SMap Session) : (s.withSessions v).profiles = s.profiles := rfl
@[simp] theorem State.withSessions_vms (s : State) (v : SMap Session) : (s.withSessions v).vms = s.vms := rfl
@[simp] theorem State.withSessions_net (s : State) (v : SMap Session) : (s.withSessions v).net = s.net := rfl
@[simp] theorem State.withSessions_binds (s : State) (v : SMap Session) : (s.withSessions v).binds = s.binds := rfl
@[simp] theorem State.withSessions_cans (s : State) (v : SMap Session) : (s.withSessions v).cans = s.cans := rfl
@[simp] theorem State.withSessions_fins (s : State) (v : SMap Session) : (s.withSessions v).fins = s.fins := rfl
@[simp] theorem State.withSessions_tel (s : State) (v : SMap Session) : (s.withSessions v).tel = s.tel := rfl
@[simp] theorem State.withSessions_ctxCopy (s : State) (v : SMap Session) : (s.withSessions v).ctxCopy = s.ctxCopy := rfl
@[simp] theorem State.withSessions_wears (s : State) (v : SMap Session) : (s.withSessions v).wears = s.wears := rfl
@[simp] theorem State.withSessions_wearQ (s : State) (v : SMap Session) : (s.withSessions v).wearQ = s.wearQ := rfl
@[simp] theorem State.withSessions_wearPart (s : State) (v : SMap Session) : (s.withSessions v).wearPart = s.wearPart := rfl
@[simp] theorem State.withSessions_weir (s : State) (v : SMap Session) : (s.withSessions v).weir = s.weir := rfl
@[simp] theorem State.withSessions_mode (s : State) (v : SMap Session) : (s.withSessions v).mode = s.mode := rfl
@[simp] theorem State.withSessions_clk (s : State) (v : SMap Session) : (s.withSessions v).clk = s.clk := rfl
@[simp] theorem State.withSessions_pins (s : State) (v : SMap Session) : (s.withSessions v).pins = s.pins := rfl
@[simp] theorem State.withSessions_free (s : State) (v : SMap Session) : (s.withSessions v).free = s.free := rfl
@[simp] theorem State.withSessions_pending (s : State) (v : SMap Session) : (s.withSessions v).pending = s.pending := rfl
@[simp] theorem State.withHpOut_regs (s : State) (v : List Byte) : (s.withHpOut v).regs = s.regs := rfl
@[simp] theorem State.withHpOut_mem (s : State) (v : List Byte) : (s.withHpOut v).mem = s.mem := rfl
@[simp] theorem State.withHpOut_flash (s : State) (v : List Byte) : (s.withHpOut v).flash = s.flash := rfl
@[simp] theorem State.withHpOut_chans (s : State) (v : List Byte) : (s.withHpOut v).chans = s.chans := rfl
@[simp] theorem State.withHpOut_mbxTurn (s : State) (v : List Byte) : (s.withHpOut v).mbxTurn = s.mbxTurn := rfl
@[simp] theorem State.withHpOut_sessions (s : State) (v : List Byte) : (s.withHpOut v).sessions = s.sessions := rfl
@[simp] theorem State.withHpOut_hpOut (s : State) (v : List Byte) : (s.withHpOut v).hpOut = v := rfl
@[simp] theorem State.withHpOut_netOut (s : State) (v : List Byte) : (s.withHpOut v).netOut = s.netOut := rfl
@[simp] theorem State.withHpOut_sec (s : State) (v : List Byte) : (s.withHpOut v).sec = s.sec := rfl
@[simp] theorem State.withHpOut_groups (s : State) (v : List Byte) : (s.withHpOut v).groups = s.groups := rfl
@[simp] theorem State.withHpOut_legs (s : State) (v : List Byte) : (s.withHpOut v).legs = s.legs := rfl
@[simp] theorem State.withHpOut_scheds (s : State) (v : List Byte) : (s.withHpOut v).scheds = s.scheds := rfl
@[simp] theorem State.withHpOut_carriers (s : State) (v : List Byte) : (s.withHpOut v).carriers = s.carriers := rfl
@[simp] theorem State.withHpOut_timers (s : State) (v : List Byte) : (s.withHpOut v).timers = s.timers := rfl
@[simp] theorem State.withHpOut_links (s : State) (v : List Byte) : (s.withHpOut v).links = s.links := rfl
@[simp] theorem State.withHpOut_engines (s : State) (v : List Byte) : (s.withHpOut v).engines = s.engines := rfl
@[simp] theorem State.withHpOut_slots (s : State) (v : List Byte) : (s.withHpOut v).slots = s.slots := rfl
@[simp] theorem State.withHpOut_tags (s : State) (v : List Byte) : (s.withHpOut v).tags = s.tags := rfl
@[simp] theorem State.withHpOut_inputs (s : State) (v : List Byte) : (s.withHpOut v).inputs = s.inputs := rfl
@[simp] theorem State.withHpOut_latches (s : State) (v : List Byte) : (s.withHpOut v).latches = s.latches := rfl
@[simp] theorem State.withHpOut_caps (s : State) (v : List Byte) : (s.withHpOut v).caps = s.caps := rfl
@[simp] theorem State.withHpOut_casc (s : State) (v : List Byte) : (s.withHpOut v).casc = s.casc := rfl
@[simp] theorem State.withHpOut_engLoad (s : State) (v : List Byte) : (s.withHpOut v).engLoad = s.engLoad := rfl
@[simp] theorem State.withHpOut_engImgs (s : State) (v : List Byte) : (s.withHpOut v).engImgs = s.engImgs := rfl
@[simp] theorem State.withHpOut_sdChans (s : State) (v : List Byte) : (s.withHpOut v).sdChans = s.sdChans := rfl
@[simp] theorem State.withHpOut_adcSeqs (s : State) (v : List Byte) : (s.withHpOut v).adcSeqs = s.adcSeqs := rfl
@[simp] theorem State.withHpOut_sense (s : State) (v : List Byte) : (s.withHpOut v).sense = s.sense := rfl
@[simp] theorem State.withHpOut_axes (s : State) (v : List Byte) : (s.withHpOut v).axes = s.axes := rfl
@[simp] theorem State.withHpOut_profiles (s : State) (v : List Byte) : (s.withHpOut v).profiles = s.profiles := rfl
@[simp] theorem State.withHpOut_vms (s : State) (v : List Byte) : (s.withHpOut v).vms = s.vms := rfl
@[simp] theorem State.withHpOut_net (s : State) (v : List Byte) : (s.withHpOut v).net = s.net := rfl
@[simp] theorem State.withHpOut_binds (s : State) (v : List Byte) : (s.withHpOut v).binds = s.binds := rfl
@[simp] theorem State.withHpOut_cans (s : State) (v : List Byte) : (s.withHpOut v).cans = s.cans := rfl
@[simp] theorem State.withHpOut_fins (s : State) (v : List Byte) : (s.withHpOut v).fins = s.fins := rfl
@[simp] theorem State.withHpOut_tel (s : State) (v : List Byte) : (s.withHpOut v).tel = s.tel := rfl
@[simp] theorem State.withHpOut_ctxCopy (s : State) (v : List Byte) : (s.withHpOut v).ctxCopy = s.ctxCopy := rfl
@[simp] theorem State.withHpOut_wears (s : State) (v : List Byte) : (s.withHpOut v).wears = s.wears := rfl
@[simp] theorem State.withHpOut_wearQ (s : State) (v : List Byte) : (s.withHpOut v).wearQ = s.wearQ := rfl
@[simp] theorem State.withHpOut_wearPart (s : State) (v : List Byte) : (s.withHpOut v).wearPart = s.wearPart := rfl
@[simp] theorem State.withHpOut_weir (s : State) (v : List Byte) : (s.withHpOut v).weir = s.weir := rfl
@[simp] theorem State.withHpOut_mode (s : State) (v : List Byte) : (s.withHpOut v).mode = s.mode := rfl
@[simp] theorem State.withHpOut_clk (s : State) (v : List Byte) : (s.withHpOut v).clk = s.clk := rfl
@[simp] theorem State.withHpOut_pins (s : State) (v : List Byte) : (s.withHpOut v).pins = s.pins := rfl
@[simp] theorem State.withHpOut_free (s : State) (v : List Byte) : (s.withHpOut v).free = s.free := rfl
@[simp] theorem State.withHpOut_pending (s : State) (v : List Byte) : (s.withHpOut v).pending = s.pending := rfl
@[simp] theorem State.withNetOut_regs (s : State) (v : List (List Byte)) : (s.withNetOut v).regs = s.regs := rfl
@[simp] theorem State.withNetOut_mem (s : State) (v : List (List Byte)) : (s.withNetOut v).mem = s.mem := rfl
@[simp] theorem State.withNetOut_flash (s : State) (v : List (List Byte)) : (s.withNetOut v).flash = s.flash := rfl
@[simp] theorem State.withNetOut_chans (s : State) (v : List (List Byte)) : (s.withNetOut v).chans = s.chans := rfl
@[simp] theorem State.withNetOut_mbxTurn (s : State) (v : List (List Byte)) : (s.withNetOut v).mbxTurn = s.mbxTurn := rfl
@[simp] theorem State.withNetOut_sessions (s : State) (v : List (List Byte)) : (s.withNetOut v).sessions = s.sessions := rfl
@[simp] theorem State.withNetOut_hpOut (s : State) (v : List (List Byte)) : (s.withNetOut v).hpOut = s.hpOut := rfl
@[simp] theorem State.withNetOut_netOut (s : State) (v : List (List Byte)) : (s.withNetOut v).netOut = v := rfl
@[simp] theorem State.withNetOut_sec (s : State) (v : List (List Byte)) : (s.withNetOut v).sec = s.sec := rfl
@[simp] theorem State.withNetOut_groups (s : State) (v : List (List Byte)) : (s.withNetOut v).groups = s.groups := rfl
@[simp] theorem State.withNetOut_legs (s : State) (v : List (List Byte)) : (s.withNetOut v).legs = s.legs := rfl
@[simp] theorem State.withNetOut_scheds (s : State) (v : List (List Byte)) : (s.withNetOut v).scheds = s.scheds := rfl
@[simp] theorem State.withNetOut_carriers (s : State) (v : List (List Byte)) : (s.withNetOut v).carriers = s.carriers := rfl
@[simp] theorem State.withNetOut_timers (s : State) (v : List (List Byte)) : (s.withNetOut v).timers = s.timers := rfl
@[simp] theorem State.withNetOut_links (s : State) (v : List (List Byte)) : (s.withNetOut v).links = s.links := rfl
@[simp] theorem State.withNetOut_engines (s : State) (v : List (List Byte)) : (s.withNetOut v).engines = s.engines := rfl
@[simp] theorem State.withNetOut_slots (s : State) (v : List (List Byte)) : (s.withNetOut v).slots = s.slots := rfl
@[simp] theorem State.withNetOut_tags (s : State) (v : List (List Byte)) : (s.withNetOut v).tags = s.tags := rfl
@[simp] theorem State.withNetOut_inputs (s : State) (v : List (List Byte)) : (s.withNetOut v).inputs = s.inputs := rfl
@[simp] theorem State.withNetOut_latches (s : State) (v : List (List Byte)) : (s.withNetOut v).latches = s.latches := rfl
@[simp] theorem State.withNetOut_caps (s : State) (v : List (List Byte)) : (s.withNetOut v).caps = s.caps := rfl
@[simp] theorem State.withNetOut_casc (s : State) (v : List (List Byte)) : (s.withNetOut v).casc = s.casc := rfl
@[simp] theorem State.withNetOut_engLoad (s : State) (v : List (List Byte)) : (s.withNetOut v).engLoad = s.engLoad := rfl
@[simp] theorem State.withNetOut_engImgs (s : State) (v : List (List Byte)) : (s.withNetOut v).engImgs = s.engImgs := rfl
@[simp] theorem State.withNetOut_sdChans (s : State) (v : List (List Byte)) : (s.withNetOut v).sdChans = s.sdChans := rfl
@[simp] theorem State.withNetOut_adcSeqs (s : State) (v : List (List Byte)) : (s.withNetOut v).adcSeqs = s.adcSeqs := rfl
@[simp] theorem State.withNetOut_sense (s : State) (v : List (List Byte)) : (s.withNetOut v).sense = s.sense := rfl
@[simp] theorem State.withNetOut_axes (s : State) (v : List (List Byte)) : (s.withNetOut v).axes = s.axes := rfl
@[simp] theorem State.withNetOut_profiles (s : State) (v : List (List Byte)) : (s.withNetOut v).profiles = s.profiles := rfl
@[simp] theorem State.withNetOut_vms (s : State) (v : List (List Byte)) : (s.withNetOut v).vms = s.vms := rfl
@[simp] theorem State.withNetOut_net (s : State) (v : List (List Byte)) : (s.withNetOut v).net = s.net := rfl
@[simp] theorem State.withNetOut_binds (s : State) (v : List (List Byte)) : (s.withNetOut v).binds = s.binds := rfl
@[simp] theorem State.withNetOut_cans (s : State) (v : List (List Byte)) : (s.withNetOut v).cans = s.cans := rfl
@[simp] theorem State.withNetOut_fins (s : State) (v : List (List Byte)) : (s.withNetOut v).fins = s.fins := rfl
@[simp] theorem State.withNetOut_tel (s : State) (v : List (List Byte)) : (s.withNetOut v).tel = s.tel := rfl
@[simp] theorem State.withNetOut_ctxCopy (s : State) (v : List (List Byte)) : (s.withNetOut v).ctxCopy = s.ctxCopy := rfl
@[simp] theorem State.withNetOut_wears (s : State) (v : List (List Byte)) : (s.withNetOut v).wears = s.wears := rfl
@[simp] theorem State.withNetOut_wearQ (s : State) (v : List (List Byte)) : (s.withNetOut v).wearQ = s.wearQ := rfl
@[simp] theorem State.withNetOut_wearPart (s : State) (v : List (List Byte)) : (s.withNetOut v).wearPart = s.wearPart := rfl
@[simp] theorem State.withNetOut_weir (s : State) (v : List (List Byte)) : (s.withNetOut v).weir = s.weir := rfl
@[simp] theorem State.withNetOut_mode (s : State) (v : List (List Byte)) : (s.withNetOut v).mode = s.mode := rfl
@[simp] theorem State.withNetOut_clk (s : State) (v : List (List Byte)) : (s.withNetOut v).clk = s.clk := rfl
@[simp] theorem State.withNetOut_pins (s : State) (v : List (List Byte)) : (s.withNetOut v).pins = s.pins := rfl
@[simp] theorem State.withNetOut_free (s : State) (v : List (List Byte)) : (s.withNetOut v).free = s.free := rfl
@[simp] theorem State.withNetOut_pending (s : State) (v : List (List Byte)) : (s.withNetOut v).pending = s.pending := rfl
@[simp] theorem State.withSec_regs (s : State) (v : SecState) : (s.withSec v).regs = s.regs := rfl
@[simp] theorem State.withSec_mem (s : State) (v : SecState) : (s.withSec v).mem = s.mem := rfl
@[simp] theorem State.withSec_flash (s : State) (v : SecState) : (s.withSec v).flash = s.flash := rfl
@[simp] theorem State.withSec_chans (s : State) (v : SecState) : (s.withSec v).chans = s.chans := rfl
@[simp] theorem State.withSec_mbxTurn (s : State) (v : SecState) : (s.withSec v).mbxTurn = s.mbxTurn := rfl
@[simp] theorem State.withSec_sessions (s : State) (v : SecState) : (s.withSec v).sessions = s.sessions := rfl
@[simp] theorem State.withSec_hpOut (s : State) (v : SecState) : (s.withSec v).hpOut = s.hpOut := rfl
@[simp] theorem State.withSec_netOut (s : State) (v : SecState) : (s.withSec v).netOut = s.netOut := rfl
@[simp] theorem State.withSec_sec (s : State) (v : SecState) : (s.withSec v).sec = v := rfl
@[simp] theorem State.withSec_groups (s : State) (v : SecState) : (s.withSec v).groups = s.groups := rfl
@[simp] theorem State.withSec_legs (s : State) (v : SecState) : (s.withSec v).legs = s.legs := rfl
@[simp] theorem State.withSec_scheds (s : State) (v : SecState) : (s.withSec v).scheds = s.scheds := rfl
@[simp] theorem State.withSec_carriers (s : State) (v : SecState) : (s.withSec v).carriers = s.carriers := rfl
@[simp] theorem State.withSec_timers (s : State) (v : SecState) : (s.withSec v).timers = s.timers := rfl
@[simp] theorem State.withSec_links (s : State) (v : SecState) : (s.withSec v).links = s.links := rfl
@[simp] theorem State.withSec_engines (s : State) (v : SecState) : (s.withSec v).engines = s.engines := rfl
@[simp] theorem State.withSec_slots (s : State) (v : SecState) : (s.withSec v).slots = s.slots := rfl
@[simp] theorem State.withSec_tags (s : State) (v : SecState) : (s.withSec v).tags = s.tags := rfl
@[simp] theorem State.withSec_inputs (s : State) (v : SecState) : (s.withSec v).inputs = s.inputs := rfl
@[simp] theorem State.withSec_latches (s : State) (v : SecState) : (s.withSec v).latches = s.latches := rfl
@[simp] theorem State.withSec_caps (s : State) (v : SecState) : (s.withSec v).caps = s.caps := rfl
@[simp] theorem State.withSec_casc (s : State) (v : SecState) : (s.withSec v).casc = s.casc := rfl
@[simp] theorem State.withSec_engLoad (s : State) (v : SecState) : (s.withSec v).engLoad = s.engLoad := rfl
@[simp] theorem State.withSec_engImgs (s : State) (v : SecState) : (s.withSec v).engImgs = s.engImgs := rfl
@[simp] theorem State.withSec_sdChans (s : State) (v : SecState) : (s.withSec v).sdChans = s.sdChans := rfl
@[simp] theorem State.withSec_adcSeqs (s : State) (v : SecState) : (s.withSec v).adcSeqs = s.adcSeqs := rfl
@[simp] theorem State.withSec_sense (s : State) (v : SecState) : (s.withSec v).sense = s.sense := rfl
@[simp] theorem State.withSec_axes (s : State) (v : SecState) : (s.withSec v).axes = s.axes := rfl
@[simp] theorem State.withSec_profiles (s : State) (v : SecState) : (s.withSec v).profiles = s.profiles := rfl
@[simp] theorem State.withSec_vms (s : State) (v : SecState) : (s.withSec v).vms = s.vms := rfl
@[simp] theorem State.withSec_net (s : State) (v : SecState) : (s.withSec v).net = s.net := rfl
@[simp] theorem State.withSec_binds (s : State) (v : SecState) : (s.withSec v).binds = s.binds := rfl
@[simp] theorem State.withSec_cans (s : State) (v : SecState) : (s.withSec v).cans = s.cans := rfl
@[simp] theorem State.withSec_fins (s : State) (v : SecState) : (s.withSec v).fins = s.fins := rfl
@[simp] theorem State.withSec_tel (s : State) (v : SecState) : (s.withSec v).tel = s.tel := rfl
@[simp] theorem State.withSec_ctxCopy (s : State) (v : SecState) : (s.withSec v).ctxCopy = s.ctxCopy := rfl
@[simp] theorem State.withSec_wears (s : State) (v : SecState) : (s.withSec v).wears = s.wears := rfl
@[simp] theorem State.withSec_wearQ (s : State) (v : SecState) : (s.withSec v).wearQ = s.wearQ := rfl
@[simp] theorem State.withSec_wearPart (s : State) (v : SecState) : (s.withSec v).wearPart = s.wearPart := rfl
@[simp] theorem State.withSec_weir (s : State) (v : SecState) : (s.withSec v).weir = s.weir := rfl
@[simp] theorem State.withSec_mode (s : State) (v : SecState) : (s.withSec v).mode = s.mode := rfl
@[simp] theorem State.withSec_clk (s : State) (v : SecState) : (s.withSec v).clk = s.clk := rfl
@[simp] theorem State.withSec_pins (s : State) (v : SecState) : (s.withSec v).pins = s.pins := rfl
@[simp] theorem State.withSec_free (s : State) (v : SecState) : (s.withSec v).free = s.free := rfl
@[simp] theorem State.withSec_pending (s : State) (v : SecState) : (s.withSec v).pending = s.pending := rfl
@[simp] theorem State.withGroups_regs (s : State) (v : SMap Group) : (s.withGroups v).regs = s.regs := rfl
@[simp] theorem State.withGroups_mem (s : State) (v : SMap Group) : (s.withGroups v).mem = s.mem := rfl
@[simp] theorem State.withGroups_flash (s : State) (v : SMap Group) : (s.withGroups v).flash = s.flash := rfl
@[simp] theorem State.withGroups_chans (s : State) (v : SMap Group) : (s.withGroups v).chans = s.chans := rfl
@[simp] theorem State.withGroups_mbxTurn (s : State) (v : SMap Group) : (s.withGroups v).mbxTurn = s.mbxTurn := rfl
@[simp] theorem State.withGroups_sessions (s : State) (v : SMap Group) : (s.withGroups v).sessions = s.sessions := rfl
@[simp] theorem State.withGroups_hpOut (s : State) (v : SMap Group) : (s.withGroups v).hpOut = s.hpOut := rfl
@[simp] theorem State.withGroups_netOut (s : State) (v : SMap Group) : (s.withGroups v).netOut = s.netOut := rfl
@[simp] theorem State.withGroups_sec (s : State) (v : SMap Group) : (s.withGroups v).sec = s.sec := rfl
@[simp] theorem State.withGroups_groups (s : State) (v : SMap Group) : (s.withGroups v).groups = v := rfl
@[simp] theorem State.withGroups_legs (s : State) (v : SMap Group) : (s.withGroups v).legs = s.legs := rfl
@[simp] theorem State.withGroups_scheds (s : State) (v : SMap Group) : (s.withGroups v).scheds = s.scheds := rfl
@[simp] theorem State.withGroups_carriers (s : State) (v : SMap Group) : (s.withGroups v).carriers = s.carriers := rfl
@[simp] theorem State.withGroups_timers (s : State) (v : SMap Group) : (s.withGroups v).timers = s.timers := rfl
@[simp] theorem State.withGroups_links (s : State) (v : SMap Group) : (s.withGroups v).links = s.links := rfl
@[simp] theorem State.withGroups_engines (s : State) (v : SMap Group) : (s.withGroups v).engines = s.engines := rfl
@[simp] theorem State.withGroups_slots (s : State) (v : SMap Group) : (s.withGroups v).slots = s.slots := rfl
@[simp] theorem State.withGroups_tags (s : State) (v : SMap Group) : (s.withGroups v).tags = s.tags := rfl
@[simp] theorem State.withGroups_inputs (s : State) (v : SMap Group) : (s.withGroups v).inputs = s.inputs := rfl
@[simp] theorem State.withGroups_latches (s : State) (v : SMap Group) : (s.withGroups v).latches = s.latches := rfl
@[simp] theorem State.withGroups_caps (s : State) (v : SMap Group) : (s.withGroups v).caps = s.caps := rfl
@[simp] theorem State.withGroups_casc (s : State) (v : SMap Group) : (s.withGroups v).casc = s.casc := rfl
@[simp] theorem State.withGroups_engLoad (s : State) (v : SMap Group) : (s.withGroups v).engLoad = s.engLoad := rfl
@[simp] theorem State.withGroups_engImgs (s : State) (v : SMap Group) : (s.withGroups v).engImgs = s.engImgs := rfl
@[simp] theorem State.withGroups_sdChans (s : State) (v : SMap Group) : (s.withGroups v).sdChans = s.sdChans := rfl
@[simp] theorem State.withGroups_adcSeqs (s : State) (v : SMap Group) : (s.withGroups v).adcSeqs = s.adcSeqs := rfl
@[simp] theorem State.withGroups_sense (s : State) (v : SMap Group) : (s.withGroups v).sense = s.sense := rfl
@[simp] theorem State.withGroups_axes (s : State) (v : SMap Group) : (s.withGroups v).axes = s.axes := rfl
@[simp] theorem State.withGroups_profiles (s : State) (v : SMap Group) : (s.withGroups v).profiles = s.profiles := rfl
@[simp] theorem State.withGroups_vms (s : State) (v : SMap Group) : (s.withGroups v).vms = s.vms := rfl
@[simp] theorem State.withGroups_net (s : State) (v : SMap Group) : (s.withGroups v).net = s.net := rfl
@[simp] theorem State.withGroups_binds (s : State) (v : SMap Group) : (s.withGroups v).binds = s.binds := rfl
@[simp] theorem State.withGroups_cans (s : State) (v : SMap Group) : (s.withGroups v).cans = s.cans := rfl
@[simp] theorem State.withGroups_fins (s : State) (v : SMap Group) : (s.withGroups v).fins = s.fins := rfl
@[simp] theorem State.withGroups_tel (s : State) (v : SMap Group) : (s.withGroups v).tel = s.tel := rfl
@[simp] theorem State.withGroups_ctxCopy (s : State) (v : SMap Group) : (s.withGroups v).ctxCopy = s.ctxCopy := rfl
@[simp] theorem State.withGroups_wears (s : State) (v : SMap Group) : (s.withGroups v).wears = s.wears := rfl
@[simp] theorem State.withGroups_wearQ (s : State) (v : SMap Group) : (s.withGroups v).wearQ = s.wearQ := rfl
@[simp] theorem State.withGroups_wearPart (s : State) (v : SMap Group) : (s.withGroups v).wearPart = s.wearPart := rfl
@[simp] theorem State.withGroups_weir (s : State) (v : SMap Group) : (s.withGroups v).weir = s.weir := rfl
@[simp] theorem State.withGroups_mode (s : State) (v : SMap Group) : (s.withGroups v).mode = s.mode := rfl
@[simp] theorem State.withGroups_clk (s : State) (v : SMap Group) : (s.withGroups v).clk = s.clk := rfl
@[simp] theorem State.withGroups_pins (s : State) (v : SMap Group) : (s.withGroups v).pins = s.pins := rfl
@[simp] theorem State.withGroups_free (s : State) (v : SMap Group) : (s.withGroups v).free = s.free := rfl
@[simp] theorem State.withGroups_pending (s : State) (v : SMap Group) : (s.withGroups v).pending = s.pending := rfl
@[simp] theorem State.withLegs_regs (s : State) (v : SMap Leg) : (s.withLegs v).regs = s.regs := rfl
@[simp] theorem State.withLegs_mem (s : State) (v : SMap Leg) : (s.withLegs v).mem = s.mem := rfl
@[simp] theorem State.withLegs_flash (s : State) (v : SMap Leg) : (s.withLegs v).flash = s.flash := rfl
@[simp] theorem State.withLegs_chans (s : State) (v : SMap Leg) : (s.withLegs v).chans = s.chans := rfl
@[simp] theorem State.withLegs_mbxTurn (s : State) (v : SMap Leg) : (s.withLegs v).mbxTurn = s.mbxTurn := rfl
@[simp] theorem State.withLegs_sessions (s : State) (v : SMap Leg) : (s.withLegs v).sessions = s.sessions := rfl
@[simp] theorem State.withLegs_hpOut (s : State) (v : SMap Leg) : (s.withLegs v).hpOut = s.hpOut := rfl
@[simp] theorem State.withLegs_netOut (s : State) (v : SMap Leg) : (s.withLegs v).netOut = s.netOut := rfl
@[simp] theorem State.withLegs_sec (s : State) (v : SMap Leg) : (s.withLegs v).sec = s.sec := rfl
@[simp] theorem State.withLegs_groups (s : State) (v : SMap Leg) : (s.withLegs v).groups = s.groups := rfl
@[simp] theorem State.withLegs_legs (s : State) (v : SMap Leg) : (s.withLegs v).legs = v := rfl
@[simp] theorem State.withLegs_scheds (s : State) (v : SMap Leg) : (s.withLegs v).scheds = s.scheds := rfl
@[simp] theorem State.withLegs_carriers (s : State) (v : SMap Leg) : (s.withLegs v).carriers = s.carriers := rfl
@[simp] theorem State.withLegs_timers (s : State) (v : SMap Leg) : (s.withLegs v).timers = s.timers := rfl
@[simp] theorem State.withLegs_links (s : State) (v : SMap Leg) : (s.withLegs v).links = s.links := rfl
@[simp] theorem State.withLegs_engines (s : State) (v : SMap Leg) : (s.withLegs v).engines = s.engines := rfl
@[simp] theorem State.withLegs_slots (s : State) (v : SMap Leg) : (s.withLegs v).slots = s.slots := rfl
@[simp] theorem State.withLegs_tags (s : State) (v : SMap Leg) : (s.withLegs v).tags = s.tags := rfl
@[simp] theorem State.withLegs_inputs (s : State) (v : SMap Leg) : (s.withLegs v).inputs = s.inputs := rfl
@[simp] theorem State.withLegs_latches (s : State) (v : SMap Leg) : (s.withLegs v).latches = s.latches := rfl
@[simp] theorem State.withLegs_caps (s : State) (v : SMap Leg) : (s.withLegs v).caps = s.caps := rfl
@[simp] theorem State.withLegs_casc (s : State) (v : SMap Leg) : (s.withLegs v).casc = s.casc := rfl
@[simp] theorem State.withLegs_engLoad (s : State) (v : SMap Leg) : (s.withLegs v).engLoad = s.engLoad := rfl
@[simp] theorem State.withLegs_engImgs (s : State) (v : SMap Leg) : (s.withLegs v).engImgs = s.engImgs := rfl
@[simp] theorem State.withLegs_sdChans (s : State) (v : SMap Leg) : (s.withLegs v).sdChans = s.sdChans := rfl
@[simp] theorem State.withLegs_adcSeqs (s : State) (v : SMap Leg) : (s.withLegs v).adcSeqs = s.adcSeqs := rfl
@[simp] theorem State.withLegs_sense (s : State) (v : SMap Leg) : (s.withLegs v).sense = s.sense := rfl
@[simp] theorem State.withLegs_axes (s : State) (v : SMap Leg) : (s.withLegs v).axes = s.axes := rfl
@[simp] theorem State.withLegs_profiles (s : State) (v : SMap Leg) : (s.withLegs v).profiles = s.profiles := rfl
@[simp] theorem State.withLegs_vms (s : State) (v : SMap Leg) : (s.withLegs v).vms = s.vms := rfl
@[simp] theorem State.withLegs_net (s : State) (v : SMap Leg) : (s.withLegs v).net = s.net := rfl
@[simp] theorem State.withLegs_binds (s : State) (v : SMap Leg) : (s.withLegs v).binds = s.binds := rfl
@[simp] theorem State.withLegs_cans (s : State) (v : SMap Leg) : (s.withLegs v).cans = s.cans := rfl
@[simp] theorem State.withLegs_fins (s : State) (v : SMap Leg) : (s.withLegs v).fins = s.fins := rfl
@[simp] theorem State.withLegs_tel (s : State) (v : SMap Leg) : (s.withLegs v).tel = s.tel := rfl
@[simp] theorem State.withLegs_ctxCopy (s : State) (v : SMap Leg) : (s.withLegs v).ctxCopy = s.ctxCopy := rfl
@[simp] theorem State.withLegs_wears (s : State) (v : SMap Leg) : (s.withLegs v).wears = s.wears := rfl
@[simp] theorem State.withLegs_wearQ (s : State) (v : SMap Leg) : (s.withLegs v).wearQ = s.wearQ := rfl
@[simp] theorem State.withLegs_wearPart (s : State) (v : SMap Leg) : (s.withLegs v).wearPart = s.wearPart := rfl
@[simp] theorem State.withLegs_weir (s : State) (v : SMap Leg) : (s.withLegs v).weir = s.weir := rfl
@[simp] theorem State.withLegs_mode (s : State) (v : SMap Leg) : (s.withLegs v).mode = s.mode := rfl
@[simp] theorem State.withLegs_clk (s : State) (v : SMap Leg) : (s.withLegs v).clk = s.clk := rfl
@[simp] theorem State.withLegs_pins (s : State) (v : SMap Leg) : (s.withLegs v).pins = s.pins := rfl
@[simp] theorem State.withLegs_free (s : State) (v : SMap Leg) : (s.withLegs v).free = s.free := rfl
@[simp] theorem State.withLegs_pending (s : State) (v : SMap Leg) : (s.withLegs v).pending = s.pending := rfl
@[simp] theorem State.withScheds_regs (s : State) (v : SMap Sched) : (s.withScheds v).regs = s.regs := rfl
@[simp] theorem State.withScheds_mem (s : State) (v : SMap Sched) : (s.withScheds v).mem = s.mem := rfl
@[simp] theorem State.withScheds_flash (s : State) (v : SMap Sched) : (s.withScheds v).flash = s.flash := rfl
@[simp] theorem State.withScheds_chans (s : State) (v : SMap Sched) : (s.withScheds v).chans = s.chans := rfl
@[simp] theorem State.withScheds_mbxTurn (s : State) (v : SMap Sched) : (s.withScheds v).mbxTurn = s.mbxTurn := rfl
@[simp] theorem State.withScheds_sessions (s : State) (v : SMap Sched) : (s.withScheds v).sessions = s.sessions := rfl
@[simp] theorem State.withScheds_hpOut (s : State) (v : SMap Sched) : (s.withScheds v).hpOut = s.hpOut := rfl
@[simp] theorem State.withScheds_netOut (s : State) (v : SMap Sched) : (s.withScheds v).netOut = s.netOut := rfl
@[simp] theorem State.withScheds_sec (s : State) (v : SMap Sched) : (s.withScheds v).sec = s.sec := rfl
@[simp] theorem State.withScheds_groups (s : State) (v : SMap Sched) : (s.withScheds v).groups = s.groups := rfl
@[simp] theorem State.withScheds_legs (s : State) (v : SMap Sched) : (s.withScheds v).legs = s.legs := rfl
@[simp] theorem State.withScheds_scheds (s : State) (v : SMap Sched) : (s.withScheds v).scheds = v := rfl
@[simp] theorem State.withScheds_carriers (s : State) (v : SMap Sched) : (s.withScheds v).carriers = s.carriers := rfl
@[simp] theorem State.withScheds_timers (s : State) (v : SMap Sched) : (s.withScheds v).timers = s.timers := rfl
@[simp] theorem State.withScheds_links (s : State) (v : SMap Sched) : (s.withScheds v).links = s.links := rfl
@[simp] theorem State.withScheds_engines (s : State) (v : SMap Sched) : (s.withScheds v).engines = s.engines := rfl
@[simp] theorem State.withScheds_slots (s : State) (v : SMap Sched) : (s.withScheds v).slots = s.slots := rfl
@[simp] theorem State.withScheds_tags (s : State) (v : SMap Sched) : (s.withScheds v).tags = s.tags := rfl
@[simp] theorem State.withScheds_inputs (s : State) (v : SMap Sched) : (s.withScheds v).inputs = s.inputs := rfl
@[simp] theorem State.withScheds_latches (s : State) (v : SMap Sched) : (s.withScheds v).latches = s.latches := rfl
@[simp] theorem State.withScheds_caps (s : State) (v : SMap Sched) : (s.withScheds v).caps = s.caps := rfl
@[simp] theorem State.withScheds_casc (s : State) (v : SMap Sched) : (s.withScheds v).casc = s.casc := rfl
@[simp] theorem State.withScheds_engLoad (s : State) (v : SMap Sched) : (s.withScheds v).engLoad = s.engLoad := rfl
@[simp] theorem State.withScheds_engImgs (s : State) (v : SMap Sched) : (s.withScheds v).engImgs = s.engImgs := rfl
@[simp] theorem State.withScheds_sdChans (s : State) (v : SMap Sched) : (s.withScheds v).sdChans = s.sdChans := rfl
@[simp] theorem State.withScheds_adcSeqs (s : State) (v : SMap Sched) : (s.withScheds v).adcSeqs = s.adcSeqs := rfl
@[simp] theorem State.withScheds_sense (s : State) (v : SMap Sched) : (s.withScheds v).sense = s.sense := rfl
@[simp] theorem State.withScheds_axes (s : State) (v : SMap Sched) : (s.withScheds v).axes = s.axes := rfl
@[simp] theorem State.withScheds_profiles (s : State) (v : SMap Sched) : (s.withScheds v).profiles = s.profiles := rfl
@[simp] theorem State.withScheds_vms (s : State) (v : SMap Sched) : (s.withScheds v).vms = s.vms := rfl
@[simp] theorem State.withScheds_net (s : State) (v : SMap Sched) : (s.withScheds v).net = s.net := rfl
@[simp] theorem State.withScheds_binds (s : State) (v : SMap Sched) : (s.withScheds v).binds = s.binds := rfl
@[simp] theorem State.withScheds_cans (s : State) (v : SMap Sched) : (s.withScheds v).cans = s.cans := rfl
@[simp] theorem State.withScheds_fins (s : State) (v : SMap Sched) : (s.withScheds v).fins = s.fins := rfl
@[simp] theorem State.withScheds_tel (s : State) (v : SMap Sched) : (s.withScheds v).tel = s.tel := rfl
@[simp] theorem State.withScheds_ctxCopy (s : State) (v : SMap Sched) : (s.withScheds v).ctxCopy = s.ctxCopy := rfl
@[simp] theorem State.withScheds_wears (s : State) (v : SMap Sched) : (s.withScheds v).wears = s.wears := rfl
@[simp] theorem State.withScheds_wearQ (s : State) (v : SMap Sched) : (s.withScheds v).wearQ = s.wearQ := rfl
@[simp] theorem State.withScheds_wearPart (s : State) (v : SMap Sched) : (s.withScheds v).wearPart = s.wearPart := rfl
@[simp] theorem State.withScheds_weir (s : State) (v : SMap Sched) : (s.withScheds v).weir = s.weir := rfl
@[simp] theorem State.withScheds_mode (s : State) (v : SMap Sched) : (s.withScheds v).mode = s.mode := rfl
@[simp] theorem State.withScheds_clk (s : State) (v : SMap Sched) : (s.withScheds v).clk = s.clk := rfl
@[simp] theorem State.withScheds_pins (s : State) (v : SMap Sched) : (s.withScheds v).pins = s.pins := rfl
@[simp] theorem State.withScheds_free (s : State) (v : SMap Sched) : (s.withScheds v).free = s.free := rfl
@[simp] theorem State.withScheds_pending (s : State) (v : SMap Sched) : (s.withScheds v).pending = s.pending := rfl
@[simp] theorem State.withCarriers_regs (s : State) (v : SMap Carrier) : (s.withCarriers v).regs = s.regs := rfl
@[simp] theorem State.withCarriers_mem (s : State) (v : SMap Carrier) : (s.withCarriers v).mem = s.mem := rfl
@[simp] theorem State.withCarriers_flash (s : State) (v : SMap Carrier) : (s.withCarriers v).flash = s.flash := rfl
@[simp] theorem State.withCarriers_chans (s : State) (v : SMap Carrier) : (s.withCarriers v).chans = s.chans := rfl
@[simp] theorem State.withCarriers_mbxTurn (s : State) (v : SMap Carrier) : (s.withCarriers v).mbxTurn = s.mbxTurn := rfl
@[simp] theorem State.withCarriers_sessions (s : State) (v : SMap Carrier) : (s.withCarriers v).sessions = s.sessions := rfl
@[simp] theorem State.withCarriers_hpOut (s : State) (v : SMap Carrier) : (s.withCarriers v).hpOut = s.hpOut := rfl
@[simp] theorem State.withCarriers_netOut (s : State) (v : SMap Carrier) : (s.withCarriers v).netOut = s.netOut := rfl
@[simp] theorem State.withCarriers_sec (s : State) (v : SMap Carrier) : (s.withCarriers v).sec = s.sec := rfl
@[simp] theorem State.withCarriers_groups (s : State) (v : SMap Carrier) : (s.withCarriers v).groups = s.groups := rfl
@[simp] theorem State.withCarriers_legs (s : State) (v : SMap Carrier) : (s.withCarriers v).legs = s.legs := rfl
@[simp] theorem State.withCarriers_scheds (s : State) (v : SMap Carrier) : (s.withCarriers v).scheds = s.scheds := rfl
@[simp] theorem State.withCarriers_carriers (s : State) (v : SMap Carrier) : (s.withCarriers v).carriers = v := rfl
@[simp] theorem State.withCarriers_timers (s : State) (v : SMap Carrier) : (s.withCarriers v).timers = s.timers := rfl
@[simp] theorem State.withCarriers_links (s : State) (v : SMap Carrier) : (s.withCarriers v).links = s.links := rfl
@[simp] theorem State.withCarriers_engines (s : State) (v : SMap Carrier) : (s.withCarriers v).engines = s.engines := rfl
@[simp] theorem State.withCarriers_slots (s : State) (v : SMap Carrier) : (s.withCarriers v).slots = s.slots := rfl
@[simp] theorem State.withCarriers_tags (s : State) (v : SMap Carrier) : (s.withCarriers v).tags = s.tags := rfl
@[simp] theorem State.withCarriers_inputs (s : State) (v : SMap Carrier) : (s.withCarriers v).inputs = s.inputs := rfl
@[simp] theorem State.withCarriers_latches (s : State) (v : SMap Carrier) : (s.withCarriers v).latches = s.latches := rfl
@[simp] theorem State.withCarriers_caps (s : State) (v : SMap Carrier) : (s.withCarriers v).caps = s.caps := rfl
@[simp] theorem State.withCarriers_casc (s : State) (v : SMap Carrier) : (s.withCarriers v).casc = s.casc := rfl
@[simp] theorem State.withCarriers_engLoad (s : State) (v : SMap Carrier) : (s.withCarriers v).engLoad = s.engLoad := rfl
@[simp] theorem State.withCarriers_engImgs (s : State) (v : SMap Carrier) : (s.withCarriers v).engImgs = s.engImgs := rfl
@[simp] theorem State.withCarriers_sdChans (s : State) (v : SMap Carrier) : (s.withCarriers v).sdChans = s.sdChans := rfl
@[simp] theorem State.withCarriers_adcSeqs (s : State) (v : SMap Carrier) : (s.withCarriers v).adcSeqs = s.adcSeqs := rfl
@[simp] theorem State.withCarriers_sense (s : State) (v : SMap Carrier) : (s.withCarriers v).sense = s.sense := rfl
@[simp] theorem State.withCarriers_axes (s : State) (v : SMap Carrier) : (s.withCarriers v).axes = s.axes := rfl
@[simp] theorem State.withCarriers_profiles (s : State) (v : SMap Carrier) : (s.withCarriers v).profiles = s.profiles := rfl
@[simp] theorem State.withCarriers_vms (s : State) (v : SMap Carrier) : (s.withCarriers v).vms = s.vms := rfl
@[simp] theorem State.withCarriers_net (s : State) (v : SMap Carrier) : (s.withCarriers v).net = s.net := rfl
@[simp] theorem State.withCarriers_binds (s : State) (v : SMap Carrier) : (s.withCarriers v).binds = s.binds := rfl
@[simp] theorem State.withCarriers_cans (s : State) (v : SMap Carrier) : (s.withCarriers v).cans = s.cans := rfl
@[simp] theorem State.withCarriers_fins (s : State) (v : SMap Carrier) : (s.withCarriers v).fins = s.fins := rfl
@[simp] theorem State.withCarriers_tel (s : State) (v : SMap Carrier) : (s.withCarriers v).tel = s.tel := rfl
@[simp] theorem State.withCarriers_ctxCopy (s : State) (v : SMap Carrier) : (s.withCarriers v).ctxCopy = s.ctxCopy := rfl
@[simp] theorem State.withCarriers_wears (s : State) (v : SMap Carrier) : (s.withCarriers v).wears = s.wears := rfl
@[simp] theorem State.withCarriers_wearQ (s : State) (v : SMap Carrier) : (s.withCarriers v).wearQ = s.wearQ := rfl
@[simp] theorem State.withCarriers_wearPart (s : State) (v : SMap Carrier) : (s.withCarriers v).wearPart = s.wearPart := rfl
@[simp] theorem State.withCarriers_weir (s : State) (v : SMap Carrier) : (s.withCarriers v).weir = s.weir := rfl
@[simp] theorem State.withCarriers_mode (s : State) (v : SMap Carrier) : (s.withCarriers v).mode = s.mode := rfl
@[simp] theorem State.withCarriers_clk (s : State) (v : SMap Carrier) : (s.withCarriers v).clk = s.clk := rfl
@[simp] theorem State.withCarriers_pins (s : State) (v : SMap Carrier) : (s.withCarriers v).pins = s.pins := rfl
@[simp] theorem State.withCarriers_free (s : State) (v : SMap Carrier) : (s.withCarriers v).free = s.free := rfl
@[simp] theorem State.withCarriers_pending (s : State) (v : SMap Carrier) : (s.withCarriers v).pending = s.pending := rfl
@[simp] theorem State.withTimers_regs (s : State) (v : SMap Timer) : (s.withTimers v).regs = s.regs := rfl
@[simp] theorem State.withTimers_mem (s : State) (v : SMap Timer) : (s.withTimers v).mem = s.mem := rfl
@[simp] theorem State.withTimers_flash (s : State) (v : SMap Timer) : (s.withTimers v).flash = s.flash := rfl
@[simp] theorem State.withTimers_chans (s : State) (v : SMap Timer) : (s.withTimers v).chans = s.chans := rfl
@[simp] theorem State.withTimers_mbxTurn (s : State) (v : SMap Timer) : (s.withTimers v).mbxTurn = s.mbxTurn := rfl
@[simp] theorem State.withTimers_sessions (s : State) (v : SMap Timer) : (s.withTimers v).sessions = s.sessions := rfl
@[simp] theorem State.withTimers_hpOut (s : State) (v : SMap Timer) : (s.withTimers v).hpOut = s.hpOut := rfl
@[simp] theorem State.withTimers_netOut (s : State) (v : SMap Timer) : (s.withTimers v).netOut = s.netOut := rfl
@[simp] theorem State.withTimers_sec (s : State) (v : SMap Timer) : (s.withTimers v).sec = s.sec := rfl
@[simp] theorem State.withTimers_groups (s : State) (v : SMap Timer) : (s.withTimers v).groups = s.groups := rfl
@[simp] theorem State.withTimers_legs (s : State) (v : SMap Timer) : (s.withTimers v).legs = s.legs := rfl
@[simp] theorem State.withTimers_scheds (s : State) (v : SMap Timer) : (s.withTimers v).scheds = s.scheds := rfl
@[simp] theorem State.withTimers_carriers (s : State) (v : SMap Timer) : (s.withTimers v).carriers = s.carriers := rfl
@[simp] theorem State.withTimers_timers (s : State) (v : SMap Timer) : (s.withTimers v).timers = v := rfl
@[simp] theorem State.withTimers_links (s : State) (v : SMap Timer) : (s.withTimers v).links = s.links := rfl
@[simp] theorem State.withTimers_engines (s : State) (v : SMap Timer) : (s.withTimers v).engines = s.engines := rfl
@[simp] theorem State.withTimers_slots (s : State) (v : SMap Timer) : (s.withTimers v).slots = s.slots := rfl
@[simp] theorem State.withTimers_tags (s : State) (v : SMap Timer) : (s.withTimers v).tags = s.tags := rfl
@[simp] theorem State.withTimers_inputs (s : State) (v : SMap Timer) : (s.withTimers v).inputs = s.inputs := rfl
@[simp] theorem State.withTimers_latches (s : State) (v : SMap Timer) : (s.withTimers v).latches = s.latches := rfl
@[simp] theorem State.withTimers_caps (s : State) (v : SMap Timer) : (s.withTimers v).caps = s.caps := rfl
@[simp] theorem State.withTimers_casc (s : State) (v : SMap Timer) : (s.withTimers v).casc = s.casc := rfl
@[simp] theorem State.withTimers_engLoad (s : State) (v : SMap Timer) : (s.withTimers v).engLoad = s.engLoad := rfl
@[simp] theorem State.withTimers_engImgs (s : State) (v : SMap Timer) : (s.withTimers v).engImgs = s.engImgs := rfl
@[simp] theorem State.withTimers_sdChans (s : State) (v : SMap Timer) : (s.withTimers v).sdChans = s.sdChans := rfl
@[simp] theorem State.withTimers_adcSeqs (s : State) (v : SMap Timer) : (s.withTimers v).adcSeqs = s.adcSeqs := rfl
@[simp] theorem State.withTimers_sense (s : State) (v : SMap Timer) : (s.withTimers v).sense = s.sense := rfl
@[simp] theorem State.withTimers_axes (s : State) (v : SMap Timer) : (s.withTimers v).axes = s.axes := rfl
@[simp] theorem State.withTimers_profiles (s : State) (v : SMap Timer) : (s.withTimers v).profiles = s.profiles := rfl
@[simp] theorem State.withTimers_vms (s : State) (v : SMap Timer) : (s.withTimers v).vms = s.vms := rfl
@[simp] theorem State.withTimers_net (s : State) (v : SMap Timer) : (s.withTimers v).net = s.net := rfl
@[simp] theorem State.withTimers_binds (s : State) (v : SMap Timer) : (s.withTimers v).binds = s.binds := rfl
@[simp] theorem State.withTimers_cans (s : State) (v : SMap Timer) : (s.withTimers v).cans = s.cans := rfl
@[simp] theorem State.withTimers_fins (s : State) (v : SMap Timer) : (s.withTimers v).fins = s.fins := rfl
@[simp] theorem State.withTimers_tel (s : State) (v : SMap Timer) : (s.withTimers v).tel = s.tel := rfl
@[simp] theorem State.withTimers_ctxCopy (s : State) (v : SMap Timer) : (s.withTimers v).ctxCopy = s.ctxCopy := rfl
@[simp] theorem State.withTimers_wears (s : State) (v : SMap Timer) : (s.withTimers v).wears = s.wears := rfl
@[simp] theorem State.withTimers_wearQ (s : State) (v : SMap Timer) : (s.withTimers v).wearQ = s.wearQ := rfl
@[simp] theorem State.withTimers_wearPart (s : State) (v : SMap Timer) : (s.withTimers v).wearPart = s.wearPart := rfl
@[simp] theorem State.withTimers_weir (s : State) (v : SMap Timer) : (s.withTimers v).weir = s.weir := rfl
@[simp] theorem State.withTimers_mode (s : State) (v : SMap Timer) : (s.withTimers v).mode = s.mode := rfl
@[simp] theorem State.withTimers_clk (s : State) (v : SMap Timer) : (s.withTimers v).clk = s.clk := rfl
@[simp] theorem State.withTimers_pins (s : State) (v : SMap Timer) : (s.withTimers v).pins = s.pins := rfl
@[simp] theorem State.withTimers_free (s : State) (v : SMap Timer) : (s.withTimers v).free = s.free := rfl
@[simp] theorem State.withTimers_pending (s : State) (v : SMap Timer) : (s.withTimers v).pending = s.pending := rfl
@[simp] theorem State.withLinks_regs (s : State) (v : SMap Link) : (s.withLinks v).regs = s.regs := rfl
@[simp] theorem State.withLinks_mem (s : State) (v : SMap Link) : (s.withLinks v).mem = s.mem := rfl
@[simp] theorem State.withLinks_flash (s : State) (v : SMap Link) : (s.withLinks v).flash = s.flash := rfl
@[simp] theorem State.withLinks_chans (s : State) (v : SMap Link) : (s.withLinks v).chans = s.chans := rfl
@[simp] theorem State.withLinks_mbxTurn (s : State) (v : SMap Link) : (s.withLinks v).mbxTurn = s.mbxTurn := rfl
@[simp] theorem State.withLinks_sessions (s : State) (v : SMap Link) : (s.withLinks v).sessions = s.sessions := rfl
@[simp] theorem State.withLinks_hpOut (s : State) (v : SMap Link) : (s.withLinks v).hpOut = s.hpOut := rfl
@[simp] theorem State.withLinks_netOut (s : State) (v : SMap Link) : (s.withLinks v).netOut = s.netOut := rfl
@[simp] theorem State.withLinks_sec (s : State) (v : SMap Link) : (s.withLinks v).sec = s.sec := rfl
@[simp] theorem State.withLinks_groups (s : State) (v : SMap Link) : (s.withLinks v).groups = s.groups := rfl
@[simp] theorem State.withLinks_legs (s : State) (v : SMap Link) : (s.withLinks v).legs = s.legs := rfl
@[simp] theorem State.withLinks_scheds (s : State) (v : SMap Link) : (s.withLinks v).scheds = s.scheds := rfl
@[simp] theorem State.withLinks_carriers (s : State) (v : SMap Link) : (s.withLinks v).carriers = s.carriers := rfl
@[simp] theorem State.withLinks_timers (s : State) (v : SMap Link) : (s.withLinks v).timers = s.timers := rfl
@[simp] theorem State.withLinks_links (s : State) (v : SMap Link) : (s.withLinks v).links = v := rfl
@[simp] theorem State.withLinks_engines (s : State) (v : SMap Link) : (s.withLinks v).engines = s.engines := rfl
@[simp] theorem State.withLinks_slots (s : State) (v : SMap Link) : (s.withLinks v).slots = s.slots := rfl
@[simp] theorem State.withLinks_tags (s : State) (v : SMap Link) : (s.withLinks v).tags = s.tags := rfl
@[simp] theorem State.withLinks_inputs (s : State) (v : SMap Link) : (s.withLinks v).inputs = s.inputs := rfl
@[simp] theorem State.withLinks_latches (s : State) (v : SMap Link) : (s.withLinks v).latches = s.latches := rfl
@[simp] theorem State.withLinks_caps (s : State) (v : SMap Link) : (s.withLinks v).caps = s.caps := rfl
@[simp] theorem State.withLinks_casc (s : State) (v : SMap Link) : (s.withLinks v).casc = s.casc := rfl
@[simp] theorem State.withLinks_engLoad (s : State) (v : SMap Link) : (s.withLinks v).engLoad = s.engLoad := rfl
@[simp] theorem State.withLinks_engImgs (s : State) (v : SMap Link) : (s.withLinks v).engImgs = s.engImgs := rfl
@[simp] theorem State.withLinks_sdChans (s : State) (v : SMap Link) : (s.withLinks v).sdChans = s.sdChans := rfl
@[simp] theorem State.withLinks_adcSeqs (s : State) (v : SMap Link) : (s.withLinks v).adcSeqs = s.adcSeqs := rfl
@[simp] theorem State.withLinks_sense (s : State) (v : SMap Link) : (s.withLinks v).sense = s.sense := rfl
@[simp] theorem State.withLinks_axes (s : State) (v : SMap Link) : (s.withLinks v).axes = s.axes := rfl
@[simp] theorem State.withLinks_profiles (s : State) (v : SMap Link) : (s.withLinks v).profiles = s.profiles := rfl
@[simp] theorem State.withLinks_vms (s : State) (v : SMap Link) : (s.withLinks v).vms = s.vms := rfl
@[simp] theorem State.withLinks_net (s : State) (v : SMap Link) : (s.withLinks v).net = s.net := rfl
@[simp] theorem State.withLinks_binds (s : State) (v : SMap Link) : (s.withLinks v).binds = s.binds := rfl
@[simp] theorem State.withLinks_cans (s : State) (v : SMap Link) : (s.withLinks v).cans = s.cans := rfl
@[simp] theorem State.withLinks_fins (s : State) (v : SMap Link) : (s.withLinks v).fins = s.fins := rfl
@[simp] theorem State.withLinks_tel (s : State) (v : SMap Link) : (s.withLinks v).tel = s.tel := rfl
@[simp] theorem State.withLinks_ctxCopy (s : State) (v : SMap Link) : (s.withLinks v).ctxCopy = s.ctxCopy := rfl
@[simp] theorem State.withLinks_wears (s : State) (v : SMap Link) : (s.withLinks v).wears = s.wears := rfl
@[simp] theorem State.withLinks_wearQ (s : State) (v : SMap Link) : (s.withLinks v).wearQ = s.wearQ := rfl
@[simp] theorem State.withLinks_wearPart (s : State) (v : SMap Link) : (s.withLinks v).wearPart = s.wearPart := rfl
@[simp] theorem State.withLinks_weir (s : State) (v : SMap Link) : (s.withLinks v).weir = s.weir := rfl
@[simp] theorem State.withLinks_mode (s : State) (v : SMap Link) : (s.withLinks v).mode = s.mode := rfl
@[simp] theorem State.withLinks_clk (s : State) (v : SMap Link) : (s.withLinks v).clk = s.clk := rfl
@[simp] theorem State.withLinks_pins (s : State) (v : SMap Link) : (s.withLinks v).pins = s.pins := rfl
@[simp] theorem State.withLinks_free (s : State) (v : SMap Link) : (s.withLinks v).free = s.free := rfl
@[simp] theorem State.withLinks_pending (s : State) (v : SMap Link) : (s.withLinks v).pending = s.pending := rfl
@[simp] theorem State.withEngines_regs (s : State) (v : SMap Engine) : (s.withEngines v).regs = s.regs := rfl
@[simp] theorem State.withEngines_mem (s : State) (v : SMap Engine) : (s.withEngines v).mem = s.mem := rfl
@[simp] theorem State.withEngines_flash (s : State) (v : SMap Engine) : (s.withEngines v).flash = s.flash := rfl
@[simp] theorem State.withEngines_chans (s : State) (v : SMap Engine) : (s.withEngines v).chans = s.chans := rfl
@[simp] theorem State.withEngines_mbxTurn (s : State) (v : SMap Engine) : (s.withEngines v).mbxTurn = s.mbxTurn := rfl
@[simp] theorem State.withEngines_sessions (s : State) (v : SMap Engine) : (s.withEngines v).sessions = s.sessions := rfl
@[simp] theorem State.withEngines_hpOut (s : State) (v : SMap Engine) : (s.withEngines v).hpOut = s.hpOut := rfl
@[simp] theorem State.withEngines_netOut (s : State) (v : SMap Engine) : (s.withEngines v).netOut = s.netOut := rfl
@[simp] theorem State.withEngines_sec (s : State) (v : SMap Engine) : (s.withEngines v).sec = s.sec := rfl
@[simp] theorem State.withEngines_groups (s : State) (v : SMap Engine) : (s.withEngines v).groups = s.groups := rfl
@[simp] theorem State.withEngines_legs (s : State) (v : SMap Engine) : (s.withEngines v).legs = s.legs := rfl
@[simp] theorem State.withEngines_scheds (s : State) (v : SMap Engine) : (s.withEngines v).scheds = s.scheds := rfl
@[simp] theorem State.withEngines_carriers (s : State) (v : SMap Engine) : (s.withEngines v).carriers = s.carriers := rfl
@[simp] theorem State.withEngines_timers (s : State) (v : SMap Engine) : (s.withEngines v).timers = s.timers := rfl
@[simp] theorem State.withEngines_links (s : State) (v : SMap Engine) : (s.withEngines v).links = s.links := rfl
@[simp] theorem State.withEngines_engines (s : State) (v : SMap Engine) : (s.withEngines v).engines = v := rfl
@[simp] theorem State.withEngines_slots (s : State) (v : SMap Engine) : (s.withEngines v).slots = s.slots := rfl
@[simp] theorem State.withEngines_tags (s : State) (v : SMap Engine) : (s.withEngines v).tags = s.tags := rfl
@[simp] theorem State.withEngines_inputs (s : State) (v : SMap Engine) : (s.withEngines v).inputs = s.inputs := rfl
@[simp] theorem State.withEngines_latches (s : State) (v : SMap Engine) : (s.withEngines v).latches = s.latches := rfl
@[simp] theorem State.withEngines_caps (s : State) (v : SMap Engine) : (s.withEngines v).caps = s.caps := rfl
@[simp] theorem State.withEngines_casc (s : State) (v : SMap Engine) : (s.withEngines v).casc = s.casc := rfl
@[simp] theorem State.withEngines_engLoad (s : State) (v : SMap Engine) : (s.withEngines v).engLoad = s.engLoad := rfl
@[simp] theorem State.withEngines_engImgs (s : State) (v : SMap Engine) : (s.withEngines v).engImgs = s.engImgs := rfl
@[simp] theorem State.withEngines_sdChans (s : State) (v : SMap Engine) : (s.withEngines v).sdChans = s.sdChans := rfl
@[simp] theorem State.withEngines_adcSeqs (s : State) (v : SMap Engine) : (s.withEngines v).adcSeqs = s.adcSeqs := rfl
@[simp] theorem State.withEngines_sense (s : State) (v : SMap Engine) : (s.withEngines v).sense = s.sense := rfl
@[simp] theorem State.withEngines_axes (s : State) (v : SMap Engine) : (s.withEngines v).axes = s.axes := rfl
@[simp] theorem State.withEngines_profiles (s : State) (v : SMap Engine) : (s.withEngines v).profiles = s.profiles := rfl
@[simp] theorem State.withEngines_vms (s : State) (v : SMap Engine) : (s.withEngines v).vms = s.vms := rfl
@[simp] theorem State.withEngines_net (s : State) (v : SMap Engine) : (s.withEngines v).net = s.net := rfl
@[simp] theorem State.withEngines_binds (s : State) (v : SMap Engine) : (s.withEngines v).binds = s.binds := rfl
@[simp] theorem State.withEngines_cans (s : State) (v : SMap Engine) : (s.withEngines v).cans = s.cans := rfl
@[simp] theorem State.withEngines_fins (s : State) (v : SMap Engine) : (s.withEngines v).fins = s.fins := rfl
@[simp] theorem State.withEngines_tel (s : State) (v : SMap Engine) : (s.withEngines v).tel = s.tel := rfl
@[simp] theorem State.withEngines_ctxCopy (s : State) (v : SMap Engine) : (s.withEngines v).ctxCopy = s.ctxCopy := rfl
@[simp] theorem State.withEngines_wears (s : State) (v : SMap Engine) : (s.withEngines v).wears = s.wears := rfl
@[simp] theorem State.withEngines_wearQ (s : State) (v : SMap Engine) : (s.withEngines v).wearQ = s.wearQ := rfl
@[simp] theorem State.withEngines_wearPart (s : State) (v : SMap Engine) : (s.withEngines v).wearPart = s.wearPart := rfl
@[simp] theorem State.withEngines_weir (s : State) (v : SMap Engine) : (s.withEngines v).weir = s.weir := rfl
@[simp] theorem State.withEngines_mode (s : State) (v : SMap Engine) : (s.withEngines v).mode = s.mode := rfl
@[simp] theorem State.withEngines_clk (s : State) (v : SMap Engine) : (s.withEngines v).clk = s.clk := rfl
@[simp] theorem State.withEngines_pins (s : State) (v : SMap Engine) : (s.withEngines v).pins = s.pins := rfl
@[simp] theorem State.withEngines_free (s : State) (v : SMap Engine) : (s.withEngines v).free = s.free := rfl
@[simp] theorem State.withEngines_pending (s : State) (v : SMap Engine) : (s.withEngines v).pending = s.pending := rfl
@[simp] theorem State.withSlots_regs (s : State) (v : SMap Slot) : (s.withSlots v).regs = s.regs := rfl
@[simp] theorem State.withSlots_mem (s : State) (v : SMap Slot) : (s.withSlots v).mem = s.mem := rfl
@[simp] theorem State.withSlots_flash (s : State) (v : SMap Slot) : (s.withSlots v).flash = s.flash := rfl
@[simp] theorem State.withSlots_chans (s : State) (v : SMap Slot) : (s.withSlots v).chans = s.chans := rfl
@[simp] theorem State.withSlots_mbxTurn (s : State) (v : SMap Slot) : (s.withSlots v).mbxTurn = s.mbxTurn := rfl
@[simp] theorem State.withSlots_sessions (s : State) (v : SMap Slot) : (s.withSlots v).sessions = s.sessions := rfl
@[simp] theorem State.withSlots_hpOut (s : State) (v : SMap Slot) : (s.withSlots v).hpOut = s.hpOut := rfl
@[simp] theorem State.withSlots_netOut (s : State) (v : SMap Slot) : (s.withSlots v).netOut = s.netOut := rfl
@[simp] theorem State.withSlots_sec (s : State) (v : SMap Slot) : (s.withSlots v).sec = s.sec := rfl
@[simp] theorem State.withSlots_groups (s : State) (v : SMap Slot) : (s.withSlots v).groups = s.groups := rfl
@[simp] theorem State.withSlots_legs (s : State) (v : SMap Slot) : (s.withSlots v).legs = s.legs := rfl
@[simp] theorem State.withSlots_scheds (s : State) (v : SMap Slot) : (s.withSlots v).scheds = s.scheds := rfl
@[simp] theorem State.withSlots_carriers (s : State) (v : SMap Slot) : (s.withSlots v).carriers = s.carriers := rfl
@[simp] theorem State.withSlots_timers (s : State) (v : SMap Slot) : (s.withSlots v).timers = s.timers := rfl
@[simp] theorem State.withSlots_links (s : State) (v : SMap Slot) : (s.withSlots v).links = s.links := rfl
@[simp] theorem State.withSlots_engines (s : State) (v : SMap Slot) : (s.withSlots v).engines = s.engines := rfl
@[simp] theorem State.withSlots_slots (s : State) (v : SMap Slot) : (s.withSlots v).slots = v := rfl
@[simp] theorem State.withSlots_tags (s : State) (v : SMap Slot) : (s.withSlots v).tags = s.tags := rfl
@[simp] theorem State.withSlots_inputs (s : State) (v : SMap Slot) : (s.withSlots v).inputs = s.inputs := rfl
@[simp] theorem State.withSlots_latches (s : State) (v : SMap Slot) : (s.withSlots v).latches = s.latches := rfl
@[simp] theorem State.withSlots_caps (s : State) (v : SMap Slot) : (s.withSlots v).caps = s.caps := rfl
@[simp] theorem State.withSlots_casc (s : State) (v : SMap Slot) : (s.withSlots v).casc = s.casc := rfl
@[simp] theorem State.withSlots_engLoad (s : State) (v : SMap Slot) : (s.withSlots v).engLoad = s.engLoad := rfl
@[simp] theorem State.withSlots_engImgs (s : State) (v : SMap Slot) : (s.withSlots v).engImgs = s.engImgs := rfl
@[simp] theorem State.withSlots_sdChans (s : State) (v : SMap Slot) : (s.withSlots v).sdChans = s.sdChans := rfl
@[simp] theorem State.withSlots_adcSeqs (s : State) (v : SMap Slot) : (s.withSlots v).adcSeqs = s.adcSeqs := rfl
@[simp] theorem State.withSlots_sense (s : State) (v : SMap Slot) : (s.withSlots v).sense = s.sense := rfl
@[simp] theorem State.withSlots_axes (s : State) (v : SMap Slot) : (s.withSlots v).axes = s.axes := rfl
@[simp] theorem State.withSlots_profiles (s : State) (v : SMap Slot) : (s.withSlots v).profiles = s.profiles := rfl
@[simp] theorem State.withSlots_vms (s : State) (v : SMap Slot) : (s.withSlots v).vms = s.vms := rfl
@[simp] theorem State.withSlots_net (s : State) (v : SMap Slot) : (s.withSlots v).net = s.net := rfl
@[simp] theorem State.withSlots_binds (s : State) (v : SMap Slot) : (s.withSlots v).binds = s.binds := rfl
@[simp] theorem State.withSlots_cans (s : State) (v : SMap Slot) : (s.withSlots v).cans = s.cans := rfl
@[simp] theorem State.withSlots_fins (s : State) (v : SMap Slot) : (s.withSlots v).fins = s.fins := rfl
@[simp] theorem State.withSlots_tel (s : State) (v : SMap Slot) : (s.withSlots v).tel = s.tel := rfl
@[simp] theorem State.withSlots_ctxCopy (s : State) (v : SMap Slot) : (s.withSlots v).ctxCopy = s.ctxCopy := rfl
@[simp] theorem State.withSlots_wears (s : State) (v : SMap Slot) : (s.withSlots v).wears = s.wears := rfl
@[simp] theorem State.withSlots_wearQ (s : State) (v : SMap Slot) : (s.withSlots v).wearQ = s.wearQ := rfl
@[simp] theorem State.withSlots_wearPart (s : State) (v : SMap Slot) : (s.withSlots v).wearPart = s.wearPart := rfl
@[simp] theorem State.withSlots_weir (s : State) (v : SMap Slot) : (s.withSlots v).weir = s.weir := rfl
@[simp] theorem State.withSlots_mode (s : State) (v : SMap Slot) : (s.withSlots v).mode = s.mode := rfl
@[simp] theorem State.withSlots_clk (s : State) (v : SMap Slot) : (s.withSlots v).clk = s.clk := rfl
@[simp] theorem State.withSlots_pins (s : State) (v : SMap Slot) : (s.withSlots v).pins = s.pins := rfl
@[simp] theorem State.withSlots_free (s : State) (v : SMap Slot) : (s.withSlots v).free = s.free := rfl
@[simp] theorem State.withSlots_pending (s : State) (v : SMap Slot) : (s.withSlots v).pending = s.pending := rfl
@[simp] theorem State.withTags_regs (s : State) (v : Tags) : (s.withTags v).regs = s.regs := rfl
@[simp] theorem State.withTags_mem (s : State) (v : Tags) : (s.withTags v).mem = s.mem := rfl
@[simp] theorem State.withTags_flash (s : State) (v : Tags) : (s.withTags v).flash = s.flash := rfl
@[simp] theorem State.withTags_chans (s : State) (v : Tags) : (s.withTags v).chans = s.chans := rfl
@[simp] theorem State.withTags_mbxTurn (s : State) (v : Tags) : (s.withTags v).mbxTurn = s.mbxTurn := rfl
@[simp] theorem State.withTags_sessions (s : State) (v : Tags) : (s.withTags v).sessions = s.sessions := rfl
@[simp] theorem State.withTags_hpOut (s : State) (v : Tags) : (s.withTags v).hpOut = s.hpOut := rfl
@[simp] theorem State.withTags_netOut (s : State) (v : Tags) : (s.withTags v).netOut = s.netOut := rfl
@[simp] theorem State.withTags_sec (s : State) (v : Tags) : (s.withTags v).sec = s.sec := rfl
@[simp] theorem State.withTags_groups (s : State) (v : Tags) : (s.withTags v).groups = s.groups := rfl
@[simp] theorem State.withTags_legs (s : State) (v : Tags) : (s.withTags v).legs = s.legs := rfl
@[simp] theorem State.withTags_scheds (s : State) (v : Tags) : (s.withTags v).scheds = s.scheds := rfl
@[simp] theorem State.withTags_carriers (s : State) (v : Tags) : (s.withTags v).carriers = s.carriers := rfl
@[simp] theorem State.withTags_timers (s : State) (v : Tags) : (s.withTags v).timers = s.timers := rfl
@[simp] theorem State.withTags_links (s : State) (v : Tags) : (s.withTags v).links = s.links := rfl
@[simp] theorem State.withTags_engines (s : State) (v : Tags) : (s.withTags v).engines = s.engines := rfl
@[simp] theorem State.withTags_slots (s : State) (v : Tags) : (s.withTags v).slots = s.slots := rfl
@[simp] theorem State.withTags_tags (s : State) (v : Tags) : (s.withTags v).tags = v := rfl
@[simp] theorem State.withTags_inputs (s : State) (v : Tags) : (s.withTags v).inputs = s.inputs := rfl
@[simp] theorem State.withTags_latches (s : State) (v : Tags) : (s.withTags v).latches = s.latches := rfl
@[simp] theorem State.withTags_caps (s : State) (v : Tags) : (s.withTags v).caps = s.caps := rfl
@[simp] theorem State.withTags_casc (s : State) (v : Tags) : (s.withTags v).casc = s.casc := rfl
@[simp] theorem State.withTags_engLoad (s : State) (v : Tags) : (s.withTags v).engLoad = s.engLoad := rfl
@[simp] theorem State.withTags_engImgs (s : State) (v : Tags) : (s.withTags v).engImgs = s.engImgs := rfl
@[simp] theorem State.withTags_sdChans (s : State) (v : Tags) : (s.withTags v).sdChans = s.sdChans := rfl
@[simp] theorem State.withTags_adcSeqs (s : State) (v : Tags) : (s.withTags v).adcSeqs = s.adcSeqs := rfl
@[simp] theorem State.withTags_sense (s : State) (v : Tags) : (s.withTags v).sense = s.sense := rfl
@[simp] theorem State.withTags_axes (s : State) (v : Tags) : (s.withTags v).axes = s.axes := rfl
@[simp] theorem State.withTags_profiles (s : State) (v : Tags) : (s.withTags v).profiles = s.profiles := rfl
@[simp] theorem State.withTags_vms (s : State) (v : Tags) : (s.withTags v).vms = s.vms := rfl
@[simp] theorem State.withTags_net (s : State) (v : Tags) : (s.withTags v).net = s.net := rfl
@[simp] theorem State.withTags_binds (s : State) (v : Tags) : (s.withTags v).binds = s.binds := rfl
@[simp] theorem State.withTags_cans (s : State) (v : Tags) : (s.withTags v).cans = s.cans := rfl
@[simp] theorem State.withTags_fins (s : State) (v : Tags) : (s.withTags v).fins = s.fins := rfl
@[simp] theorem State.withTags_tel (s : State) (v : Tags) : (s.withTags v).tel = s.tel := rfl
@[simp] theorem State.withTags_ctxCopy (s : State) (v : Tags) : (s.withTags v).ctxCopy = s.ctxCopy := rfl
@[simp] theorem State.withTags_wears (s : State) (v : Tags) : (s.withTags v).wears = s.wears := rfl
@[simp] theorem State.withTags_wearQ (s : State) (v : Tags) : (s.withTags v).wearQ = s.wearQ := rfl
@[simp] theorem State.withTags_wearPart (s : State) (v : Tags) : (s.withTags v).wearPart = s.wearPart := rfl
@[simp] theorem State.withTags_weir (s : State) (v : Tags) : (s.withTags v).weir = s.weir := rfl
@[simp] theorem State.withTags_mode (s : State) (v : Tags) : (s.withTags v).mode = s.mode := rfl
@[simp] theorem State.withTags_clk (s : State) (v : Tags) : (s.withTags v).clk = s.clk := rfl
@[simp] theorem State.withTags_pins (s : State) (v : Tags) : (s.withTags v).pins = s.pins := rfl
@[simp] theorem State.withTags_free (s : State) (v : Tags) : (s.withTags v).free = s.free := rfl
@[simp] theorem State.withTags_pending (s : State) (v : Tags) : (s.withTags v).pending = s.pending := rfl
@[simp] theorem State.withInputs_regs (s : State) (v : SMap Word) : (s.withInputs v).regs = s.regs := rfl
@[simp] theorem State.withInputs_mem (s : State) (v : SMap Word) : (s.withInputs v).mem = s.mem := rfl
@[simp] theorem State.withInputs_flash (s : State) (v : SMap Word) : (s.withInputs v).flash = s.flash := rfl
@[simp] theorem State.withInputs_chans (s : State) (v : SMap Word) : (s.withInputs v).chans = s.chans := rfl
@[simp] theorem State.withInputs_mbxTurn (s : State) (v : SMap Word) : (s.withInputs v).mbxTurn = s.mbxTurn := rfl
@[simp] theorem State.withInputs_sessions (s : State) (v : SMap Word) : (s.withInputs v).sessions = s.sessions := rfl
@[simp] theorem State.withInputs_hpOut (s : State) (v : SMap Word) : (s.withInputs v).hpOut = s.hpOut := rfl
@[simp] theorem State.withInputs_netOut (s : State) (v : SMap Word) : (s.withInputs v).netOut = s.netOut := rfl
@[simp] theorem State.withInputs_sec (s : State) (v : SMap Word) : (s.withInputs v).sec = s.sec := rfl
@[simp] theorem State.withInputs_groups (s : State) (v : SMap Word) : (s.withInputs v).groups = s.groups := rfl
@[simp] theorem State.withInputs_legs (s : State) (v : SMap Word) : (s.withInputs v).legs = s.legs := rfl
@[simp] theorem State.withInputs_scheds (s : State) (v : SMap Word) : (s.withInputs v).scheds = s.scheds := rfl
@[simp] theorem State.withInputs_carriers (s : State) (v : SMap Word) : (s.withInputs v).carriers = s.carriers := rfl
@[simp] theorem State.withInputs_timers (s : State) (v : SMap Word) : (s.withInputs v).timers = s.timers := rfl
@[simp] theorem State.withInputs_links (s : State) (v : SMap Word) : (s.withInputs v).links = s.links := rfl
@[simp] theorem State.withInputs_engines (s : State) (v : SMap Word) : (s.withInputs v).engines = s.engines := rfl
@[simp] theorem State.withInputs_slots (s : State) (v : SMap Word) : (s.withInputs v).slots = s.slots := rfl
@[simp] theorem State.withInputs_tags (s : State) (v : SMap Word) : (s.withInputs v).tags = s.tags := rfl
@[simp] theorem State.withInputs_inputs (s : State) (v : SMap Word) : (s.withInputs v).inputs = v := rfl
@[simp] theorem State.withInputs_latches (s : State) (v : SMap Word) : (s.withInputs v).latches = s.latches := rfl
@[simp] theorem State.withInputs_caps (s : State) (v : SMap Word) : (s.withInputs v).caps = s.caps := rfl
@[simp] theorem State.withInputs_casc (s : State) (v : SMap Word) : (s.withInputs v).casc = s.casc := rfl
@[simp] theorem State.withInputs_engLoad (s : State) (v : SMap Word) : (s.withInputs v).engLoad = s.engLoad := rfl
@[simp] theorem State.withInputs_engImgs (s : State) (v : SMap Word) : (s.withInputs v).engImgs = s.engImgs := rfl
@[simp] theorem State.withInputs_sdChans (s : State) (v : SMap Word) : (s.withInputs v).sdChans = s.sdChans := rfl
@[simp] theorem State.withInputs_adcSeqs (s : State) (v : SMap Word) : (s.withInputs v).adcSeqs = s.adcSeqs := rfl
@[simp] theorem State.withInputs_sense (s : State) (v : SMap Word) : (s.withInputs v).sense = s.sense := rfl
@[simp] theorem State.withInputs_axes (s : State) (v : SMap Word) : (s.withInputs v).axes = s.axes := rfl
@[simp] theorem State.withInputs_profiles (s : State) (v : SMap Word) : (s.withInputs v).profiles = s.profiles := rfl
@[simp] theorem State.withInputs_vms (s : State) (v : SMap Word) : (s.withInputs v).vms = s.vms := rfl
@[simp] theorem State.withInputs_net (s : State) (v : SMap Word) : (s.withInputs v).net = s.net := rfl
@[simp] theorem State.withInputs_binds (s : State) (v : SMap Word) : (s.withInputs v).binds = s.binds := rfl
@[simp] theorem State.withInputs_cans (s : State) (v : SMap Word) : (s.withInputs v).cans = s.cans := rfl
@[simp] theorem State.withInputs_fins (s : State) (v : SMap Word) : (s.withInputs v).fins = s.fins := rfl
@[simp] theorem State.withInputs_tel (s : State) (v : SMap Word) : (s.withInputs v).tel = s.tel := rfl
@[simp] theorem State.withInputs_ctxCopy (s : State) (v : SMap Word) : (s.withInputs v).ctxCopy = s.ctxCopy := rfl
@[simp] theorem State.withInputs_wears (s : State) (v : SMap Word) : (s.withInputs v).wears = s.wears := rfl
@[simp] theorem State.withInputs_wearQ (s : State) (v : SMap Word) : (s.withInputs v).wearQ = s.wearQ := rfl
@[simp] theorem State.withInputs_wearPart (s : State) (v : SMap Word) : (s.withInputs v).wearPart = s.wearPart := rfl
@[simp] theorem State.withInputs_weir (s : State) (v : SMap Word) : (s.withInputs v).weir = s.weir := rfl
@[simp] theorem State.withInputs_mode (s : State) (v : SMap Word) : (s.withInputs v).mode = s.mode := rfl
@[simp] theorem State.withInputs_clk (s : State) (v : SMap Word) : (s.withInputs v).clk = s.clk := rfl
@[simp] theorem State.withInputs_pins (s : State) (v : SMap Word) : (s.withInputs v).pins = s.pins := rfl
@[simp] theorem State.withInputs_free (s : State) (v : SMap Word) : (s.withInputs v).free = s.free := rfl
@[simp] theorem State.withInputs_pending (s : State) (v : SMap Word) : (s.withInputs v).pending = s.pending := rfl
@[simp] theorem State.withLatches_regs (s : State) (v : SMap Word) : (s.withLatches v).regs = s.regs := rfl
@[simp] theorem State.withLatches_mem (s : State) (v : SMap Word) : (s.withLatches v).mem = s.mem := rfl
@[simp] theorem State.withLatches_flash (s : State) (v : SMap Word) : (s.withLatches v).flash = s.flash := rfl
@[simp] theorem State.withLatches_chans (s : State) (v : SMap Word) : (s.withLatches v).chans = s.chans := rfl
@[simp] theorem State.withLatches_mbxTurn (s : State) (v : SMap Word) : (s.withLatches v).mbxTurn = s.mbxTurn := rfl
@[simp] theorem State.withLatches_sessions (s : State) (v : SMap Word) : (s.withLatches v).sessions = s.sessions := rfl
@[simp] theorem State.withLatches_hpOut (s : State) (v : SMap Word) : (s.withLatches v).hpOut = s.hpOut := rfl
@[simp] theorem State.withLatches_netOut (s : State) (v : SMap Word) : (s.withLatches v).netOut = s.netOut := rfl
@[simp] theorem State.withLatches_sec (s : State) (v : SMap Word) : (s.withLatches v).sec = s.sec := rfl
@[simp] theorem State.withLatches_groups (s : State) (v : SMap Word) : (s.withLatches v).groups = s.groups := rfl
@[simp] theorem State.withLatches_legs (s : State) (v : SMap Word) : (s.withLatches v).legs = s.legs := rfl
@[simp] theorem State.withLatches_scheds (s : State) (v : SMap Word) : (s.withLatches v).scheds = s.scheds := rfl
@[simp] theorem State.withLatches_carriers (s : State) (v : SMap Word) : (s.withLatches v).carriers = s.carriers := rfl
@[simp] theorem State.withLatches_timers (s : State) (v : SMap Word) : (s.withLatches v).timers = s.timers := rfl
@[simp] theorem State.withLatches_links (s : State) (v : SMap Word) : (s.withLatches v).links = s.links := rfl
@[simp] theorem State.withLatches_engines (s : State) (v : SMap Word) : (s.withLatches v).engines = s.engines := rfl
@[simp] theorem State.withLatches_slots (s : State) (v : SMap Word) : (s.withLatches v).slots = s.slots := rfl
@[simp] theorem State.withLatches_tags (s : State) (v : SMap Word) : (s.withLatches v).tags = s.tags := rfl
@[simp] theorem State.withLatches_inputs (s : State) (v : SMap Word) : (s.withLatches v).inputs = s.inputs := rfl
@[simp] theorem State.withLatches_latches (s : State) (v : SMap Word) : (s.withLatches v).latches = v := rfl
@[simp] theorem State.withLatches_caps (s : State) (v : SMap Word) : (s.withLatches v).caps = s.caps := rfl
@[simp] theorem State.withLatches_casc (s : State) (v : SMap Word) : (s.withLatches v).casc = s.casc := rfl
@[simp] theorem State.withLatches_engLoad (s : State) (v : SMap Word) : (s.withLatches v).engLoad = s.engLoad := rfl
@[simp] theorem State.withLatches_engImgs (s : State) (v : SMap Word) : (s.withLatches v).engImgs = s.engImgs := rfl
@[simp] theorem State.withLatches_sdChans (s : State) (v : SMap Word) : (s.withLatches v).sdChans = s.sdChans := rfl
@[simp] theorem State.withLatches_adcSeqs (s : State) (v : SMap Word) : (s.withLatches v).adcSeqs = s.adcSeqs := rfl
@[simp] theorem State.withLatches_sense (s : State) (v : SMap Word) : (s.withLatches v).sense = s.sense := rfl
@[simp] theorem State.withLatches_axes (s : State) (v : SMap Word) : (s.withLatches v).axes = s.axes := rfl
@[simp] theorem State.withLatches_profiles (s : State) (v : SMap Word) : (s.withLatches v).profiles = s.profiles := rfl
@[simp] theorem State.withLatches_vms (s : State) (v : SMap Word) : (s.withLatches v).vms = s.vms := rfl
@[simp] theorem State.withLatches_net (s : State) (v : SMap Word) : (s.withLatches v).net = s.net := rfl
@[simp] theorem State.withLatches_binds (s : State) (v : SMap Word) : (s.withLatches v).binds = s.binds := rfl
@[simp] theorem State.withLatches_cans (s : State) (v : SMap Word) : (s.withLatches v).cans = s.cans := rfl
@[simp] theorem State.withLatches_fins (s : State) (v : SMap Word) : (s.withLatches v).fins = s.fins := rfl
@[simp] theorem State.withLatches_tel (s : State) (v : SMap Word) : (s.withLatches v).tel = s.tel := rfl
@[simp] theorem State.withLatches_ctxCopy (s : State) (v : SMap Word) : (s.withLatches v).ctxCopy = s.ctxCopy := rfl
@[simp] theorem State.withLatches_wears (s : State) (v : SMap Word) : (s.withLatches v).wears = s.wears := rfl
@[simp] theorem State.withLatches_wearQ (s : State) (v : SMap Word) : (s.withLatches v).wearQ = s.wearQ := rfl
@[simp] theorem State.withLatches_wearPart (s : State) (v : SMap Word) : (s.withLatches v).wearPart = s.wearPart := rfl
@[simp] theorem State.withLatches_weir (s : State) (v : SMap Word) : (s.withLatches v).weir = s.weir := rfl
@[simp] theorem State.withLatches_mode (s : State) (v : SMap Word) : (s.withLatches v).mode = s.mode := rfl
@[simp] theorem State.withLatches_clk (s : State) (v : SMap Word) : (s.withLatches v).clk = s.clk := rfl
@[simp] theorem State.withLatches_pins (s : State) (v : SMap Word) : (s.withLatches v).pins = s.pins := rfl
@[simp] theorem State.withLatches_free (s : State) (v : SMap Word) : (s.withLatches v).free = s.free := rfl
@[simp] theorem State.withLatches_pending (s : State) (v : SMap Word) : (s.withLatches v).pending = s.pending := rfl
@[simp] theorem State.withCaps_regs (s : State) (v : SMap CapSet) : (s.withCaps v).regs = s.regs := rfl
@[simp] theorem State.withCaps_mem (s : State) (v : SMap CapSet) : (s.withCaps v).mem = s.mem := rfl
@[simp] theorem State.withCaps_flash (s : State) (v : SMap CapSet) : (s.withCaps v).flash = s.flash := rfl
@[simp] theorem State.withCaps_chans (s : State) (v : SMap CapSet) : (s.withCaps v).chans = s.chans := rfl
@[simp] theorem State.withCaps_mbxTurn (s : State) (v : SMap CapSet) : (s.withCaps v).mbxTurn = s.mbxTurn := rfl
@[simp] theorem State.withCaps_sessions (s : State) (v : SMap CapSet) : (s.withCaps v).sessions = s.sessions := rfl
@[simp] theorem State.withCaps_hpOut (s : State) (v : SMap CapSet) : (s.withCaps v).hpOut = s.hpOut := rfl
@[simp] theorem State.withCaps_netOut (s : State) (v : SMap CapSet) : (s.withCaps v).netOut = s.netOut := rfl
@[simp] theorem State.withCaps_sec (s : State) (v : SMap CapSet) : (s.withCaps v).sec = s.sec := rfl
@[simp] theorem State.withCaps_groups (s : State) (v : SMap CapSet) : (s.withCaps v).groups = s.groups := rfl
@[simp] theorem State.withCaps_legs (s : State) (v : SMap CapSet) : (s.withCaps v).legs = s.legs := rfl
@[simp] theorem State.withCaps_scheds (s : State) (v : SMap CapSet) : (s.withCaps v).scheds = s.scheds := rfl
@[simp] theorem State.withCaps_carriers (s : State) (v : SMap CapSet) : (s.withCaps v).carriers = s.carriers := rfl
@[simp] theorem State.withCaps_timers (s : State) (v : SMap CapSet) : (s.withCaps v).timers = s.timers := rfl
@[simp] theorem State.withCaps_links (s : State) (v : SMap CapSet) : (s.withCaps v).links = s.links := rfl
@[simp] theorem State.withCaps_engines (s : State) (v : SMap CapSet) : (s.withCaps v).engines = s.engines := rfl
@[simp] theorem State.withCaps_slots (s : State) (v : SMap CapSet) : (s.withCaps v).slots = s.slots := rfl
@[simp] theorem State.withCaps_tags (s : State) (v : SMap CapSet) : (s.withCaps v).tags = s.tags := rfl
@[simp] theorem State.withCaps_inputs (s : State) (v : SMap CapSet) : (s.withCaps v).inputs = s.inputs := rfl
@[simp] theorem State.withCaps_latches (s : State) (v : SMap CapSet) : (s.withCaps v).latches = s.latches := rfl
@[simp] theorem State.withCaps_caps (s : State) (v : SMap CapSet) : (s.withCaps v).caps = v := rfl
@[simp] theorem State.withCaps_casc (s : State) (v : SMap CapSet) : (s.withCaps v).casc = s.casc := rfl
@[simp] theorem State.withCaps_engLoad (s : State) (v : SMap CapSet) : (s.withCaps v).engLoad = s.engLoad := rfl
@[simp] theorem State.withCaps_engImgs (s : State) (v : SMap CapSet) : (s.withCaps v).engImgs = s.engImgs := rfl
@[simp] theorem State.withCaps_sdChans (s : State) (v : SMap CapSet) : (s.withCaps v).sdChans = s.sdChans := rfl
@[simp] theorem State.withCaps_adcSeqs (s : State) (v : SMap CapSet) : (s.withCaps v).adcSeqs = s.adcSeqs := rfl
@[simp] theorem State.withCaps_sense (s : State) (v : SMap CapSet) : (s.withCaps v).sense = s.sense := rfl
@[simp] theorem State.withCaps_axes (s : State) (v : SMap CapSet) : (s.withCaps v).axes = s.axes := rfl
@[simp] theorem State.withCaps_profiles (s : State) (v : SMap CapSet) : (s.withCaps v).profiles = s.profiles := rfl
@[simp] theorem State.withCaps_vms (s : State) (v : SMap CapSet) : (s.withCaps v).vms = s.vms := rfl
@[simp] theorem State.withCaps_net (s : State) (v : SMap CapSet) : (s.withCaps v).net = s.net := rfl
@[simp] theorem State.withCaps_binds (s : State) (v : SMap CapSet) : (s.withCaps v).binds = s.binds := rfl
@[simp] theorem State.withCaps_cans (s : State) (v : SMap CapSet) : (s.withCaps v).cans = s.cans := rfl
@[simp] theorem State.withCaps_fins (s : State) (v : SMap CapSet) : (s.withCaps v).fins = s.fins := rfl
@[simp] theorem State.withCaps_tel (s : State) (v : SMap CapSet) : (s.withCaps v).tel = s.tel := rfl
@[simp] theorem State.withCaps_ctxCopy (s : State) (v : SMap CapSet) : (s.withCaps v).ctxCopy = s.ctxCopy := rfl
@[simp] theorem State.withCaps_wears (s : State) (v : SMap CapSet) : (s.withCaps v).wears = s.wears := rfl
@[simp] theorem State.withCaps_wearQ (s : State) (v : SMap CapSet) : (s.withCaps v).wearQ = s.wearQ := rfl
@[simp] theorem State.withCaps_wearPart (s : State) (v : SMap CapSet) : (s.withCaps v).wearPart = s.wearPart := rfl
@[simp] theorem State.withCaps_weir (s : State) (v : SMap CapSet) : (s.withCaps v).weir = s.weir := rfl
@[simp] theorem State.withCaps_mode (s : State) (v : SMap CapSet) : (s.withCaps v).mode = s.mode := rfl
@[simp] theorem State.withCaps_clk (s : State) (v : SMap CapSet) : (s.withCaps v).clk = s.clk := rfl
@[simp] theorem State.withCaps_pins (s : State) (v : SMap CapSet) : (s.withCaps v).pins = s.pins := rfl
@[simp] theorem State.withCaps_free (s : State) (v : SMap CapSet) : (s.withCaps v).free = s.free := rfl
@[simp] theorem State.withCaps_pending (s : State) (v : SMap CapSet) : (s.withCaps v).pending = s.pending := rfl
@[simp] theorem State.withCasc_regs (s : State) (v : Casc) : (s.withCasc v).regs = s.regs := rfl
@[simp] theorem State.withCasc_mem (s : State) (v : Casc) : (s.withCasc v).mem = s.mem := rfl
@[simp] theorem State.withCasc_flash (s : State) (v : Casc) : (s.withCasc v).flash = s.flash := rfl
@[simp] theorem State.withCasc_chans (s : State) (v : Casc) : (s.withCasc v).chans = s.chans := rfl
@[simp] theorem State.withCasc_mbxTurn (s : State) (v : Casc) : (s.withCasc v).mbxTurn = s.mbxTurn := rfl
@[simp] theorem State.withCasc_sessions (s : State) (v : Casc) : (s.withCasc v).sessions = s.sessions := rfl
@[simp] theorem State.withCasc_hpOut (s : State) (v : Casc) : (s.withCasc v).hpOut = s.hpOut := rfl
@[simp] theorem State.withCasc_netOut (s : State) (v : Casc) : (s.withCasc v).netOut = s.netOut := rfl
@[simp] theorem State.withCasc_sec (s : State) (v : Casc) : (s.withCasc v).sec = s.sec := rfl
@[simp] theorem State.withCasc_groups (s : State) (v : Casc) : (s.withCasc v).groups = s.groups := rfl
@[simp] theorem State.withCasc_legs (s : State) (v : Casc) : (s.withCasc v).legs = s.legs := rfl
@[simp] theorem State.withCasc_scheds (s : State) (v : Casc) : (s.withCasc v).scheds = s.scheds := rfl
@[simp] theorem State.withCasc_carriers (s : State) (v : Casc) : (s.withCasc v).carriers = s.carriers := rfl
@[simp] theorem State.withCasc_timers (s : State) (v : Casc) : (s.withCasc v).timers = s.timers := rfl
@[simp] theorem State.withCasc_links (s : State) (v : Casc) : (s.withCasc v).links = s.links := rfl
@[simp] theorem State.withCasc_engines (s : State) (v : Casc) : (s.withCasc v).engines = s.engines := rfl
@[simp] theorem State.withCasc_slots (s : State) (v : Casc) : (s.withCasc v).slots = s.slots := rfl
@[simp] theorem State.withCasc_tags (s : State) (v : Casc) : (s.withCasc v).tags = s.tags := rfl
@[simp] theorem State.withCasc_inputs (s : State) (v : Casc) : (s.withCasc v).inputs = s.inputs := rfl
@[simp] theorem State.withCasc_latches (s : State) (v : Casc) : (s.withCasc v).latches = s.latches := rfl
@[simp] theorem State.withCasc_caps (s : State) (v : Casc) : (s.withCasc v).caps = s.caps := rfl
@[simp] theorem State.withCasc_casc (s : State) (v : Casc) : (s.withCasc v).casc = v := rfl
@[simp] theorem State.withCasc_engLoad (s : State) (v : Casc) : (s.withCasc v).engLoad = s.engLoad := rfl
@[simp] theorem State.withCasc_engImgs (s : State) (v : Casc) : (s.withCasc v).engImgs = s.engImgs := rfl
@[simp] theorem State.withCasc_sdChans (s : State) (v : Casc) : (s.withCasc v).sdChans = s.sdChans := rfl
@[simp] theorem State.withCasc_adcSeqs (s : State) (v : Casc) : (s.withCasc v).adcSeqs = s.adcSeqs := rfl
@[simp] theorem State.withCasc_sense (s : State) (v : Casc) : (s.withCasc v).sense = s.sense := rfl
@[simp] theorem State.withCasc_axes (s : State) (v : Casc) : (s.withCasc v).axes = s.axes := rfl
@[simp] theorem State.withCasc_profiles (s : State) (v : Casc) : (s.withCasc v).profiles = s.profiles := rfl
@[simp] theorem State.withCasc_vms (s : State) (v : Casc) : (s.withCasc v).vms = s.vms := rfl
@[simp] theorem State.withCasc_net (s : State) (v : Casc) : (s.withCasc v).net = s.net := rfl
@[simp] theorem State.withCasc_binds (s : State) (v : Casc) : (s.withCasc v).binds = s.binds := rfl
@[simp] theorem State.withCasc_cans (s : State) (v : Casc) : (s.withCasc v).cans = s.cans := rfl
@[simp] theorem State.withCasc_fins (s : State) (v : Casc) : (s.withCasc v).fins = s.fins := rfl
@[simp] theorem State.withCasc_tel (s : State) (v : Casc) : (s.withCasc v).tel = s.tel := rfl
@[simp] theorem State.withCasc_ctxCopy (s : State) (v : Casc) : (s.withCasc v).ctxCopy = s.ctxCopy := rfl
@[simp] theorem State.withCasc_wears (s : State) (v : Casc) : (s.withCasc v).wears = s.wears := rfl
@[simp] theorem State.withCasc_wearQ (s : State) (v : Casc) : (s.withCasc v).wearQ = s.wearQ := rfl
@[simp] theorem State.withCasc_wearPart (s : State) (v : Casc) : (s.withCasc v).wearPart = s.wearPart := rfl
@[simp] theorem State.withCasc_weir (s : State) (v : Casc) : (s.withCasc v).weir = s.weir := rfl
@[simp] theorem State.withCasc_mode (s : State) (v : Casc) : (s.withCasc v).mode = s.mode := rfl
@[simp] theorem State.withCasc_clk (s : State) (v : Casc) : (s.withCasc v).clk = s.clk := rfl
@[simp] theorem State.withCasc_pins (s : State) (v : Casc) : (s.withCasc v).pins = s.pins := rfl
@[simp] theorem State.withCasc_free (s : State) (v : Casc) : (s.withCasc v).free = s.free := rfl
@[simp] theorem State.withCasc_pending (s : State) (v : Casc) : (s.withCasc v).pending = s.pending := rfl
@[simp] theorem State.withEngLoad_regs (s : State) (v : EngLoad) : (s.withEngLoad v).regs = s.regs := rfl
@[simp] theorem State.withEngLoad_mem (s : State) (v : EngLoad) : (s.withEngLoad v).mem = s.mem := rfl
@[simp] theorem State.withEngLoad_flash (s : State) (v : EngLoad) : (s.withEngLoad v).flash = s.flash := rfl
@[simp] theorem State.withEngLoad_chans (s : State) (v : EngLoad) : (s.withEngLoad v).chans = s.chans := rfl
@[simp] theorem State.withEngLoad_mbxTurn (s : State) (v : EngLoad) : (s.withEngLoad v).mbxTurn = s.mbxTurn := rfl
@[simp] theorem State.withEngLoad_sessions (s : State) (v : EngLoad) : (s.withEngLoad v).sessions = s.sessions := rfl
@[simp] theorem State.withEngLoad_hpOut (s : State) (v : EngLoad) : (s.withEngLoad v).hpOut = s.hpOut := rfl
@[simp] theorem State.withEngLoad_netOut (s : State) (v : EngLoad) : (s.withEngLoad v).netOut = s.netOut := rfl
@[simp] theorem State.withEngLoad_sec (s : State) (v : EngLoad) : (s.withEngLoad v).sec = s.sec := rfl
@[simp] theorem State.withEngLoad_groups (s : State) (v : EngLoad) : (s.withEngLoad v).groups = s.groups := rfl
@[simp] theorem State.withEngLoad_legs (s : State) (v : EngLoad) : (s.withEngLoad v).legs = s.legs := rfl
@[simp] theorem State.withEngLoad_scheds (s : State) (v : EngLoad) : (s.withEngLoad v).scheds = s.scheds := rfl
@[simp] theorem State.withEngLoad_carriers (s : State) (v : EngLoad) : (s.withEngLoad v).carriers = s.carriers := rfl
@[simp] theorem State.withEngLoad_timers (s : State) (v : EngLoad) : (s.withEngLoad v).timers = s.timers := rfl
@[simp] theorem State.withEngLoad_links (s : State) (v : EngLoad) : (s.withEngLoad v).links = s.links := rfl
@[simp] theorem State.withEngLoad_engines (s : State) (v : EngLoad) : (s.withEngLoad v).engines = s.engines := rfl
@[simp] theorem State.withEngLoad_slots (s : State) (v : EngLoad) : (s.withEngLoad v).slots = s.slots := rfl
@[simp] theorem State.withEngLoad_tags (s : State) (v : EngLoad) : (s.withEngLoad v).tags = s.tags := rfl
@[simp] theorem State.withEngLoad_inputs (s : State) (v : EngLoad) : (s.withEngLoad v).inputs = s.inputs := rfl
@[simp] theorem State.withEngLoad_latches (s : State) (v : EngLoad) : (s.withEngLoad v).latches = s.latches := rfl
@[simp] theorem State.withEngLoad_caps (s : State) (v : EngLoad) : (s.withEngLoad v).caps = s.caps := rfl
@[simp] theorem State.withEngLoad_casc (s : State) (v : EngLoad) : (s.withEngLoad v).casc = s.casc := rfl
@[simp] theorem State.withEngLoad_engLoad (s : State) (v : EngLoad) : (s.withEngLoad v).engLoad = v := rfl
@[simp] theorem State.withEngLoad_engImgs (s : State) (v : EngLoad) : (s.withEngLoad v).engImgs = s.engImgs := rfl
@[simp] theorem State.withEngLoad_sdChans (s : State) (v : EngLoad) : (s.withEngLoad v).sdChans = s.sdChans := rfl
@[simp] theorem State.withEngLoad_adcSeqs (s : State) (v : EngLoad) : (s.withEngLoad v).adcSeqs = s.adcSeqs := rfl
@[simp] theorem State.withEngLoad_sense (s : State) (v : EngLoad) : (s.withEngLoad v).sense = s.sense := rfl
@[simp] theorem State.withEngLoad_axes (s : State) (v : EngLoad) : (s.withEngLoad v).axes = s.axes := rfl
@[simp] theorem State.withEngLoad_profiles (s : State) (v : EngLoad) : (s.withEngLoad v).profiles = s.profiles := rfl
@[simp] theorem State.withEngLoad_vms (s : State) (v : EngLoad) : (s.withEngLoad v).vms = s.vms := rfl
@[simp] theorem State.withEngLoad_net (s : State) (v : EngLoad) : (s.withEngLoad v).net = s.net := rfl
@[simp] theorem State.withEngLoad_binds (s : State) (v : EngLoad) : (s.withEngLoad v).binds = s.binds := rfl
@[simp] theorem State.withEngLoad_cans (s : State) (v : EngLoad) : (s.withEngLoad v).cans = s.cans := rfl
@[simp] theorem State.withEngLoad_fins (s : State) (v : EngLoad) : (s.withEngLoad v).fins = s.fins := rfl
@[simp] theorem State.withEngLoad_tel (s : State) (v : EngLoad) : (s.withEngLoad v).tel = s.tel := rfl
@[simp] theorem State.withEngLoad_ctxCopy (s : State) (v : EngLoad) : (s.withEngLoad v).ctxCopy = s.ctxCopy := rfl
@[simp] theorem State.withEngLoad_wears (s : State) (v : EngLoad) : (s.withEngLoad v).wears = s.wears := rfl
@[simp] theorem State.withEngLoad_wearQ (s : State) (v : EngLoad) : (s.withEngLoad v).wearQ = s.wearQ := rfl
@[simp] theorem State.withEngLoad_wearPart (s : State) (v : EngLoad) : (s.withEngLoad v).wearPart = s.wearPart := rfl
@[simp] theorem State.withEngLoad_weir (s : State) (v : EngLoad) : (s.withEngLoad v).weir = s.weir := rfl
@[simp] theorem State.withEngLoad_mode (s : State) (v : EngLoad) : (s.withEngLoad v).mode = s.mode := rfl
@[simp] theorem State.withEngLoad_clk (s : State) (v : EngLoad) : (s.withEngLoad v).clk = s.clk := rfl
@[simp] theorem State.withEngLoad_pins (s : State) (v : EngLoad) : (s.withEngLoad v).pins = s.pins := rfl
@[simp] theorem State.withEngLoad_free (s : State) (v : EngLoad) : (s.withEngLoad v).free = s.free := rfl
@[simp] theorem State.withEngLoad_pending (s : State) (v : EngLoad) : (s.withEngLoad v).pending = s.pending := rfl
@[simp] theorem State.withEngImgs_regs (s : State) (v : SMap EngImg) : (s.withEngImgs v).regs = s.regs := rfl
@[simp] theorem State.withEngImgs_mem (s : State) (v : SMap EngImg) : (s.withEngImgs v).mem = s.mem := rfl
@[simp] theorem State.withEngImgs_flash (s : State) (v : SMap EngImg) : (s.withEngImgs v).flash = s.flash := rfl
@[simp] theorem State.withEngImgs_chans (s : State) (v : SMap EngImg) : (s.withEngImgs v).chans = s.chans := rfl
@[simp] theorem State.withEngImgs_mbxTurn (s : State) (v : SMap EngImg) : (s.withEngImgs v).mbxTurn = s.mbxTurn := rfl
@[simp] theorem State.withEngImgs_sessions (s : State) (v : SMap EngImg) : (s.withEngImgs v).sessions = s.sessions := rfl
@[simp] theorem State.withEngImgs_hpOut (s : State) (v : SMap EngImg) : (s.withEngImgs v).hpOut = s.hpOut := rfl
@[simp] theorem State.withEngImgs_netOut (s : State) (v : SMap EngImg) : (s.withEngImgs v).netOut = s.netOut := rfl
@[simp] theorem State.withEngImgs_sec (s : State) (v : SMap EngImg) : (s.withEngImgs v).sec = s.sec := rfl
@[simp] theorem State.withEngImgs_groups (s : State) (v : SMap EngImg) : (s.withEngImgs v).groups = s.groups := rfl
@[simp] theorem State.withEngImgs_legs (s : State) (v : SMap EngImg) : (s.withEngImgs v).legs = s.legs := rfl
@[simp] theorem State.withEngImgs_scheds (s : State) (v : SMap EngImg) : (s.withEngImgs v).scheds = s.scheds := rfl
@[simp] theorem State.withEngImgs_carriers (s : State) (v : SMap EngImg) : (s.withEngImgs v).carriers = s.carriers := rfl
@[simp] theorem State.withEngImgs_timers (s : State) (v : SMap EngImg) : (s.withEngImgs v).timers = s.timers := rfl
@[simp] theorem State.withEngImgs_links (s : State) (v : SMap EngImg) : (s.withEngImgs v).links = s.links := rfl
@[simp] theorem State.withEngImgs_engines (s : State) (v : SMap EngImg) : (s.withEngImgs v).engines = s.engines := rfl
@[simp] theorem State.withEngImgs_slots (s : State) (v : SMap EngImg) : (s.withEngImgs v).slots = s.slots := rfl
@[simp] theorem State.withEngImgs_tags (s : State) (v : SMap EngImg) : (s.withEngImgs v).tags = s.tags := rfl
@[simp] theorem State.withEngImgs_inputs (s : State) (v : SMap EngImg) : (s.withEngImgs v).inputs = s.inputs := rfl
@[simp] theorem State.withEngImgs_latches (s : State) (v : SMap EngImg) : (s.withEngImgs v).latches = s.latches := rfl
@[simp] theorem State.withEngImgs_caps (s : State) (v : SMap EngImg) : (s.withEngImgs v).caps = s.caps := rfl
@[simp] theorem State.withEngImgs_casc (s : State) (v : SMap EngImg) : (s.withEngImgs v).casc = s.casc := rfl
@[simp] theorem State.withEngImgs_engLoad (s : State) (v : SMap EngImg) : (s.withEngImgs v).engLoad = s.engLoad := rfl
@[simp] theorem State.withEngImgs_engImgs (s : State) (v : SMap EngImg) : (s.withEngImgs v).engImgs = v := rfl
@[simp] theorem State.withEngImgs_sdChans (s : State) (v : SMap EngImg) : (s.withEngImgs v).sdChans = s.sdChans := rfl
@[simp] theorem State.withEngImgs_adcSeqs (s : State) (v : SMap EngImg) : (s.withEngImgs v).adcSeqs = s.adcSeqs := rfl
@[simp] theorem State.withEngImgs_sense (s : State) (v : SMap EngImg) : (s.withEngImgs v).sense = s.sense := rfl
@[simp] theorem State.withEngImgs_axes (s : State) (v : SMap EngImg) : (s.withEngImgs v).axes = s.axes := rfl
@[simp] theorem State.withEngImgs_profiles (s : State) (v : SMap EngImg) : (s.withEngImgs v).profiles = s.profiles := rfl
@[simp] theorem State.withEngImgs_vms (s : State) (v : SMap EngImg) : (s.withEngImgs v).vms = s.vms := rfl
@[simp] theorem State.withEngImgs_net (s : State) (v : SMap EngImg) : (s.withEngImgs v).net = s.net := rfl
@[simp] theorem State.withEngImgs_binds (s : State) (v : SMap EngImg) : (s.withEngImgs v).binds = s.binds := rfl
@[simp] theorem State.withEngImgs_cans (s : State) (v : SMap EngImg) : (s.withEngImgs v).cans = s.cans := rfl
@[simp] theorem State.withEngImgs_fins (s : State) (v : SMap EngImg) : (s.withEngImgs v).fins = s.fins := rfl
@[simp] theorem State.withEngImgs_tel (s : State) (v : SMap EngImg) : (s.withEngImgs v).tel = s.tel := rfl
@[simp] theorem State.withEngImgs_ctxCopy (s : State) (v : SMap EngImg) : (s.withEngImgs v).ctxCopy = s.ctxCopy := rfl
@[simp] theorem State.withEngImgs_wears (s : State) (v : SMap EngImg) : (s.withEngImgs v).wears = s.wears := rfl
@[simp] theorem State.withEngImgs_wearQ (s : State) (v : SMap EngImg) : (s.withEngImgs v).wearQ = s.wearQ := rfl
@[simp] theorem State.withEngImgs_wearPart (s : State) (v : SMap EngImg) : (s.withEngImgs v).wearPart = s.wearPart := rfl
@[simp] theorem State.withEngImgs_weir (s : State) (v : SMap EngImg) : (s.withEngImgs v).weir = s.weir := rfl
@[simp] theorem State.withEngImgs_mode (s : State) (v : SMap EngImg) : (s.withEngImgs v).mode = s.mode := rfl
@[simp] theorem State.withEngImgs_clk (s : State) (v : SMap EngImg) : (s.withEngImgs v).clk = s.clk := rfl
@[simp] theorem State.withEngImgs_pins (s : State) (v : SMap EngImg) : (s.withEngImgs v).pins = s.pins := rfl
@[simp] theorem State.withEngImgs_free (s : State) (v : SMap EngImg) : (s.withEngImgs v).free = s.free := rfl
@[simp] theorem State.withEngImgs_pending (s : State) (v : SMap EngImg) : (s.withEngImgs v).pending = s.pending := rfl
@[simp] theorem State.withSdChans_regs (s : State) (v : SMap SdChan) : (s.withSdChans v).regs = s.regs := rfl
@[simp] theorem State.withSdChans_mem (s : State) (v : SMap SdChan) : (s.withSdChans v).mem = s.mem := rfl
@[simp] theorem State.withSdChans_flash (s : State) (v : SMap SdChan) : (s.withSdChans v).flash = s.flash := rfl
@[simp] theorem State.withSdChans_chans (s : State) (v : SMap SdChan) : (s.withSdChans v).chans = s.chans := rfl
@[simp] theorem State.withSdChans_mbxTurn (s : State) (v : SMap SdChan) : (s.withSdChans v).mbxTurn = s.mbxTurn := rfl
@[simp] theorem State.withSdChans_sessions (s : State) (v : SMap SdChan) : (s.withSdChans v).sessions = s.sessions := rfl
@[simp] theorem State.withSdChans_hpOut (s : State) (v : SMap SdChan) : (s.withSdChans v).hpOut = s.hpOut := rfl
@[simp] theorem State.withSdChans_netOut (s : State) (v : SMap SdChan) : (s.withSdChans v).netOut = s.netOut := rfl
@[simp] theorem State.withSdChans_sec (s : State) (v : SMap SdChan) : (s.withSdChans v).sec = s.sec := rfl
@[simp] theorem State.withSdChans_groups (s : State) (v : SMap SdChan) : (s.withSdChans v).groups = s.groups := rfl
@[simp] theorem State.withSdChans_legs (s : State) (v : SMap SdChan) : (s.withSdChans v).legs = s.legs := rfl
@[simp] theorem State.withSdChans_scheds (s : State) (v : SMap SdChan) : (s.withSdChans v).scheds = s.scheds := rfl
@[simp] theorem State.withSdChans_carriers (s : State) (v : SMap SdChan) : (s.withSdChans v).carriers = s.carriers := rfl
@[simp] theorem State.withSdChans_timers (s : State) (v : SMap SdChan) : (s.withSdChans v).timers = s.timers := rfl
@[simp] theorem State.withSdChans_links (s : State) (v : SMap SdChan) : (s.withSdChans v).links = s.links := rfl
@[simp] theorem State.withSdChans_engines (s : State) (v : SMap SdChan) : (s.withSdChans v).engines = s.engines := rfl
@[simp] theorem State.withSdChans_slots (s : State) (v : SMap SdChan) : (s.withSdChans v).slots = s.slots := rfl
@[simp] theorem State.withSdChans_tags (s : State) (v : SMap SdChan) : (s.withSdChans v).tags = s.tags := rfl
@[simp] theorem State.withSdChans_inputs (s : State) (v : SMap SdChan) : (s.withSdChans v).inputs = s.inputs := rfl
@[simp] theorem State.withSdChans_latches (s : State) (v : SMap SdChan) : (s.withSdChans v).latches = s.latches := rfl
@[simp] theorem State.withSdChans_caps (s : State) (v : SMap SdChan) : (s.withSdChans v).caps = s.caps := rfl
@[simp] theorem State.withSdChans_casc (s : State) (v : SMap SdChan) : (s.withSdChans v).casc = s.casc := rfl
@[simp] theorem State.withSdChans_engLoad (s : State) (v : SMap SdChan) : (s.withSdChans v).engLoad = s.engLoad := rfl
@[simp] theorem State.withSdChans_engImgs (s : State) (v : SMap SdChan) : (s.withSdChans v).engImgs = s.engImgs := rfl
@[simp] theorem State.withSdChans_sdChans (s : State) (v : SMap SdChan) : (s.withSdChans v).sdChans = v := rfl
@[simp] theorem State.withSdChans_adcSeqs (s : State) (v : SMap SdChan) : (s.withSdChans v).adcSeqs = s.adcSeqs := rfl
@[simp] theorem State.withSdChans_sense (s : State) (v : SMap SdChan) : (s.withSdChans v).sense = s.sense := rfl
@[simp] theorem State.withSdChans_axes (s : State) (v : SMap SdChan) : (s.withSdChans v).axes = s.axes := rfl
@[simp] theorem State.withSdChans_profiles (s : State) (v : SMap SdChan) : (s.withSdChans v).profiles = s.profiles := rfl
@[simp] theorem State.withSdChans_vms (s : State) (v : SMap SdChan) : (s.withSdChans v).vms = s.vms := rfl
@[simp] theorem State.withSdChans_net (s : State) (v : SMap SdChan) : (s.withSdChans v).net = s.net := rfl
@[simp] theorem State.withSdChans_binds (s : State) (v : SMap SdChan) : (s.withSdChans v).binds = s.binds := rfl
@[simp] theorem State.withSdChans_cans (s : State) (v : SMap SdChan) : (s.withSdChans v).cans = s.cans := rfl
@[simp] theorem State.withSdChans_fins (s : State) (v : SMap SdChan) : (s.withSdChans v).fins = s.fins := rfl
@[simp] theorem State.withSdChans_tel (s : State) (v : SMap SdChan) : (s.withSdChans v).tel = s.tel := rfl
@[simp] theorem State.withSdChans_ctxCopy (s : State) (v : SMap SdChan) : (s.withSdChans v).ctxCopy = s.ctxCopy := rfl
@[simp] theorem State.withSdChans_wears (s : State) (v : SMap SdChan) : (s.withSdChans v).wears = s.wears := rfl
@[simp] theorem State.withSdChans_wearQ (s : State) (v : SMap SdChan) : (s.withSdChans v).wearQ = s.wearQ := rfl
@[simp] theorem State.withSdChans_wearPart (s : State) (v : SMap SdChan) : (s.withSdChans v).wearPart = s.wearPart := rfl
@[simp] theorem State.withSdChans_weir (s : State) (v : SMap SdChan) : (s.withSdChans v).weir = s.weir := rfl
@[simp] theorem State.withSdChans_mode (s : State) (v : SMap SdChan) : (s.withSdChans v).mode = s.mode := rfl
@[simp] theorem State.withSdChans_clk (s : State) (v : SMap SdChan) : (s.withSdChans v).clk = s.clk := rfl
@[simp] theorem State.withSdChans_pins (s : State) (v : SMap SdChan) : (s.withSdChans v).pins = s.pins := rfl
@[simp] theorem State.withSdChans_free (s : State) (v : SMap SdChan) : (s.withSdChans v).free = s.free := rfl
@[simp] theorem State.withSdChans_pending (s : State) (v : SMap SdChan) : (s.withSdChans v).pending = s.pending := rfl
@[simp] theorem State.withAdcSeqs_regs (s : State) (v : SMap AdcSeq) : (s.withAdcSeqs v).regs = s.regs := rfl
@[simp] theorem State.withAdcSeqs_mem (s : State) (v : SMap AdcSeq) : (s.withAdcSeqs v).mem = s.mem := rfl
@[simp] theorem State.withAdcSeqs_flash (s : State) (v : SMap AdcSeq) : (s.withAdcSeqs v).flash = s.flash := rfl
@[simp] theorem State.withAdcSeqs_chans (s : State) (v : SMap AdcSeq) : (s.withAdcSeqs v).chans = s.chans := rfl
@[simp] theorem State.withAdcSeqs_mbxTurn (s : State) (v : SMap AdcSeq) : (s.withAdcSeqs v).mbxTurn = s.mbxTurn := rfl
@[simp] theorem State.withAdcSeqs_sessions (s : State) (v : SMap AdcSeq) : (s.withAdcSeqs v).sessions = s.sessions := rfl
@[simp] theorem State.withAdcSeqs_hpOut (s : State) (v : SMap AdcSeq) : (s.withAdcSeqs v).hpOut = s.hpOut := rfl
@[simp] theorem State.withAdcSeqs_netOut (s : State) (v : SMap AdcSeq) : (s.withAdcSeqs v).netOut = s.netOut := rfl
@[simp] theorem State.withAdcSeqs_sec (s : State) (v : SMap AdcSeq) : (s.withAdcSeqs v).sec = s.sec := rfl
@[simp] theorem State.withAdcSeqs_groups (s : State) (v : SMap AdcSeq) : (s.withAdcSeqs v).groups = s.groups := rfl
@[simp] theorem State.withAdcSeqs_legs (s : State) (v : SMap AdcSeq) : (s.withAdcSeqs v).legs = s.legs := rfl
@[simp] theorem State.withAdcSeqs_scheds (s : State) (v : SMap AdcSeq) : (s.withAdcSeqs v).scheds = s.scheds := rfl
@[simp] theorem State.withAdcSeqs_carriers (s : State) (v : SMap AdcSeq) : (s.withAdcSeqs v).carriers = s.carriers := rfl
@[simp] theorem State.withAdcSeqs_timers (s : State) (v : SMap AdcSeq) : (s.withAdcSeqs v).timers = s.timers := rfl
@[simp] theorem State.withAdcSeqs_links (s : State) (v : SMap AdcSeq) : (s.withAdcSeqs v).links = s.links := rfl
@[simp] theorem State.withAdcSeqs_engines (s : State) (v : SMap AdcSeq) : (s.withAdcSeqs v).engines = s.engines := rfl
@[simp] theorem State.withAdcSeqs_slots (s : State) (v : SMap AdcSeq) : (s.withAdcSeqs v).slots = s.slots := rfl
@[simp] theorem State.withAdcSeqs_tags (s : State) (v : SMap AdcSeq) : (s.withAdcSeqs v).tags = s.tags := rfl
@[simp] theorem State.withAdcSeqs_inputs (s : State) (v : SMap AdcSeq) : (s.withAdcSeqs v).inputs = s.inputs := rfl
@[simp] theorem State.withAdcSeqs_latches (s : State) (v : SMap AdcSeq) : (s.withAdcSeqs v).latches = s.latches := rfl
@[simp] theorem State.withAdcSeqs_caps (s : State) (v : SMap AdcSeq) : (s.withAdcSeqs v).caps = s.caps := rfl
@[simp] theorem State.withAdcSeqs_casc (s : State) (v : SMap AdcSeq) : (s.withAdcSeqs v).casc = s.casc := rfl
@[simp] theorem State.withAdcSeqs_engLoad (s : State) (v : SMap AdcSeq) : (s.withAdcSeqs v).engLoad = s.engLoad := rfl
@[simp] theorem State.withAdcSeqs_engImgs (s : State) (v : SMap AdcSeq) : (s.withAdcSeqs v).engImgs = s.engImgs := rfl
@[simp] theorem State.withAdcSeqs_sdChans (s : State) (v : SMap AdcSeq) : (s.withAdcSeqs v).sdChans = s.sdChans := rfl
@[simp] theorem State.withAdcSeqs_adcSeqs (s : State) (v : SMap AdcSeq) : (s.withAdcSeqs v).adcSeqs = v := rfl
@[simp] theorem State.withAdcSeqs_sense (s : State) (v : SMap AdcSeq) : (s.withAdcSeqs v).sense = s.sense := rfl
@[simp] theorem State.withAdcSeqs_axes (s : State) (v : SMap AdcSeq) : (s.withAdcSeqs v).axes = s.axes := rfl
@[simp] theorem State.withAdcSeqs_profiles (s : State) (v : SMap AdcSeq) : (s.withAdcSeqs v).profiles = s.profiles := rfl
@[simp] theorem State.withAdcSeqs_vms (s : State) (v : SMap AdcSeq) : (s.withAdcSeqs v).vms = s.vms := rfl
@[simp] theorem State.withAdcSeqs_net (s : State) (v : SMap AdcSeq) : (s.withAdcSeqs v).net = s.net := rfl
@[simp] theorem State.withAdcSeqs_binds (s : State) (v : SMap AdcSeq) : (s.withAdcSeqs v).binds = s.binds := rfl
@[simp] theorem State.withAdcSeqs_cans (s : State) (v : SMap AdcSeq) : (s.withAdcSeqs v).cans = s.cans := rfl
@[simp] theorem State.withAdcSeqs_fins (s : State) (v : SMap AdcSeq) : (s.withAdcSeqs v).fins = s.fins := rfl
@[simp] theorem State.withAdcSeqs_tel (s : State) (v : SMap AdcSeq) : (s.withAdcSeqs v).tel = s.tel := rfl
@[simp] theorem State.withAdcSeqs_ctxCopy (s : State) (v : SMap AdcSeq) : (s.withAdcSeqs v).ctxCopy = s.ctxCopy := rfl
@[simp] theorem State.withAdcSeqs_wears (s : State) (v : SMap AdcSeq) : (s.withAdcSeqs v).wears = s.wears := rfl
@[simp] theorem State.withAdcSeqs_wearQ (s : State) (v : SMap AdcSeq) : (s.withAdcSeqs v).wearQ = s.wearQ := rfl
@[simp] theorem State.withAdcSeqs_wearPart (s : State) (v : SMap AdcSeq) : (s.withAdcSeqs v).wearPart = s.wearPart := rfl
@[simp] theorem State.withAdcSeqs_weir (s : State) (v : SMap AdcSeq) : (s.withAdcSeqs v).weir = s.weir := rfl
@[simp] theorem State.withAdcSeqs_mode (s : State) (v : SMap AdcSeq) : (s.withAdcSeqs v).mode = s.mode := rfl
@[simp] theorem State.withAdcSeqs_clk (s : State) (v : SMap AdcSeq) : (s.withAdcSeqs v).clk = s.clk := rfl
@[simp] theorem State.withAdcSeqs_pins (s : State) (v : SMap AdcSeq) : (s.withAdcSeqs v).pins = s.pins := rfl
@[simp] theorem State.withAdcSeqs_free (s : State) (v : SMap AdcSeq) : (s.withAdcSeqs v).free = s.free := rfl
@[simp] theorem State.withAdcSeqs_pending (s : State) (v : SMap AdcSeq) : (s.withAdcSeqs v).pending = s.pending := rfl
@[simp] theorem State.withSense_regs (s : State) (v : SenseState) : (s.withSense v).regs = s.regs := rfl
@[simp] theorem State.withSense_mem (s : State) (v : SenseState) : (s.withSense v).mem = s.mem := rfl
@[simp] theorem State.withSense_flash (s : State) (v : SenseState) : (s.withSense v).flash = s.flash := rfl
@[simp] theorem State.withSense_chans (s : State) (v : SenseState) : (s.withSense v).chans = s.chans := rfl
@[simp] theorem State.withSense_mbxTurn (s : State) (v : SenseState) : (s.withSense v).mbxTurn = s.mbxTurn := rfl
@[simp] theorem State.withSense_sessions (s : State) (v : SenseState) : (s.withSense v).sessions = s.sessions := rfl
@[simp] theorem State.withSense_hpOut (s : State) (v : SenseState) : (s.withSense v).hpOut = s.hpOut := rfl
@[simp] theorem State.withSense_netOut (s : State) (v : SenseState) : (s.withSense v).netOut = s.netOut := rfl
@[simp] theorem State.withSense_sec (s : State) (v : SenseState) : (s.withSense v).sec = s.sec := rfl
@[simp] theorem State.withSense_groups (s : State) (v : SenseState) : (s.withSense v).groups = s.groups := rfl
@[simp] theorem State.withSense_legs (s : State) (v : SenseState) : (s.withSense v).legs = s.legs := rfl
@[simp] theorem State.withSense_scheds (s : State) (v : SenseState) : (s.withSense v).scheds = s.scheds := rfl
@[simp] theorem State.withSense_carriers (s : State) (v : SenseState) : (s.withSense v).carriers = s.carriers := rfl
@[simp] theorem State.withSense_timers (s : State) (v : SenseState) : (s.withSense v).timers = s.timers := rfl
@[simp] theorem State.withSense_links (s : State) (v : SenseState) : (s.withSense v).links = s.links := rfl
@[simp] theorem State.withSense_engines (s : State) (v : SenseState) : (s.withSense v).engines = s.engines := rfl
@[simp] theorem State.withSense_slots (s : State) (v : SenseState) : (s.withSense v).slots = s.slots := rfl
@[simp] theorem State.withSense_tags (s : State) (v : SenseState) : (s.withSense v).tags = s.tags := rfl
@[simp] theorem State.withSense_inputs (s : State) (v : SenseState) : (s.withSense v).inputs = s.inputs := rfl
@[simp] theorem State.withSense_latches (s : State) (v : SenseState) : (s.withSense v).latches = s.latches := rfl
@[simp] theorem State.withSense_caps (s : State) (v : SenseState) : (s.withSense v).caps = s.caps := rfl
@[simp] theorem State.withSense_casc (s : State) (v : SenseState) : (s.withSense v).casc = s.casc := rfl
@[simp] theorem State.withSense_engLoad (s : State) (v : SenseState) : (s.withSense v).engLoad = s.engLoad := rfl
@[simp] theorem State.withSense_engImgs (s : State) (v : SenseState) : (s.withSense v).engImgs = s.engImgs := rfl
@[simp] theorem State.withSense_sdChans (s : State) (v : SenseState) : (s.withSense v).sdChans = s.sdChans := rfl
@[simp] theorem State.withSense_adcSeqs (s : State) (v : SenseState) : (s.withSense v).adcSeqs = s.adcSeqs := rfl
@[simp] theorem State.withSense_sense (s : State) (v : SenseState) : (s.withSense v).sense = v := rfl
@[simp] theorem State.withSense_axes (s : State) (v : SenseState) : (s.withSense v).axes = s.axes := rfl
@[simp] theorem State.withSense_profiles (s : State) (v : SenseState) : (s.withSense v).profiles = s.profiles := rfl
@[simp] theorem State.withSense_vms (s : State) (v : SenseState) : (s.withSense v).vms = s.vms := rfl
@[simp] theorem State.withSense_net (s : State) (v : SenseState) : (s.withSense v).net = s.net := rfl
@[simp] theorem State.withSense_binds (s : State) (v : SenseState) : (s.withSense v).binds = s.binds := rfl
@[simp] theorem State.withSense_cans (s : State) (v : SenseState) : (s.withSense v).cans = s.cans := rfl
@[simp] theorem State.withSense_fins (s : State) (v : SenseState) : (s.withSense v).fins = s.fins := rfl
@[simp] theorem State.withSense_tel (s : State) (v : SenseState) : (s.withSense v).tel = s.tel := rfl
@[simp] theorem State.withSense_ctxCopy (s : State) (v : SenseState) : (s.withSense v).ctxCopy = s.ctxCopy := rfl
@[simp] theorem State.withSense_wears (s : State) (v : SenseState) : (s.withSense v).wears = s.wears := rfl
@[simp] theorem State.withSense_wearQ (s : State) (v : SenseState) : (s.withSense v).wearQ = s.wearQ := rfl
@[simp] theorem State.withSense_wearPart (s : State) (v : SenseState) : (s.withSense v).wearPart = s.wearPart := rfl
@[simp] theorem State.withSense_weir (s : State) (v : SenseState) : (s.withSense v).weir = s.weir := rfl
@[simp] theorem State.withSense_mode (s : State) (v : SenseState) : (s.withSense v).mode = s.mode := rfl
@[simp] theorem State.withSense_clk (s : State) (v : SenseState) : (s.withSense v).clk = s.clk := rfl
@[simp] theorem State.withSense_pins (s : State) (v : SenseState) : (s.withSense v).pins = s.pins := rfl
@[simp] theorem State.withSense_free (s : State) (v : SenseState) : (s.withSense v).free = s.free := rfl
@[simp] theorem State.withSense_pending (s : State) (v : SenseState) : (s.withSense v).pending = s.pending := rfl
@[simp] theorem State.withAxes_regs (s : State) (v : SMap Axis) : (s.withAxes v).regs = s.regs := rfl
@[simp] theorem State.withAxes_mem (s : State) (v : SMap Axis) : (s.withAxes v).mem = s.mem := rfl
@[simp] theorem State.withAxes_flash (s : State) (v : SMap Axis) : (s.withAxes v).flash = s.flash := rfl
@[simp] theorem State.withAxes_chans (s : State) (v : SMap Axis) : (s.withAxes v).chans = s.chans := rfl
@[simp] theorem State.withAxes_mbxTurn (s : State) (v : SMap Axis) : (s.withAxes v).mbxTurn = s.mbxTurn := rfl
@[simp] theorem State.withAxes_sessions (s : State) (v : SMap Axis) : (s.withAxes v).sessions = s.sessions := rfl
@[simp] theorem State.withAxes_hpOut (s : State) (v : SMap Axis) : (s.withAxes v).hpOut = s.hpOut := rfl
@[simp] theorem State.withAxes_netOut (s : State) (v : SMap Axis) : (s.withAxes v).netOut = s.netOut := rfl
@[simp] theorem State.withAxes_sec (s : State) (v : SMap Axis) : (s.withAxes v).sec = s.sec := rfl
@[simp] theorem State.withAxes_groups (s : State) (v : SMap Axis) : (s.withAxes v).groups = s.groups := rfl
@[simp] theorem State.withAxes_legs (s : State) (v : SMap Axis) : (s.withAxes v).legs = s.legs := rfl
@[simp] theorem State.withAxes_scheds (s : State) (v : SMap Axis) : (s.withAxes v).scheds = s.scheds := rfl
@[simp] theorem State.withAxes_carriers (s : State) (v : SMap Axis) : (s.withAxes v).carriers = s.carriers := rfl
@[simp] theorem State.withAxes_timers (s : State) (v : SMap Axis) : (s.withAxes v).timers = s.timers := rfl
@[simp] theorem State.withAxes_links (s : State) (v : SMap Axis) : (s.withAxes v).links = s.links := rfl
@[simp] theorem State.withAxes_engines (s : State) (v : SMap Axis) : (s.withAxes v).engines = s.engines := rfl
@[simp] theorem State.withAxes_slots (s : State) (v : SMap Axis) : (s.withAxes v).slots = s.slots := rfl
@[simp] theorem State.withAxes_tags (s : State) (v : SMap Axis) : (s.withAxes v).tags = s.tags := rfl
@[simp] theorem State.withAxes_inputs (s : State) (v : SMap Axis) : (s.withAxes v).inputs = s.inputs := rfl
@[simp] theorem State.withAxes_latches (s : State) (v : SMap Axis) : (s.withAxes v).latches = s.latches := rfl
@[simp] theorem State.withAxes_caps (s : State) (v : SMap Axis) : (s.withAxes v).caps = s.caps := rfl
@[simp] theorem State.withAxes_casc (s : State) (v : SMap Axis) : (s.withAxes v).casc = s.casc := rfl
@[simp] theorem State.withAxes_engLoad (s : State) (v : SMap Axis) : (s.withAxes v).engLoad = s.engLoad := rfl
@[simp] theorem State.withAxes_engImgs (s : State) (v : SMap Axis) : (s.withAxes v).engImgs = s.engImgs := rfl
@[simp] theorem State.withAxes_sdChans (s : State) (v : SMap Axis) : (s.withAxes v).sdChans = s.sdChans := rfl
@[simp] theorem State.withAxes_adcSeqs (s : State) (v : SMap Axis) : (s.withAxes v).adcSeqs = s.adcSeqs := rfl
@[simp] theorem State.withAxes_sense (s : State) (v : SMap Axis) : (s.withAxes v).sense = s.sense := rfl
@[simp] theorem State.withAxes_axes (s : State) (v : SMap Axis) : (s.withAxes v).axes = v := rfl
@[simp] theorem State.withAxes_profiles (s : State) (v : SMap Axis) : (s.withAxes v).profiles = s.profiles := rfl
@[simp] theorem State.withAxes_vms (s : State) (v : SMap Axis) : (s.withAxes v).vms = s.vms := rfl
@[simp] theorem State.withAxes_net (s : State) (v : SMap Axis) : (s.withAxes v).net = s.net := rfl
@[simp] theorem State.withAxes_binds (s : State) (v : SMap Axis) : (s.withAxes v).binds = s.binds := rfl
@[simp] theorem State.withAxes_cans (s : State) (v : SMap Axis) : (s.withAxes v).cans = s.cans := rfl
@[simp] theorem State.withAxes_fins (s : State) (v : SMap Axis) : (s.withAxes v).fins = s.fins := rfl
@[simp] theorem State.withAxes_tel (s : State) (v : SMap Axis) : (s.withAxes v).tel = s.tel := rfl
@[simp] theorem State.withAxes_ctxCopy (s : State) (v : SMap Axis) : (s.withAxes v).ctxCopy = s.ctxCopy := rfl
@[simp] theorem State.withAxes_wears (s : State) (v : SMap Axis) : (s.withAxes v).wears = s.wears := rfl
@[simp] theorem State.withAxes_wearQ (s : State) (v : SMap Axis) : (s.withAxes v).wearQ = s.wearQ := rfl
@[simp] theorem State.withAxes_wearPart (s : State) (v : SMap Axis) : (s.withAxes v).wearPart = s.wearPart := rfl
@[simp] theorem State.withAxes_weir (s : State) (v : SMap Axis) : (s.withAxes v).weir = s.weir := rfl
@[simp] theorem State.withAxes_mode (s : State) (v : SMap Axis) : (s.withAxes v).mode = s.mode := rfl
@[simp] theorem State.withAxes_clk (s : State) (v : SMap Axis) : (s.withAxes v).clk = s.clk := rfl
@[simp] theorem State.withAxes_pins (s : State) (v : SMap Axis) : (s.withAxes v).pins = s.pins := rfl
@[simp] theorem State.withAxes_free (s : State) (v : SMap Axis) : (s.withAxes v).free = s.free := rfl
@[simp] theorem State.withAxes_pending (s : State) (v : SMap Axis) : (s.withAxes v).pending = s.pending := rfl
@[simp] theorem State.withProfiles_regs (s : State) (v : SMap Profile) : (s.withProfiles v).regs = s.regs := rfl
@[simp] theorem State.withProfiles_mem (s : State) (v : SMap Profile) : (s.withProfiles v).mem = s.mem := rfl
@[simp] theorem State.withProfiles_flash (s : State) (v : SMap Profile) : (s.withProfiles v).flash = s.flash := rfl
@[simp] theorem State.withProfiles_chans (s : State) (v : SMap Profile) : (s.withProfiles v).chans = s.chans := rfl
@[simp] theorem State.withProfiles_mbxTurn (s : State) (v : SMap Profile) : (s.withProfiles v).mbxTurn = s.mbxTurn := rfl
@[simp] theorem State.withProfiles_sessions (s : State) (v : SMap Profile) : (s.withProfiles v).sessions = s.sessions := rfl
@[simp] theorem State.withProfiles_hpOut (s : State) (v : SMap Profile) : (s.withProfiles v).hpOut = s.hpOut := rfl
@[simp] theorem State.withProfiles_netOut (s : State) (v : SMap Profile) : (s.withProfiles v).netOut = s.netOut := rfl
@[simp] theorem State.withProfiles_sec (s : State) (v : SMap Profile) : (s.withProfiles v).sec = s.sec := rfl
@[simp] theorem State.withProfiles_groups (s : State) (v : SMap Profile) : (s.withProfiles v).groups = s.groups := rfl
@[simp] theorem State.withProfiles_legs (s : State) (v : SMap Profile) : (s.withProfiles v).legs = s.legs := rfl
@[simp] theorem State.withProfiles_scheds (s : State) (v : SMap Profile) : (s.withProfiles v).scheds = s.scheds := rfl
@[simp] theorem State.withProfiles_carriers (s : State) (v : SMap Profile) : (s.withProfiles v).carriers = s.carriers := rfl
@[simp] theorem State.withProfiles_timers (s : State) (v : SMap Profile) : (s.withProfiles v).timers = s.timers := rfl
@[simp] theorem State.withProfiles_links (s : State) (v : SMap Profile) : (s.withProfiles v).links = s.links := rfl
@[simp] theorem State.withProfiles_engines (s : State) (v : SMap Profile) : (s.withProfiles v).engines = s.engines := rfl
@[simp] theorem State.withProfiles_slots (s : State) (v : SMap Profile) : (s.withProfiles v).slots = s.slots := rfl
@[simp] theorem State.withProfiles_tags (s : State) (v : SMap Profile) : (s.withProfiles v).tags = s.tags := rfl
@[simp] theorem State.withProfiles_inputs (s : State) (v : SMap Profile) : (s.withProfiles v).inputs = s.inputs := rfl
@[simp] theorem State.withProfiles_latches (s : State) (v : SMap Profile) : (s.withProfiles v).latches = s.latches := rfl
@[simp] theorem State.withProfiles_caps (s : State) (v : SMap Profile) : (s.withProfiles v).caps = s.caps := rfl
@[simp] theorem State.withProfiles_casc (s : State) (v : SMap Profile) : (s.withProfiles v).casc = s.casc := rfl
@[simp] theorem State.withProfiles_engLoad (s : State) (v : SMap Profile) : (s.withProfiles v).engLoad = s.engLoad := rfl
@[simp] theorem State.withProfiles_engImgs (s : State) (v : SMap Profile) : (s.withProfiles v).engImgs = s.engImgs := rfl
@[simp] theorem State.withProfiles_sdChans (s : State) (v : SMap Profile) : (s.withProfiles v).sdChans = s.sdChans := rfl
@[simp] theorem State.withProfiles_adcSeqs (s : State) (v : SMap Profile) : (s.withProfiles v).adcSeqs = s.adcSeqs := rfl
@[simp] theorem State.withProfiles_sense (s : State) (v : SMap Profile) : (s.withProfiles v).sense = s.sense := rfl
@[simp] theorem State.withProfiles_axes (s : State) (v : SMap Profile) : (s.withProfiles v).axes = s.axes := rfl
@[simp] theorem State.withProfiles_profiles (s : State) (v : SMap Profile) : (s.withProfiles v).profiles = v := rfl
@[simp] theorem State.withProfiles_vms (s : State) (v : SMap Profile) : (s.withProfiles v).vms = s.vms := rfl
@[simp] theorem State.withProfiles_net (s : State) (v : SMap Profile) : (s.withProfiles v).net = s.net := rfl
@[simp] theorem State.withProfiles_binds (s : State) (v : SMap Profile) : (s.withProfiles v).binds = s.binds := rfl
@[simp] theorem State.withProfiles_cans (s : State) (v : SMap Profile) : (s.withProfiles v).cans = s.cans := rfl
@[simp] theorem State.withProfiles_fins (s : State) (v : SMap Profile) : (s.withProfiles v).fins = s.fins := rfl
@[simp] theorem State.withProfiles_tel (s : State) (v : SMap Profile) : (s.withProfiles v).tel = s.tel := rfl
@[simp] theorem State.withProfiles_ctxCopy (s : State) (v : SMap Profile) : (s.withProfiles v).ctxCopy = s.ctxCopy := rfl
@[simp] theorem State.withProfiles_wears (s : State) (v : SMap Profile) : (s.withProfiles v).wears = s.wears := rfl
@[simp] theorem State.withProfiles_wearQ (s : State) (v : SMap Profile) : (s.withProfiles v).wearQ = s.wearQ := rfl
@[simp] theorem State.withProfiles_wearPart (s : State) (v : SMap Profile) : (s.withProfiles v).wearPart = s.wearPart := rfl
@[simp] theorem State.withProfiles_weir (s : State) (v : SMap Profile) : (s.withProfiles v).weir = s.weir := rfl
@[simp] theorem State.withProfiles_mode (s : State) (v : SMap Profile) : (s.withProfiles v).mode = s.mode := rfl
@[simp] theorem State.withProfiles_clk (s : State) (v : SMap Profile) : (s.withProfiles v).clk = s.clk := rfl
@[simp] theorem State.withProfiles_pins (s : State) (v : SMap Profile) : (s.withProfiles v).pins = s.pins := rfl
@[simp] theorem State.withProfiles_free (s : State) (v : SMap Profile) : (s.withProfiles v).free = s.free := rfl
@[simp] theorem State.withProfiles_pending (s : State) (v : SMap Profile) : (s.withProfiles v).pending = s.pending := rfl
@[simp] theorem State.withVms_regs (s : State) (v : SMap VMaster) : (s.withVms v).regs = s.regs := rfl
@[simp] theorem State.withVms_mem (s : State) (v : SMap VMaster) : (s.withVms v).mem = s.mem := rfl
@[simp] theorem State.withVms_flash (s : State) (v : SMap VMaster) : (s.withVms v).flash = s.flash := rfl
@[simp] theorem State.withVms_chans (s : State) (v : SMap VMaster) : (s.withVms v).chans = s.chans := rfl
@[simp] theorem State.withVms_mbxTurn (s : State) (v : SMap VMaster) : (s.withVms v).mbxTurn = s.mbxTurn := rfl
@[simp] theorem State.withVms_sessions (s : State) (v : SMap VMaster) : (s.withVms v).sessions = s.sessions := rfl
@[simp] theorem State.withVms_hpOut (s : State) (v : SMap VMaster) : (s.withVms v).hpOut = s.hpOut := rfl
@[simp] theorem State.withVms_netOut (s : State) (v : SMap VMaster) : (s.withVms v).netOut = s.netOut := rfl
@[simp] theorem State.withVms_sec (s : State) (v : SMap VMaster) : (s.withVms v).sec = s.sec := rfl
@[simp] theorem State.withVms_groups (s : State) (v : SMap VMaster) : (s.withVms v).groups = s.groups := rfl
@[simp] theorem State.withVms_legs (s : State) (v : SMap VMaster) : (s.withVms v).legs = s.legs := rfl
@[simp] theorem State.withVms_scheds (s : State) (v : SMap VMaster) : (s.withVms v).scheds = s.scheds := rfl
@[simp] theorem State.withVms_carriers (s : State) (v : SMap VMaster) : (s.withVms v).carriers = s.carriers := rfl
@[simp] theorem State.withVms_timers (s : State) (v : SMap VMaster) : (s.withVms v).timers = s.timers := rfl
@[simp] theorem State.withVms_links (s : State) (v : SMap VMaster) : (s.withVms v).links = s.links := rfl
@[simp] theorem State.withVms_engines (s : State) (v : SMap VMaster) : (s.withVms v).engines = s.engines := rfl
@[simp] theorem State.withVms_slots (s : State) (v : SMap VMaster) : (s.withVms v).slots = s.slots := rfl
@[simp] theorem State.withVms_tags (s : State) (v : SMap VMaster) : (s.withVms v).tags = s.tags := rfl
@[simp] theorem State.withVms_inputs (s : State) (v : SMap VMaster) : (s.withVms v).inputs = s.inputs := rfl
@[simp] theorem State.withVms_latches (s : State) (v : SMap VMaster) : (s.withVms v).latches = s.latches := rfl
@[simp] theorem State.withVms_caps (s : State) (v : SMap VMaster) : (s.withVms v).caps = s.caps := rfl
@[simp] theorem State.withVms_casc (s : State) (v : SMap VMaster) : (s.withVms v).casc = s.casc := rfl
@[simp] theorem State.withVms_engLoad (s : State) (v : SMap VMaster) : (s.withVms v).engLoad = s.engLoad := rfl
@[simp] theorem State.withVms_engImgs (s : State) (v : SMap VMaster) : (s.withVms v).engImgs = s.engImgs := rfl
@[simp] theorem State.withVms_sdChans (s : State) (v : SMap VMaster) : (s.withVms v).sdChans = s.sdChans := rfl
@[simp] theorem State.withVms_adcSeqs (s : State) (v : SMap VMaster) : (s.withVms v).adcSeqs = s.adcSeqs := rfl
@[simp] theorem State.withVms_sense (s : State) (v : SMap VMaster) : (s.withVms v).sense = s.sense := rfl
@[simp] theorem State.withVms_axes (s : State) (v : SMap VMaster) : (s.withVms v).axes = s.axes := rfl
@[simp] theorem State.withVms_profiles (s : State) (v : SMap VMaster) : (s.withVms v).profiles = s.profiles := rfl
@[simp] theorem State.withVms_vms (s : State) (v : SMap VMaster) : (s.withVms v).vms = v := rfl
@[simp] theorem State.withVms_net (s : State) (v : SMap VMaster) : (s.withVms v).net = s.net := rfl
@[simp] theorem State.withVms_binds (s : State) (v : SMap VMaster) : (s.withVms v).binds = s.binds := rfl
@[simp] theorem State.withVms_cans (s : State) (v : SMap VMaster) : (s.withVms v).cans = s.cans := rfl
@[simp] theorem State.withVms_fins (s : State) (v : SMap VMaster) : (s.withVms v).fins = s.fins := rfl
@[simp] theorem State.withVms_tel (s : State) (v : SMap VMaster) : (s.withVms v).tel = s.tel := rfl
@[simp] theorem State.withVms_ctxCopy (s : State) (v : SMap VMaster) : (s.withVms v).ctxCopy = s.ctxCopy := rfl
@[simp] theorem State.withVms_wears (s : State) (v : SMap VMaster) : (s.withVms v).wears = s.wears := rfl
@[simp] theorem State.withVms_wearQ (s : State) (v : SMap VMaster) : (s.withVms v).wearQ = s.wearQ := rfl
@[simp] theorem State.withVms_wearPart (s : State) (v : SMap VMaster) : (s.withVms v).wearPart = s.wearPart := rfl
@[simp] theorem State.withVms_weir (s : State) (v : SMap VMaster) : (s.withVms v).weir = s.weir := rfl
@[simp] theorem State.withVms_mode (s : State) (v : SMap VMaster) : (s.withVms v).mode = s.mode := rfl
@[simp] theorem State.withVms_clk (s : State) (v : SMap VMaster) : (s.withVms v).clk = s.clk := rfl
@[simp] theorem State.withVms_pins (s : State) (v : SMap VMaster) : (s.withVms v).pins = s.pins := rfl
@[simp] theorem State.withVms_free (s : State) (v : SMap VMaster) : (s.withVms v).free = s.free := rfl
@[simp] theorem State.withVms_pending (s : State) (v : SMap VMaster) : (s.withVms v).pending = s.pending := rfl
@[simp] theorem State.withNet_regs (s : State) (v : NetState) : (s.withNet v).regs = s.regs := rfl
@[simp] theorem State.withNet_mem (s : State) (v : NetState) : (s.withNet v).mem = s.mem := rfl
@[simp] theorem State.withNet_flash (s : State) (v : NetState) : (s.withNet v).flash = s.flash := rfl
@[simp] theorem State.withNet_chans (s : State) (v : NetState) : (s.withNet v).chans = s.chans := rfl
@[simp] theorem State.withNet_mbxTurn (s : State) (v : NetState) : (s.withNet v).mbxTurn = s.mbxTurn := rfl
@[simp] theorem State.withNet_sessions (s : State) (v : NetState) : (s.withNet v).sessions = s.sessions := rfl
@[simp] theorem State.withNet_hpOut (s : State) (v : NetState) : (s.withNet v).hpOut = s.hpOut := rfl
@[simp] theorem State.withNet_netOut (s : State) (v : NetState) : (s.withNet v).netOut = s.netOut := rfl
@[simp] theorem State.withNet_sec (s : State) (v : NetState) : (s.withNet v).sec = s.sec := rfl
@[simp] theorem State.withNet_groups (s : State) (v : NetState) : (s.withNet v).groups = s.groups := rfl
@[simp] theorem State.withNet_legs (s : State) (v : NetState) : (s.withNet v).legs = s.legs := rfl
@[simp] theorem State.withNet_scheds (s : State) (v : NetState) : (s.withNet v).scheds = s.scheds := rfl
@[simp] theorem State.withNet_carriers (s : State) (v : NetState) : (s.withNet v).carriers = s.carriers := rfl
@[simp] theorem State.withNet_timers (s : State) (v : NetState) : (s.withNet v).timers = s.timers := rfl
@[simp] theorem State.withNet_links (s : State) (v : NetState) : (s.withNet v).links = s.links := rfl
@[simp] theorem State.withNet_engines (s : State) (v : NetState) : (s.withNet v).engines = s.engines := rfl
@[simp] theorem State.withNet_slots (s : State) (v : NetState) : (s.withNet v).slots = s.slots := rfl
@[simp] theorem State.withNet_tags (s : State) (v : NetState) : (s.withNet v).tags = s.tags := rfl
@[simp] theorem State.withNet_inputs (s : State) (v : NetState) : (s.withNet v).inputs = s.inputs := rfl
@[simp] theorem State.withNet_latches (s : State) (v : NetState) : (s.withNet v).latches = s.latches := rfl
@[simp] theorem State.withNet_caps (s : State) (v : NetState) : (s.withNet v).caps = s.caps := rfl
@[simp] theorem State.withNet_casc (s : State) (v : NetState) : (s.withNet v).casc = s.casc := rfl
@[simp] theorem State.withNet_engLoad (s : State) (v : NetState) : (s.withNet v).engLoad = s.engLoad := rfl
@[simp] theorem State.withNet_engImgs (s : State) (v : NetState) : (s.withNet v).engImgs = s.engImgs := rfl
@[simp] theorem State.withNet_sdChans (s : State) (v : NetState) : (s.withNet v).sdChans = s.sdChans := rfl
@[simp] theorem State.withNet_adcSeqs (s : State) (v : NetState) : (s.withNet v).adcSeqs = s.adcSeqs := rfl
@[simp] theorem State.withNet_sense (s : State) (v : NetState) : (s.withNet v).sense = s.sense := rfl
@[simp] theorem State.withNet_axes (s : State) (v : NetState) : (s.withNet v).axes = s.axes := rfl
@[simp] theorem State.withNet_profiles (s : State) (v : NetState) : (s.withNet v).profiles = s.profiles := rfl
@[simp] theorem State.withNet_vms (s : State) (v : NetState) : (s.withNet v).vms = s.vms := rfl
@[simp] theorem State.withNet_net (s : State) (v : NetState) : (s.withNet v).net = v := rfl
@[simp] theorem State.withNet_binds (s : State) (v : NetState) : (s.withNet v).binds = s.binds := rfl
@[simp] theorem State.withNet_cans (s : State) (v : NetState) : (s.withNet v).cans = s.cans := rfl
@[simp] theorem State.withNet_fins (s : State) (v : NetState) : (s.withNet v).fins = s.fins := rfl
@[simp] theorem State.withNet_tel (s : State) (v : NetState) : (s.withNet v).tel = s.tel := rfl
@[simp] theorem State.withNet_ctxCopy (s : State) (v : NetState) : (s.withNet v).ctxCopy = s.ctxCopy := rfl
@[simp] theorem State.withNet_wears (s : State) (v : NetState) : (s.withNet v).wears = s.wears := rfl
@[simp] theorem State.withNet_wearQ (s : State) (v : NetState) : (s.withNet v).wearQ = s.wearQ := rfl
@[simp] theorem State.withNet_wearPart (s : State) (v : NetState) : (s.withNet v).wearPart = s.wearPart := rfl
@[simp] theorem State.withNet_weir (s : State) (v : NetState) : (s.withNet v).weir = s.weir := rfl
@[simp] theorem State.withNet_mode (s : State) (v : NetState) : (s.withNet v).mode = s.mode := rfl
@[simp] theorem State.withNet_clk (s : State) (v : NetState) : (s.withNet v).clk = s.clk := rfl
@[simp] theorem State.withNet_pins (s : State) (v : NetState) : (s.withNet v).pins = s.pins := rfl
@[simp] theorem State.withNet_free (s : State) (v : NetState) : (s.withNet v).free = s.free := rfl
@[simp] theorem State.withNet_pending (s : State) (v : NetState) : (s.withNet v).pending = s.pending := rfl
@[simp] theorem State.withBinds_regs (s : State) (v : SMap VmBind) : (s.withBinds v).regs = s.regs := rfl
@[simp] theorem State.withBinds_mem (s : State) (v : SMap VmBind) : (s.withBinds v).mem = s.mem := rfl
@[simp] theorem State.withBinds_flash (s : State) (v : SMap VmBind) : (s.withBinds v).flash = s.flash := rfl
@[simp] theorem State.withBinds_chans (s : State) (v : SMap VmBind) : (s.withBinds v).chans = s.chans := rfl
@[simp] theorem State.withBinds_mbxTurn (s : State) (v : SMap VmBind) : (s.withBinds v).mbxTurn = s.mbxTurn := rfl
@[simp] theorem State.withBinds_sessions (s : State) (v : SMap VmBind) : (s.withBinds v).sessions = s.sessions := rfl
@[simp] theorem State.withBinds_hpOut (s : State) (v : SMap VmBind) : (s.withBinds v).hpOut = s.hpOut := rfl
@[simp] theorem State.withBinds_netOut (s : State) (v : SMap VmBind) : (s.withBinds v).netOut = s.netOut := rfl
@[simp] theorem State.withBinds_sec (s : State) (v : SMap VmBind) : (s.withBinds v).sec = s.sec := rfl
@[simp] theorem State.withBinds_groups (s : State) (v : SMap VmBind) : (s.withBinds v).groups = s.groups := rfl
@[simp] theorem State.withBinds_legs (s : State) (v : SMap VmBind) : (s.withBinds v).legs = s.legs := rfl
@[simp] theorem State.withBinds_scheds (s : State) (v : SMap VmBind) : (s.withBinds v).scheds = s.scheds := rfl
@[simp] theorem State.withBinds_carriers (s : State) (v : SMap VmBind) : (s.withBinds v).carriers = s.carriers := rfl
@[simp] theorem State.withBinds_timers (s : State) (v : SMap VmBind) : (s.withBinds v).timers = s.timers := rfl
@[simp] theorem State.withBinds_links (s : State) (v : SMap VmBind) : (s.withBinds v).links = s.links := rfl
@[simp] theorem State.withBinds_engines (s : State) (v : SMap VmBind) : (s.withBinds v).engines = s.engines := rfl
@[simp] theorem State.withBinds_slots (s : State) (v : SMap VmBind) : (s.withBinds v).slots = s.slots := rfl
@[simp] theorem State.withBinds_tags (s : State) (v : SMap VmBind) : (s.withBinds v).tags = s.tags := rfl
@[simp] theorem State.withBinds_inputs (s : State) (v : SMap VmBind) : (s.withBinds v).inputs = s.inputs := rfl
@[simp] theorem State.withBinds_latches (s : State) (v : SMap VmBind) : (s.withBinds v).latches = s.latches := rfl
@[simp] theorem State.withBinds_caps (s : State) (v : SMap VmBind) : (s.withBinds v).caps = s.caps := rfl
@[simp] theorem State.withBinds_casc (s : State) (v : SMap VmBind) : (s.withBinds v).casc = s.casc := rfl
@[simp] theorem State.withBinds_engLoad (s : State) (v : SMap VmBind) : (s.withBinds v).engLoad = s.engLoad := rfl
@[simp] theorem State.withBinds_engImgs (s : State) (v : SMap VmBind) : (s.withBinds v).engImgs = s.engImgs := rfl
@[simp] theorem State.withBinds_sdChans (s : State) (v : SMap VmBind) : (s.withBinds v).sdChans = s.sdChans := rfl
@[simp] theorem State.withBinds_adcSeqs (s : State) (v : SMap VmBind) : (s.withBinds v).adcSeqs = s.adcSeqs := rfl
@[simp] theorem State.withBinds_sense (s : State) (v : SMap VmBind) : (s.withBinds v).sense = s.sense := rfl
@[simp] theorem State.withBinds_axes (s : State) (v : SMap VmBind) : (s.withBinds v).axes = s.axes := rfl
@[simp] theorem State.withBinds_profiles (s : State) (v : SMap VmBind) : (s.withBinds v).profiles = s.profiles := rfl
@[simp] theorem State.withBinds_vms (s : State) (v : SMap VmBind) : (s.withBinds v).vms = s.vms := rfl
@[simp] theorem State.withBinds_net (s : State) (v : SMap VmBind) : (s.withBinds v).net = s.net := rfl
@[simp] theorem State.withBinds_binds (s : State) (v : SMap VmBind) : (s.withBinds v).binds = v := rfl
@[simp] theorem State.withBinds_cans (s : State) (v : SMap VmBind) : (s.withBinds v).cans = s.cans := rfl
@[simp] theorem State.withBinds_fins (s : State) (v : SMap VmBind) : (s.withBinds v).fins = s.fins := rfl
@[simp] theorem State.withBinds_tel (s : State) (v : SMap VmBind) : (s.withBinds v).tel = s.tel := rfl
@[simp] theorem State.withBinds_ctxCopy (s : State) (v : SMap VmBind) : (s.withBinds v).ctxCopy = s.ctxCopy := rfl
@[simp] theorem State.withBinds_wears (s : State) (v : SMap VmBind) : (s.withBinds v).wears = s.wears := rfl
@[simp] theorem State.withBinds_wearQ (s : State) (v : SMap VmBind) : (s.withBinds v).wearQ = s.wearQ := rfl
@[simp] theorem State.withBinds_wearPart (s : State) (v : SMap VmBind) : (s.withBinds v).wearPart = s.wearPart := rfl
@[simp] theorem State.withBinds_weir (s : State) (v : SMap VmBind) : (s.withBinds v).weir = s.weir := rfl
@[simp] theorem State.withBinds_mode (s : State) (v : SMap VmBind) : (s.withBinds v).mode = s.mode := rfl
@[simp] theorem State.withBinds_clk (s : State) (v : SMap VmBind) : (s.withBinds v).clk = s.clk := rfl
@[simp] theorem State.withBinds_pins (s : State) (v : SMap VmBind) : (s.withBinds v).pins = s.pins := rfl
@[simp] theorem State.withBinds_free (s : State) (v : SMap VmBind) : (s.withBinds v).free = s.free := rfl
@[simp] theorem State.withBinds_pending (s : State) (v : SMap VmBind) : (s.withBinds v).pending = s.pending := rfl
@[simp] theorem State.withCans_regs (s : State) (v : SMap CanNode) : (s.withCans v).regs = s.regs := rfl
@[simp] theorem State.withCans_mem (s : State) (v : SMap CanNode) : (s.withCans v).mem = s.mem := rfl
@[simp] theorem State.withCans_flash (s : State) (v : SMap CanNode) : (s.withCans v).flash = s.flash := rfl
@[simp] theorem State.withCans_chans (s : State) (v : SMap CanNode) : (s.withCans v).chans = s.chans := rfl
@[simp] theorem State.withCans_mbxTurn (s : State) (v : SMap CanNode) : (s.withCans v).mbxTurn = s.mbxTurn := rfl
@[simp] theorem State.withCans_sessions (s : State) (v : SMap CanNode) : (s.withCans v).sessions = s.sessions := rfl
@[simp] theorem State.withCans_hpOut (s : State) (v : SMap CanNode) : (s.withCans v).hpOut = s.hpOut := rfl
@[simp] theorem State.withCans_netOut (s : State) (v : SMap CanNode) : (s.withCans v).netOut = s.netOut := rfl
@[simp] theorem State.withCans_sec (s : State) (v : SMap CanNode) : (s.withCans v).sec = s.sec := rfl
@[simp] theorem State.withCans_groups (s : State) (v : SMap CanNode) : (s.withCans v).groups = s.groups := rfl
@[simp] theorem State.withCans_legs (s : State) (v : SMap CanNode) : (s.withCans v).legs = s.legs := rfl
@[simp] theorem State.withCans_scheds (s : State) (v : SMap CanNode) : (s.withCans v).scheds = s.scheds := rfl
@[simp] theorem State.withCans_carriers (s : State) (v : SMap CanNode) : (s.withCans v).carriers = s.carriers := rfl
@[simp] theorem State.withCans_timers (s : State) (v : SMap CanNode) : (s.withCans v).timers = s.timers := rfl
@[simp] theorem State.withCans_links (s : State) (v : SMap CanNode) : (s.withCans v).links = s.links := rfl
@[simp] theorem State.withCans_engines (s : State) (v : SMap CanNode) : (s.withCans v).engines = s.engines := rfl
@[simp] theorem State.withCans_slots (s : State) (v : SMap CanNode) : (s.withCans v).slots = s.slots := rfl
@[simp] theorem State.withCans_tags (s : State) (v : SMap CanNode) : (s.withCans v).tags = s.tags := rfl
@[simp] theorem State.withCans_inputs (s : State) (v : SMap CanNode) : (s.withCans v).inputs = s.inputs := rfl
@[simp] theorem State.withCans_latches (s : State) (v : SMap CanNode) : (s.withCans v).latches = s.latches := rfl
@[simp] theorem State.withCans_caps (s : State) (v : SMap CanNode) : (s.withCans v).caps = s.caps := rfl
@[simp] theorem State.withCans_casc (s : State) (v : SMap CanNode) : (s.withCans v).casc = s.casc := rfl
@[simp] theorem State.withCans_engLoad (s : State) (v : SMap CanNode) : (s.withCans v).engLoad = s.engLoad := rfl
@[simp] theorem State.withCans_engImgs (s : State) (v : SMap CanNode) : (s.withCans v).engImgs = s.engImgs := rfl
@[simp] theorem State.withCans_sdChans (s : State) (v : SMap CanNode) : (s.withCans v).sdChans = s.sdChans := rfl
@[simp] theorem State.withCans_adcSeqs (s : State) (v : SMap CanNode) : (s.withCans v).adcSeqs = s.adcSeqs := rfl
@[simp] theorem State.withCans_sense (s : State) (v : SMap CanNode) : (s.withCans v).sense = s.sense := rfl
@[simp] theorem State.withCans_axes (s : State) (v : SMap CanNode) : (s.withCans v).axes = s.axes := rfl
@[simp] theorem State.withCans_profiles (s : State) (v : SMap CanNode) : (s.withCans v).profiles = s.profiles := rfl
@[simp] theorem State.withCans_vms (s : State) (v : SMap CanNode) : (s.withCans v).vms = s.vms := rfl
@[simp] theorem State.withCans_net (s : State) (v : SMap CanNode) : (s.withCans v).net = s.net := rfl
@[simp] theorem State.withCans_binds (s : State) (v : SMap CanNode) : (s.withCans v).binds = s.binds := rfl
@[simp] theorem State.withCans_cans (s : State) (v : SMap CanNode) : (s.withCans v).cans = v := rfl
@[simp] theorem State.withCans_fins (s : State) (v : SMap CanNode) : (s.withCans v).fins = s.fins := rfl
@[simp] theorem State.withCans_tel (s : State) (v : SMap CanNode) : (s.withCans v).tel = s.tel := rfl
@[simp] theorem State.withCans_ctxCopy (s : State) (v : SMap CanNode) : (s.withCans v).ctxCopy = s.ctxCopy := rfl
@[simp] theorem State.withCans_wears (s : State) (v : SMap CanNode) : (s.withCans v).wears = s.wears := rfl
@[simp] theorem State.withCans_wearQ (s : State) (v : SMap CanNode) : (s.withCans v).wearQ = s.wearQ := rfl
@[simp] theorem State.withCans_wearPart (s : State) (v : SMap CanNode) : (s.withCans v).wearPart = s.wearPart := rfl
@[simp] theorem State.withCans_weir (s : State) (v : SMap CanNode) : (s.withCans v).weir = s.weir := rfl
@[simp] theorem State.withCans_mode (s : State) (v : SMap CanNode) : (s.withCans v).mode = s.mode := rfl
@[simp] theorem State.withCans_clk (s : State) (v : SMap CanNode) : (s.withCans v).clk = s.clk := rfl
@[simp] theorem State.withCans_pins (s : State) (v : SMap CanNode) : (s.withCans v).pins = s.pins := rfl
@[simp] theorem State.withCans_free (s : State) (v : SMap CanNode) : (s.withCans v).free = s.free := rfl
@[simp] theorem State.withCans_pending (s : State) (v : SMap CanNode) : (s.withCans v).pending = s.pending := rfl
@[simp] theorem State.withFins_regs (s : State) (v : SMap FieldIn) : (s.withFins v).regs = s.regs := rfl
@[simp] theorem State.withFins_mem (s : State) (v : SMap FieldIn) : (s.withFins v).mem = s.mem := rfl
@[simp] theorem State.withFins_flash (s : State) (v : SMap FieldIn) : (s.withFins v).flash = s.flash := rfl
@[simp] theorem State.withFins_chans (s : State) (v : SMap FieldIn) : (s.withFins v).chans = s.chans := rfl
@[simp] theorem State.withFins_mbxTurn (s : State) (v : SMap FieldIn) : (s.withFins v).mbxTurn = s.mbxTurn := rfl
@[simp] theorem State.withFins_sessions (s : State) (v : SMap FieldIn) : (s.withFins v).sessions = s.sessions := rfl
@[simp] theorem State.withFins_hpOut (s : State) (v : SMap FieldIn) : (s.withFins v).hpOut = s.hpOut := rfl
@[simp] theorem State.withFins_netOut (s : State) (v : SMap FieldIn) : (s.withFins v).netOut = s.netOut := rfl
@[simp] theorem State.withFins_sec (s : State) (v : SMap FieldIn) : (s.withFins v).sec = s.sec := rfl
@[simp] theorem State.withFins_groups (s : State) (v : SMap FieldIn) : (s.withFins v).groups = s.groups := rfl
@[simp] theorem State.withFins_legs (s : State) (v : SMap FieldIn) : (s.withFins v).legs = s.legs := rfl
@[simp] theorem State.withFins_scheds (s : State) (v : SMap FieldIn) : (s.withFins v).scheds = s.scheds := rfl
@[simp] theorem State.withFins_carriers (s : State) (v : SMap FieldIn) : (s.withFins v).carriers = s.carriers := rfl
@[simp] theorem State.withFins_timers (s : State) (v : SMap FieldIn) : (s.withFins v).timers = s.timers := rfl
@[simp] theorem State.withFins_links (s : State) (v : SMap FieldIn) : (s.withFins v).links = s.links := rfl
@[simp] theorem State.withFins_engines (s : State) (v : SMap FieldIn) : (s.withFins v).engines = s.engines := rfl
@[simp] theorem State.withFins_slots (s : State) (v : SMap FieldIn) : (s.withFins v).slots = s.slots := rfl
@[simp] theorem State.withFins_tags (s : State) (v : SMap FieldIn) : (s.withFins v).tags = s.tags := rfl
@[simp] theorem State.withFins_inputs (s : State) (v : SMap FieldIn) : (s.withFins v).inputs = s.inputs := rfl
@[simp] theorem State.withFins_latches (s : State) (v : SMap FieldIn) : (s.withFins v).latches = s.latches := rfl
@[simp] theorem State.withFins_caps (s : State) (v : SMap FieldIn) : (s.withFins v).caps = s.caps := rfl
@[simp] theorem State.withFins_casc (s : State) (v : SMap FieldIn) : (s.withFins v).casc = s.casc := rfl
@[simp] theorem State.withFins_engLoad (s : State) (v : SMap FieldIn) : (s.withFins v).engLoad = s.engLoad := rfl
@[simp] theorem State.withFins_engImgs (s : State) (v : SMap FieldIn) : (s.withFins v).engImgs = s.engImgs := rfl
@[simp] theorem State.withFins_sdChans (s : State) (v : SMap FieldIn) : (s.withFins v).sdChans = s.sdChans := rfl
@[simp] theorem State.withFins_adcSeqs (s : State) (v : SMap FieldIn) : (s.withFins v).adcSeqs = s.adcSeqs := rfl
@[simp] theorem State.withFins_sense (s : State) (v : SMap FieldIn) : (s.withFins v).sense = s.sense := rfl
@[simp] theorem State.withFins_axes (s : State) (v : SMap FieldIn) : (s.withFins v).axes = s.axes := rfl
@[simp] theorem State.withFins_profiles (s : State) (v : SMap FieldIn) : (s.withFins v).profiles = s.profiles := rfl
@[simp] theorem State.withFins_vms (s : State) (v : SMap FieldIn) : (s.withFins v).vms = s.vms := rfl
@[simp] theorem State.withFins_net (s : State) (v : SMap FieldIn) : (s.withFins v).net = s.net := rfl
@[simp] theorem State.withFins_binds (s : State) (v : SMap FieldIn) : (s.withFins v).binds = s.binds := rfl
@[simp] theorem State.withFins_cans (s : State) (v : SMap FieldIn) : (s.withFins v).cans = s.cans := rfl
@[simp] theorem State.withFins_fins (s : State) (v : SMap FieldIn) : (s.withFins v).fins = v := rfl
@[simp] theorem State.withFins_tel (s : State) (v : SMap FieldIn) : (s.withFins v).tel = s.tel := rfl
@[simp] theorem State.withFins_ctxCopy (s : State) (v : SMap FieldIn) : (s.withFins v).ctxCopy = s.ctxCopy := rfl
@[simp] theorem State.withFins_wears (s : State) (v : SMap FieldIn) : (s.withFins v).wears = s.wears := rfl
@[simp] theorem State.withFins_wearQ (s : State) (v : SMap FieldIn) : (s.withFins v).wearQ = s.wearQ := rfl
@[simp] theorem State.withFins_wearPart (s : State) (v : SMap FieldIn) : (s.withFins v).wearPart = s.wearPart := rfl
@[simp] theorem State.withFins_weir (s : State) (v : SMap FieldIn) : (s.withFins v).weir = s.weir := rfl
@[simp] theorem State.withFins_mode (s : State) (v : SMap FieldIn) : (s.withFins v).mode = s.mode := rfl
@[simp] theorem State.withFins_clk (s : State) (v : SMap FieldIn) : (s.withFins v).clk = s.clk := rfl
@[simp] theorem State.withFins_pins (s : State) (v : SMap FieldIn) : (s.withFins v).pins = s.pins := rfl
@[simp] theorem State.withFins_free (s : State) (v : SMap FieldIn) : (s.withFins v).free = s.free := rfl
@[simp] theorem State.withFins_pending (s : State) (v : SMap FieldIn) : (s.withFins v).pending = s.pending := rfl
@[simp] theorem State.withTel_regs (s : State) (v : Telem) : (s.withTel v).regs = s.regs := rfl
@[simp] theorem State.withTel_mem (s : State) (v : Telem) : (s.withTel v).mem = s.mem := rfl
@[simp] theorem State.withTel_flash (s : State) (v : Telem) : (s.withTel v).flash = s.flash := rfl
@[simp] theorem State.withTel_chans (s : State) (v : Telem) : (s.withTel v).chans = s.chans := rfl
@[simp] theorem State.withTel_mbxTurn (s : State) (v : Telem) : (s.withTel v).mbxTurn = s.mbxTurn := rfl
@[simp] theorem State.withTel_sessions (s : State) (v : Telem) : (s.withTel v).sessions = s.sessions := rfl
@[simp] theorem State.withTel_hpOut (s : State) (v : Telem) : (s.withTel v).hpOut = s.hpOut := rfl
@[simp] theorem State.withTel_netOut (s : State) (v : Telem) : (s.withTel v).netOut = s.netOut := rfl
@[simp] theorem State.withTel_sec (s : State) (v : Telem) : (s.withTel v).sec = s.sec := rfl
@[simp] theorem State.withTel_groups (s : State) (v : Telem) : (s.withTel v).groups = s.groups := rfl
@[simp] theorem State.withTel_legs (s : State) (v : Telem) : (s.withTel v).legs = s.legs := rfl
@[simp] theorem State.withTel_scheds (s : State) (v : Telem) : (s.withTel v).scheds = s.scheds := rfl
@[simp] theorem State.withTel_carriers (s : State) (v : Telem) : (s.withTel v).carriers = s.carriers := rfl
@[simp] theorem State.withTel_timers (s : State) (v : Telem) : (s.withTel v).timers = s.timers := rfl
@[simp] theorem State.withTel_links (s : State) (v : Telem) : (s.withTel v).links = s.links := rfl
@[simp] theorem State.withTel_engines (s : State) (v : Telem) : (s.withTel v).engines = s.engines := rfl
@[simp] theorem State.withTel_slots (s : State) (v : Telem) : (s.withTel v).slots = s.slots := rfl
@[simp] theorem State.withTel_tags (s : State) (v : Telem) : (s.withTel v).tags = s.tags := rfl
@[simp] theorem State.withTel_inputs (s : State) (v : Telem) : (s.withTel v).inputs = s.inputs := rfl
@[simp] theorem State.withTel_latches (s : State) (v : Telem) : (s.withTel v).latches = s.latches := rfl
@[simp] theorem State.withTel_caps (s : State) (v : Telem) : (s.withTel v).caps = s.caps := rfl
@[simp] theorem State.withTel_casc (s : State) (v : Telem) : (s.withTel v).casc = s.casc := rfl
@[simp] theorem State.withTel_engLoad (s : State) (v : Telem) : (s.withTel v).engLoad = s.engLoad := rfl
@[simp] theorem State.withTel_engImgs (s : State) (v : Telem) : (s.withTel v).engImgs = s.engImgs := rfl
@[simp] theorem State.withTel_sdChans (s : State) (v : Telem) : (s.withTel v).sdChans = s.sdChans := rfl
@[simp] theorem State.withTel_adcSeqs (s : State) (v : Telem) : (s.withTel v).adcSeqs = s.adcSeqs := rfl
@[simp] theorem State.withTel_sense (s : State) (v : Telem) : (s.withTel v).sense = s.sense := rfl
@[simp] theorem State.withTel_axes (s : State) (v : Telem) : (s.withTel v).axes = s.axes := rfl
@[simp] theorem State.withTel_profiles (s : State) (v : Telem) : (s.withTel v).profiles = s.profiles := rfl
@[simp] theorem State.withTel_vms (s : State) (v : Telem) : (s.withTel v).vms = s.vms := rfl
@[simp] theorem State.withTel_net (s : State) (v : Telem) : (s.withTel v).net = s.net := rfl
@[simp] theorem State.withTel_binds (s : State) (v : Telem) : (s.withTel v).binds = s.binds := rfl
@[simp] theorem State.withTel_cans (s : State) (v : Telem) : (s.withTel v).cans = s.cans := rfl
@[simp] theorem State.withTel_fins (s : State) (v : Telem) : (s.withTel v).fins = s.fins := rfl
@[simp] theorem State.withTel_tel (s : State) (v : Telem) : (s.withTel v).tel = v := rfl
@[simp] theorem State.withTel_ctxCopy (s : State) (v : Telem) : (s.withTel v).ctxCopy = s.ctxCopy := rfl
@[simp] theorem State.withTel_wears (s : State) (v : Telem) : (s.withTel v).wears = s.wears := rfl
@[simp] theorem State.withTel_wearQ (s : State) (v : Telem) : (s.withTel v).wearQ = s.wearQ := rfl
@[simp] theorem State.withTel_wearPart (s : State) (v : Telem) : (s.withTel v).wearPart = s.wearPart := rfl
@[simp] theorem State.withTel_weir (s : State) (v : Telem) : (s.withTel v).weir = s.weir := rfl
@[simp] theorem State.withTel_mode (s : State) (v : Telem) : (s.withTel v).mode = s.mode := rfl
@[simp] theorem State.withTel_clk (s : State) (v : Telem) : (s.withTel v).clk = s.clk := rfl
@[simp] theorem State.withTel_pins (s : State) (v : Telem) : (s.withTel v).pins = s.pins := rfl
@[simp] theorem State.withTel_free (s : State) (v : Telem) : (s.withTel v).free = s.free := rfl
@[simp] theorem State.withTel_pending (s : State) (v : Telem) : (s.withTel v).pending = s.pending := rfl
@[simp] theorem State.withCtxCopy_regs (s : State) (v : SMap Word) : (s.withCtxCopy v).regs = s.regs := rfl
@[simp] theorem State.withCtxCopy_mem (s : State) (v : SMap Word) : (s.withCtxCopy v).mem = s.mem := rfl
@[simp] theorem State.withCtxCopy_flash (s : State) (v : SMap Word) : (s.withCtxCopy v).flash = s.flash := rfl
@[simp] theorem State.withCtxCopy_chans (s : State) (v : SMap Word) : (s.withCtxCopy v).chans = s.chans := rfl
@[simp] theorem State.withCtxCopy_mbxTurn (s : State) (v : SMap Word) : (s.withCtxCopy v).mbxTurn = s.mbxTurn := rfl
@[simp] theorem State.withCtxCopy_sessions (s : State) (v : SMap Word) : (s.withCtxCopy v).sessions = s.sessions := rfl
@[simp] theorem State.withCtxCopy_hpOut (s : State) (v : SMap Word) : (s.withCtxCopy v).hpOut = s.hpOut := rfl
@[simp] theorem State.withCtxCopy_netOut (s : State) (v : SMap Word) : (s.withCtxCopy v).netOut = s.netOut := rfl
@[simp] theorem State.withCtxCopy_sec (s : State) (v : SMap Word) : (s.withCtxCopy v).sec = s.sec := rfl
@[simp] theorem State.withCtxCopy_groups (s : State) (v : SMap Word) : (s.withCtxCopy v).groups = s.groups := rfl
@[simp] theorem State.withCtxCopy_legs (s : State) (v : SMap Word) : (s.withCtxCopy v).legs = s.legs := rfl
@[simp] theorem State.withCtxCopy_scheds (s : State) (v : SMap Word) : (s.withCtxCopy v).scheds = s.scheds := rfl
@[simp] theorem State.withCtxCopy_carriers (s : State) (v : SMap Word) : (s.withCtxCopy v).carriers = s.carriers := rfl
@[simp] theorem State.withCtxCopy_timers (s : State) (v : SMap Word) : (s.withCtxCopy v).timers = s.timers := rfl
@[simp] theorem State.withCtxCopy_links (s : State) (v : SMap Word) : (s.withCtxCopy v).links = s.links := rfl
@[simp] theorem State.withCtxCopy_engines (s : State) (v : SMap Word) : (s.withCtxCopy v).engines = s.engines := rfl
@[simp] theorem State.withCtxCopy_slots (s : State) (v : SMap Word) : (s.withCtxCopy v).slots = s.slots := rfl
@[simp] theorem State.withCtxCopy_tags (s : State) (v : SMap Word) : (s.withCtxCopy v).tags = s.tags := rfl
@[simp] theorem State.withCtxCopy_inputs (s : State) (v : SMap Word) : (s.withCtxCopy v).inputs = s.inputs := rfl
@[simp] theorem State.withCtxCopy_latches (s : State) (v : SMap Word) : (s.withCtxCopy v).latches = s.latches := rfl
@[simp] theorem State.withCtxCopy_caps (s : State) (v : SMap Word) : (s.withCtxCopy v).caps = s.caps := rfl
@[simp] theorem State.withCtxCopy_casc (s : State) (v : SMap Word) : (s.withCtxCopy v).casc = s.casc := rfl
@[simp] theorem State.withCtxCopy_engLoad (s : State) (v : SMap Word) : (s.withCtxCopy v).engLoad = s.engLoad := rfl
@[simp] theorem State.withCtxCopy_engImgs (s : State) (v : SMap Word) : (s.withCtxCopy v).engImgs = s.engImgs := rfl
@[simp] theorem State.withCtxCopy_sdChans (s : State) (v : SMap Word) : (s.withCtxCopy v).sdChans = s.sdChans := rfl
@[simp] theorem State.withCtxCopy_adcSeqs (s : State) (v : SMap Word) : (s.withCtxCopy v).adcSeqs = s.adcSeqs := rfl
@[simp] theorem State.withCtxCopy_sense (s : State) (v : SMap Word) : (s.withCtxCopy v).sense = s.sense := rfl
@[simp] theorem State.withCtxCopy_axes (s : State) (v : SMap Word) : (s.withCtxCopy v).axes = s.axes := rfl
@[simp] theorem State.withCtxCopy_profiles (s : State) (v : SMap Word) : (s.withCtxCopy v).profiles = s.profiles := rfl
@[simp] theorem State.withCtxCopy_vms (s : State) (v : SMap Word) : (s.withCtxCopy v).vms = s.vms := rfl
@[simp] theorem State.withCtxCopy_net (s : State) (v : SMap Word) : (s.withCtxCopy v).net = s.net := rfl
@[simp] theorem State.withCtxCopy_binds (s : State) (v : SMap Word) : (s.withCtxCopy v).binds = s.binds := rfl
@[simp] theorem State.withCtxCopy_cans (s : State) (v : SMap Word) : (s.withCtxCopy v).cans = s.cans := rfl
@[simp] theorem State.withCtxCopy_fins (s : State) (v : SMap Word) : (s.withCtxCopy v).fins = s.fins := rfl
@[simp] theorem State.withCtxCopy_tel (s : State) (v : SMap Word) : (s.withCtxCopy v).tel = s.tel := rfl
@[simp] theorem State.withCtxCopy_ctxCopy (s : State) (v : SMap Word) : (s.withCtxCopy v).ctxCopy = v := rfl
@[simp] theorem State.withCtxCopy_wears (s : State) (v : SMap Word) : (s.withCtxCopy v).wears = s.wears := rfl
@[simp] theorem State.withCtxCopy_wearQ (s : State) (v : SMap Word) : (s.withCtxCopy v).wearQ = s.wearQ := rfl
@[simp] theorem State.withCtxCopy_wearPart (s : State) (v : SMap Word) : (s.withCtxCopy v).wearPart = s.wearPart := rfl
@[simp] theorem State.withCtxCopy_weir (s : State) (v : SMap Word) : (s.withCtxCopy v).weir = s.weir := rfl
@[simp] theorem State.withCtxCopy_mode (s : State) (v : SMap Word) : (s.withCtxCopy v).mode = s.mode := rfl
@[simp] theorem State.withCtxCopy_clk (s : State) (v : SMap Word) : (s.withCtxCopy v).clk = s.clk := rfl
@[simp] theorem State.withCtxCopy_pins (s : State) (v : SMap Word) : (s.withCtxCopy v).pins = s.pins := rfl
@[simp] theorem State.withCtxCopy_free (s : State) (v : SMap Word) : (s.withCtxCopy v).free = s.free := rfl
@[simp] theorem State.withCtxCopy_pending (s : State) (v : SMap Word) : (s.withCtxCopy v).pending = s.pending := rfl
@[simp] theorem State.withWears_regs (s : State) (v : SMap WearPos) : (s.withWears v).regs = s.regs := rfl
@[simp] theorem State.withWears_mem (s : State) (v : SMap WearPos) : (s.withWears v).mem = s.mem := rfl
@[simp] theorem State.withWears_flash (s : State) (v : SMap WearPos) : (s.withWears v).flash = s.flash := rfl
@[simp] theorem State.withWears_chans (s : State) (v : SMap WearPos) : (s.withWears v).chans = s.chans := rfl
@[simp] theorem State.withWears_mbxTurn (s : State) (v : SMap WearPos) : (s.withWears v).mbxTurn = s.mbxTurn := rfl
@[simp] theorem State.withWears_sessions (s : State) (v : SMap WearPos) : (s.withWears v).sessions = s.sessions := rfl
@[simp] theorem State.withWears_hpOut (s : State) (v : SMap WearPos) : (s.withWears v).hpOut = s.hpOut := rfl
@[simp] theorem State.withWears_netOut (s : State) (v : SMap WearPos) : (s.withWears v).netOut = s.netOut := rfl
@[simp] theorem State.withWears_sec (s : State) (v : SMap WearPos) : (s.withWears v).sec = s.sec := rfl
@[simp] theorem State.withWears_groups (s : State) (v : SMap WearPos) : (s.withWears v).groups = s.groups := rfl
@[simp] theorem State.withWears_legs (s : State) (v : SMap WearPos) : (s.withWears v).legs = s.legs := rfl
@[simp] theorem State.withWears_scheds (s : State) (v : SMap WearPos) : (s.withWears v).scheds = s.scheds := rfl
@[simp] theorem State.withWears_carriers (s : State) (v : SMap WearPos) : (s.withWears v).carriers = s.carriers := rfl
@[simp] theorem State.withWears_timers (s : State) (v : SMap WearPos) : (s.withWears v).timers = s.timers := rfl
@[simp] theorem State.withWears_links (s : State) (v : SMap WearPos) : (s.withWears v).links = s.links := rfl
@[simp] theorem State.withWears_engines (s : State) (v : SMap WearPos) : (s.withWears v).engines = s.engines := rfl
@[simp] theorem State.withWears_slots (s : State) (v : SMap WearPos) : (s.withWears v).slots = s.slots := rfl
@[simp] theorem State.withWears_tags (s : State) (v : SMap WearPos) : (s.withWears v).tags = s.tags := rfl
@[simp] theorem State.withWears_inputs (s : State) (v : SMap WearPos) : (s.withWears v).inputs = s.inputs := rfl
@[simp] theorem State.withWears_latches (s : State) (v : SMap WearPos) : (s.withWears v).latches = s.latches := rfl
@[simp] theorem State.withWears_caps (s : State) (v : SMap WearPos) : (s.withWears v).caps = s.caps := rfl
@[simp] theorem State.withWears_casc (s : State) (v : SMap WearPos) : (s.withWears v).casc = s.casc := rfl
@[simp] theorem State.withWears_engLoad (s : State) (v : SMap WearPos) : (s.withWears v).engLoad = s.engLoad := rfl
@[simp] theorem State.withWears_engImgs (s : State) (v : SMap WearPos) : (s.withWears v).engImgs = s.engImgs := rfl
@[simp] theorem State.withWears_sdChans (s : State) (v : SMap WearPos) : (s.withWears v).sdChans = s.sdChans := rfl
@[simp] theorem State.withWears_adcSeqs (s : State) (v : SMap WearPos) : (s.withWears v).adcSeqs = s.adcSeqs := rfl
@[simp] theorem State.withWears_sense (s : State) (v : SMap WearPos) : (s.withWears v).sense = s.sense := rfl
@[simp] theorem State.withWears_axes (s : State) (v : SMap WearPos) : (s.withWears v).axes = s.axes := rfl
@[simp] theorem State.withWears_profiles (s : State) (v : SMap WearPos) : (s.withWears v).profiles = s.profiles := rfl
@[simp] theorem State.withWears_vms (s : State) (v : SMap WearPos) : (s.withWears v).vms = s.vms := rfl
@[simp] theorem State.withWears_net (s : State) (v : SMap WearPos) : (s.withWears v).net = s.net := rfl
@[simp] theorem State.withWears_binds (s : State) (v : SMap WearPos) : (s.withWears v).binds = s.binds := rfl
@[simp] theorem State.withWears_cans (s : State) (v : SMap WearPos) : (s.withWears v).cans = s.cans := rfl
@[simp] theorem State.withWears_fins (s : State) (v : SMap WearPos) : (s.withWears v).fins = s.fins := rfl
@[simp] theorem State.withWears_tel (s : State) (v : SMap WearPos) : (s.withWears v).tel = s.tel := rfl
@[simp] theorem State.withWears_ctxCopy (s : State) (v : SMap WearPos) : (s.withWears v).ctxCopy = s.ctxCopy := rfl
@[simp] theorem State.withWears_wears (s : State) (v : SMap WearPos) : (s.withWears v).wears = v := rfl
@[simp] theorem State.withWears_wearQ (s : State) (v : SMap WearPos) : (s.withWears v).wearQ = s.wearQ := rfl
@[simp] theorem State.withWears_wearPart (s : State) (v : SMap WearPos) : (s.withWears v).wearPart = s.wearPart := rfl
@[simp] theorem State.withWears_weir (s : State) (v : SMap WearPos) : (s.withWears v).weir = s.weir := rfl
@[simp] theorem State.withWears_mode (s : State) (v : SMap WearPos) : (s.withWears v).mode = s.mode := rfl
@[simp] theorem State.withWears_clk (s : State) (v : SMap WearPos) : (s.withWears v).clk = s.clk := rfl
@[simp] theorem State.withWears_pins (s : State) (v : SMap WearPos) : (s.withWears v).pins = s.pins := rfl
@[simp] theorem State.withWears_free (s : State) (v : SMap WearPos) : (s.withWears v).free = s.free := rfl
@[simp] theorem State.withWears_pending (s : State) (v : SMap WearPos) : (s.withWears v).pending = s.pending := rfl
@[simp] theorem State.withWearQ_regs (s : State) (v : List WearInc) : (s.withWearQ v).regs = s.regs := rfl
@[simp] theorem State.withWearQ_mem (s : State) (v : List WearInc) : (s.withWearQ v).mem = s.mem := rfl
@[simp] theorem State.withWearQ_flash (s : State) (v : List WearInc) : (s.withWearQ v).flash = s.flash := rfl
@[simp] theorem State.withWearQ_chans (s : State) (v : List WearInc) : (s.withWearQ v).chans = s.chans := rfl
@[simp] theorem State.withWearQ_mbxTurn (s : State) (v : List WearInc) : (s.withWearQ v).mbxTurn = s.mbxTurn := rfl
@[simp] theorem State.withWearQ_sessions (s : State) (v : List WearInc) : (s.withWearQ v).sessions = s.sessions := rfl
@[simp] theorem State.withWearQ_hpOut (s : State) (v : List WearInc) : (s.withWearQ v).hpOut = s.hpOut := rfl
@[simp] theorem State.withWearQ_netOut (s : State) (v : List WearInc) : (s.withWearQ v).netOut = s.netOut := rfl
@[simp] theorem State.withWearQ_sec (s : State) (v : List WearInc) : (s.withWearQ v).sec = s.sec := rfl
@[simp] theorem State.withWearQ_groups (s : State) (v : List WearInc) : (s.withWearQ v).groups = s.groups := rfl
@[simp] theorem State.withWearQ_legs (s : State) (v : List WearInc) : (s.withWearQ v).legs = s.legs := rfl
@[simp] theorem State.withWearQ_scheds (s : State) (v : List WearInc) : (s.withWearQ v).scheds = s.scheds := rfl
@[simp] theorem State.withWearQ_carriers (s : State) (v : List WearInc) : (s.withWearQ v).carriers = s.carriers := rfl
@[simp] theorem State.withWearQ_timers (s : State) (v : List WearInc) : (s.withWearQ v).timers = s.timers := rfl
@[simp] theorem State.withWearQ_links (s : State) (v : List WearInc) : (s.withWearQ v).links = s.links := rfl
@[simp] theorem State.withWearQ_engines (s : State) (v : List WearInc) : (s.withWearQ v).engines = s.engines := rfl
@[simp] theorem State.withWearQ_slots (s : State) (v : List WearInc) : (s.withWearQ v).slots = s.slots := rfl
@[simp] theorem State.withWearQ_tags (s : State) (v : List WearInc) : (s.withWearQ v).tags = s.tags := rfl
@[simp] theorem State.withWearQ_inputs (s : State) (v : List WearInc) : (s.withWearQ v).inputs = s.inputs := rfl
@[simp] theorem State.withWearQ_latches (s : State) (v : List WearInc) : (s.withWearQ v).latches = s.latches := rfl
@[simp] theorem State.withWearQ_caps (s : State) (v : List WearInc) : (s.withWearQ v).caps = s.caps := rfl
@[simp] theorem State.withWearQ_casc (s : State) (v : List WearInc) : (s.withWearQ v).casc = s.casc := rfl
@[simp] theorem State.withWearQ_engLoad (s : State) (v : List WearInc) : (s.withWearQ v).engLoad = s.engLoad := rfl
@[simp] theorem State.withWearQ_engImgs (s : State) (v : List WearInc) : (s.withWearQ v).engImgs = s.engImgs := rfl
@[simp] theorem State.withWearQ_sdChans (s : State) (v : List WearInc) : (s.withWearQ v).sdChans = s.sdChans := rfl
@[simp] theorem State.withWearQ_adcSeqs (s : State) (v : List WearInc) : (s.withWearQ v).adcSeqs = s.adcSeqs := rfl
@[simp] theorem State.withWearQ_sense (s : State) (v : List WearInc) : (s.withWearQ v).sense = s.sense := rfl
@[simp] theorem State.withWearQ_axes (s : State) (v : List WearInc) : (s.withWearQ v).axes = s.axes := rfl
@[simp] theorem State.withWearQ_profiles (s : State) (v : List WearInc) : (s.withWearQ v).profiles = s.profiles := rfl
@[simp] theorem State.withWearQ_vms (s : State) (v : List WearInc) : (s.withWearQ v).vms = s.vms := rfl
@[simp] theorem State.withWearQ_net (s : State) (v : List WearInc) : (s.withWearQ v).net = s.net := rfl
@[simp] theorem State.withWearQ_binds (s : State) (v : List WearInc) : (s.withWearQ v).binds = s.binds := rfl
@[simp] theorem State.withWearQ_cans (s : State) (v : List WearInc) : (s.withWearQ v).cans = s.cans := rfl
@[simp] theorem State.withWearQ_fins (s : State) (v : List WearInc) : (s.withWearQ v).fins = s.fins := rfl
@[simp] theorem State.withWearQ_tel (s : State) (v : List WearInc) : (s.withWearQ v).tel = s.tel := rfl
@[simp] theorem State.withWearQ_ctxCopy (s : State) (v : List WearInc) : (s.withWearQ v).ctxCopy = s.ctxCopy := rfl
@[simp] theorem State.withWearQ_wears (s : State) (v : List WearInc) : (s.withWearQ v).wears = s.wears := rfl
@[simp] theorem State.withWearQ_wearQ (s : State) (v : List WearInc) : (s.withWearQ v).wearQ = v := rfl
@[simp] theorem State.withWearQ_wearPart (s : State) (v : List WearInc) : (s.withWearQ v).wearPart = s.wearPart := rfl
@[simp] theorem State.withWearQ_weir (s : State) (v : List WearInc) : (s.withWearQ v).weir = s.weir := rfl
@[simp] theorem State.withWearQ_mode (s : State) (v : List WearInc) : (s.withWearQ v).mode = s.mode := rfl
@[simp] theorem State.withWearQ_clk (s : State) (v : List WearInc) : (s.withWearQ v).clk = s.clk := rfl
@[simp] theorem State.withWearQ_pins (s : State) (v : List WearInc) : (s.withWearQ v).pins = s.pins := rfl
@[simp] theorem State.withWearQ_free (s : State) (v : List WearInc) : (s.withWearQ v).free = s.free := rfl
@[simp] theorem State.withWearQ_pending (s : State) (v : List WearInc) : (s.withWearQ v).pending = s.pending := rfl
@[simp] theorem State.withWearPart_regs (s : State) (v : Option (Nat × List Byte)) : (s.withWearPart v).regs = s.regs := rfl
@[simp] theorem State.withWearPart_mem (s : State) (v : Option (Nat × List Byte)) : (s.withWearPart v).mem = s.mem := rfl
@[simp] theorem State.withWearPart_flash (s : State) (v : Option (Nat × List Byte)) : (s.withWearPart v).flash = s.flash := rfl
@[simp] theorem State.withWearPart_chans (s : State) (v : Option (Nat × List Byte)) : (s.withWearPart v).chans = s.chans := rfl
@[simp] theorem State.withWearPart_mbxTurn (s : State) (v : Option (Nat × List Byte)) : (s.withWearPart v).mbxTurn = s.mbxTurn := rfl
@[simp] theorem State.withWearPart_sessions (s : State) (v : Option (Nat × List Byte)) : (s.withWearPart v).sessions = s.sessions := rfl
@[simp] theorem State.withWearPart_hpOut (s : State) (v : Option (Nat × List Byte)) : (s.withWearPart v).hpOut = s.hpOut := rfl
@[simp] theorem State.withWearPart_netOut (s : State) (v : Option (Nat × List Byte)) : (s.withWearPart v).netOut = s.netOut := rfl
@[simp] theorem State.withWearPart_sec (s : State) (v : Option (Nat × List Byte)) : (s.withWearPart v).sec = s.sec := rfl
@[simp] theorem State.withWearPart_groups (s : State) (v : Option (Nat × List Byte)) : (s.withWearPart v).groups = s.groups := rfl
@[simp] theorem State.withWearPart_legs (s : State) (v : Option (Nat × List Byte)) : (s.withWearPart v).legs = s.legs := rfl
@[simp] theorem State.withWearPart_scheds (s : State) (v : Option (Nat × List Byte)) : (s.withWearPart v).scheds = s.scheds := rfl
@[simp] theorem State.withWearPart_carriers (s : State) (v : Option (Nat × List Byte)) : (s.withWearPart v).carriers = s.carriers := rfl
@[simp] theorem State.withWearPart_timers (s : State) (v : Option (Nat × List Byte)) : (s.withWearPart v).timers = s.timers := rfl
@[simp] theorem State.withWearPart_links (s : State) (v : Option (Nat × List Byte)) : (s.withWearPart v).links = s.links := rfl
@[simp] theorem State.withWearPart_engines (s : State) (v : Option (Nat × List Byte)) : (s.withWearPart v).engines = s.engines := rfl
@[simp] theorem State.withWearPart_slots (s : State) (v : Option (Nat × List Byte)) : (s.withWearPart v).slots = s.slots := rfl
@[simp] theorem State.withWearPart_tags (s : State) (v : Option (Nat × List Byte)) : (s.withWearPart v).tags = s.tags := rfl
@[simp] theorem State.withWearPart_inputs (s : State) (v : Option (Nat × List Byte)) : (s.withWearPart v).inputs = s.inputs := rfl
@[simp] theorem State.withWearPart_latches (s : State) (v : Option (Nat × List Byte)) : (s.withWearPart v).latches = s.latches := rfl
@[simp] theorem State.withWearPart_caps (s : State) (v : Option (Nat × List Byte)) : (s.withWearPart v).caps = s.caps := rfl
@[simp] theorem State.withWearPart_casc (s : State) (v : Option (Nat × List Byte)) : (s.withWearPart v).casc = s.casc := rfl
@[simp] theorem State.withWearPart_engLoad (s : State) (v : Option (Nat × List Byte)) : (s.withWearPart v).engLoad = s.engLoad := rfl
@[simp] theorem State.withWearPart_engImgs (s : State) (v : Option (Nat × List Byte)) : (s.withWearPart v).engImgs = s.engImgs := rfl
@[simp] theorem State.withWearPart_sdChans (s : State) (v : Option (Nat × List Byte)) : (s.withWearPart v).sdChans = s.sdChans := rfl
@[simp] theorem State.withWearPart_adcSeqs (s : State) (v : Option (Nat × List Byte)) : (s.withWearPart v).adcSeqs = s.adcSeqs := rfl
@[simp] theorem State.withWearPart_sense (s : State) (v : Option (Nat × List Byte)) : (s.withWearPart v).sense = s.sense := rfl
@[simp] theorem State.withWearPart_axes (s : State) (v : Option (Nat × List Byte)) : (s.withWearPart v).axes = s.axes := rfl
@[simp] theorem State.withWearPart_profiles (s : State) (v : Option (Nat × List Byte)) : (s.withWearPart v).profiles = s.profiles := rfl
@[simp] theorem State.withWearPart_vms (s : State) (v : Option (Nat × List Byte)) : (s.withWearPart v).vms = s.vms := rfl
@[simp] theorem State.withWearPart_net (s : State) (v : Option (Nat × List Byte)) : (s.withWearPart v).net = s.net := rfl
@[simp] theorem State.withWearPart_binds (s : State) (v : Option (Nat × List Byte)) : (s.withWearPart v).binds = s.binds := rfl
@[simp] theorem State.withWearPart_cans (s : State) (v : Option (Nat × List Byte)) : (s.withWearPart v).cans = s.cans := rfl
@[simp] theorem State.withWearPart_fins (s : State) (v : Option (Nat × List Byte)) : (s.withWearPart v).fins = s.fins := rfl
@[simp] theorem State.withWearPart_tel (s : State) (v : Option (Nat × List Byte)) : (s.withWearPart v).tel = s.tel := rfl
@[simp] theorem State.withWearPart_ctxCopy (s : State) (v : Option (Nat × List Byte)) : (s.withWearPart v).ctxCopy = s.ctxCopy := rfl
@[simp] theorem State.withWearPart_wears (s : State) (v : Option (Nat × List Byte)) : (s.withWearPart v).wears = s.wears := rfl
@[simp] theorem State.withWearPart_wearQ (s : State) (v : Option (Nat × List Byte)) : (s.withWearPart v).wearQ = s.wearQ := rfl
@[simp] theorem State.withWearPart_wearPart (s : State) (v : Option (Nat × List Byte)) : (s.withWearPart v).wearPart = v := rfl
@[simp] theorem State.withWearPart_weir (s : State) (v : Option (Nat × List Byte)) : (s.withWearPart v).weir = s.weir := rfl
@[simp] theorem State.withWearPart_mode (s : State) (v : Option (Nat × List Byte)) : (s.withWearPart v).mode = s.mode := rfl
@[simp] theorem State.withWearPart_clk (s : State) (v : Option (Nat × List Byte)) : (s.withWearPart v).clk = s.clk := rfl
@[simp] theorem State.withWearPart_pins (s : State) (v : Option (Nat × List Byte)) : (s.withWearPart v).pins = s.pins := rfl
@[simp] theorem State.withWearPart_free (s : State) (v : Option (Nat × List Byte)) : (s.withWearPart v).free = s.free := rfl
@[simp] theorem State.withWearPart_pending (s : State) (v : Option (Nat × List Byte)) : (s.withWearPart v).pending = s.pending := rfl
@[simp] theorem State.withWeir_regs (s : State) (v : WeirState) : (s.withWeir v).regs = s.regs := rfl
@[simp] theorem State.withWeir_mem (s : State) (v : WeirState) : (s.withWeir v).mem = s.mem := rfl
@[simp] theorem State.withWeir_flash (s : State) (v : WeirState) : (s.withWeir v).flash = s.flash := rfl
@[simp] theorem State.withWeir_chans (s : State) (v : WeirState) : (s.withWeir v).chans = s.chans := rfl
@[simp] theorem State.withWeir_mbxTurn (s : State) (v : WeirState) : (s.withWeir v).mbxTurn = s.mbxTurn := rfl
@[simp] theorem State.withWeir_sessions (s : State) (v : WeirState) : (s.withWeir v).sessions = s.sessions := rfl
@[simp] theorem State.withWeir_hpOut (s : State) (v : WeirState) : (s.withWeir v).hpOut = s.hpOut := rfl
@[simp] theorem State.withWeir_netOut (s : State) (v : WeirState) : (s.withWeir v).netOut = s.netOut := rfl
@[simp] theorem State.withWeir_sec (s : State) (v : WeirState) : (s.withWeir v).sec = s.sec := rfl
@[simp] theorem State.withWeir_groups (s : State) (v : WeirState) : (s.withWeir v).groups = s.groups := rfl
@[simp] theorem State.withWeir_legs (s : State) (v : WeirState) : (s.withWeir v).legs = s.legs := rfl
@[simp] theorem State.withWeir_scheds (s : State) (v : WeirState) : (s.withWeir v).scheds = s.scheds := rfl
@[simp] theorem State.withWeir_carriers (s : State) (v : WeirState) : (s.withWeir v).carriers = s.carriers := rfl
@[simp] theorem State.withWeir_timers (s : State) (v : WeirState) : (s.withWeir v).timers = s.timers := rfl
@[simp] theorem State.withWeir_links (s : State) (v : WeirState) : (s.withWeir v).links = s.links := rfl
@[simp] theorem State.withWeir_engines (s : State) (v : WeirState) : (s.withWeir v).engines = s.engines := rfl
@[simp] theorem State.withWeir_slots (s : State) (v : WeirState) : (s.withWeir v).slots = s.slots := rfl
@[simp] theorem State.withWeir_tags (s : State) (v : WeirState) : (s.withWeir v).tags = s.tags := rfl
@[simp] theorem State.withWeir_inputs (s : State) (v : WeirState) : (s.withWeir v).inputs = s.inputs := rfl
@[simp] theorem State.withWeir_latches (s : State) (v : WeirState) : (s.withWeir v).latches = s.latches := rfl
@[simp] theorem State.withWeir_caps (s : State) (v : WeirState) : (s.withWeir v).caps = s.caps := rfl
@[simp] theorem State.withWeir_casc (s : State) (v : WeirState) : (s.withWeir v).casc = s.casc := rfl
@[simp] theorem State.withWeir_engLoad (s : State) (v : WeirState) : (s.withWeir v).engLoad = s.engLoad := rfl
@[simp] theorem State.withWeir_engImgs (s : State) (v : WeirState) : (s.withWeir v).engImgs = s.engImgs := rfl
@[simp] theorem State.withWeir_sdChans (s : State) (v : WeirState) : (s.withWeir v).sdChans = s.sdChans := rfl
@[simp] theorem State.withWeir_adcSeqs (s : State) (v : WeirState) : (s.withWeir v).adcSeqs = s.adcSeqs := rfl
@[simp] theorem State.withWeir_sense (s : State) (v : WeirState) : (s.withWeir v).sense = s.sense := rfl
@[simp] theorem State.withWeir_axes (s : State) (v : WeirState) : (s.withWeir v).axes = s.axes := rfl
@[simp] theorem State.withWeir_profiles (s : State) (v : WeirState) : (s.withWeir v).profiles = s.profiles := rfl
@[simp] theorem State.withWeir_vms (s : State) (v : WeirState) : (s.withWeir v).vms = s.vms := rfl
@[simp] theorem State.withWeir_net (s : State) (v : WeirState) : (s.withWeir v).net = s.net := rfl
@[simp] theorem State.withWeir_binds (s : State) (v : WeirState) : (s.withWeir v).binds = s.binds := rfl
@[simp] theorem State.withWeir_cans (s : State) (v : WeirState) : (s.withWeir v).cans = s.cans := rfl
@[simp] theorem State.withWeir_fins (s : State) (v : WeirState) : (s.withWeir v).fins = s.fins := rfl
@[simp] theorem State.withWeir_tel (s : State) (v : WeirState) : (s.withWeir v).tel = s.tel := rfl
@[simp] theorem State.withWeir_ctxCopy (s : State) (v : WeirState) : (s.withWeir v).ctxCopy = s.ctxCopy := rfl
@[simp] theorem State.withWeir_wears (s : State) (v : WeirState) : (s.withWeir v).wears = s.wears := rfl
@[simp] theorem State.withWeir_wearQ (s : State) (v : WeirState) : (s.withWeir v).wearQ = s.wearQ := rfl
@[simp] theorem State.withWeir_wearPart (s : State) (v : WeirState) : (s.withWeir v).wearPart = s.wearPart := rfl
@[simp] theorem State.withWeir_weir (s : State) (v : WeirState) : (s.withWeir v).weir = v := rfl
@[simp] theorem State.withWeir_mode (s : State) (v : WeirState) : (s.withWeir v).mode = s.mode := rfl
@[simp] theorem State.withWeir_clk (s : State) (v : WeirState) : (s.withWeir v).clk = s.clk := rfl
@[simp] theorem State.withWeir_pins (s : State) (v : WeirState) : (s.withWeir v).pins = s.pins := rfl
@[simp] theorem State.withWeir_free (s : State) (v : WeirState) : (s.withWeir v).free = s.free := rfl
@[simp] theorem State.withWeir_pending (s : State) (v : WeirState) : (s.withWeir v).pending = s.pending := rfl
@[simp] theorem State.withMode_regs (s : State) (v : ModeState) : (s.withMode v).regs = s.regs := rfl
@[simp] theorem State.withMode_mem (s : State) (v : ModeState) : (s.withMode v).mem = s.mem := rfl
@[simp] theorem State.withMode_flash (s : State) (v : ModeState) : (s.withMode v).flash = s.flash := rfl
@[simp] theorem State.withMode_chans (s : State) (v : ModeState) : (s.withMode v).chans = s.chans := rfl
@[simp] theorem State.withMode_mbxTurn (s : State) (v : ModeState) : (s.withMode v).mbxTurn = s.mbxTurn := rfl
@[simp] theorem State.withMode_sessions (s : State) (v : ModeState) : (s.withMode v).sessions = s.sessions := rfl
@[simp] theorem State.withMode_hpOut (s : State) (v : ModeState) : (s.withMode v).hpOut = s.hpOut := rfl
@[simp] theorem State.withMode_netOut (s : State) (v : ModeState) : (s.withMode v).netOut = s.netOut := rfl
@[simp] theorem State.withMode_sec (s : State) (v : ModeState) : (s.withMode v).sec = s.sec := rfl
@[simp] theorem State.withMode_groups (s : State) (v : ModeState) : (s.withMode v).groups = s.groups := rfl
@[simp] theorem State.withMode_legs (s : State) (v : ModeState) : (s.withMode v).legs = s.legs := rfl
@[simp] theorem State.withMode_scheds (s : State) (v : ModeState) : (s.withMode v).scheds = s.scheds := rfl
@[simp] theorem State.withMode_carriers (s : State) (v : ModeState) : (s.withMode v).carriers = s.carriers := rfl
@[simp] theorem State.withMode_timers (s : State) (v : ModeState) : (s.withMode v).timers = s.timers := rfl
@[simp] theorem State.withMode_links (s : State) (v : ModeState) : (s.withMode v).links = s.links := rfl
@[simp] theorem State.withMode_engines (s : State) (v : ModeState) : (s.withMode v).engines = s.engines := rfl
@[simp] theorem State.withMode_slots (s : State) (v : ModeState) : (s.withMode v).slots = s.slots := rfl
@[simp] theorem State.withMode_tags (s : State) (v : ModeState) : (s.withMode v).tags = s.tags := rfl
@[simp] theorem State.withMode_inputs (s : State) (v : ModeState) : (s.withMode v).inputs = s.inputs := rfl
@[simp] theorem State.withMode_latches (s : State) (v : ModeState) : (s.withMode v).latches = s.latches := rfl
@[simp] theorem State.withMode_caps (s : State) (v : ModeState) : (s.withMode v).caps = s.caps := rfl
@[simp] theorem State.withMode_casc (s : State) (v : ModeState) : (s.withMode v).casc = s.casc := rfl
@[simp] theorem State.withMode_engLoad (s : State) (v : ModeState) : (s.withMode v).engLoad = s.engLoad := rfl
@[simp] theorem State.withMode_engImgs (s : State) (v : ModeState) : (s.withMode v).engImgs = s.engImgs := rfl
@[simp] theorem State.withMode_sdChans (s : State) (v : ModeState) : (s.withMode v).sdChans = s.sdChans := rfl
@[simp] theorem State.withMode_adcSeqs (s : State) (v : ModeState) : (s.withMode v).adcSeqs = s.adcSeqs := rfl
@[simp] theorem State.withMode_sense (s : State) (v : ModeState) : (s.withMode v).sense = s.sense := rfl
@[simp] theorem State.withMode_axes (s : State) (v : ModeState) : (s.withMode v).axes = s.axes := rfl
@[simp] theorem State.withMode_profiles (s : State) (v : ModeState) : (s.withMode v).profiles = s.profiles := rfl
@[simp] theorem State.withMode_vms (s : State) (v : ModeState) : (s.withMode v).vms = s.vms := rfl
@[simp] theorem State.withMode_net (s : State) (v : ModeState) : (s.withMode v).net = s.net := rfl
@[simp] theorem State.withMode_binds (s : State) (v : ModeState) : (s.withMode v).binds = s.binds := rfl
@[simp] theorem State.withMode_cans (s : State) (v : ModeState) : (s.withMode v).cans = s.cans := rfl
@[simp] theorem State.withMode_fins (s : State) (v : ModeState) : (s.withMode v).fins = s.fins := rfl
@[simp] theorem State.withMode_tel (s : State) (v : ModeState) : (s.withMode v).tel = s.tel := rfl
@[simp] theorem State.withMode_ctxCopy (s : State) (v : ModeState) : (s.withMode v).ctxCopy = s.ctxCopy := rfl
@[simp] theorem State.withMode_wears (s : State) (v : ModeState) : (s.withMode v).wears = s.wears := rfl
@[simp] theorem State.withMode_wearQ (s : State) (v : ModeState) : (s.withMode v).wearQ = s.wearQ := rfl
@[simp] theorem State.withMode_wearPart (s : State) (v : ModeState) : (s.withMode v).wearPart = s.wearPart := rfl
@[simp] theorem State.withMode_weir (s : State) (v : ModeState) : (s.withMode v).weir = s.weir := rfl
@[simp] theorem State.withMode_mode (s : State) (v : ModeState) : (s.withMode v).mode = v := rfl
@[simp] theorem State.withMode_clk (s : State) (v : ModeState) : (s.withMode v).clk = s.clk := rfl
@[simp] theorem State.withMode_pins (s : State) (v : ModeState) : (s.withMode v).pins = s.pins := rfl
@[simp] theorem State.withMode_free (s : State) (v : ModeState) : (s.withMode v).free = s.free := rfl
@[simp] theorem State.withMode_pending (s : State) (v : ModeState) : (s.withMode v).pending = s.pending := rfl
@[simp] theorem State.withClk_regs (s : State) (v : ClkState) : (s.withClk v).regs = s.regs := rfl
@[simp] theorem State.withClk_mem (s : State) (v : ClkState) : (s.withClk v).mem = s.mem := rfl
@[simp] theorem State.withClk_flash (s : State) (v : ClkState) : (s.withClk v).flash = s.flash := rfl
@[simp] theorem State.withClk_chans (s : State) (v : ClkState) : (s.withClk v).chans = s.chans := rfl
@[simp] theorem State.withClk_mbxTurn (s : State) (v : ClkState) : (s.withClk v).mbxTurn = s.mbxTurn := rfl
@[simp] theorem State.withClk_sessions (s : State) (v : ClkState) : (s.withClk v).sessions = s.sessions := rfl
@[simp] theorem State.withClk_hpOut (s : State) (v : ClkState) : (s.withClk v).hpOut = s.hpOut := rfl
@[simp] theorem State.withClk_netOut (s : State) (v : ClkState) : (s.withClk v).netOut = s.netOut := rfl
@[simp] theorem State.withClk_sec (s : State) (v : ClkState) : (s.withClk v).sec = s.sec := rfl
@[simp] theorem State.withClk_groups (s : State) (v : ClkState) : (s.withClk v).groups = s.groups := rfl
@[simp] theorem State.withClk_legs (s : State) (v : ClkState) : (s.withClk v).legs = s.legs := rfl
@[simp] theorem State.withClk_scheds (s : State) (v : ClkState) : (s.withClk v).scheds = s.scheds := rfl
@[simp] theorem State.withClk_carriers (s : State) (v : ClkState) : (s.withClk v).carriers = s.carriers := rfl
@[simp] theorem State.withClk_timers (s : State) (v : ClkState) : (s.withClk v).timers = s.timers := rfl
@[simp] theorem State.withClk_links (s : State) (v : ClkState) : (s.withClk v).links = s.links := rfl
@[simp] theorem State.withClk_engines (s : State) (v : ClkState) : (s.withClk v).engines = s.engines := rfl
@[simp] theorem State.withClk_slots (s : State) (v : ClkState) : (s.withClk v).slots = s.slots := rfl
@[simp] theorem State.withClk_tags (s : State) (v : ClkState) : (s.withClk v).tags = s.tags := rfl
@[simp] theorem State.withClk_inputs (s : State) (v : ClkState) : (s.withClk v).inputs = s.inputs := rfl
@[simp] theorem State.withClk_latches (s : State) (v : ClkState) : (s.withClk v).latches = s.latches := rfl
@[simp] theorem State.withClk_caps (s : State) (v : ClkState) : (s.withClk v).caps = s.caps := rfl
@[simp] theorem State.withClk_casc (s : State) (v : ClkState) : (s.withClk v).casc = s.casc := rfl
@[simp] theorem State.withClk_engLoad (s : State) (v : ClkState) : (s.withClk v).engLoad = s.engLoad := rfl
@[simp] theorem State.withClk_engImgs (s : State) (v : ClkState) : (s.withClk v).engImgs = s.engImgs := rfl
@[simp] theorem State.withClk_sdChans (s : State) (v : ClkState) : (s.withClk v).sdChans = s.sdChans := rfl
@[simp] theorem State.withClk_adcSeqs (s : State) (v : ClkState) : (s.withClk v).adcSeqs = s.adcSeqs := rfl
@[simp] theorem State.withClk_sense (s : State) (v : ClkState) : (s.withClk v).sense = s.sense := rfl
@[simp] theorem State.withClk_axes (s : State) (v : ClkState) : (s.withClk v).axes = s.axes := rfl
@[simp] theorem State.withClk_profiles (s : State) (v : ClkState) : (s.withClk v).profiles = s.profiles := rfl
@[simp] theorem State.withClk_vms (s : State) (v : ClkState) : (s.withClk v).vms = s.vms := rfl
@[simp] theorem State.withClk_net (s : State) (v : ClkState) : (s.withClk v).net = s.net := rfl
@[simp] theorem State.withClk_binds (s : State) (v : ClkState) : (s.withClk v).binds = s.binds := rfl
@[simp] theorem State.withClk_cans (s : State) (v : ClkState) : (s.withClk v).cans = s.cans := rfl
@[simp] theorem State.withClk_fins (s : State) (v : ClkState) : (s.withClk v).fins = s.fins := rfl
@[simp] theorem State.withClk_tel (s : State) (v : ClkState) : (s.withClk v).tel = s.tel := rfl
@[simp] theorem State.withClk_ctxCopy (s : State) (v : ClkState) : (s.withClk v).ctxCopy = s.ctxCopy := rfl
@[simp] theorem State.withClk_wears (s : State) (v : ClkState) : (s.withClk v).wears = s.wears := rfl
@[simp] theorem State.withClk_wearQ (s : State) (v : ClkState) : (s.withClk v).wearQ = s.wearQ := rfl
@[simp] theorem State.withClk_wearPart (s : State) (v : ClkState) : (s.withClk v).wearPart = s.wearPart := rfl
@[simp] theorem State.withClk_weir (s : State) (v : ClkState) : (s.withClk v).weir = s.weir := rfl
@[simp] theorem State.withClk_mode (s : State) (v : ClkState) : (s.withClk v).mode = s.mode := rfl
@[simp] theorem State.withClk_clk (s : State) (v : ClkState) : (s.withClk v).clk = v := rfl
@[simp] theorem State.withClk_pins (s : State) (v : ClkState) : (s.withClk v).pins = s.pins := rfl
@[simp] theorem State.withClk_free (s : State) (v : ClkState) : (s.withClk v).free = s.free := rfl
@[simp] theorem State.withClk_pending (s : State) (v : ClkState) : (s.withClk v).pending = s.pending := rfl
@[simp] theorem State.withPins_regs (s : State) (v : Pins) : (s.withPins v).regs = s.regs := rfl
@[simp] theorem State.withPins_mem (s : State) (v : Pins) : (s.withPins v).mem = s.mem := rfl
@[simp] theorem State.withPins_flash (s : State) (v : Pins) : (s.withPins v).flash = s.flash := rfl
@[simp] theorem State.withPins_chans (s : State) (v : Pins) : (s.withPins v).chans = s.chans := rfl
@[simp] theorem State.withPins_mbxTurn (s : State) (v : Pins) : (s.withPins v).mbxTurn = s.mbxTurn := rfl
@[simp] theorem State.withPins_sessions (s : State) (v : Pins) : (s.withPins v).sessions = s.sessions := rfl
@[simp] theorem State.withPins_hpOut (s : State) (v : Pins) : (s.withPins v).hpOut = s.hpOut := rfl
@[simp] theorem State.withPins_netOut (s : State) (v : Pins) : (s.withPins v).netOut = s.netOut := rfl
@[simp] theorem State.withPins_sec (s : State) (v : Pins) : (s.withPins v).sec = s.sec := rfl
@[simp] theorem State.withPins_groups (s : State) (v : Pins) : (s.withPins v).groups = s.groups := rfl
@[simp] theorem State.withPins_legs (s : State) (v : Pins) : (s.withPins v).legs = s.legs := rfl
@[simp] theorem State.withPins_scheds (s : State) (v : Pins) : (s.withPins v).scheds = s.scheds := rfl
@[simp] theorem State.withPins_carriers (s : State) (v : Pins) : (s.withPins v).carriers = s.carriers := rfl
@[simp] theorem State.withPins_timers (s : State) (v : Pins) : (s.withPins v).timers = s.timers := rfl
@[simp] theorem State.withPins_links (s : State) (v : Pins) : (s.withPins v).links = s.links := rfl
@[simp] theorem State.withPins_engines (s : State) (v : Pins) : (s.withPins v).engines = s.engines := rfl
@[simp] theorem State.withPins_slots (s : State) (v : Pins) : (s.withPins v).slots = s.slots := rfl
@[simp] theorem State.withPins_tags (s : State) (v : Pins) : (s.withPins v).tags = s.tags := rfl
@[simp] theorem State.withPins_inputs (s : State) (v : Pins) : (s.withPins v).inputs = s.inputs := rfl
@[simp] theorem State.withPins_latches (s : State) (v : Pins) : (s.withPins v).latches = s.latches := rfl
@[simp] theorem State.withPins_caps (s : State) (v : Pins) : (s.withPins v).caps = s.caps := rfl
@[simp] theorem State.withPins_casc (s : State) (v : Pins) : (s.withPins v).casc = s.casc := rfl
@[simp] theorem State.withPins_engLoad (s : State) (v : Pins) : (s.withPins v).engLoad = s.engLoad := rfl
@[simp] theorem State.withPins_engImgs (s : State) (v : Pins) : (s.withPins v).engImgs = s.engImgs := rfl
@[simp] theorem State.withPins_sdChans (s : State) (v : Pins) : (s.withPins v).sdChans = s.sdChans := rfl
@[simp] theorem State.withPins_adcSeqs (s : State) (v : Pins) : (s.withPins v).adcSeqs = s.adcSeqs := rfl
@[simp] theorem State.withPins_sense (s : State) (v : Pins) : (s.withPins v).sense = s.sense := rfl
@[simp] theorem State.withPins_axes (s : State) (v : Pins) : (s.withPins v).axes = s.axes := rfl
@[simp] theorem State.withPins_profiles (s : State) (v : Pins) : (s.withPins v).profiles = s.profiles := rfl
@[simp] theorem State.withPins_vms (s : State) (v : Pins) : (s.withPins v).vms = s.vms := rfl
@[simp] theorem State.withPins_net (s : State) (v : Pins) : (s.withPins v).net = s.net := rfl
@[simp] theorem State.withPins_binds (s : State) (v : Pins) : (s.withPins v).binds = s.binds := rfl
@[simp] theorem State.withPins_cans (s : State) (v : Pins) : (s.withPins v).cans = s.cans := rfl
@[simp] theorem State.withPins_fins (s : State) (v : Pins) : (s.withPins v).fins = s.fins := rfl
@[simp] theorem State.withPins_tel (s : State) (v : Pins) : (s.withPins v).tel = s.tel := rfl
@[simp] theorem State.withPins_ctxCopy (s : State) (v : Pins) : (s.withPins v).ctxCopy = s.ctxCopy := rfl
@[simp] theorem State.withPins_wears (s : State) (v : Pins) : (s.withPins v).wears = s.wears := rfl
@[simp] theorem State.withPins_wearQ (s : State) (v : Pins) : (s.withPins v).wearQ = s.wearQ := rfl
@[simp] theorem State.withPins_wearPart (s : State) (v : Pins) : (s.withPins v).wearPart = s.wearPart := rfl
@[simp] theorem State.withPins_weir (s : State) (v : Pins) : (s.withPins v).weir = s.weir := rfl
@[simp] theorem State.withPins_mode (s : State) (v : Pins) : (s.withPins v).mode = s.mode := rfl
@[simp] theorem State.withPins_clk (s : State) (v : Pins) : (s.withPins v).clk = s.clk := rfl
@[simp] theorem State.withPins_pins (s : State) (v : Pins) : (s.withPins v).pins = v := rfl
@[simp] theorem State.withPins_free (s : State) (v : Pins) : (s.withPins v).free = s.free := rfl
@[simp] theorem State.withPins_pending (s : State) (v : Pins) : (s.withPins v).pending = s.pending := rfl
@[simp] theorem State.withFree_regs (s : State) (v : Nat) : (s.withFree v).regs = s.regs := rfl
@[simp] theorem State.withFree_mem (s : State) (v : Nat) : (s.withFree v).mem = s.mem := rfl
@[simp] theorem State.withFree_flash (s : State) (v : Nat) : (s.withFree v).flash = s.flash := rfl
@[simp] theorem State.withFree_chans (s : State) (v : Nat) : (s.withFree v).chans = s.chans := rfl
@[simp] theorem State.withFree_mbxTurn (s : State) (v : Nat) : (s.withFree v).mbxTurn = s.mbxTurn := rfl
@[simp] theorem State.withFree_sessions (s : State) (v : Nat) : (s.withFree v).sessions = s.sessions := rfl
@[simp] theorem State.withFree_hpOut (s : State) (v : Nat) : (s.withFree v).hpOut = s.hpOut := rfl
@[simp] theorem State.withFree_netOut (s : State) (v : Nat) : (s.withFree v).netOut = s.netOut := rfl
@[simp] theorem State.withFree_sec (s : State) (v : Nat) : (s.withFree v).sec = s.sec := rfl
@[simp] theorem State.withFree_groups (s : State) (v : Nat) : (s.withFree v).groups = s.groups := rfl
@[simp] theorem State.withFree_legs (s : State) (v : Nat) : (s.withFree v).legs = s.legs := rfl
@[simp] theorem State.withFree_scheds (s : State) (v : Nat) : (s.withFree v).scheds = s.scheds := rfl
@[simp] theorem State.withFree_carriers (s : State) (v : Nat) : (s.withFree v).carriers = s.carriers := rfl
@[simp] theorem State.withFree_timers (s : State) (v : Nat) : (s.withFree v).timers = s.timers := rfl
@[simp] theorem State.withFree_links (s : State) (v : Nat) : (s.withFree v).links = s.links := rfl
@[simp] theorem State.withFree_engines (s : State) (v : Nat) : (s.withFree v).engines = s.engines := rfl
@[simp] theorem State.withFree_slots (s : State) (v : Nat) : (s.withFree v).slots = s.slots := rfl
@[simp] theorem State.withFree_tags (s : State) (v : Nat) : (s.withFree v).tags = s.tags := rfl
@[simp] theorem State.withFree_inputs (s : State) (v : Nat) : (s.withFree v).inputs = s.inputs := rfl
@[simp] theorem State.withFree_latches (s : State) (v : Nat) : (s.withFree v).latches = s.latches := rfl
@[simp] theorem State.withFree_caps (s : State) (v : Nat) : (s.withFree v).caps = s.caps := rfl
@[simp] theorem State.withFree_casc (s : State) (v : Nat) : (s.withFree v).casc = s.casc := rfl
@[simp] theorem State.withFree_engLoad (s : State) (v : Nat) : (s.withFree v).engLoad = s.engLoad := rfl
@[simp] theorem State.withFree_engImgs (s : State) (v : Nat) : (s.withFree v).engImgs = s.engImgs := rfl
@[simp] theorem State.withFree_sdChans (s : State) (v : Nat) : (s.withFree v).sdChans = s.sdChans := rfl
@[simp] theorem State.withFree_adcSeqs (s : State) (v : Nat) : (s.withFree v).adcSeqs = s.adcSeqs := rfl
@[simp] theorem State.withFree_sense (s : State) (v : Nat) : (s.withFree v).sense = s.sense := rfl
@[simp] theorem State.withFree_axes (s : State) (v : Nat) : (s.withFree v).axes = s.axes := rfl
@[simp] theorem State.withFree_profiles (s : State) (v : Nat) : (s.withFree v).profiles = s.profiles := rfl
@[simp] theorem State.withFree_vms (s : State) (v : Nat) : (s.withFree v).vms = s.vms := rfl
@[simp] theorem State.withFree_net (s : State) (v : Nat) : (s.withFree v).net = s.net := rfl
@[simp] theorem State.withFree_binds (s : State) (v : Nat) : (s.withFree v).binds = s.binds := rfl
@[simp] theorem State.withFree_cans (s : State) (v : Nat) : (s.withFree v).cans = s.cans := rfl
@[simp] theorem State.withFree_fins (s : State) (v : Nat) : (s.withFree v).fins = s.fins := rfl
@[simp] theorem State.withFree_tel (s : State) (v : Nat) : (s.withFree v).tel = s.tel := rfl
@[simp] theorem State.withFree_ctxCopy (s : State) (v : Nat) : (s.withFree v).ctxCopy = s.ctxCopy := rfl
@[simp] theorem State.withFree_wears (s : State) (v : Nat) : (s.withFree v).wears = s.wears := rfl
@[simp] theorem State.withFree_wearQ (s : State) (v : Nat) : (s.withFree v).wearQ = s.wearQ := rfl
@[simp] theorem State.withFree_wearPart (s : State) (v : Nat) : (s.withFree v).wearPart = s.wearPart := rfl
@[simp] theorem State.withFree_weir (s : State) (v : Nat) : (s.withFree v).weir = s.weir := rfl
@[simp] theorem State.withFree_mode (s : State) (v : Nat) : (s.withFree v).mode = s.mode := rfl
@[simp] theorem State.withFree_clk (s : State) (v : Nat) : (s.withFree v).clk = s.clk := rfl
@[simp] theorem State.withFree_pins (s : State) (v : Nat) : (s.withFree v).pins = s.pins := rfl
@[simp] theorem State.withFree_free (s : State) (v : Nat) : (s.withFree v).free = v := rfl
@[simp] theorem State.withFree_pending (s : State) (v : Nat) : (s.withFree v).pending = s.pending := rfl
@[simp] theorem State.withPending_regs (s : State) (v : List Instr) : (s.withPending v).regs = s.regs := rfl
@[simp] theorem State.withPending_mem (s : State) (v : List Instr) : (s.withPending v).mem = s.mem := rfl
@[simp] theorem State.withPending_flash (s : State) (v : List Instr) : (s.withPending v).flash = s.flash := rfl
@[simp] theorem State.withPending_chans (s : State) (v : List Instr) : (s.withPending v).chans = s.chans := rfl
@[simp] theorem State.withPending_mbxTurn (s : State) (v : List Instr) : (s.withPending v).mbxTurn = s.mbxTurn := rfl
@[simp] theorem State.withPending_sessions (s : State) (v : List Instr) : (s.withPending v).sessions = s.sessions := rfl
@[simp] theorem State.withPending_hpOut (s : State) (v : List Instr) : (s.withPending v).hpOut = s.hpOut := rfl
@[simp] theorem State.withPending_netOut (s : State) (v : List Instr) : (s.withPending v).netOut = s.netOut := rfl
@[simp] theorem State.withPending_sec (s : State) (v : List Instr) : (s.withPending v).sec = s.sec := rfl
@[simp] theorem State.withPending_groups (s : State) (v : List Instr) : (s.withPending v).groups = s.groups := rfl
@[simp] theorem State.withPending_legs (s : State) (v : List Instr) : (s.withPending v).legs = s.legs := rfl
@[simp] theorem State.withPending_scheds (s : State) (v : List Instr) : (s.withPending v).scheds = s.scheds := rfl
@[simp] theorem State.withPending_carriers (s : State) (v : List Instr) : (s.withPending v).carriers = s.carriers := rfl
@[simp] theorem State.withPending_timers (s : State) (v : List Instr) : (s.withPending v).timers = s.timers := rfl
@[simp] theorem State.withPending_links (s : State) (v : List Instr) : (s.withPending v).links = s.links := rfl
@[simp] theorem State.withPending_engines (s : State) (v : List Instr) : (s.withPending v).engines = s.engines := rfl
@[simp] theorem State.withPending_slots (s : State) (v : List Instr) : (s.withPending v).slots = s.slots := rfl
@[simp] theorem State.withPending_tags (s : State) (v : List Instr) : (s.withPending v).tags = s.tags := rfl
@[simp] theorem State.withPending_inputs (s : State) (v : List Instr) : (s.withPending v).inputs = s.inputs := rfl
@[simp] theorem State.withPending_latches (s : State) (v : List Instr) : (s.withPending v).latches = s.latches := rfl
@[simp] theorem State.withPending_caps (s : State) (v : List Instr) : (s.withPending v).caps = s.caps := rfl
@[simp] theorem State.withPending_casc (s : State) (v : List Instr) : (s.withPending v).casc = s.casc := rfl
@[simp] theorem State.withPending_engLoad (s : State) (v : List Instr) : (s.withPending v).engLoad = s.engLoad := rfl
@[simp] theorem State.withPending_engImgs (s : State) (v : List Instr) : (s.withPending v).engImgs = s.engImgs := rfl
@[simp] theorem State.withPending_sdChans (s : State) (v : List Instr) : (s.withPending v).sdChans = s.sdChans := rfl
@[simp] theorem State.withPending_adcSeqs (s : State) (v : List Instr) : (s.withPending v).adcSeqs = s.adcSeqs := rfl
@[simp] theorem State.withPending_sense (s : State) (v : List Instr) : (s.withPending v).sense = s.sense := rfl
@[simp] theorem State.withPending_axes (s : State) (v : List Instr) : (s.withPending v).axes = s.axes := rfl
@[simp] theorem State.withPending_profiles (s : State) (v : List Instr) : (s.withPending v).profiles = s.profiles := rfl
@[simp] theorem State.withPending_vms (s : State) (v : List Instr) : (s.withPending v).vms = s.vms := rfl
@[simp] theorem State.withPending_net (s : State) (v : List Instr) : (s.withPending v).net = s.net := rfl
@[simp] theorem State.withPending_binds (s : State) (v : List Instr) : (s.withPending v).binds = s.binds := rfl
@[simp] theorem State.withPending_cans (s : State) (v : List Instr) : (s.withPending v).cans = s.cans := rfl
@[simp] theorem State.withPending_fins (s : State) (v : List Instr) : (s.withPending v).fins = s.fins := rfl
@[simp] theorem State.withPending_tel (s : State) (v : List Instr) : (s.withPending v).tel = s.tel := rfl
@[simp] theorem State.withPending_ctxCopy (s : State) (v : List Instr) : (s.withPending v).ctxCopy = s.ctxCopy := rfl
@[simp] theorem State.withPending_wears (s : State) (v : List Instr) : (s.withPending v).wears = s.wears := rfl
@[simp] theorem State.withPending_wearQ (s : State) (v : List Instr) : (s.withPending v).wearQ = s.wearQ := rfl
@[simp] theorem State.withPending_wearPart (s : State) (v : List Instr) : (s.withPending v).wearPart = s.wearPart := rfl
@[simp] theorem State.withPending_weir (s : State) (v : List Instr) : (s.withPending v).weir = s.weir := rfl
@[simp] theorem State.withPending_mode (s : State) (v : List Instr) : (s.withPending v).mode = s.mode := rfl
@[simp] theorem State.withPending_clk (s : State) (v : List Instr) : (s.withPending v).clk = s.clk := rfl
@[simp] theorem State.withPending_pins (s : State) (v : List Instr) : (s.withPending v).pins = s.pins := rfl
@[simp] theorem State.withPending_free (s : State) (v : List Instr) : (s.withPending v).free = s.free := rfl
@[simp] theorem State.withPending_pending (s : State) (v : List Instr) : (s.withPending v).pending = v := rfl

end Sys2Proof.Machine
end

