-- ==== Sys2Proof/Laws/Canonical.lean ====
section
/-!
SUPPORT. The canonical form of a sparse map: what a read after a write gives, and that every operation on maps keeps the form.
-/

namespace Sys2Proof.Machine

variable {α : Type}

/-! ## Reads after writes -/

theorem SMap.get_erase_same (d : Nat → α) (m : SMap α) (k : Nat) : SMap.get d (SMap.erase m k) k = d k := by
  induction m with
  | nil => rfl
  | cons e m ih =>
    simp only [SMap.erase]
    split
    · exact ih
    · rename_i h; simp [SMap.get, h, ih]

theorem SMap.get_erase_other (d : Nat → α) (m : SMap α) {k j : Nat} (h : k ≠ j) :
    SMap.get d (SMap.erase m k) j = SMap.get d m j := by
  induction m with
  | nil => rfl
  | cons e m ih =>
    simp only [SMap.erase]
    split
    · rename_i hk; simp [SMap.get, ih, hk, h]
    · simp [SMap.get, ih]

theorem SMap.get_insert_same (d : Nat → α) (m : SMap α) (k : Nat) (v : α) (h : ∀ e ∈ m, e.1 ≠ k) :
    SMap.get d (SMap.insert m k v) k = v := by
  induction m with
  | nil => simp [SMap.insert, SMap.get]
  | cons e m ih =>
    simp only [SMap.insert]
    have he : e.1 ≠ k := h e (by simp)
    split
    · simp [SMap.get]
    · simp [SMap.get, he, ih (fun x hx => h x (by simp [hx]))]

theorem SMap.get_insert_other (d : Nat → α) (m : SMap α) {k j : Nat} (v : α) (h : k ≠ j) :
    SMap.get d (SMap.insert m k v) j = SMap.get d m j := by
  induction m with
  | nil => simp [SMap.insert, SMap.get, h]
  | cons e m ih =>
    simp only [SMap.insert]
    split
    · simp [SMap.get, h]
    · simp [SMap.get, ih]

theorem SMap.erase_keys (m : SMap α) (k : Nat) : ∀ e ∈ SMap.erase m k, e.1 ≠ k ∧ e ∈ m := by
  induction m with
  | nil => simp [SMap.erase]
  | cons x m ih =>
    intro e he
    simp only [SMap.erase] at he
    split at he
    · obtain ⟨h1, h2⟩ := ih e he; exact ⟨h1, by simp [h2]⟩
    · rename_i hx
      simp only [List.mem_cons] at he
      rcases he with rfl | he
      · exact ⟨hx, by simp⟩
      · obtain ⟨h1, h2⟩ := ih e he; exact ⟨h1, by simp [h2]⟩

variable [DecidableEq α]

/-- A read after a write of the same key gives the value written. -/
theorem SMap.get_set_same (d : Nat → α) (m : SMap α) (k : Nat) (v : α) : SMap.get d (SMap.set d m k v) k = v := by
  unfold SMap.set
  split
  · rename_i h; rw [SMap.get_erase_same, h]
  · exact SMap.get_insert_same d _ k v (fun e he => (SMap.erase_keys m k e he).1)

/-- A write leaves every other key alone. -/
theorem SMap.get_set_other (d : Nat → α) (m : SMap α) {k j : Nat} (v : α) (h : k ≠ j) :
    SMap.get d (SMap.set d m k v) j = SMap.get d m j := by
  unfold SMap.set
  split
  · exact SMap.get_erase_other d m h
  · rw [SMap.get_insert_other d _ v h, SMap.get_erase_other d m h]

/-! ## The canonical form -/

/-- The form, read off entry by entry. -/
def SMap.Canon (d : Nat → α) (m : SMap α) : Prop := m.Pairwise (fun x y => x.1 < y.1) ∧ ∀ e ∈ m, e.2 ≠ d e.1

omit [DecidableEq α] in
theorem SMap.sorted_iff (m : SMap α) : SMap.sorted m = true ↔ m.Pairwise (fun x y => x.1 < y.1) := by
  induction m with
  | nil => simp [SMap.sorted]
  | cons x m ih =>
    cases m with
    | nil => simp [SMap.sorted]
    | cons y m =>
      obtain ⟨i, v⟩ := x
      obtain ⟨j, w⟩ := y
      simp only [SMap.sorted, Bool.and_eq_true, decide_eq_true_eq, ih, List.pairwise_cons, List.mem_cons]
      constructor
      · rintro ⟨h, h1, h2⟩
        refine ⟨?_, h1, h2⟩
        rintro e (rfl | he)
        · exact h
        · exact Nat.lt_trans h (h1 e he)
      · rintro ⟨h, h1, h2⟩
        exact ⟨h (j, w) (Or.inl rfl), h1, h2⟩

theorem SMap.wf_iff (d : Nat → α) (m : SMap α) : SMap.wf d m = true ↔ SMap.Canon d m := by
  simp [SMap.wf, SMap.Canon, SMap.sorted_iff, List.all_eq_true]

theorem SMap.wf_nil (d : Nat → α) : SMap.wf d ([] : SMap α) = true := rfl

omit [DecidableEq α] in
theorem SMap.erase_sublist (m : SMap α) (k : Nat) : (SMap.erase m k).Sublist m := by
  induction m with
  | nil => exact List.Sublist.slnil
  | cons x m ih =>
    simp only [SMap.erase]
    split
    · exact ih.cons x
    · exact ih.cons_cons x

omit [DecidableEq α] in
theorem SMap.insert_mem (m : SMap α) (k : Nat) (v : α) : ∀ e ∈ SMap.insert m k v, e = (k, v) ∨ e ∈ m := by
  induction m with
  | nil => simp [SMap.insert]
  | cons x m ih =>
    intro e he
    simp only [SMap.insert] at he
    split at he
    · simpa using he
    · simp only [List.mem_cons] at he ⊢
      rcases he with rfl | he
      · exact Or.inr (Or.inl rfl)
      · rcases ih e he with h | h
        · exact Or.inl h
        · exact Or.inr (Or.inr h)

omit [DecidableEq α] in
theorem SMap.insert_pairwise (m : SMap α) (k : Nat) (v : α) (h : m.Pairwise (fun x y => x.1 < y.1))
    (hk : ∀ e ∈ m, e.1 ≠ k) : (SMap.insert m k v).Pairwise (fun x y => x.1 < y.1) := by
  induction m with
  | nil => simp [SMap.insert]
  | cons x m ih =>
    rw [List.pairwise_cons] at h
    have hx := hk x (by simp)
    simp only [SMap.insert]
    split
    · rename_i hlt
      refine List.pairwise_cons.mpr ⟨?_, List.pairwise_cons.mpr h⟩
      intro e he
      rcases List.mem_cons.mp he with rfl | he
      · exact hlt
      · exact Nat.lt_trans hlt (h.1 e he)
    · rename_i hlt
      refine List.pairwise_cons.mpr ⟨?_, ih h.2 (fun e he => hk e (by simp [he]))⟩
      intro e he
      rcases SMap.insert_mem m k v e he with rfl | he
      · exact Nat.lt_of_le_of_ne (Nat.le_of_not_lt hlt) hx
      · exact h.1 e he

/-- Every write keeps the form. -/
theorem SMap.wf_set (d : Nat → α) (m : SMap α) (k : Nat) (v : α) (h : SMap.wf d m = true) :
    SMap.wf d (SMap.set d m k v) = true := by
  rw [SMap.wf_iff] at h ⊢
  have hs := SMap.erase_sublist m k
  have he : SMap.Canon d (SMap.erase m k) := ⟨h.1.sublist hs, fun e hm => h.2 e (hs.subset hm)⟩
  unfold SMap.set
  split
  · exact he
  · rename_i hv
    refine ⟨SMap.insert_pairwise _ k v he.1 (fun e hm => (SMap.erase_keys m k e hm).1), ?_⟩
    intro e hm
    rcases SMap.insert_mem _ k v e hm with rfl | hm
    · exact hv
    · exact he.2 e hm

/-- So does keeping some of the entries. -/
theorem SMap.wf_filter (d : Nat → α) (m : SMap α) (p : Nat × α → Bool) (h : SMap.wf d m = true) :
    SMap.wf d (m.filter p) = true := by
  rw [SMap.wf_iff] at h ⊢
  have hs : (m.filter p).Sublist m := List.filter_sublist
  exact ⟨h.1.sublist hs, fun e hm => h.2 e (hs.subset hm)⟩

end Sys2Proof.Machine
end

