-- ==== Sys2Proof/Laws/Stable.lean ====
section
/-!
SUPPORT. Stable properties: those that every write of a register, a byte of memory or a byte of flash keeps, and that no other
field of the state but the queue has a part in. That the stores stand in their canonical form is one, that the queue holds given
commands another. Here the primitives; Laws/Stable<File>.lean says for each operation and meaning of Machine/<File>.lean that it
keeps every stable property.
-/

namespace Sys2Proof.Machine

/-- A property of the register file, the memory, the flash and the queue that every write keeps. -/
structure Stable (P : State → Prop) : Prop where
  wr : ∀ s a w, P s → P (State.wr s a w)
  wr8 : ∀ s a b, P s → P (State.wr8 s a b)
  wrFlash8 : ∀ s a b, P s → P (State.wrFlash8 s a b)
  filterRegs : ∀ (s : State) p, P s → P (s.withRegs (s.regs.filter p))
  filterMem : ∀ (s : State) p, P s → P (s.withMem (s.mem.filter p))
  clear : ∀ (s : State), P s → P ((s.withRegs []).withMem [])
  other : ∀ {s t : State}, P s → t.regs = s.regs → t.mem = s.mem → t.flash = s.flash → t.pending = s.pending → P t

/-- The canonical form of the stores is stable. -/
theorem State.Sound.stable : Stable State.Sound where
  wr s a w h := ⟨SMap.wf_set regReset s.regs a w h.regs, h.mem, h.flash⟩
  wr8 s a b h := ⟨h.regs, SMap.wf_set memDefault s.mem a b h.mem, h.flash⟩
  wrFlash8 s a b h := ⟨h.regs, h.mem, SMap.wf_set flashDefault s.flash a b h.flash⟩
  filterRegs s p h := ⟨SMap.wf_filter regReset s.regs p h.regs, h.mem, h.flash⟩
  filterMem s p h := ⟨h.regs, SMap.wf_filter memDefault s.mem p h.mem, h.flash⟩
  clear _ h := ⟨SMap.wf_nil _, SMap.wf_nil _, h.flash⟩
  other h hr hm hf _ := ⟨hr ▸ h.regs, hm ▸ h.mem, hf ▸ h.flash⟩

/-- What the queue holds is stable. -/
theorem pending_stable (q : List Instr) : Stable (fun s => s.pending = q) where
  wr _ _ _ h := h
  wr8 _ _ _ h := h
  wrFlash8 _ _ _ h := h
  filterRegs _ _ h := h
  filterMem _ _ h := h
  clear _ h := h
  other h _ _ _ hq := hq.trans h

theorem State.each_stable {P : State → Prop} {α : Type} {s : State} (h : P s) (l : List α) {f : α → State → State}
    (hf : ∀ x t, P t → P (f x t)) : P (s.each l f) := by
  unfold State.each
  induction l generalizing s with
  | nil => exact h
  | cons x l ih => exact ih (hf x s h)

theorem State.ite_stable {P : State → Prop} {c : Prop} [Decidable c] {s t : State} (hs : P s) (ht : P t) :
    P (if c then s else t) := by
  split <;> assumption

theorem State.ite_snd_stable {P : State → Prop} {α : Type} {c : Prop} [Decidable c] {s t : α × State} (hs : P s.2) (ht : P t.2) :
    P (if c then s else t).2 := by
  split <;> assumption

theorem State.ite_fst_stable {P : State → Prop} {α : Type} {c : Prop} [Decidable c] {s t : State × α} (hs : P s.1) (ht : P t.1) :
    P (if c then s else t).1 := by
  split <;> assumption

theorem State.foldl_stable {P : State → Prop} {α β : Type} (l : List α) (f : β × State → α → β × State)
    (hf : ∀ x y, P x.2 → P (f x y).2) : ∀ {x : β × State}, P x.2 → P (l.foldl f x).2 := by
  induction l with
  | nil => intro x h; exact h
  | cons y l ih => intro x h; exact ih (hf _ _ h)

variable {P : State → Prop} (hP : Stable P)
include hP

theorem State.wr_stable {s : State} (h : P s) (a : Nat) (w : Word) : P (s.wr a w) := hP.wr s a w h

theorem State.wr8_stable {s : State} (h : P s) (a : Nat) (b : Byte) : P (s.wr8 a b) := hP.wr8 s a b h

theorem State.wrFlash8_stable {s : State} (h : P s) (a : Nat) (b : Byte) : P (s.wrFlash8 a b) := hP.wrFlash8 s a b h

theorem State.filterRegs_stable {s : State} (h : P s) (p : Nat × Word → Bool) : P (s.withRegs (s.regs.filter p)) :=
  hP.filterRegs s p h

theorem State.filterMem_stable {s : State} (h : P s) (p : Nat × Byte → Bool) : P (s.withMem (s.mem.filter p)) :=
  hP.filterMem s p h

theorem State.keepRegs_stable {s : State} (h : P s) (p : Nat → Bool) : P (s.keepRegs p) := hP.filterRegs s _ h

theorem State.keepMem_stable {s : State} (h : P s) (p : Nat → Bool) : P (s.keepMem p) :=
  hP.other (hP.filterMem s (fun e => p e.1) h) rfl rfl rfl rfl

omit hP in
theorem State.whenB_stable {s : State} (h : P s) (c : Bool) {f : State → State} (hf : ∀ t, P t → P (f t)) : P (s.whenB c f) := by
  unfold State.whenB
  split
  · exact hf s h
  · exact h

theorem State.wrBytes_stable {s : State} (h : P s) (a : Nat) (bs : List Byte) : P (s.wrBytes a bs) := by
  induction bs generalizing s a with
  | nil => exact h
  | cons b bs ih => exact ih (hP.wr8 s a b h) (a + 1)

theorem State.draw_stable {s t : State} {v : Nat} (e : s.draw = (v, t)) (h : P s) : P t := by
  cases e; exact hP.other h rfl rfl rfl rfl

theorem State.drawSnd_stable {s : State} (h : P s) : P s.draw.2 := hP.other h rfl rfl rfl rfl

/-! ## Updates of the other fields -/

theorem State.withChans_stable {s : State} (h : P s) (v : SMap Chan) : P (s.withChans v) := hP.other h rfl rfl rfl rfl

theorem State.withMbxTurn_stable {s : State} (h : P s) (v : Nat) : P (s.withMbxTurn v) := hP.other h rfl rfl rfl rfl

theorem State.withSessions_stable {s : State} (h : P s) (v : SMap Session) : P (s.withSessions v) := hP.other h rfl rfl rfl rfl

theorem State.withHpOut_stable {s : State} (h : P s) (v : List Byte) : P (s.withHpOut v) := hP.other h rfl rfl rfl rfl

theorem State.withNetOut_stable {s : State} (h : P s) (v : List (List Byte)) : P (s.withNetOut v) := hP.other h rfl rfl rfl rfl

theorem State.withSec_stable {s : State} (h : P s) (v : SecState) : P (s.withSec v) := hP.other h rfl rfl rfl rfl

theorem State.withGroups_stable {s : State} (h : P s) (v : SMap Group) : P (s.withGroups v) := hP.other h rfl rfl rfl rfl

theorem State.withLegs_stable {s : State} (h : P s) (v : SMap Leg) : P (s.withLegs v) := hP.other h rfl rfl rfl rfl

theorem State.withScheds_stable {s : State} (h : P s) (v : SMap Sched) : P (s.withScheds v) := hP.other h rfl rfl rfl rfl

theorem State.withCarriers_stable {s : State} (h : P s) (v : SMap Carrier) : P (s.withCarriers v) := hP.other h rfl rfl rfl rfl

theorem State.withTimers_stable {s : State} (h : P s) (v : SMap Timer) : P (s.withTimers v) := hP.other h rfl rfl rfl rfl

theorem State.withLinks_stable {s : State} (h : P s) (v : SMap Link) : P (s.withLinks v) := hP.other h rfl rfl rfl rfl

theorem State.withEngines_stable {s : State} (h : P s) (v : SMap Engine) : P (s.withEngines v) := hP.other h rfl rfl rfl rfl

theorem State.withSlots_stable {s : State} (h : P s) (v : SMap Slot) : P (s.withSlots v) := hP.other h rfl rfl rfl rfl
theorem State.withTags_stable {s : State} (h : P s) (v : Tags) : P (s.withTags v) := hP.other h rfl rfl rfl rfl

theorem State.withInputs_stable {s : State} (h : P s) (v : SMap Word) : P (s.withInputs v) := hP.other h rfl rfl rfl rfl

theorem State.withLatches_stable {s : State} (h : P s) (v : SMap Word) : P (s.withLatches v) := hP.other h rfl rfl rfl rfl

theorem State.withCaps_stable {s : State} (h : P s) (v : SMap CapSet) : P (s.withCaps v) := hP.other h rfl rfl rfl rfl

theorem State.withCasc_stable {s : State} (h : P s) (v : Casc) : P (s.withCasc v) := hP.other h rfl rfl rfl rfl

theorem State.withEngLoad_stable {s : State} (h : P s) (v : EngLoad) : P (s.withEngLoad v) := hP.other h rfl rfl rfl rfl

theorem State.withEngImgs_stable {s : State} (h : P s) (v : SMap EngImg) : P (s.withEngImgs v) := hP.other h rfl rfl rfl rfl

theorem State.withSdChans_stable {s : State} (h : P s) (v : SMap SdChan) : P (s.withSdChans v) := hP.other h rfl rfl rfl rfl

theorem State.withAdcSeqs_stable {s : State} (h : P s) (v : SMap AdcSeq) : P (s.withAdcSeqs v) := hP.other h rfl rfl rfl rfl

theorem State.withSense_stable {s : State} (h : P s) (v : SenseState) : P (s.withSense v) := hP.other h rfl rfl rfl rfl

theorem State.withAxes_stable {s : State} (h : P s) (v : SMap Axis) : P (s.withAxes v) := hP.other h rfl rfl rfl rfl

theorem State.withProfiles_stable {s : State} (h : P s) (v : SMap Profile) : P (s.withProfiles v) := hP.other h rfl rfl rfl rfl

theorem State.withVms_stable {s : State} (h : P s) (v : SMap VMaster) : P (s.withVms v) := hP.other h rfl rfl rfl rfl

theorem State.withNet_stable {s : State} (h : P s) (v : NetState) : P (s.withNet v) := hP.other h rfl rfl rfl rfl

theorem State.withBinds_stable {s : State} (h : P s) (v : SMap VmBind) : P (s.withBinds v) := hP.other h rfl rfl rfl rfl

theorem State.withCans_stable {s : State} (h : P s) (v : SMap CanNode) : P (s.withCans v) := hP.other h rfl rfl rfl rfl

theorem State.withFins_stable {s : State} (h : P s) (v : SMap FieldIn) : P (s.withFins v) := hP.other h rfl rfl rfl rfl

theorem State.withTel_stable {s : State} (h : P s) (v : Telem) : P (s.withTel v) := hP.other h rfl rfl rfl rfl

theorem State.withCtxCopy_stable {s : State} (h : P s) (v : SMap Word) : P (s.withCtxCopy v) := hP.other h rfl rfl rfl rfl

theorem State.withWears_stable {s : State} (h : P s) (v : SMap WearPos) : P (s.withWears v) := hP.other h rfl rfl rfl rfl

theorem State.withWearQ_stable {s : State} (h : P s) (v : List WearInc) : P (s.withWearQ v) := hP.other h rfl rfl rfl rfl

theorem State.withWearPart_stable {s : State} (h : P s) (v : Option (Nat × List Byte)) : P (s.withWearPart v) := hP.other h rfl rfl rfl rfl

theorem State.withWeir_stable {s : State} (h : P s) (v : WeirState) : P (s.withWeir v) := hP.other h rfl rfl rfl rfl

theorem State.withMode_stable {s : State} (h : P s) (v : ModeState) : P (s.withMode v) := hP.other h rfl rfl rfl rfl

theorem State.withClk_stable {s : State} (h : P s) (v : ClkState) : P (s.withClk v) := hP.other h rfl rfl rfl rfl

theorem State.withPins_stable {s : State} (h : P s) (v : Pins) : P (s.withPins v) := hP.other h rfl rfl rfl rfl

theorem State.withFree_stable {s : State} (h : P s) (v : Nat) : P (s.withFree v) := hP.other h rfl rfl rfl rfl

theorem State.setChan_stable {s : State} (h : P s) (k : Nat) (v : Chan) : P (s.setChan k v) := hP.other h rfl rfl rfl rfl

theorem State.modChan_stable {s : State} (h : P s) (k : Nat) (f : Chan → Chan) : P (s.modChan k f) := hP.other h rfl rfl rfl rfl

theorem State.setSession_stable {s : State} (h : P s) (k : Nat) (v : Session) : P (s.setSession k v) := hP.other h rfl rfl rfl rfl

theorem State.modSession_stable {s : State} (h : P s) (k : Nat) (f : Session → Session) : P (s.modSession k f) := hP.other h rfl rfl rfl rfl

theorem State.setGroup_stable {s : State} (h : P s) (k : Nat) (v : Group) : P (s.setGroup k v) := hP.other h rfl rfl rfl rfl

theorem State.modGroup_stable {s : State} (h : P s) (k : Nat) (f : Group → Group) : P (s.modGroup k f) := hP.other h rfl rfl rfl rfl

theorem State.setLeg_stable {s : State} (h : P s) (k : Nat) (v : Leg) : P (s.setLeg k v) := hP.other h rfl rfl rfl rfl

theorem State.modLeg_stable {s : State} (h : P s) (k : Nat) (f : Leg → Leg) : P (s.modLeg k f) := hP.other h rfl rfl rfl rfl

theorem State.setSched_stable {s : State} (h : P s) (k : Nat) (v : Sched) : P (s.setSched k v) := hP.other h rfl rfl rfl rfl

theorem State.modSched_stable {s : State} (h : P s) (k : Nat) (f : Sched → Sched) : P (s.modSched k f) := hP.other h rfl rfl rfl rfl

theorem State.setCarrier_stable {s : State} (h : P s) (k : Nat) (v : Carrier) : P (s.setCarrier k v) := hP.other h rfl rfl rfl rfl

theorem State.modCarrier_stable {s : State} (h : P s) (k : Nat) (f : Carrier → Carrier) : P (s.modCarrier k f) := hP.other h rfl rfl rfl rfl

theorem State.setTimer_stable {s : State} (h : P s) (k : Nat) (v : Timer) : P (s.setTimer k v) := hP.other h rfl rfl rfl rfl

theorem State.modTimer_stable {s : State} (h : P s) (k : Nat) (f : Timer → Timer) : P (s.modTimer k f) := hP.other h rfl rfl rfl rfl

theorem State.setLink_stable {s : State} (h : P s) (k : Nat) (v : Link) : P (s.setLink k v) := hP.other h rfl rfl rfl rfl

theorem State.modLink_stable {s : State} (h : P s) (k : Nat) (f : Link → Link) : P (s.modLink k f) := hP.other h rfl rfl rfl rfl

theorem State.setEngine_stable {s : State} (h : P s) (k : Nat) (v : Engine) : P (s.setEngine k v) := hP.other h rfl rfl rfl rfl

theorem State.modEngine_stable {s : State} (h : P s) (k : Nat) (f : Engine → Engine) : P (s.modEngine k f) := hP.other h rfl rfl rfl rfl

theorem State.setSlot_stable {s : State} (h : P s) (k : Nat) (v : Slot) : P (s.setSlot k v) := hP.other h rfl rfl rfl rfl

theorem State.modSlot_stable {s : State} (h : P s) (k : Nat) (f : Slot → Slot) : P (s.modSlot k f) := hP.other h rfl rfl rfl rfl

theorem State.setCap_stable {s : State} (h : P s) (k : Nat) (v : CapSet) : P (s.setCap k v) := hP.other h rfl rfl rfl rfl

theorem State.modCap_stable {s : State} (h : P s) (k : Nat) (f : CapSet → CapSet) : P (s.modCap k f) := hP.other h rfl rfl rfl rfl

theorem State.setEngImg_stable {s : State} (h : P s) (k : Nat) (v : EngImg) : P (s.setEngImg k v) := hP.other h rfl rfl rfl rfl

theorem State.modEngImg_stable {s : State} (h : P s) (k : Nat) (f : EngImg → EngImg) : P (s.modEngImg k f) := hP.other h rfl rfl rfl rfl

theorem State.setSdChan_stable {s : State} (h : P s) (k : Nat) (v : SdChan) : P (s.setSdChan k v) := hP.other h rfl rfl rfl rfl

theorem State.modSdChan_stable {s : State} (h : P s) (k : Nat) (f : SdChan → SdChan) : P (s.modSdChan k f) := hP.other h rfl rfl rfl rfl

theorem State.setAdcSeq_stable {s : State} (h : P s) (k : Nat) (v : AdcSeq) : P (s.setAdcSeq k v) := hP.other h rfl rfl rfl rfl

theorem State.modAdcSeq_stable {s : State} (h : P s) (k : Nat) (f : AdcSeq → AdcSeq) : P (s.modAdcSeq k f) := hP.other h rfl rfl rfl rfl

theorem State.setAxis_stable {s : State} (h : P s) (k : Nat) (v : Axis) : P (s.setAxis k v) := hP.other h rfl rfl rfl rfl

theorem State.modAxis_stable {s : State} (h : P s) (k : Nat) (f : Axis → Axis) : P (s.modAxis k f) := hP.other h rfl rfl rfl rfl

theorem State.setProfile_stable {s : State} (h : P s) (k : Nat) (v : Profile) : P (s.setProfile k v) := hP.other h rfl rfl rfl rfl

theorem State.modProfile_stable {s : State} (h : P s) (k : Nat) (f : Profile → Profile) : P (s.modProfile k f) := hP.other h rfl rfl rfl rfl

theorem State.setVmaster_stable {s : State} (h : P s) (k : Nat) (v : VMaster) : P (s.setVmaster k v) := hP.other h rfl rfl rfl rfl

theorem State.modVmaster_stable {s : State} (h : P s) (k : Nat) (f : VMaster → VMaster) : P (s.modVmaster k f) := hP.other h rfl rfl rfl rfl

theorem State.setVmBind_stable {s : State} (h : P s) (k : Nat) (v : VmBind) : P (s.setVmBind k v) := hP.other h rfl rfl rfl rfl

theorem State.modVmBind_stable {s : State} (h : P s) (k : Nat) (f : VmBind → VmBind) : P (s.modVmBind k f) := hP.other h rfl rfl rfl rfl

theorem State.setCan_stable {s : State} (h : P s) (k : Nat) (v : CanNode) : P (s.setCan k v) := hP.other h rfl rfl rfl rfl

theorem State.modCan_stable {s : State} (h : P s) (k : Nat) (f : CanNode → CanNode) : P (s.modCan k f) := hP.other h rfl rfl rfl rfl

theorem State.setFin_stable {s : State} (h : P s) (k : Nat) (v : FieldIn) : P (s.setFin k v) := hP.other h rfl rfl rfl rfl

theorem State.modFin_stable {s : State} (h : P s) (k : Nat) (f : FieldIn → FieldIn) : P (s.modFin k f) := hP.other h rfl rfl rfl rfl

theorem State.setWear_stable {s : State} (h : P s) (k : Nat) (v : WearPos) : P (s.setWear k v) := hP.other h rfl rfl rfl rfl

theorem State.modWear_stable {s : State} (h : P s) (k : Nat) (f : WearPos → WearPos) : P (s.modWear k f) := hP.other h rfl rfl rfl rfl

end Sys2Proof.Machine
end

