-- ==== Sys2Proof/Laws/Calm.lean ====
section
/-!
SUPPORT. What an assertion of a Weir source can never touch: the operations of Machine/Ops.lean that serve it keep every calm
property, one of the state in which the registers, the words of the speed task and the protection units have no part.
-/

namespace Sys2Proof.Machine

/-- A property that the registers and the words of the speed task keep, and in which the protection units and the mode
controller have no part. -/
structure Calm (P : State → Prop) : Prop where
  wr : ∀ s a w, P s → P (State.wr s a w)
  speed : ∀ s e build, e < 16 → P s → P (State.writeSpeedTask s e build)
  other : ∀ {s t : State}, P s → t.mem = s.mem → t.flash = s.flash → t.pending = s.pending → t.chans = s.chans →
    t.sessions = s.sessions → t.slots = s.slots → t.engines = s.engines → t.inputs = s.inputs → t.sec = s.sec → t.net = s.net →
    t.cans = s.cans → t.wears = s.wears → P t

variable {P : State → Prop} (hP : Calm P)
include hP

theorem State.wr_calm {s : State} (h : P s) (a : Nat) (w : Word) : P (s.wr a w) := hP.wr s a w h

theorem State.draw_calm {s t : State} {v : Nat} (e : s.draw = (v, t)) (h : P s) : P t := by
  cases e; exact hP.other h rfl rfl rfl rfl rfl rfl rfl rfl rfl rfl rfl rfl

theorem State.drawSnd_calm {s : State} (h : P s) : P s.draw.2 := hP.other h rfl rfl rfl rfl rfl rfl rfl rfl rfl rfl rfl rfl

theorem State.modCap_calm {s : State} (h : P s) (k : Nat) (f : CapSet → CapSet) : P (s.modCap k f) := hP.other h rfl rfl rfl rfl rfl rfl rfl rfl rfl rfl rfl rfl

theorem State.modGroup_calm {s : State} (h : P s) (k : Nat) (f : Group → Group) : P (s.modGroup k f) := hP.other h rfl rfl rfl rfl rfl rfl rfl rfl rfl rfl rfl rfl

theorem State.modLeg_calm {s : State} (h : P s) (k : Nat) (f : Leg → Leg) : P (s.modLeg k f) := hP.other h rfl rfl rfl rfl rfl rfl rfl rfl rfl rfl rfl rfl

theorem State.modLink_calm {s : State} (h : P s) (k : Nat) (f : Link → Link) : P (s.modLink k f) := hP.other h rfl rfl rfl rfl rfl rfl rfl rfl rfl rfl rfl rfl

theorem State.modSched_calm {s : State} (h : P s) (k : Nat) (f : Sched → Sched) : P (s.modSched k f) := hP.other h rfl rfl rfl rfl rfl rfl rfl rfl rfl rfl rfl rfl

theorem State.withEngLoad_calm {s : State} (h : P s) (v : EngLoad) : P (s.withEngLoad v) := hP.other h rfl rfl rfl rfl rfl rfl rfl rfl rfl rfl rfl rfl

theorem State.withMode_calm {s : State} (h : P s) (v : ModeState) : P (s.withMode v) := hP.other h rfl rfl rfl rfl rfl rfl rfl rfl rfl rfl rfl rfl

theorem State.withWeir_calm {s : State} (h : P s) (v : WeirState) : P (s.withWeir v) := hP.other h rfl rfl rfl rfl rfl rfl rfl rfl rfl rfl rfl rfl

theorem State.put_calm {s : State} (h : P s) (f : Fld) (v : Nat) : P (State.put s f v) := by
  unfold State.put
  repeat' with_reducible first | assumption | intro _ | apply State.wr_calm hP | apply State.ite_stable | apply State.ite_snd_stable | apply State.ite_fst_stable | split | (dsimp only; split)

theorem State.putB_calm {s : State} (h : P s) (f : Fld) (b : Bool) : P (State.putB s f b) := by
  unfold State.putB
  repeat' with_reducible first | assumption | intro _ | apply State.put_calm hP | apply State.ite_stable | apply State.ite_snd_stable | apply State.ite_fst_stable | split | (dsimp only; split)

theorem State.incMod_calm {s : State} (h : P s) (f : Fld) : P (State.incMod s f) := by
  unfold State.incMod
  repeat' with_reducible first | assumption | intro _ | apply State.put_calm hP | apply State.ite_stable | apply State.ite_snd_stable | apply State.ite_fst_stable | split | (dsimp only; split)

theorem State.irq_calm {s : State} (h : P s) (i : Nat) : P (State.irq s i) := by
  unfold State.irq
  repeat' with_reducible first | assumption | intro _ | apply State.put_calm hP | apply State.ite_stable | apply State.ite_snd_stable | apply State.ite_fst_stable | split | (dsimp only; split)

theorem State.send_calm {s : State} (h : P s) (k : Nat) (fs : List Frame) : P (State.send s k fs) := by
  unfold State.send
  repeat' with_reducible first | assumption | intro _ | apply State.modLink_calm hP | apply State.ite_stable | apply State.ite_snd_stable | apply State.ite_fst_stable | split | (dsimp only; split)

theorem State.abandonEdge_calm {s : State} (h : P s) (k q : Nat) : P (State.abandonEdge s k q) := by
  unfold State.abandonEdge
  repeat' with_reducible first | assumption | intro _ | apply State.modLink_calm hP | apply State.wr_calm hP | apply State.put_calm hP | apply State.ite_stable | apply State.ite_snd_stable | apply State.ite_fst_stable | split | (dsimp only; split)

theorem State.dropSent_calm {s : State} (h : P s) (k : Nat) (f : Frame) : P (State.dropSent s k f) := by
  unfold State.dropSent
  repeat' with_reducible first | assumption | intro _ | apply State.modLink_calm hP | apply State.abandonEdge_calm hP | apply State.ite_stable | apply State.ite_snd_stable | apply State.ite_fst_stable | split | (dsimp only; split)

theorem State.abandonFrame_calm {s : State} (h : P s) (k : Nat) : P (State.abandonFrame s k) := by
  unfold State.abandonFrame
  repeat' with_reducible first | assumption | intro _ | apply State.dropSent_calm hP | apply State.ite_stable | apply State.ite_snd_stable | apply State.ite_fst_stable | split | (dsimp only; split)

theorem State.sendTrip_calm {s : State} (h : P s) (k : Nat) : P (State.sendTrip s k) := by
  unfold State.sendTrip
  repeat' with_reducible first | assumption | intro _ | apply State.abandonFrame_calm hP | apply State.modLink_calm hP | apply State.send_calm hP | refine State.draw_calm hP (by assumption) ?_ | apply State.drawSnd_calm hP | apply State.ite_stable | apply State.ite_snd_stable | apply State.ite_fst_stable | split | (dsimp only; split)

theorem State.syncMask_calm {s : State} (h : P s) (n : Nat) : P (State.syncMask s n) := by
  unfold State.syncMask
  repeat' with_reducible first | assumption | intro _ | apply State.putB_calm hP | apply State.ite_stable | apply State.ite_snd_stable | apply State.ite_fst_stable | split | (dsimp only; split)

theorem State.holdLeg_calm {s : State} (h : P s) (l : Nat) : P (State.holdLeg s l) := by
  unfold State.holdLeg
  repeat' with_reducible first | assumption | intro _ | apply State.modSched_calm hP | apply State.modLeg_calm hP | apply State.put_calm hP | apply State.ite_stable | apply State.ite_snd_stable | apply State.ite_fst_stable | split | (dsimp only; split)

theorem State.tripLinks_calm {s : State} (h : P s) (n : Nat) : P (State.tripLinks s n) := by
  unfold State.tripLinks
  repeat' with_reducible first | assumption | intro _ | apply State.sendTrip_calm hP | apply State.send_calm hP | apply State.each_stable | apply State.ite_stable | apply State.ite_snd_stable | apply State.ite_fst_stable | split | (dsimp only; split)

theorem State.step1_calm {s : State} (h : P s) (n up lo : Nat) : P (State.step1 s n up lo) := by
  unfold State.step1
  repeat' with_reducible first | assumption | intro _ | apply State.modGroup_calm hP | apply State.putB_calm hP | apply State.each_stable | apply State.ite_stable | apply State.ite_snd_stable | apply State.ite_fst_stable | split | (dsimp only; split)

theorem State.beginPass_calm {s : State} (h : P s) (n : Nat) (p : Pass) : P (State.beginPass s n p) := by
  unfold State.beginPass
  repeat' with_reducible first | assumption | intro _ | apply State.holdLeg_calm hP | apply State.step1_calm hP | apply State.modGroup_calm hP | apply State.put_calm hP | apply State.tripLinks_calm hP | apply State.syncMask_calm hP | apply State.each_stable | apply State.ite_stable | apply State.ite_snd_stable | apply State.ite_fst_stable | split | (dsimp only; split)

theorem State.recordCause_calm {s : State} (h : P s) (n cause up lo : Nat) : P (State.recordCause s n cause up lo) := by
  unfold State.recordCause
  repeat' with_reducible first | assumption | intro _ | apply State.put_calm hP | apply State.modGroup_calm hP | apply State.ite_stable | apply State.ite_snd_stable | apply State.ite_fst_stable | split | (dsimp only; split)

theorem State.tripGroup_calm {s : State} (h : P s) (n cause up lo : Nat) : P (State.tripGroup s n cause up lo) := by
  unfold State.tripGroup
  repeat' with_reducible first | assumption | intro _ | apply State.recordCause_calm hP | apply State.put_calm hP | apply State.modGroup_calm hP | apply State.beginPass_calm hP | apply State.ite_stable | apply State.ite_snd_stable | apply State.ite_fst_stable | split | (dsimp only; split)

theorem State.tripUnbound_calm {s : State} (h : P s) (l : Nat) : P (State.tripUnbound s l) := by
  unfold State.tripUnbound
  repeat' with_reducible first | assumption | intro _ | apply State.holdLeg_calm hP | apply State.modLeg_calm hP | apply State.putB_calm hP | apply State.modLink_calm hP | apply State.sendTrip_calm hP | apply State.send_calm hP | apply State.each_stable | apply State.ite_stable | apply State.ite_snd_stable | apply State.ite_fst_stable | split | (dsimp only; split)

theorem State.tripAll_calm {s : State} (h : P s) (cause : Nat) (except : List Nat) : P (State.tripAll s cause except) := by
  unfold State.tripAll
  repeat' with_reducible first | assumption | intro _ | apply State.tripGroup_calm hP | apply State.tripUnbound_calm hP | apply State.each_stable | apply State.ite_stable | apply State.ite_snd_stable | apply State.ite_fst_stable | split | (dsimp only; split)

theorem State.refreshHeld_calm {s : State} (h : P s) (l : Nat) : P (State.refreshHeld s l) := by
  unfold State.refreshHeld
  repeat' with_reducible first | assumption | intro _ | apply State.put_calm hP | apply State.ite_stable | apply State.ite_snd_stable | apply State.ite_fst_stable | split | (dsimp only; split)

theorem State.disableLeg_calm {s : State} (h : P s) (l : Nat) : P (State.disableLeg s l) := by
  unfold State.disableLeg
  repeat' with_reducible first | assumption | intro _ | apply State.modSched_calm hP | apply State.holdLeg_calm hP | apply State.ite_stable | apply State.ite_snd_stable | apply State.ite_fst_stable | split | (dsimp only; split)

theorem State.closeLoad_calm {s : State} (h : P s)  : P (State.closeLoad s) := by
  unfold State.closeLoad
  repeat' with_reducible first | assumption | intro _ | apply State.putB_calm hP | apply State.withEngLoad_calm hP | apply State.each_stable | apply State.ite_stable | apply State.ite_snd_stable | apply State.ite_fst_stable | split | (dsimp only; split)

theorem State.startSpeedTask_calm {s : State} (h : P s) (n : Nat) : P (State.startSpeedTask s n) := by
  unfold State.startSpeedTask
  dsimp only
  apply State.withMode_calm hP
  split
  next e => exact hP.speed s _ _ (of_decide_eq_true e) h
  next => exact h

theorem State.safeOffSpeed_calm {s : State} (h : P s) (n : Nat) : P (State.safeOffSpeed s n) := by
  unfold State.safeOffSpeed
  repeat' with_reducible first | assumption | intro _ | apply State.startSpeedTask_calm hP | apply State.ite_stable | apply State.ite_snd_stable | apply State.ite_fst_stable | split | (dsimp only; split)

theorem State.modeSpeed_calm {s : State} (h : P s) (m : Nat) : P (State.modeSpeed s m) := by
  unfold State.modeSpeed
  repeat' with_reducible first | assumption | intro _ | apply State.withMode_calm hP | apply State.startSpeedTask_calm hP | apply State.each_stable | apply State.ite_stable | apply State.ite_snd_stable | apply State.ite_fst_stable | split | (dsimp only; split)

theorem State.toMode_calm {s : State} (h : P s) (m : Nat) : P (State.toMode s m) := by
  unfold State.toMode
  repeat' with_reducible first | assumption | intro _ | apply State.put_calm hP | apply State.incMod_calm hP | apply State.irq_calm hP | apply State.closeLoad_calm hP | apply State.modeSpeed_calm hP | apply State.wr_calm hP | apply State.disableLeg_calm hP | apply State.refreshHeld_calm hP | apply State.each_stable | apply State.ite_stable | apply State.ite_snd_stable | apply State.ite_fst_stable | split | (dsimp only; split)

theorem State.fieldSafeOff_calm {s : State} (h : P s)  : P (State.fieldSafeOff s) := by
  unfold State.fieldSafeOff
  repeat' with_reducible first | assumption | intro _ | apply State.put_calm hP | apply State.each_stable | apply State.ite_stable | apply State.ite_snd_stable | apply State.ite_fst_stable | split | (dsimp only; split)

theorem State.setCause_calm {s : State} (h : P s) (ev : Nat) (bits : List Nat) : P (State.setCause s ev bits) := by
  unfold State.setCause
  repeat' with_reducible first | assumption | intro _ | apply State.wr_calm hP | apply State.ite_stable | apply State.ite_snd_stable | apply State.ite_fst_stable | split | (dsimp only; split)

theorem State.hwSafeOff_calm {s : State} (h : P s) (ev : Nat) (cause : List Nat) (fatal : Bool) : P (State.hwSafeOff s ev cause fatal) := by
  unfold State.hwSafeOff
  repeat' with_reducible first | assumption | intro _ | apply State.setCause_calm hP | apply State.toMode_calm hP | apply State.withWeir_calm hP | apply State.safeOffSpeed_calm hP | apply State.fieldSafeOff_calm hP | apply State.put_calm hP | apply State.each_stable | apply State.ite_stable | apply State.ite_snd_stable | apply State.ite_fst_stable | split | (dsimp only; split)

theorem State.sendStarts_calm {s : State} (h : P s) (l : List (Nat × Nat)) : P (State.sendStarts s l) := by
  unfold State.sendStarts
  repeat' with_reducible first | assumption | intro _ | apply State.withWeir_calm hP | apply State.ite_stable | apply State.ite_snd_stable | apply State.ite_fst_stable | split | (dsimp only; split)

theorem State.linePulse_calm {s : State} (h : P s) (m : Nat) : P (State.linePulse s m) := by
  unfold State.linePulse
  repeat' with_reducible first | assumption | intro _ | apply State.withWeir_calm hP | apply State.sendStarts_calm hP | apply State.modCap_calm hP | apply State.each_stable | apply State.ite_stable | apply State.ite_snd_stable | apply State.ite_fst_stable | split | (dsimp only; split)

theorem State.routeEvent_calm {s : State} (h : P s) (ev : Nat) : P (State.routeEvent s ev) := by
  unfold State.routeEvent
  repeat' with_reducible first | assumption | intro _ | apply State.linePulse_calm hP | apply State.ite_stable | apply State.ite_snd_stable | apply State.ite_fst_stable | split | (dsimp only; split)

theorem State.syncNq_calm {s : State} (h : P s)  : P (State.syncNq s) := by
  unfold State.syncNq
  repeat' with_reducible first | assumption | intro _ | apply State.putB_calm hP | apply State.put_calm hP | apply State.ite_stable | apply State.ite_snd_stable | apply State.ite_fst_stable | split | (dsimp only; split)

theorem State.notify_calm {s : State} (h : P s) (ev : Nat) : P (State.notify s ev) := by
  unfold State.notify
  repeat' with_reducible first | assumption | intro _ | apply State.withWeir_calm hP | apply State.syncNq_calm hP | apply State.put_calm hP | apply State.irq_calm hP | apply State.ite_stable | apply State.ite_snd_stable | apply State.ite_fst_stable | split | (dsimp only; split)

theorem State.checkDone_calm {s : State} (h : P s)  : P (State.checkDone s) := by
  unfold State.checkDone
  repeat' with_reducible first | assumption | intro _ | apply State.put_calm hP | apply State.withWeir_calm hP | apply State.each_stable | apply State.ite_stable | apply State.ite_snd_stable | apply State.ite_fst_stable | split | (dsimp only; split)

theorem State.startReaction_calm {s : State} (h : P s) (d code ev : Nat) (own : List Nat) : P (State.startReaction s d code ev own) := by
  unfold State.startReaction
  repeat' with_reducible first | assumption | intro _ | apply State.withWeir_calm hP | apply State.syncMask_calm hP | apply State.tripGroup_calm hP | apply State.tripAll_calm hP | apply State.hwSafeOff_calm hP | apply State.ite_stable | apply State.ite_snd_stable | apply State.ite_fst_stable | split | (dsimp only; split)

theorem State.react_calm {s : State} (h : P s) (ev code : Nat) (own : List Nat) : P (State.react s ev code own) := by
  unfold State.react
  repeat' with_reducible first | assumption | intro _ | apply State.put_calm hP | apply State.startReaction_calm hP | apply State.checkDone_calm hP | apply State.ite_stable | apply State.ite_snd_stable | apply State.ite_fst_stable | split | (dsimp only; split)

theorem State.weirTake_calm {s : State} (h : P s) (ev : Nat) (own : List Nat) : P (State.weirTake s ev own) := by
  unfold State.weirTake
  repeat' with_reducible first | assumption | intro _ | apply State.routeEvent_calm hP | apply State.put_calm hP | apply State.notify_calm hP | apply State.react_calm hP | apply State.ite_stable | apply State.ite_snd_stable | apply State.ite_fst_stable | split | (dsimp only; split)

theorem State.assertOwn_calm {s : State} (h : P s) (ev : Nat) (own : List Nat) : P (State.assertOwn s ev own) := by
  unfold State.assertOwn
  repeat' with_reducible first | assumption | intro _ | apply State.withMode_calm hP | apply State.put_calm hP | apply State.weirTake_calm hP | apply State.ite_stable | apply State.ite_snd_stable | apply State.ite_fst_stable | split | (dsimp only; split)

theorem State.assertEv_calm {s : State} (h : P s) (ev : Nat) : P (State.assertEv s ev) := by
  unfold State.assertEv
  repeat' with_reducible first | assumption | intro _ | apply State.assertOwn_calm hP | apply State.ite_stable | apply State.ite_snd_stable | apply State.ite_fst_stable | split | (dsimp only; split)

theorem State.tripLeg_calm {s : State} (h : P s) (l cause : Nat) (up lo : Bool) : P (State.tripLeg s l cause up lo) := by
  unfold State.tripLeg
  repeat' with_reducible first | assumption | intro _ | apply State.tripGroup_calm hP | apply State.assertOwn_calm hP | apply State.tripUnbound_calm hP | apply State.assertEv_calm hP | apply State.ite_stable | apply State.ite_snd_stable | apply State.ite_fst_stable | split | (dsimp only; split)

end Sys2Proof.Machine
end

