-- ==== Sys2Proof/Laws/Dispatch.lean ====
section
/-!
SUPPORT. Each arm of the dispatch by itself: a proof about one command rewrites with its arm and never unfolds the whole match.
-/

namespace Sys2Proof.Machine

@[simp] theorem exec_sysNop (c : HostCmd) (s : State) : exec (.sysNop c) s = execSysNop c s := rfl
@[simp] theorem exec_sysId (c : HostCmd) (s : State) : exec (.sysId c) s = execSysId c s := rfl
@[simp] theorem exec_sysStatus (c : HostCmd) (s : State) : exec (.sysStatus c) s = execSysStatus c s := rfl
@[simp] theorem exec_sysMode (c : HostCmd) (s : State) : exec (.sysMode c) s = execSysMode c s := rfl
@[simp] theorem exec_sysReset (c : HostCmd) (s : State) : exec (.sysReset c) s = execSysReset c s := rfl
@[simp] theorem exec_sysWakecfg (c : HostCmd) (s : State) : exec (.sysWakecfg c) s = execSysWakecfg c s := rfl
@[simp] theorem exec_creditSet (c : HostCmd) (s : State) : exec (.creditSet c) s = execCreditSet c s := rfl
@[simp] theorem exec_bufAlloc (c : HostCmd) (s : State) : exec (.bufAlloc c) s = execBufAlloc c s := rfl
@[simp] theorem exec_bufFree (c : HostCmd) (s : State) : exec (.bufFree c) s = execBufFree c s := rfl
@[simp] theorem exec_rsvStatus (c : HostCmd) (s : State) : exec (.rsvStatus c) s = execRsvStatus c s := rfl
@[simp] theorem exec_rsvQuota (c : HostCmd) (s : State) : exec (.rsvQuota c) s = execRsvQuota c s := rfl
@[simp] theorem exec_chanStatus (c : HostCmd) (s : State) : exec (.chanStatus c) s = execChanStatus c s := rfl
@[simp] theorem exec_sysEcho (c : HostCmd) (s : State) : exec (.sysEcho c) s = execSysEcho c s := rfl
@[simp] theorem exec_sysLinkwd (c : HostCmd) (s : State) : exec (.sysLinkwd c) s = execSysLinkwd c s := rfl
@[simp] theorem exec_axConfig (c : HostCmd) (s : State) : exec (.axConfig c) s = execAxConfig c s := rfl
@[simp] theorem exec_axState (c : HostCmd) (s : State) : exec (.axState c) s = execAxState c s := rfl
@[simp] theorem exec_axRecover (c : HostCmd) (s : State) : exec (.axRecover c) s = execAxRecover c s := rfl
@[simp] theorem exec_axBridgeEn (c : HostCmd) (s : State) : exec (.axBridgeEn c) s = execAxBridgeEn c s := rfl
@[simp] theorem exec_axSetpoint (c : HostCmd) (s : State) : exec (.axSetpoint c) s = execAxSetpoint c s := rfl
@[simp] theorem exec_axLimits (c : HostCmd) (s : State) : exec (.axLimits c) s = execAxLimits c s := rfl
@[simp] theorem exec_axParamWrite (c : HostCmd) (s : State) : exec (.axParamWrite c) s = execAxParamWrite c s := rfl
@[simp] theorem exec_axParamRead (c : HostCmd) (s : State) : exec (.axParamRead c) s = execAxParamRead c s := rfl
@[simp] theorem exec_axStatus (c : HostCmd) (s : State) : exec (.axStatus c) s = execAxStatus c s := rfl
@[simp] theorem exec_axPositionSet (c : HostCmd) (s : State) : exec (.axPositionSet c) s = execAxPositionSet c s := rfl
@[simp] theorem exec_axCapture (c : HostCmd) (s : State) : exec (.axCapture c) s = execAxCapture c s := rfl
@[simp] theorem exec_wearTables (c : HostCmd) (s : State) : exec (.wearTables c) s = execWearTables c s := rfl
@[simp] theorem exec_wearRead (c : HostCmd) (s : State) : exec (.wearRead c) s = execWearRead c s := rfl
@[simp] theorem exec_wearRestore (c : HostCmd) (s : State) : exec (.wearRestore c) s = execWearRestore c s := rfl
@[simp] theorem exec_derateCfg (c : HostCmd) (s : State) : exec (.derateCfg c) s = execDerateCfg c s := rfl
@[simp] theorem exec_trajCtxWrite (c : HostCmd) (s : State) : exec (.trajCtxWrite c) s = execTrajCtxWrite c s := rfl
@[simp] theorem exec_trajCtxRead (c : HostCmd) (s : State) : exec (.trajCtxRead c) s = execTrajCtxRead c s := rfl
@[simp] theorem exec_trajAssign (c : HostCmd) (s : State) : exec (.trajAssign c) s = execTrajAssign c s := rfl
@[simp] theorem exec_trajStart (c : HostCmd) (s : State) : exec (.trajStart c) s = execTrajStart c s := rfl
@[simp] theorem exec_trajTarget (c : HostCmd) (s : State) : exec (.trajTarget c) s = execTrajTarget c s := rfl
@[simp] theorem exec_trajParam (c : HostCmd) (s : State) : exec (.trajParam c) s = execTrajParam c s := rfl
@[simp] theorem exec_trajStop (c : HostCmd) (s : State) : exec (.trajStop c) s = execTrajStop c s := rfl
@[simp] theorem exec_trajStatus (c : HostCmd) (s : State) : exec (.trajStatus c) s = execTrajStatus c s := rfl
@[simp] theorem exec_gearEngage (c : HostCmd) (s : State) : exec (.gearEngage c) s = execGearEngage c s := rfl
@[simp] theorem exec_gearTable (c : HostCmd) (s : State) : exec (.gearTable c) s = execGearTable c s := rfl
@[simp] theorem exec_gearDisengage (c : HostCmd) (s : State) : exec (.gearDisengage c) s = execGearDisengage c s := rfl
@[simp] theorem exec_vmasterSet (c : HostCmd) (s : State) : exec (.vmasterSet c) s = execVmasterSet c s := rfl
@[simp] theorem exec_puAxisCfg (c : HostCmd) (s : State) : exec (.puAxisCfg c) s = execPuAxisCfg c s := rfl
@[simp] theorem exec_acqProbe (c : HostCmd) (s : State) : exec (.acqProbe c) s = execAcqProbe c s := rfl
@[simp] theorem exec_acqSetCfg (c : HostCmd) (s : State) : exec (.acqSetCfg c) s = execAcqSetCfg c s := rfl
@[simp] theorem exec_acqTrigCfg (c : HostCmd) (s : State) : exec (.acqTrigCfg c) s = execAcqTrigCfg c s := rfl
@[simp] theorem exec_acqArm (c : HostCmd) (s : State) : exec (.acqArm c) s = execAcqArm c s := rfl
@[simp] theorem exec_acqDisarm (c : HostCmd) (s : State) : exec (.acqDisarm c) s = execAcqDisarm c s := rfl
@[simp] theorem exec_acqTrigger (c : HostCmd) (s : State) : exec (.acqTrigger c) s = execAcqTrigger c s := rfl
@[simp] theorem exec_acqStatus (c : HostCmd) (s : State) : exec (.acqStatus c) s = execAcqStatus c s := rfl
@[simp] theorem exec_acqRead (c : HostCmd) (s : State) : exec (.acqRead c) s = execAcqRead c s := rfl
@[simp] theorem exec_cascCfg (c : HostCmd) (s : State) : exec (.cascCfg c) s = execCascCfg c s := rfl
@[simp] theorem exec_cascPing (c : HostCmd) (s : State) : exec (.cascPing c) s = execCascPing c s := rfl
@[simp] theorem exec_cascStatus (c : HostCmd) (s : State) : exec (.cascStatus c) s = execCascStatus c s := rfl
@[simp] theorem exec_netPortCfg (c : HostCmd) (s : State) : exec (.netPortCfg c) s = execNetPortCfg c s := rfl
@[simp] theorem exec_netVlanCfg (c : HostCmd) (s : State) : exec (.netVlanCfg c) s = execNetVlanCfg c s := rfl
@[simp] theorem exec_netFdb (c : HostCmd) (s : State) : exec (.netFdb c) s = execNetFdb c s := rfl
@[simp] theorem exec_netIpCfg (c : HostCmd) (s : State) : exec (.netIpCfg c) s = execNetIpCfg c s := rfl
@[simp] theorem exec_netStatus (c : HostCmd) (s : State) : exec (.netStatus c) s = execNetStatus c s := rfl
@[simp] theorem exec_timeCfg (c : HostCmd) (s : State) : exec (.timeCfg c) s = execTimeCfg c s := rfl
@[simp] theorem exec_timeStatus (c : HostCmd) (adv : Nat) (s : State) : exec (.timeStatus c adv) s = execTimeStatus c adv s := rfl
@[simp] theorem exec_timeRestep (c : HostCmd) (s : State) : exec (.timeRestep c) s = execTimeRestep c s := rfl
@[simp] theorem exec_timeGrid (c : HostCmd) (adv : Nat) (s : State) : exec (.timeGrid c adv) s = execTimeGrid c adv s := rfl
@[simp] theorem exec_timeAlarm (c : HostCmd) (adv : Nat) (s : State) : exec (.timeAlarm c adv) s = execTimeAlarm c adv s := rfl
@[simp] theorem exec_netPortDelay (c : HostCmd) (s : State) : exec (.netPortDelay c) s = execNetPortDelay c s := rfl
@[simp] theorem exec_netVmBind (c : HostCmd) (s : State) : exec (.netVmBind c) s = execNetVmBind c s := rfl
@[simp] theorem exec_netWakeCfg (c : HostCmd) (s : State) : exec (.netWakeCfg c) s = execNetWakeCfg c s := rfl
@[simp] theorem exec_canCfg (c : HostCmd) (s : State) : exec (.canCfg c) s = execCanCfg c s := rfl
@[simp] theorem exec_canFilter (c : HostCmd) (s : State) : exec (.canFilter c) s = execCanFilter c s := rfl
@[simp] theorem exec_canStart (c : HostCmd) (s : State) : exec (.canStart c) s = execCanStart c s := rfl
@[simp] theorem exec_canTx (c : HostCmd) (sof : Bool) (s : State) : exec (.canTx c sof) s = execCanTx c sof s := rfl
@[simp] theorem exec_canTxCancel (c : HostCmd) (s : State) : exec (.canTxCancel c) s = execCanTxCancel c s := rfl
@[simp] theorem exec_canRxRead (c : HostCmd) (s : State) : exec (.canRxRead c) s = execCanRxRead c s := rfl
@[simp] theorem exec_canStatus (c : HostCmd) (s : State) : exec (.canStatus c) s = execCanStatus c s := rfl
@[simp] theorem exec_canBusoffRecover (c : HostCmd) (s : State) : exec (.canBusoffRecover c) s = execCanBusoffRecover c s := rfl
@[simp] theorem exec_fieldInCfg (c : HostCmd) (s : State) : exec (.fieldInCfg c) s = execFieldInCfg c s := rfl
@[simp] theorem exec_fieldInRead (c : HostCmd) (s : State) : exec (.fieldInRead c) s = execFieldInRead c s := rfl
@[simp] theorem exec_fieldOutCfg (c : HostCmd) (s : State) : exec (.fieldOutCfg c) s = execFieldOutCfg c s := rfl
@[simp] theorem exec_fieldOutSet (c : HostCmd) (s : State) : exec (.fieldOutSet c) s = execFieldOutSet c s := rfl
@[simp] theorem exec_fieldOutClear (c : HostCmd) (hot : BitVec 16) (above : Bool) (s : State) : exec (.fieldOutClear c hot above) s = execFieldOutClear c hot above s := rfl
@[simp] theorem exec_fieldStatus (c : HostCmd) (ma : List Nat) (s : State) : exec (.fieldStatus c ma) s = execFieldStatus c ma s := rfl
@[simp] theorem exec_fieldWakeCfg (c : HostCmd) (s : State) : exec (.fieldWakeCfg c) s = execFieldWakeCfg c s := rfl
@[simp] theorem exec_faultRead (c : HostCmd) (s : State) : exec (.faultRead c) s = execFaultRead c s := rfl
@[simp] theorem exec_faultClear (c : HostCmd) (s : State) : exec (.faultClear c) s = execFaultClear c s := rfl
@[simp] theorem exec_faultRearm (c : HostCmd) (s : State) : exec (.faultRearm c) s = execFaultRearm c s := rfl
@[simp] theorem exec_faultReact (c : HostCmd) (s : State) : exec (.faultReact c) s = execFaultReact c s := rfl
@[simp] theorem exec_faultInfo (c : HostCmd) (s : State) : exec (.faultInfo c) s = execFaultInfo c s := rfl
@[simp] theorem exec_faultDomcfg (c : HostCmd) (s : State) : exec (.faultDomcfg c) s = execFaultDomcfg c s := rfl
@[simp] theorem exec_faultNotify (c : HostCmd) (s : State) : exec (.faultNotify c) s = execFaultNotify c s := rfl
@[simp] theorem exec_faultBist (c : HostCmd) (s : State) : exec (.faultBist c) s = execFaultBist c s := rfl
@[simp] theorem exec_evtRoute (c : HostCmd) (s : State) : exec (.evtRoute c) s = execEvtRoute c s := rfl
@[simp] theorem exec_sfmStatus (c : HostCmd) (s : State) : exec (.sfmStatus c) s = execSfmStatus c s := rfl
@[simp] theorem exec_engLoadBegin (c : HostCmd) (s : State) : exec (.engLoadBegin c) s = execEngLoadBegin c s := rfl
@[simp] theorem exec_engLoadData (c : HostCmd) (s : State) : exec (.engLoadData c) s = execEngLoadData c s := rfl
@[simp] theorem exec_engLoadEnd (c : HostCmd) (s : State) : exec (.engLoadEnd c) s = execEngLoadEnd c s := rfl
@[simp] theorem exec_engLoadStored (c : HostCmd) (s : State) : exec (.engLoadStored c) s = execEngLoadStored c s := rfl
@[simp] theorem exec_engUnload (c : HostCmd) (s : State) : exec (.engUnload c) s = execEngUnload c s := rfl
@[simp] theorem exec_engTaskEnable (c : HostCmd) (s : State) : exec (.engTaskEnable c) s = execEngTaskEnable c s := rfl
@[simp] theorem exec_engStatus (c : HostCmd) (s : State) : exec (.engStatus c) s = execEngStatus c s := rfl
@[simp] theorem exec_engGrantRead (c : HostCmd) (s : State) : exec (.engGrantRead c) s = execEngGrantRead c s := rfl
@[simp] theorem exec_engClearFlags (c : HostCmd) (s : State) : exec (.engClearFlags c) s = execEngClearFlags c s := rfl
@[simp] theorem exec_secStatus (c : HostCmd) (s : State) : exec (.secStatus c) s = execSecStatus c s := rfl
@[simp] theorem exec_secChallenge (c : HostCmd) (s : State) : exec (.secChallenge c) s = execSecChallenge c s := rfl
@[simp] theorem exec_secResponse (c : HostCmd) (s : State) : exec (.secResponse c) s = execSecResponse c s := rfl
@[simp] theorem exec_updBegin (c : HostCmd) (s : State) : exec (.updBegin c) s = execUpdBegin c s := rfl
@[simp] theorem exec_updData (c : HostCmd) (s : State) : exec (.updData c) s = execUpdData c s := rfl
@[simp] theorem exec_updEnd (c : HostCmd) (s : State) : exec (.updEnd c) s = execUpdEnd c s := rfl
@[simp] theorem exec_updAbort (c : HostCmd) (s : State) : exec (.updAbort c) s = execUpdAbort c s := rfl
@[simp] theorem exec_secLifecycle (c : HostCmd) (s : State) : exec (.secLifecycle c) s = execSecLifecycle c s := rfl
@[simp] theorem exec_secProvision (c : HostCmd) (s : State) : exec (.secProvision c) s = execSecProvision c s := rfl
@[simp] theorem exec_secArbAdvance (c : HostCmd) (s : State) : exec (.secArbAdvance c) s = execSecArbAdvance c s := rfl
@[simp] theorem exec_secSessionOpen (c : HostCmd) (s : State) : exec (.secSessionOpen c) s = execSecSessionOpen c s := rfl
@[simp] theorem exec_secSessionClose (c : HostCmd) (s : State) : exec (.secSessionClose c) s = execSecSessionClose c s := rfl
@[simp] theorem exec_secDebug (c : HostCmd) (s : State) : exec (.secDebug c) s = execSecDebug c s := rfl
@[simp] theorem exec_telCfg (c : HostCmd) (s : State) : exec (.telCfg c) s = execTelCfg c s := rfl
@[simp] theorem exec_telRead (c : HostCmd) (adv : Nat) (s : State) : exec (.telRead c adv) s = execTelRead c adv s := rfl
@[simp] theorem exec_telInv (c : HostCmd) (unstable : Bool) (s : State) : exec (.telInv c unstable) s = execTelInv c unstable s := rfl
@[simp] theorem exec_scrubStatus (c : HostCmd) (s : State) : exec (.scrubStatus c) s = execScrubStatus c s := rfl
@[simp] theorem exec_scrubCfg (c : HostCmd) (s : State) : exec (.scrubCfg c) s = execScrubCfg c s := rfl
@[simp] theorem exec_hpRead (head : List (BitVec 4)) (len : Nat) (s : State) : exec (.hpRead head len) s = execHpRead head len s := rfl
@[simp] theorem exec_hpWrite (head : List (BitVec 4)) (data : List (BitVec 4)) (s : State) : exec (.hpWrite head data) s = execHpWrite head data s := rfl
@[simp] theorem exec_hpRdsr (s : State) : exec .hpRdsr s = execHpRdsr s := rfl
@[simp] theorem exec_doorbellWrite (k : Fin 16) (v : Word) (s : State) : exec (.doorbellWrite k v) s = execDoorbellWrite k v s := rfl
@[simp] theorem exec_featCommit (v : Word) (s : State) : exec (.featCommit v) s = execFeatCommit v s := rfl
@[simp] theorem exec_commandConsume (s : State) : exec .commandConsume s = execCommandConsume s := rfl
@[simp] theorem exec_hostSessionDatagram (bytes : List Byte) (burst : Bool) (s : State) : exec (.hostSessionDatagram bytes burst) s = execHostSessionDatagram bytes burst s := rfl
@[simp] theorem exec_sessionResponseResend (k : Fin 16) (index : BitVec 16) (s : State) : exec (.sessionResponseResend k index) s = execSessionResponseResend k index s := rfl
@[simp] theorem exec_sessionIdleClose (n : Fin 4) (s : State) : exec (.sessionIdleClose n) s = execSessionIdleClose n s := rfl
@[simp] theorem exec_modeRequest (target : Fin 16) (s : State) : exec (.modeRequest target) s = execModeRequest target s := rfl
@[simp] theorem exec_safeoffToRecovery (late : Bool) (s : State) : exec (.safeoffToRecovery late) s = execSafeoffToRecovery late s := rfl
@[simp] theorem exec_deratePoll (s : State) : exec .deratePoll s = execDeratePoll s := rfl
@[simp] theorem exec_derateHoldExpiry (s : State) : exec .derateHoldExpiry s = execDerateHoldExpiry s := rfl
@[simp] theorem exec_axisRestReached (n : Fin 16) (s : State) : exec (.axisRestReached n) s = execAxisRestReached n s := rfl
@[simp] theorem exec_stopTimeout (s : State) : exec .stopTimeout s = execStopTimeout s := rfl
@[simp] theorem exec_hostLinkTimeout (s : State) : exec .hostLinkTimeout s = execHostLinkTimeout s := rfl
@[simp] theorem exec_standbyRestCheckDone (wakes : BitVec 5) (s : State) : exec (.standbyRestCheckDone wakes) s = execStandbyRestCheckDone wakes s := rfl
@[simp] theorem exec_wakeSource (src : Fin 6) (ticks : Nat) (s : State) : exec (.wakeSource src ticks) s = execWakeSource src ticks s := rfl
@[simp] theorem exec_legsHeldReenable (n : Fin 16) (s : State) : exec (.legsHeldReenable n) s = execLegsHeldReenable n s := rfl
@[simp] theorem exec_mov (e : Fin 16) (d : Fin 16) (a : Fin 16) (s : State) : exec (.mov e d a) s = execMov e d a s := rfl
@[simp] theorem exec_movi (e : Fin 16) (d : Fin 16) (imm : BitVec 16) (s : State) : exec (.movi e d imm) s = execMovi e d imm s := rfl
@[simp] theorem exec_movhi (e : Fin 16) (d : Fin 16) (imm : BitVec 16) (s : State) : exec (.movhi e d imm) s = execMovhi e d imm s := rfl
@[simp] theorem exec_add (e : Fin 16) (d : Fin 16) (a : Fin 16) (b : Src) (s : State) : exec (.add e d a b) s = execAdd e d a b s := rfl
@[simp] theorem exec_sub (e : Fin 16) (d : Fin 16) (a : Fin 16) (b : Src) (s : State) : exec (.sub e d a b) s = execSub e d a b s := rfl
@[simp] theorem exec_and_ (e : Fin 16) (d : Fin 16) (a : Fin 16) (b : Src) (s : State) : exec (.and_ e d a b) s = execAnd e d a b s := rfl
@[simp] theorem exec_or_ (e : Fin 16) (d : Fin 16) (a : Fin 16) (b : Src) (s : State) : exec (.or_ e d a b) s = execOr e d a b s := rfl
@[simp] theorem exec_xor_ (e : Fin 16) (d : Fin 16) (a : Fin 16) (b : Src) (s : State) : exec (.xor_ e d a b) s = execXor e d a b s := rfl
@[simp] theorem exec_adds (e : Fin 16) (d : Fin 16) (a : Fin 16) (b : Fin 16) (s : State) : exec (.adds e d a b) s = execAdds e d a b s := rfl
@[simp] theorem exec_subs (e : Fin 16) (d : Fin 16) (a : Fin 16) (b : Fin 16) (s : State) : exec (.subs e d a b) s = execSubs e d a b s := rfl
@[simp] theorem exec_abs_ (e : Fin 16) (d : Fin 16) (a : Fin 16) (s : State) : exec (.abs_ e d a) s = execAbs e d a s := rfl
@[simp] theorem exec_neg_ (e : Fin 16) (d : Fin 16) (a : Fin 16) (s : State) : exec (.neg_ e d a) s = execNeg e d a s := rfl
@[simp] theorem exec_shl (e : Fin 16) (d : Fin 16) (a : Fin 16) (n : Amount) (s : State) : exec (.shl e d a n) s = execShl e d a n s := rfl
@[simp] theorem exec_shr (e : Fin 16) (d : Fin 16) (a : Fin 16) (n : Amount) (s : State) : exec (.shr e d a n) s = execShr e d a n s := rfl
@[simp] theorem exec_sra (e : Fin 16) (d : Fin 16) (a : Fin 16) (n : Amount) (s : State) : exec (.sra e d a n) s = execSra e d a n s := rfl
@[simp] theorem exec_min_ (e : Fin 16) (d : Fin 16) (a : Fin 16) (b : Fin 16) (s : State) : exec (.min_ e d a b) s = execMin e d a b s := rfl
@[simp] theorem exec_max_ (e : Fin 16) (d : Fin 16) (a : Fin 16) (b : Fin 16) (s : State) : exec (.max_ e d a b) s = execMax e d a b s := rfl
@[simp] theorem exec_cmp (e : Fin 16) (a : Fin 16) (b : Fin 16) (s : State) : exec (.cmp e a b) s = execCmp e a b s := rfl
@[simp] theorem exec_mul (e : Fin 16) (d : Fin 16) (a : Fin 16) (b : Fin 16) (s : State) : exec (.mul e d a b) s = execMul e d a b s := rfl
@[simp] theorem exec_divq (e : Fin 16) (d : Fin 16) (a : Fin 16) (b : Fin 16) (s : State) : exec (.divq e d a b) s = execDivq e d a b s := rfl
@[simp] theorem exec_sincos (e : Fin 16) (d : Fin 16) (a : Fin 16) (s : State) : exec (.sincos e d a) s = execSincos e d a s := rfl
@[simp] theorem exec_rsq (e : Fin 16) (d : Fin 16) (a : Fin 16) (s : State) : exec (.rsq e d a) s = execRsq e d a s := rfl
@[simp] theorem exec_ld (e : Fin 16) (d : Fin 16) (m : Addr) (ecc : Fin 3) (s : State) : exec (.ld e d m ecc) s = execLd e d m ecc s := rfl
@[simp] theorem exec_ldh (e : Fin 16) (d : Fin 16) (m : Addr) (ecc : Fin 3) (s : State) : exec (.ldh e d m ecc) s = execLdh e d m ecc s := rfl
@[simp] theorem exec_ldv (e : Fin 16) (d : Fin 8) (m : Addr) (ecc : Fin 3) (s : State) : exec (.ldv e d m ecc) s = execLdv e d m ecc s := rfl
@[simp] theorem exec_st (e : Fin 16) (a : Fin 16) (m : Addr) (s : State) : exec (.st e a m) s = execSt e a m s := rfl
@[simp] theorem exec_sth (e : Fin 16) (a : Fin 16) (m : Addr) (s : State) : exec (.sth e a m) s = execSth e a m s := rfl
@[simp] theorem exec_stv (e : Fin 16) (a : Fin 8) (m : Addr) (s : State) : exec (.stv e a m) s = execStv e a m s := rfl
@[simp] theorem exec_setc (e : Fin 16) (p : Fin 8) (b : Fin 16) (l : Fin 16) (s : State) : exec (.setc e p b l) s = execSetc e p b l s := rfl
@[simp] theorem exec_addp (e : Fin 16) (p : Fin 8) (imm : Word) (s : State) : exec (.addp e p imm) s = execAddp e p imm s := rfl
@[simp] theorem exec_ldin (e : Fin 16) (d : Fin 16) (i_ : Fin 64) (s : State) : exec (.ldin e d i_) s = execLdin e d i_ s := rfl
@[simp] theorem exec_waitv (e : Fin 16) (a : Fin 16) (b : Fin 16) (s : State) : exec (.waitv e a b) s = execWaitv e a b s := rfl
@[simp] theorem exec_waitvResume (e : Fin 16) (k : Fin 8) (s : State) : exec (.waitvResume e k) s = execWaitvResume e k s := rfl
@[simp] theorem exec_probe (e : Fin 16) (k : Fin 16) (a : Fin 16) (s : State) : exec (.probe e k a) s = execProbe e k a s := rfl
@[simp] theorem exec_maxi (e : Fin 16) (d : Fin 16) (i_ : Fin 16) (p : Fin 8) (n : Nat) (ecc : Fin 3) (at_ : ScanAt) (s : State) : exec (.maxi e d i_ p n ecc at_) s = execMaxi e d i_ p n ecc at_ s := rfl
@[simp] theorem exec_mini (e : Fin 16) (d : Fin 16) (i_ : Fin 16) (p : Fin 8) (n : Nat) (ecc : Fin 3) (at_ : ScanAt) (s : State) : exec (.mini e d i_ p n ecc at_) s = execMini e d i_ p n ecc at_ s := rfl
@[simp] theorem exec_br (e : Fin 16) (t : BitVec 17) (s : State) : exec (.br e t) s = execBr e t s := rfl
@[simp] theorem exec_bcc (e : Fin 16) (c : Cond) (t : BitVec 17) (s : State) : exec (.bcc e c t) s = execBcc e c t s := rfl
@[simp] theorem exec_call_ (e : Fin 16) (t : BitVec 17) (s : State) : exec (.call_ e t) s = execCall e t s := rfl
@[simp] theorem exec_ret_ (e : Fin 16) (s : State) : exec (.ret_ e) s = execRet e s := rfl
@[simp] theorem exec_loop_ (e : Fin 16) (n : Passes) (last : BitVec 17) (s : State) : exec (.loop_ e n last) s = execLoop e n last s := rfl
@[simp] theorem exec_rdsr (e : Fin 16) (d : Fin 16) (s : State) : exec (.rdsr e d) s = execRdsr e d s := rfl
@[simp] theorem exec_wrsr (e : Fin 16) (a : Fin 16) (s : State) : exec (.wrsr e a) s = execWrsr e a s := rfl
@[simp] theorem exec_nop (e : Fin 16) (s : State) : exec (.nop e) s = execNop e s := rfl
@[simp] theorem exec_end_ (e : Fin 16) (s : State) : exec (.end_ e) s = execEnd e s := rfl
@[simp] theorem exec_vclr (e : Fin 16) (s : State) : exec (.vclr e) s = execVclr e s := rfl
@[simp] theorem exec_vmul (e : Fin 16) (a : Fin 8) (b : Fin 8) (s : State) : exec (.vmul e a b) s = execVmul e a b s := rfl
@[simp] theorem exec_vmac (e : Fin 16) (a : Fin 8) (b : Fin 8) (s : State) : exec (.vmac e a b) s = execVmac e a b s := rfl
@[simp] theorem exec_vmsu (e : Fin 16) (a : Fin 8) (b : Fin 8) (s : State) : exec (.vmsu e a b) s = execVmsu e a b s := rfl
@[simp] theorem exec_vmacx (e : Fin 16) (a : Fin 8) (b : Fin 8) (s : State) : exec (.vmacx e a b) s = execVmacx e a b s := rfl
@[simp] theorem exec_macl (e : Fin 16) (k : Fin 4) (a : Fin 16) (ah : Bool) (b : Fin 16) (bh : Bool) (s : State) : exec (.macl e k a ah b bh) s = execMacl e k a ah b bh s := rfl
@[simp] theorem exec_vsum (e : Fin 16) (s : State) : exec (.vsum e) s = execVsum e s := rfl
@[simp] theorem exec_vadd (e : Fin 16) (d : Fin 8) (a : Fin 8) (b : Fin 8) (s : State) : exec (.vadd e d a b) s = execVadd e d a b s := rfl
@[simp] theorem exec_vsub (e : Fin 16) (d : Fin 8) (a : Fin 8) (b : Fin 8) (s : State) : exec (.vsub e d a b) s = execVsub e d a b s := rfl
@[simp] theorem exec_vabs (e : Fin 16) (d : Fin 8) (a : Fin 8) (s : State) : exec (.vabs e d a) s = execVabs e d a s := rfl
@[simp] theorem exec_mva (e : Fin 16) (d : Fin 16) (k : Fin 4) (s : State) : exec (.mva e d k) s = execMva e d k s := rfl
@[simp] theorem exec_mvas (e : Fin 16) (d : Fin 16) (k : Fin 4) (sh : BitVec 4) (s : State) : exec (.mvas e d k sh) s = execMvas e d k sh s := rfl
@[simp] theorem exec_vmva (e : Fin 16) (d : Fin 8) (s : State) : exec (.vmva e d) s = execVmva e d s := rfl
@[simp] theorem exec_pclr (e : Fin 16) (k : Fin 2) (s : State) : exec (.pclr e k) s = execPclr e k s := rfl
@[simp] theorem exec_pmul (e : Fin 16) (k : Fin 2) (a : Fin 16) (b : Fin 16) (s : State) : exec (.pmul e k a b) s = execPmul e k a b s := rfl
@[simp] theorem exec_pmac (e : Fin 16) (k : Fin 2) (a : Fin 16) (b : Fin 16) (s : State) : exec (.pmac e k a b) s = execPmac e k a b s := rfl
@[simp] theorem exec_pmsu (e : Fin 16) (k : Fin 2) (a : Fin 16) (b : Fin 16) (s : State) : exec (.pmsu e k a b) s = execPmsu e k a b s := rfl
@[simp] theorem exec_padd (e : Fin 16) (s : State) : exec (.padd e) s = execPadd e s := rfl
@[simp] theorem exec_psha (e : Fin 16) (k : Fin 2) (n : BitVec 5) (s : State) : exec (.psha e k n) s = execPsha e k n s := rfl
@[simp] theorem exec_pmve (e : Fin 16) (d : Fin 16) (k : Fin 2) (s : State) : exec (.pmve e d k) s = execPmve e d k s := rfl
@[simp] theorem exec_pmves (e : Fin 16) (d : Fin 16) (k : Fin 2) (sh : BitVec 4) (s : State) : exec (.pmves e d k sh) s = execPmves e d k sh s := rfl
@[simp] theorem exec_illegalInstruction (e : Fin 16) (s : State) : exec (.illegalInstruction e) s = execIllegalInstruction e s := rfl
@[simp] theorem exec_remoteLoadReturn (e : Fin 16) (adv : Nat) (cnt : BitVec 18) (s : State) : exec (.remoteLoadReturn e adv cnt) s = execRemoteLoadReturn e adv cnt s := rfl
@[simp] theorem exec_postedLaneRoom (e : Fin 16) (s : State) : exec (.postedLaneRoom e) s = execPostedLaneRoom e s := rfl
@[simp] theorem exec_taskTrigger (e : Fin 16) (k : Fin 8) (s : State) : exec (.taskTrigger e k) s = execTaskTrigger e k s := rfl
@[simp] theorem exec_taskDispatch (e : Fin 16) (ecc : Fin 3) (s : State) : exec (.taskDispatch e ecc) s = execTaskDispatch e ecc s := rfl
@[simp] theorem exec_taskBudgetAbort (e : Fin 16) (k : Fin 8) (s : State) : exec (.taskBudgetAbort e k) s = execTaskBudgetAbort e k s := rfl
@[simp] theorem exec_ceDoorbell (e : Fin 16) (ring : BitVec 8) (s : State) : exec (.ceDoorbell e ring) s = execCeDoorbell e ring s := rfl
@[simp] theorem exec_ceClrcnt (e : Fin 16) (s : State) : exec (.ceClrcnt e) s = execCeClrcnt e s := rfl
@[simp] theorem exec_inputSlotPush (ty : Fin 16) (idx : Fin 64) (v : Word) (s : State) : exec (.inputSlotPush ty idx v) s = execInputSlotPush ty idx v s := rfl
@[simp] theorem exec_carrierZero (c : Fin 24) (late : List (Fin 72)) (s : State) : exec (.carrierZero c late) s = execCarrierZero c late s := rfl
@[simp] theorem exec_carrierPeak (c : Fin 24) (s : State) : exec (.carrierPeak c) s = execCarrierPeak c s := rfl
@[simp] theorem exec_shadowWrite (addr : Nat) (v : Word) (s : State) : exec (.shadowWrite addr v) s = execShadowWrite addr v s := rfl
@[simp] theorem exec_ldall (c : Fin 24) (late : Bool) (s : State) : exec (.ldall c late) s = execLdall c late s := rfl
@[simp] theorem exec_speedWordWrite (n : Fin 16) (fe : FeReading) (s : State) : exec (.speedWordWrite n fe) s = execSpeedWordWrite n fe s := rfl
@[simp] theorem exec_edgeComputeDone (c : Fin 24) (tight : List (Fin 16 × Fin 8)) (s : State) : exec (.edgeComputeDone c tight) s = execEdgeComputeDone c tight s := rfl
@[simp] theorem exec_loadDeadlineEmission (c : Fin 24) (tight : List (Fin 16 × Fin 8)) (s : State) : exec (.loadDeadlineEmission c tight) s = execLoadDeadlineEmission c tight s := rfl
@[simp] theorem exec_legEdge (leg : Fin 72) (s : State) : exec (.legEdge leg) s = execLegEdge leg s := rfl
@[simp] theorem exec_carrierEnable (c : Fin 24) (en : Bool) (s : State) : exec (.carrierEnable c en) s = execCarrierEnable c en s := rfl
@[simp] theorem exec_syncMark (c : Fin 24) (ticks : Int) (s : State) : exec (.syncMark c ticks) s = execSyncMark c ticks s := rfl
@[simp] theorem exec_syncMiss (c : Fin 24) (s : State) : exec (.syncMiss c) s = execSyncMiss c s := rfl
@[simp] theorem exec_intervalTimerEvent (k : Fin 8) (s : State) : exec (.intervalTimerEvent k) s = execIntervalTimerEvent k s := rfl
@[simp] theorem exec_cbClrcnt (c : Fin 24) (s : State) : exec (.cbClrcnt c) s = execCbClrcnt c s := rfl
@[simp] theorem exec_sluiceRelease (leg : Fin 72) (upper : Bool) (wait : Nat) (s : State) : exec (.sluiceRelease leg upper wait) s = execSluiceRelease leg upper wait s := rfl
@[simp] theorem exec_interlockTimeout (leg : Fin 72) (upper : Bool) (s : State) : exec (.interlockTimeout leg upper) s = execInterlockTimeout leg upper s := rfl
@[simp] theorem exec_desatDetect (leg : Fin 24) (at_ : DesatAt) (s : State) : exec (.desatDetect leg at_) s = execDesatDetect leg at_ s := rfl
@[simp] theorem exec_shuntOvercurrent (leg : Fin 24) (s : State) : exec (.shuntOvercurrent leg) s = execShuntOvercurrent leg s := rfl
@[simp] theorem exec_bootstrapUv (leg : Fin 24) (low : Bool) (s : State) : exec (.bootstrapUv leg low) s = execBootstrapUv leg low s := rfl
@[simp] theorem exec_stoInput (b : Bool) (s : State) : exec (.stoInput b) s = execStoInput b s := rfl
@[simp] theorem exec_stoDiscrepancy (s : State) : exec .stoDiscrepancy s = execStoDiscrepancy s := rfl
@[simp] theorem exec_spillwayStep2 (tgt : SpillTarget) (s : State) : exec (.spillwayStep2 tgt) s = execSpillwayStep2 tgt s := rfl
@[simp] theorem exec_safeStateReached (tgt : SpillTarget) (s : State) : exec (.safeStateReached tgt) s = execSafeStateReached tgt s := rfl
@[simp] theorem exec_shortApplyFail (n : Fin 16) (leg : Fin 72) (s : State) : exec (.shortApplyFail n leg) s = execShortApplyFail n leg s := rfl
@[simp] theorem exec_effectiveEnableFall (n : Fin 16) (s : State) : exec (.effectiveEnableFall n) s = execEffectiveEnableFall n s := rfl
@[simp] theorem exec_effectiveEnableRise (n : Fin 16) (at_ : EnableAt) (s : State) : exec (.effectiveEnableRise n at_) s = execEffectiveEnableRise n at_ s := rfl
@[simp] theorem exec_glEnable (k : Fin 16) (en : Bool) (s : State) : exec (.glEnable k en) s = execGlEnable k en s := rfl
@[simp] theorem exec_glReset (k : Fin 16) (s : State) : exec (.glReset k) s = execGlReset k s := rfl
@[simp] theorem exec_glCfgsend (k : Fin 16) (s : State) : exec (.glCfgsend k) s = execGlCfgsend k s := rfl
@[simp] theorem exec_trainAligned (k : Fin 16) (s : State) : exec (.trainAligned k) s = execTrainAligned k s := rfl
@[simp] theorem exec_bringupTimeout (k : Fin 16) (s : State) : exec (.bringupTimeout k) s = execBringupTimeout k s := rfl
@[simp] theorem exec_bringupFrameDue (k : Fin 16) (s : State) : exec (.bringupFrameDue k) s = execBringupFrameDue k s := rfl
@[simp] theorem exec_heartbeatDue (k : Fin 16) (req : Bool) (s : State) : exec (.heartbeatDue k req) s = execHeartbeatDue k req s := rfl
@[simp] theorem exec_echoReceived (k : Fin 16) (syms : List LinkSym) (gates : List GateAt) (cover : List (BitVec 8)) (late : List (BitVec 8)) (s : State) : exec (.echoReceived k syms gates cover late) s = execEchoReceived k syms gates cover late s := rfl
@[simp] theorem exec_statusReceived (k : Fin 16) (syms : List LinkSym) (rtt : Nat) (s : State) : exec (.statusReceived k syms rtt) s = execStatusReceived k syms rtt s := rfl
@[simp] theorem exec_badFrameReceived (k : Fin 16) (f : BadFrame) (s : State) : exec (.badFrameReceived k f) s = execBadFrameReceived k f s := rfl
@[simp] theorem exec_linkSilence (k : Fin 16) (s : State) : exec (.linkSilence k) s = execLinkSilence k s := rfl
@[simp] theorem exec_sinc3Result (n : Fin 48) (z : Nat) (since : Nat) (s : State) : exec (.sinc3Result n z since) s = execSinc3Result n z since s := rfl
@[simp] theorem exec_paWindowClose (n : Fin 48) (sum : Nat) (k : Nat) (since : Nat) (u : Unit) (s : State) : exec (.paWindowClose n sum k since u) s = execPaWindowClose n sum k since u s := rfl
@[simp] theorem exec_paResultValid (n : Fin 48) (s : State) : exec (.paResultValid n) s = execPaResultValid n s := rfl
@[simp] theorem exec_modulatorFault (r : StuckRun) (s : State) : exec (.modulatorFault r) s = execModulatorFault r s := rfl
@[simp] theorem exec_fastComparatorDecision (n : Fin 48) (zs : List Nat) (s : State) : exec (.fastComparatorDecision n zs) s = execFastComparatorDecision n zs s := rfl
@[simp] theorem exec_fastComparatorRelease (r : CmpSums) (s : State) : exec (.fastComparatorRelease r) s = execFastComparatorRelease r s := rfl
@[simp] theorem exec_offsetCalStep (n : Fin 48) (up : Bool) (s : State) : exec (.offsetCalStep n up) s = execOffsetCalStep n up s := rfl
@[simp] theorem exec_adcSequenceStart (q : Fin 8) (s : State) : exec (.adcSequenceStart q) s = execAdcSequenceStart q s := rfl
@[simp] theorem exec_adcStepSample (q : Fin 8) (codes : List (Fin 16384)) (u : Unit) (s : State) : exec (.adcStepSample q codes u) s = execAdcStepSample q codes u s := rfl
@[simp] theorem exec_adcResult (q : Fin 8) (s : State) : exec (.adcResult q) s = execAdcResult q s := rfl
@[simp] theorem exec_adcTrim (c : Fin 4) (gain : Nat) (ofs : Int) (s : State) : exec (.adcTrim c gain ofs) s = execAdcTrim c gain ofs s := rfl
@[simp] theorem exec_resolverPeak (r : Fin 4) (second : Bool) (s : State) : exec (.resolverPeak r second) s = execResolverPeak r second s := rfl
@[simp] theorem exec_resangWrite (r : Fin 4) (v : Word) (s : State) : exec (.resangWrite r v) s = execResangWrite r v s := rfl
@[simp] theorem exec_encTransition (n : Fin 12) (a : Bool) (b : Bool) (z : EncZ) (s : State) : exec (.encTransition n a b z) s = execEncTransition n a b z s := rfl
@[simp] theorem exec_encIndex (n : Fin 12) (err : Bool) (s : State) : exec (.encIndex n err) s = execEncIndex n err s := rfl
@[simp] theorem exec_ssiReadStart (m : Fin 4) (high : Bool) (s : State) : exec (.ssiReadStart m high) s = execSsiReadStart m high s := rfl
@[simp] theorem exec_ssiReadDone (m : Fin 4) (bits : List Bool) (mono : Bool) (s : State) : exec (.ssiReadDone m bits mono) s = execSsiReadDone m bits mono s := rfl
@[simp] theorem exec_captureTrigger (k : Fin 16) (adv : Nat) (age : Nat) (s : State) : exec (.captureTrigger k adv age) s = execCaptureTrigger k adv age s := rfl
@[simp] theorem exec_captureArm (k : Fin 16) (s : State) : exec (.captureArm k) s = execCaptureArm k s := rfl
@[simp] theorem exec_setpointTimeout (n : Fin 16) (s : State) : exec (.setpointTimeout n) s = execSetpointTimeout n s := rfl
@[simp] theorem exec_wearPeriodUpdate (leg : Fin 72) (u1 u2 u3 u4 u5 u6 : Unit) (s : State) : exec (.wearPeriodUpdate leg u1 u2 u3 u4 u5 u6) s = execWearPeriodUpdate leg u1 u2 u3 u4 u5 u6 s := rfl
@[simp] theorem exec_wearIdleUpdate (leg : Fin 72) (s : State) : exec (.wearIdleUpdate leg) s = execWearIdleUpdate leg s := rfl
@[simp] theorem exec_wearFlush (s : State) : exec .wearFlush s = execWearFlush s := rfl
@[simp] theorem exec_wearRecordWriteback (s : State) : exec .wearRecordWriteback s = execWearRecordWriteback s := rfl
@[simp] theorem exec_profileTick (n : Fin 16) (dt : Nat) (at_ : TickAt) (s : State) : exec (.profileTick n dt at_) s = execProfileTick n dt at_ s := rfl
@[simp] theorem exec_referencePublish (n : Fin 16) (work : Nat) (par : Bool) (s : State) : exec (.referencePublish n work par) s = execReferencePublish n work par s := rfl
@[simp] theorem exec_ctxCommit (c : Fin 256) (s : State) : exec (.ctxCommit c) s = execCtxCommit c s := rfl
@[simp] theorem exec_puStart (n : Fin 16) (s : State) : exec (.puStart n) s = execPuStart n s := rfl
@[simp] theorem exec_puSwapnow (n : Fin 16) (s : State) : exec (.puSwapnow n) s = execPuSwapnow n s := rfl
@[simp] theorem exec_puStop (n : Fin 16) (s : State) : exec (.puStop n) s = execPuStop n s := rfl
@[simp] theorem exec_puQstop (n : Fin 16) (s : State) : exec (.puQstop n) s = execPuQstop n s := rfl
@[simp] theorem exec_puEngage (n : Fin 16) (s : State) : exec (.puEngage n) s = execPuEngage n s := rfl
@[simp] theorem exec_vmthWrite (k : Fin 4) (v : Word) (s : State) : exec (.vmthWrite k v) s = execVmthWrite k v s := rfl
@[simp] theorem exec_standstillEnter (n : Fin 16) (s : State) : exec (.standstillEnter n) s = execStandstillEnter n s := rfl
@[simp] theorem exec_stepperLegsReady (n : Fin 16) (s : State) : exec (.stepperLegsReady n) s = execStepperLegsReady n s := rfl
@[simp] theorem exec_stepClampReport (n : Fin 16) (s : State) : exec (.stepClampReport n) s = execStepClampReport n s := rfl
@[simp] theorem exec_sourceAssert (ev : Fin 256) (s : State) : exec (.sourceAssert ev) s = execSourceAssert ev s := rfl
@[simp] theorem exec_axisStopFirmware (n : Fin 16) (rest : Bool) (s : State) : exec (.axisStopFirmware n rest) s = execAxisStopFirmware n rest s := rfl
@[simp] theorem exec_axisStopEscalation (n : Fin 16) (s : State) : exec (.axisStopEscalation n) s = execAxisStopEscalation n s := rfl
@[simp] theorem exec_axisSafeoffFirmware (n : Fin 16) (s : State) : exec (.axisSafeoffFirmware n) s = execAxisSafeoffFirmware n s := rfl
@[simp] theorem exec_settleMaskEnd (m : MaskId) (s : State) : exec (.settleMaskEnd m) s = execSettleMaskEnd m s := rfl
@[simp] theorem exec_supHeartbeatKick (s : State) : exec .supHeartbeatKick s = execSupHeartbeatKick s := rfl
@[simp] theorem exec_supWatchdogMiss (s : State) : exec .supWatchdogMiss s = execSupWatchdogMiss s := rfl
@[simp] theorem exec_sfmResetRequest (s : State) : exec .sfmResetRequest s = execSfmResetRequest s := rfl
@[simp] theorem exec_sfmConfigCheck (s : State) : exec .sfmConfigCheck s = execSfmConfigCheck s := rfl
@[simp] theorem exec_sfmLockstepMismatch (s : State) : exec .sfmLockstepMismatch s = execSfmLockstepMismatch s := rfl
@[simp] theorem exec_selfTestRetry (t : Fin 4) (inst : Nat) (result : Fin 4) (s : State) : exec (.selfTestRetry t inst result) s = execSelfTestRetry t inst result s := rfl
@[simp] theorem exec_basinSample (n : Fin 4) (adv : Nat) (s : State) : exec (.basinSample n adv) s = execBasinSample n adv s := rfl
@[simp] theorem exec_probePush (p : Fin 48) (v : Word) (s : State) : exec (.probePush p v) s = execProbePush p v s := rfl
@[simp] theorem exec_basinRecordWrite (n : Fin 4) (s : State) : exec (.basinRecordWrite n) s = execBasinRecordWrite n s := rfl
@[simp] theorem exec_triggerDecision (n : Fin 4) (s : State) : exec (.triggerDecision n) s = execTriggerDecision n s := rfl
@[simp] theorem exec_exportBufferFill (n : Fin 4) (s : State) : exec (.exportBufferFill n) s = execExportBufferFill n s := rfl
@[simp] theorem exec_syncClkLoss (s : State) : exec .syncClkLoss s = execSyncClkLoss s := rfl
@[simp] theorem exec_cascadeLaunch (s : State) : exec .cascadeLaunch s = execCascadeLaunch s := rfl
@[simp] theorem exec_cascadeTriggerReceive (t : Moment) (s : State) : exec (.cascadeTriggerReceive t) s = execCascadeTriggerReceive t s := rfl
@[simp] theorem exec_trigIoStuck (s : State) : exec .trigIoStuck s = execTrigIoStuck s := rfl
@[simp] theorem exec_pingAnswer (s : State) : exec .pingAnswer s = execPingAnswer s := rfl
@[simp] theorem exec_pingRound (rtt : Option Nat) (trig : Bool) (s : State) : exec (.pingRound rtt trig) s = execPingRound rtt trig s := rfl
@[simp] theorem exec_frameReceive (p : Fin 4) (bytes : List Byte) (bad : Bool) (full : Nat) (stamp : Moment) (s : State) : exec (.frameReceive p bytes bad full stamp) s = execFrameReceive p bytes bad full stamp s := rfl
@[simp] theorem exec_internalPortFrame (s : State) : exec .internalPortFrame s = execInternalPortFrame s := rfl
@[simp] theorem exec_gptpSyncReceived (p : Fin 4) (bytes : List Byte) (stamp : Moment) (origin : Int) (s : State) : exec (.gptpSyncReceived p bytes stamp origin) s = execGptpSyncReceived p bytes stamp origin s := rfl
@[simp] theorem exec_pdelayReqReceived (p : Fin 4) (sequence : BitVec 16) (stamp : Moment) (s : State) : exec (.pdelayReqReceived p sequence stamp) s = execPdelayReqReceived p sequence stamp s := rfl
@[simp] theorem exec_syncLossTimeout (s : State) : exec .syncLossTimeout s = execSyncLossTimeout s := rfl
@[simp] theorem exec_rateRequest (v : Word) (adv : Nat) (s : State) : exec (.rateRequest v adv) s = execRateRequest v adv s := rfl
@[simp] theorem exec_timeStep (adv : Nat) (s : State) : exec (.timeStep adv) s = execTimeStep adv s := rfl
@[simp] theorem exec_gridMarkSend (adv : Nat) (s : State) : exec (.gridMarkSend adv) s = execGridMarkSend adv s := rfl
@[simp] theorem exec_alarmReached (adv : Nat) (s : State) : exec (.alarmReached adv) s = execAlarmReached adv s := rfl
@[simp] theorem exec_wakeFrame (bytes : List Byte) (s : State) : exec (.wakeFrame bytes) s = execWakeFrame bytes s := rfl
@[simp] theorem exec_vmDatagram (port : BitVec 16) (src : BitVec 32) (bytes : List Byte) (s : State) : exec (.vmDatagram port src bytes) s = execVmDatagram port src bytes s := rfl
@[simp] theorem exec_tsqPop (s : State) : exec .tsqPop s = execTsqPop s := rfl
@[simp] theorem exec_canFrameReceived (n : Fin 8) (frame : CanFrame) (heard : CanHeard) (s : State) : exec (.canFrameReceived n frame heard) s = execCanFrameReceived n frame heard s := rfl
@[simp] theorem exec_qheadLock (n : Fin 8) (q : Fin 2) (s : State) : exec (.qheadLock n q) s = execQheadLock n q s := rfl
@[simp] theorem exec_queueRelease (n : Fin 8) (q : Fin 2) (s : State) : exec (.queueRelease n q) s = execQueueRelease n q s := rfl
@[simp] theorem exec_spillDone (n : Fin 8) (s : State) : exec (.spillDone n) s = execSpillDone n s := rfl
@[simp] theorem exec_txRequest (n : Fin 8) (bufs : BitVec 16) (sof : Bool) (s : State) : exec (.txRequest n bufs sof) s = execTxRequest n bufs sof s := rfl
@[simp] theorem exec_txCancel (n : Fin 8) (bufs : BitVec 16) (s : State) : exec (.txCancel n bufs) s = execTxCancel n bufs s := rfl
@[simp] theorem exec_txAttemptEnd (n : Fin 8) (out : CanEnd) (sof : Bool) (s : State) : exec (.txAttemptEnd n out sof) s = execTxAttemptEnd n out sof s := rfl
@[simp] theorem exec_busOff (n : Fin 8) (s : State) : exec (.busOff n) s = execBusOff n s := rfl
@[simp] theorem exec_busoffRecovered (n : Fin 8) (s : State) : exec (.busoffRecovered n) s = execBusoffRecovered n s := rfl
@[simp] theorem exec_stuckDominant (n : Fin 8) (s : State) : exec (.stuckDominant n) s = execStuckDominant n s := rfl
@[simp] theorem exec_inputRawChange (n : Fin 32) (level : Bool) (win : Bool) (s : State) : exec (.inputRawChange n level win) s = execInputRawChange n level win s := rfl
@[simp] theorem exec_inputEdge (n : Fin 32) (s : State) : exec (.inputEdge n) s = execInputEdge n s := rfl
@[simp] theorem exec_pulseSample (n : Fin 32) (level : Bool) (win : Bool) (s : State) : exec (.pulseSample n level win) s = execPulseSample n level win s := rfl
@[simp] theorem exec_wireBreakMeasure (n : Fin 32) (low : Bool) (s : State) : exec (.wireBreakMeasure n low) s = execWireBreakMeasure n low s := rfl
@[simp] theorem exec_outputOverloadTrip (m : Option (Fin 16)) (s : State) : exec (.outputOverloadTrip m) s = execOutputOverloadTrip m s := rfl
@[simp] theorem exec_outputThermalShutdown (m : Fin 16) (s : State) : exec (.outputThermalShutdown m) s = execOutputThermalShutdown m s := rfl
@[simp] theorem exec_openLoadDetect (m : Fin 16) (s : State) : exec (.openLoadDetect m) s = execOpenLoadDetect m s := rfl
@[simp] theorem exec_vfldMeasure (v : BitVec 16) (copy : Bool) (s : State) : exec (.vfldMeasure v copy) s = execVfldMeasure v copy s := rfl
@[simp] theorem exec_vfldThreshold (cond : Fin 5) (enter : Bool) (s : State) : exec (.vfldThreshold cond enter) s = execVfldThreshold cond enter s := rfl
@[simp] theorem exec_scrubRead (region : Fin 5) (e : Fin 16) (err : Fin 3) (raced : Bool) (lag : Bool) (busy : Bool) (s : State) : exec (.scrubRead region e err raced lag busy) s = execScrubRead region e err raced lag busy s := rfl
@[simp] theorem exec_telemetryDue (u : Unit) (late : List (Fin 4 × Fin 16)) (adv : Nat) (s : State) : exec (.telemetryDue u late adv) s = execTelemetryDue u late adv s := rfl
@[simp] theorem exec_nonceExpiry (s : State) : exec .nonceExpiry s = execNonceExpiry s := rfl
@[simp] theorem exec_authLockExpiry (s : State) : exec .authLockExpiry s = execAuthLockExpiry s := rfl
@[simp] theorem exec_tapSecChal (purpose : Byte) (level : Byte) (s : State) : exec (.tapSecChal purpose level) s = execTapSecChal purpose level s := rfl
@[simp] theorem exec_tapSecOpen (level : Fin 4) (s : State) : exec (.tapSecOpen level) s = execTapSecOpen level s := rfl
@[simp] theorem exec_tapIdcode (s : State) : exec .tapIdcode s = execTapIdcode s := rfl
@[simp] theorem exec_tapBypass (s : State) : exec .tapBypass s = execTapBypass s := rfl
@[simp] theorem exec_tapExtest (s : State) : exec .tapExtest s = execTapExtest s := rfl
@[simp] theorem exec_tapSamplePreload (s : State) : exec .tapSamplePreload s = execTapSamplePreload s := rfl
@[simp] theorem exec_debugHalt (core : Fin 17) (op : DebugOp) (s : State) : exec (.debugHalt core op) s = execDebugHalt core op s := rfl
@[simp] theorem exec_trstLow (s : State) : exec .trstLow s = execTrstLow s := rfl
@[simp] theorem exec_porstAssert (bor : Bool) (s : State) : exec (.porstAssert bor) s = execPorstAssert bor s := rfl
@[simp] theorem exec_warmReset (s : State) : exec .warmReset s = execWarmReset s := rfl
@[simp] theorem exec_resetRelease (otpBad : Bool) (x32 : Bool) (s : State) : exec (.resetRelease otpBad x32) s = execResetRelease otpBad x32 s := rfl
@[simp] theorem exec_strapLatch (samples : List (BitVec 14)) (s : State) : exec (.strapLatch samples) s = execStrapLatch samples s := rfl
@[simp] theorem exec_pllLock (p : Fin 3) (bad : List (Fin 4 × Nat × Bool)) (s : State) : exec (.pllLock p bad) s = execPllLock p bad s := rfl
@[simp] theorem exec_pllLockRetry (p : Fin 2) (ok : Bool) (bad : List (Fin 4 × Nat × Bool)) (s : State) : exec (.pllLockRetry p ok bad) s = execPllLockRetry p ok bad s := rfl
@[simp] theorem exec_memoryClearDone (bad : List (Fin 4 × Nat × Bool)) (s : State) : exec (.memoryClearDone bad) s = execMemoryClearDone bad s := rfl
@[simp] theorem exec_firmwareImageChecked (s : State) : exec .firmwareImageChecked s = execFirmwareImageChecked s := rfl
@[simp] theorem exec_islandResetWrite (v : BitVec 6) (s : State) : exec (.islandResetWrite v) s = execIslandResetWrite v s := rfl
@[simp] theorem exec_islandResetAccess (i_ : Fin 6) (s : State) : exec (.islandResetAccess i_) s = execIslandResetAccess i_ s := rfl
@[simp] theorem exec_mainClockLoss (xin : Bool) (s : State) : exec (.mainClockLoss xin) s = execMainClockLoss xin s := rfl
@[simp] theorem exec_safetyClockLoss (sxin : Bool) (s : State) : exec (.safetyClockLoss sxin) s = execSafetyClockLoss sxin s := rfl
@[simp] theorem exec_clockFaultReset (s : State) : exec .clockFaultReset s = execClockFaultReset s := rfl
@[simp] theorem exec_referenceMismatchWindow (dev : BitVec 16) (s : State) : exec (.referenceMismatchWindow dev) s = execReferenceMismatchWindow dev s := rfl
@[simp] theorem exec_x32Loss (s : State) : exec .x32Loss s = execX32Loss s := rfl
@[simp] theorem exec_forwardedClockStop (stays : Bool) (s : State) : exec (.forwardedClockStop stays) s = execForwardedClockStop stays s := rfl
@[simp] theorem exec_supplyWarning (rail : Fin 4) (low : Bool) (s : State) : exec (.supplyWarning rail low) s = execSupplyWarning rail low s := rfl
@[simp] theorem exec_vdrvOutOfRange (v : BitVec 16) (s : State) : exec (.vdrvOutOfRange v) s = execVdrvOutOfRange v s := rfl
@[simp] theorem exec_vdrvCollapse (v : BitVec 16) (s : State) : exec (.vdrvCollapse v) s = execVdrvCollapse v s := rfl
@[simp] theorem exec_dieTempUpdate (log : BitVec 16) (fld : BitVec 16) (s : State) : exec (.dieTempUpdate log fld) s = execDieTempUpdate log fld s := rfl
@[simp] theorem exec_enDlNChange (high : Bool) (at_ : EnableMasks) (s : State) : exec (.enDlNChange high at_) s = execEnDlNChange high at_ s := rfl
@[simp] theorem exec_registerWrite (addr : Nat) (v : Word) (s : State) : exec (.registerWrite addr v) s = execRegisterWrite addr v s := rfl
@[simp] theorem exec_legCompareEvent (leg : Fin 72) (b : Bool) (s : State) : exec (.legCompareEvent leg b) s = execLegCompareEvent leg b s := rfl
@[simp] theorem exec_syncClkEdge (near : Bool) (low : Bool) (s : State) : exec (.syncClkEdge near low) s = execSyncClkEdge near low s := rfl
@[simp] theorem exec_stoInputHigh (b : Bool) (s : State) : exec (.stoInputHigh b) s = execStoInputHigh b s := rfl
@[simp] theorem exec_vdrvInRange (v : BitVec 16) (s : State) : exec (.vdrvInRange v) s = execVdrvInRange v s := rfl
@[simp] theorem exec_portLinkChange (p : Fin 4) (up : Bool) (s : State) : exec (.portLinkChange p up) s = execPortLinkChange p up s := rfl
@[simp] theorem exec_canBusError (n : Fin 8) (err : CanError) (s : State) : exec (.canBusError n err) s = execCanBusError n err s := rfl
@[simp] theorem exec_busIntegrationDone (n : Fin 8) (s : State) : exec (.busIntegrationDone n) s = execBusIntegrationDone n s := rfl
@[simp] theorem exec_rxReadWaitEnd (k : Fin 16) (s : State) : exec (.rxReadWaitEnd k) s = execRxReadWaitEnd k s := rfl
@[simp] theorem exec_symbolError (x : BadSymbol) (s : State) : exec (.symbolError x) s = execSymbolError x s := rfl
@[simp] theorem exec_virtualMasterTimeout (k : Fin 4) (s : State) : exec (.virtualMasterTimeout k) s = execVirtualMasterTimeout k s := rfl
@[simp] theorem exec_fdbAgeing (mac : BitVec 48) (s : State) : exec (.fdbAgeing mac) s = execFdbAgeing mac s := rfl
@[simp] theorem exec_frameEgress (p : Fin 4) (stamp : Moment) (s : State) : exec (.frameEgress p stamp) s = execFrameEgress p stamp s := rfl
@[simp] theorem exec_gptpTimerDue (p : Fin 4) (kind : Fin 3) (s : State) : exec (.gptpTimerDue p kind) s = execGptpTimerDue p kind s := rfl
@[simp] theorem exec_pdelayRespReceived (p : Fin 4) (sequence : BitVec 16) (stamp : Moment) (t2 : Int) (t3 : Int) (s : State) : exec (.pdelayRespReceived p sequence stamp t2 t3) s = execPdelayRespReceived p sequence stamp t2 t3 s := rfl
@[simp] theorem exec_announceReceived (p : Fin 4) (bytes : List Byte) (s : State) : exec (.announceReceived p bytes) s = execAnnounceReceived p bytes s := rfl
@[simp] theorem exec_dieLinkParityError (s : State) : exec .dieLinkParityError s = execDieLinkParityError s := rfl

end Sys2Proof.Machine
end

