-- ==== Sys2Proof/Laws/Fields.lean ====
section
/-!
SUPPORT. Reads after writes of registers, register fields and the tables of instances: what was written is read back, and
everything else reads as before.
-/

namespace Sys2Proof.Machine

/-! ## Registers and fields -/

@[simp] theorem State.rd_wr_same (s : State) (a : Nat) (w : Word) : (s.wr a w).rd a = w :=
  SMap.get_set_same regReset s.regs a w

theorem State.rd_wr_ne (s : State) {a b : Nat} (w : Word) (h : b ≠ a) : (s.wr a w).rd b = s.rd b :=
  SMap.get_set_other regReset s.regs w (Ne.symm h)

theorem State.rd_put_ne (s : State) {f : Fld} {b : Nat} (v : Nat) (h : b ≠ f.addr) : (s.put f v).rd b = s.rd b :=
  s.rd_wr_ne _ h

/-- A field of another register is unchanged by a write. -/
theorem State.fld_wr_ne (s : State) {a : Nat} {g : Fld} (w : Word) (h : g.addr ≠ a) : (s.wr a w).fld g = s.fld g := by
  unfold State.fld
  rw [s.rd_wr_ne w h]

theorem State.fld_put_ne (s : State) {f g : Fld} (v : Nat) (h : g.addr ≠ f.addr) : (s.put f v).fld g = s.fld g :=
  s.fld_wr_ne _ h

/-- The bits of a word with one field replaced. -/
theorem testBit_fieldPut (n lo w v i : Nat) : (fieldPut n lo w v).testBit i =
    if lo ≤ i ∧ i < lo + w then v.testBit (i - lo) else n.testBit i := by
  have e : fieldPut n lo w v = 2 ^ (lo + w) * (n / 2 ^ (lo + w)) + (2 ^ lo * (v % 2 ^ w) + n % 2 ^ lo) := by
    unfold fieldPut
    have h1 : n / 2 ^ lo % 2 ^ w * 2 ^ lo + n % 2 ^ lo = n % 2 ^ (lo + w) := by
      rw [Nat.pow_add, Nat.mod_mul, Nat.mul_comm, Nat.add_comm]
    have h2 := Nat.div_add_mod n (2 ^ (lo + w))
    have h3 : v % 2 ^ w * 2 ^ lo = 2 ^ lo * (v % 2 ^ w) := Nat.mul_comm _ _
    omega
  have hlt : 2 ^ lo * (v % 2 ^ w) + n % 2 ^ lo < 2 ^ (lo + w) := by
    have a1 := Nat.mod_lt n (Nat.two_pow_pos lo)
    have a2 := Nat.mod_lt v (Nat.two_pow_pos w)
    have : 2 ^ lo * (v % 2 ^ w) + 2 ^ lo ≤ 2 ^ lo * 2 ^ w := by
      rw [← Nat.mul_succ]; exact Nat.mul_le_mul_left _ a2
    rw [Nat.pow_add]; omega
  rw [e, Nat.testBit_two_pow_mul_add _ hlt, Nat.testBit_two_pow_mul_add _ (Nat.mod_lt _ (Nat.two_pow_pos lo)),
    Nat.testBit_mod_two_pow, Nat.testBit_mod_two_pow, Nat.testBit_div_two_pow]
  by_cases c1 : i < lo + w
  · by_cases c2 : i < lo
    · have c3 : ¬ lo ≤ i := by omega
      simp [c1, c2, c3]
    · have c3 : lo ≤ i := by omega
      have c4 : i - lo < w := by omega
      simp [c1, c2, c3, c4]
  · have c5 : i - (lo + w) + (lo + w) = i := by omega
    simp [c1, c5]

/-- The bits of a field. -/
theorem State.testBit_fld (s : State) (g : Fld) (i : Nat) :
    (s.fld g).testBit i = (decide (i < g.width) && (s.rd g.addr).toNat.testBit (i + g.lo)) := by
  unfold State.fld
  rw [Nat.testBit_mod_two_pow, Nat.testBit_div_two_pow]

theorem State.testBit_rd_put (s : State) (f : Fld) (v i : Nat) :
    ((s.put f v).rd f.addr).toNat.testBit i =
      (decide (i < 32) && if f.lo ≤ i ∧ i < f.lo + f.width then v.testBit (i - f.lo) else (s.rd f.addr).toNat.testBit i) := by
  unfold State.put
  rw [State.rd_wr_same, BitVec.toNat_ofNat, Nat.testBit_mod_two_pow, testBit_fieldPut]

/-- A field reads back what was written to it. -/
theorem State.fld_put_same (s : State) (f : Fld) (v : Nat) (h : f.lo + f.width ≤ 32) : (s.put f v).fld f = v % 2 ^ f.width := by
  apply Nat.eq_of_testBit_eq
  intro i
  rw [State.testBit_fld, State.testBit_rd_put, Nat.testBit_mod_two_pow]
  by_cases c : i < f.width
  · have c1 : i + f.lo < 32 := by omega
    have c2 : i + f.lo - f.lo = i := by omega
    have c3 : f.lo ≤ i + f.lo ∧ i + f.lo < f.lo + f.width := by omega
    simp [c, c1, c2, c3]
  · simp [c]

/-- Another field of the same register is unchanged. -/
theorem State.fld_put_disj (s : State) {f g : Fld} (v : Nat) (h : g.lo + g.width ≤ f.lo ∨ f.lo + f.width ≤ g.lo)
    (hg : g.lo + g.width ≤ 32) : (s.put f v).fld g = s.fld g := by
  by_cases ha : g.addr = f.addr
  · apply Nat.eq_of_testBit_eq
    intro i
    rw [State.testBit_fld, State.testBit_fld, ha, State.testBit_rd_put]
    by_cases c : i < g.width
    · have c1 : i + g.lo < 32 := by omega
      have c3 : ¬ (f.lo ≤ i + g.lo ∧ i + g.lo < f.lo + f.width) := by omega
      simp [c, c1, c3]
    · simp [c]
  · exact s.fld_put_ne v ha

/-! ## Memory and flash -/

@[simp] theorem State.rd8_wr8_same (s : State) (a : Nat) (b : Byte) : (s.wr8 a b).rd8 a = b :=
  SMap.get_set_same memDefault s.mem a b

theorem State.rd8_wr8_ne (s : State) {a c : Nat} (b : Byte) (h : c ≠ a) : (s.wr8 a b).rd8 c = s.rd8 c :=
  SMap.get_set_other memDefault s.mem b (Ne.symm h)

/-- A block of bytes written is read back; every byte outside it is unchanged. -/
theorem State.rd8_wrBytes (s : State) (a : Nat) (l : List Byte) (c : Nat) :
    (s.wrBytes a l).rd8 c = if a ≤ c ∧ c < a + l.length then l.getD (c - a) 0 else s.rd8 c := by
  induction l generalizing s a with
  | nil =>
    have : ¬ (a ≤ c ∧ c < a + 0) := by omega
    simp only [State.wrBytes, List.length_nil, this, if_false]
  | cons b l ih =>
    simp only [State.wrBytes, List.length_cons]
    rw [ih]
    by_cases h1 : c = a
    · subst h1
      have n1 : ¬ (c + 1 ≤ c ∧ c < c + 1 + l.length) := by omega
      have n2 : c ≤ c ∧ c < c + (l.length + 1) := by omega
      simp [n1, n2]
    · by_cases h2 : a + 1 ≤ c ∧ c < a + 1 + l.length
      · have n2 : a ≤ c ∧ c < a + (l.length + 1) := by omega
        have n3 : c - a = (c - (a + 1)) + 1 := by omega
        rw [if_pos h2, if_pos n2, n3, List.getD_cons_succ]
      · have n2 : ¬ (a ≤ c ∧ c < a + (l.length + 1)) := by omega
        rw [if_neg h2, if_neg n2, State.rd8_wr8_ne _ _ h1]

@[simp] theorem State.rd_wrBytes (s : State) (a b : Nat) (l : List Byte) : (s.wrBytes a l).rd b = s.rd b := by
  induction l generalizing s a with
  | nil => rfl
  | cons x l ih => exact ih (s.wr8 a x) (a + 1)

@[simp] theorem State.rd8_wr (s : State) (a b : Nat) (w : Word) : (s.wr a w).rd8 b = s.rd8 b := rfl
@[simp] theorem State.rd8_put (s : State) (f : Fld) (v b : Nat) : (s.put f v).rd8 b = s.rd8 b := rfl
@[simp] theorem State.rd_wr8 (s : State) (a b : Nat) (x : Byte) : (s.wr8 a x).rd b = s.rd b := rfl

/-! ## The tables of instances -/

@[simp] theorem State.chan_setChan_same (s : State) (k : Nat) (v : Chan) : (s.setChan k v).chan k = v :=
  SMap.get_set_same _ _ _ _
theorem State.chan_setChan_ne (s : State) {j k : Nat} (v : Chan) (h : j ≠ k) : (s.setChan k v).chan j = s.chan j :=
  SMap.get_set_other _ _ _ (Ne.symm h)
@[simp] theorem State.chan_modChan_same (s : State) (k : Nat) (f : Chan → Chan) : (s.modChan k f).chan k = f (s.chan k) :=
  SMap.get_set_same _ _ _ _
theorem State.chan_modChan_ne (s : State) {j k : Nat} (f : Chan → Chan) (h : j ≠ k) : (s.modChan k f).chan j = s.chan j :=
  SMap.get_set_other _ _ _ (Ne.symm h)
@[simp] theorem State.chan_wr (s : State) (a k : Nat) (w : Word) : (s.wr a w).chan k = s.chan k := rfl
@[simp] theorem State.chan_put (s : State) (f : Fld) (v k : Nat) : (s.put f v).chan k = s.chan k := rfl
@[simp] theorem State.rd_modChan (s : State) (k a : Nat) (f : Chan → Chan) : (s.modChan k f).rd a = s.rd a := rfl
@[simp] theorem State.fld_modChan (s : State) (k : Nat) (g : Fld) (f : Chan → Chan) : (s.modChan k f).fld g = s.fld g := rfl
@[simp] theorem State.rd8_modChan (s : State) (k a : Nat) (f : Chan → Chan) : (s.modChan k f).rd8 a = s.rd8 a := rfl

@[simp] theorem State.session_setSession_same (s : State) (k : Nat) (v : Session) : (s.setSession k v).session k = v :=
  SMap.get_set_same _ _ _ _
theorem State.session_setSession_ne (s : State) {j k : Nat} (v : Session) (h : j ≠ k) : (s.setSession k v).session j = s.session j :=
  SMap.get_set_other _ _ _ (Ne.symm h)
@[simp] theorem State.session_modSession_same (s : State) (k : Nat) (f : Session → Session) : (s.modSession k f).session k = f (s.session k) :=
  SMap.get_set_same _ _ _ _
theorem State.session_modSession_ne (s : State) {j k : Nat} (f : Session → Session) (h : j ≠ k) : (s.modSession k f).session j = s.session j :=
  SMap.get_set_other _ _ _ (Ne.symm h)
@[simp] theorem State.session_wr (s : State) (a k : Nat) (w : Word) : (s.wr a w).session k = s.session k := rfl
@[simp] theorem State.session_put (s : State) (f : Fld) (v k : Nat) : (s.put f v).session k = s.session k := rfl
@[simp] theorem State.rd_modSession (s : State) (k a : Nat) (f : Session → Session) : (s.modSession k f).rd a = s.rd a := rfl
@[simp] theorem State.fld_modSession (s : State) (k : Nat) (g : Fld) (f : Session → Session) : (s.modSession k f).fld g = s.fld g := rfl
@[simp] theorem State.rd8_modSession (s : State) (k a : Nat) (f : Session → Session) : (s.modSession k f).rd8 a = s.rd8 a := rfl

@[simp] theorem State.group_setGroup_same (s : State) (k : Nat) (v : Group) : (s.setGroup k v).group k = v :=
  SMap.get_set_same _ _ _ _
theorem State.group_setGroup_ne (s : State) {j k : Nat} (v : Group) (h : j ≠ k) : (s.setGroup k v).group j = s.group j :=
  SMap.get_set_other _ _ _ (Ne.symm h)
@[simp] theorem State.group_modGroup_same (s : State) (k : Nat) (f : Group → Group) : (s.modGroup k f).group k = f (s.group k) :=
  SMap.get_set_same _ _ _ _
theorem State.group_modGroup_ne (s : State) {j k : Nat} (f : Group → Group) (h : j ≠ k) : (s.modGroup k f).group j = s.group j :=
  SMap.get_set_other _ _ _ (Ne.symm h)
@[simp] theorem State.group_wr (s : State) (a k : Nat) (w : Word) : (s.wr a w).group k = s.group k := rfl
@[simp] theorem State.group_put (s : State) (f : Fld) (v k : Nat) : (s.put f v).group k = s.group k := rfl
@[simp] theorem State.rd_modGroup (s : State) (k a : Nat) (f : Group → Group) : (s.modGroup k f).rd a = s.rd a := rfl
@[simp] theorem State.fld_modGroup (s : State) (k : Nat) (g : Fld) (f : Group → Group) : (s.modGroup k f).fld g = s.fld g := rfl
@[simp] theorem State.rd8_modGroup (s : State) (k a : Nat) (f : Group → Group) : (s.modGroup k f).rd8 a = s.rd8 a := rfl

@[simp] theorem State.leg_setLeg_same (s : State) (k : Nat) (v : Leg) : (s.setLeg k v).leg k = v :=
  SMap.get_set_same _ _ _ _
theorem State.leg_setLeg_ne (s : State) {j k : Nat} (v : Leg) (h : j ≠ k) : (s.setLeg k v).leg j = s.leg j :=
  SMap.get_set_other _ _ _ (Ne.symm h)
@[simp] theorem State.leg_modLeg_same (s : State) (k : Nat) (f : Leg → Leg) : (s.modLeg k f).leg k = f (s.leg k) :=
  SMap.get_set_same _ _ _ _
theorem State.leg_modLeg_ne (s : State) {j k : Nat} (f : Leg → Leg) (h : j ≠ k) : (s.modLeg k f).leg j = s.leg j :=
  SMap.get_set_other _ _ _ (Ne.symm h)
@[simp] theorem State.leg_wr (s : State) (a k : Nat) (w : Word) : (s.wr a w).leg k = s.leg k := rfl
@[simp] theorem State.leg_put (s : State) (f : Fld) (v k : Nat) : (s.put f v).leg k = s.leg k := rfl
@[simp] theorem State.rd_modLeg (s : State) (k a : Nat) (f : Leg → Leg) : (s.modLeg k f).rd a = s.rd a := rfl
@[simp] theorem State.fld_modLeg (s : State) (k : Nat) (g : Fld) (f : Leg → Leg) : (s.modLeg k f).fld g = s.fld g := rfl
@[simp] theorem State.rd8_modLeg (s : State) (k a : Nat) (f : Leg → Leg) : (s.modLeg k f).rd8 a = s.rd8 a := rfl

@[simp] theorem State.sched_setSched_same (s : State) (k : Nat) (v : Sched) : (s.setSched k v).sched k = v :=
  SMap.get_set_same _ _ _ _
theorem State.sched_setSched_ne (s : State) {j k : Nat} (v : Sched) (h : j ≠ k) : (s.setSched k v).sched j = s.sched j :=
  SMap.get_set_other _ _ _ (Ne.symm h)
@[simp] theorem State.sched_modSched_same (s : State) (k : Nat) (f : Sched → Sched) : (s.modSched k f).sched k = f (s.sched k) :=
  SMap.get_set_same _ _ _ _
theorem State.sched_modSched_ne (s : State) {j k : Nat} (f : Sched → Sched) (h : j ≠ k) : (s.modSched k f).sched j = s.sched j :=
  SMap.get_set_other _ _ _ (Ne.symm h)
@[simp] theorem State.sched_wr (s : State) (a k : Nat) (w : Word) : (s.wr a w).sched k = s.sched k := rfl
@[simp] theorem State.sched_put (s : State) (f : Fld) (v k : Nat) : (s.put f v).sched k = s.sched k := rfl
@[simp] theorem State.rd_modSched (s : State) (k a : Nat) (f : Sched → Sched) : (s.modSched k f).rd a = s.rd a := rfl
@[simp] theorem State.fld_modSched (s : State) (k : Nat) (g : Fld) (f : Sched → Sched) : (s.modSched k f).fld g = s.fld g := rfl
@[simp] theorem State.rd8_modSched (s : State) (k a : Nat) (f : Sched → Sched) : (s.modSched k f).rd8 a = s.rd8 a := rfl

@[simp] theorem State.carrier_setCarrier_same (s : State) (k : Nat) (v : Carrier) : (s.setCarrier k v).carrier k = v :=
  SMap.get_set_same _ _ _ _
theorem State.carrier_setCarrier_ne (s : State) {j k : Nat} (v : Carrier) (h : j ≠ k) : (s.setCarrier k v).carrier j = s.carrier j :=
  SMap.get_set_other _ _ _ (Ne.symm h)
@[simp] theorem State.carrier_modCarrier_same (s : State) (k : Nat) (f : Carrier → Carrier) : (s.modCarrier k f).carrier k = f (s.carrier k) :=
  SMap.get_set_same _ _ _ _
theorem State.carrier_modCarrier_ne (s : State) {j k : Nat} (f : Carrier → Carrier) (h : j ≠ k) : (s.modCarrier k f).carrier j = s.carrier j :=
  SMap.get_set_other _ _ _ (Ne.symm h)
@[simp] theorem State.carrier_wr (s : State) (a k : Nat) (w : Word) : (s.wr a w).carrier k = s.carrier k := rfl
@[simp] theorem State.carrier_put (s : State) (f : Fld) (v k : Nat) : (s.put f v).carrier k = s.carrier k := rfl
@[simp] theorem State.rd_modCarrier (s : State) (k a : Nat) (f : Carrier → Carrier) : (s.modCarrier k f).rd a = s.rd a := rfl
@[simp] theorem State.fld_modCarrier (s : State) (k : Nat) (g : Fld) (f : Carrier → Carrier) : (s.modCarrier k f).fld g = s.fld g := rfl
@[simp] theorem State.rd8_modCarrier (s : State) (k a : Nat) (f : Carrier → Carrier) : (s.modCarrier k f).rd8 a = s.rd8 a := rfl

@[simp] theorem State.timer_setTimer_same (s : State) (k : Nat) (v : Timer) : (s.setTimer k v).timer k = v :=
  SMap.get_set_same _ _ _ _
theorem State.timer_setTimer_ne (s : State) {j k : Nat} (v : Timer) (h : j ≠ k) : (s.setTimer k v).timer j = s.timer j :=
  SMap.get_set_other _ _ _ (Ne.symm h)
@[simp] theorem State.timer_modTimer_same (s : State) (k : Nat) (f : Timer → Timer) : (s.modTimer k f).timer k = f (s.timer k) :=
  SMap.get_set_same _ _ _ _
theorem State.timer_modTimer_ne (s : State) {j k : Nat} (f : Timer → Timer) (h : j ≠ k) : (s.modTimer k f).timer j = s.timer j :=
  SMap.get_set_other _ _ _ (Ne.symm h)
@[simp] theorem State.timer_wr (s : State) (a k : Nat) (w : Word) : (s.wr a w).timer k = s.timer k := rfl
@[simp] theorem State.timer_put (s : State) (f : Fld) (v k : Nat) : (s.put f v).timer k = s.timer k := rfl
@[simp] theorem State.rd_modTimer (s : State) (k a : Nat) (f : Timer → Timer) : (s.modTimer k f).rd a = s.rd a := rfl
@[simp] theorem State.fld_modTimer (s : State) (k : Nat) (g : Fld) (f : Timer → Timer) : (s.modTimer k f).fld g = s.fld g := rfl
@[simp] theorem State.rd8_modTimer (s : State) (k a : Nat) (f : Timer → Timer) : (s.modTimer k f).rd8 a = s.rd8 a := rfl

@[simp] theorem State.link_setLink_same (s : State) (k : Nat) (v : Link) : (s.setLink k v).link k = v :=
  SMap.get_set_same _ _ _ _
theorem State.link_setLink_ne (s : State) {j k : Nat} (v : Link) (h : j ≠ k) : (s.setLink k v).link j = s.link j :=
  SMap.get_set_other _ _ _ (Ne.symm h)
@[simp] theorem State.link_modLink_same (s : State) (k : Nat) (f : Link → Link) : (s.modLink k f).link k = f (s.link k) :=
  SMap.get_set_same _ _ _ _
theorem State.link_modLink_ne (s : State) {j k : Nat} (f : Link → Link) (h : j ≠ k) : (s.modLink k f).link j = s.link j :=
  SMap.get_set_other _ _ _ (Ne.symm h)
@[simp] theorem State.link_wr (s : State) (a k : Nat) (w : Word) : (s.wr a w).link k = s.link k := rfl
@[simp] theorem State.link_put (s : State) (f : Fld) (v k : Nat) : (s.put f v).link k = s.link k := rfl
@[simp] theorem State.rd_modLink (s : State) (k a : Nat) (f : Link → Link) : (s.modLink k f).rd a = s.rd a := rfl
@[simp] theorem State.fld_modLink (s : State) (k : Nat) (g : Fld) (f : Link → Link) : (s.modLink k f).fld g = s.fld g := rfl
@[simp] theorem State.rd8_modLink (s : State) (k a : Nat) (f : Link → Link) : (s.modLink k f).rd8 a = s.rd8 a := rfl

@[simp] theorem State.engine_setEngine_same (s : State) (k : Nat) (v : Engine) : (s.setEngine k v).engine k = v :=
  SMap.get_set_same _ _ _ _
theorem State.engine_setEngine_ne (s : State) {j k : Nat} (v : Engine) (h : j ≠ k) : (s.setEngine k v).engine j = s.engine j :=
  SMap.get_set_other _ _ _ (Ne.symm h)
@[simp] theorem State.engine_modEngine_same (s : State) (k : Nat) (f : Engine → Engine) : (s.modEngine k f).engine k = f (s.engine k) :=
  SMap.get_set_same _ _ _ _
theorem State.engine_modEngine_ne (s : State) {j k : Nat} (f : Engine → Engine) (h : j ≠ k) : (s.modEngine k f).engine j = s.engine j :=
  SMap.get_set_other _ _ _ (Ne.symm h)
@[simp] theorem State.engine_wr (s : State) (a k : Nat) (w : Word) : (s.wr a w).engine k = s.engine k := rfl
@[simp] theorem State.engine_put (s : State) (f : Fld) (v k : Nat) : (s.put f v).engine k = s.engine k := rfl
@[simp] theorem State.rd_modEngine (s : State) (k a : Nat) (f : Engine → Engine) : (s.modEngine k f).rd a = s.rd a := rfl
@[simp] theorem State.fld_modEngine (s : State) (k : Nat) (g : Fld) (f : Engine → Engine) : (s.modEngine k f).fld g = s.fld g := rfl
@[simp] theorem State.rd8_modEngine (s : State) (k a : Nat) (f : Engine → Engine) : (s.modEngine k f).rd8 a = s.rd8 a := rfl

@[simp] theorem State.slot_setSlot_same (s : State) (k : Nat) (v : Slot) : (s.setSlot k v).slot k = v :=
  SMap.get_set_same _ _ _ _
theorem State.slot_setSlot_ne (s : State) {j k : Nat} (v : Slot) (h : j ≠ k) : (s.setSlot k v).slot j = s.slot j :=
  SMap.get_set_other _ _ _ (Ne.symm h)
@[simp] theorem State.slot_modSlot_same (s : State) (k : Nat) (f : Slot → Slot) : (s.modSlot k f).slot k = f (s.slot k) :=
  SMap.get_set_same _ _ _ _
theorem State.slot_modSlot_ne (s : State) {j k : Nat} (f : Slot → Slot) (h : j ≠ k) : (s.modSlot k f).slot j = s.slot j :=
  SMap.get_set_other _ _ _ (Ne.symm h)
@[simp] theorem State.slot_wr (s : State) (a k : Nat) (w : Word) : (s.wr a w).slot k = s.slot k := rfl
@[simp] theorem State.slot_put (s : State) (f : Fld) (v k : Nat) : (s.put f v).slot k = s.slot k := rfl
@[simp] theorem State.rd_modSlot (s : State) (k a : Nat) (f : Slot → Slot) : (s.modSlot k f).rd a = s.rd a := rfl
@[simp] theorem State.fld_modSlot (s : State) (k : Nat) (g : Fld) (f : Slot → Slot) : (s.modSlot k f).fld g = s.fld g := rfl
@[simp] theorem State.rd8_modSlot (s : State) (k a : Nat) (f : Slot → Slot) : (s.modSlot k f).rd8 a = s.rd8 a := rfl

@[simp] theorem State.cap_setCap_same (s : State) (k : Nat) (v : CapSet) : (s.setCap k v).cap k = v :=
  SMap.get_set_same _ _ _ _
theorem State.cap_setCap_ne (s : State) {j k : Nat} (v : CapSet) (h : j ≠ k) : (s.setCap k v).cap j = s.cap j :=
  SMap.get_set_other _ _ _ (Ne.symm h)
@[simp] theorem State.cap_modCap_same (s : State) (k : Nat) (f : CapSet → CapSet) : (s.modCap k f).cap k = f (s.cap k) :=
  SMap.get_set_same _ _ _ _
theorem State.cap_modCap_ne (s : State) {j k : Nat} (f : CapSet → CapSet) (h : j ≠ k) : (s.modCap k f).cap j = s.cap j :=
  SMap.get_set_other _ _ _ (Ne.symm h)
@[simp] theorem State.cap_wr (s : State) (a k : Nat) (w : Word) : (s.wr a w).cap k = s.cap k := rfl
@[simp] theorem State.cap_put (s : State) (f : Fld) (v k : Nat) : (s.put f v).cap k = s.cap k := rfl
@[simp] theorem State.rd_modCap (s : State) (k a : Nat) (f : CapSet → CapSet) : (s.modCap k f).rd a = s.rd a := rfl
@[simp] theorem State.fld_modCap (s : State) (k : Nat) (g : Fld) (f : CapSet → CapSet) : (s.modCap k f).fld g = s.fld g := rfl
@[simp] theorem State.rd8_modCap (s : State) (k a : Nat) (f : CapSet → CapSet) : (s.modCap k f).rd8 a = s.rd8 a := rfl

@[simp] theorem State.engImg_setEngImg_same (s : State) (k : Nat) (v : EngImg) : (s.setEngImg k v).engImg k = v :=
  SMap.get_set_same _ _ _ _
theorem State.engImg_setEngImg_ne (s : State) {j k : Nat} (v : EngImg) (h : j ≠ k) : (s.setEngImg k v).engImg j = s.engImg j :=
  SMap.get_set_other _ _ _ (Ne.symm h)
@[simp] theorem State.engImg_modEngImg_same (s : State) (k : Nat) (f : EngImg → EngImg) : (s.modEngImg k f).engImg k = f (s.engImg k) :=
  SMap.get_set_same _ _ _ _
theorem State.engImg_modEngImg_ne (s : State) {j k : Nat} (f : EngImg → EngImg) (h : j ≠ k) : (s.modEngImg k f).engImg j = s.engImg j :=
  SMap.get_set_other _ _ _ (Ne.symm h)
@[simp] theorem State.engImg_wr (s : State) (a k : Nat) (w : Word) : (s.wr a w).engImg k = s.engImg k := rfl
@[simp] theorem State.engImg_put (s : State) (f : Fld) (v k : Nat) : (s.put f v).engImg k = s.engImg k := rfl
@[simp] theorem State.rd_modEngImg (s : State) (k a : Nat) (f : EngImg → EngImg) : (s.modEngImg k f).rd a = s.rd a := rfl
@[simp] theorem State.fld_modEngImg (s : State) (k : Nat) (g : Fld) (f : EngImg → EngImg) : (s.modEngImg k f).fld g = s.fld g := rfl
@[simp] theorem State.rd8_modEngImg (s : State) (k a : Nat) (f : EngImg → EngImg) : (s.modEngImg k f).rd8 a = s.rd8 a := rfl

@[simp] theorem State.sdChan_setSdChan_same (s : State) (k : Nat) (v : SdChan) : (s.setSdChan k v).sdChan k = v :=
  SMap.get_set_same _ _ _ _
theorem State.sdChan_setSdChan_ne (s : State) {j k : Nat} (v : SdChan) (h : j ≠ k) : (s.setSdChan k v).sdChan j = s.sdChan j :=
  SMap.get_set_other _ _ _ (Ne.symm h)
@[simp] theorem State.sdChan_modSdChan_same (s : State) (k : Nat) (f : SdChan → SdChan) : (s.modSdChan k f).sdChan k = f (s.sdChan k) :=
  SMap.get_set_same _ _ _ _
theorem State.sdChan_modSdChan_ne (s : State) {j k : Nat} (f : SdChan → SdChan) (h : j ≠ k) : (s.modSdChan k f).sdChan j = s.sdChan j :=
  SMap.get_set_other _ _ _ (Ne.symm h)
@[simp] theorem State.sdChan_wr (s : State) (a k : Nat) (w : Word) : (s.wr a w).sdChan k = s.sdChan k := rfl
@[simp] theorem State.sdChan_put (s : State) (f : Fld) (v k : Nat) : (s.put f v).sdChan k = s.sdChan k := rfl
@[simp] theorem State.rd_modSdChan (s : State) (k a : Nat) (f : SdChan → SdChan) : (s.modSdChan k f).rd a = s.rd a := rfl
@[simp] theorem State.fld_modSdChan (s : State) (k : Nat) (g : Fld) (f : SdChan → SdChan) : (s.modSdChan k f).fld g = s.fld g := rfl
@[simp] theorem State.rd8_modSdChan (s : State) (k a : Nat) (f : SdChan → SdChan) : (s.modSdChan k f).rd8 a = s.rd8 a := rfl

@[simp] theorem State.adcSeq_setAdcSeq_same (s : State) (k : Nat) (v : AdcSeq) : (s.setAdcSeq k v).adcSeq k = v :=
  SMap.get_set_same _ _ _ _
theorem State.adcSeq_setAdcSeq_ne (s : State) {j k : Nat} (v : AdcSeq) (h : j ≠ k) : (s.setAdcSeq k v).adcSeq j = s.adcSeq j :=
  SMap.get_set_other _ _ _ (Ne.symm h)
@[simp] theorem State.adcSeq_modAdcSeq_same (s : State) (k : Nat) (f : AdcSeq → AdcSeq) : (s.modAdcSeq k f).adcSeq k = f (s.adcSeq k) :=
  SMap.get_set_same _ _ _ _
theorem State.adcSeq_modAdcSeq_ne (s : State) {j k : Nat} (f : AdcSeq → AdcSeq) (h : j ≠ k) : (s.modAdcSeq k f).adcSeq j = s.adcSeq j :=
  SMap.get_set_other _ _ _ (Ne.symm h)
@[simp] theorem State.adcSeq_wr (s : State) (a k : Nat) (w : Word) : (s.wr a w).adcSeq k = s.adcSeq k := rfl
@[simp] theorem State.adcSeq_put (s : State) (f : Fld) (v k : Nat) : (s.put f v).adcSeq k = s.adcSeq k := rfl
@[simp] theorem State.rd_modAdcSeq (s : State) (k a : Nat) (f : AdcSeq → AdcSeq) : (s.modAdcSeq k f).rd a = s.rd a := rfl
@[simp] theorem State.fld_modAdcSeq (s : State) (k : Nat) (g : Fld) (f : AdcSeq → AdcSeq) : (s.modAdcSeq k f).fld g = s.fld g := rfl
@[simp] theorem State.rd8_modAdcSeq (s : State) (k a : Nat) (f : AdcSeq → AdcSeq) : (s.modAdcSeq k f).rd8 a = s.rd8 a := rfl

@[simp] theorem State.axis_setAxis_same (s : State) (k : Nat) (v : Axis) : (s.setAxis k v).axis k = v :=
  SMap.get_set_same _ _ _ _
theorem State.axis_setAxis_ne (s : State) {j k : Nat} (v : Axis) (h : j ≠ k) : (s.setAxis k v).axis j = s.axis j :=
  SMap.get_set_other _ _ _ (Ne.symm h)
@[simp] theorem State.axis_modAxis_same (s : State) (k : Nat) (f : Axis → Axis) : (s.modAxis k f).axis k = f (s.axis k) :=
  SMap.get_set_same _ _ _ _
theorem State.axis_modAxis_ne (s : State) {j k : Nat} (f : Axis → Axis) (h : j ≠ k) : (s.modAxis k f).axis j = s.axis j :=
  SMap.get_set_other _ _ _ (Ne.symm h)
@[simp] theorem State.axis_wr (s : State) (a k : Nat) (w : Word) : (s.wr a w).axis k = s.axis k := rfl
@[simp] theorem State.axis_put (s : State) (f : Fld) (v k : Nat) : (s.put f v).axis k = s.axis k := rfl
@[simp] theorem State.rd_modAxis (s : State) (k a : Nat) (f : Axis → Axis) : (s.modAxis k f).rd a = s.rd a := rfl
@[simp] theorem State.fld_modAxis (s : State) (k : Nat) (g : Fld) (f : Axis → Axis) : (s.modAxis k f).fld g = s.fld g := rfl
@[simp] theorem State.rd8_modAxis (s : State) (k a : Nat) (f : Axis → Axis) : (s.modAxis k f).rd8 a = s.rd8 a := rfl

@[simp] theorem State.profile_setProfile_same (s : State) (k : Nat) (v : Profile) : (s.setProfile k v).profile k = v :=
  SMap.get_set_same _ _ _ _
theorem State.profile_setProfile_ne (s : State) {j k : Nat} (v : Profile) (h : j ≠ k) : (s.setProfile k v).profile j = s.profile j :=
  SMap.get_set_other _ _ _ (Ne.symm h)
@[simp] theorem State.profile_modProfile_same (s : State) (k : Nat) (f : Profile → Profile) : (s.modProfile k f).profile k = f (s.profile k) :=
  SMap.get_set_same _ _ _ _
theorem State.profile_modProfile_ne (s : State) {j k : Nat} (f : Profile → Profile) (h : j ≠ k) : (s.modProfile k f).profile j = s.profile j :=
  SMap.get_set_other _ _ _ (Ne.symm h)
@[simp] theorem State.profile_wr (s : State) (a k : Nat) (w : Word) : (s.wr a w).profile k = s.profile k := rfl
@[simp] theorem State.profile_put (s : State) (f : Fld) (v k : Nat) : (s.put f v).profile k = s.profile k := rfl
@[simp] theorem State.rd_modProfile (s : State) (k a : Nat) (f : Profile → Profile) : (s.modProfile k f).rd a = s.rd a := rfl
@[simp] theorem State.fld_modProfile (s : State) (k : Nat) (g : Fld) (f : Profile → Profile) : (s.modProfile k f).fld g = s.fld g := rfl
@[simp] theorem State.rd8_modProfile (s : State) (k a : Nat) (f : Profile → Profile) : (s.modProfile k f).rd8 a = s.rd8 a := rfl

@[simp] theorem State.vmaster_setVmaster_same (s : State) (k : Nat) (v : VMaster) : (s.setVmaster k v).vmaster k = v :=
  SMap.get_set_same _ _ _ _
theorem State.vmaster_setVmaster_ne (s : State) {j k : Nat} (v : VMaster) (h : j ≠ k) : (s.setVmaster k v).vmaster j = s.vmaster j :=
  SMap.get_set_other _ _ _ (Ne.symm h)
@[simp] theorem State.vmaster_modVmaster_same (s : State) (k : Nat) (f : VMaster → VMaster) : (s.modVmaster k f).vmaster k = f (s.vmaster k) :=
  SMap.get_set_same _ _ _ _
theorem State.vmaster_modVmaster_ne (s : State) {j k : Nat} (f : VMaster → VMaster) (h : j ≠ k) : (s.modVmaster k f).vmaster j = s.vmaster j :=
  SMap.get_set_other _ _ _ (Ne.symm h)
@[simp] theorem State.vmaster_wr (s : State) (a k : Nat) (w : Word) : (s.wr a w).vmaster k = s.vmaster k := rfl
@[simp] theorem State.vmaster_put (s : State) (f : Fld) (v k : Nat) : (s.put f v).vmaster k = s.vmaster k := rfl
@[simp] theorem State.rd_modVmaster (s : State) (k a : Nat) (f : VMaster → VMaster) : (s.modVmaster k f).rd a = s.rd a := rfl
@[simp] theorem State.fld_modVmaster (s : State) (k : Nat) (g : Fld) (f : VMaster → VMaster) : (s.modVmaster k f).fld g = s.fld g := rfl
@[simp] theorem State.rd8_modVmaster (s : State) (k a : Nat) (f : VMaster → VMaster) : (s.modVmaster k f).rd8 a = s.rd8 a := rfl

@[simp] theorem State.vmBind_setVmBind_same (s : State) (k : Nat) (v : VmBind) : (s.setVmBind k v).vmBind k = v :=
  SMap.get_set_same _ _ _ _
theorem State.vmBind_setVmBind_ne (s : State) {j k : Nat} (v : VmBind) (h : j ≠ k) : (s.setVmBind k v).vmBind j = s.vmBind j :=
  SMap.get_set_other _ _ _ (Ne.symm h)
@[simp] theorem State.vmBind_modVmBind_same (s : State) (k : Nat) (f : VmBind → VmBind) : (s.modVmBind k f).vmBind k = f (s.vmBind k) :=
  SMap.get_set_same _ _ _ _
theorem State.vmBind_modVmBind_ne (s : State) {j k : Nat} (f : VmBind → VmBind) (h : j ≠ k) : (s.modVmBind k f).vmBind j = s.vmBind j :=
  SMap.get_set_other _ _ _ (Ne.symm h)
@[simp] theorem State.vmBind_wr (s : State) (a k : Nat) (w : Word) : (s.wr a w).vmBind k = s.vmBind k := rfl
@[simp] theorem State.vmBind_put (s : State) (f : Fld) (v k : Nat) : (s.put f v).vmBind k = s.vmBind k := rfl
@[simp] theorem State.rd_modVmBind (s : State) (k a : Nat) (f : VmBind → VmBind) : (s.modVmBind k f).rd a = s.rd a := rfl
@[simp] theorem State.fld_modVmBind (s : State) (k : Nat) (g : Fld) (f : VmBind → VmBind) : (s.modVmBind k f).fld g = s.fld g := rfl
@[simp] theorem State.rd8_modVmBind (s : State) (k a : Nat) (f : VmBind → VmBind) : (s.modVmBind k f).rd8 a = s.rd8 a := rfl

@[simp] theorem State.can_setCan_same (s : State) (k : Nat) (v : CanNode) : (s.setCan k v).can k = v :=
  SMap.get_set_same _ _ _ _
theorem State.can_setCan_ne (s : State) {j k : Nat} (v : CanNode) (h : j ≠ k) : (s.setCan k v).can j = s.can j :=
  SMap.get_set_other _ _ _ (Ne.symm h)
@[simp] theorem State.can_modCan_same (s : State) (k : Nat) (f : CanNode → CanNode) : (s.modCan k f).can k = f (s.can k) :=
  SMap.get_set_same _ _ _ _
theorem State.can_modCan_ne (s : State) {j k : Nat} (f : CanNode → CanNode) (h : j ≠ k) : (s.modCan k f).can j = s.can j :=
  SMap.get_set_other _ _ _ (Ne.symm h)
@[simp] theorem State.can_wr (s : State) (a k : Nat) (w : Word) : (s.wr a w).can k = s.can k := rfl
@[simp] theorem State.can_put (s : State) (f : Fld) (v k : Nat) : (s.put f v).can k = s.can k := rfl
@[simp] theorem State.rd_modCan (s : State) (k a : Nat) (f : CanNode → CanNode) : (s.modCan k f).rd a = s.rd a := rfl
@[simp] theorem State.fld_modCan (s : State) (k : Nat) (g : Fld) (f : CanNode → CanNode) : (s.modCan k f).fld g = s.fld g := rfl
@[simp] theorem State.rd8_modCan (s : State) (k a : Nat) (f : CanNode → CanNode) : (s.modCan k f).rd8 a = s.rd8 a := rfl

@[simp] theorem State.fin_setFin_same (s : State) (k : Nat) (v : FieldIn) : (s.setFin k v).fin k = v :=
  SMap.get_set_same _ _ _ _
theorem State.fin_setFin_ne (s : State) {j k : Nat} (v : FieldIn) (h : j ≠ k) : (s.setFin k v).fin j = s.fin j :=
  SMap.get_set_other _ _ _ (Ne.symm h)
@[simp] theorem State.fin_modFin_same (s : State) (k : Nat) (f : FieldIn → FieldIn) : (s.modFin k f).fin k = f (s.fin k) :=
  SMap.get_set_same _ _ _ _
theorem State.fin_modFin_ne (s : State) {j k : Nat} (f : FieldIn → FieldIn) (h : j ≠ k) : (s.modFin k f).fin j = s.fin j :=
  SMap.get_set_other _ _ _ (Ne.symm h)
@[simp] theorem State.fin_wr (s : State) (a k : Nat) (w : Word) : (s.wr a w).fin k = s.fin k := rfl
@[simp] theorem State.fin_put (s : State) (f : Fld) (v k : Nat) : (s.put f v).fin k = s.fin k := rfl
@[simp] theorem State.rd_modFin (s : State) (k a : Nat) (f : FieldIn → FieldIn) : (s.modFin k f).rd a = s.rd a := rfl
@[simp] theorem State.fld_modFin (s : State) (k : Nat) (g : Fld) (f : FieldIn → FieldIn) : (s.modFin k f).fld g = s.fld g := rfl
@[simp] theorem State.rd8_modFin (s : State) (k a : Nat) (f : FieldIn → FieldIn) : (s.modFin k f).rd8 a = s.rd8 a := rfl

@[simp] theorem State.wear_setWear_same (s : State) (k : Nat) (v : WearPos) : (s.setWear k v).wear k = v :=
  SMap.get_set_same _ _ _ _
theorem State.wear_setWear_ne (s : State) {j k : Nat} (v : WearPos) (h : j ≠ k) : (s.setWear k v).wear j = s.wear j :=
  SMap.get_set_other _ _ _ (Ne.symm h)
@[simp] theorem State.wear_modWear_same (s : State) (k : Nat) (f : WearPos → WearPos) : (s.modWear k f).wear k = f (s.wear k) :=
  SMap.get_set_same _ _ _ _
theorem State.wear_modWear_ne (s : State) {j k : Nat} (f : WearPos → WearPos) (h : j ≠ k) : (s.modWear k f).wear j = s.wear j :=
  SMap.get_set_other _ _ _ (Ne.symm h)
@[simp] theorem State.wear_wr (s : State) (a k : Nat) (w : Word) : (s.wr a w).wear k = s.wear k := rfl
@[simp] theorem State.wear_put (s : State) (f : Fld) (v k : Nat) : (s.put f v).wear k = s.wear k := rfl
@[simp] theorem State.rd_modWear (s : State) (k a : Nat) (f : WearPos → WearPos) : (s.modWear k f).rd a = s.rd a := rfl
@[simp] theorem State.fld_modWear (s : State) (k : Nat) (g : Fld) (f : WearPos → WearPos) : (s.modWear k f).fld g = s.fld g := rfl
@[simp] theorem State.rd8_modWear (s : State) (k a : Nat) (f : WearPos → WearPos) : (s.modWear k f).rd8 a = s.rd8 a := rfl

/-! ## Registers are untouched by the other updates -/

@[simp] theorem State.rd_withMem (s : State) (v : SMap Byte) (a : Nat) : (s.withMem v).rd a = s.rd a := rfl
@[simp] theorem State.fld_withMem (s : State) (v : SMap Byte) (g : Fld) : (s.withMem v).fld g = s.fld g := rfl
@[simp] theorem State.rd_withFlash (s : State) (v : SMap Byte) (a : Nat) : (s.withFlash v).rd a = s.rd a := rfl
@[simp] theorem State.fld_withFlash (s : State) (v : SMap Byte) (g : Fld) : (s.withFlash v).fld g = s.fld g := rfl
@[simp] theorem State.rd_withChans (s : State) (v : SMap Chan) (a : Nat) : (s.withChans v).rd a = s.rd a := rfl
@[simp] theorem State.fld_withChans (s : State) (v : SMap Chan) (g : Fld) : (s.withChans v).fld g = s.fld g := rfl
@[simp] theorem State.rd_withMbxTurn (s : State) (v : Nat) (a : Nat) : (s.withMbxTurn v).rd a = s.rd a := rfl
@[simp] theorem State.fld_withMbxTurn (s : State) (v : Nat) (g : Fld) : (s.withMbxTurn v).fld g = s.fld g := rfl
@[simp] theorem State.rd_withSessions (s : State) (v : SMap Session) (a : Nat) : (s.withSessions v).rd a = s.rd a := rfl
@[simp] theorem State.fld_withSessions (s : State) (v : SMap Session) (g : Fld) : (s.withSessions v).fld g = s.fld g := rfl
@[simp] theorem State.rd_withHpOut (s : State) (v : List Byte) (a : Nat) : (s.withHpOut v).rd a = s.rd a := rfl
@[simp] theorem State.fld_withHpOut (s : State) (v : List Byte) (g : Fld) : (s.withHpOut v).fld g = s.fld g := rfl
@[simp] theorem State.rd_withNetOut (s : State) (v : List (List Byte)) (a : Nat) : (s.withNetOut v).rd a = s.rd a := rfl
@[simp] theorem State.fld_withNetOut (s : State) (v : List (List Byte)) (g : Fld) : (s.withNetOut v).fld g = s.fld g := rfl
@[simp] theorem State.rd_withSec (s : State) (v : SecState) (a : Nat) : (s.withSec v).rd a = s.rd a := rfl
@[simp] theorem State.fld_withSec (s : State) (v : SecState) (g : Fld) : (s.withSec v).fld g = s.fld g := rfl
@[simp] theorem State.rd_withGroups (s : State) (v : SMap Group) (a : Nat) : (s.withGroups v).rd a = s.rd a := rfl
@[simp] theorem State.fld_withGroups (s : State) (v : SMap Group) (g : Fld) : (s.withGroups v).fld g = s.fld g := rfl
@[simp] theorem State.rd_withLegs (s : State) (v : SMap Leg) (a : Nat) : (s.withLegs v).rd a = s.rd a := rfl
@[simp] theorem State.fld_withLegs (s : State) (v : SMap Leg) (g : Fld) : (s.withLegs v).fld g = s.fld g := rfl
@[simp] theorem State.rd_withScheds (s : State) (v : SMap Sched) (a : Nat) : (s.withScheds v).rd a = s.rd a := rfl
@[simp] theorem State.fld_withScheds (s : State) (v : SMap Sched) (g : Fld) : (s.withScheds v).fld g = s.fld g := rfl
@[simp] theorem State.rd_withCarriers (s : State) (v : SMap Carrier) (a : Nat) : (s.withCarriers v).rd a = s.rd a := rfl
@[simp] theorem State.fld_withCarriers (s : State) (v : SMap Carrier) (g : Fld) : (s.withCarriers v).fld g = s.fld g := rfl
@[simp] theorem State.rd_withTimers (s : State) (v : SMap Timer) (a : Nat) : (s.withTimers v).rd a = s.rd a := rfl
@[simp] theorem State.fld_withTimers (s : State) (v : SMap Timer) (g : Fld) : (s.withTimers v).fld g = s.fld g := rfl
@[simp] theorem State.rd_withLinks (s : State) (v : SMap Link) (a : Nat) : (s.withLinks v).rd a = s.rd a := rfl
@[simp] theorem State.fld_withLinks (s : State) (v : SMap Link) (g : Fld) : (s.withLinks v).fld g = s.fld g := rfl
@[simp] theorem State.rd_withEngines (s : State) (v : SMap Engine) (a : Nat) : (s.withEngines v).rd a = s.rd a := rfl
@[simp] theorem State.fld_withEngines (s : State) (v : SMap Engine) (g : Fld) : (s.withEngines v).fld g = s.fld g := rfl
@[simp] theorem State.rd_withSlots (s : State) (v : SMap Slot) (a : Nat) : (s.withSlots v).rd a = s.rd a := rfl
@[simp] theorem State.fld_withSlots (s : State) (v : SMap Slot) (g : Fld) : (s.withSlots v).fld g = s.fld g := rfl
@[simp] theorem State.rd_withTags (s : State) (v : Tags) (a : Nat) : (s.withTags v).rd a = s.rd a := rfl
@[simp] theorem State.fld_withTags (s : State) (v : Tags) (g : Fld) : (s.withTags v).fld g = s.fld g := rfl
@[simp] theorem State.rd_withInputs (s : State) (v : SMap Word) (a : Nat) : (s.withInputs v).rd a = s.rd a := rfl
@[simp] theorem State.fld_withInputs (s : State) (v : SMap Word) (g : Fld) : (s.withInputs v).fld g = s.fld g := rfl
@[simp] theorem State.rd_withLatches (s : State) (v : SMap Word) (a : Nat) : (s.withLatches v).rd a = s.rd a := rfl
@[simp] theorem State.fld_withLatches (s : State) (v : SMap Word) (g : Fld) : (s.withLatches v).fld g = s.fld g := rfl
@[simp] theorem State.rd_withCaps (s : State) (v : SMap CapSet) (a : Nat) : (s.withCaps v).rd a = s.rd a := rfl
@[simp] theorem State.fld_withCaps (s : State) (v : SMap CapSet) (g : Fld) : (s.withCaps v).fld g = s.fld g := rfl
@[simp] theorem State.rd_withCasc (s : State) (v : Casc) (a : Nat) : (s.withCasc v).rd a = s.rd a := rfl
@[simp] theorem State.fld_withCasc (s : State) (v : Casc) (g : Fld) : (s.withCasc v).fld g = s.fld g := rfl
@[simp] theorem State.rd_withEngLoad (s : State) (v : EngLoad) (a : Nat) : (s.withEngLoad v).rd a = s.rd a := rfl
@[simp] theorem State.fld_withEngLoad (s : State) (v : EngLoad) (g : Fld) : (s.withEngLoad v).fld g = s.fld g := rfl
@[simp] theorem State.rd_withEngImgs (s : State) (v : SMap EngImg) (a : Nat) : (s.withEngImgs v).rd a = s.rd a := rfl
@[simp] theorem State.fld_withEngImgs (s : State) (v : SMap EngImg) (g : Fld) : (s.withEngImgs v).fld g = s.fld g := rfl
@[simp] theorem State.rd_withSdChans (s : State) (v : SMap SdChan) (a : Nat) : (s.withSdChans v).rd a = s.rd a := rfl
@[simp] theorem State.fld_withSdChans (s : State) (v : SMap SdChan) (g : Fld) : (s.withSdChans v).fld g = s.fld g := rfl
@[simp] theorem State.rd_withAdcSeqs (s : State) (v : SMap AdcSeq) (a : Nat) : (s.withAdcSeqs v).rd a = s.rd a := rfl
@[simp] theorem State.fld_withAdcSeqs (s : State) (v : SMap AdcSeq) (g : Fld) : (s.withAdcSeqs v).fld g = s.fld g := rfl
@[simp] theorem State.rd_withSense (s : State) (v : SenseState) (a : Nat) : (s.withSense v).rd a = s.rd a := rfl
@[simp] theorem State.fld_withSense (s : State) (v : SenseState) (g : Fld) : (s.withSense v).fld g = s.fld g := rfl
@[simp] theorem State.rd_withAxes (s : State) (v : SMap Axis) (a : Nat) : (s.withAxes v).rd a = s.rd a := rfl
@[simp] theorem State.fld_withAxes (s : State) (v : SMap Axis) (g : Fld) : (s.withAxes v).fld g = s.fld g := rfl
@[simp] theorem State.rd_withProfiles (s : State) (v : SMap Profile) (a : Nat) : (s.withProfiles v).rd a = s.rd a := rfl
@[simp] theorem State.fld_withProfiles (s : State) (v : SMap Profile) (g : Fld) : (s.withProfiles v).fld g = s.fld g := rfl
@[simp] theorem State.rd_withVms (s : State) (v : SMap VMaster) (a : Nat) : (s.withVms v).rd a = s.rd a := rfl
@[simp] theorem State.fld_withVms (s : State) (v : SMap VMaster) (g : Fld) : (s.withVms v).fld g = s.fld g := rfl
@[simp] theorem State.rd_withNet (s : State) (v : NetState) (a : Nat) : (s.withNet v).rd a = s.rd a := rfl
@[simp] theorem State.fld_withNet (s : State) (v : NetState) (g : Fld) : (s.withNet v).fld g = s.fld g := rfl
@[simp] theorem State.rd_withBinds (s : State) (v : SMap VmBind) (a : Nat) : (s.withBinds v).rd a = s.rd a := rfl
@[simp] theorem State.fld_withBinds (s : State) (v : SMap VmBind) (g : Fld) : (s.withBinds v).fld g = s.fld g := rfl
@[simp] theorem State.rd_withCans (s : State) (v : SMap CanNode) (a : Nat) : (s.withCans v).rd a = s.rd a := rfl
@[simp] theorem State.fld_withCans (s : State) (v : SMap CanNode) (g : Fld) : (s.withCans v).fld g = s.fld g := rfl
@[simp] theorem State.rd_withFins (s : State) (v : SMap FieldIn) (a : Nat) : (s.withFins v).rd a = s.rd a := rfl
@[simp] theorem State.fld_withFins (s : State) (v : SMap FieldIn) (g : Fld) : (s.withFins v).fld g = s.fld g := rfl
@[simp] theorem State.rd_withTel (s : State) (v : Telem) (a : Nat) : (s.withTel v).rd a = s.rd a := rfl
@[simp] theorem State.fld_withTel (s : State) (v : Telem) (g : Fld) : (s.withTel v).fld g = s.fld g := rfl
@[simp] theorem State.rd_withCtxCopy (s : State) (v : SMap Word) (a : Nat) : (s.withCtxCopy v).rd a = s.rd a := rfl
@[simp] theorem State.fld_withCtxCopy (s : State) (v : SMap Word) (g : Fld) : (s.withCtxCopy v).fld g = s.fld g := rfl
@[simp] theorem State.rd_withWears (s : State) (v : SMap WearPos) (a : Nat) : (s.withWears v).rd a = s.rd a := rfl
@[simp] theorem State.fld_withWears (s : State) (v : SMap WearPos) (g : Fld) : (s.withWears v).fld g = s.fld g := rfl
@[simp] theorem State.rd_withWearQ (s : State) (v : List WearInc) (a : Nat) : (s.withWearQ v).rd a = s.rd a := rfl
@[simp] theorem State.fld_withWearQ (s : State) (v : List WearInc) (g : Fld) : (s.withWearQ v).fld g = s.fld g := rfl
@[simp] theorem State.rd_withWearPart (s : State) (v : Option (Nat × List Byte)) (a : Nat) : (s.withWearPart v).rd a = s.rd a := rfl
@[simp] theorem State.fld_withWearPart (s : State) (v : Option (Nat × List Byte)) (g : Fld) : (s.withWearPart v).fld g = s.fld g := rfl
@[simp] theorem State.rd_withWeir (s : State) (v : WeirState) (a : Nat) : (s.withWeir v).rd a = s.rd a := rfl
@[simp] theorem State.fld_withWeir (s : State) (v : WeirState) (g : Fld) : (s.withWeir v).fld g = s.fld g := rfl
@[simp] theorem State.rd_withMode (s : State) (v : ModeState) (a : Nat) : (s.withMode v).rd a = s.rd a := rfl
@[simp] theorem State.fld_withMode (s : State) (v : ModeState) (g : Fld) : (s.withMode v).fld g = s.fld g := rfl
@[simp] theorem State.rd_withClk (s : State) (v : ClkState) (a : Nat) : (s.withClk v).rd a = s.rd a := rfl
@[simp] theorem State.fld_withClk (s : State) (v : ClkState) (g : Fld) : (s.withClk v).fld g = s.fld g := rfl
@[simp] theorem State.rd_withPins (s : State) (v : Pins) (a : Nat) : (s.withPins v).rd a = s.rd a := rfl
@[simp] theorem State.fld_withPins (s : State) (v : Pins) (g : Fld) : (s.withPins v).fld g = s.fld g := rfl
@[simp] theorem State.rd_withFree (s : State) (v : Nat) (a : Nat) : (s.withFree v).rd a = s.rd a := rfl
@[simp] theorem State.fld_withFree (s : State) (v : Nat) (g : Fld) : (s.withFree v).fld g = s.fld g := rfl
@[simp] theorem State.rd_withPending (s : State) (v : List Instr) (a : Nat) : (s.withPending v).rd a = s.rd a := rfl
@[simp] theorem State.fld_withPending (s : State) (v : List Instr) (g : Fld) : (s.withPending v).fld g = s.fld g := rfl

end Sys2Proof.Machine
end

