-- ==== Sys2Proof/Laws/Served.lean ====
section
/-!
SUPPORT. A host command that is served, an engine instruction that is performed: what its whole effect is, in one equation.
-/

namespace Sys2Proof.Machine

/-- The whole effect of a served command: its step 8, then, unless it waits, the end of the command with its response. -/
theorem State.hostCmdW_serves {s : State} {op : Nat} {c : HostCmd} (h : s.serves op c = true) (body : State → Step8) :
    State.hostCmdW op c s body = (match body (s.atStep8 op c) with
      | .done r t => t.finishHead c.ch.val r
      | .waits t => t) := by
  simp only [State.serves, Bool.and_eq_true] at h
  obtain ⟨⟨⟨⟨h1, h2⟩, h3⟩, h4⟩, h5⟩ := h
  have h2' : (s.chan c.ch.val).inService = [] := List.isEmpty_iff.mp h2
  have h5' := Option.isNone_iff_eq_none.mp h5
  simp only [State.entry] at h5'
  unfold State.hostCmdW
  simp only [h1, h2', h3, h4, h5', Bool.not_true, Bool.or_self, Bool.false_eq_true, if_false, State.runStep8, State.atStep8,
    State.entry] <;>
  rfl

/-- The same for a command that is answered at once. -/
theorem State.hostCmd_serves {s : State} {op : Nat} {c : HostCmd} (h : s.serves op c = true) (body : State → Reply × State) :
    State.hostCmd op c s body = (body (s.atStep8 op c)).2.finishHead c.ch.val (body (s.atStep8 op c)).1 := by
  unfold State.hostCmd
  rw [State.hostCmdW_serves h]

/-- A command that comes while the supervisor does not serve changes nothing. -/
theorem State.hostCmdW_idle {s : State} (op : Nat) (c : HostCmd) (h : s.supRuns = false) (body : State → Step8) :
    State.hostCmdW op c s body = s := by
  unfold State.hostCmdW
  simp only [h, Bool.not_false, if_true]

/-- A served command whose step 8 answers `r` in state `t` ends with that answer. -/
theorem State.finishHead_done {b : Reply × State} {k : Nat} {r : Reply} {t : State} (h : b = (r, t)) :
    b.2.finishHead k b.1 = t.finishHead k r := by
  subst h; rfl

/-- One that waits leaves the state of its step 8. -/
theorem Step8.waits_state {b : Step8} {k : Nat} {t : State} (h : b = .waits t) :
    (match b with | .done r t => t.finishHead k r | .waits t => t) = t := by
  subst h; rfl

theorem Step8.done_state {b : Step8} {k : Nat} {r : Reply} {t : State} (h : b = .done r t) :
    (match b with | .done r t => t.finishHead k r | .waits t => t) = t.finishHead k r := by
  subst h; rfl

/-! ## Engine instructions -/

@[simp] theorem State.bank_setBank_same (s : State) (e k : Nat) (b : Slot) : (s.setBank e k b).bank e k = b :=
  SMap.get_set_same _ _ _ _

theorem State.slot_setBank_ne (s : State) (e k : Nat) (b : Slot) {j : Nat} (h : j ≠ slotKey e k) :
    (s.setBank e k b).slot j = s.slot j :=
  SMap.get_set_other _ _ _ (Ne.symm h)

/-- An instruction that is performed has the whole effect `State.performed`. -/
theorem State.issue_performs {s : State} {e k path : Nat} (h : s.performs e k path = true) (body : Nat → State → State) :
    s.issue e path body = s.performed e k (body k) := by
  simp only [State.performs, Bool.and_eq_true, beq_iff_eq, Bool.not_eq_true'] at h
  obtain ⟨⟨h1, h2⟩, h3⟩ := h
  unfold State.issue
  simp only [h1, h2, h3, Bool.false_eq_true, if_false, if_true]
  rfl

/-- What a performed instruction does depends on its action on one state alone: past the instruction. -/
theorem State.performed_congr {s : State} {e k : Nat} {f g : State → State}
    (h : f (s.setBank e k (s.bank e k).next) = g (s.setBank e k (s.bank e k).next)) : s.performed e k f = s.performed e k g := by
  unfold State.performed; rw [h]

@[simp] theorem State.bank_withSec (s : State) (v : SecState) (e k : Nat) : (s.withSec v).bank e k = s.bank e k := rfl
@[simp] theorem State.slot_withSec (s : State) (v : SecState) (j : Nat) : (s.withSec v).slot j = s.slot j := rfl
@[simp] theorem State.sec_setBank (s : State) (e k : Nat) (b : Slot) : (s.setBank e k b).sec = s.sec := rfl

@[simp] theorem State.withSlots_setBank (s : State) (e k : Nat) (b : Slot) (v : SMap Slot) :
    (s.setBank e k b).withSlots v = s.withSlots v := rfl
@[simp] theorem State.withSlots_withSec (s : State) (v : SecState) (m : SMap Slot) :
    (s.withSec v).withSlots m = (s.withSlots m).withSec v := rfl
@[simp] theorem State.withSec_withSec (s : State) (v w : SecState) : (s.withSec v).withSec w = s.withSec w := rfl
@[simp] theorem State.withSlots_self (s : State) : s.withSlots s.slots = s := rfl
@[simp] theorem State.withSec_self (s : State) : s.withSec s.sec = s := rfl

/-- An instruction that acts on its slot's bank alone writes that bank and nothing else. -/
theorem State.onBank_writes {s : State} {e k path : Nat} {i : Instr} {f : Slot → Slot} (h : s.performs e k path = true)
    (hi : exec i s = .next (s.onBank e path f)) : s.writesBank i e k (f (s.bank e k).next) := by
  refine ⟨_, hi, ?_⟩
  rw [State.onBank, State.issue_performs h]
  unfold State.performed State.sameButBank
  simp only [State.bank_setBank_same, State.bank_withSec, State.slot_withSec, State.sec_setBank, State.withSlots_setBank,
    State.withSlots_withSec, State.withSec_withSec, State.withSlots_self, State.withSec_self]
  refine ⟨trivial, ?_, trivial, rfl⟩
  intro j hj
  rw [State.slot_setBank_ne _ _ _ _ hj, State.slot_setBank_ne _ _ _ _ hj, State.slot_setBank_ne _ _ _ _ hj]

end Sys2Proof.Machine
end

