-- ==== Sys2Proof/Laws/Shared.lean ====
section
/-!
SUPPORT. What the operations shared by the whole device can do: a transaction on the internal fabric, and the words of the speed task.
-/

namespace Sys2Proof.Machine

/-! ## Bits of a mask -/

theorem testBit_add_two_pow {i : Nat} : ∀ {n : Nat}, n.testBit i = false →
    ∀ j, (n + 2 ^ i).testBit j = (n.testBit j || decide (j = i)) := by
  induction i with
  | zero =>
    intro n h j
    rw [Nat.testBit_zero] at h
    cases j with
    | zero => simp only [Nat.testBit_zero, decide_eq_false_iff_not] at *; simp; omega
    | succ j =>
      have : (n + 1) / 2 = n / 2 := by simp at h; omega
      simp [Nat.testBit_succ, this]
  | succ i ih =>
    intro n h j
    rw [Nat.testBit_succ] at h
    cases j with
    | zero => simp [Nat.testBit_zero, Nat.pow_succ]
    | succ j =>
      have : (n + 2 ^ (i + 1)) / 2 = n / 2 + 2 ^ i := by omega
      simp [Nat.testBit_succ, this, ih h]

theorem testBit_putBit_true {n i : Nat} (h : n.testBit i = false) (j : Nat) :
    (putBit n i true).testBit j = (n.testBit j || decide (j = i)) := by
  simp [putBit, h, testBit_add_two_pow h]

/-- Setting a clear bit and clearing it again is no change. -/
theorem putBit_putBit {n i : Nat} (h : n.testBit i = false) : putBit (putBit n i true) i false = n := by
  have := testBit_putBit_true h i
  simp_all [putBit]

/-- Setting a clear bit makes one bit more. -/
theorem length_bitsOf_putBit {n i : Nat} (h : n.testBit i = false) (w : Nat) :
    (bitsOf w (putBit n i true)).length = (bitsOf w n).length + if i < w then 1 else 0 := by
  induction w with
  | zero => rfl
  | succ w ih =>
    simp only [bitsOf, List.range_succ, List.filter_append, List.length_append] at *
    rw [ih]
    by_cases e : w = i
    · subst e; simp [testBit_putBit_true h, h]
    · have hb : (putBit n i true).testBit w = n.testBit w := by simp [testBit_putBit_true h, e]
      have hi : (i < w + 1) = (i < w) := propext ⟨fun _ => by omega, fun _ => by omega⟩
      simp only [List.filter_cons, hb, hi, List.filter_nil]
      omega

/-! ## The tags of the internal fabric (R426) -/

/-- In balance, a transaction that takes a free tag is counted, and no more. -/
theorem State.issueTag_eq {s : State} {n : Nat} (hb : s.tags.issued = s.tags.returned + (bitsOf 64 s.tags.held).length)
    (h : s.tags.held.testBit n = false) (hn : n < 64) :
    s.issueTag n = s.withTags { s.tags with held := putBit s.tags.held n true, issued := s.tags.issued + 1 } := by
  have := length_bitsOf_putBit h 64
  have e : s.tags.issued + 1 = s.tags.returned + (bitsOf 64 (putBit s.tags.held n true)).length := by
    rw [this, if_pos hn]; omega
  simp only [State.issueTag, State.checkTags, State.withTags, beq_iff_eq, e, if_true]

/-- The response of a transaction that was in balance when it took its tag. -/
theorem State.returnTag_eq {s : State} {n h i r u : Nat} (ht : s.tags = ⟨putBit h n true, i + 1, r, u⟩)
    (hb : i = r + (bitsOf 64 h).length) (hn : h.testBit n = false) :
    s.returnTag n = s.withTags ⟨h, i + 1, r + 1, u⟩ := by
  have e : i + 1 = r + 1 + (bitsOf 64 h).length := by omega
  have hset : (putBit h n true).testBit n = true := by simp [testBit_putBit_true hn]
  simp only [State.returnTag, ht, hset, if_true, putBit_putBit hn]
  unfold State.checkTags
  exact if_pos (beq_iff_eq.mpr e)

/-- A transaction of an agent other than an engine: where the tags balance and what it does touches none of them, it leaves them in
balance, holds none afterwards, and has no other effect than its own. -/
theorem State.sharedAccess_eq {s : State} {f : State → State} (h : s.tagsBalance) (hf : ∀ t : State, (f t).tags = t.tags) :
    ∃ v u, s.sharedAccess f = (f (s.withTags v)).withTags u ∧ u.held = s.tags.held ∧ (State.reset.withTags u).tagsBalance := by
  obtain ⟨hb, h16, h64, hs⟩ := h
  have hfree := hs _ h16
  refine ⟨⟨putBit s.tags.held s.tags.turn true, s.tags.issued + 1, s.tags.returned, if s.tags.turn == 63 then 16 else s.tags.turn + 1⟩,
    ⟨s.tags.held, s.tags.issued + 1, s.tags.returned + 1, if s.tags.turn == 63 then 16 else s.tags.turn + 1⟩, ?_, rfl, ?_, ?_, ?_, hs⟩
  · unfold State.sharedAccess
    dsimp only
    rw [State.issueTag_eq (by exact hb) (by exact hfree) h64]
    exact State.returnTag_eq (hf _) hb hfree
  · show s.tags.issued + 1 = s.tags.returned + 1 + (bitsOf 64 s.tags.held).length
    omega
  · show 16 ≤ if s.tags.turn == 63 then 16 else s.tags.turn + 1
    split <;> omega
  · show (if s.tags.turn == 63 then 16 else s.tags.turn + 1) < 64
    simp only [beq_iff_eq]
    split <;> omega

/-! ## The speed task (R52) -/

/-- The words of the speed task stand in the ranges reserved for it: every other byte of memory reads as before. -/
theorem State.keepsMemory_writeSpeedTask (s : State) {e : Nat} (build : Nat) (he : e < 16) : s.keepsMemory (s.writeSpeedTask e build) := by
  intro a h
  have h1 : ¬ (progBase e + 0x17800 ≤ a ∧ a < progBase e + 0x17800 + 0x800) := fun hh => h ⟨e, he, .inl (by omega)⟩
  have h2 : ¬ (dataBase e + 0xFC00 ≤ a ∧ a < dataBase e + 0xFC00 + 0x400) := fun hh => h ⟨e, he, .inr (by omega)⟩
  simp only [State.writeSpeedTask, State.rd8_put, State.rd8_wrBytes, List.length_map, List.length_range, h1, h2, if_false]

end Sys2Proof.Machine
end

