-- ==== Sys2Proof/Laws/StableOps.lean ====
section
/-!
SUPPORT. The operations of Machine/Ops.lean keep every stable property (Laws/Stable.lean).
-/

namespace Sys2Proof.Machine

variable {P : State → Prop} (hP : Stable P)
include hP

theorem State.put_stable {s : State} (h : P s) (f : Fld) (v : Nat) : P (State.put s f v) := by
  unfold State.put
  repeat' with_reducible first | assumption | intro _ | apply State.wr_stable hP | apply State.ite_stable | apply State.ite_snd_stable | apply State.ite_fst_stable | split | (dsimp only; split)

theorem State.putB_stable {s : State} (h : P s) (f : Fld) (b : Bool) : P (State.putB s f b) := by
  unfold State.putB
  repeat' with_reducible first | assumption | intro _ | apply State.put_stable hP | apply State.ite_stable | apply State.ite_snd_stable | apply State.ite_fst_stable | split | (dsimp only; split)

theorem State.inc_stable {s : State} (h : P s) (f : Fld) : P (State.inc s f) := by
  unfold State.inc
  repeat' with_reducible first | assumption | intro _ | apply State.put_stable hP | apply State.ite_stable | apply State.ite_snd_stable | apply State.ite_fst_stable | split | (dsimp only; split)

theorem State.incMod_stable {s : State} (h : P s) (f : Fld) : P (State.incMod s f) := by
  unfold State.incMod
  repeat' with_reducible first | assumption | intro _ | apply State.put_stable hP | apply State.ite_stable | apply State.ite_snd_stable | apply State.ite_fst_stable | split | (dsimp only; split)

theorem State.markBad_stable {s : State} (h : P s) (a : Nat) : P (State.markBad s a) := by
  unfold State.markBad
  repeat' with_reducible first | assumption | intro _ | apply State.withMode_stable hP | apply State.ite_stable | apply State.ite_snd_stable | apply State.ite_fst_stable | split | (dsimp only; split)

theorem State.wrMem32_stable {s : State} (h : P s) (a v : Nat) : P (State.wrMem32 s a v) := by
  unfold State.wrMem32
  repeat' with_reducible first | assumption | intro _ | apply State.wrBytes_stable hP | apply State.ite_stable | apply State.ite_snd_stable | apply State.ite_fst_stable | split | (dsimp only; split)

theorem State.irq_stable {s : State} (h : P s) (i : Nat) : P (State.irq s i) := by
  unfold State.irq
  repeat' with_reducible first | assumption | intro _ | apply State.put_stable hP | apply State.ite_stable | apply State.ite_snd_stable | apply State.ite_fst_stable | split | (dsimp only; split)

theorem State.stepUnc_stable {s : State} (h : P s) (n : Nat) (cause : Fld) : P (State.stepUnc s n cause) := by
  unfold State.stepUnc
  repeat' with_reducible first | assumption | intro _ | apply State.put_stable hP | apply State.ite_stable | apply State.ite_snd_stable | apply State.ite_fst_stable | split | (dsimp only; split)

theorem State.leaveEnergised_stable {s : State} (h : P s) (n : Nat) : P (State.leaveEnergised s n) := by
  unfold State.leaveEnergised
  repeat' with_reducible first | assumption | intro _ | apply State.stepUnc_stable hP | apply State.put_stable hP | apply State.wr_stable hP | apply State.modProfile_stable hP | apply State.modAxis_stable hP | apply State.ite_stable | apply State.ite_snd_stable | apply State.ite_fst_stable | split | (dsimp only; split)

theorem State.calBreak_stable {s : State} (h : P s) (n : Nat) : P (State.calBreak s n) := by
  unfold State.calBreak
  repeat' with_reducible first | assumption | intro _ | apply State.modSdChan_stable hP | apply State.each_stable | apply State.ite_stable | apply State.ite_snd_stable | apply State.ite_fst_stable | apply State.filterRegs_stable hP | apply State.filterMem_stable hP | split | (dsimp only; split)

theorem State.setAxState_stable {s : State} (h : P s) (n v : Nat) : P (State.setAxState s n v) := by
  unfold State.setAxState
  repeat' with_reducible first | assumption | intro _ | apply State.leaveEnergised_stable hP | apply State.calBreak_stable hP | apply State.put_stable hP | apply State.ite_stable | apply State.ite_snd_stable | apply State.ite_fst_stable | split | (dsimp only; split)

theorem State.send_stable {s : State} (h : P s) (k : Nat) (fs : List Frame) : P (State.send s k fs) := by
  unfold State.send
  repeat' with_reducible first | assumption | intro _ | apply State.modLink_stable hP | apply State.ite_stable | apply State.ite_snd_stable | apply State.ite_fst_stable | split | (dsimp only; split)

theorem State.abandonEdge_stable {s : State} (h : P s) (k q : Nat) : P (State.abandonEdge s k q) := by
  unfold State.abandonEdge
  repeat' with_reducible first | assumption | intro _ | apply State.modLink_stable hP | apply State.wr_stable hP | apply State.put_stable hP | apply State.ite_stable | apply State.ite_snd_stable | apply State.ite_fst_stable | apply State.filterRegs_stable hP | apply State.filterMem_stable hP | split | (dsimp only; split)

theorem State.dropSent_stable {s : State} (h : P s) (k : Nat) (f : Frame) : P (State.dropSent s k f) := by
  unfold State.dropSent
  repeat' with_reducible first | assumption | intro _ | apply State.modLink_stable hP | apply State.abandonEdge_stable hP | apply State.ite_stable | apply State.ite_snd_stable | apply State.ite_fst_stable | split | (dsimp only; split)

theorem State.abandonFrame_stable {s : State} (h : P s) (k : Nat) : P (State.abandonFrame s k) := by
  unfold State.abandonFrame
  repeat' with_reducible first | assumption | intro _ | apply State.dropSent_stable hP | apply State.ite_stable | apply State.ite_snd_stable | apply State.ite_fst_stable | split | (dsimp only; split)

theorem State.sendTrip_stable {s : State} (h : P s) (k : Nat) : P (State.sendTrip s k) := by
  unfold State.sendTrip
  repeat' with_reducible first | assumption | intro _ | apply State.abandonFrame_stable hP | apply State.modLink_stable hP | apply State.send_stable hP | refine State.draw_stable hP (by assumption) ?_ | apply State.drawSnd_stable hP | apply State.ite_stable | apply State.ite_snd_stable | apply State.ite_fst_stable | split | (dsimp only; split)

theorem State.flushHeld_stable {s : State} (h : P s) (k : Nat) : P (State.flushHeld s k) := by
  unfold State.flushHeld
  repeat' with_reducible first | assumption | intro _ | apply State.modLink_stable hP | apply State.send_stable hP | apply State.ite_stable | apply State.ite_snd_stable | apply State.ite_fst_stable | split | (dsimp only; split)

theorem State.syncMask_stable {s : State} (h : P s) (n : Nat) : P (State.syncMask s n) := by
  unfold State.syncMask
  repeat' with_reducible first | assumption | intro _ | apply State.putB_stable hP | apply State.ite_stable | apply State.ite_snd_stable | apply State.ite_fst_stable | split | (dsimp only; split)

theorem State.maskHit_stable {s : State} (h : P s) (d : Nat) : P (State.maskHit s d) := by
  unfold State.maskHit
  repeat' with_reducible first | assumption | intro _ | apply State.inc_stable hP | apply State.ite_stable | apply State.ite_snd_stable | apply State.ite_fst_stable | split | (dsimp only; split)

theorem State.holdLeg_stable {s : State} (h : P s) (l : Nat) : P (State.holdLeg s l) := by
  unfold State.holdLeg
  repeat' with_reducible first | assumption | intro _ | apply State.modSched_stable hP | apply State.modLeg_stable hP | apply State.put_stable hP | apply State.ite_stable | apply State.ite_snd_stable | apply State.ite_fst_stable | split | (dsimp only; split)

theorem State.sendGroup_stable {s : State} (h : P s) (n : Nat) (fs : List Frame) : P (State.sendGroup s n fs) := by
  unfold State.sendGroup
  repeat' with_reducible first | assumption | intro _ | apply State.send_stable hP | apply State.each_stable | apply State.ite_stable | apply State.ite_snd_stable | apply State.ite_fst_stable | apply State.filterRegs_stable hP | apply State.filterMem_stable hP | split | (dsimp only; split)

theorem State.tripLinks_stable {s : State} (h : P s) (n : Nat) : P (State.tripLinks s n) := by
  unfold State.tripLinks
  repeat' with_reducible first | assumption | intro _ | apply State.sendTrip_stable hP | apply State.send_stable hP | apply State.each_stable | apply State.ite_stable | apply State.ite_snd_stable | apply State.ite_fst_stable | apply State.filterRegs_stable hP | apply State.filterMem_stable hP | split | (dsimp only; split)

theorem State.flushGroup_stable {s : State} (h : P s) (n : Nat) : P (State.flushGroup s n) := by
  unfold State.flushGroup
  repeat' with_reducible first | assumption | intro _ | apply State.flushHeld_stable hP | apply State.each_stable | apply State.ite_stable | apply State.ite_snd_stable | apply State.ite_fst_stable | apply State.filterRegs_stable hP | apply State.filterMem_stable hP | split | (dsimp only; split)

theorem State.step1_stable {s : State} (h : P s) (n up lo : Nat) : P (State.step1 s n up lo) := by
  unfold State.step1
  repeat' with_reducible first | assumption | intro _ | apply State.modGroup_stable hP | apply State.putB_stable hP | apply State.each_stable | apply State.ite_stable | apply State.ite_snd_stable | apply State.ite_fst_stable | apply State.filterRegs_stable hP | apply State.filterMem_stable hP | split | (dsimp only; split)

theorem State.beginPass_stable {s : State} (h : P s) (n : Nat) (p : Pass) : P (State.beginPass s n p) := by
  unfold State.beginPass
  repeat' with_reducible first | assumption | intro _ | apply State.holdLeg_stable hP | apply State.step1_stable hP | apply State.modGroup_stable hP | apply State.put_stable hP | apply State.tripLinks_stable hP | apply State.syncMask_stable hP | apply State.each_stable | apply State.ite_stable | apply State.ite_snd_stable | apply State.ite_fst_stable | split | (dsimp only; split)

theorem State.recordCause_stable {s : State} (h : P s) (n cause up lo : Nat) : P (State.recordCause s n cause up lo) := by
  unfold State.recordCause
  repeat' with_reducible first | assumption | intro _ | apply State.put_stable hP | apply State.modGroup_stable hP | apply State.ite_stable | apply State.ite_snd_stable | apply State.ite_fst_stable | split | (dsimp only; split)

theorem State.tripGroup_stable {s : State} (h : P s) (n cause up lo : Nat) : P (State.tripGroup s n cause up lo) := by
  unfold State.tripGroup
  repeat' with_reducible first | assumption | intro _ | apply State.recordCause_stable hP | apply State.put_stable hP | apply State.modGroup_stable hP | apply State.beginPass_stable hP | apply State.ite_stable | apply State.ite_snd_stable | apply State.ite_fst_stable | split | (dsimp only; split)

theorem State.tripUnbound_stable {s : State} (h : P s) (l : Nat) : P (State.tripUnbound s l) := by
  unfold State.tripUnbound
  repeat' with_reducible first | assumption | intro _ | apply State.holdLeg_stable hP | apply State.modLeg_stable hP | apply State.putB_stable hP | apply State.modLink_stable hP | apply State.sendTrip_stable hP | apply State.send_stable hP | apply State.each_stable | apply State.ite_stable | apply State.ite_snd_stable | apply State.ite_fst_stable | split | (dsimp only; split)

theorem State.tripAll_stable {s : State} (h : P s) (cause : Nat) (except : List Nat) : P (State.tripAll s cause except) := by
  unfold State.tripAll
  repeat' with_reducible first | assumption | intro _ | apply State.tripGroup_stable hP | apply State.tripUnbound_stable hP | apply State.each_stable | apply State.ite_stable | apply State.ite_snd_stable | apply State.ite_fst_stable | apply State.filterRegs_stable hP | apply State.filterMem_stable hP | split | (dsimp only; split)

theorem State.refreshHeld_stable {s : State} (h : P s) (l : Nat) : P (State.refreshHeld s l) := by
  unfold State.refreshHeld
  repeat' with_reducible first | assumption | intro _ | apply State.put_stable hP | apply State.ite_stable | apply State.ite_snd_stable | apply State.ite_fst_stable | split | (dsimp only; split)

theorem State.disableLeg_stable {s : State} (h : P s) (l : Nat) : P (State.disableLeg s l) := by
  unfold State.disableLeg
  repeat' with_reducible first | assumption | intro _ | apply State.modSched_stable hP | apply State.holdLeg_stable hP | apply State.ite_stable | apply State.ite_snd_stable | apply State.ite_fst_stable | split | (dsimp only; split)

theorem State.closeLoad_stable {s : State} (h : P s)  : P (State.closeLoad s) := by
  unfold State.closeLoad
  repeat' with_reducible first | assumption | intro _ | apply State.putB_stable hP | apply State.withEngLoad_stable hP | apply State.each_stable | apply State.ite_stable | apply State.ite_snd_stable | apply State.ite_fst_stable | apply State.filterRegs_stable hP | apply State.filterMem_stable hP | split | (dsimp only; split)

theorem State.writeSpeedTask_stable {s : State} (h : P s) (e build : Nat) : P (State.writeSpeedTask s e build) := by
  unfold State.writeSpeedTask
  repeat' with_reducible first | assumption | intro _ | apply State.wrBytes_stable hP | apply State.put_stable hP | apply State.ite_stable | apply State.ite_snd_stable | apply State.ite_fst_stable | split | (dsimp only; split)

theorem State.startSpeedTask_stable {s : State} (h : P s) (n : Nat) : P (State.startSpeedTask s n) := by
  unfold State.startSpeedTask
  repeat' with_reducible first | assumption | intro _ | apply State.writeSpeedTask_stable hP | apply State.withMode_stable hP | apply State.ite_stable | apply State.ite_snd_stable | apply State.ite_fst_stable | split | (dsimp only; split)

theorem State.safeOffSpeed_stable {s : State} (h : P s) (n : Nat) : P (State.safeOffSpeed s n) := by
  unfold State.safeOffSpeed
  repeat' with_reducible first | assumption | intro _ | apply State.startSpeedTask_stable hP | apply State.ite_stable | apply State.ite_snd_stable | apply State.ite_fst_stable | split | (dsimp only; split)

theorem State.modeSpeed_stable {s : State} (h : P s) (m : Nat) : P (State.modeSpeed s m) := by
  unfold State.modeSpeed
  repeat' with_reducible first | assumption | intro _ | apply State.withMode_stable hP | apply State.startSpeedTask_stable hP | apply State.each_stable | apply State.ite_stable | apply State.ite_snd_stable | apply State.ite_fst_stable | apply State.filterRegs_stable hP | apply State.filterMem_stable hP | split | (dsimp only; split)

theorem State.toMode_stable {s : State} (h : P s) (m : Nat) : P (State.toMode s m) := by
  unfold State.toMode
  repeat' with_reducible first | assumption | intro _ | apply State.put_stable hP | apply State.incMod_stable hP | apply State.irq_stable hP | apply State.closeLoad_stable hP | apply State.modeSpeed_stable hP | apply State.wr_stable hP | apply State.disableLeg_stable hP | apply State.refreshHeld_stable hP | apply State.each_stable | apply State.ite_stable | apply State.ite_snd_stable | apply State.ite_fst_stable | split | (dsimp only; split)

theorem State.fieldSafeOff_stable {s : State} (h : P s)  : P (State.fieldSafeOff s) := by
  unfold State.fieldSafeOff
  repeat' with_reducible first | assumption | intro _ | apply State.put_stable hP | apply State.each_stable | apply State.ite_stable | apply State.ite_snd_stable | apply State.ite_fst_stable | apply State.filterRegs_stable hP | apply State.filterMem_stable hP | split | (dsimp only; split)

theorem State.setCause_stable {s : State} (h : P s) (ev : Nat) (bits : List Nat) : P (State.setCause s ev bits) := by
  unfold State.setCause
  repeat' with_reducible first | assumption | intro _ | apply State.wr_stable hP | apply State.ite_stable | apply State.ite_snd_stable | apply State.ite_fst_stable | split | (dsimp only; split)

theorem State.hwSafeOff_stable {s : State} (h : P s) (ev : Nat) (cause : List Nat) (fatal : Bool) : P (State.hwSafeOff s ev cause fatal) := by
  unfold State.hwSafeOff
  repeat' with_reducible first | assumption | intro _ | apply State.setCause_stable hP | apply State.toMode_stable hP | apply State.withWeir_stable hP | apply State.safeOffSpeed_stable hP | apply State.fieldSafeOff_stable hP | apply State.put_stable hP | apply State.each_stable | apply State.ite_stable | apply State.ite_snd_stable | apply State.ite_fst_stable | apply State.filterRegs_stable hP | apply State.filterMem_stable hP | split | (dsimp only; split)

theorem State.sendStarts_stable {s : State} (h : P s) (l : List (Nat × Nat)) : P (State.sendStarts s l) := by
  unfold State.sendStarts
  repeat' with_reducible first | assumption | intro _ | apply State.withWeir_stable hP | apply State.ite_stable | apply State.ite_snd_stable | apply State.ite_fst_stable | split | (dsimp only; split)

theorem State.takeStart_stable {s : State} (h : P s) (kind i : Nat) : P (State.takeStart s kind i) := by
  unfold State.takeStart
  repeat' with_reducible first | assumption | intro _ | apply State.withWeir_stable hP | apply State.ite_stable | apply State.ite_snd_stable | apply State.ite_fst_stable | split | (dsimp only; split)

theorem State.linePulse_stable {s : State} (h : P s) (m : Nat) : P (State.linePulse s m) := by
  unfold State.linePulse
  repeat' with_reducible first | assumption | intro _ | apply State.withWeir_stable hP | apply State.sendStarts_stable hP | apply State.modCap_stable hP | apply State.each_stable | apply State.ite_stable | apply State.ite_snd_stable | apply State.ite_fst_stable | split | (dsimp only; split)

theorem State.routeEvent_stable {s : State} (h : P s) (ev : Nat) : P (State.routeEvent s ev) := by
  unfold State.routeEvent
  repeat' with_reducible first | assumption | intro _ | apply State.linePulse_stable hP | apply State.ite_stable | apply State.ite_snd_stable | apply State.ite_fst_stable | apply State.filterRegs_stable hP | apply State.filterMem_stable hP | split | (dsimp only; split)

theorem State.syncNq_stable {s : State} (h : P s)  : P (State.syncNq s) := by
  unfold State.syncNq
  repeat' with_reducible first | assumption | intro _ | apply State.putB_stable hP | apply State.put_stable hP | apply State.ite_stable | apply State.ite_snd_stable | apply State.ite_fst_stable | split | (dsimp only; split)

theorem State.notify_stable {s : State} (h : P s) (ev : Nat) : P (State.notify s ev) := by
  unfold State.notify
  repeat' with_reducible first | assumption | intro _ | apply State.withWeir_stable hP | apply State.syncNq_stable hP | apply State.put_stable hP | apply State.irq_stable hP | apply State.ite_stable | apply State.ite_snd_stable | apply State.ite_fst_stable | split | (dsimp only; split)

theorem State.checkDone_stable {s : State} (h : P s)  : P (State.checkDone s) := by
  unfold State.checkDone
  repeat' with_reducible first | assumption | intro _ | apply State.put_stable hP | apply State.withWeir_stable hP | apply State.each_stable | apply State.ite_stable | apply State.ite_snd_stable | apply State.ite_fst_stable | split | (dsimp only; split)

theorem State.startReaction_stable {s : State} (h : P s) (d code ev : Nat) (own : List Nat) : P (State.startReaction s d code ev own) := by
  unfold State.startReaction
  repeat' with_reducible first | assumption | intro _ | apply State.withWeir_stable hP | apply State.syncMask_stable hP | apply State.tripGroup_stable hP | apply State.tripAll_stable hP | apply State.hwSafeOff_stable hP | apply State.ite_stable | apply State.ite_snd_stable | apply State.ite_fst_stable | split | (dsimp only; split)

theorem State.react_stable {s : State} (h : P s) (ev code : Nat) (own : List Nat) : P (State.react s ev code own) := by
  unfold State.react
  repeat' with_reducible first | assumption | intro _ | apply State.put_stable hP | apply State.startReaction_stable hP | apply State.checkDone_stable hP | apply State.ite_stable | apply State.ite_snd_stable | apply State.ite_fst_stable | split | (dsimp only; split)

theorem State.weirTake_stable {s : State} (h : P s) (ev : Nat) (own : List Nat) : P (State.weirTake s ev own) := by
  unfold State.weirTake
  repeat' with_reducible first | assumption | intro _ | apply State.routeEvent_stable hP | apply State.put_stable hP | apply State.notify_stable hP | apply State.react_stable hP | apply State.ite_stable | apply State.ite_snd_stable | apply State.ite_fst_stable | split | (dsimp only; split)

theorem State.assertOwn_stable {s : State} (h : P s) (ev : Nat) (own : List Nat) : P (State.assertOwn s ev own) := by
  unfold State.assertOwn
  repeat' with_reducible first | assumption | intro _ | apply State.withMode_stable hP | apply State.put_stable hP | apply State.weirTake_stable hP | apply State.ite_stable | apply State.ite_snd_stable | apply State.ite_fst_stable | split | (dsimp only; split)

theorem State.assertEv_stable {s : State} (h : P s) (ev : Nat) : P (State.assertEv s ev) := by
  unfold State.assertEv
  repeat' with_reducible first | assumption | intro _ | apply State.assertOwn_stable hP | apply State.ite_stable | apply State.ite_snd_stable | apply State.ite_fst_stable | split | (dsimp only; split)

theorem State.assertTogether_stable {s : State} (h : P s) (evs : List Nat) : P (State.assertTogether s evs) := by
  unfold State.assertTogether
  repeat' with_reducible first | assumption | intro _ | apply State.assertEv_stable hP | apply State.each_stable | apply State.ite_stable | apply State.ite_snd_stable | apply State.ite_fst_stable | split | (dsimp only; split)

theorem State.tripLeg_stable {s : State} (h : P s) (l cause : Nat) (up lo : Bool) : P (State.tripLeg s l cause up lo) := by
  unfold State.tripLeg
  repeat' with_reducible first | assumption | intro _ | apply State.tripGroup_stable hP | apply State.assertOwn_stable hP | apply State.tripUnbound_stable hP | apply State.assertEv_stable hP | apply State.ite_stable | apply State.ite_snd_stable | apply State.ite_fst_stable | split | (dsimp only; split)

theorem State.checkTags_stable {s : State} (h : P s)  : P (State.checkTags s) := by
  unfold State.checkTags
  repeat' with_reducible first | assumption | intro _ | apply State.assertEv_stable hP | apply State.ite_stable | apply State.ite_snd_stable | apply State.ite_fst_stable | split | (dsimp only; split)

theorem State.issueTag_stable {s : State} (h : P s) (n : Nat) : P (State.issueTag s n) := by
  unfold State.issueTag
  repeat' with_reducible first | assumption | intro _ | apply State.withTags_stable hP | apply State.checkTags_stable hP | apply State.ite_stable | apply State.ite_snd_stable | apply State.ite_fst_stable | split | (dsimp only; split)

theorem State.returnTag_stable {s : State} (h : P s) (n : Nat) : P (State.returnTag s n) := by
  unfold State.returnTag
  repeat' with_reducible first | assumption | intro _ | apply State.withTags_stable hP | apply State.checkTags_stable hP | apply State.ite_stable | apply State.ite_snd_stable | apply State.ite_fst_stable | split | (dsimp only; split)

theorem State.sharedAccess_stable {s : State} (h : P s) {f : State → State} (hf : ∀ t, P t → P (f t)) : P (s.sharedAccess f) := by
  unfold State.sharedAccess
  apply State.returnTag_stable hP
  apply hf
  apply State.issueTag_stable hP
  exact hP.other h rfl rfl rfl rfl



theorem State.unstall_stable {s : State} (h : P s) (e : Nat) : P (State.unstall s e) := by
  unfold State.unstall
  repeat' with_reducible first | assumption | intro _ | apply State.modEngine_stable hP | apply State.returnTag_stable hP | apply State.ite_stable | apply State.ite_snd_stable | apply State.ite_fst_stable | split | (dsimp only; split)

theorem State.wr64_stable {s : State} (h : P s) (lo hi v : Nat) : P (State.wr64 s lo hi v) := by
  unfold State.wr64
  repeat' with_reducible first | assumption | intro _ | apply State.wr_stable hP | apply State.ite_stable | apply State.ite_snd_stable | apply State.ite_fst_stable | split | (dsimp only; split)

theorem State.syncTime_stable {s : State} (h : P s)  : P (State.syncTime s) := by
  unfold State.syncTime
  repeat' with_reducible first | assumption | intro _ | apply State.wr64_stable hP | apply State.ite_stable | apply State.ite_snd_stable | apply State.ite_fst_stable | split | (dsimp only; split)

theorem State.tuAdvance_stable {s : State} (h : P s) (adv : Nat) : P (State.tuAdvance s adv) := by
  unfold State.tuAdvance
  repeat' with_reducible first | assumption | intro _ | apply State.wr64_stable hP | apply State.syncTime_stable hP | apply State.ite_stable | apply State.ite_snd_stable | apply State.ite_fst_stable | split | (dsimp only; split)

theorem State.runOn_stable {s : State} (h : P s) (adv : Nat) : P (State.runOn s adv) := by
  unfold State.runOn
  repeat' with_reducible first | assumption | intro _ | apply State.tuAdvance_stable hP | apply State.ite_stable | apply State.ite_snd_stable | apply State.ite_fst_stable | split | (dsimp only; split)

theorem State.sampleClock_stable {s : State} (h : P s) (p : Nat → Bool) (at_ : Option Nat) : P (State.sampleClock s p at_) := by
  unfold State.sampleClock
  repeat' with_reducible first | assumption | intro _ | apply State.modCap_stable hP | apply State.each_stable | apply State.ite_stable | apply State.ite_snd_stable | apply State.ite_fst_stable | split | (dsimp only; split)

end Sys2Proof.Machine
end

