-- ==== Sys2Proof/Laws/StableSpillway.lean ====
section
/-!
SUPPORT. The operations of Machine/Spillway.lean keep every stable property (Laws/Stable.lean).
-/

namespace Sys2Proof.Machine

variable {P : State → Prop} (hP : Stable P)
include hP

theorem State.iltoCount_stable {s : State} (h : P s) (l : Nat) : P (State.iltoCount s l) := by
  unfold State.iltoCount
  repeat' with_reducible first | assumption | intro _ | apply State.inc_stable hP | apply State.ite_stable | apply State.ite_snd_stable | apply State.ite_fst_stable | split | (dsimp only; split)

theorem State.switchOn_stable {s : State} (h : P s) (l : Nat) (upper : Bool) : P (State.switchOn s l upper) := by
  unfold State.switchOn
  repeat' with_reducible first | assumption | intro _ | apply State.calBreak_stable hP | apply State.put_stable hP | apply State.ite_stable | apply State.ite_snd_stable | apply State.ite_fst_stable | split | (dsimp only; split)

theorem State.switchOff_stable {s : State} (h : P s) (l : Nat) (upper : Bool) : P (State.switchOff s l upper) := by
  unfold State.switchOff
  repeat' with_reducible first | assumption | intro _ | apply State.put_stable hP | apply State.ite_stable | apply State.ite_snd_stable | apply State.ite_fst_stable | split | (dsimp only; split)

theorem State.commandSet_stable {s : State} (h : P s) (n : Nat) (upper : Bool) : P (State.commandSet s n upper) := by
  unfold State.commandSet
  repeat' with_reducible first | assumption | intro _ | apply State.switchOn_stable hP | apply State.each_stable | apply State.ite_stable | apply State.ite_snd_stable | apply State.ite_fst_stable | split | (dsimp only; split)

theorem State.step2Group_stable {s : State} (h : P s) (n : Nat) : P (State.step2Group s n) := by
  unfold State.step2Group
  repeat' with_reducible first | assumption | intro _ | apply State.step1_stable hP | apply State.modGroup_stable hP | apply State.put_stable hP | apply State.sendGroup_stable hP | apply State.flushGroup_stable hP | apply State.commandSet_stable hP | apply State.modLeg_stable hP | apply State.each_stable | apply State.ite_stable | apply State.ite_snd_stable | apply State.ite_fst_stable | split | (dsimp only; split)

theorem State.step2Again_stable {s : State} (h : P s) (n : Nat) : P (State.step2Again s n) := by
  unfold State.step2Again
  repeat' with_reducible first | assumption | intro _ | apply State.modGroup_stable hP | apply State.sendGroup_stable hP | apply State.flushGroup_stable hP | apply State.ite_stable | apply State.ite_snd_stable | apply State.ite_fst_stable | split | (dsimp only; split)

theorem State.step2Leg_stable {s : State} (h : P s) (l : Nat) : P (State.step2Leg s l) := by
  unfold State.step2Leg
  repeat' with_reducible first | assumption | intro _ | apply State.modLeg_stable hP | apply State.put_stable hP | apply State.ite_stable | apply State.ite_snd_stable | apply State.ite_fst_stable | split | (dsimp only; split)

theorem execSpillwayStep2_stable {s tt : State} {tgt : SpillTarget} (e : execSpillwayStep2 tgt s = .next tt) (h : P s) :
    P tt := by
  unfold execSpillwayStep2 at e
  try dsimp only at e
  repeat' split at e
  all_goals first | (injection e with e; rw [← e]) | cases e
  repeat' with_reducible first | assumption | intro _ | apply State.step2Group_stable hP | apply State.step2Again_stable hP | apply State.step2Leg_stable hP | apply State.modLink_stable hP | apply State.send_stable hP | apply State.flushHeld_stable hP | apply State.each_stable | apply State.ite_stable | apply State.ite_snd_stable | apply State.ite_fst_stable | split | (dsimp only; split)

theorem State.axisSafe_stable {s : State} (h : P s) (n : Nat) (short : Bool) : P (State.axisSafe s n short) := by
  unfold State.axisSafe
  repeat' with_reducible first | assumption | intro _ | apply State.setAxState_stable hP | apply State.safeOffSpeed_stable hP | apply State.ite_stable | apply State.ite_snd_stable | apply State.ite_fst_stable | split | (dsimp only; split)

theorem State.gatesSafe_stable {s : State} (h : P s) (l : Nat) : P (State.gatesSafe s l) := by
  unfold State.gatesSafe
  repeat' with_reducible first | assumption | intro _ | apply State.put_stable hP | apply State.putB_stable hP | apply State.ite_stable | apply State.ite_snd_stable | apply State.ite_fst_stable | split | (dsimp only; split)

theorem State.reportSafe_stable {s : State} (h : P s) (n : Nat) : P (State.reportSafe s n) := by
  unfold State.reportSafe
  repeat' with_reducible first | assumption | intro _ | apply State.commandSet_stable hP | apply State.modLeg_stable hP | apply State.put_stable hP | apply State.modGroup_stable hP | apply State.gatesSafe_stable hP | apply State.axisSafe_stable hP | apply State.checkDone_stable hP | apply State.each_stable | apply State.ite_stable | apply State.ite_snd_stable | apply State.ite_fst_stable | apply State.filterRegs_stable hP | apply State.filterMem_stable hP | split | (dsimp only; split)

theorem State.offReached_stable {s : State} (h : P s) (l : Nat) : P (State.offReached s l) := by
  unfold State.offReached
  repeat' with_reducible first | assumption | intro _ | apply State.modLeg_stable hP | apply State.gatesSafe_stable hP | apply State.ite_stable | apply State.ite_snd_stable | apply State.ite_fst_stable | split | (dsimp only; split)

theorem execSafeStateReached_stable {s tt : State} {tgt : SpillTarget} (e : execSafeStateReached tgt s = .next tt) (h : P s) :
    P tt := by
  unfold execSafeStateReached at e
  try dsimp only at e
  repeat' split at e
  all_goals first | (injection e with e; rw [← e]) | cases e
  repeat' with_reducible first | assumption | intro _ | apply State.reportSafe_stable hP | apply State.offReached_stable hP | apply State.modLink_stable hP | apply State.each_stable | apply State.ite_stable | apply State.ite_snd_stable | apply State.ite_fst_stable | split | (dsimp only; split)

theorem State.shortFails_stable {s : State} (h : P s) (n l : Nat) : P (State.shortFails s n l) := by
  unfold State.shortFails
  repeat' with_reducible first | assumption | intro _ | apply State.iltoCount_stable hP | apply State.recordCause_stable hP | apply State.holdLeg_stable hP | apply State.modGroup_stable hP | apply State.put_stable hP | apply State.tripLinks_stable hP | apply State.syncMask_stable hP | apply State.axisSafe_stable hP | apply State.beginPass_stable hP | apply State.assertOwn_stable hP | apply State.each_stable | apply State.ite_stable | apply State.ite_snd_stable | apply State.ite_fst_stable | split | (dsimp only; split)

theorem execShortApplyFail_stable {s tt : State} {n : Fin 16} {leg : Fin 72} (e : execShortApplyFail n leg s = .next tt) (h : P s) :
    P tt := by
  unfold execShortApplyFail at e
  injection e with e
  rw [← e]
  repeat' with_reducible first | assumption | intro _ | apply State.shortFails_stable hP | apply State.ite_stable | apply State.ite_snd_stable | apply State.ite_fst_stable | split | (dsimp only; split)

theorem State.acceptClear_stable {s : State} (h : P s) (n : Nat) : P (State.acceptClear s n) := by
  unfold State.acceptClear
  repeat' with_reducible first | assumption | intro _ | apply State.put_stable hP | apply State.wr_stable hP | apply State.modGroup_stable hP | apply State.modSched_stable hP | apply State.sendGroup_stable hP | apply State.refreshHeld_stable hP | apply State.each_stable | apply State.ite_stable | apply State.ite_snd_stable | apply State.ite_fst_stable | split | (dsimp only; split)

theorem State.clearBegins_stable {s : State} (h : P s) (n : Nat) : P (State.clearBegins s n) := by
  unfold State.clearBegins
  repeat' with_reducible first | assumption | intro _ | apply State.modGroup_stable hP | apply State.syncMask_stable hP | apply State.ite_stable | apply State.ite_snd_stable | apply State.ite_fst_stable | split | (dsimp only; split)

theorem State.enableOff_stable {s : State} (h : P s) (n : Nat) : P (State.enableOff s n) := by
  unfold State.enableOff
  repeat' with_reducible first | assumption | intro _ | apply State.tripGroup_stable hP | apply State.assertOwn_stable hP | apply State.clearBegins_stable hP | apply State.ite_stable | apply State.ite_snd_stable | apply State.ite_fst_stable | split | (dsimp only; split)

theorem State.enableFall_stable {s : State} (h : P s) (n : Nat) : P (State.enableFall s n) := by
  unfold State.enableFall
  repeat' with_reducible first | assumption | intro _ | apply State.put_stable hP | apply State.clearBegins_stable hP | apply State.maskHit_stable hP | apply State.enableOff_stable hP | apply State.ite_stable | apply State.ite_snd_stable | apply State.ite_fst_stable | split | (dsimp only; split)

theorem State.enableRise_stable {s : State} (h : P s) (n : Nat) (cmp trip : Bool) : P (State.enableRise s n cmp trip) := by
  unfold State.enableRise
  repeat' with_reducible first | assumption | intro _ | apply State.put_stable hP | apply State.acceptClear_stable hP | apply State.modGroup_stable hP | apply State.ite_stable | apply State.ite_snd_stable | apply State.ite_fst_stable | split | (dsimp only; split)

theorem State.syncEnable_stable {s : State} (h : P s) (n : Nat) (cmp trip : Bool) : P (State.syncEnable s n cmp trip) := by
  unfold State.syncEnable
  repeat' with_reducible first | assumption | intro _ | apply State.enableRise_stable hP | apply State.enableFall_stable hP | apply State.ite_stable | apply State.ite_snd_stable | apply State.ite_fst_stable | split | (dsimp only; split)

theorem execEffectiveEnableFall_stable {s tt : State} {n : Fin 16} (e : execEffectiveEnableFall n s = .next tt) (h : P s) :
    P tt := by
  unfold execEffectiveEnableFall at e
  injection e with e
  rw [← e]
  repeat' with_reducible first | assumption | intro _ | apply State.put_stable hP | apply State.syncEnable_stable hP | apply State.ite_stable | apply State.ite_snd_stable | apply State.ite_fst_stable | split | (dsimp only; split)

theorem execEffectiveEnableRise_stable {s tt : State} {n : Fin 16} {at_ : EnableAt} (e : execEffectiveEnableRise n at_ s = .next tt) (h : P s) :
    P tt := by
  unfold execEffectiveEnableRise at e
  injection e with e
  rw [← e]
  repeat' with_reducible first | assumption | intro _ | apply State.put_stable hP | apply State.syncEnable_stable hP | apply State.ite_stable | apply State.ite_snd_stable | apply State.ite_fst_stable | split | (dsimp only; split)

theorem execEnDlNChange_stable {s tt : State} {high : Bool} {at_ : EnableMasks} (e : execEnDlNChange high at_ s = .next tt) (h : P s) :
    P tt := by
  unfold execEnDlNChange at e
  try dsimp only at e
  repeat' split at e
  all_goals first | (injection e with e; rw [← e]) | cases e
  repeat' with_reducible first | assumption | intro _ | apply State.withPins_stable hP | apply State.syncEnable_stable hP | apply State.each_stable | apply State.ite_stable | apply State.ite_snd_stable | apply State.ite_fst_stable | apply State.filterRegs_stable hP | apply State.filterMem_stable hP | split | (dsimp only; split)

theorem State.speedWord_stable {s : State} (h : P s) (n freq : Nat) : P (State.speedWord s n freq) := by
  unfold State.speedWord
  repeat' with_reducible first | assumption | intro _ | apply State.put_stable hP | apply State.beginPass_stable hP | apply State.modGroup_stable hP | apply State.ite_stable | apply State.ite_snd_stable | apply State.ite_fst_stable | split | (dsimp only; split)

theorem State.interlockTimeout_stable {s : State} (h : P s) (l : Nat) (upper : Bool) : P (State.interlockTimeout s l upper) := by
  unfold State.interlockTimeout
  repeat' with_reducible first | assumption | intro _ | apply State.modLeg_stable hP | apply State.modSched_stable hP | apply State.put_stable hP | apply State.shortFails_stable hP | apply State.iltoCount_stable hP | apply State.tripLeg_stable hP | apply State.ite_stable | apply State.ite_snd_stable | apply State.ite_fst_stable | split | (dsimp only; split)

theorem State.gateReleased_stable {s : State} (h : P s) (l : Nat) (upper : Bool) : P (State.gateReleased s l upper) := by
  unfold State.gateReleased
  repeat' with_reducible first | assumption | intro _ | apply State.putB_stable hP | apply State.ite_stable | apply State.ite_snd_stable | apply State.ite_fst_stable | split | (dsimp only; split)

theorem execSluiceRelease_stable {s tt : State} {leg : Fin 72} {upper : Bool} {wait : Nat} (e : execSluiceRelease leg upper wait s = .next tt) (h : P s) :
    P tt := by
  unfold execSluiceRelease at e
  injection e with e
  rw [← e]
  repeat' with_reducible first | assumption | intro _ | apply State.interlockTimeout_stable hP | apply State.modLeg_stable hP | apply State.switchOn_stable hP | apply State.gateReleased_stable hP | apply State.put_stable hP | apply State.ite_stable | apply State.ite_snd_stable | apply State.ite_fst_stable | split | (dsimp only; split)

theorem execInterlockTimeout_stable {s tt : State} {leg : Fin 72} {upper : Bool} (e : execInterlockTimeout leg upper s = .next tt) (h : P s) :
    P tt := by
  unfold execInterlockTimeout at e
  injection e with e
  rw [← e]
  repeat' with_reducible first | assumption | intro _ | apply State.interlockTimeout_stable hP | apply State.ite_stable | apply State.ite_snd_stable | apply State.ite_fst_stable | split | (dsimp only; split)

theorem State.desaturated_stable {s : State} (h : P s) (l : Nat) (upper : Bool) : P (State.desaturated s l upper) := by
  unfold State.desaturated
  repeat' with_reducible first | assumption | intro _ | apply State.recordCause_stable hP | apply State.beginPass_stable hP | apply State.assertOwn_stable hP | apply State.tripLeg_stable hP | apply State.ite_stable | apply State.ite_snd_stable | apply State.ite_fst_stable | split | (dsimp only; split)

theorem execDesatDetect_stable {s tt : State} {leg : Fin 24} {at_ : DesatAt} (e : execDesatDetect leg at_ s = .next tt) (h : P s) :
    P tt := by
  unfold execDesatDetect at e
  injection e with e
  rw [← e]
  repeat' with_reducible first | assumption | intro _ | apply State.put_stable hP | apply State.desaturated_stable hP | apply State.ite_stable | apply State.ite_snd_stable | apply State.ite_fst_stable | split | (dsimp only; split)

theorem execShuntOvercurrent_stable {s tt : State} {leg : Fin 24} (e : execShuntOvercurrent leg s = .next tt) (h : P s) :
    P tt := by
  unfold execShuntOvercurrent at e
  injection e with e
  rw [← e]
  repeat' with_reducible first | assumption | intro _ | apply State.put_stable hP | apply State.tripLeg_stable hP | apply State.ite_stable | apply State.ite_snd_stable | apply State.ite_fst_stable | split | (dsimp only; split)

theorem execBootstrapUv_stable {s tt : State} {leg : Fin 24} {low : Bool} (e : execBootstrapUv leg low s = .next tt) (h : P s) :
    P tt := by
  unfold execBootstrapUv at e
  injection e with e
  rw [← e]
  repeat' with_reducible first | assumption | intro _ | apply State.put_stable hP | apply State.modLeg_stable hP | apply State.modGroup_stable hP | apply State.stepUnc_stable hP | apply State.beginPass_stable hP | apply State.switchOff_stable hP | apply State.assertEv_stable hP | apply State.ite_stable | apply State.ite_snd_stable | apply State.ite_fst_stable | split | (dsimp only; split)

theorem State.bootstrapEnd_stable {s : State} (h : P s) (l : Nat) : P (State.bootstrapEnd s l) := by
  unfold State.bootstrapEnd
  repeat' with_reducible first | assumption | intro _ | apply State.modLeg_stable hP | apply State.put_stable hP | apply State.modGroup_stable hP | apply State.ite_stable | apply State.ite_snd_stable | apply State.ite_fst_stable | split | (dsimp only; split)

theorem State.stoPin_stable {s : State} (h : P s) (b high : Bool) : P (State.stoPin s b high) := by
  unfold State.stoPin
  repeat' with_reducible first | assumption | intro _ | apply State.withPins_stable hP | apply State.ite_stable | apply State.ite_snd_stable | apply State.ite_fst_stable | split | (dsimp only; split)

theorem State.syncSto_stable {s : State} (h : P s)  : P (State.syncSto s) := by
  unfold State.syncSto
  repeat' with_reducible first | assumption | intro _ | apply State.put_stable hP | apply State.ite_stable | apply State.ite_snd_stable | apply State.ite_fst_stable | split | (dsimp only; split)

theorem execStoInput_stable {s tt : State} {b : Bool} (e : execStoInput b s = .next tt) (h : P s) :
    P tt := by
  unfold execStoInput at e
  try dsimp only at e
  repeat' split at e
  all_goals first | (injection e with e; rw [← e]) | cases e
  repeat' with_reducible first | assumption | intro _ | apply State.stoPin_stable hP | apply State.put_stable hP | apply State.syncSto_stable hP | apply State.tripAll_stable hP | apply State.hwSafeOff_stable hP | apply State.assertOwn_stable hP | apply State.ite_stable | apply State.ite_snd_stable | apply State.ite_fst_stable | split | (dsimp only; split)

theorem execStoInputHigh_stable {s tt : State} {b : Bool} (e : execStoInputHigh b s = .next tt) (h : P s) :
    P tt := by
  unfold execStoInputHigh at e
  try dsimp only at e
  repeat' split at e
  all_goals first | (injection e with e; rw [← e]) | cases e
  repeat' with_reducible first | assumption | intro _ | apply State.stoPin_stable hP | apply State.put_stable hP | apply State.syncSto_stable hP | apply State.ite_stable | apply State.ite_snd_stable | apply State.ite_fst_stable | split | (dsimp only; split)

theorem execStoDiscrepancy_stable {s tt : State}  (e : execStoDiscrepancy s = .next tt) (h : P s) :
    P tt := by
  unfold execStoDiscrepancy at e
  injection e with e
  rw [← e]
  repeat' with_reducible first | assumption | intro _ | apply State.put_stable hP | apply State.assertEv_stable hP | apply State.ite_stable | apply State.ite_snd_stable | apply State.ite_fst_stable | split | (dsimp only; split)

end Sys2Proof.Machine
end

