-- ==== Sys2Proof/Laws/StableReset.lean ====
section
/-!
SUPPORT. The operations of Machine/Reset.lean keep every stable property (Laws/Stable.lean).
-/

namespace Sys2Proof.Machine

variable {P : State → Prop} (hP : Stable P)
include hP

theorem State.strapTimebase_stable {s : State} (h : P s)  : P (State.strapTimebase s) := by
  unfold State.strapTimebase
  repeat' with_reducible first | assumption | intro _ | apply State.putB_stable hP | apply State.each_stable | apply State.ite_stable | apply State.ite_snd_stable | apply State.ite_fst_stable | split | (dsimp only; split)

theorem State.strapField_stable {s : State} (h : P s)  : P (State.strapField s) := by
  unfold State.strapField
  repeat' with_reducible first | assumption | intro _ | apply State.put_stable hP | apply State.ite_stable | apply State.ite_snd_stable | apply State.ite_fst_stable | split | (dsimp only; split)

theorem State.applyStraps_stable {s : State} (h : P s)  : P (State.applyStraps s) := by
  unfold State.applyStraps
  repeat' with_reducible first | assumption | intro _ | apply State.strapTimebase_stable hP | apply State.strapField_stable hP | apply State.put_stable hP | apply State.ite_stable | apply State.ite_snd_stable | apply State.ite_fst_stable | split | (dsimp only; split)

theorem State.freeMem_stable {s : State} (h : P s) (p : Nat → Bool) : P (State.freeMem s p) := by
  unfold State.freeMem
  repeat' with_reducible first | assumption | intro _ | apply State.wr8_stable hP | refine State.draw_stable hP (by assumption) ?_ | apply State.drawSnd_stable hP | apply State.each_stable | apply State.ite_stable | apply State.ite_snd_stable | apply State.ite_fst_stable | apply State.filterRegs_stable hP | apply State.filterMem_stable hP | split | (dsimp only; split)

theorem State.keepWears_stable {s : State} (h : P s)  : P (State.keepWears s) := by
  unfold State.keepWears
  repeat' with_reducible first | assumption | intro _ | apply State.withWears_stable hP | apply State.ite_stable | apply State.ite_snd_stable | apply State.ite_fst_stable | apply State.filterRegs_stable hP | apply State.filterMem_stable hP | split | (dsimp only; split)

theorem State.endReactions_stable {s : State} (h : P s)  : P (State.endReactions s) := by
  unfold State.endReactions
  repeat' with_reducible first | assumption | intro _ | apply State.holdLeg_stable hP | apply State.step1_stable hP | apply State.put_stable hP | apply State.modGroup_stable hP | apply State.axisSafe_stable hP | apply State.step2Leg_stable hP | apply State.offReached_stable hP | apply State.modLink_stable hP | apply State.checkDone_stable hP | apply State.each_stable | apply State.ite_stable | apply State.ite_snd_stable | apply State.ite_fst_stable | apply State.filterRegs_stable hP | apply State.filterMem_stable hP | split | (dsimp only; split)

theorem State.dropStarts_stable {s : State} (h : P s) (i : Nat) : P (State.dropStarts s i) := by
  unfold State.dropStarts
  repeat' with_reducible first | assumption | intro _ | apply State.withWeir_stable hP | apply State.ite_stable | apply State.ite_snd_stable | apply State.ite_fst_stable | apply State.filterRegs_stable hP | apply State.filterMem_stable hP | split | (dsimp only; split)

theorem State.resetIsland_stable {s : State} (h : P s) (i : Nat) : P (State.resetIsland s i) := by
  unfold State.resetIsland
  repeat' with_reducible first | assumption | intro _ | apply State.endReactions_stable hP | apply State.unstall_stable hP | apply State.dropStarts_stable hP | apply State.keepRegs_stable hP | apply State.freeMem_stable hP | apply State.withEngines_stable hP | apply State.withSlots_stable hP | apply State.withInputs_stable hP | apply State.withGroups_stable hP | apply State.withLegs_stable hP | apply State.withScheds_stable hP | apply State.withCarriers_stable hP | apply State.withTimers_stable hP | apply State.withLinks_stable hP | apply State.withCaps_stable hP | apply State.withCasc_stable hP | apply State.withLatches_stable hP | apply State.withProfiles_stable hP | apply State.withVms_stable hP | apply State.withWearQ_stable hP | apply State.keepWears_stable hP | apply State.strapTimebase_stable hP | apply State.withSdChans_stable hP | apply State.withAdcSeqs_stable hP | apply State.withSense_stable hP | apply State.withNet_stable hP | apply State.keepMem_stable hP | apply State.withCans_stable hP | apply State.withFins_stable hP | apply State.strapField_stable hP | apply State.each_stable | apply State.ite_stable | apply State.ite_snd_stable | apply State.ite_fst_stable | split | (dsimp only; split)

theorem State.writeIrst_stable {s : State} (h : P s) (v : Nat) : P (State.writeIrst s v) := by
  unfold State.writeIrst
  repeat' with_reducible first | assumption | intro _ | apply State.wr_stable hP | apply State.resetIsland_stable hP | apply State.each_stable | apply State.ite_stable | apply State.ite_snd_stable | apply State.ite_fst_stable | split | (dsimp only; split)

theorem State.bootRecovery_stable {s : State} (h : P s) (bit : Nat) : P (State.bootRecovery s bit) := by
  unfold State.bootRecovery
  repeat' with_reducible first | assumption | intro _ | apply State.writeIrst_stable hP | apply State.setCause_stable hP | apply State.put_stable hP | apply State.toMode_stable hP | apply State.ite_stable | apply State.ite_snd_stable | apply State.ite_fst_stable | split | (dsimp only; split)

theorem State.warmReset_stable {s : State} (h : P s) (causes : Nat) : P (s.warmReset causes) := by
  unfold State.warmReset
  dsimp only
  split
  · exact State.withClk_stable hP (State.withMode_stable hP (State.wr_stable hP h _ _) _) _
  · apply State.applyStraps_stable hP
    apply State.wr_stable hP
    apply State.wr_stable hP
    apply State.putB_stable hP
    apply State.put_stable hP
    apply State.put_stable hP
    apply State.each_stable
    · apply State.keepWears_stable hP
      apply State.freeMem_stable hP
      refine hP.other (State.filterMem_stable hP (State.filterRegs_stable hP h _) _) rfl rfl rfl rfl
    · intro _ _ ht; exact State.wr_stable hP ht _ _


theorem State.powerOn_stable {s : State} (h : P s) (bor : Bool) : P (s.powerOn bor) := by
  unfold State.powerOn
  apply State.wr_stable hP
  refine hP.other (hP.clear s h) rfl rfl rfl rfl


end Sys2Proof.Machine
end

