-- ==== Sys2Proof/Laws/StableTasks.lean ====
section
/-!
SUPPORT. The operations of Machine/Tasks.lean keep every stable property (Laws/Stable.lean).
-/

namespace Sys2Proof.Machine

variable {P : State → Prop} (hP : Stable P)
include hP

theorem State.taskStart_stable {s : State} (h : P s) (e k : Nat) : P (State.taskStart s e k) := by
  unfold State.taskStart
  repeat' with_reducible first | assumption | intro _ | apply State.inc_stable hP | apply State.assertEv_stable hP | apply State.put_stable hP | apply State.ite_stable | apply State.ite_snd_stable | apply State.ite_fst_stable | split | (dsimp only; split)

theorem State.taskEvent_stable {s : State} (h : P s) (e k : Nat) : P (State.taskEvent s e k) := by
  unfold State.taskEvent
  repeat' with_reducible first | assumption | intro _ | apply State.modSlot_stable hP | apply State.taskStart_stable hP | apply State.ite_stable | apply State.ite_snd_stable | apply State.ite_fst_stable | split | (dsimp only; split)

theorem execTaskTrigger_stable {s tt : State} {e : Fin 16} {k : Fin 8} (e : execTaskTrigger e k s = .next tt) (h : P s) :
    P tt := by
  unfold execTaskTrigger at e
  injection e with e
  rw [← e]
  repeat' with_reducible first | assumption | intro _ | apply State.takeStart_stable hP | apply State.taskEvent_stable hP | apply State.ite_stable | apply State.ite_snd_stable | apply State.ite_fst_stable | split | (dsimp only; split)

theorem State.dropPending_stable {s : State} (h : P s) (e : Nat) : P (State.dropPending s e) := by
  unfold State.dropPending
  repeat' with_reducible first | assumption | intro _ | apply State.put_stable hP | apply State.inc_stable hP | apply State.each_stable | apply State.ite_stable | apply State.ite_snd_stable | apply State.ite_fst_stable | apply State.filterRegs_stable hP | apply State.filterMem_stable hP | split | (dsimp only; split)

theorem State.showSlot_stable {s : State} (h : P s) (e : Nat) (k : Option Nat) : P (State.showSlot s e k) := by
  unfold State.showSlot
  repeat' with_reducible first | assumption | intro _ | apply State.put_stable hP | apply State.ite_stable | apply State.ite_snd_stable | apply State.ite_fst_stable | split | (dsimp only; split)

theorem State.activate_stable {s : State} (h : P s) (e k : Nat) : P (State.activate s e k) := by
  unfold State.activate
  repeat' with_reducible first | assumption | intro _ | apply State.put_stable hP | apply State.modEngine_stable hP | apply State.modSlot_stable hP | apply State.incMod_stable hP | apply State.ite_stable | apply State.ite_snd_stable | apply State.ite_fst_stable | split | (dsimp only; split)

theorem State.endActivation_stable {s : State} (h : P s) (e k : Nat) : P (State.endActivation s e k) := by
  unfold State.endActivation
  repeat' with_reducible first | assumption | intro _ | apply State.modSlot_stable hP | apply State.modEngine_stable hP | apply State.unstall_stable hP | apply State.showSlot_stable hP | apply State.ite_stable | apply State.ite_snd_stable | apply State.ite_fst_stable | split | (dsimp only; split)

theorem State.endAll_stable {s : State} (h : P s) (e : Nat) : P (State.endAll s e) := by
  unfold State.endAll
  repeat' with_reducible first | assumption | intro _ | apply State.put_stable hP | apply State.endActivation_stable hP | apply State.modEngine_stable hP | apply State.unstall_stable hP | apply State.showSlot_stable hP | apply State.each_stable | apply State.ite_stable | apply State.ite_snd_stable | apply State.ite_fst_stable | split | (dsimp only; split)

theorem State.fetchDouble_stable {s : State} (h : P s) (e : Nat) : P (State.fetchDouble s e) := by
  unfold State.fetchDouble
  repeat' with_reducible first | assumption | intro _ | apply State.put_stable hP | apply State.endAll_stable hP | apply State.assertEv_stable hP | apply State.ite_stable | apply State.ite_snd_stable | apply State.ite_fst_stable | split | (dsimp only; split)

theorem execTaskBudgetAbort_stable {s tt : State} {e : Fin 16} {k : Fin 8} (e : execTaskBudgetAbort e k s = .next tt) (h : P s) :
    P tt := by
  unfold execTaskBudgetAbort at e
  injection e with e
  rw [← e]
  repeat' with_reducible first | assumption | intro _ | apply State.put_stable hP | apply State.endActivation_stable hP | apply State.inc_stable hP | apply State.assertEv_stable hP | apply State.ite_stable | apply State.ite_snd_stable | apply State.ite_fst_stable | split | (dsimp only; split)

theorem execCeDoorbell_stable {s tt : State} {e : Fin 16} {ring : BitVec 8} (e : execCeDoorbell e ring s = .next tt) (h : P s) :
    P tt := by
  unfold execCeDoorbell at e
  injection e with e
  rw [← e]
  repeat' with_reducible first | assumption | intro _ | apply State.taskEvent_stable hP | apply State.each_stable | apply State.ite_stable | apply State.ite_snd_stable | apply State.ite_fst_stable | apply State.filterRegs_stable hP | apply State.filterMem_stable hP | split | (dsimp only; split)

theorem execCeClrcnt_stable {s tt : State} {e : Fin 16} (e : execCeClrcnt e s = .next tt) (h : P s) :
    P tt := by
  unfold execCeClrcnt at e
  injection e with e
  rw [← e]
  repeat' with_reducible first | assumption | intro _ | apply State.wr_stable hP | apply State.each_stable | apply State.ite_stable | apply State.ite_snd_stable | apply State.ite_fst_stable | split | (dsimp only; split)

theorem State.pushSlot_stable {s : State} (h : P s) (e i : Nat) (v : Word) : P (State.pushSlot s e i v) := by
  unfold State.pushSlot
  repeat' with_reducible first | assumption | intro _ | apply State.put_stable hP | apply State.withInputs_stable hP | apply State.ite_stable | apply State.ite_snd_stable | apply State.ite_fst_stable | split | (dsimp only; split)

theorem State.latch_stable {s : State} (h : P s) (p : Nat) (v : Word) : P (State.latch s p v) := by
  unfold State.latch
  repeat' with_reducible first | assumption | intro _ | apply State.withLatches_stable hP | apply State.ite_stable | apply State.ite_snd_stable | apply State.ite_fst_stable | split | (dsimp only; split)

theorem State.pushLatch_stable {s : State} (h : P s) (ty idx port : Nat) (v : Word) : P (State.pushLatch s ty idx port v) := by
  unfold State.pushLatch
  repeat' with_reducible first | assumption | intro _ | apply State.latch_stable hP | apply State.each_stable | apply State.ite_stable | apply State.ite_snd_stable | apply State.ite_fst_stable | split | (dsimp only; split)

theorem State.pushResult_stable {s : State} (h : P s) (ty idx : Nat) (v : Word) : P (State.pushResult s ty idx v) := by
  unfold State.pushResult
  repeat' with_reducible first | assumption | intro _ | apply State.pushLatch_stable hP | apply State.pushSlot_stable hP | apply State.each_stable | apply State.ite_stable | apply State.ite_snd_stable | apply State.ite_fst_stable | split | (dsimp only; split)

theorem execInputSlotPush_stable {s tt : State} {ty : Fin 16} {idx : Fin 64} {v : Word} (e : execInputSlotPush ty idx v s = .next tt) (h : P s) :
    P tt := by
  unfold execInputSlotPush at e
  injection e with e
  rw [← e]
  repeat' with_reducible first | assumption | intro _ | apply State.pushResult_stable hP | apply State.ite_stable | apply State.ite_snd_stable | apply State.ite_fst_stable | split | (dsimp only; split)

theorem execWaitvResume_stable {s tt : State} {e : Fin 16} {k : Fin 8} (e : execWaitvResume e k s = .next tt) (h : P s) :
    P tt := by
  unfold execWaitvResume at e
  injection e with e
  rw [← e]
  repeat' with_reducible first | assumption | intro _ | apply State.modEngine_stable hP | apply State.modSlot_stable hP | apply State.ite_stable | apply State.ite_snd_stable | apply State.ite_fst_stable | split | (dsimp only; split)

end Sys2Proof.Machine
end

