-- ==== Sys2Proof/Laws/StableSense.lean ====
section
/-!
SUPPORT. The operations of Machine/Sense.lean keep every stable property (Laws/Stable.lean).
-/

namespace Sys2Proof.Machine

variable {P : State → Prop} (hP : Stable P)
include hP

theorem State.noteFault_stable {s : State} (h : P s) (n : Nat) (was : Bool) : P (State.noteFault s n was) := by
  unfold State.noteFault
  repeat' with_reducible first | assumption | intro _ | apply State.modSdChan_stable hP | apply State.put_stable hP | apply State.assertEv_stable hP | apply State.ite_stable | apply State.ite_snd_stable | apply State.ite_fst_stable | split | (dsimp only; split)

theorem execModulatorFault_stable {s tt : State} {r : StuckRun} (e : execModulatorFault r s = .next tt) (h : P s) :
    P tt := by
  unfold execModulatorFault at e
  try dsimp only at e
  repeat' split at e
  all_goals first | (injection e with e; rw [← e]) | cases e
  repeat' with_reducible first | assumption | intro _ | apply State.modSdChan_stable hP | apply State.noteFault_stable hP | apply State.ite_stable | apply State.ite_snd_stable | apply State.ite_fst_stable | split | (dsimp only; split)

theorem State.sdEnabled_stable {s : State} (h : P s) (n : Nat) : P (State.sdEnabled s n) := by
  unfold State.sdEnabled
  repeat' with_reducible first | assumption | intro _ | apply State.modSdChan_stable hP | apply State.put_stable hP | apply State.noteFault_stable hP | apply State.ite_stable | apply State.ite_snd_stable | apply State.ite_fst_stable | split | (dsimp only; split)

theorem State.calTake_stable {s : State} (h : P s) (n : Nat) (ok : Bool) (v : Int) : P (State.calTake s n ok v) := by
  unfold State.calTake
  repeat' with_reducible first | assumption | intro _ | apply State.modSdChan_stable hP | apply State.ite_stable | apply State.ite_snd_stable | apply State.ite_fst_stable | split | (dsimp only; split)

theorem execOffsetCalStep_stable {s tt : State} {n : Fin 48} {up : Bool} (e : execOffsetCalStep n up s = .next tt) (h : P s) :
    P tt := by
  unfold execOffsetCalStep at e
  injection e with e
  rw [← e]
  repeat' with_reducible first | assumption | intro _ | apply State.put_stable hP | apply State.modSdChan_stable hP | apply State.ite_stable | apply State.ite_snd_stable | apply State.ite_fst_stable | split | (dsimp only; split)

theorem execSinc3Result_stable {s tt : State} {n : Fin 48} {z since : Nat} (e : execSinc3Result n z since s = .next tt) (h : P s) :
    P tt := by
  unfold execSinc3Result at e
  injection e with e
  rw [← e]
  repeat' with_reducible first | assumption | intro _ | apply State.put_stable hP | apply State.modSdChan_stable hP | apply State.calTake_stable hP | apply State.wr_stable hP | apply State.pushResult_stable hP | apply State.ite_stable | apply State.ite_snd_stable | apply State.ite_fst_stable | apply State.filterRegs_stable hP | apply State.filterMem_stable hP | split | (dsimp only; split)

theorem State.windowEvent_stable {s : State} (h : P s) (n : Nat) (atCz : Bool) : P (State.windowEvent s n atCz) := by
  unfold State.windowEvent
  repeat' with_reducible first | assumption | intro _ | apply State.put_stable hP | apply State.modSdChan_stable hP | apply State.ite_stable | apply State.ite_snd_stable | apply State.ite_fst_stable | split | (dsimp only; split)

theorem State.windowsStopped_stable {s : State} (h : P s) (c : Nat) : P (State.windowsStopped s c) := by
  unfold State.windowsStopped
  repeat' with_reducible first | assumption | intro _ | apply State.modSdChan_stable hP | apply State.each_stable | apply State.ite_stable | apply State.ite_snd_stable | apply State.ite_fst_stable | apply State.filterRegs_stable hP | apply State.filterMem_stable hP | split | (dsimp only; split)

theorem execPaWindowClose_stable {s tt : State} {n : Fin 48} {sum k since : Nat} {uu0 : Unit} (e : execPaWindowClose n sum k since uu0 s = .next tt) (h : P s) :
    P tt := by
  unfold execPaWindowClose at e
  injection e with e
  rw [← e]
  repeat' with_reducible first | assumption | intro _ | apply State.modSdChan_stable hP | apply State.calTake_stable hP | apply State.ite_stable | apply State.ite_snd_stable | apply State.ite_fst_stable | apply State.filterRegs_stable hP | apply State.filterMem_stable hP | split | (dsimp only; split)

theorem State.restCurrent_stable {s : State} (h : P s) (n w : Nat) : P (State.restCurrent s n w) := by
  unfold State.restCurrent
  repeat' with_reducible first | assumption | intro _ | apply State.withMode_stable hP | apply State.ite_stable | apply State.ite_snd_stable | apply State.ite_fst_stable | split | (dsimp only; split)

theorem execPaResultValid_stable {s tt : State} {n : Fin 48} (e : execPaResultValid n s = .next tt) (h : P s) :
    P tt := by
  unfold execPaResultValid at e
  injection e with e
  rw [← e]
  repeat' with_reducible first | assumption | intro _ | apply State.modSdChan_stable hP | apply State.restCurrent_stable hP | apply State.wr_stable hP | apply State.pushResult_stable hP | apply State.ite_stable | apply State.ite_snd_stable | apply State.ite_fst_stable | split | (dsimp only; split)

theorem execFastComparatorDecision_stable {s tt : State} {n : Fin 48} {zs : List Nat} (e : execFastComparatorDecision n zs s = .next tt) (h : P s) :
    P tt := by
  unfold execFastComparatorDecision at e
  injection e with e
  rw [← e]
  repeat' with_reducible first | assumption | intro _ | apply State.putB_stable hP | apply State.put_stable hP | apply State.tripGroup_stable hP | apply State.assertOwn_stable hP | apply State.assertEv_stable hP | apply State.ite_stable | apply State.ite_snd_stable | apply State.ite_fst_stable | split | (dsimp only; split)

theorem execFastComparatorRelease_stable {s tt : State} {r : CmpSums} (e : execFastComparatorRelease r s = .next tt) (h : P s) :
    P tt := by
  unfold execFastComparatorRelease at e
  try dsimp only at e
  repeat' split at e
  all_goals first | (injection e with e; rw [← e]) | cases e
  repeat' with_reducible first | assumption | intro _ | apply State.put_stable hP | apply State.ite_stable | apply State.ite_snd_stable | apply State.ite_fst_stable | split | (dsimp only; split)

theorem State.adcStart_stable {s : State} (h : P s) (q : Nat) (pol : Bool) : P (State.adcStart s q pol) := by
  unfold State.adcStart
  repeat' with_reducible first | assumption | intro _ | apply State.inc_stable hP | apply State.assertEv_stable hP | apply State.put_stable hP | apply State.modAdcSeq_stable hP | apply State.ite_stable | apply State.ite_snd_stable | apply State.ite_fst_stable | split | (dsimp only; split)

theorem execAdcSequenceStart_stable {s tt : State} {q : Fin 8} (e : execAdcSequenceStart q s = .next tt) (h : P s) :
    P tt := by
  unfold execAdcSequenceStart at e
  injection e with e
  rw [← e]
  repeat' with_reducible first | assumption | intro _ | apply State.takeStart_stable hP | apply State.adcStart_stable hP | apply State.ite_stable | apply State.ite_snd_stable | apply State.ite_fst_stable | split | (dsimp only; split)

theorem execAdcStepSample_stable {s tt : State} {q : Fin 8} {codes : List (Fin 16384)} {uu0 : Unit} (e : execAdcStepSample q codes uu0 s = .next tt) (h : P s) :
    P tt := by
  unfold execAdcStepSample at e
  injection e with e
  rw [← e]
  repeat' with_reducible first | assumption | intro _ | apply State.put_stable hP | apply State.modAdcSeq_stable hP | apply State.inc_stable hP | apply State.ite_stable | apply State.ite_snd_stable | apply State.ite_fst_stable | split | (dsimp only; split)

theorem execAdcResult_stable {s tt : State} {q : Fin 8} (e : execAdcResult q s = .next tt) (h : P s) :
    P tt := by
  unfold execAdcResult at e
  injection e with e
  rw [← e]
  repeat' with_reducible first | assumption | intro _ | apply State.modAdcSeq_stable hP | apply State.wr_stable hP | apply State.pushResult_stable hP | apply State.put_stable hP | apply State.each_stable | apply State.ite_stable | apply State.ite_snd_stable | apply State.ite_fst_stable | split | (dsimp only; split)

theorem execAdcTrim_stable {s tt : State} {c : Fin 4} {gain : Nat} {ofs : Int} (e : execAdcTrim c gain ofs s = .next tt) (h : P s) :
    P tt := by
  unfold execAdcTrim at e
  injection e with e
  rw [← e]
  repeat' with_reducible first | assumption | intro _ | apply State.withSense_stable hP | apply State.put_stable hP | apply State.assertEv_stable hP | apply State.ite_stable | apply State.ite_snd_stable | apply State.ite_fst_stable | split | (dsimp only; split)

theorem execResolverPeak_stable {s tt : State} {r : Fin 4} {second : Bool} (e : execResolverPeak r second s = .next tt) (h : P s) :
    P tt := by
  unfold execResolverPeak at e
  injection e with e
  rw [← e]
  repeat' with_reducible first | assumption | intro _ | apply State.adcStart_stable hP | apply State.ite_stable | apply State.ite_snd_stable | apply State.ite_fst_stable | split | (dsimp only; split)

theorem State.resangWrite_stable {s : State} (h : P s) (r v : Nat) : P (State.resangWrite s r v) := by
  unfold State.resangWrite
  repeat' with_reducible first | assumption | intro _ | apply State.put_stable hP | apply State.pushResult_stable hP | apply State.ite_stable | apply State.ite_snd_stable | apply State.ite_fst_stable | split | (dsimp only; split)

theorem execResangWrite_stable {s tt : State} {r : Fin 4} {v : Word} (e : execResangWrite r v s = .next tt) (h : P s) :
    P tt := by
  unfold execResangWrite at e
  injection e with e
  rw [← e]
  repeat' with_reducible first | assumption | intro _ | apply State.resangWrite_stable hP | apply State.ite_stable | apply State.ite_snd_stable | apply State.ite_fst_stable | split | (dsimp only; split)

theorem State.encCount_stable {s : State} (h : P s) (n : Nat) (up : Bool) : P (State.encCount s n up) := by
  unfold State.encCount
  repeat' with_reducible first | assumption | intro _ | apply State.wr_stable hP | apply State.ite_stable | apply State.ite_snd_stable | apply State.ite_fst_stable | split | (dsimp only; split)

theorem State.encError_stable {s : State} (h : P s) (n : Nat) (kind : Fld) : P (State.encError s n kind) := by
  unfold State.encError
  repeat' with_reducible first | assumption | intro _ | apply State.put_stable hP | apply State.inc_stable hP | apply State.assertEv_stable hP | apply State.ite_stable | apply State.ite_snd_stable | apply State.ite_fst_stable | split | (dsimp only; split)

theorem State.captureDue_stable {s : State} (h : P s) (t : Nat) (p : Nat → Bool) : P (State.captureDue s t p) := by
  unfold State.captureDue
  repeat' with_reducible first | assumption | intro _ | apply State.withSense_stable hP | apply State.ite_stable | apply State.ite_snd_stable | apply State.ite_fst_stable | apply State.filterRegs_stable hP | apply State.filterMem_stable hP | split | (dsimp only; split)

theorem State.encZ_stable {s : State} (h : P s) (n : Nat) (z err : Bool) : P (State.encZ s n z err) := by
  unfold State.encZ
  repeat' with_reducible first | assumption | intro _ | apply State.putB_stable hP | apply State.wr_stable hP | apply State.put_stable hP | apply State.withSense_stable hP | apply State.captureDue_stable hP | apply State.ite_stable | apply State.ite_snd_stable | apply State.ite_fst_stable | split | (dsimp only; split)

theorem execEncTransition_stable {s tt : State} {n : Fin 12} {a b : Bool} {z : EncZ} (e : execEncTransition n a b z s = .next tt) (h : P s) :
    P tt := by
  unfold execEncTransition at e
  injection e with e
  rw [← e]
  repeat' with_reducible first | assumption | intro _ | apply State.putB_stable hP | apply State.encError_stable hP | apply State.encZ_stable hP | apply State.encCount_stable hP | apply State.ite_stable | apply State.ite_snd_stable | apply State.ite_fst_stable | split | (dsimp only; split)

theorem execEncIndex_stable {s tt : State} {n : Fin 12} {err : Bool} (e : execEncIndex n err s = .next tt) (h : P s) :
    P tt := by
  unfold execEncIndex at e
  injection e with e
  rw [← e]
  repeat' with_reducible first | assumption | intro _ | apply State.encZ_stable hP | apply State.ite_stable | apply State.ite_snd_stable | apply State.ite_fst_stable | split | (dsimp only; split)

theorem State.encEnabled_stable {s : State} (h : P s) (n : Nat) : P (State.encEnabled s n) := by
  unfold State.encEnabled
  repeat' with_reducible first | assumption | intro _ | apply State.put_stable hP | apply State.ite_stable | apply State.ite_snd_stable | apply State.ite_fst_stable | split | (dsimp only; split)

theorem State.enablePosition_stable {s : State} (h : P s) (n : Nat) : P (State.enablePosition s n) := by
  unfold State.enablePosition
  repeat' with_reducible first | assumption | intro _ | apply State.put_stable hP | apply State.encEnabled_stable hP | apply State.ite_stable | apply State.ite_snd_stable | apply State.ite_fst_stable | split | (dsimp only; split)

theorem State.senseCarrierEvent_stable {s : State} (h : P s) (c ev : Nat) : P (State.senseCarrierEvent s c ev) := by
  unfold State.senseCarrierEvent
  repeat' with_reducible first | assumption | intro _ | apply State.windowEvent_stable hP | apply State.pushResult_stable hP | apply State.withSense_stable hP | apply State.each_stable | apply State.ite_stable | apply State.ite_snd_stable | apply State.ite_fst_stable | apply State.filterRegs_stable hP | apply State.filterMem_stable hP | split | (dsimp only; split)

theorem execSsiReadStart_stable {s tt : State} {m : Fin 4} {high : Bool} (e : execSsiReadStart m high s = .next tt) (h : P s) :
    P tt := by
  unfold execSsiReadStart at e
  try dsimp only at e
  repeat' split at e
  all_goals first | (injection e with e; rw [← e]) | cases e
  repeat' with_reducible first | assumption | intro _ | apply State.takeStart_stable hP | apply State.withSense_stable hP | apply State.ite_stable | apply State.ite_snd_stable | apply State.ite_fst_stable | split | (dsimp only; split)

theorem execSsiReadDone_stable {s tt : State} {m : Fin 4} {bits : List Bool} {mono : Bool} (e : execSsiReadDone m bits mono s = .next tt) (h : P s) :
    P tt := by
  unfold execSsiReadDone at e
  injection e with e
  rw [← e]
  repeat' with_reducible first | assumption | intro _ | apply State.withSense_stable hP | apply State.put_stable hP | apply State.inc_stable hP | apply State.assertEv_stable hP | apply State.wr_stable hP | apply State.pushResult_stable hP | apply State.ite_stable | apply State.ite_snd_stable | apply State.ite_fst_stable | split | (dsimp only; split)

theorem State.capture_stable {s : State} (h : P s) (k age ns : Nat) : P (State.capture s k age ns) := by
  unfold State.capture
  repeat' with_reducible first | assumption | intro _ | apply State.inc_stable hP | apply State.withSense_stable hP | apply State.wr_stable hP | apply State.put_stable hP | apply State.pushResult_stable hP | apply State.assertEv_stable hP | apply State.ite_stable | apply State.ite_snd_stable | apply State.ite_fst_stable | split | (dsimp only; split)

theorem State.takeTrigger_stable {s : State} (h : P s) (k : Nat) : P (State.takeTrigger s k) := by
  unfold State.takeTrigger
  repeat' with_reducible first | assumption | intro _ | apply State.withSense_stable hP | apply State.takeStart_stable hP | apply State.ite_stable | apply State.ite_snd_stable | apply State.ite_fst_stable | split | (dsimp only; split)

theorem execCaptureTrigger_stable {s tt : State} {k : Fin 16} {adv age : Nat} (e : execCaptureTrigger k adv age s = .next tt) (h : P s) :
    P tt := by
  unfold execCaptureTrigger at e
  injection e with e
  rw [← e]
  repeat' with_reducible first | assumption | intro _ | apply State.runOn_stable hP | apply State.takeTrigger_stable hP | apply State.capture_stable hP | refine State.draw_stable hP (by assumption) ?_ | apply State.drawSnd_stable hP | apply State.each_stable | apply State.ite_stable | apply State.ite_snd_stable | apply State.ite_fst_stable | apply State.filterRegs_stable hP | apply State.filterMem_stable hP | split | (dsimp only; split)

theorem execCaptureArm_stable {s tt : State} {k : Fin 16} (e : execCaptureArm k s = .next tt) (h : P s) :
    P tt := by
  unfold execCaptureArm at e
  injection e with e
  rw [← e]
  repeat' with_reducible first | assumption | intro _ | apply State.put_stable hP | apply State.ite_stable | apply State.ite_snd_stable | apply State.ite_fst_stable | split | (dsimp only; split)

end Sys2Proof.Machine
end

