-- ==== Sys2Proof/Laws/StableSwitch.lean ====
section
/-!
SUPPORT. The operations of Machine/Switch.lean keep every stable property (Laws/Stable.lean).
-/

namespace Sys2Proof.Machine

variable {P : State → Prop} (hP : Stable P)
include hP

theorem State.txPush_stable {s : State} (h : P s) (f : TxFrame) : P (State.txPush s f) := by
  unfold State.txPush
  repeat' with_reducible first | assumption | intro _ | apply State.withNet_stable hP | apply State.ite_stable | apply State.ite_snd_stable | apply State.ite_fst_stable | split | (dsimp only; split)

theorem State.learn_stable {s : State} (h : P s) (mac p : Nat) : P (State.learn s mac p) := by
  unfold State.learn
  repeat' with_reducible first | assumption | intro _ | apply State.withNet_stable hP | refine State.draw_stable hP (by assumption) ?_ | apply State.drawSnd_stable hP | apply State.ite_stable | apply State.ite_snd_stable | apply State.ite_fst_stable | apply State.filterRegs_stable hP | apply State.filterMem_stable hP | split | (dsimp only; split)

theorem State.queueDrop_stable {s : State} (h : P s) (p : Nat) : P (State.queueDrop s p) := by
  unfold State.queueDrop
  repeat' with_reducible first | assumption | intro _ | apply State.inc_stable hP | apply State.assertEv_stable hP | apply State.ite_stable | apply State.ite_snd_stable | apply State.ite_fst_stable | split | (dsimp only; split)

theorem State.forward_stable {s : State} (h : P s) (p : Nat) (f : List Byte) (full : Nat) (inAt : Int) (bufs : List Nat) : P (State.forward s p f full inAt bufs) := by
  unfold State.forward
  repeat' with_reducible first | assumption | intro _ | apply State.inc_stable hP | apply State.learn_stable hP | apply State.queueDrop_stable hP | apply State.txPush_stable hP | apply State.each_stable | apply State.ite_stable | apply State.ite_snd_stable | apply State.ite_fst_stable | apply State.filterRegs_stable hP | apply State.filterMem_stable hP | split | (dsimp only; split)

end Sys2Proof.Machine
end

