-- ==== Sys2Proof/Laws/StableMailbox.lean ====
section
/-!
SUPPORT. The operations of Machine/Mailbox.lean keep every stable property (Laws/Stable.lean).
-/

namespace Sys2Proof.Machine

variable {P : State → Prop} (hP : Stable P)
include hP

theorem State.rsvLow_stable {s : State} (h : P s) (old : Nat) : P (State.rsvLow s old) := by
  unfold State.rsvLow
  repeat' with_reducible first | assumption | intro _ | apply State.irq_stable hP | apply State.assertEv_stable hP | apply State.ite_stable | apply State.ite_snd_stable | apply State.ite_fst_stable | split | (dsimp only; split)

theorem State.setOwner_stable {s : State} (h : P s) (b o : Nat) : P (State.setOwner s b o) := by
  unfold State.setOwner
  repeat' with_reducible first | assumption | intro _ | apply State.put_stable hP | apply State.rsvLow_stable hP | apply State.ite_stable | apply State.ite_snd_stable | apply State.ite_fst_stable | split | (dsimp only; split)

theorem State.alloc_stableEq {s tt : State} {x : Nat} {o : Nat} (e : State.alloc s o = some (x, tt)) (h : P s) : P tt := by
  revert e; unfold State.alloc
  intro e
  try dsimp only at e
  repeat' split at e
  all_goals (try cases e)
  repeat' with_reducible first | assumption | intro _ | apply State.setOwner_stable hP | apply State.ite_stable | apply State.ite_snd_stable | apply State.ite_fst_stable | split | (dsimp only; split)

theorem State.allocN_stableEq {n : Nat} : ∀ {s t : State} {x : List Nat} {o : Nat}, s.allocN o n = some (x, t) → P s → P t := by
  induction n with
  | zero => intro s t x o e h; cases e; exact h
  | succ n ih =>
    intro s t x o e h
    unfold State.allocN at e
    repeat' split at e
    all_goals (try cases e)
    exact ih (by assumption) (State.alloc_stableEq hP (by assumption) h)


theorem State.fillBufs_stable {s : State} (h : P s) (bs : List Nat) (f : List Byte) : P (State.fillBufs s bs f) := by
  unfold State.fillBufs
  repeat' with_reducible first | assumption | intro _ | apply State.wrBytes_stable hP | apply State.each_stable | apply State.ite_stable | apply State.ite_snd_stable | apply State.ite_fst_stable | split | (dsimp only; split)

theorem State.frameBufs_stableEq {s tt : State} {x : List Nat} {o : Nat} {f : List Byte} (e : State.frameBufs s o f = some (x, tt)) (h : P s) : P tt := by
  revert e; unfold State.frameBufs
  intro e
  try dsimp only at e
  repeat' split at e
  all_goals (try cases e)
  repeat' with_reducible first | assumption | intro _ | refine State.allocN_stableEq hP (by assumption) ?_ | apply State.fillBufs_stable hP | apply State.ite_stable | apply State.ite_snd_stable | apply State.ite_fst_stable | split | (dsimp only; split)

theorem State.freeSent_stable {s : State} (h : P s) (bs : List Nat) : P (State.freeSent s bs) := by
  unfold State.freeSent
  repeat' with_reducible first | assumption | intro _ | apply State.setOwner_stable hP | apply State.each_stable | apply State.ite_stable | apply State.ite_snd_stable | apply State.ite_fst_stable | apply State.filterRegs_stable hP | apply State.filterMem_stable hP | split | (dsimp only; split)

theorem State.sendFrame_stable {s : State} (h : P s) (f : List Byte) : P (State.sendFrame s f).2 := by
  unfold State.sendFrame
  repeat' with_reducible first | assumption | intro _ | refine State.frameBufs_stableEq hP (by assumption) ?_ | apply State.forward_stable hP | apply State.freeSent_stable hP | apply State.ite_stable | apply State.ite_snd_stable | apply State.ite_fst_stable | split | (dsimp only; split)

theorem State.sendFrame_stableEq {s tt : State} {x : Bool} {f : List Byte} (heq : State.sendFrame s f = (x, tt)) (h : P s) : P tt := by
  have := State.sendFrame_stable hP h f
  rw [heq] at this; exact this

theorem State.sendUdp_stable {s : State} (h : P s) (bytes : List Byte) (ip port : Nat) : P (State.sendUdp s bytes ip port).2 := by
  unfold State.sendUdp
  repeat' with_reducible first | assumption | intro _ | apply State.sendFrame_stable hP | refine State.sendFrame_stableEq hP (by assumption) ?_ | apply State.withNetOut_stable hP | apply State.ite_stable | apply State.ite_snd_stable | apply State.ite_fst_stable | split | (dsimp only; split)

theorem State.sendUdp_stableEq {s tt : State} {x : Bool} {bytes : List Byte} {ip port : Nat} (heq : State.sendUdp s bytes ip port = (x, tt)) (h : P s) : P tt := by
  have := State.sendUdp_stable hP h bytes ip port
  rw [heq] at this; exact this

theorem State.transfer_stableEq {s t : State} {b src dst : Nat} (e : s.transfer b src dst = some t) (h : P s) : P t := by
  unfold State.transfer at e
  dsimp only at e
  repeat' split at e
  all_goals (try cases e)
  all_goals exact State.setOwner_stable hP h _ _


theorem State.mapSlot_stable {s : State} (h : P s) (i b : Nat) : P (State.mapSlot s i b) := by
  unfold State.mapSlot
  repeat' with_reducible first | assumption | intro _ | apply State.put_stable hP | apply State.ite_stable | apply State.ite_snd_stable | apply State.ite_fst_stable | split | (dsimp only; split)

theorem State.unmapSlot_stable {s : State} (h : P s) (i : Nat) : P (State.unmapSlot s i) := by
  unfold State.unmapSlot
  repeat' with_reducible first | assumption | intro _ | apply State.wr_stable hP | apply State.ite_stable | apply State.ite_snd_stable | apply State.ite_fst_stable | split | (dsimp only; split)

theorem State.mapAll_stableEq {l : List Nat} : ∀ {s t : State} {x : List Nat}, s.mapAll l = some (x, t) → P s → P t := by
  induction l with
  | nil => intro s t x e h; cases e; exact h
  | cons b l ih =>
    intro s t x e h
    unfold State.mapAll at e
    repeat' split at e
    all_goals (try cases e)
    exact ih (by assumption) (State.mapSlot_stable hP h _ _)


theorem State.freeBuf_stable {s : State} (h : P s) (b : Nat) : P (State.freeBuf s b) := by
  unfold State.freeBuf
  repeat' with_reducible first | assumption | intro _ | apply State.unmapSlot_stable hP | apply State.setOwner_stable hP | apply State.ite_stable | apply State.ite_snd_stable | apply State.ite_fst_stable | split | (dsimp only; split)

theorem State.returnCredit_stable {s : State} (h : P s) (k : Nat) : P (State.returnCredit s k) := by
  unfold State.returnCredit
  repeat' with_reducible first | assumption | intro _ | apply State.put_stable hP | apply State.ite_stable | apply State.ite_snd_stable | apply State.ite_fst_stable | split | (dsimp only; split)

theorem State.checkCredit_stable {s : State} (h : P s)  : P (State.checkCredit s) := by
  unfold State.checkCredit
  repeat' with_reducible first | assumption | intro _ | apply State.put_stable hP | apply State.assertEv_stable hP | apply State.ite_stable | apply State.ite_snd_stable | apply State.ite_fst_stable | split | (dsimp only; split)

theorem State.checkReservoir_stable {s : State} (h : P s)  : P (State.checkReservoir s) := by
  unfold State.checkReservoir
  repeat' with_reducible first | assumption | intro _ | apply State.put_stable hP | apply State.assertEv_stable hP | apply State.ite_stable | apply State.ite_snd_stable | apply State.ite_fst_stable | split | (dsimp only; split)

theorem State.sendDatagram_stable {s : State} (h : P s) (n k : Nat) (l : List SentRsp) : P (State.sendDatagram s n k l).2 := by
  unfold State.sendDatagram
  repeat' with_reducible first | assumption | intro _ | apply State.modSession_stable hP | apply State.sendUdp_stable hP | refine State.sendUdp_stableEq hP (by assumption) ?_ | apply State.ite_stable | apply State.ite_snd_stable | apply State.ite_fst_stable | split | (dsimp only; split)

theorem State.sendDatagram_stableEq {s tt : State} {x : Bool} {n k : Nat} {l : List SentRsp} (heq : State.sendDatagram s n k l = (x, tt)) (h : P s) : P tt := by
  have := State.sendDatagram_stable hP h n k l
  rw [heq] at this; exact this

theorem State.stage_stable {s : State} (h : P s) (k : Nat) (r : SentRsp) : P (State.stage s k r) := by
  unfold State.stage
  repeat' with_reducible first | assumption | intro _ | apply State.unmapSlot_stable hP | apply State.setOwner_stable hP | apply State.modChan_stable hP | apply State.each_stable | apply State.ite_stable | apply State.ite_snd_stable | apply State.ite_fst_stable | split | (dsimp only; split)

theorem State.sendRsps_stable (k n : Nat) : ∀ {s : State}, P s → P (State.sendRsps k n s) := by
  induction n with
  | zero => intro s h; exact h
  | succ n ih =>
    intro s h
    unfold State.sendRsps
    repeat' with_reducible first | assumption | intro _ | apply ih | apply State.sendDatagram_stable hP | apply State.stage_stable hP | apply State.each_stable | apply State.ite_stable | split | (dsimp only; split)


theorem State.writeResponse_stable {s : State} (h : P s) (k op tag : Nat) (irq : Bool) (r : Reply) : P (State.writeResponse s k op tag irq r) := by
  unfold State.writeResponse
  repeat' with_reducible first | assumption | intro _ | apply State.wrBytes_stable hP | apply State.incMod_stable hP | apply State.irq_stable hP | apply State.put_stable hP | apply State.modChan_stable hP | apply State.ite_stable | apply State.ite_snd_stable | apply State.ite_fst_stable | split | (dsimp only; split)

theorem State.channelError_stable {s : State} (h : P s) (k status detail : Nat) : P (State.channelError s k status detail) := by
  unfold State.channelError
  repeat' with_reducible first | assumption | intro _ | apply State.put_stable hP | apply State.inc_stable hP | apply State.irq_stable hP | apply State.assertEv_stable hP | apply State.ite_stable | apply State.ite_snd_stable | apply State.ite_fst_stable | split | (dsimp only; split)

theorem State.answer_stable {s : State} (h : P s) (k : Nat) (e : InService) (r : Reply) : P (State.answer s k e r) := by
  unfold State.answer
  repeat' with_reducible first | assumption | intro _ | apply State.writeResponse_stable hP | apply State.irq_stable hP | apply State.returnCredit_stable hP | apply State.ite_stable | apply State.ite_snd_stable | apply State.ite_fst_stable | split | (dsimp only; split)

theorem State.serve_stable (k n : Nat) : ∀ {s : State}, P s → P (State.serve k n s) := by
  induction n with
  | zero => intro s h; exact h
  | succ n ih =>
    intro s h
    unfold State.serve
    repeat' with_reducible first | assumption | intro _ | apply ih | apply State.answer_stable hP | apply State.channelError_stable hP | apply State.modChan_stable hP | apply State.ite_stable | split | (dsimp only; split)


theorem State.takeAttached_stable {s : State} (h : P s) (k : Nat) (c : HostCmd) : P (State.takeAttached s k c) := by
  unfold State.takeAttached
  repeat' with_reducible first | assumption | intro _ | apply State.unmapSlot_stable hP | apply State.setOwner_stable hP | apply State.modChan_stable hP | apply State.each_stable | apply State.ite_stable | apply State.ite_snd_stable | apply State.ite_fst_stable | split | (dsimp only; split)

theorem State.giveBack_stable {s : State} (h : P s) (k b : Nat) : P (State.giveBack s k b) := by
  unfold State.giveBack
  repeat' with_reducible first | assumption | intro _ | apply State.mapSlot_stable hP | apply State.setOwner_stable hP | apply State.ite_stable | apply State.ite_snd_stable | apply State.ite_fst_stable | split | (dsimp only; split)

theorem State.finish_stable {s : State} (h : P s) (k : Nat) (e : InService) (r : Reply) : P (State.finish s k e r) := by
  unfold State.finish
  repeat' with_reducible first | assumption | intro _ | apply State.giveBack_stable hP | apply State.setOwner_stable hP | apply State.modChan_stable hP | apply State.channelError_stable hP | apply State.answer_stable hP | apply State.each_stable | apply State.ite_stable | apply State.ite_snd_stable | apply State.ite_fst_stable | apply State.filterRegs_stable hP | apply State.filterMem_stable hP | split | (dsimp only; split)

theorem State.serveAll_stable {s : State} (h : P s) (k : Nat) : P (State.serveAll s k) := by
  unfold State.serveAll
  repeat' with_reducible first | assumption | intro _ | apply State.sendRsps_stable hP | apply State.serve_stable hP | apply State.ite_stable | apply State.ite_snd_stable | apply State.ite_fst_stable | split | (dsimp only; split)

theorem State.finishHead_stable {s : State} (h : P s) (k : Nat) (r : Reply) : P (State.finishHead s k r) := by
  unfold State.finishHead
  repeat' with_reducible first | assumption | intro _ | apply State.modChan_stable hP | apply State.finish_stable hP | apply State.serveAll_stable hP | apply State.ite_stable | apply State.ite_snd_stable | apply State.ite_fst_stable | split | (dsimp only; split)

/-- The state a step 8 leaves. -/
def Step8.after : Step8 → State
  | .done _ s => s
  | .waits s => s

omit hP in
theorem Step8.done_stable {s : State} (h : P s) (r : Reply) : P (Step8.done r s).after := h

omit hP in
theorem Step8.waits_stable {s : State} (h : P s) : P (Step8.waits s).after := h

theorem State.runStep8_stable {s : State} (h : P s) (k : Nat) (e : InService) (body : State → Step8)
    (hb : ∀ t : State, P t → P (body t).after) : P (s.runStep8 k e body) := by
  unfold State.runStep8
  dsimp only
  generalize hx : (s.modChan k _).takeAttached k e.cmd = u
  have hu : P u := by rw [← hx]; exact State.takeAttached_stable hP (State.modChan_stable hP h _ _) _ _
  have := hb u hu
  split
  · rename_i e'; rw [e'] at this; exact State.finishHead_stable hP this _ _
  · rename_i e'; rw [e'] at this; exact this


theorem State.hostCmdW_stable {s : State} (h : P s) (op : Nat) (c : HostCmd) (body : State → Step8)
    (hb : ∀ t : State, P t → P (body t).after) : P (State.hostCmdW op c s body) := by
  unfold State.hostCmdW
  repeat' with_reducible first | assumption | apply State.serveAll_stable hP | apply State.runStep8_stable hP | apply State.writeResponse_stable hP | apply State.channelError_stable hP | apply State.modChan_stable hP | apply State.put_stable hP | split | (dsimp only; split)


theorem State.hostCmd_stable {s : State} (h : P s) (op : Nat) (c : HostCmd) (body : State → Reply × State)
    (hb : ∀ t : State, P t → P (body t).2) : P (State.hostCmd op c s body) :=
  State.hostCmdW_stable hP h _ _ _ hb


omit hP in
theorem refuse_stable {s : State} (h : P s) (st : Nat) : P (refuse st s).2 := by
  unfold refuse
  repeat' with_reducible first | assumption | intro _ | apply State.ite_stable | apply State.ite_snd_stable | apply State.ite_fst_stable | split | (dsimp only; split)

omit hP in
theorem refuse_stableEq {s tt : State} {x : Reply} {st : Nat} (heq : refuse st s = (x, tt)) (h : P s) : P tt := by
  have := refuse_stable h st
  rw [heq] at this; exact this

omit hP in
theorem refuseMode_stable {s : State} (h : P s)  : P (refuseMode s).2 := by
  unfold refuseMode
  repeat' with_reducible first | assumption | intro _ | apply State.ite_stable | apply State.ite_snd_stable | apply State.ite_fst_stable | split | (dsimp only; split)

omit hP in
theorem refuseMode_stableEq {s tt : State} {x : Reply}  (heq : refuseMode s = (x, tt)) (h : P s) : P tt := by
  have := refuseMode_stable h
  rw [heq] at this; exact this

omit hP in
theorem okReply_stable {s : State} (h : P s)  : P (okReply s).2 := by
  unfold okReply
  repeat' with_reducible first | assumption | intro _ | apply State.ite_stable | apply State.ite_snd_stable | apply State.ite_fst_stable | split | (dsimp only; split)

omit hP in
theorem okReply_stableEq {s tt : State} {x : Reply}  (heq : okReply s = (x, tt)) (h : P s) : P tt := by
  have := okReply_stable h
  rw [heq] at this; exact this

omit hP in
theorem okResult_stable {s : State} (h : P s) (bytes : List Byte) : P (okResult bytes s).2 := by
  unfold okResult
  repeat' with_reducible first | assumption | intro _ | apply State.ite_stable | apply State.ite_snd_stable | apply State.ite_fst_stable | split | (dsimp only; split)

omit hP in
theorem okResult_stableEq {s tt : State} {x : Reply} {bytes : List Byte} (heq : okResult bytes s = (x, tt)) (h : P s) : P tt := by
  have := okResult_stable h bytes
  rw [heq] at this; exact this

theorem State.stagingBufs_stable {s : State} (h : P s) (parts : List (List Byte)) : P (State.stagingBufs s parts).2 := by
  unfold State.stagingBufs
  repeat' with_reducible first | assumption | intro _ | apply State.wrBytes_stable hP | refine State.draw_stable hP (by assumption) ?_ | apply State.drawSnd_stable hP | apply State.each_stable | apply State.ite_stable | apply State.ite_snd_stable | apply State.ite_fst_stable | split | (dsimp only; split)

theorem State.stagingBufs_stableEq {s tt : State} {x : List Nat} {parts : List (List Byte)} (heq : State.stagingBufs s parts = (x, tt)) (h : P s) : P tt := by
  have := State.stagingBufs_stable hP h parts
  rw [heq] at this; exact this

theorem State.resultBufs_stableEq {s t : State} {x : List Nat} {k : Nat} {bytes : List Byte} (e : s.resultBufs k bytes = some (x, t)) (h : P s) : P t := by
  unfold State.resultBufs at e
  dsimp only at e
  repeat' split at e
  · exact State.stagingBufs_stableEq hP (Option.some.inj e) h
  all_goals (try cases e)
  · refine State.mapAll_stableEq hP (by assumption) ?_
    apply State.each_stable (State.allocN_stableEq hP (by assumption) h)
    intro _ _ _; exact State.setOwner_stable hP (State.wrBytes_stable hP (by assumption) _ _) _ _


theorem replyWith_stable {s : State} (h : P s) (k : Nat) (bytes : List Byte) : P (replyWith k bytes s).2 := by
  unfold replyWith
  split
  · exact h
  split
  · exact h
  · exact State.resultBufs_stableEq hP (by assumption) h

theorem replyWith_stableEq {s t : State} {x : Reply} {k : Nat} {bytes : List Byte} (e : replyWith k bytes s = (x, t)) (h : P s) : P t := by
  have := replyWith_stable hP h k bytes
  rw [e] at this; exact this


end Sys2Proof.Machine
end

