-- ==== Sys2Proof/Laws/StableGateLink.lean ====
section
/-!
SUPPORT. The operations of Machine/GateLink.lean keep every stable property (Laws/Stable.lean).
-/

namespace Sys2Proof.Machine

variable {P : State → Prop} (hP : Stable P)
include hP

theorem State.flushCarrier_stable {s : State} (h : P s) (c : Nat) : P (State.flushCarrier s c) := by
  unfold State.flushCarrier
  repeat' with_reducible first | assumption | intro _ | apply State.flushHeld_stable hP | apply State.each_stable | apply State.ite_stable | apply State.ite_snd_stable | apply State.ite_fst_stable | apply State.filterRegs_stable hP | apply State.filterMem_stable hP | split | (dsimp only; split)

theorem State.flushSync_stable {s : State} (h : P s) (k : Nat) : P (State.flushSync s k) := by
  unfold State.flushSync
  repeat' with_reducible first | assumption | intro _ | apply State.modLink_stable hP | apply State.send_stable hP | apply State.ite_stable | apply State.ite_snd_stable | apply State.ite_fst_stable | apply State.filterRegs_stable hP | apply State.filterMem_stable hP | split | (dsimp only; split)

theorem State.sendLow_stable {s : State} (h : P s) (k : Nat) (fs : List Frame) : P (State.sendLow s k fs) := by
  unfold State.sendLow
  repeat' with_reducible first | assumption | intro _ | apply State.modLink_stable hP | apply State.flushHeld_stable hP | refine State.draw_stable hP (by assumption) ?_ | apply State.drawSnd_stable hP | apply State.ite_stable | apply State.ite_snd_stable | apply State.ite_fst_stable | split | (dsimp only; split)

theorem State.sendConfig_stable {s : State} (h : P s) (k : Nat) : P (State.sendConfig s k) := by
  unfold State.sendConfig
  repeat' with_reducible first | assumption | intro _ | apply State.sendLow_stable hP | apply State.ite_stable | apply State.ite_snd_stable | apply State.ite_fst_stable | apply State.foldl_stable | split | (dsimp only; split)

theorem State.newConfig_stable {s : State} (h : P s) (k : Nat) : P (State.newConfig s k) := by
  unfold State.newConfig
  repeat' with_reducible first | assumption | intro _ | apply State.modLink_stable hP | apply State.sendConfig_stable hP | apply State.ite_stable | apply State.ite_snd_stable | apply State.ite_fst_stable | split | (dsimp only; split)

theorem State.setLinkState_stable {s : State} (h : P s) (k v : Nat) : P (State.setLinkState s k v) := by
  unfold State.setLinkState
  repeat' with_reducible first | assumption | intro _ | apply State.put_stable hP | apply State.ite_stable | apply State.ite_snd_stable | apply State.ite_fst_stable | split | (dsimp only; split)

theorem State.syncOpen_stable {s : State} (h : P s) (k : Nat) : P (State.syncOpen s k) := by
  unfold State.syncOpen
  repeat' with_reducible first | assumption | intro _ | apply State.put_stable hP | apply State.assertEv_stable hP | apply State.ite_stable | apply State.ite_snd_stable | apply State.ite_fst_stable | split | (dsimp only; split)

theorem State.dropFrame_stable {s : State} (h : P s) (k seq : Nat) : P (State.dropFrame s k seq) := by
  unfold State.dropFrame
  repeat' with_reducible first | assumption | intro _ | apply State.modLink_stable hP | apply State.wr_stable hP | apply State.syncOpen_stable hP | apply State.ite_stable | apply State.ite_snd_stable | apply State.ite_fst_stable | apply State.filterRegs_stable hP | apply State.filterMem_stable hP | split | (dsimp only; split)

theorem State.loseFrame_stable {s : State} (h : P s) (k seq : Nat) : P (State.loseFrame s k seq) := by
  unfold State.loseFrame
  repeat' with_reducible first | assumption | intro _ | apply State.dropFrame_stable hP | apply State.maskHit_stable hP | apply State.assertEv_stable hP | apply State.ite_stable | apply State.ite_snd_stable | apply State.ite_fst_stable | split | (dsimp only; split)

theorem State.dropOpens_stable {s : State} (h : P s) (k : Nat) : P (State.dropOpens s k) := by
  unfold State.dropOpens
  repeat' with_reducible first | assumption | intro _ | apply State.dropFrame_stable hP | apply State.each_stable | apply State.ite_stable | apply State.ite_snd_stable | apply State.ite_fst_stable | split | (dsimp only; split)

theorem State.sendEdge_stable {s : State} (h : P s) (k : Nat) (entries : List (Nat × Edge)) (tight : Bool) : P (State.sendEdge s k entries tight) := by
  unfold State.sendEdge
  repeat' with_reducible first | assumption | intro _ | apply State.modLink_stable hP | apply State.wr_stable hP | apply State.inc_stable hP | apply State.send_stable hP | apply State.syncOpen_stable hP | apply State.loseFrame_stable hP | apply State.each_stable | apply State.ite_stable | apply State.ite_snd_stable | apply State.ite_fst_stable | apply State.filterRegs_stable hP | apply State.filterMem_stable hP | split | (dsimp only; split)

theorem State.sendEdges_stable (k n : Nat) : ∀ {s : State} (_ : P s) (tight : List Bool) (l : List (Nat × Edge)),
    P (State.sendEdges k n tight l s) := by
  induction n with
  | zero => intro s h tight l; exact h
  | succ n ih =>
    intro s h tight l
    unfold State.sendEdges
    repeat' with_reducible first | assumption | intro _ | apply ih | apply State.sendEdge_stable hP | split | (dsimp only; split)


theorem State.syncMaskOf_stable {s : State} (h : P s) (k : Nat) : P (State.syncMaskOf s k) := by
  unfold State.syncMaskOf
  repeat' with_reducible first | assumption | intro _ | apply State.syncMask_stable hP | apply State.ite_stable | apply State.ite_snd_stable | apply State.ite_fst_stable | split | (dsimp only; split)

theorem State.enterTrain_stable {s : State} (h : P s) (k : Nat) : P (State.enterTrain s k) := by
  unfold State.enterTrain
  repeat' with_reducible first | assumption | intro _ | apply State.dropOpens_stable hP | apply State.setLinkState_stable hP | apply State.modLink_stable hP | apply State.put_stable hP | apply State.syncMaskOf_stable hP | apply State.each_stable | apply State.ite_stable | apply State.ite_snd_stable | apply State.ite_fst_stable | split | (dsimp only; split)

theorem State.enterUp_stable {s : State} (h : P s) (k : Nat) : P (State.enterUp s k) := by
  unfold State.enterUp
  repeat' with_reducible first | assumption | intro _ | apply State.setLinkState_stable hP | apply State.put_stable hP | apply State.modLink_stable hP | apply State.send_stable hP | apply State.refreshHeld_stable hP | apply State.each_stable | apply State.ite_stable | apply State.ite_snd_stable | apply State.ite_fst_stable | split | (dsimp only; split)

theorem State.goOff_stable {s : State} (h : P s) (k : Nat) : P (State.goOff s k) := by
  unfold State.goOff
  repeat' with_reducible first | assumption | intro _ | apply State.dropOpens_stable hP | apply State.setLinkState_stable hP | apply State.modLink_stable hP | apply State.put_stable hP | apply State.each_stable | apply State.ite_stable | apply State.ite_snd_stable | apply State.ite_fst_stable | split | (dsimp only; split)

theorem State.glEnable_stable {s : State} (h : P s) (k : Nat) (en : Bool) : P (State.glEnable s k en) := by
  unfold State.glEnable
  repeat' with_reducible first | assumption | intro _ | apply State.put_stable hP | apply State.modLink_stable hP | apply State.enterTrain_stable hP | apply State.goOff_stable hP | apply State.ite_stable | apply State.ite_snd_stable | apply State.ite_fst_stable | split | (dsimp only; split)

theorem execGlEnable_stable {s tt : State} {k : Fin 16} {en : Bool} (e : execGlEnable k en s = .next tt) (h : P s) :
    P tt := by
  unfold execGlEnable at e
  injection e with e
  rw [← e]
  repeat' with_reducible first | assumption | intro _ | apply State.glEnable_stable hP | apply State.ite_stable | apply State.ite_snd_stable | apply State.ite_fst_stable | split | (dsimp only; split)

theorem State.glReset_stable {s : State} (h : P s) (k : Nat) : P (State.glReset s k) := by
  unfold State.glReset
  repeat' with_reducible first | assumption | intro _ | apply State.put_stable hP | apply State.wr_stable hP | apply State.modLink_stable hP | apply State.enterTrain_stable hP | apply State.ite_stable | apply State.ite_snd_stable | apply State.ite_fst_stable | split | (dsimp only; split)

theorem execGlReset_stable {s tt : State} {k : Fin 16} (e : execGlReset k s = .next tt) (h : P s) :
    P tt := by
  unfold execGlReset at e
  injection e with e
  rw [← e]
  repeat' with_reducible first | assumption | intro _ | apply State.glReset_stable hP | apply State.ite_stable | apply State.ite_snd_stable | apply State.ite_fst_stable | split | (dsimp only; split)

theorem State.glCfgSend_stable {s : State} (h : P s) (k : Nat) : P (State.glCfgSend s k) := by
  unfold State.glCfgSend
  repeat' with_reducible first | assumption | intro _ | apply State.put_stable hP | apply State.newConfig_stable hP | apply State.ite_stable | apply State.ite_snd_stable | apply State.ite_fst_stable | split | (dsimp only; split)

theorem execGlCfgsend_stable {s tt : State} {k : Fin 16} (e : execGlCfgsend k s = .next tt) (h : P s) :
    P tt := by
  unfold execGlCfgsend at e
  injection e with e
  rw [← e]
  repeat' with_reducible first | assumption | intro _ | apply State.glCfgSend_stable hP | apply State.ite_stable | apply State.ite_snd_stable | apply State.ite_fst_stable | split | (dsimp only; split)

theorem execTrainAligned_stable {s tt : State} {k : Fin 16} (e : execTrainAligned k s = .next tt) (h : P s) :
    P tt := by
  unfold execTrainAligned at e
  injection e with e
  rw [← e]
  repeat' with_reducible first | assumption | intro _ | apply State.setLinkState_stable hP | apply State.modLink_stable hP | apply State.ite_stable | apply State.ite_snd_stable | apply State.ite_fst_stable | split | (dsimp only; split)

theorem execSymbolError_stable {s tt : State} {x : BadSymbol} (e : execSymbolError x s = .next tt) (h : P s) :
    P tt := by
  unfold execSymbolError at e
  injection e with e
  rw [← e]
  repeat' with_reducible first | assumption | intro _ | apply State.modLink_stable hP | apply State.ite_stable | apply State.ite_snd_stable | apply State.ite_fst_stable | split | (dsimp only; split)

theorem execBringupTimeout_stable {s tt : State} {k : Fin 16} (e : execBringupTimeout k s = .next tt) (h : P s) :
    P tt := by
  unfold execBringupTimeout at e
  try dsimp only at e
  repeat' split at e
  all_goals first | (injection e with e; rw [← e]) | cases e
  repeat' with_reducible first | assumption | intro _ | apply State.enterTrain_stable hP | apply State.modLink_stable hP | apply State.put_stable hP | apply State.ite_stable | apply State.ite_snd_stable | apply State.ite_fst_stable | split | (dsimp only; split)

theorem State.sendHeartbeat_stable {s : State} (h : P s) (k : Nat) (req : Bool) : P (State.sendHeartbeat s k req) := by
  unfold State.sendHeartbeat
  repeat' with_reducible first | assumption | intro _ | apply State.modLink_stable hP | apply State.sendLow_stable hP | apply State.ite_stable | apply State.ite_snd_stable | apply State.ite_fst_stable | split | (dsimp only; split)

theorem execBringupFrameDue_stable {s tt : State} {k : Fin 16} (e : execBringupFrameDue k s = .next tt) (h : P s) :
    P tt := by
  unfold execBringupFrameDue at e
  injection e with e
  rw [← e]
  repeat' with_reducible first | assumption | intro _ | apply State.sendHeartbeat_stable hP | apply State.sendConfig_stable hP | apply State.ite_stable | apply State.ite_snd_stable | apply State.ite_fst_stable | split | (dsimp only; split)

theorem execHeartbeatDue_stable {s tt : State} {k : Fin 16} {req : Bool} (e : execHeartbeatDue k req s = .next tt) (h : P s) :
    P tt := by
  unfold execHeartbeatDue at e
  injection e with e
  rw [← e]
  repeat' with_reducible first | assumption | intro _ | apply State.sendHeartbeat_stable hP | apply State.ite_stable | apply State.ite_snd_stable | apply State.ite_fst_stable | split | (dsimp only; split)

theorem State.linkLoss_stable {s : State} (h : P s) (k : Nat) : P (State.linkLoss s k) := by
  unfold State.linkLoss
  repeat' with_reducible first | assumption | intro _ | apply State.tripGroup_stable hP | apply State.assertOwn_stable hP | apply State.tripUnbound_stable hP | apply State.assertEv_stable hP | apply State.ite_stable | apply State.ite_snd_stable | apply State.ite_fst_stable | apply State.filterRegs_stable hP | apply State.filterMem_stable hP | split | (dsimp only; split)

theorem State.loseLink_stable {s : State} (h : P s) (k : Nat) (bad sil : Bool) : P (State.loseLink s k bad sil) := by
  unfold State.loseLink
  repeat' with_reducible first | assumption | intro _ | apply State.setLinkState_stable hP | apply State.putB_stable hP | apply State.sendTrip_stable hP | apply State.dropOpens_stable hP | apply State.modLink_stable hP | apply State.maskHit_stable hP | apply State.linkLoss_stable hP | apply State.holdLeg_stable hP | apply State.each_stable | apply State.ite_stable | apply State.ite_snd_stable | apply State.ite_fst_stable | split | (dsimp only; split)

theorem State.badFrame_stable {s : State} (h : P s) (k : Nat) (sil : Bool) : P (State.badFrame s k sil) := by
  unfold State.badFrame
  repeat' with_reducible first | assumption | intro _ | apply State.inc_stable hP | apply State.modLink_stable hP | apply State.loseLink_stable hP | apply State.ite_stable | apply State.ite_snd_stable | apply State.ite_fst_stable | split | (dsimp only; split)

theorem execBadFrameReceived_stable {s tt : State} {k : Fin 16} {f : BadFrame} (e : execBadFrameReceived k f s = .next tt) (h : P s) :
    P tt := by
  unfold execBadFrameReceived at e
  injection e with e
  rw [← e]
  repeat' with_reducible first | assumption | intro _ | apply State.badFrame_stable hP | apply State.ite_stable | apply State.ite_snd_stable | apply State.ite_fst_stable | split | (dsimp only; split)

theorem execLinkSilence_stable {s tt : State} {k : Fin 16} (e : execLinkSilence k s = .next tt) (h : P s) :
    P tt := by
  unfold execLinkSilence at e
  injection e with e
  rw [← e]
  repeat' with_reducible first | assumption | intro _ | apply State.loseLink_stable hP | apply State.ite_stable | apply State.ite_snd_stable | apply State.ite_fst_stable | split | (dsimp only; split)

theorem State.flagTrips_stable {s : State} (h : P s) (k cause flags : Nat) : P (State.flagTrips s k cause flags) := by
  unfold State.flagTrips
  repeat' with_reducible first | assumption | intro _ | apply State.tripLeg_stable hP | apply State.each_stable | apply State.ite_stable | apply State.ite_snd_stable | apply State.ite_fst_stable | split | (dsimp only; split)

theorem State.driverFlags_stable {s : State} (h : P s) (k des uv : Nat) : P (State.driverFlags s k des uv) := by
  unfold State.driverFlags
  repeat' with_reducible first | assumption | intro _ | apply State.modLink_stable hP | apply State.flagTrips_stable hP | apply State.ite_stable | apply State.ite_snd_stable | apply State.ite_fst_stable | split | (dsimp only; split)

theorem State.echoBit_stable {s : State} (h : P s) (k b : Nat) (wrong : Bool) : P (State.echoBit s k b wrong) := by
  unfold State.echoBit
  repeat' with_reducible first | assumption | intro _ | apply State.modLeg_stable hP | apply State.maskHit_stable hP | apply State.tripLeg_stable hP | apply State.ite_stable | apply State.ite_snd_stable | apply State.ite_fst_stable | split | (dsimp only; split)

theorem State.echoCheck_stable {s : State} (h : P s) (k : Nat) (bits : List (Nat × Bool)) : P (State.echoCheck s k bits) := by
  unfold State.echoCheck
  repeat' with_reducible first | assumption | intro _ | apply State.modLink_stable hP | apply State.inc_stable hP | apply State.echoBit_stable hP | apply State.each_stable | apply State.ite_stable | apply State.ite_snd_stable | apply State.ite_fst_stable | apply State.filterRegs_stable hP | apply State.filterMem_stable hP | split | (dsimp only; split)

theorem State.judgeFrame_stable {s : State} (h : P s) (k rxseq rxmap : Nat) (late : Bool) (f : OpenFrame) : P (State.judgeFrame s k rxseq rxmap late f) := by
  unfold State.judgeFrame
  repeat' with_reducible first | assumption | intro _ | apply State.modLink_stable hP | apply State.wr_stable hP | apply State.syncOpen_stable hP | apply State.inc_stable hP | apply State.send_stable hP | apply State.loseFrame_stable hP | apply State.ite_stable | apply State.ite_snd_stable | apply State.ite_fst_stable | apply State.filterRegs_stable hP | apply State.filterMem_stable hP | split | (dsimp only; split)

theorem State.echo_stable {s : State} (h : P s) (k : Nat) (p : List Byte) (gates : List GateAt) (cover late : List Nat) : P (State.echo s k p gates cover late) := by
  unfold State.echo
  repeat' with_reducible first | assumption | intro _ | apply State.wr_stable hP | apply State.driverFlags_stable hP | apply State.judgeFrame_stable hP | apply State.echoCheck_stable hP | apply State.each_stable | apply State.ite_stable | apply State.ite_snd_stable | apply State.ite_fst_stable | apply State.filterRegs_stable hP | apply State.filterMem_stable hP | split | (dsimp only; split)

theorem execEchoReceived_stable {s tt : State} {k : Fin 16} {syms : List LinkSym} {gates : List GateAt} {cover late : List (BitVec 8)} (e : execEchoReceived k syms gates cover late s = .next tt) (h : P s) :
    P tt := by
  unfold execEchoReceived at e
  injection e with e
  rw [← e]
  repeat' with_reducible first | assumption | intro _ | apply State.modLink_stable hP | apply State.echo_stable hP | apply State.badFrame_stable hP | apply State.ite_stable | apply State.ite_snd_stable | apply State.ite_fst_stable | split | (dsimp only; split)

theorem State.driverIlto_stable {s : State} (h : P s) (k b : Nat) : P (State.driverIlto s k b) := by
  unfold State.driverIlto
  repeat' with_reducible first | assumption | intro _ | apply State.shortFails_stable hP | apply State.iltoCount_stable hP | apply State.switchOff_stable hP | apply State.tripLeg_stable hP | apply State.ite_stable | apply State.ite_snd_stable | apply State.ite_fst_stable | split | (dsimp only; split)

theorem State.newRtt_stable {s : State} (h : P s) (k : Nat) (rtt : Int) : P (State.newRtt s k rtt) := by
  unfold State.newRtt
  repeat' with_reducible first | assumption | intro _ | apply State.modLink_stable hP | apply State.put_stable hP | apply State.ite_stable | apply State.ite_snd_stable | apply State.ite_fst_stable | apply State.foldl_stable | split | (dsimp only; split)

theorem State.status_stable {s : State} (h : P s) (k : Nat) (p : List Byte) (rtt : Nat) : P (State.status s k p rtt) := by
  unfold State.status
  repeat' with_reducible first | assumption | intro _ | apply State.modLink_stable hP | apply State.wr_stable hP | apply State.put_stable hP | apply State.driverFlags_stable hP | apply State.driverIlto_stable hP | apply State.newRtt_stable hP | apply State.setLinkState_stable hP | apply State.newConfig_stable hP | apply State.enterUp_stable hP | apply State.each_stable | apply State.ite_stable | apply State.ite_snd_stable | apply State.ite_fst_stable | split | (dsimp only; split)

theorem execStatusReceived_stable {s tt : State} {k : Fin 16} {syms : List LinkSym} {rtt : Nat} (e : execStatusReceived k syms rtt s = .next tt) (h : P s) :
    P tt := by
  unfold execStatusReceived at e
  injection e with e
  rw [← e]
  repeat' with_reducible first | assumption | intro _ | apply State.modLink_stable hP | apply State.status_stable hP | apply State.badFrame_stable hP | apply State.ite_stable | apply State.ite_snd_stable | apply State.ite_fst_stable | split | (dsimp only; split)

end Sys2Proof.Machine
end

