-- ==== Sys2Proof/Laws/StableTimebase.lean ====
section
/-!
SUPPORT. The operations of Machine/Timebase.lean keep every stable property (Laws/Stable.lean).
-/

namespace Sys2Proof.Machine

variable {P : State → Prop} (hP : Stable P)
include hP

theorem State.carrierSource_stable {s : State} (h : P s) (c : Nat) : P (State.carrierSource s c) := by
  unfold State.carrierSource
  repeat' with_reducible first | assumption | intro _ | apply State.assertEv_stable hP | apply State.each_stable | apply State.ite_stable | apply State.ite_snd_stable | apply State.ite_fst_stable | apply State.filterRegs_stable hP | apply State.filterMem_stable hP | split | (dsimp only; split)

theorem State.startAt_stable {s : State} (h : P s) (c p phase pos : Nat) : P (State.startAt s c p phase pos) := by
  unfold State.startAt
  repeat' with_reducible first | assumption | intro _ | apply State.put_stable hP | apply State.putB_stable hP | apply State.wr_stable hP | apply State.setCarrier_stable hP | apply State.modSched_stable hP | refine State.draw_stable hP (by assumption) ?_ | apply State.drawSnd_stable hP | apply State.each_stable | apply State.ite_stable | apply State.ite_snd_stable | apply State.ite_fst_stable | split | (dsimp only; split)

theorem State.startFollower_stable {s : State} (h : P s) (lead c : Nat) : P (State.startFollower s lead c) := by
  unfold State.startFollower
  repeat' with_reducible first | assumption | intro _ | apply State.startAt_stable hP | apply State.modCarrier_stable hP | apply State.put_stable hP | apply State.ite_stable | apply State.ite_snd_stable | apply State.ite_fst_stable | split | (dsimp only; split)

theorem State.startCarrier_stable {s : State} (h : P s) (c : Nat) : P (State.startCarrier s c) := by
  unfold State.startCarrier
  repeat' with_reducible first | assumption | intro _ | apply State.put_stable hP | apply State.startAt_stable hP | apply State.startFollower_stable hP | apply State.modCarrier_stable hP | apply State.each_stable | apply State.ite_stable | apply State.ite_snd_stable | apply State.ite_fst_stable | apply State.filterRegs_stable hP | apply State.filterMem_stable hP | split | (dsimp only; split)

theorem State.resumeLeg_stable {s : State} (h : P s) (l ptag : Nat) : P (State.resumeLeg s l ptag) := by
  unfold State.resumeLeg
  repeat' with_reducible first | assumption | intro _ | apply State.modSched_stable hP | apply State.modLeg_stable hP | apply State.put_stable hP | apply State.ite_stable | apply State.ite_snd_stable | apply State.ite_fst_stable | apply State.filterRegs_stable hP | apply State.filterMem_stable hP | split | (dsimp only; split)

theorem State.endDisable_stable {s : State} (h : P s) (l ptag : Nat) : P (State.endDisable s l ptag) := by
  unfold State.endDisable
  repeat' with_reducible first | assumption | intro _ | apply State.holdLeg_stable hP | apply State.resumeLeg_stable hP | apply State.ite_stable | apply State.ite_snd_stable | apply State.ite_fst_stable | split | (dsimp only; split)

theorem State.disableStopped_stable {s : State} (h : P s) (c : Nat) : P (State.disableStopped s c) := by
  unfold State.disableStopped
  repeat' with_reducible first | assumption | intro _ | apply State.endDisable_stable hP | apply State.each_stable | apply State.ite_stable | apply State.ite_snd_stable | apply State.ite_fst_stable | apply State.filterRegs_stable hP | apply State.filterMem_stable hP | split | (dsimp only; split)

theorem State.discardSet_stable {s : State} (h : P s) (ld : Nat) : P (State.discardSet s ld) := by
  unfold State.discardSet
  repeat' with_reducible first | assumption | intro _ | apply State.modSched_stable hP | apply State.modGroup_stable hP | apply State.put_stable hP | apply State.each_stable | apply State.ite_stable | apply State.ite_snd_stable | apply State.ite_fst_stable | split | (dsimp only; split)

theorem State.stopOne_stable {s : State} (h : P s) (c : Nat) : P (State.stopOne s c) := by
  unfold State.stopOne
  repeat' with_reducible first | assumption | intro _ | apply State.put_stable hP | apply State.modCarrier_stable hP | apply State.disableStopped_stable hP | apply State.windowsStopped_stable hP | apply State.ite_stable | apply State.ite_snd_stable | apply State.ite_fst_stable | split | (dsimp only; split)

theorem State.syncPend_stable {s : State} (h : P s) (ld : Nat) : P (State.syncPend s ld) := by
  unfold State.syncPend
  repeat' with_reducible first | assumption | intro _ | apply State.put_stable hP | apply State.ite_stable | apply State.ite_snd_stable | apply State.ite_fst_stable | split | (dsimp only; split)

theorem State.stopCarrier_stable {s : State} (h : P s) (c : Nat) : P (State.stopCarrier s c) := by
  unfold State.stopCarrier
  repeat' with_reducible first | assumption | intro _ | apply State.discardSet_stable hP | apply State.stopOne_stable hP | apply State.modSched_stable hP | apply State.syncPend_stable hP | apply State.each_stable | apply State.ite_stable | apply State.ite_snd_stable | apply State.ite_fst_stable | split | (dsimp only; split)

theorem State.carrierEnable_stable {s : State} (h : P s) (c : Nat) (en : Bool) : P (State.carrierEnable s c en) := by
  unfold State.carrierEnable
  repeat' with_reducible first | assumption | intro _ | apply State.putB_stable hP | apply State.startCarrier_stable hP | apply State.stopCarrier_stable hP | apply State.ite_stable | apply State.ite_snd_stable | apply State.ite_fst_stable | split | (dsimp only; split)

theorem execCarrierEnable_stable {s tt : State} {c : Fin 24} {en : Bool} (e : execCarrierEnable c en s = .next tt) (h : P s) :
    P tt := by
  unfold execCarrierEnable at e
  injection e with e
  rw [← e]
  repeat' with_reducible first | assumption | intro _ | apply State.carrierEnable_stable hP | apply State.ite_stable | apply State.ite_snd_stable | apply State.ite_fst_stable | split | (dsimp only; split)

theorem State.shadowWrite_stable {s : State} (h : P s) (a v : Nat) : P (State.shadowWrite s a v).1 := by
  unfold State.shadowWrite
  repeat' with_reducible first | assumption | intro _ | apply State.put_stable hP | apply State.ite_stable | apply State.ite_snd_stable | apply State.ite_fst_stable | split | (dsimp only; split)

theorem State.shadowWrite_stableEq {s tt : State} {x : Bool} {a v : Nat} (heq : State.shadowWrite s a v = (tt, x)) (h : P s) : P tt := by
  have := State.shadowWrite_stable hP h a v
  rw [heq] at this; exact this

theorem execShadowWrite_stable {s tt : State} {addr : Nat} {v : Word} (e : execShadowWrite addr v s = .next tt) (h : P s) :
    P tt := by
  unfold execShadowWrite at e
  injection e with e
  rw [← e]
  repeat' with_reducible first | assumption | intro _ | apply State.shadowWrite_stable hP | refine State.shadowWrite_stableEq hP (by assumption) ?_ | apply State.ite_stable | apply State.ite_snd_stable | apply State.ite_fst_stable | split | (dsimp only; split)

theorem State.acceptSet_stable {s : State} (h : P s) (ld : Nat) : P (State.acceptSet s ld) := by
  unfold State.acceptSet
  repeat' with_reducible first | assumption | intro _ | apply State.put_stable hP | apply State.modCarrier_stable hP | apply State.modSched_stable hP | apply State.modGroup_stable hP | apply State.wr_stable hP | apply State.each_stable | apply State.ite_stable | apply State.ite_snd_stable | apply State.ite_fst_stable | split | (dsimp only; split)

theorem State.ldall_stable {s : State} (h : P s) (c : Nat) (late : Bool) : P (State.ldall s c late) := by
  unfold State.ldall
  repeat' with_reducible first | assumption | intro _ | apply State.put_stable hP | apply State.inc_stable hP | apply State.carrierSource_stable hP | apply State.acceptSet_stable hP | apply State.ite_stable | apply State.ite_snd_stable | apply State.ite_fst_stable | split | (dsimp only; split)

theorem execLdall_stable {s tt : State} {c : Fin 24} {late : Bool} (e : execLdall c late s = .next tt) (h : P s) :
    P tt := by
  unfold execLdall at e
  injection e with e
  rw [← e]
  repeat' with_reducible first | assumption | intro _ | apply State.ldall_stable hP | apply State.ite_stable | apply State.ite_snd_stable | apply State.ite_fst_stable | split | (dsimp only; split)

theorem State.computeLeg_stable {s : State} (h : P s) (c l : Nat) (pend : Bool) : P (State.computeLeg s c l pend).2 := by
  unfold State.computeLeg
  repeat' with_reducible first | assumption | intro _ | apply State.modSched_stable hP | apply State.put_stable hP | apply State.incMod_stable hP | apply State.ite_stable | apply State.ite_snd_stable | apply State.ite_fst_stable | apply State.filterRegs_stable hP | apply State.filterMem_stable hP | split | (dsimp only; split)

theorem State.computeLeg_stableEq {s tt : State} {x : List (Int × Edge)} {c l : Nat} {pend : Bool} (heq : State.computeLeg s c l pend = (x, tt)) (h : P s) : P tt := by
  have := State.computeLeg_stable hP h c l pend
  rw [heq] at this; exact this

theorem State.sendLenOf_stable {s : State} (h : P s) (c pd0 : Nat) (first : Bool) : P (State.sendLenOf s c pd0 first) := by
  unfold State.sendLenOf
  repeat' with_reducible first | assumption | intro _ | apply State.modCarrier_stable hP | apply State.send_stable hP | apply State.sendLow_stable hP | apply State.each_stable | apply State.ite_stable | apply State.ite_snd_stable | apply State.ite_fst_stable | split | (dsimp only; split)

theorem State.computeCarrier_stable {s : State} (h : P s) (c : Nat) (pend : Bool) : P (State.computeCarrier s c pend).2 := by
  unfold State.computeCarrier
  repeat' with_reducible first | assumption | intro _ | apply State.computeLeg_stable hP | refine State.computeLeg_stableEq hP (by assumption) ?_ | apply State.modCarrier_stable hP | apply State.ite_stable | apply State.ite_snd_stable | apply State.ite_fst_stable | apply State.foldl_stable | split | (dsimp only; split)

theorem State.computeCarrier_stableEq {s tt : State} {x : List (Int × Nat × Edge)} {c : Nat} {pend : Bool} (heq : State.computeCarrier s c pend = (x, tt)) (h : P s) : P tt := by
  have := State.computeCarrier_stable hP h c pend
  rw [heq] at this; exact this

theorem State.sendLenAhead_stable {s : State} (h : P s) (c : Nat) (pend : Bool) : P (State.sendLenAhead s c pend) := by
  unfold State.sendLenAhead
  repeat' with_reducible first | assumption | intro _ | apply State.modCarrier_stable hP | apply State.send_stable hP | apply State.each_stable | apply State.ite_stable | apply State.ite_snd_stable | apply State.ite_fst_stable | split | (dsimp only; split)

theorem State.sendLens_stable {s : State} (h : P s) (c : Nat) (pend : Bool) : P (State.sendLens s c pend) := by
  unfold State.sendLens
  repeat' with_reducible first | assumption | intro _ | apply State.sendLenOf_stable hP | apply State.sendLenAhead_stable hP | apply State.ite_stable | apply State.ite_snd_stable | apply State.ite_fst_stable | split | (dsimp only; split)

theorem State.emitCarriers_stable {s : State} (h : P s) (cs : List (Nat × Bool)) (tight : List (Nat × Nat)) : P (State.emitCarriers s cs tight) := by
  unfold State.emitCarriers
  repeat' with_reducible first | assumption | intro _ | apply State.sendLens_stable hP | apply State.computeCarrier_stable hP | refine State.computeCarrier_stableEq hP (by assumption) ?_ | apply State.sendEdges_stable hP | apply State.flushSync_stable hP | apply State.flushCarrier_stable hP | apply State.sendLenOf_stable hP | apply State.each_stable | apply State.ite_stable | apply State.ite_snd_stable | apply State.ite_fst_stable | apply State.foldl_stable | apply State.filterRegs_stable hP | apply State.filterMem_stable hP | split | (dsimp only; split)

theorem execEdgeComputeDone_stable {s tt : State} {c : Fin 24} {tight : List (Fin 16 × Fin 8)} (e : execEdgeComputeDone c tight s = .next tt) (h : P s) :
    P tt := by
  unfold execEdgeComputeDone at e
  injection e with e
  rw [← e]
  repeat' with_reducible first | assumption | intro _ | apply State.emitCarriers_stable hP | apply State.ite_stable | apply State.ite_snd_stable | apply State.ite_fst_stable | apply State.filterRegs_stable hP | apply State.filterMem_stable hP | split | (dsimp only; split)

theorem State.sendMarks_stable {s : State} (h : P s) (c : Nat) : P (State.sendMarks s c) := by
  unfold State.sendMarks
  repeat' with_reducible first | assumption | intro _ | apply State.modCarrier_stable hP | apply State.send_stable hP | apply State.sendLow_stable hP | refine State.draw_stable hP (by assumption) ?_ | apply State.drawSnd_stable hP | apply State.each_stable | apply State.ite_stable | apply State.ite_snd_stable | apply State.ite_fst_stable | split | (dsimp only; split)

theorem State.cutLeg_stable {s : State} (h : P s) (c l : Nat) : P (State.cutLeg s c l).2 := by
  unfold State.cutLeg
  repeat' with_reducible first | assumption | intro _ | apply State.modSched_stable hP | apply State.ite_stable | apply State.ite_snd_stable | apply State.ite_fst_stable | split | (dsimp only; split)

theorem State.cutLeg_stableEq {s tt : State} {x : List (Int × Nat × Edge)} {c l : Nat} (heq : State.cutLeg s c l = (x, tt)) (h : P s) : P tt := by
  have := State.cutLeg_stable hP h c l
  rw [heq] at this; exact this

theorem State.cutCarrier_stable {s : State} (h : P s) (c : Nat) (tight : List (Nat × Nat)) : P (State.cutCarrier s c tight) := by
  unfold State.cutCarrier
  repeat' with_reducible first | assumption | intro _ | apply State.cutLeg_stable hP | refine State.cutLeg_stableEq hP (by assumption) ?_ | apply State.sendEdges_stable hP | apply State.each_stable | apply State.ite_stable | apply State.ite_snd_stable | apply State.ite_fst_stable | apply State.foldl_stable | apply State.filterRegs_stable hP | apply State.filterMem_stable hP | split | (dsimp only; split)

theorem State.loadDeadline_stable {s : State} (h : P s) (c : Nat) (tight : List (Nat × Nat)) : P (State.loadDeadline s c tight) := by
  unfold State.loadDeadline
  repeat' with_reducible first | assumption | intro _ | apply State.cutCarrier_stable hP | apply State.flushCarrier_stable hP | apply State.emitCarriers_stable hP | apply State.ite_stable | apply State.ite_snd_stable | apply State.ite_fst_stable | split | (dsimp only; split)

theorem execLoadDeadlineEmission_stable {s tt : State} {c : Fin 24} {tight : List (Fin 16 × Fin 8)} (e : execLoadDeadlineEmission c tight s = .next tt) (h : P s) :
    P tt := by
  unfold execLoadDeadlineEmission at e
  injection e with e
  rw [← e]
  repeat' with_reducible first | assumption | intro _ | apply State.loadDeadline_stable hP | apply State.ite_stable | apply State.ite_snd_stable | apply State.ite_fst_stable | split | (dsimp only; split)

theorem State.legStarts_stable {s : State} (h : P s) (c l : Nat) : P (State.legStarts s c l) := by
  unfold State.legStarts
  repeat' with_reducible first | assumption | intro _ | apply State.modSched_stable hP | apply State.ite_stable | apply State.ite_snd_stable | apply State.ite_fst_stable | split | (dsimp only; split)

theorem State.clearDone_stable {s : State} (h : P s) (c : Nat) : P (State.clearDone s c) := by
  unfold State.clearDone
  repeat' with_reducible first | assumption | intro _ | apply State.put_stable hP | apply State.modGroup_stable hP | apply State.each_stable | apply State.ite_stable | apply State.ite_snd_stable | apply State.ite_fst_stable | apply State.filterRegs_stable hP | apply State.filterMem_stable hP | split | (dsimp only; split)

theorem State.takeSet_stable {s : State} (h : P s) (c : Nat) : P (State.takeSet s c) := by
  unfold State.takeSet
  repeat' with_reducible first | assumption | intro _ | apply State.modCarrier_stable hP | apply State.put_stable hP | apply State.legStarts_stable hP | apply State.clearDone_stable hP | apply State.syncPend_stable hP | apply State.each_stable | apply State.ite_stable | apply State.ite_snd_stable | apply State.ite_fst_stable | split | (dsimp only; split)

theorem State.profileEvent_stable {s : State} (h : P s) (src i ev : Nat) : P (State.profileEvent s src i ev) := by
  unfold State.profileEvent
  repeat' with_reducible first | assumption | intro _ | apply State.modProfile_stable hP | apply State.each_stable | apply State.ite_stable | apply State.ite_snd_stable | apply State.ite_fst_stable | apply State.filterRegs_stable hP | apply State.filterMem_stable hP | split | (dsimp only; split)

theorem State.passEvent_stable {s : State} (h : P s) (c ev : Nat) : P (State.passEvent s c ev) := by
  unfold State.passEvent
  repeat' with_reducible first | assumption | intro _ | apply State.sendStarts_stable hP | apply State.senseCarrierEvent_stable hP | apply State.profileEvent_stable hP | apply State.sampleClock_stable hP | apply State.ite_stable | apply State.ite_snd_stable | apply State.ite_fst_stable | split | (dsimp only; split)

theorem State.legPeriod_stable {s : State} (h : P s) (l ptag len : Nat) : P (State.legPeriod s l ptag len) := by
  unfold State.legPeriod
  repeat' with_reducible first | assumption | intro _ | apply State.modSched_stable hP | apply State.ite_stable | apply State.ite_snd_stable | apply State.ite_fst_stable | apply State.filterRegs_stable hP | apply State.filterMem_stable hP | split | (dsimp only; split)

theorem State.legAtZero_stable {s : State} (h : P s) (len : Int) (late : Bool) (ptag l : Nat) : P (State.legAtZero s len late ptag l) := by
  unfold State.legAtZero
  repeat' with_reducible first | assumption | intro _ | apply State.legPeriod_stable hP | apply State.modLeg_stable hP | apply State.modSched_stable hP | apply State.endDisable_stable hP | apply State.bootstrapEnd_stable hP | apply State.ite_stable | apply State.ite_snd_stable | apply State.ite_fst_stable | split | (dsimp only; split)

theorem State.clearZero_stable {s : State} (h : P s) (c : Nat) : P (State.clearZero s c) := by
  unfold State.clearZero
  repeat' with_reducible first | assumption | intro _ | apply State.modGroup_stable hP | apply State.legStarts_stable hP | apply State.each_stable | apply State.ite_stable | apply State.ite_snd_stable | apply State.ite_fst_stable | split | (dsimp only; split)

theorem State.relock_stable {s : State} (h : P s) (c : Nat) (corr : Int) : P (State.relock s c corr) := by
  unfold State.relock
  repeat' with_reducible first | assumption | intro _ | apply State.putB_stable hP | apply State.ite_stable | apply State.ite_snd_stable | apply State.ite_fst_stable | split | (dsimp only; split)

theorem State.newPeriod_stable {s : State} (h : P s) (c : Nat) (old : Carrier) : P (State.newPeriod s c old) := by
  unfold State.newPeriod
  repeat' with_reducible first | assumption | intro _ | apply State.modCarrier_stable hP | apply State.relock_stable hP | apply State.wr_stable hP | apply State.put_stable hP | apply State.ite_stable | apply State.ite_snd_stable | apply State.ite_fst_stable | split | (dsimp only; split)

theorem State.freezeZero_stable {s : State} (h : P s) (c : Nat) : P (State.freezeZero s c) := by
  unfold State.freezeZero
  repeat' with_reducible first | assumption | intro _ | apply State.modAxis_stable hP | apply State.each_stable | apply State.ite_stable | apply State.ite_snd_stable | apply State.ite_fst_stable | apply State.filterRegs_stable hP | apply State.filterMem_stable hP | split | (dsimp only; split)

theorem State.carrierZero_stable {s : State} (h : P s) (c : Nat) (late : List Nat) : P (State.carrierZero s c late) := by
  unfold State.carrierZero
  repeat' with_reducible first | assumption | intro _ | apply State.legAtZero_stable hP | apply State.put_stable hP | apply State.withClk_stable hP | apply State.clearZero_stable hP | apply State.takeSet_stable hP | apply State.clearDone_stable hP | apply State.newPeriod_stable hP | apply State.freezeZero_stable hP | apply State.startFollower_stable hP | apply State.setTimer_stable hP | apply State.sendMarks_stable hP | apply State.passEvent_stable hP | apply State.each_stable | apply State.ite_stable | apply State.ite_snd_stable | apply State.ite_fst_stable | apply State.filterRegs_stable hP | apply State.filterMem_stable hP | split | (dsimp only; split)

theorem execCarrierZero_stable {s tt : State} {c : Fin 24} {late : List (Fin 72)} (e : execCarrierZero c late s = .next tt) (h : P s) :
    P tt := by
  unfold execCarrierZero at e
  injection e with e
  rw [← e]
  repeat' with_reducible first | assumption | intro _ | apply State.carrierZero_stable hP | apply State.ite_stable | apply State.ite_snd_stable | apply State.ite_fst_stable | split | (dsimp only; split)

theorem State.nearestEven_stable {s : State} (h : P s) (e : Int) (l : Nat) : P (State.nearestEven s e l).2 := by
  unfold State.nearestEven
  repeat' with_reducible first | assumption | intro _ | refine State.draw_stable hP (by assumption) ?_ | apply State.drawSnd_stable hP | apply State.ite_stable | apply State.ite_snd_stable | apply State.ite_fst_stable | split | (dsimp only; split)

theorem State.nearestEven_stableEq {s tt : State} {x : Int} {e : Int} {l : Nat} (heq : State.nearestEven s e l = (x, tt)) (h : P s) : P tt := by
  have := State.nearestEven_stable hP h e l
  rw [heq] at this; exact this

theorem State.fixCorrection_stable {s : State} (h : P s) (c : Nat) : P (State.fixCorrection s c) := by
  unfold State.fixCorrection
  repeat' with_reducible first | assumption | intro _ | apply State.nearestEven_stable hP | refine State.nearestEven_stableEq hP (by assumption) ?_ | apply State.modCarrier_stable hP | apply State.ite_stable | apply State.ite_snd_stable | apply State.ite_fst_stable | split | (dsimp only; split)

theorem State.carrierPeak_stable {s : State} (h : P s) (c : Nat) : P (State.carrierPeak s c) := by
  unfold State.carrierPeak
  repeat' with_reducible first | assumption | intro _ | apply State.takeSet_stable hP | apply State.modCarrier_stable hP | apply State.sendLenOf_stable hP | apply State.put_stable hP | apply State.fixCorrection_stable hP | apply State.passEvent_stable hP | apply State.ite_stable | apply State.ite_snd_stable | apply State.ite_fst_stable | split | (dsimp only; split)

theorem execCarrierPeak_stable {s tt : State} {c : Fin 24} (e : execCarrierPeak c s = .next tt) (h : P s) :
    P tt := by
  unfold execCarrierPeak at e
  injection e with e
  rw [← e]
  repeat' with_reducible first | assumption | intro _ | apply State.carrierPeak_stable hP | apply State.ite_stable | apply State.ite_snd_stable | apply State.ite_fst_stable | split | (dsimp only; split)

theorem execLegCompareEvent_stable {s tt : State} {leg : Fin 72} {b : Bool} (e : execLegCompareEvent leg b s = .next tt) (h : P s) :
    P tt := by
  unfold execLegCompareEvent at e
  try dsimp only at e
  repeat' split at e
  all_goals first | (injection e with e; rw [← e]) | cases e
  repeat' with_reducible first | assumption | intro _ | apply State.sendStarts_stable hP | apply State.ite_stable | apply State.ite_snd_stable | apply State.ite_fst_stable | split | (dsimp only; split)

theorem execLegEdge_stable {s tt : State} {leg : Fin 72} (e : execLegEdge leg s = .next tt) (h : P s) :
    P tt := by
  unfold execLegEdge at e
  injection e with e
  rw [← e]
  repeat' with_reducible first | assumption | intro _ | apply State.modSched_stable hP | apply State.switchOff_stable hP | apply State.modLeg_stable hP | apply State.switchOn_stable hP | apply State.ite_stable | apply State.ite_snd_stable | apply State.ite_fst_stable | split | (dsimp only; split)

theorem execSyncMark_stable {s tt : State} {c : Fin 24} {ticks : Int} (e : execSyncMark c ticks s = .next tt) (h : P s) :
    P tt := by
  unfold execSyncMark at e
  try dsimp only at e
  repeat' split at e
  all_goals first | (injection e with e; rw [← e]) | cases e
  repeat' with_reducible first | assumption | intro _ | apply State.modCarrier_stable hP | apply State.put_stable hP | apply State.putB_stable hP | apply State.carrierSource_stable hP | refine State.draw_stable hP (by assumption) ?_ | apply State.drawSnd_stable hP | apply State.ite_stable | apply State.ite_snd_stable | apply State.ite_fst_stable | apply State.foldl_stable | split | (dsimp only; split)

theorem execSyncMiss_stable {s tt : State} {c : Fin 24} (e : execSyncMiss c s = .next tt) (h : P s) :
    P tt := by
  unfold execSyncMiss at e
  try dsimp only at e
  repeat' split at e
  all_goals first | (injection e with e; rw [← e]) | cases e
  repeat' with_reducible first | assumption | intro _ | apply State.put_stable hP | apply State.carrierSource_stable hP | apply State.ite_stable | apply State.ite_snd_stable | apply State.ite_fst_stable | split | (dsimp only; split)

theorem State.cbClrcnt_stable {s : State} (h : P s) (c : Nat) : P (State.cbClrcnt s c) := by
  unfold State.cbClrcnt
  repeat' with_reducible first | assumption | intro _ | apply State.put_stable hP | apply State.ite_stable | apply State.ite_snd_stable | apply State.ite_fst_stable | split | (dsimp only; split)

theorem execCbClrcnt_stable {s tt : State} {c : Fin 24} (e : execCbClrcnt c s = .next tt) (h : P s) :
    P tt := by
  unfold execCbClrcnt at e
  injection e with e
  rw [← e]
  repeat' with_reducible first | assumption | intro _ | apply State.cbClrcnt_stable hP | apply State.ite_stable | apply State.ite_snd_stable | apply State.ite_fst_stable | split | (dsimp only; split)

theorem execIntervalTimerEvent_stable {s tt : State} {k : Fin 8} (e : execIntervalTimerEvent k s = .next tt) (h : P s) :
    P tt := by
  unfold execIntervalTimerEvent at e
  injection e with e
  rw [← e]
  repeat' with_reducible first | assumption | intro _ | apply State.setTimer_stable hP | apply State.sendStarts_stable hP | apply State.profileEvent_stable hP | apply State.ite_stable | apply State.ite_snd_stable | apply State.ite_fst_stable | split | (dsimp only; split)

end Sys2Proof.Machine
end

