-- ==== Sys2Proof/Laws/StableProfile.lean ====
section
/-!
SUPPORT. The operations of Machine/Profile.lean keep every stable property (Laws/Stable.lean).
-/

namespace Sys2Proof.Machine

variable {P : State → Prop} (hP : Stable P)
include hP

theorem State.puRequest_stable {s : State} (h : P s) (n r : Nat) : P (State.puRequest s n r) := by
  unfold State.puRequest
  repeat' with_reducible first | assumption | intro _ | apply State.modProfile_stable hP | apply State.ite_stable | apply State.ite_snd_stable | apply State.ite_fst_stable | split | (dsimp only; split)

theorem State.ctxCommit_stable {s : State} (h : P s) (c : Nat) : P (State.ctxCommit s c) := by
  unfold State.ctxCommit
  repeat' with_reducible first | assumption | intro _ | apply State.modProfile_stable hP | apply State.ite_stable | apply State.ite_snd_stable | apply State.ite_fst_stable | split | (dsimp only; split)

theorem execCtxCommit_stable {s tt : State} {c : Fin 256} (e : execCtxCommit c s = .next tt) (h : P s) :
    P tt := by
  unfold execCtxCommit at e
  injection e with e
  rw [← e]
  repeat' with_reducible first | assumption | intro _ | apply State.ctxCommit_stable hP | apply State.ite_stable | apply State.ite_snd_stable | apply State.ite_fst_stable | split | (dsimp only; split)

theorem execPuStart_stable {s tt : State} {n : Fin 16} (e : execPuStart n s = .next tt) (h : P s) :
    P tt := by
  unfold execPuStart at e
  injection e with e
  rw [← e]
  repeat' with_reducible first | assumption | intro _ | apply State.puRequest_stable hP | apply State.ite_stable | apply State.ite_snd_stable | apply State.ite_fst_stable | split | (dsimp only; split)

theorem execPuSwapnow_stable {s tt : State} {n : Fin 16} (e : execPuSwapnow n s = .next tt) (h : P s) :
    P tt := by
  unfold execPuSwapnow at e
  injection e with e
  rw [← e]
  repeat' with_reducible first | assumption | intro _ | apply State.puRequest_stable hP | apply State.ite_stable | apply State.ite_snd_stable | apply State.ite_fst_stable | split | (dsimp only; split)

theorem execPuStop_stable {s tt : State} {n : Fin 16} (e : execPuStop n s = .next tt) (h : P s) :
    P tt := by
  unfold execPuStop at e
  injection e with e
  rw [← e]
  repeat' with_reducible first | assumption | intro _ | apply State.puRequest_stable hP | apply State.ite_stable | apply State.ite_snd_stable | apply State.ite_fst_stable | split | (dsimp only; split)

theorem execPuQstop_stable {s tt : State} {n : Fin 16} (e : execPuQstop n s = .next tt) (h : P s) :
    P tt := by
  unfold execPuQstop at e
  injection e with e
  rw [← e]
  repeat' with_reducible first | assumption | intro _ | apply State.puRequest_stable hP | apply State.ite_stable | apply State.ite_snd_stable | apply State.ite_fst_stable | split | (dsimp only; split)

theorem execPuEngage_stable {s tt : State} {n : Fin 16} (e : execPuEngage n s = .next tt) (h : P s) :
    P tt := by
  unfold execPuEngage at e
  injection e with e
  rw [← e]
  repeat' with_reducible first | assumption | intro _ | apply State.puRequest_stable hP | apply State.ite_stable | apply State.ite_snd_stable | apply State.ite_fst_stable | split | (dsimp only; split)

theorem execProfileTick_stable {s tt : State} {n : Fin 16} {dt : Nat} {at_ : TickAt} (e : execProfileTick n dt at_ s = .next tt) (h : P s) :
    P tt := by
  unfold execProfileTick at e
  try dsimp only at e
  repeat' split at e
  all_goals first | (injection e with e; rw [← e]) | cases e
  repeat' with_reducible first | assumption | intro _ | apply State.runOn_stable hP | apply State.modProfile_stable hP | apply State.wr_stable hP | apply State.put_stable hP | apply State.inc_stable hP | apply State.assertEv_stable hP | refine State.draw_stable hP (by assumption) ?_ | apply State.drawSnd_stable hP | apply State.ite_stable | apply State.ite_snd_stable | apply State.ite_fst_stable | split | (dsimp only; split)

theorem State.setPuState_stable {s : State} (h : P s) (n v : Nat) : P (State.setPuState s n v) := by
  unfold State.setPuState
  repeat' with_reducible first | assumption | intro _ | apply State.put_stable hP | apply State.ite_stable | apply State.ite_snd_stable | apply State.ite_fst_stable | split | (dsimp only; split)

theorem State.plainDec_stable {s : State} (h : P s) (n : Nat) : P (State.plainDec s n) := by
  unfold State.plainDec
  repeat' with_reducible first | assumption | intro _ | apply State.wr_stable hP | apply State.ite_stable | apply State.ite_snd_stable | apply State.ite_fst_stable | split | (dsimp only; split)

theorem State.planMove_stable {s : State} (h : P s) (n : Nat) (goal : Int) (dec : Nat) : P (State.planMove s n goal dec) := by
  unfold State.planMove
  repeat' with_reducible first | assumption | intro _ | apply State.setProfile_stable hP | apply State.put_stable hP | apply State.wr_stable hP | apply State.setPuState_stable hP | apply State.ite_stable | apply State.ite_snd_stable | apply State.ite_fst_stable | split | (dsimp only; split)

theorem State.returnTo_stable {s : State} (h : P s) (n : Nat) (g : Int) : P (State.returnTo s n g) := by
  unfold State.returnTo
  repeat' with_reducible first | assumption | intro _ | apply State.setProfile_stable hP | apply State.plainDec_stable hP | apply State.setPuState_stable hP | apply State.ite_stable | apply State.ite_snd_stable | apply State.ite_fst_stable | split | (dsimp only; split)

theorem State.ctxParity_stable {s : State} (h : P s) (n : Nat) : P (State.ctxParity s n) := by
  unfold State.ctxParity
  repeat' with_reducible first | assumption | intro _ | apply State.put_stable hP | apply State.assertEv_stable hP | apply State.ite_stable | apply State.ite_snd_stable | apply State.ite_fst_stable | split | (dsimp only; split)

theorem State.stopRef_stable {s : State} (h : P s) (n dec st : Nat) : P (State.stopRef s n dec st) := by
  unfold State.stopRef
  repeat' with_reducible first | assumption | intro _ | apply State.modProfile_stable hP | apply State.plainDec_stable hP | apply State.setPuState_stable hP | apply State.ite_stable | apply State.ite_snd_stable | apply State.ite_fst_stable | split | (dsimp only; split)

theorem State.replan_stableEq {s tt : State} {n : Nat} {m : MoveCtx} {goal : Int} (e : State.replan s n m goal = some tt) (h : P s) : P tt := by
  revert e; unfold State.replan
  intro e
  try dsimp only at e
  repeat' split at e
  all_goals (try cases e)
  repeat' with_reducible first | assumption | intro _ | apply State.setProfile_stable hP | apply State.put_stable hP | apply State.planMove_stable hP | apply State.ite_stable | apply State.ite_snd_stable | apply State.ite_fst_stable | split | (dsimp only; split)

theorem State.activateNext_stable {s : State} (h : P s) (n : Nat) (par : Bool) : P (State.activateNext s n par) := by
  unfold State.activateNext
  repeat' with_reducible first | assumption | intro _ | apply State.put_stable hP | apply State.stopRef_stable hP | apply State.ctxParity_stable hP | apply State.modProfile_stable hP | apply State.wr_stable hP | apply State.setPuState_stable hP | refine State.replan_stableEq hP (by assumption) ?_ | apply State.ite_stable | apply State.ite_snd_stable | apply State.ite_fst_stable | split | (dsimp only; split)

theorem State.commitMove_stableEq {s tt : State} {n : Nat} {m : MoveCtx} (e : State.commitMove s n m = some tt) (h : P s) : P tt := by
  revert e; unfold State.commitMove
  intro e
  try dsimp only at e
  repeat' split at e
  all_goals (try cases e)
  repeat' with_reducible first | assumption | intro _ | apply State.setProfile_stable hP | apply State.wr_stable hP | refine State.replan_stableEq hP (by assumption) ?_ | apply State.ite_stable | apply State.ite_snd_stable | apply State.ite_fst_stable | split | (dsimp only; split)

theorem State.answerWaiter_stable {s : State} (h : P s) (n : Nat) (ok : Bool) : P (State.answerWaiter s n ok) := by
  unfold State.answerWaiter
  repeat' with_reducible first | assumption | intro _ | apply State.modProfile_stable hP | apply State.finishHead_stable hP | apply State.status_stable hP | apply State.each_stable | apply State.ite_stable | apply State.ite_snd_stable | apply State.ite_fst_stable | split | (dsimp only; split)

theorem State.commitIgnored_stable {s : State} (h : P s) (n : Nat) : P (State.commitIgnored s n) := by
  unfold State.commitIgnored
  repeat' with_reducible first | assumption | intro _ | apply State.put_stable hP | apply State.modProfile_stable hP | apply State.answerWaiter_stable hP | apply State.ite_stable | apply State.ite_snd_stable | apply State.ite_fst_stable | split | (dsimp only; split)

theorem State.takeRequests_stable {s : State} (h : P s) (n : Nat) (par : Bool) : P (State.takeRequests s n par) := by
  unfold State.takeRequests
  repeat' with_reducible first | assumption | intro _ | apply State.answerWaiter_stable hP | apply State.commitIgnored_stable hP | apply State.ctxParity_stable hP | refine State.commitMove_stableEq hP (by assumption) ?_ | apply State.put_stable hP | apply State.stopRef_stable hP | apply State.activateNext_stable hP | apply State.ite_stable | apply State.ite_snd_stable | apply State.ite_fst_stable | split | (dsimp only; split)

theorem State.takeMaster_stable {s : State} (h : P s) (n : Nat) : P (State.takeMaster s n) := by
  unfold State.takeMaster
  repeat' with_reducible first | assumption | intro _ | apply State.put_stable hP | apply State.commitIgnored_stable hP | apply State.stopRef_stable hP | apply State.assertEv_stable hP | apply State.modProfile_stable hP | apply State.wr_stable hP | apply State.ite_stable | apply State.ite_snd_stable | apply State.ite_fst_stable | split | (dsimp only; split)

theorem State.commitTable_stable {s : State} (h : P s) (n : Nat) : P (State.commitTable s n) := by
  unfold State.commitTable
  repeat' with_reducible first | assumption | intro _ | apply State.setProfile_stable hP | apply State.answerWaiter_stable hP | apply State.commitIgnored_stable hP | apply State.ite_stable | apply State.ite_snd_stable | apply State.ite_fst_stable | split | (dsimp only; split)

theorem State.limitStop_stable {s : State} (h : P s) (n : Nat) (hard : Bool) : P (State.limitStop s n hard) := by
  unfold State.limitStop
  repeat' with_reducible first | assumption | intro _ | apply State.answerWaiter_stable hP | apply State.stepUnc_stable hP | apply State.modProfile_stable hP | apply State.returnTo_stable hP | apply State.plainDec_stable hP | apply State.setPuState_stable hP | apply State.assertEv_stable hP | apply State.ite_stable | apply State.ite_snd_stable | apply State.ite_fst_stable | split | (dsimp only; split)

theorem State.showLimits_stable {s : State} (h : P s) (n : Nat) : P (State.showLimits s n) := by
  unfold State.showLimits
  repeat' with_reducible first | assumption | intro _ | apply State.putB_stable hP | apply State.ite_stable | apply State.ite_snd_stable | apply State.ite_fst_stable | split | (dsimp only; split)

theorem State.takeLimits_stable {s : State} (h : P s) (n : Nat) (d : Int) : P (State.takeLimits s n d) := by
  unfold State.takeLimits
  repeat' with_reducible first | assumption | intro _ | apply State.showLimits_stable hP | apply State.limitStop_stable hP | apply State.setPuState_stable hP | apply State.ite_stable | apply State.ite_snd_stable | apply State.ite_fst_stable | split | (dsimp only; split)

theorem State.publish_stable {s : State} (h : P s) (n : Nat) : P (State.publish s n) := by
  unfold State.publish
  repeat' with_reducible first | assumption | intro _ | apply State.put_stable hP | apply State.wr_stable hP | apply State.ite_stable | apply State.ite_snd_stable | apply State.ite_fst_stable | split | (dsimp only; split)

theorem State.motionEnds_stable {s : State} (h : P s) (n : Nat) (m : Motion) (par : Bool) : P (State.motionEnds s n m par) := by
  unfold State.motionEnds
  repeat' with_reducible first | assumption | intro _ | apply State.returnTo_stable hP | apply State.plainDec_stable hP | apply State.modProfile_stable hP | apply State.setPuState_stable hP | apply State.assertEv_stable hP | apply State.activateNext_stable hP | apply State.ite_stable | apply State.ite_snd_stable | apply State.ite_fst_stable | split | (dsimp only; split)

theorem State.advanceRef_stable {s : State} (h : P s) (n : Nat) (par : Bool) : P (State.advanceRef s n par) := by
  unfold State.advanceRef
  repeat' with_reducible first | assumption | intro _ | apply State.setProfile_stable hP | apply State.motionEnds_stable hP | apply State.ite_stable | apply State.ite_snd_stable | apply State.ite_fst_stable | split | (dsimp only; split)

theorem State.gearTick_stable {s : State} (h : P s) (n : Nat) (before : Int) (par : Bool) : P (State.gearTick s n before par) := by
  unfold State.gearTick
  repeat' with_reducible first | assumption | intro _ | apply State.commitTable_stable hP | apply State.takeLimits_stable hP | apply State.advanceRef_stable hP | apply State.setProfile_stable hP | apply State.setPuState_stable hP | refine State.draw_stable hP (by assumption) ?_ | apply State.drawSnd_stable hP | apply State.ite_stable | apply State.ite_snd_stable | apply State.ite_fst_stable | split | (dsimp only; split)

theorem execReferencePublish_stable {s tt : State} {n : Fin 16} {work : Nat} {par : Bool} (e : execReferencePublish n work par s = .next tt) (h : P s) :
    P tt := by
  unfold execReferencePublish at e
  injection e with e
  rw [← e]
  repeat' with_reducible first | assumption | intro _ | apply State.put_stable hP | apply State.answerWaiter_stable hP | apply State.showLimits_stable hP | apply State.stepUnc_stable hP | apply State.modProfile_stable hP | apply State.setPuState_stable hP | apply State.takeRequests_stable hP | apply State.takeMaster_stable hP | apply State.gearTick_stable hP | apply State.takeLimits_stable hP | apply State.advanceRef_stable hP | apply State.publish_stable hP | apply State.ite_stable | apply State.ite_snd_stable | apply State.ite_fst_stable | split | (dsimp only; split)

theorem State.vmApply_stable {s : State} (h : P s) (k : Nat) : P (State.vmApply s k) := by
  unfold State.vmApply
  repeat' with_reducible first | assumption | intro _ | apply State.setVmaster_stable hP | apply State.put_stable hP | apply State.ite_stable | apply State.ite_snd_stable | apply State.ite_fst_stable | split | (dsimp only; split)

theorem State.vmthWrite_stable {s : State} (h : P s) (k : Nat) (v : Word) : P (State.vmthWrite s k v) := by
  unfold State.vmthWrite
  repeat' with_reducible first | assumption | intro _ | apply State.wr_stable hP | apply State.vmApply_stable hP | apply State.ite_stable | apply State.ite_snd_stable | apply State.ite_fst_stable | split | (dsimp only; split)

theorem execVmthWrite_stable {s tt : State} {k : Fin 4} {v : Word} (e : execVmthWrite k v s = .next tt) (h : P s) :
    P tt := by
  unfold execVmthWrite at e
  injection e with e
  rw [← e]
  repeat' with_reducible first | assumption | intro _ | apply State.vmthWrite_stable hP | apply State.ite_stable | apply State.ite_snd_stable | apply State.ite_fst_stable | split | (dsimp only; split)

theorem execVirtualMasterTimeout_stable {s tt : State} {k : Fin 4} (e : execVirtualMasterTimeout k s = .next tt) (h : P s) :
    P tt := by
  unfold execVirtualMasterTimeout at e
  injection e with e
  rw [← e]
  repeat' with_reducible first | assumption | intro _ | apply State.put_stable hP | apply State.ite_stable | apply State.ite_snd_stable | apply State.ite_fst_stable | split | (dsimp only; split)

theorem State.vmSet_stable {s : State} (h : P s) (k pos vel time vmto : Nat) : P (State.vmSet s k pos vel time vmto) := by
  unfold State.vmSet
  repeat' with_reducible first | assumption | intro _ | apply State.wr_stable hP | apply State.put_stable hP | apply State.vmthWrite_stable hP | apply State.ite_stable | apply State.ite_snd_stable | apply State.ite_fst_stable | split | (dsimp only; split)

end Sys2Proof.Machine
end

