-- ==== Sys2Proof/Laws/StableRights.lean ====
section
/-!
SUPPORT. The operations of Machine/Rights.lean keep every stable property (Laws/Stable.lean).
-/

namespace Sys2Proof.Machine

variable {P : State → Prop} (hP : Stable P)
include hP



end Sys2Proof.Machine
end

