-- ==== Sys2Proof/Laws/StableAxis.lean ====
section
/-!
SUPPORT. The operations of Machine/Axis.lean keep every stable property (Laws/Stable.lean).
-/

namespace Sys2Proof.Machine

variable {P : State → Prop} (hP : Stable P)
include hP

theorem State.enableLeg_stable {s : State} (h : P s) (l : Nat) : P (State.enableLeg s l) := by
  unfold State.enableLeg
  repeat' with_reducible first | assumption | intro _ | apply State.put_stable hP | apply State.modSched_stable hP | apply State.modLeg_stable hP | apply State.refreshHeld_stable hP | apply State.ite_stable | apply State.ite_snd_stable | apply State.ite_fst_stable | split | (dsimp only; split)

theorem State.clearLeg_stable {s : State} (h : P s) (l : Nat) : P (State.clearLeg s l) := by
  unfold State.clearLeg
  repeat' with_reducible first | assumption | intro _ | apply State.put_stable hP | apply State.modSched_stable hP | apply State.modLeg_stable hP | apply State.disableLeg_stable hP | apply State.ite_stable | apply State.ite_snd_stable | apply State.ite_fst_stable | split | (dsimp only; split)

theorem State.clearAxisLegs_stable {s : State} (h : P s) (n : Nat) : P (State.clearAxisLegs s n) := by
  unfold State.clearAxisLegs
  repeat' with_reducible first | assumption | intro _ | apply State.clearLeg_stable hP | apply State.each_stable | apply State.ite_stable | apply State.ite_snd_stable | apply State.ite_fst_stable | split | (dsimp only; split)

theorem State.drawCmp_stable {s : State} (h : P s) (n : Nat) : P (State.drawCmp s n).2 := by
  unfold State.drawCmp
  repeat' with_reducible first | assumption | intro _ | refine State.draw_stable hP (by assumption) ?_ | apply State.drawSnd_stable hP | apply State.ite_stable | apply State.ite_snd_stable | apply State.ite_fst_stable | split | (dsimp only; split)

theorem State.drawCmp_stableEq {s tt : State} {x : Bool} {n : Nat} (heq : State.drawCmp s n = (x, tt)) (h : P s) : P tt := by
  have := State.drawCmp_stable hP h n
  rw [heq] at this; exact this

theorem State.setGen_stable {s : State} (h : P s) (n : Nat) (en : Bool) : P (State.setGen s n en) := by
  unfold State.setGen
  repeat' with_reducible first | assumption | intro _ | apply State.drawCmp_stable hP | refine State.drawCmp_stableEq hP (by assumption) ?_ | apply State.putB_stable hP | apply State.syncEnable_stable hP | apply State.ite_stable | apply State.ite_snd_stable | apply State.ite_fst_stable | split | (dsimp only; split)

theorem State.legIgnored_stable {s : State} (h : P s) (l : Nat) : P (State.legIgnored s l) := by
  unfold State.legIgnored
  repeat' with_reducible first | assumption | intro _ | apply State.put_stable hP | apply State.ite_stable | apply State.ite_snd_stable | apply State.ite_fst_stable | split | (dsimp only; split)

theorem State.guardPut_stable {s : State} (h : P s) (l : Nat) (f : Fld) (v : Nat) : P (State.guardPut s l f v) := by
  unfold State.guardPut
  repeat' with_reducible first | assumption | intro _ | apply State.legIgnored_stable hP | apply State.put_stable hP | apply State.ite_stable | apply State.ite_snd_stable | apply State.ite_fst_stable | split | (dsimp only; split)

theorem State.stepperLoads_stable {s : State} (h : P s) (c : Nat) : P (State.stepperLoads s c) := by
  unfold State.stepperLoads
  repeat' with_reducible first | assumption | intro _ | apply State.put_stable hP | apply State.ite_stable | apply State.ite_snd_stable | apply State.ite_fst_stable | split | (dsimp only; split)

theorem State.applyRefresh_stable {s : State} (h : P s) (legs : List Nat) (v : List Byte) : P (State.applyRefresh s legs v) := by
  unfold State.applyRefresh
  repeat' with_reducible first | assumption | intro _ | apply State.put_stable hP | apply State.guardPut_stable hP | apply State.each_stable | apply State.ite_stable | apply State.ite_snd_stable | apply State.ite_fst_stable | split | (dsimp only; split)

theorem State.bindAxis_stable {s : State} (h : P s) (a : AxCfg) : P (State.bindAxis s a) := by
  unfold State.bindAxis
  repeat' with_reducible first | assumption | intro _ | apply State.wr_stable hP | apply State.put_stable hP | apply State.putB_stable hP | apply State.guardPut_stable hP | apply State.applyRefresh_stable hP | apply State.stepperLoads_stable hP | apply State.modAxis_stable hP | apply State.setGen_stable hP | apply State.glEnable_stable hP | apply State.glCfgSend_stable hP | apply State.each_stable | apply State.ite_stable | apply State.ite_snd_stable | apply State.ite_fst_stable | apply State.filterRegs_stable hP | apply State.filterMem_stable hP | split | (dsimp only; split)

theorem execAxConfig_stable {s tt : State} {c : HostCmd} (e : execAxConfig c s = .next tt) (h : P s) :
    P tt := by
  unfold execAxConfig at e
  injection e with e
  rw [← e]
  repeat' with_reducible first | assumption | intro _ | apply State.hostCmd_stable hP | apply refuseMode_stable | refine refuseMode_stableEq (by assumption) ?_ | apply refuse_stable | refine refuse_stableEq (by assumption) ?_ | apply okReply_stable | refine okReply_stableEq (by assumption) ?_ | apply State.bindAxis_stable hP | apply State.status_stable hP | refine State.draw_stable hP (by assumption) ?_ | apply State.drawSnd_stable hP | apply State.ite_stable | apply State.ite_snd_stable | apply State.ite_fst_stable | apply State.foldl_stable | split | (dsimp only; split)

theorem State.enableAxisLegs_stable {s : State} (h : P s) (n : Nat) : P (State.enableAxisLegs s n) := by
  unfold State.enableAxisLegs
  repeat' with_reducible first | assumption | intro _ | apply State.enableLeg_stable hP | apply State.each_stable | apply State.ite_stable | apply State.ite_snd_stable | apply State.ite_fst_stable | split | (dsimp only; split)

theorem State.axGoto_stable {s : State} (h : P s) (n target : Nat) : P (State.axGoto s n target) := by
  unfold State.axGoto
  repeat' with_reducible first | assumption | intro _ | apply State.setAxState_stable hP | apply State.modAxis_stable hP | apply State.clearAxisLegs_stable hP | apply State.enableAxisLegs_stable hP | apply State.ite_stable | apply State.ite_snd_stable | apply State.ite_fst_stable | split | (dsimp only; split)

theorem execAxState_stable {s tt : State} {c : HostCmd} (e : execAxState c s = .next tt) (h : P s) :
    P tt := by
  unfold execAxState at e
  injection e with e
  rw [← e]
  repeat' with_reducible first | assumption | intro _ | apply State.hostCmd_stable hP | apply refuseMode_stable | refine refuseMode_stableEq (by assumption) ?_ | apply refuse_stable | refine refuse_stableEq (by assumption) ?_ | apply State.status_stable hP | apply okReply_stable | refine okReply_stableEq (by assumption) ?_ | apply State.axGoto_stable hP | apply State.ite_stable | apply State.ite_snd_stable | apply State.ite_fst_stable | split | (dsimp only; split)

theorem execAxRecover_stable {s tt : State} {c : HostCmd} (e : execAxRecover c s = .next tt) (h : P s) :
    P tt := by
  unfold execAxRecover at e
  injection e with e
  rw [← e]
  repeat' with_reducible first | assumption | intro _ | apply State.hostCmd_stable hP | apply refuseMode_stable | refine refuseMode_stableEq (by assumption) ?_ | apply refuse_stable | refine refuse_stableEq (by assumption) ?_ | apply State.setGen_stable hP | apply okReply_stable | refine okReply_stableEq (by assumption) ?_ | apply State.axGoto_stable hP | apply State.status_stable hP | apply State.ite_stable | apply State.ite_snd_stable | apply State.ite_fst_stable | split | (dsimp only; split)

theorem execAxBridgeEn_stable {s tt : State} {c : HostCmd} (e : execAxBridgeEn c s = .next tt) (h : P s) :
    P tt := by
  unfold execAxBridgeEn at e
  injection e with e
  rw [← e]
  repeat' with_reducible first | assumption | intro _ | apply State.hostCmd_stable hP | apply refuseMode_stable | refine refuseMode_stableEq (by assumption) ?_ | apply refuse_stable | refine refuse_stableEq (by assumption) ?_ | apply okReply_stable | refine okReply_stableEq (by assumption) ?_ | apply State.setGen_stable hP | apply State.ite_stable | apply State.ite_snd_stable | apply State.ite_fst_stable | split | (dsimp only; split)

theorem State.writeSetpoint_stable {s : State} (h : P s) (n : Nat) (p : Setpoint) : P (State.writeSetpoint s n p) := by
  unfold State.writeSetpoint
  repeat' with_reducible first | assumption | intro _ | apply State.modAxis_stable hP | apply State.ite_stable | apply State.ite_snd_stable | apply State.ite_fst_stable | split | (dsimp only; split)

theorem execAxSetpoint_stable {s tt : State} {c : HostCmd} (e : execAxSetpoint c s = .next tt) (h : P s) :
    P tt := by
  unfold execAxSetpoint at e
  injection e with e
  rw [← e]
  repeat' with_reducible first | assumption | intro _ | apply State.hostCmd_stable hP | apply refuseMode_stable | refine refuseMode_stableEq (by assumption) ?_ | apply refuse_stable | refine refuse_stableEq (by assumption) ?_ | apply okReply_stable | refine okReply_stableEq (by assumption) ?_ | apply State.writeSetpoint_stable hP | apply State.ite_stable | apply State.ite_snd_stable | apply State.ite_fst_stable | split | (dsimp only; split)

theorem execSetpointTimeout_stable {s tt : State} {n : Fin 16} (e : execSetpointTimeout n s = .next tt) (h : P s) :
    P tt := by
  unfold execSetpointTimeout at e
  injection e with e
  rw [← e]
  repeat' with_reducible first | assumption | intro _ | apply State.modAxis_stable hP | apply State.maskHit_stable hP | apply State.assertEv_stable hP | apply State.ite_stable | apply State.ite_snd_stable | apply State.ite_fst_stable | split | (dsimp only; split)

theorem execAxLimits_stable {s tt : State} {c : HostCmd} (e : execAxLimits c s = .next tt) (h : P s) :
    P tt := by
  unfold execAxLimits at e
  injection e with e
  rw [← e]
  repeat' with_reducible first | assumption | intro _ | apply State.hostCmd_stable hP | apply refuseMode_stable | refine refuseMode_stableEq (by assumption) ?_ | apply refuse_stable | refine refuse_stableEq (by assumption) ?_ | apply okReply_stable | refine okReply_stableEq (by assumption) ?_ | apply State.modAxis_stable hP | apply State.ite_stable | apply State.ite_snd_stable | apply State.ite_fst_stable | split | (dsimp only; split)

theorem State.applyParam_stable {s : State} (h : P s) (n id : Nat) (v : List Byte) : P (State.applyParam s n id v) := by
  unfold State.applyParam
  repeat' with_reducible first | assumption | intro _ | apply State.wr_stable hP | apply State.modAxis_stable hP | apply State.applyRefresh_stable hP | apply State.ite_stable | apply State.ite_snd_stable | apply State.ite_fst_stable | split | (dsimp only; split)

theorem execAxParamWrite_stable {s tt : State} {c : HostCmd} (e : execAxParamWrite c s = .next tt) (h : P s) :
    P tt := by
  unfold execAxParamWrite at e
  injection e with e
  rw [← e]
  repeat' with_reducible first | assumption | intro _ | apply State.hostCmd_stable hP | apply refuseMode_stable | refine refuseMode_stableEq (by assumption) ?_ | apply refuse_stable | refine refuse_stableEq (by assumption) ?_ | apply State.modAxis_stable hP | apply okReply_stable | refine okReply_stableEq (by assumption) ?_ | apply State.applyParam_stable hP | refine State.draw_stable hP (by assumption) ?_ | apply State.drawSnd_stable hP | apply State.ite_stable | apply State.ite_snd_stable | apply State.ite_fst_stable | apply State.filterRegs_stable hP | apply State.filterMem_stable hP | split | (dsimp only; split)

theorem execAxParamRead_stable {s tt : State} {c : HostCmd} (e : execAxParamRead c s = .next tt) (h : P s) :
    P tt := by
  unfold execAxParamRead at e
  injection e with e
  rw [← e]
  repeat' with_reducible first | assumption | intro _ | apply State.hostCmd_stable hP | apply refuseMode_stable | refine refuseMode_stableEq (by assumption) ?_ | apply refuse_stable | refine refuse_stableEq (by assumption) ?_ | apply replyWith_stable hP | refine replyWith_stableEq hP (by assumption) ?_ | apply State.ite_stable | apply State.ite_snd_stable | apply State.ite_fst_stable | split | (dsimp only; split)

theorem execAxStatus_stable {s tt : State} {c : HostCmd} (e : execAxStatus c s = .next tt) (h : P s) :
    P tt := by
  unfold execAxStatus at e
  injection e with e
  rw [← e]
  repeat' with_reducible first | assumption | intro _ | apply State.hostCmd_stable hP | apply refuseMode_stable | refine refuseMode_stableEq (by assumption) ?_ | apply refuse_stable | refine refuse_stableEq (by assumption) ?_ | apply okResult_stable | refine okResult_stableEq (by assumption) ?_ | apply State.ite_stable | apply State.ite_snd_stable | apply State.ite_fst_stable | split | (dsimp only; split)

theorem execAxPositionSet_stable {s tt : State} {c : HostCmd} (e : execAxPositionSet c s = .next tt) (h : P s) :
    P tt := by
  unfold execAxPositionSet at e
  injection e with e
  rw [← e]
  repeat' with_reducible first | assumption | intro _ | apply State.hostCmd_stable hP | apply refuseMode_stable | refine refuseMode_stableEq (by assumption) ?_ | apply refuse_stable | refine refuse_stableEq (by assumption) ?_ | apply okReply_stable | refine okReply_stableEq (by assumption) ?_ | apply State.wr_stable hP | apply State.put_stable hP | apply State.ite_stable | apply State.ite_snd_stable | apply State.ite_fst_stable | split | (dsimp only; split)

theorem execAxCapture_stable {s tt : State} {c : HostCmd} (e : execAxCapture c s = .next tt) (h : P s) :
    P tt := by
  unfold execAxCapture at e
  injection e with e
  rw [← e]
  repeat' with_reducible first | assumption | intro _ | apply State.hostCmd_stable hP | apply refuseMode_stable | refine refuseMode_stableEq (by assumption) ?_ | apply refuse_stable | refine refuse_stableEq (by assumption) ?_ | apply State.wr_stable hP | apply okReply_stable | refine okReply_stableEq (by assumption) ?_ | apply State.put_stable hP | apply okResult_stable | refine okResult_stableEq (by assumption) ?_ | apply State.ite_stable | apply State.ite_snd_stable | apply State.ite_fst_stable | split | (dsimp only; split)

theorem execStandstillEnter_stable {s tt : State} {n : Fin 16} (e : execStandstillEnter n s = .next tt) (h : P s) :
    P tt := by
  unfold execStandstillEnter at e
  injection e with e
  rw [← e]
  repeat' with_reducible first | assumption | intro _ | apply State.modAxis_stable hP | apply State.clearAxisLegs_stable hP | apply State.ite_stable | apply State.ite_snd_stable | apply State.ite_fst_stable | split | (dsimp only; split)

theorem State.endFreewheel_stable {s : State} (h : P s) (n : Nat) : P (State.endFreewheel s n) := by
  unfold State.endFreewheel
  repeat' with_reducible first | assumption | intro _ | apply State.enableAxisLegs_stable hP | apply State.modAxis_stable hP | apply State.ite_stable | apply State.ite_snd_stable | apply State.ite_fst_stable | split | (dsimp only; split)

theorem State.beginMove_stable {s : State} (h : P s) (n : Nat) (engage : Bool) : P (State.beginMove s n engage) := by
  unfold State.beginMove
  repeat' with_reducible first | assumption | intro _ | apply State.endFreewheel_stable hP | apply State.modAxis_stable hP | apply State.puRequest_stable hP | apply State.ite_stable | apply State.ite_snd_stable | apply State.ite_fst_stable | split | (dsimp only; split)

theorem execStepperLegsReady_stable {s tt : State} {n : Fin 16} (e : execStepperLegsReady n s = .next tt) (h : P s) :
    P tt := by
  unfold execStepperLegsReady at e
  injection e with e
  rw [← e]
  repeat' with_reducible first | assumption | intro _ | apply State.modAxis_stable hP | apply State.puRequest_stable hP | apply State.ite_stable | apply State.ite_snd_stable | apply State.ite_fst_stable | split | (dsimp only; split)

theorem execStepClampReport_stable {s tt : State} {n : Fin 16} (e : execStepClampReport n s = .next tt) (h : P s) :
    P tt := by
  unfold execStepClampReport at e
  injection e with e
  rw [← e]
  repeat' with_reducible first | assumption | intro _ | apply State.modAxis_stable hP | apply State.ite_stable | apply State.ite_snd_stable | apply State.ite_fst_stable | split | (dsimp only; split)

end Sys2Proof.Machine
end

