-- ==== Sys2Proof/Laws/StableTrajectory.lean ====
section
/-!
SUPPORT. The operations of Machine/Trajectory.lean keep every stable property (Laws/Stable.lean).
-/

namespace Sys2Proof.Machine

variable {P : State → Prop} (hP : Stable P)
include hP

theorem State.writeCtx_stable {s : State} (h : P s) (c : Nat) (bs : List Byte) : P (State.writeCtx s c bs) := by
  unfold State.writeCtx
  repeat' with_reducible first | assumption | intro _ | apply State.wr_stable hP | apply State.each_stable | apply State.ite_stable | apply State.ite_snd_stable | apply State.ite_fst_stable | split | (dsimp only; split)

theorem State.copyCtx_stable {s : State} (h : P s) (c : Nat) : P (State.copyCtx s c) := by
  unfold State.copyCtx
  repeat' with_reducible first | assumption | intro _ | apply State.withCtxCopy_stable hP | apply State.each_stable | apply State.ite_stable | apply State.ite_snd_stable | apply State.ite_fst_stable | split | (dsimp only; split)

theorem execTrajCtxWrite_stable {s tt : State} {c : HostCmd} (e : execTrajCtxWrite c s = .next tt) (h : P s) :
    P tt := by
  unfold execTrajCtxWrite at e
  injection e with e
  rw [← e]
  repeat' with_reducible first | assumption | intro _ | apply State.hostCmd_stable hP | apply State.writeCtx_stable hP | apply refuseMode_stable | refine refuseMode_stableEq (by assumption) ?_ | apply refuse_stable | refine refuse_stableEq (by assumption) ?_ | apply State.copyCtx_stable hP | apply okReply_stable | refine okReply_stableEq (by assumption) ?_ | apply State.ctxCommit_stable hP | apply State.ite_stable | apply State.ite_snd_stable | apply State.ite_fst_stable | split | (dsimp only; split)

theorem execTrajCtxRead_stable {s tt : State} {c : HostCmd} (e : execTrajCtxRead c s = .next tt) (h : P s) :
    P tt := by
  unfold execTrajCtxRead at e
  injection e with e
  rw [← e]
  repeat' with_reducible first | assumption | intro _ | apply State.hostCmd_stable hP | apply refuseMode_stable | refine refuseMode_stableEq (by assumption) ?_ | apply replyWith_stable hP | refine replyWith_stableEq hP (by assumption) ?_ | apply State.ite_stable | apply State.ite_snd_stable | apply State.ite_fst_stable | split | (dsimp only; split)

theorem execTrajAssign_stable {s tt : State} {c : HostCmd} (e : execTrajAssign c s = .next tt) (h : P s) :
    P tt := by
  unfold execTrajAssign at e
  injection e with e
  rw [← e]
  repeat' with_reducible first | assumption | intro _ | apply State.hostCmd_stable hP | apply refuseMode_stable | refine refuseMode_stableEq (by assumption) ?_ | apply refuse_stable | refine refuse_stableEq (by assumption) ?_ | apply okReply_stable | refine okReply_stableEq (by assumption) ?_ | apply State.putB_stable hP | apply State.put_stable hP | apply State.ite_stable | apply State.ite_snd_stable | apply State.ite_fst_stable | split | (dsimp only; split)

theorem State.queueCtx_stable {s : State} (h : P s) (n c : Nat) : P (State.queueCtx s n c) := by
  unfold State.queueCtx
  repeat' with_reducible first | assumption | intro _ | apply State.put_stable hP | apply State.ite_stable | apply State.ite_snd_stable | apply State.ite_fst_stable | split | (dsimp only; split)

theorem execTrajStart_stable {s tt : State} {c : HostCmd} (e : execTrajStart c s = .next tt) (h : P s) :
    P tt := by
  unfold execTrajStart at e
  injection e with e
  rw [← e]
  repeat' with_reducible first | assumption | intro _ | apply State.hostCmd_stable hP | apply refuse_stable | refine refuse_stableEq (by assumption) ?_ | apply refuseMode_stable | refine refuseMode_stableEq (by assumption) ?_ | apply State.queueCtx_stable hP | apply okReply_stable | refine okReply_stableEq (by assumption) ?_ | apply State.endFreewheel_stable hP | apply State.beginMove_stable hP | apply State.puRequest_stable hP | apply State.ite_stable | apply State.ite_snd_stable | apply State.ite_fst_stable | split | (dsimp only; split)

theorem execTrajTarget_stable {s tt : State} {c : HostCmd} (e : execTrajTarget c s = .next tt) (h : P s) :
    P tt := by
  unfold execTrajTarget at e
  injection e with e
  rw [← e]
  repeat' with_reducible first | assumption | intro _ | apply State.hostCmd_stable hP | apply refuse_stable | refine refuse_stableEq (by assumption) ?_ | apply refuseMode_stable | refine refuseMode_stableEq (by assumption) ?_ | apply State.wr_stable hP | apply State.put_stable hP | apply okReply_stable | refine okReply_stableEq (by assumption) ?_ | apply State.copyCtx_stable hP | apply State.ctxCommit_stable hP | apply State.puRequest_stable hP | apply State.ite_stable | apply State.ite_snd_stable | apply State.ite_fst_stable | split | (dsimp only; split)

theorem execTrajParam_stable {s tt : State} {c : HostCmd} (e : execTrajParam c s = .next tt) (h : P s) :
    P tt := by
  unfold execTrajParam at e
  injection e with e
  rw [← e]
  repeat' with_reducible first | assumption | intro _ | apply State.hostCmdW_stable hP | apply State.put_stable hP | apply State.wr_stable hP | apply State.status_stable hP | apply State.copyCtx_stable hP | apply State.ctxCommit_stable hP | apply State.modProfile_stable hP | apply Step8.done_stable | apply Step8.waits_stable | apply State.ite_stable | apply State.ite_snd_stable | apply State.ite_fst_stable | split | (dsimp only; split)

theorem execTrajStop_stable {s tt : State} {c : HostCmd} (e : execTrajStop c s = .next tt) (h : P s) :
    P tt := by
  unfold execTrajStop at e
  injection e with e
  rw [← e]
  repeat' with_reducible first | assumption | intro _ | apply State.hostCmd_stable hP | apply refuseMode_stable | refine refuseMode_stableEq (by assumption) ?_ | apply okReply_stable | refine okReply_stableEq (by assumption) ?_ | apply State.puRequest_stable hP | apply State.each_stable | apply State.ite_stable | apply State.ite_snd_stable | apply State.ite_fst_stable | split | (dsimp only; split)

theorem execTrajStatus_stable {s tt : State} {c : HostCmd} (e : execTrajStatus c s = .next tt) (h : P s) :
    P tt := by
  unfold execTrajStatus at e
  injection e with e
  rw [← e]
  repeat' with_reducible first | assumption | intro _ | apply State.hostCmd_stable hP | apply refuseMode_stable | refine refuseMode_stableEq (by assumption) ?_ | apply refuse_stable | refine refuse_stableEq (by assumption) ?_ | apply okResult_stable | refine okResult_stableEq (by assumption) ?_ | apply State.ite_stable | apply State.ite_snd_stable | apply State.ite_fst_stable | split | (dsimp only; split)

theorem execGearEngage_stable {s tt : State} {c : HostCmd} (e : execGearEngage c s = .next tt) (h : P s) :
    P tt := by
  unfold execGearEngage at e
  injection e with e
  rw [← e]
  repeat' with_reducible first | assumption | intro _ | apply State.hostCmd_stable hP | apply refuse_stable | refine refuse_stableEq (by assumption) ?_ | apply refuseMode_stable | refine refuseMode_stableEq (by assumption) ?_ | apply okReply_stable | refine okReply_stableEq (by assumption) ?_ | apply State.queueCtx_stable hP | apply State.beginMove_stable hP | apply State.ite_stable | apply State.ite_snd_stable | apply State.ite_fst_stable | split | (dsimp only; split)

theorem execGearTable_stable {s tt : State} {c : HostCmd} (e : execGearTable c s = .next tt) (h : P s) :
    P tt := by
  unfold execGearTable at e
  injection e with e
  rw [← e]
  repeat' with_reducible first | assumption | intro _ | apply State.hostCmdW_stable hP | apply State.wr_stable hP | apply State.status_stable hP | apply State.copyCtx_stable hP | apply State.ctxCommit_stable hP | apply State.modProfile_stable hP | apply Step8.done_stable | apply Step8.waits_stable | apply State.each_stable | apply State.ite_stable | apply State.ite_snd_stable | apply State.ite_fst_stable | split | (dsimp only; split)

theorem execGearDisengage_stable {s tt : State} {c : HostCmd} (e : execGearDisengage c s = .next tt) (h : P s) :
    P tt := by
  unfold execGearDisengage at e
  injection e with e
  rw [← e]
  repeat' with_reducible first | assumption | intro _ | apply State.hostCmd_stable hP | apply refuseMode_stable | refine refuseMode_stableEq (by assumption) ?_ | apply refuse_stable | refine refuse_stableEq (by assumption) ?_ | apply okReply_stable | refine okReply_stableEq (by assumption) ?_ | apply State.puRequest_stable hP | apply State.ite_stable | apply State.ite_snd_stable | apply State.ite_fst_stable | split | (dsimp only; split)

theorem execVmasterSet_stable {s tt : State} {c : HostCmd} (e : execVmasterSet c s = .next tt) (h : P s) :
    P tt := by
  unfold execVmasterSet at e
  injection e with e
  rw [← e]
  repeat' with_reducible first | assumption | intro _ | apply State.hostCmd_stable hP | apply refuseMode_stable | refine refuseMode_stableEq (by assumption) ?_ | apply refuse_stable | refine refuse_stableEq (by assumption) ?_ | apply okReply_stable | refine okReply_stableEq (by assumption) ?_ | apply State.vmSet_stable hP | apply State.ite_stable | apply State.ite_snd_stable | apply State.ite_fst_stable | split | (dsimp only; split)

theorem State.syncNax_stable {s : State} (h : P s)  : P (State.syncNax s) := by
  unfold State.syncNax
  repeat' with_reducible first | assumption | intro _ | apply State.put_stable hP | apply State.each_stable | apply State.ite_stable | apply State.ite_snd_stable | apply State.ite_fst_stable | split | (dsimp only; split)

theorem execPuAxisCfg_stable {s tt : State} {c : HostCmd} (e : execPuAxisCfg c s = .next tt) (h : P s) :
    P tt := by
  unfold execPuAxisCfg at e
  injection e with e
  rw [← e]
  repeat' with_reducible first | assumption | intro _ | apply State.hostCmd_stable hP | apply State.put_stable hP | apply refuseMode_stable | refine refuseMode_stableEq (by assumption) ?_ | apply refuse_stable | refine refuse_stableEq (by assumption) ?_ | apply okReply_stable | refine okReply_stableEq (by assumption) ?_ | apply State.syncNax_stable hP | apply State.ite_stable | apply State.ite_snd_stable | apply State.ite_fst_stable | split | (dsimp only; split)

end Sys2Proof.Machine
end

