-- ==== Sys2Proof/Laws/StableWear.lean ====
section
/-!
SUPPORT. The operations of Machine/Wear.lean keep every stable property (Laws/Stable.lean).
-/

namespace Sys2Proof.Machine

variable {P : State → Prop} (hP : Stable P)
include hP

theorem State.derate_stable {s : State} (h : P s) (n : Nat) : P (State.derate s n) := by
  unfold State.derate
  repeat' with_reducible first | assumption | intro _ | apply State.put_stable hP | apply State.putB_stable hP | apply State.ite_stable | apply State.ite_snd_stable | apply State.ite_fst_stable | apply State.foldl_stable | split | (dsimp only; split)

theorem State.wearInc_stable {s : State} (h : P s) (p field amount : Nat) : P (State.wearInc s p field amount) := by
  unfold State.wearInc
  repeat' with_reducible first | assumption | intro _ | apply State.modWear_stable hP | apply State.withWearQ_stable hP | apply State.ite_stable | apply State.ite_snd_stable | apply State.ite_fst_stable | apply State.filterRegs_stable hP | apply State.filterMem_stable hP | split | (dsimp only; split)

theorem State.wearLife_stable {s : State} (h : P s) (p add : Nat) : P (State.wearLife s p add) := by
  unfold State.wearLife
  repeat' with_reducible first | assumption | intro _ | apply State.modWear_stable hP | apply State.wr_stable hP | apply State.assertEv_stable hP | apply State.ite_stable | apply State.ite_snd_stable | apply State.ite_fst_stable | split | (dsimp only; split)

theorem State.wearCount_stable {s : State} (h : P s) (p : Nat) (x : Nat) (m2 : Int) (h : Nat) : P (State.wearCount s p x m2 h) := by
  unfold State.wearCount
  repeat' with_reducible first | assumption | intro _ | apply State.wearInc_stable hP | apply State.wearLife_stable hP | apply State.ite_stable | apply State.ite_snd_stable | apply State.ite_fst_stable | split | (dsimp only; split)

theorem State.wearLoop_stable (p k : Nat) : ∀ {s : State} (st : List Int), P s → P (State.wearLoop p k st s).2 := by
  induction k with
  | zero => intro s st h; exact h
  | succ k ih =>
    intro s st h
    unfold State.wearLoop
    repeat' with_reducible first | assumption | apply ih | apply State.wearCount_stable hP | split | (dsimp only; split)

theorem State.wearLoop_stableEq {p k : Nat} {s t : State} {st x : List Int} (heq : State.wearLoop p k st s = (x, t)) (h : P s) :
    P t := by
  have := State.wearLoop_stable hP p k st h
  rw [heq] at this; exact this


theorem State.wearPush_stable {s : State} (h : P s) (p : Nat) (x : Int) : P (State.wearPush s p x) := by
  unfold State.wearPush
  repeat' with_reducible first | assumption | intro _ | apply State.wearLoop_stable hP | refine State.wearLoop_stableEq hP (by assumption) ?_ | apply State.wearCount_stable hP | apply State.wearInc_stable hP | apply State.put_stable hP | apply State.modWear_stable hP | apply State.ite_stable | apply State.ite_snd_stable | apply State.ite_fst_stable | split | (dsimp only; split)

theorem State.wearStackOut_stable {s : State} (h : P s) (p : Nat) : P (State.wearStackOut s p) := by
  unfold State.wearStackOut
  repeat' with_reducible first | assumption | intro _ | apply State.wrBytes_stable hP | apply State.wr8_stable hP | apply State.each_stable | apply State.ite_stable | apply State.ite_snd_stable | apply State.ite_fst_stable | split | (dsimp only; split)

theorem State.wearFlushOne_stable {s : State} (h : P s) (p : Nat) : P (State.wearFlushOne s p) := by
  unfold State.wearFlushOne
  repeat' with_reducible first | assumption | intro _ | apply State.wearCount_stable hP | apply State.modWear_stable hP | apply State.put_stable hP | apply State.wearStackOut_stable hP | apply State.each_stable | apply State.ite_stable | apply State.ite_snd_stable | apply State.ite_fst_stable | split | (dsimp only; split)

theorem State.wearFlush_stable {s : State} (h : P s)  : P (State.wearFlush s) := by
  unfold State.wearFlush
  repeat' with_reducible first | assumption | intro _ | apply State.modWear_stable hP | apply State.wearFlushOne_stable hP | apply State.each_stable | apply State.ite_stable | apply State.ite_snd_stable | apply State.ite_fst_stable | split | (dsimp only; split)

theorem execWearFlush_stable {s tt : State}  (e : execWearFlush s = .next tt) (h : P s) :
    P tt := by
  unfold execWearFlush at e
  injection e with e
  rw [← e]
  repeat' with_reducible first | assumption | intro _ | apply State.wearFlush_stable hP | apply State.ite_stable | apply State.ite_snd_stable | apply State.ite_fst_stable | split | (dsimp only; split)

theorem State.newTj_stable {s : State} (h : P s) (p : Nat) (tj : Int) : P (State.newTj s p tj) := by
  unfold State.newTj
  repeat' with_reducible first | assumption | intro _ | apply State.modWear_stable hP | apply State.put_stable hP | apply State.wearPush_stable hP | apply State.wearStackOut_stable hP | apply State.assertEv_stable hP | apply State.ite_stable | apply State.ite_snd_stable | apply State.ite_fst_stable | split | (dsimp only; split)

theorem State.wearStep_stable {s : State} (h : P s) (p tp : Nat) (e : Int × Nat) : P (State.wearStep s p tp e) := by
  unfold State.wearStep
  repeat' with_reducible first | assumption | intro _ | apply State.modWear_stable hP | apply State.newTj_stable hP | apply State.wearFlushOne_stable hP | apply State.ite_stable | apply State.ite_snd_stable | apply State.ite_fst_stable | apply State.foldl_stable | split | (dsimp only; split)

theorem State.putTset_stable {s : State} (h : P s) (t : Nat) (valid : Bool) (words : List Word) : P (State.putTset s t valid words) := by
  unfold State.putTset
  repeat' with_reducible first | assumption | intro _ | apply State.wr_stable hP | apply State.put_stable hP | apply State.each_stable | apply State.ite_stable | apply State.ite_snd_stable | apply State.ite_fst_stable | split | (dsimp only; split)

theorem State.wearPeriod_stable {s : State} (h : P s) (leg : Nat) (f : State → State) (hf : ∀ t, P t → P (f t)) :
    P (State.wearPeriod s leg f) := by
  unfold State.wearPeriod
  repeat' with_reducible first | assumption | intro _ | apply hf | apply State.putTset_stable hP | apply State.modWear_stable hP | apply State.inc_stable hP | apply State.each_stable | apply State.ite_stable | split | (dsimp only; split)


theorem State.wearVdc_stable {s : State} (h : P s) (leg : Nat) : P (State.wearVdc s leg).2 := by
  unfold State.wearVdc
  repeat' with_reducible first | assumption | intro _ | refine State.draw_stable hP (by assumption) ?_ | apply State.drawSnd_stable hP | apply State.ite_stable | apply State.ite_snd_stable | apply State.ite_fst_stable | split | (dsimp only; split)

theorem State.wearVdc_stableEq {s tt : State} {x : (Int × Nat)} {leg : Nat} (heq : State.wearVdc s leg = (x, tt)) (h : P s) : P tt := by
  have := State.wearVdc_stable hP h leg
  rw [heq] at this; exact this

theorem State.wearLeg_stable {s : State} (h : P s) (leg : Nat) : P (State.wearLeg s leg) := by
  unfold State.wearLeg
  repeat' with_reducible first | assumption | intro _ | apply State.wearVdc_stable hP | refine State.wearVdc_stableEq hP (by assumption) ?_ | apply State.wearStep_stable hP | apply State.putB_stable hP | apply State.ite_stable | apply State.ite_snd_stable | apply State.ite_fst_stable | split | (dsimp only; split)

theorem State.derateOf_stable {s : State} (h : P s) (leg : Nat) : P (State.derateOf s leg) := by
  unfold State.derateOf
  repeat' with_reducible first | assumption | intro _ | apply State.derate_stable hP | apply State.ite_stable | apply State.ite_snd_stable | apply State.ite_fst_stable | split | (dsimp only; split)

theorem execWearPeriodUpdate_stable {s tt : State} {leg : Fin 72} {uu0 uu1 uu2 uu3 uu4 uu5 : Unit} (e : execWearPeriodUpdate leg uu0 uu1 uu2 uu3 uu4 uu5 s = .next tt) (h : P s) :
    P tt := by
  unfold execWearPeriodUpdate at e
  injection e with e
  rw [← e]
  repeat' with_reducible first | assumption | intro _ | apply State.wearPeriod_stable hP | apply State.wearLeg_stable hP | apply State.derateOf_stable hP | apply State.ite_stable | apply State.ite_snd_stable | apply State.ite_fst_stable | split | (dsimp only; split)

theorem execWearIdleUpdate_stable {s tt : State} {leg : Fin 72} (e : execWearIdleUpdate leg s = .next tt) (h : P s) :
    P tt := by
  unfold execWearIdleUpdate at e
  injection e with e
  rw [← e]
  repeat' with_reducible first | assumption | intro _ | apply State.wearPeriod_stable hP | apply State.wearStep_stable hP | apply State.derateOf_stable hP | apply State.ite_stable | apply State.ite_snd_stable | apply State.ite_fst_stable | split | (dsimp only; split)

theorem State.wearWake_stable {s : State} (h : P s) (ticks : Nat) : P (State.wearWake s ticks) := by
  unfold State.wearWake
  repeat' with_reducible first | assumption | intro _ | apply State.wearStep_stable hP | apply State.each_stable | apply State.ite_stable | apply State.ite_snd_stable | apply State.ite_fst_stable | split | (dsimp only; split)

theorem State.wearApply_stable {s : State} (h : P s) (i : WearInc) : P (State.wearApply s i) := by
  unfold State.wearApply
  repeat' with_reducible first | assumption | intro _ | apply State.wrMem32_stable hP | apply State.wrBytes_stable hP | apply State.ite_stable | apply State.ite_snd_stable | apply State.ite_fst_stable | split | (dsimp only; split)

theorem execWearRecordWriteback_stable {s tt : State}  (e : execWearRecordWriteback s = .next tt) (h : P s) :
    P tt := by
  unfold execWearRecordWriteback at e
  injection e with e
  rw [← e]
  repeat' with_reducible first | assumption | intro _ | apply State.withWearQ_stable hP | apply State.wearApply_stable hP | apply State.ite_stable | apply State.ite_snd_stable | apply State.ite_fst_stable | split | (dsimp only; split)

theorem State.wearDrain_stable {s : State} (h : P s) (p : Nat) : P (State.wearDrain s p) := by
  unfold State.wearDrain
  repeat' with_reducible first | assumption | intro _ | apply State.withWearQ_stable hP | apply State.modWear_stable hP | apply State.wearApply_stable hP | apply State.each_stable | apply State.ite_stable | apply State.ite_snd_stable | apply State.ite_fst_stable | apply State.filterRegs_stable hP | apply State.filterMem_stable hP | split | (dsimp only; split)

theorem execWearTables_stable {s tt : State} {c : HostCmd} (e : execWearTables c s = .next tt) (h : P s) :
    P tt := by
  unfold execWearTables at e
  injection e with e
  rw [← e]
  repeat' with_reducible first | assumption | intro _ | apply State.hostCmd_stable hP | apply refuseMode_stable | refine refuseMode_stableEq (by assumption) ?_ | apply refuse_stable | refine refuse_stableEq (by assumption) ?_ | apply okReply_stable | refine okReply_stableEq (by assumption) ?_ | apply State.withWearPart_stable hP | apply State.putTset_stable hP | apply State.modWear_stable hP | apply State.put_stable hP | apply State.assertEv_stable hP | apply State.each_stable | apply State.ite_stable | apply State.ite_snd_stable | apply State.ite_fst_stable | apply State.filterRegs_stable hP | apply State.filterMem_stable hP | split | (dsimp only; split)

theorem execWearRead_stable {s tt : State} {c : HostCmd} (e : execWearRead c s = .next tt) (h : P s) :
    P tt := by
  unfold execWearRead at e
  injection e with e
  rw [← e]
  repeat' with_reducible first | assumption | intro _ | apply State.hostCmd_stable hP | apply refuseMode_stable | refine refuseMode_stableEq (by assumption) ?_ | apply refuse_stable | refine refuse_stableEq (by assumption) ?_ | refine State.resultBufs_stableEq hP (by assumption) ?_ | apply State.status_stable hP | apply State.wearFlushOne_stable hP | apply State.wearDrain_stable hP | apply State.wrBytes_stable hP | apply State.each_stable | apply State.ite_stable | apply State.ite_snd_stable | apply State.ite_fst_stable | split | (dsimp only; split)

theorem execWearRestore_stable {s tt : State} {c : HostCmd} (e : execWearRestore c s = .next tt) (h : P s) :
    P tt := by
  unfold execWearRestore at e
  injection e with e
  rw [← e]
  repeat' with_reducible first | assumption | intro _ | apply State.hostCmd_stable hP | apply refuseMode_stable | refine refuseMode_stableEq (by assumption) ?_ | apply refuse_stable | refine refuse_stableEq (by assumption) ?_ | apply State.wearDrain_stable hP | apply State.wearApply_stable hP | apply okReply_stable | refine okReply_stableEq (by assumption) ?_ | apply State.modWear_stable hP | apply State.wearLife_stable hP | apply State.each_stable | apply State.ite_stable | apply State.ite_snd_stable | apply State.ite_fst_stable | split | (dsimp only; split)

theorem execDerateCfg_stable {s tt : State} {c : HostCmd} (e : execDerateCfg c s = .next tt) (h : P s) :
    P tt := by
  unfold execDerateCfg at e
  injection e with e
  rw [← e]
  repeat' with_reducible first | assumption | intro _ | apply State.hostCmd_stable hP | apply refuseMode_stable | refine refuseMode_stableEq (by assumption) ?_ | apply refuse_stable | refine refuse_stableEq (by assumption) ?_ | apply okReply_stable | refine okReply_stableEq (by assumption) ?_ | apply State.wr_stable hP | apply State.ite_stable | apply State.ite_snd_stable | apply State.ite_fst_stable | split | (dsimp only; split)

end Sys2Proof.Machine
end

