-- ==== Sys2Proof/Laws/StableWeir.lean ====
section
/-!
SUPPORT. The operations of Machine/Weir.lean keep every stable property (Laws/Stable.lean).
-/

namespace Sys2Proof.Machine

variable {P : State → Prop} (hP : Stable P)
include hP

theorem execSourceAssert_stable {s tt : State} {ev : Fin 256} (e : execSourceAssert ev s = .next tt) (h : P s) :
    P tt := by
  unfold execSourceAssert at e
  injection e with e
  rw [← e]
  repeat' with_reducible first | assumption | intro _ | apply State.assertEv_stable hP | apply State.ite_stable | apply State.ite_snd_stable | apply State.ite_fst_stable | split | (dsimp only; split)

theorem State.freezeAngle_stable {s : State} (h : P s) (n stage : Nat) : P (State.freezeAngle s n stage) := by
  unfold State.freezeAngle
  repeat' with_reducible first | assumption | intro _ | apply State.put_stable hP | apply State.modProfile_stable hP | apply State.plainDec_stable hP | apply State.wr_stable hP | apply State.setPuState_stable hP | apply State.modAxis_stable hP | apply State.stage_stable hP | apply State.ite_stable | apply State.ite_snd_stable | apply State.ite_fst_stable | split | (dsimp only; split)

theorem State.stopAxis_stable {s : State} (h : P s) (n : Nat) : P (State.stopAxis s n) := by
  unfold State.stopAxis
  repeat' with_reducible first | assumption | intro _ | apply State.freezeAngle_stable hP | apply State.puRequest_stable hP | apply State.modAxis_stable hP | apply State.ite_stable | apply State.ite_snd_stable | apply State.ite_fst_stable | split | (dsimp only; split)

theorem execAxisStopFirmware_stable {s tt : State} {n : Fin 16} {slow : Bool} (e : execAxisStopFirmware n slow s = .next tt) (h : P s) :
    P tt := by
  unfold execAxisStopFirmware at e
  injection e with e
  rw [← e]
  repeat' with_reducible first | assumption | intro _ | apply State.withWeir_stable hP | apply State.stopAxis_stable hP | apply State.clearAxisLegs_stable hP | apply State.setAxState_stable hP | apply State.checkDone_stable hP | apply State.ite_stable | apply State.ite_snd_stable | apply State.ite_fst_stable | split | (dsimp only; split)

theorem execAxisStopEscalation_stable {s tt : State} {n : Fin 16} (e : execAxisStopEscalation n s = .next tt) (h : P s) :
    P tt := by
  unfold execAxisStopEscalation at e
  injection e with e
  rw [← e]
  repeat' with_reducible first | assumption | intro _ | apply State.put_stable hP | apply State.startReaction_stable hP | apply State.checkDone_stable hP | apply State.ite_stable | apply State.ite_snd_stable | apply State.ite_fst_stable | split | (dsimp only; split)

theorem execAxisSafeoffFirmware_stable {s tt : State} {n : Fin 16} (e : execAxisSafeoffFirmware n s = .next tt) (h : P s) :
    P tt := by
  unfold execAxisSafeoffFirmware at e
  injection e with e
  rw [← e]
  repeat' with_reducible first | assumption | intro _ | apply State.withWeir_stable hP | apply State.writeSetpoint_stable hP | apply State.put_stable hP | apply State.modProfile_stable hP | apply State.ite_stable | apply State.ite_snd_stable | apply State.ite_fst_stable | split | (dsimp only; split)

theorem State.echoAssert_stable {s : State} (h : P s) (legs : List Nat) : P (State.echoAssert s legs) := by
  unfold State.echoAssert
  repeat' with_reducible first | assumption | intro _ | apply State.tripLeg_stable hP | apply State.each_stable | apply State.ite_stable | apply State.ite_snd_stable | apply State.ite_fst_stable | apply State.filterRegs_stable hP | apply State.filterMem_stable hP | split | (dsimp only; split)

theorem execSettleMaskEnd_stable {s tt : State} {m : MaskId} (e : execSettleMaskEnd m s = .next tt) (h : P s) :
    P tt := by
  unfold execSettleMaskEnd at e
  try dsimp only at e
  repeat' split at e
  all_goals first | (injection e with e; rw [← e]) | cases e
  repeat' with_reducible first | assumption | intro _ | apply State.modGroup_stable hP | apply State.syncMask_stable hP | apply State.echoAssert_stable hP | apply State.enableOff_stable hP | apply State.modLink_stable hP | apply State.syncMaskOf_stable hP | apply State.linkLoss_stable hP | apply State.withWeir_stable hP | apply State.assertEv_stable hP | apply State.ite_stable | apply State.ite_snd_stable | apply State.ite_fst_stable | split | (dsimp only; split)

theorem State.kick_stable {s : State} (h : P s)  : P (State.kick s) := by
  unfold State.kick
  repeat' with_reducible first | assumption | intro _ | apply State.withWeir_stable hP | apply State.ite_stable | apply State.ite_snd_stable | apply State.ite_fst_stable | split | (dsimp only; split)

theorem execSupHeartbeatKick_stable {s tt : State}  (e : execSupHeartbeatKick s = .next tt) (h : P s) :
    P tt := by
  unfold execSupHeartbeatKick at e
  injection e with e
  rw [← e]
  repeat' with_reducible first | assumption | intro _ | apply State.kick_stable hP | apply State.ite_stable | apply State.ite_snd_stable | apply State.ite_fst_stable | split | (dsimp only; split)

theorem execSupWatchdogMiss_stable {s tt : State}  (e : execSupWatchdogMiss s = .next tt) (h : P s) :
    P tt := by
  unfold execSupWatchdogMiss at e
  injection e with e
  rw [← e]
  repeat' with_reducible first | assumption | intro _ | apply State.put_stable hP | apply State.inc_stable hP | apply State.assertEv_stable hP | apply State.ite_stable | apply State.ite_snd_stable | apply State.ite_fst_stable | split | (dsimp only; split)

theorem State.requestWarm_stable {s : State} (h : P s) (bit : Nat) : P (State.requestWarm s bit) := by
  unfold State.requestWarm
  repeat' with_reducible first | assumption | intro _ | apply State.withMode_stable hP | apply State.ite_stable | apply State.ite_snd_stable | apply State.ite_fst_stable | split | (dsimp only; split)

theorem execSfmResetRequest_stable {s tt : State}  (e : execSfmResetRequest s = .next tt) (h : P s) :
    P tt := by
  unfold execSfmResetRequest at e
  injection e with e
  rw [← e]
  repeat' with_reducible first | assumption | intro _ | apply State.requestWarm_stable hP | apply State.ite_stable | apply State.ite_snd_stable | apply State.ite_fst_stable | split | (dsimp only; split)

theorem execSfmConfigCheck_stable {s tt : State}  (e : execSfmConfigCheck s = .next tt) (h : P s) :
    P tt := by
  unfold execSfmConfigCheck at e
  injection e with e
  rw [← e]
  repeat' with_reducible first | assumption | intro _ | apply State.put_stable hP | apply State.assertEv_stable hP | apply State.ite_stable | apply State.ite_snd_stable | apply State.ite_fst_stable | split | (dsimp only; split)

theorem execSfmLockstepMismatch_stable {s tt : State}  (e : execSfmLockstepMismatch s = .next tt) (h : P s) :
    P tt := by
  unfold execSfmLockstepMismatch at e
  injection e with e
  rw [← e]
  repeat' with_reducible first | assumption | intro _ | apply State.put_stable hP | apply State.assertEv_stable hP | apply State.ite_stable | apply State.ite_snd_stable | apply State.ite_fst_stable | split | (dsimp only; split)

theorem State.bistRecord_stable {s : State} (h : P s) (t i r : Nat) : P (State.bistRecord s t i r) := by
  unfold State.bistRecord
  repeat' with_reducible first | assumption | intro _ | apply State.put_stable hP | apply State.ite_stable | apply State.ite_snd_stable | apply State.ite_fst_stable | split | (dsimp only; split)

theorem State.afterTests_stable {s : State} (h : P s)  : P (State.afterTests s) := by
  unfold State.afterTests
  repeat' with_reducible first | assumption | intro _ | apply State.bootRecovery_stable hP | apply State.ite_stable | apply State.ite_snd_stable | apply State.ite_fst_stable | split | (dsimp only; split)

theorem State.selfTests_stable {s : State} (h : P s) (bad : List (Fin 4 × Nat × Bool)) : P (State.selfTests s bad) := by
  unfold State.selfTests
  repeat' with_reducible first | assumption | intro _ | apply State.put_stable hP | apply State.bistRecord_stable hP | apply State.withWeir_stable hP | apply State.afterTests_stable hP | apply State.each_stable | apply State.ite_stable | apply State.ite_snd_stable | apply State.ite_fst_stable | split | (dsimp only; split)

theorem execSelfTestRetry_stable {s tt : State} {t : Fin 4} {inst : Nat} {result : Fin 4} (e : execSelfTestRetry t inst result s = .next tt) (h : P s) :
    P tt := by
  unfold execSelfTestRetry at e
  injection e with e
  rw [← e]
  repeat' with_reducible first | assumption | intro _ | apply State.withWeir_stable hP | apply State.bistRecord_stable hP | apply State.afterTests_stable hP | apply State.ite_stable | apply State.ite_snd_stable | apply State.ite_fst_stable | apply State.filterRegs_stable hP | apply State.filterMem_stable hP | split | (dsimp only; split)

theorem State.rearm_stable {s : State} (h : P s) (mask : Nat) : P (State.rearm s mask).2 := by
  unfold State.rearm
  repeat' with_reducible first | assumption | intro _ | apply State.put_stable hP | apply State.ite_stable | apply State.ite_snd_stable | apply State.ite_fst_stable | apply State.foldl_stable | split | (dsimp only; split)

theorem State.rearm_stableEq {s tt : State} {x : Nat} {mask : Nat} (heq : State.rearm s mask = (x, tt)) (h : P s) : P tt := by
  have := State.rearm_stable hP h mask
  rw [heq] at this; exact this

theorem State.clearSticky_stable {s : State} (h : P s) (i m : Nat) : P (State.clearSticky s i m) := by
  unfold State.clearSticky
  repeat' with_reducible first | assumption | intro _ | apply State.put_stable hP | apply State.ite_stable | apply State.ite_snd_stable | apply State.ite_fst_stable | split | (dsimp only; split)

theorem State.writeReact_stable {s : State} (h : P s) (ev r : Nat) : P (State.writeReact s ev r) := by
  unfold State.writeReact
  repeat' with_reducible first | assumption | intro _ | apply State.put_stable hP | apply State.ite_stable | apply State.ite_snd_stable | apply State.ite_fst_stable | split | (dsimp only; split)

theorem State.popNq_stable {s : State} (h : P s)  : P (State.popNq s) := by
  unfold State.popNq
  repeat' with_reducible first | assumption | intro _ | apply State.withWeir_stable hP | apply State.syncNq_stable hP | apply State.ite_stable | apply State.ite_snd_stable | apply State.ite_fst_stable | split | (dsimp only; split)

theorem execFaultRead_stable {s tt : State} {c : HostCmd} (e : execFaultRead c s = .next tt) (h : P s) :
    P tt := by
  unfold execFaultRead at e
  injection e with e
  rw [← e]
  repeat' with_reducible first | assumption | intro _ | apply State.hostCmd_stable hP | apply refuseMode_stable | refine refuseMode_stableEq (by assumption) ?_ | apply replyWith_stable hP | refine replyWith_stableEq hP (by assumption) ?_ | apply State.ite_stable | apply State.ite_snd_stable | apply State.ite_fst_stable | split | (dsimp only; split)

theorem execFaultClear_stable {s tt : State} {c : HostCmd} (e : execFaultClear c s = .next tt) (h : P s) :
    P tt := by
  unfold execFaultClear at e
  injection e with e
  rw [← e]
  repeat' with_reducible first | assumption | intro _ | apply State.hostCmd_stable hP | apply refuseMode_stable | refine refuseMode_stableEq (by assumption) ?_ | apply State.clearSticky_stable hP | apply okResult_stable | refine okResult_stableEq (by assumption) ?_ | apply State.each_stable | apply State.ite_stable | apply State.ite_snd_stable | apply State.ite_fst_stable | apply State.foldl_stable | split | (dsimp only; split)

theorem execFaultRearm_stable {s tt : State} {c : HostCmd} (e : execFaultRearm c s = .next tt) (h : P s) :
    P tt := by
  unfold execFaultRearm at e
  injection e with e
  rw [← e]
  repeat' with_reducible first | assumption | intro _ | apply State.hostCmd_stable hP | apply refuseMode_stable | refine refuseMode_stableEq (by assumption) ?_ | apply State.rearm_stable hP | refine State.rearm_stableEq hP (by assumption) ?_ | apply okResult_stable | refine okResult_stableEq (by assumption) ?_ | apply State.status_stable hP | apply State.ite_stable | apply State.ite_snd_stable | apply State.ite_fst_stable | split | (dsimp only; split)

theorem execFaultReact_stable {s tt : State} {c : HostCmd} (e : execFaultReact c s = .next tt) (h : P s) :
    P tt := by
  unfold execFaultReact at e
  injection e with e
  rw [← e]
  repeat' with_reducible first | assumption | intro _ | apply State.hostCmd_stable hP | apply refuseMode_stable | refine refuseMode_stableEq (by assumption) ?_ | apply refuse_stable | refine refuse_stableEq (by assumption) ?_ | apply State.writeReact_stable hP | apply okReply_stable | refine okReply_stableEq (by assumption) ?_ | apply State.ite_stable | apply State.ite_snd_stable | apply State.ite_fst_stable | split | (dsimp only; split)

theorem execFaultInfo_stable {s tt : State} {c : HostCmd} (e : execFaultInfo c s = .next tt) (h : P s) :
    P tt := by
  unfold execFaultInfo at e
  injection e with e
  rw [← e]
  repeat' with_reducible first | assumption | intro _ | apply State.hostCmd_stable hP | apply refuseMode_stable | refine refuseMode_stableEq (by assumption) ?_ | apply refuse_stable | refine refuse_stableEq (by assumption) ?_ | apply okResult_stable | refine okResult_stableEq (by assumption) ?_ | apply State.ite_stable | apply State.ite_snd_stable | apply State.ite_fst_stable | split | (dsimp only; split)

theorem execFaultDomcfg_stable {s tt : State} {c : HostCmd} (e : execFaultDomcfg c s = .next tt) (h : P s) :
    P tt := by
  unfold execFaultDomcfg at e
  injection e with e
  rw [← e]
  repeat' with_reducible first | assumption | intro _ | apply State.hostCmd_stable hP | apply refuseMode_stable | refine refuseMode_stableEq (by assumption) ?_ | apply refuse_stable | refine refuse_stableEq (by assumption) ?_ | apply State.put_stable hP | apply okReply_stable | refine okReply_stableEq (by assumption) ?_ | apply State.ite_stable | apply State.ite_snd_stable | apply State.ite_fst_stable | split | (dsimp only; split)

theorem execFaultNotify_stable {s tt : State} {c : HostCmd} (e : execFaultNotify c s = .next tt) (h : P s) :
    P tt := by
  unfold execFaultNotify at e
  injection e with e
  rw [← e]
  repeat' with_reducible first | assumption | intro _ | apply State.hostCmd_stable hP | apply refuseMode_stable | refine refuseMode_stableEq (by assumption) ?_ | apply State.withWeir_stable hP | apply State.syncNq_stable hP | apply okResult_stable | refine okResult_stableEq (by assumption) ?_ | apply State.put_stable hP | apply State.ite_stable | apply State.ite_snd_stable | apply State.ite_fst_stable | split | (dsimp only; split)

theorem execFaultBist_stable {s tt : State} {c : HostCmd} (e : execFaultBist c s = .next tt) (h : P s) :
    P tt := by
  unfold execFaultBist at e
  injection e with e
  rw [← e]
  repeat' with_reducible first | assumption | intro _ | apply State.hostCmd_stable hP | apply refuseMode_stable | refine refuseMode_stableEq (by assumption) ?_ | apply okResult_stable | refine okResult_stableEq (by assumption) ?_ | apply State.ite_stable | apply State.ite_snd_stable | apply State.ite_fst_stable | split | (dsimp only; split)

theorem execEvtRoute_stable {s tt : State} {c : HostCmd} (e : execEvtRoute c s = .next tt) (h : P s) :
    P tt := by
  unfold execEvtRoute at e
  injection e with e
  rw [← e]
  repeat' with_reducible first | assumption | intro _ | apply State.hostCmd_stable hP | apply refuseMode_stable | refine refuseMode_stableEq (by assumption) ?_ | apply refuse_stable | refine refuse_stableEq (by assumption) ?_ | apply okReply_stable | refine okReply_stableEq (by assumption) ?_ | apply State.put_stable hP | apply State.ite_stable | apply State.ite_snd_stable | apply State.ite_fst_stable | split | (dsimp only; split)

theorem execSfmStatus_stable {s tt : State} {c : HostCmd} (e : execSfmStatus c s = .next tt) (h : P s) :
    P tt := by
  unfold execSfmStatus at e
  injection e with e
  rw [← e]
  repeat' with_reducible first | assumption | intro _ | apply State.hostCmd_stable hP | apply refuseMode_stable | refine refuseMode_stableEq (by assumption) ?_ | apply okResult_stable | refine okResult_stableEq (by assumption) ?_ | refine State.draw_stable hP (by assumption) ?_ | apply State.drawSnd_stable hP | apply State.ite_stable | apply State.ite_snd_stable | apply State.ite_fst_stable | split | (dsimp only; split)

end Sys2Proof.Machine
end

