-- ==== Sys2Proof/Laws/StableCanQueue.lean ====
section
/-!
SUPPORT. The operations of Machine/CanQueue.lean keep every stable property (Laws/Stable.lean).
-/

namespace Sys2Proof.Machine

variable {P : State → Prop} (hP : Stable P)
include hP

theorem State.syncCan_stable {s : State} (h : P s) (n : Nat) : P (State.syncCan s n) := by
  unfold State.syncCan
  repeat' with_reducible first | assumption | intro _ | apply State.put_stable hP | apply State.putB_stable hP | apply State.ite_stable | apply State.ite_snd_stable | apply State.ite_fst_stable | split | (dsimp only; split)

theorem State.canCheck_stable {s : State} (h : P s) (n : Nat) : P (State.canCheck s n) := by
  unfold State.canCheck
  repeat' with_reducible first | assumption | intro _ | apply State.put_stable hP | apply State.assertEv_stable hP | apply State.ite_stable | apply State.ite_snd_stable | apply State.ite_fst_stable | split | (dsimp only; split)

theorem State.canErrState_stable {s : State} (h : P s) (n : Nat) : P (State.canErrState s n) := by
  unfold State.canErrState
  repeat' with_reducible first | assumption | intro _ | apply State.put_stable hP | apply State.assertEv_stable hP | apply State.ite_stable | apply State.ite_snd_stable | apply State.ite_fst_stable | split | (dsimp only; split)

theorem State.setTec_stable {s : State} (h : P s) (n v : Nat) : P (State.setTec s n v) := by
  unfold State.setTec
  repeat' with_reducible first | assumption | intro _ | apply State.put_stable hP | apply State.canErrState_stable hP | apply State.ite_stable | apply State.ite_snd_stable | apply State.ite_fst_stable | split | (dsimp only; split)

theorem State.setRec_stable {s : State} (h : P s) (n v : Nat) : P (State.setRec s n v) := by
  unfold State.setRec
  repeat' with_reducible first | assumption | intro _ | apply State.put_stable hP | apply State.canErrState_stable hP | apply State.ite_stable | apply State.ite_snd_stable | apply State.ite_fst_stable | split | (dsimp only; split)

theorem State.setQueue_stable {s : State} (h : P s) (n q : Nat) (l : List CanRec) (sh : Option CanRec) : P (State.setQueue s n q l sh) := by
  unfold State.setQueue
  repeat' with_reducible first | assumption | intro _ | apply State.modCan_stable hP | apply State.syncCan_stable hP | apply State.ite_stable | apply State.ite_snd_stable | apply State.ite_fst_stable | split | (dsimp only; split)

theorem State.writeFilter_stable {s : State} (h : P s) (n a : Nat) (w : Word) : P (State.writeFilter s n a w) := by
  unfold State.writeFilter
  repeat' with_reducible first | assumption | intro _ | apply State.modCan_stable hP | apply State.wr_stable hP | apply State.ite_stable | apply State.ite_snd_stable | apply State.ite_fst_stable | split | (dsimp only; split)

theorem State.spillBuf_stableEq {s tt : State} {x : Nat} {n : Nat} (e : State.spillBuf s n = some (x, tt)) (h : P s) : P tt := by
  revert e; unfold State.spillBuf
  intro e
  try dsimp only at e
  repeat' split at e
  all_goals (try cases e)
  repeat' with_reducible first | assumption | intro _ | refine State.alloc_stableEq hP (by assumption) ?_ | apply State.ite_stable | apply State.ite_snd_stable | apply State.ite_fst_stable | split | (dsimp only; split)

theorem State.canOverflow_stable {s : State} (h : P s) (n q seq : Nat) (bytes : List Byte) : P (State.canOverflow s n q seq bytes) := by
  unfold State.canOverflow
  repeat' with_reducible first | assumption | intro _ | refine State.spillBuf_stableEq hP (by assumption) ?_ | apply State.sharedAccess_stable hP | apply State.wrBytes_stable hP | apply State.modCan_stable hP | apply State.syncCan_stable hP | apply State.put_stable hP | apply State.assertEv_stable hP | apply State.ite_stable | apply State.ite_snd_stable | apply State.ite_fst_stable | split | (dsimp only; split)

theorem State.canPlace_stable {s : State} (h : P s) (n q filt : Nat) (f : CanFrame) (ns : Nat) : P (State.canPlace s n q filt f ns) := by
  unfold State.canPlace
  repeat' with_reducible first | assumption | intro _ | apply State.put_stable hP | apply State.setQueue_stable hP | apply State.inc_stable hP | apply State.canOverflow_stable hP | apply State.ite_stable | apply State.ite_snd_stable | apply State.ite_fst_stable | split | (dsimp only; split)

theorem State.canRelease_stable {s : State} (h : P s) (n q : Nat) : P (State.canRelease s n q) := by
  unfold State.canRelease
  repeat' with_reducible first | assumption | intro _ | apply State.put_stable hP | apply State.setQueue_stable hP | apply State.ite_stable | apply State.ite_snd_stable | apply State.ite_fst_stable | split | (dsimp only; split)

theorem State.canSpillDone_stable {s : State} (h : P s) (n : Nat) (e : Nat × Nat × Nat) : P (State.canSpillDone s n e) := by
  unfold State.canSpillDone
  repeat' with_reducible first | assumption | intro _ | apply State.setOwner_stable hP | apply State.modCan_stable hP | apply State.put_stable hP | apply State.syncCan_stable hP | apply State.ite_stable | apply State.ite_snd_stable | apply State.ite_fst_stable | split | (dsimp only; split)

theorem State.canTake_stable (n q k : Nat) : ∀ {s : State}, P s → P (State.canTake n q k s).2 := by
  induction k with
  | zero => intro s h; exact h
  | succ k ih =>
    intro s h
    have ihEq : ∀ {s t : State} {x : List CanRec}, State.canTake n q k s = (x, t) → P s → P t := by
      intro s t x heq h
      have := ih h
      rw [heq] at this; exact this
    unfold State.canTake
    repeat' with_reducible first | assumption | apply ih | refine ihEq (by assumption) ?_ | apply State.canRelease_stable hP | apply State.canSpillDone_stable hP | split | (dsimp only; split)

theorem State.canTake_stableEq {n q k : Nat} {s t : State} {x : List CanRec} (heq : State.canTake n q k s = (x, t)) (h : P s) : P t := by
  have := State.canTake_stable hP n q k h
  rw [heq] at this; exact this


theorem State.canDeliver_stable {s : State} (h : P s) (ch n q k : Nat) : P (State.canDeliver s ch n q k).2 := by
  unfold State.canDeliver
  repeat' with_reducible first | assumption | intro _ | apply State.canTake_stable hP | refine State.canTake_stableEq hP (by assumption) ?_ | refine State.resultBufs_stableEq hP (by assumption) ?_ | apply State.status_stable hP | apply State.canCheck_stable hP | apply State.ite_stable | apply State.ite_snd_stable | apply State.ite_fst_stable | split | (dsimp only; split)

theorem State.canDeliver_stableEq {s tt : State} {x : Reply} {ch n q k : Nat} (heq : State.canDeliver s ch n q k = (x, tt)) (h : P s) : P tt := by
  have := State.canDeliver_stable hP h ch n q k
  rw [heq] at this; exact this

theorem State.canServe_stable {s : State} (h : P s) (n : Nat) (r : Nat × Nat × Nat) : P (State.canServe s n r) := by
  unfold State.canServe
  repeat' with_reducible first | assumption | intro _ | apply State.modCan_stable hP | apply State.canDeliver_stable hP | refine State.canDeliver_stableEq hP (by assumption) ?_ | apply State.finishHead_stable hP | apply State.ite_stable | apply State.ite_snd_stable | apply State.ite_fst_stable | split | (dsimp only; split)

theorem State.canServeReads_stable {s : State} (h : P s)  : P (State.canServeReads s) := by
  unfold State.canServeReads
  repeat' with_reducible first | assumption | intro _ | apply State.canServe_stable hP | apply State.each_stable | apply State.ite_stable | apply State.ite_snd_stable | apply State.ite_fst_stable | split | (dsimp only; split)

end Sys2Proof.Machine
end

