-- ==== Sys2Proof/Laws/StableSecure.lean ====
section
/-!
SUPPORT. The operations of Machine/Secure.lean keep every stable property (Laws/Stable.lean).
-/

namespace Sys2Proof.Machine

variable {P : State → Prop} (hP : Stable P)
include hP

theorem State.wrOtp_stable {s : State} (h : P s) (i : Nat) (b : Byte) : P (State.wrOtp s i b) := by
  unfold State.wrOtp
  repeat' with_reducible first | assumption | intro _ | apply State.withSec_stable hP | apply State.ite_stable | apply State.ite_snd_stable | apply State.ite_fst_stable | split | (dsimp only; split)

theorem State.wrOtpBytes_stable {s : State} (h : P s) (i : Nat) (l : List Byte) : P (s.wrOtpBytes i l) := by
  induction l generalizing s i with
  | nil => exact h
  | cons b l ih => exact ih (State.wrOtp_stable hP h _ _) _


theorem State.slotCheck_stable {s : State} (h : P s) (slot kind : Nat) : P (State.slotCheck s slot kind).2 := by
  unfold State.slotCheck
  repeat' with_reducible first | assumption | intro _ | refine State.draw_stable hP (by assumption) ?_ | apply State.drawSnd_stable hP | apply State.ite_stable | apply State.ite_snd_stable | apply State.ite_fst_stable | split | (dsimp only; split)

theorem State.slotCheck_stableEq {s tt : State} {x : Nat} {slot kind : Nat} (heq : State.slotCheck s slot kind = (x, tt)) (h : P s) : P tt := by
  have := State.slotCheck_stable hP h slot kind
  rw [heq] at this; exact this

theorem State.drawBytes_stable (k : Nat) : ∀ {s : State}, P s → P (s.drawBytes k).2 := by
  induction k with
  | zero => intro s h; exact h
  | succ k ih => intro s h; exact ih (State.drawSnd_stable hP h)

theorem State.drawBytes_stableEq {k : Nat} {s t : State} {x : List Byte} (heq : s.drawBytes k = (x, t)) (h : P s) : P t := by
  have := State.drawBytes_stable hP k h
  rw [heq] at this; exact this


theorem State.challengeSnd_stable {s : State} (h : P s) (purpose level : Nat) :
    P (s.challenge purpose level).2.2 := by
  unfold State.challenge
  split
  · exact h
  split
  · exact h
  · exact State.withSec_stable hP (State.drawBytes_stable hP 32 h) _

theorem State.challenge_stableEq {s t : State} {purpose level x : Nat} {y : List Byte}
    (heq : s.challenge purpose level = (x, y, t)) (h : P s) : P t := by
  have := State.challengeSnd_stable hP h purpose level
  rw [heq] at this; exact this


theorem State.authFails_stable {s : State} (h : P s)  : P (State.authFails s) := by
  unfold State.authFails
  repeat' with_reducible first | assumption | intro _ | apply State.inc_stable hP | apply State.put_stable hP | apply State.assertEv_stable hP | apply State.ite_stable | apply State.ite_snd_stable | apply State.ite_fst_stable | split | (dsimp only; split)

theorem State.respond_stable {s : State} (h : P s) (bytes : List Byte) : P (State.respond s bytes).2 := by
  unfold State.respond
  repeat' with_reducible first | assumption | intro _ | apply State.authFails_stable hP | apply State.withSec_stable hP | apply State.put_stable hP | apply State.ite_stable | apply State.ite_snd_stable | apply State.ite_fst_stable | split | (dsimp only; split)

theorem State.respond_stableEq {s tt : State} {x : Bool} {bytes : List Byte} (heq : State.respond s bytes = (x, tt)) (h : P s) : P tt := by
  have := State.respond_stable hP h bytes
  rw [heq] at this; exact this

theorem execSecStatus_stable {s tt : State} {c : HostCmd} (e : execSecStatus c s = .next tt) (h : P s) :
    P tt := by
  unfold execSecStatus at e
  injection e with e
  rw [← e]
  repeat' with_reducible first | assumption | intro _ | apply State.hostCmd_stable hP | apply replyWith_stable hP | refine replyWith_stableEq hP (by assumption) ?_ | apply State.ite_stable | apply State.ite_snd_stable | apply State.ite_fst_stable | split | (dsimp only; split)

theorem execSecChallenge_stable {s tt : State} {c : HostCmd} (e : execSecChallenge c s = .next tt) (h : P s) :
    P tt := by
  unfold execSecChallenge at e
  injection e with e
  rw [← e]
  repeat' with_reducible first | assumption | intro _ | apply State.hostCmd_stable hP | refine State.challenge_stableEq hP (by assumption) ?_ | apply okResult_stable | refine okResult_stableEq (by assumption) ?_ | apply refuse_stable | refine refuse_stableEq (by assumption) ?_ | apply State.challengeSnd_stable hP | apply State.ite_stable | apply State.ite_snd_stable | apply State.ite_fst_stable | split | (dsimp only; split)

theorem execSecResponse_stable {s tt : State} {c : HostCmd} (e : execSecResponse c s = .next tt) (h : P s) :
    P tt := by
  unfold execSecResponse at e
  injection e with e
  rw [← e]
  repeat' with_reducible first | assumption | intro _ | apply State.hostCmd_stable hP | apply State.status_stable hP | apply State.respond_stable hP | refine State.respond_stableEq hP (by assumption) ?_ | apply okReply_stable | refine okReply_stableEq (by assumption) ?_ | apply refuse_stable | refine refuse_stableEq (by assumption) ?_ | apply State.ite_stable | apply State.ite_snd_stable | apply State.ite_fst_stable | split | (dsimp only; split)

theorem execNonceExpiry_stable {s tt : State}  (e : execNonceExpiry s = .next tt) (h : P s) :
    P tt := by
  unfold execNonceExpiry at e
  injection e with e
  rw [← e]
  repeat' with_reducible first | assumption | intro _ | apply State.withSec_stable hP | apply State.ite_stable | apply State.ite_snd_stable | apply State.ite_fst_stable | split | (dsimp only; split)

theorem execAuthLockExpiry_stable {s tt : State}  (e : execAuthLockExpiry s = .next tt) (h : P s) :
    P tt := by
  unfold execAuthLockExpiry at e
  injection e with e
  rw [← e]
  repeat' with_reducible first | assumption | intro _ | apply State.put_stable hP | apply State.ite_stable | apply State.ite_snd_stable | apply State.ite_fst_stable | split | (dsimp only; split)

theorem execSecLifecycle_stable {s tt : State} {c : HostCmd} (e : execSecLifecycle c s = .next tt) (h : P s) :
    P tt := by
  unfold execSecLifecycle at e
  injection e with e
  rw [← e]
  repeat' with_reducible first | assumption | intro _ | apply State.hostCmd_stable hP | apply refuseMode_stable | refine refuseMode_stableEq (by assumption) ?_ | apply refuse_stable | refine refuse_stableEq (by assumption) ?_ | apply okReply_stable | refine okReply_stableEq (by assumption) ?_ | apply State.wrOtp_stable hP | apply State.put_stable hP | apply State.ite_stable | apply State.ite_snd_stable | apply State.ite_fst_stable | split | (dsimp only; split)

theorem State.provision_stableEq {s tt : State} {item : Nat} {v : List Byte} (e : State.provision s item v = some tt) (h : P s) : P tt := by
  revert e; unfold State.provision
  intro e
  try dsimp only at e
  repeat' split at e
  all_goals (try cases e)
  repeat' with_reducible first | assumption | intro _ | apply State.wrOtpBytes_stable hP | apply State.withSec_stable hP | apply State.wrOtp_stable hP | apply State.put_stable hP | apply State.ite_stable | apply State.ite_snd_stable | apply State.ite_fst_stable | split | (dsimp only; split)

theorem execSecProvision_stable {s tt : State} {c : HostCmd} (e : execSecProvision c s = .next tt) (h : P s) :
    P tt := by
  unfold execSecProvision at e
  injection e with e
  rw [← e]
  repeat' with_reducible first | assumption | intro _ | apply State.hostCmd_stable hP | apply refuseMode_stable | refine refuseMode_stableEq (by assumption) ?_ | refine State.provision_stableEq hP (by assumption) ?_ | apply okReply_stable | refine okReply_stableEq (by assumption) ?_ | apply refuse_stable | refine refuse_stableEq (by assumption) ?_ | apply State.ite_stable | apply State.ite_snd_stable | apply State.ite_fst_stable | split | (dsimp only; split)

theorem execSecArbAdvance_stable {s tt : State} {c : HostCmd} (e : execSecArbAdvance c s = .next tt) (h : P s) :
    P tt := by
  unfold execSecArbAdvance at e
  injection e with e
  rw [← e]
  repeat' with_reducible first | assumption | intro _ | apply State.hostCmd_stable hP | apply refuseMode_stable | refine refuseMode_stableEq (by assumption) ?_ | apply refuse_stable | refine refuse_stableEq (by assumption) ?_ | apply State.wrOtpBytes_stable hP | apply okReply_stable | refine okReply_stableEq (by assumption) ?_ | apply State.put_stable hP | refine State.draw_stable hP (by assumption) ?_ | apply State.drawSnd_stable hP | apply State.ite_stable | apply State.ite_snd_stable | apply State.ite_fst_stable | split | (dsimp only; split)

theorem State.updSlot_stableEq {s tt : State} {x : Nat} {t : Nat} (e : State.updSlot s t = some (x, tt)) (h : P s) : P tt := by
  revert e; unfold State.updSlot
  intro e
  try dsimp only at e
  repeat' split at e
  all_goals (try cases e)
  repeat' with_reducible first | assumption | intro _ | refine State.draw_stable hP (by assumption) ?_ | apply State.drawSnd_stable hP | apply State.ite_stable | apply State.ite_snd_stable | apply State.ite_fst_stable | split | (dsimp only; split)

theorem execUpdBegin_stable {s tt : State} {c : HostCmd} (e : execUpdBegin c s = .next tt) (h : P s) :
    P tt := by
  unfold execUpdBegin at e
  injection e with e
  rw [← e]
  repeat' with_reducible first | assumption | intro _ | apply State.hostCmd_stable hP | apply refuseMode_stable | refine refuseMode_stableEq (by assumption) ?_ | apply refuse_stable | refine refuse_stableEq (by assumption) ?_ | refine State.updSlot_stableEq hP (by assumption) ?_ | apply okReply_stable | refine okReply_stableEq (by assumption) ?_ | apply State.withSec_stable hP | apply State.ite_stable | apply State.ite_snd_stable | apply State.ite_fst_stable | split | (dsimp only; split)

theorem State.wrFlashBytes_stable {s : State} (h : P s) (i : Nat) (l : List Byte) : P (s.wrFlashBytes i l) := by
  induction l generalizing s i with
  | nil => exact h
  | cons b l ih => exact ih (State.wrFlash8_stable hP h _ _) _


theorem execUpdData_stable {s tt : State} {c : HostCmd} (e : execUpdData c s = .next tt) (h : P s) :
    P tt := by
  unfold execUpdData at e
  injection e with e
  rw [← e]
  repeat' with_reducible first | assumption | intro _ | apply State.hostCmd_stable hP | apply refuseMode_stable | refine refuseMode_stableEq (by assumption) ?_ | apply refuse_stable | refine refuse_stableEq (by assumption) ?_ | apply State.wrFlashBytes_stable hP | apply okReply_stable | refine okReply_stableEq (by assumption) ?_ | apply State.withSec_stable hP | apply State.ite_stable | apply State.ite_snd_stable | apply State.ite_fst_stable | split | (dsimp only; split)

theorem execUpdEnd_stable {s tt : State} {c : HostCmd} (e : execUpdEnd c s = .next tt) (h : P s) :
    P tt := by
  unfold execUpdEnd at e
  injection e with e
  rw [← e]
  repeat' with_reducible first | assumption | intro _ | apply State.hostCmd_stable hP | apply refuseMode_stable | refine refuseMode_stableEq (by assumption) ?_ | apply State.withSec_stable hP | apply okReply_stable | refine okReply_stableEq (by assumption) ?_ | apply State.withMode_stable hP | apply State.status_stable hP | apply State.ite_stable | apply State.ite_snd_stable | apply State.ite_fst_stable | split | (dsimp only; split)

theorem execUpdAbort_stable {s tt : State} {c : HostCmd} (e : execUpdAbort c s = .next tt) (h : P s) :
    P tt := by
  unfold execUpdAbort at e
  injection e with e
  rw [← e]
  repeat' with_reducible first | assumption | intro _ | apply State.hostCmd_stable hP | apply refuseMode_stable | refine refuseMode_stableEq (by assumption) ?_ | apply State.withSec_stable hP | apply okReply_stable | refine okReply_stableEq (by assumption) ?_ | apply State.withMode_stable hP | apply State.ite_stable | apply State.ite_snd_stable | apply State.ite_fst_stable | split | (dsimp only; split)

theorem State.dropRsp_stable {s : State} (h : P s) (k : Nat) (p : SentRsp → Bool) : P (State.dropRsp s k p) := by
  unfold State.dropRsp
  repeat' with_reducible first | assumption | intro _ | apply State.modChan_stable hP | apply State.setOwner_stable hP | apply State.each_stable | apply State.ite_stable | apply State.ite_snd_stable | apply State.ite_fst_stable | apply State.filterRegs_stable hP | apply State.filterMem_stable hP | split | (dsimp only; split)

theorem State.closeSession_stable {s : State} (h : P s) (n : Nat) : P (State.closeSession s n) := by
  unfold State.closeSession
  repeat' with_reducible first | assumption | intro _ | apply State.dropRsp_stable hP | apply State.setSession_stable hP | apply State.each_stable | apply State.ite_stable | apply State.ite_snd_stable | apply State.ite_fst_stable | split | (dsimp only; split)

theorem execSecSessionOpen_stable {s tt : State} {c : HostCmd} (e : execSecSessionOpen c s = .next tt) (h : P s) :
    P tt := by
  unfold execSecSessionOpen at e
  injection e with e
  rw [← e]
  repeat' with_reducible first | assumption | intro _ | apply State.hostCmd_stable hP | apply refuseMode_stable | refine refuseMode_stableEq (by assumption) ?_ | apply State.status_stable hP | apply refuse_stable | refine refuse_stableEq (by assumption) ?_ | apply okReply_stable | refine okReply_stableEq (by assumption) ?_ | apply State.setSession_stable hP | apply State.ite_stable | apply State.ite_snd_stable | apply State.ite_fst_stable | apply State.foldl_stable | apply State.filterRegs_stable hP | apply State.filterMem_stable hP | split | (dsimp only; split)

theorem execSecSessionClose_stable {s tt : State} {c : HostCmd} (e : execSecSessionClose c s = .next tt) (h : P s) :
    P tt := by
  unfold execSecSessionClose at e
  injection e with e
  rw [← e]
  repeat' with_reducible first | assumption | intro _ | apply State.hostCmd_stable hP | apply refuseMode_stable | refine refuseMode_stableEq (by assumption) ?_ | apply refuse_stable | refine refuse_stableEq (by assumption) ?_ | apply okReply_stable | refine okReply_stableEq (by assumption) ?_ | apply State.closeSession_stable hP | apply State.ite_stable | apply State.ite_snd_stable | apply State.ite_fst_stable | split | (dsimp only; split)

theorem State.resumeCores_stable {s : State} (h : P s)  : P (State.resumeCores s) := by
  unfold State.resumeCores
  repeat' with_reducible first | assumption | intro _ | apply State.put_stable hP | apply State.withSec_stable hP | apply State.ite_stable | apply State.ite_snd_stable | apply State.ite_fst_stable | split | (dsimp only; split)

theorem State.debugEnd_stable {s : State} (h : P s)  : P (State.debugEnd s) := by
  unfold State.debugEnd
  repeat' with_reducible first | assumption | intro _ | apply State.put_stable hP | apply State.resumeCores_stable hP | apply State.canServeReads_stable hP | apply State.withSec_stable hP | apply State.ite_stable | apply State.ite_snd_stable | apply State.ite_fst_stable | split | (dsimp only; split)

theorem State.debugOpen_stable {s : State} (h : P s) (level : Nat) : P (State.debugOpen s level).2 := by
  unfold State.debugOpen
  repeat' with_reducible first | assumption | intro _ | apply State.resumeCores_stable hP | apply State.withSec_stable hP | apply State.put_stable hP | apply State.assertEv_stable hP | apply State.ite_stable | apply State.ite_snd_stable | apply State.ite_fst_stable | split | (dsimp only; split)

theorem State.debugOpen_stableEq {s tt : State} {x : Nat} {level : Nat} (heq : State.debugOpen s level = (x, tt)) (h : P s) : P tt := by
  have := State.debugOpen_stable hP h level
  rw [heq] at this; exact this

theorem execSecDebug_stable {s tt : State} {c : HostCmd} (e : execSecDebug c s = .next tt) (h : P s) :
    P tt := by
  unfold execSecDebug at e
  injection e with e
  rw [← e]
  repeat' with_reducible first | assumption | intro _ | apply State.hostCmd_stable hP | apply okReply_stable | refine okReply_stableEq (by assumption) ?_ | apply State.debugEnd_stable hP | apply State.debugOpen_stable hP | refine State.debugOpen_stableEq hP (by assumption) ?_ | apply refuse_stable | refine refuse_stableEq (by assumption) ?_ | apply State.ite_stable | apply State.ite_snd_stable | apply State.ite_fst_stable | split | (dsimp only; split)

theorem State.setTap_stable {s : State} (h : P s) (i : Nat) (out : List Byte) : P (State.setTap s i out) := by
  unfold State.setTap
  repeat' with_reducible first | assumption | intro _ | apply State.withSec_stable hP | apply State.ite_stable | apply State.ite_snd_stable | apply State.ite_fst_stable | split | (dsimp only; split)

theorem execTapSecChal_stable {s tt : State} {purpose level : Byte} (e : execTapSecChal purpose level s = .next tt) (h : P s) :
    P tt := by
  unfold execTapSecChal at e
  injection e with e
  rw [← e]
  repeat' with_reducible first | assumption | intro _ | refine State.challenge_stableEq hP (by assumption) ?_ | apply State.setTap_stable hP | apply State.challengeSnd_stable hP | apply State.ite_stable | apply State.ite_snd_stable | apply State.ite_fst_stable | split | (dsimp only; split)

theorem execTapSecOpen_stable {s tt : State} {level : Fin 4} (e : execTapSecOpen level s = .next tt) (h : P s) :
    P tt := by
  unfold execTapSecOpen at e
  injection e with e
  rw [← e]
  repeat' with_reducible first | assumption | intro _ | apply State.debugOpen_stable hP | refine State.debugOpen_stableEq hP (by assumption) ?_ | apply State.setTap_stable hP | apply State.ite_stable | apply State.ite_snd_stable | apply State.ite_fst_stable | split | (dsimp only; split)

theorem execTapIdcode_stable {s tt : State}  (e : execTapIdcode s = .next tt) (h : P s) :
    P tt := by
  unfold execTapIdcode at e
  injection e with e
  rw [← e]
  repeat' with_reducible first | assumption | intro _ | apply State.setTap_stable hP | apply State.ite_stable | apply State.ite_snd_stable | apply State.ite_fst_stable | split | (dsimp only; split)

theorem execTapBypass_stable {s tt : State}  (e : execTapBypass s = .next tt) (h : P s) :
    P tt := by
  unfold execTapBypass at e
  injection e with e
  rw [← e]
  repeat' with_reducible first | assumption | intro _ | apply State.setTap_stable hP | apply State.ite_stable | apply State.ite_snd_stable | apply State.ite_fst_stable | split | (dsimp only; split)

theorem execTapExtest_stable {s tt : State}  (e : execTapExtest s = .next tt) (h : P s) :
    P tt := by
  unfold execTapExtest at e
  injection e with e
  rw [← e]
  repeat' with_reducible first | assumption | intro _ | apply State.setTap_stable hP | apply State.ite_stable | apply State.ite_snd_stable | apply State.ite_fst_stable | split | (dsimp only; split)

theorem execTapSamplePreload_stable {s tt : State}  (e : execTapSamplePreload s = .next tt) (h : P s) :
    P tt := by
  unfold execTapSamplePreload at e
  injection e with e
  rw [← e]
  repeat' with_reducible first | assumption | intro _ | apply State.setTap_stable hP | apply State.ite_stable | apply State.ite_snd_stable | apply State.ite_fst_stable | split | (dsimp only; split)

theorem execTrstLow_stable {s tt : State}  (e : execTrstLow s = .next tt) (h : P s) :
    P tt := by
  unfold execTrstLow at e
  injection e with e
  rw [← e]
  repeat' with_reducible first | assumption | intro _ | apply State.debugEnd_stable hP | apply State.setTap_stable hP | apply State.ite_stable | apply State.ite_snd_stable | apply State.ite_fst_stable | split | (dsimp only; split)

end Sys2Proof.Machine
end

