-- ==== Sys2Proof/Laws/StableBasin.lean ====
section
/-!
SUPPORT. The operations of Machine/Basin.lean keep every stable property (Laws/Stable.lean).
-/

namespace Sys2Proof.Machine

variable {P : State → Prop} (hP : Stable P)
include hP

theorem execProbePush_stable {s tt : State} {p : Fin 48} {v : Word} (e : execProbePush p v s = .next tt) (h : P s) :
    P tt := by
  unfold execProbePush at e
  injection e with e
  rw [← e]
  repeat' with_reducible first | assumption | intro _ | apply State.latch_stable hP | apply State.ite_stable | apply State.ite_snd_stable | apply State.ite_fst_stable | split | (dsimp only; split)

theorem State.capCheck_stable {s : State} (h : P s) (n : Nat) : P (State.capCheck s n) := by
  unfold State.capCheck
  repeat' with_reducible first | assumption | intro _ | apply State.put_stable hP | apply State.assertEv_stable hP | apply State.ite_stable | apply State.ite_snd_stable | apply State.ite_fst_stable | split | (dsimp only; split)

theorem State.acqNotice_stable {s : State} (h : P s) (f : Fld) : P (State.acqNotice s f) := by
  unfold State.acqNotice
  repeat' with_reducible first | assumption | intro _ | apply State.put_stable hP | apply State.assertEv_stable hP | apply State.ite_stable | apply State.ite_snd_stable | apply State.ite_fst_stable | split | (dsimp only; split)

theorem State.freeStaged_stable {s : State} (h : P s) (n : Nat) : P (State.freeStaged s n) := by
  unfold State.freeStaged
  repeat' with_reducible first | assumption | intro _ | apply State.setOwner_stable hP | apply State.modCap_stable hP | apply State.each_stable | apply State.ite_stable | apply State.ite_snd_stable | apply State.ite_fst_stable | split | (dsimp only; split)

theorem State.disarm_stable {s : State} (h : P s) (n : Nat) : P (State.disarm s n) := by
  unfold State.disarm
  repeat' with_reducible first | assumption | intro _ | apply State.put_stable hP | apply State.freeStaged_stable hP | apply State.modCap_stable hP | apply State.ite_stable | apply State.ite_snd_stable | apply State.ite_fst_stable | split | (dsimp only; split)

theorem State.arm_stable {s : State} (h : P s) (n : Nat) : P (State.arm s n) := by
  unfold State.arm
  repeat' with_reducible first | assumption | intro _ | apply State.acqNotice_stable hP | apply State.disarm_stable hP | apply State.freeStaged_stable hP | apply State.put_stable hP | apply State.modCap_stable hP | apply State.ite_stable | apply State.ite_snd_stable | apply State.ite_fst_stable | split | (dsimp only; split)

theorem State.commandTrig_stable {s : State} (h : P s) (n : Nat) : P (State.commandTrig s n) := by
  unfold State.commandTrig
  repeat' with_reducible first | assumption | intro _ | apply State.modCap_stable hP | apply State.ite_stable | apply State.ite_snd_stable | apply State.ite_fst_stable | split | (dsimp only; split)

theorem State.capDone_stable {s : State} (h : P s) (n : Nat) : P (State.capDone s n) := by
  unfold State.capDone
  repeat' with_reducible first | assumption | intro _ | apply State.put_stable hP | apply State.capCheck_stable hP | apply State.ite_stable | apply State.ite_snd_stable | apply State.ite_fst_stable | split | (dsimp only; split)

theorem State.putRecord_stable {s : State} (h : P s) (r : BasinRec) : P (State.putRecord s r) := by
  unfold State.putRecord
  repeat' with_reducible first | assumption | intro _ | apply State.wrBytes_stable hP | apply State.ite_stable | apply State.ite_snd_stable | apply State.ite_fst_stable | split | (dsimp only; split)

theorem State.writeRecord_stable {s : State} (h : P s) (n : Nat) : P (State.writeRecord s n) := by
  unfold State.writeRecord
  repeat' with_reducible first | assumption | intro _ | apply State.modCap_stable hP | apply State.putRecord_stable hP | apply State.put_stable hP | apply State.capCheck_stable hP | apply State.capDone_stable hP | apply State.ite_stable | apply State.ite_snd_stable | apply State.ite_fst_stable | split | (dsimp only; split)

theorem State.formRecord_stable {s : State} (h : P s) (n : Nat) : P (State.formRecord s n) := by
  unfold State.formRecord
  repeat' with_reducible first | assumption | intro _ | apply State.writeRecord_stable hP | apply State.modCap_stable hP | apply State.put_stable hP | apply State.capCheck_stable hP | apply State.ite_stable | apply State.ite_snd_stable | apply State.ite_fst_stable | split | (dsimp only; split)

theorem State.capSample_stable {s : State} (h : P s) (n ns : Nat) : P (State.capSample s n ns) := by
  unfold State.capSample
  repeat' with_reducible first | assumption | intro _ | apply State.modCap_stable hP | apply State.formRecord_stable hP | apply State.ite_stable | apply State.ite_snd_stable | apply State.ite_fst_stable | split | (dsimp only; split)

theorem execBasinSample_stable {s tt : State} {n : Fin 4} {adv : Nat} (e : execBasinSample n adv s = .next tt) (h : P s) :
    P tt := by
  unfold execBasinSample at e
  injection e with e
  rw [← e]
  repeat' with_reducible first | assumption | intro _ | apply State.runOn_stable hP | apply State.capSample_stable hP | apply State.modCap_stable hP | apply State.ite_stable | apply State.ite_snd_stable | apply State.ite_fst_stable | split | (dsimp only; split)

theorem execBasinRecordWrite_stable {s tt : State} {n : Fin 4} (e : execBasinRecordWrite n s = .next tt) (h : P s) :
    P tt := by
  unfold execBasinRecordWrite at e
  injection e with e
  rw [← e]
  repeat' with_reducible first | assumption | intro _ | apply State.writeRecord_stable hP | apply State.ite_stable | apply State.ite_snd_stable | apply State.ite_fst_stable | split | (dsimp only; split)

theorem execTriggerDecision_stable {s tt : State} {n : Fin 4} (e : execTriggerDecision n s = .next tt) (h : P s) :
    P tt := by
  unfold execTriggerDecision at e
  injection e with e
  rw [← e]
  repeat' with_reducible first | assumption | intro _ | apply State.modCap_stable hP | apply State.put_stable hP | apply State.putB_stable hP | apply State.assertEv_stable hP | apply State.capDone_stable hP | apply State.ite_stable | apply State.ite_snd_stable | apply State.ite_fst_stable | split | (dsimp only; split)

theorem execExportBufferFill_stable {s tt : State} {n : Fin 4} (e : execExportBufferFill n s = .next tt) (h : P s) :
    P tt := by
  unfold execExportBufferFill at e
  injection e with e
  rw [← e]
  repeat' with_reducible first | assumption | intro _ | refine State.alloc_stableEq hP (by assumption) ?_ | apply State.sharedAccess_stable hP | apply State.wrBytes_stable hP | apply State.modCap_stable hP | apply State.ite_stable | apply State.ite_snd_stable | apply State.ite_fst_stable | split | (dsimp only; split)

theorem execAcqProbe_stable {s tt : State} {c : HostCmd} (e : execAcqProbe c s = .next tt) (h : P s) :
    P tt := by
  unfold execAcqProbe at e
  injection e with e
  rw [← e]
  repeat' with_reducible first | assumption | intro _ | apply State.hostCmd_stable hP | apply refuseMode_stable | refine refuseMode_stableEq (by assumption) ?_ | apply refuse_stable | refine refuse_stableEq (by assumption) ?_ | apply okReply_stable | refine okReply_stableEq (by assumption) ?_ | apply State.wr_stable hP | apply State.ite_stable | apply State.ite_snd_stable | apply State.ite_fst_stable | split | (dsimp only; split)

theorem execAcqSetCfg_stable {s tt : State} {c : HostCmd} (e : execAcqSetCfg c s = .next tt) (h : P s) :
    P tt := by
  unfold execAcqSetCfg at e
  injection e with e
  rw [← e]
  repeat' with_reducible first | assumption | intro _ | apply State.hostCmd_stable hP | apply refuseMode_stable | refine refuseMode_stableEq (by assumption) ?_ | apply refuse_stable | refine refuse_stableEq (by assumption) ?_ | apply State.wr_stable hP | apply State.put_stable hP | apply okReply_stable | refine okReply_stableEq (by assumption) ?_ | apply State.each_stable | apply State.ite_stable | apply State.ite_snd_stable | apply State.ite_fst_stable | split | (dsimp only; split)

theorem execAcqTrigCfg_stable {s tt : State} {c : HostCmd} (e : execAcqTrigCfg c s = .next tt) (h : P s) :
    P tt := by
  unfold execAcqTrigCfg at e
  injection e with e
  rw [← e]
  repeat' with_reducible first | assumption | intro _ | apply State.hostCmd_stable hP | apply refuseMode_stable | refine refuseMode_stableEq (by assumption) ?_ | apply refuse_stable | refine refuse_stableEq (by assumption) ?_ | apply okReply_stable | refine okReply_stableEq (by assumption) ?_ | apply State.wr_stable hP | apply State.each_stable | apply State.ite_stable | apply State.ite_snd_stable | apply State.ite_fst_stable | split | (dsimp only; split)

theorem execAcqArm_stable {s tt : State} {c : HostCmd} (e : execAcqArm c s = .next tt) (h : P s) :
    P tt := by
  unfold execAcqArm at e
  injection e with e
  rw [← e]
  repeat' with_reducible first | assumption | intro _ | apply State.hostCmd_stable hP | apply refuseMode_stable | refine refuseMode_stableEq (by assumption) ?_ | apply refuse_stable | refine refuse_stableEq (by assumption) ?_ | apply okReply_stable | refine okReply_stableEq (by assumption) ?_ | apply State.arm_stable hP | apply State.each_stable | apply State.ite_stable | apply State.ite_snd_stable | apply State.ite_fst_stable | split | (dsimp only; split)

theorem execAcqDisarm_stable {s tt : State} {c : HostCmd} (e : execAcqDisarm c s = .next tt) (h : P s) :
    P tt := by
  unfold execAcqDisarm at e
  injection e with e
  rw [← e]
  repeat' with_reducible first | assumption | intro _ | apply State.hostCmd_stable hP | apply refuseMode_stable | refine refuseMode_stableEq (by assumption) ?_ | apply okReply_stable | refine okReply_stableEq (by assumption) ?_ | apply State.disarm_stable hP | apply State.each_stable | apply State.ite_stable | apply State.ite_snd_stable | apply State.ite_fst_stable | split | (dsimp only; split)

theorem execAcqTrigger_stable {s tt : State} {c : HostCmd} (e : execAcqTrigger c s = .next tt) (h : P s) :
    P tt := by
  unfold execAcqTrigger at e
  injection e with e
  rw [← e]
  repeat' with_reducible first | assumption | intro _ | apply State.hostCmd_stable hP | apply refuseMode_stable | refine refuseMode_stableEq (by assumption) ?_ | apply refuse_stable | refine refuse_stableEq (by assumption) ?_ | apply okReply_stable | refine okReply_stableEq (by assumption) ?_ | apply State.commandTrig_stable hP | apply State.each_stable | apply State.ite_stable | apply State.ite_snd_stable | apply State.ite_fst_stable | split | (dsimp only; split)

theorem execAcqStatus_stable {s tt : State} {c : HostCmd} (e : execAcqStatus c s = .next tt) (h : P s) :
    P tt := by
  unfold execAcqStatus at e
  injection e with e
  rw [← e]
  repeat' with_reducible first | assumption | intro _ | apply State.hostCmd_stable hP | apply refuseMode_stable | refine refuseMode_stableEq (by assumption) ?_ | apply refuse_stable | refine refuse_stableEq (by assumption) ?_ | apply okResult_stable | refine okResult_stableEq (by assumption) ?_ | apply State.ite_stable | apply State.ite_snd_stable | apply State.ite_fst_stable | split | (dsimp only; split)

theorem State.passFold_stable (k src : Nat) (l : List Nat) : ∀ {s tt : State},
    l.foldl (fun (t : Option State) b => t.bind (fun t =>
      (t.transfer b src (0x20 + k)).bind (fun t => t.transfer b (0x20 + k) (0x10 + k)))) (some s) = some tt →
    P s → P tt := by
  induction l with
  | nil => intro s tt e h; cases e; exact h
  | cons b l ih =>
    intro s tt e h
    rw [List.foldl_cons, Option.bind_some] at e
    cases h1 : s.transfer b src (0x20 + k) with
    | none =>
      rw [h1, Option.bind_none] at e
      exfalso
      clear h1 ih h
      induction l with
      | nil => cases e
      | cons c l ih2 => exact ih2 (by rwa [List.foldl_cons, Option.bind_none] at e)
    | some u =>
      rw [h1, Option.bind_some] at e
      cases h2 : u.transfer b (0x20 + k) (0x10 + k) with
      | none =>
        rw [h2] at e
        exfalso
        clear h1 h2 ih h
        induction l with
        | nil => cases e
        | cons c l ih2 => exact ih2 (by rwa [List.foldl_cons, Option.bind_none] at e)
      | some v =>
        rw [h2] at e
        exact ih e (State.transfer_stableEq hP h2 (State.transfer_stableEq hP h1 h))

theorem State.passBufs_stableEq {s tt : State} {k src : Nat} {bs : List Nat} (e : State.passBufs s k src bs = some tt)
    (h : P s) : P tt := by
  unfold State.passBufs at e
  obtain ⟨u, hu, e⟩ := Option.bind_eq_some_iff.mp e
  obtain ⟨x, hx, rfl⟩ := Option.map_eq_some_iff.mp e
  exact State.mapAll_stableEq hP (x := x.1) hx (State.passFold_stable hP k src bs hu h)


theorem execAcqRead_stable {s tt : State} {c : HostCmd} (e : execAcqRead c s = .next tt) (h : P s) :
    P tt := by
  unfold execAcqRead at e
  injection e with e
  rw [← e]
  repeat' with_reducible first | assumption | intro _ | apply State.hostCmd_stable hP | apply refuseMode_stable | refine refuseMode_stableEq (by assumption) ?_ | apply refuse_stable | refine refuse_stableEq (by assumption) ?_ | refine State.passBufs_stableEq hP (by assumption) ?_ | apply State.modCap_stable hP | apply State.put_stable hP | apply State.status_stable hP | apply State.capCheck_stable hP | apply State.ite_stable | apply State.ite_snd_stable | apply State.ite_fst_stable | split | (dsimp only; split)

theorem execSyncClkEdge_stable {s tt : State} {near low : Bool} (e : execSyncClkEdge near low s = .next tt) (h : P s) :
    P tt := by
  unfold execSyncClkEdge at e
  injection e with e
  rw [← e]
  repeat' with_reducible first | assumption | intro _ | apply State.put_stable hP | apply State.incMod_stable hP | apply State.withCasc_stable hP | apply State.ite_stable | apply State.ite_snd_stable | apply State.ite_fst_stable | split | (dsimp only; split)

theorem execSyncClkLoss_stable {s tt : State}  (e : execSyncClkLoss s = .next tt) (h : P s) :
    P tt := by
  unfold execSyncClkLoss at e
  injection e with e
  rw [← e]
  repeat' with_reducible first | assumption | intro _ | apply State.withCasc_stable hP | apply State.put_stable hP | apply State.assertEv_stable hP | apply State.ite_stable | apply State.ite_snd_stable | apply State.ite_fst_stable | split | (dsimp only; split)

theorem execCascadeLaunch_stable {s tt : State}  (e : execCascadeLaunch s = .next tt) (h : P s) :
    P tt := by
  unfold execCascadeLaunch at e
  injection e with e
  rw [← e]
  repeat' with_reducible first | assumption | intro _ | apply State.takeStart_stable hP | apply State.withCasc_stable hP | apply State.ite_stable | apply State.ite_snd_stable | apply State.ite_fst_stable | split | (dsimp only; split)

theorem State.cascPulse_stable {s : State} (h : P s) (line t : Nat) : P (State.cascPulse s line t) := by
  unfold State.cascPulse
  repeat' with_reducible first | assumption | intro _ | apply State.withWeir_stable hP | apply State.sendStarts_stable hP | apply State.modCap_stable hP | apply State.each_stable | apply State.ite_stable | apply State.ite_snd_stable | apply State.ite_fst_stable | split | (dsimp only; split)

theorem State.pingStart_stable {s : State} (h : P s) (w : Option (Fin 16)) : P (State.pingStart s w) := by
  unfold State.pingStart
  repeat' with_reducible first | assumption | intro _ | apply State.withCasc_stable hP | apply State.put_stable hP | apply State.ite_stable | apply State.ite_snd_stable | apply State.ite_fst_stable | split | (dsimp only; split)

theorem State.pingEnd_stable {s : State} (h : P s) (r : Reply) (ok : Bool) : P (State.pingEnd s r ok) := by
  unfold State.pingEnd
  repeat' with_reducible first | assumption | intro _ | apply State.withCasc_stable hP | apply State.put_stable hP | apply State.putB_stable hP | apply State.assertEv_stable hP | apply State.finishHead_stable hP | apply State.ite_stable | apply State.ite_snd_stable | apply State.ite_fst_stable | split | (dsimp only; split)

theorem execCascadeTriggerReceive_stable {s tt : State} {t : Moment} (e : execCascadeTriggerReceive t s = .next tt) (h : P s) :
    P tt := by
  unfold execCascadeTriggerReceive at e
  injection e with e
  rw [← e]
  repeat' with_reducible first | assumption | intro _ | apply State.runOn_stable hP | apply State.withCasc_stable hP | apply State.cascPulse_stable hP | apply State.incMod_stable hP | apply State.pingEnd_stable hP | apply State.status_stable hP | apply State.ite_stable | apply State.ite_snd_stable | apply State.ite_fst_stable | split | (dsimp only; split)

theorem execTrigIoStuck_stable {s tt : State}  (e : execTrigIoStuck s = .next tt) (h : P s) :
    P tt := by
  unfold execTrigIoStuck at e
  injection e with e
  rw [← e]
  repeat' with_reducible first | assumption | intro _ | apply State.withCasc_stable hP | apply State.put_stable hP | apply State.assertEv_stable hP | apply State.ite_stable | apply State.ite_snd_stable | apply State.ite_fst_stable | split | (dsimp only; split)

theorem execPingAnswer_stable {s tt : State}  (e : execPingAnswer s = .next tt) (h : P s) :
    P tt := by
  unfold execPingAnswer at e
  injection e with e
  rw [← e]
  repeat' with_reducible first | assumption | intro _ | apply State.withCasc_stable hP | apply State.ite_stable | apply State.ite_snd_stable | apply State.ite_fst_stable | split | (dsimp only; split)

theorem execPingRound_stable {s tt : State} {rtt : Option Nat} {trig : Bool} (e : execPingRound rtt trig s = .next tt) (h : P s) :
    P tt := by
  unfold execPingRound at e
  injection e with e
  rw [← e]
  repeat' with_reducible first | assumption | intro _ | apply State.pingEnd_stable hP | apply State.status_stable hP | apply State.withCasc_stable hP | apply State.put_stable hP | apply State.ite_stable | apply State.ite_snd_stable | apply State.ite_fst_stable | apply State.foldl_stable | split | (dsimp only; split)

theorem State.writeCcfg_stable {s : State} (h : P s) (v : Nat) : P (State.writeCcfg s v) := by
  unfold State.writeCcfg
  repeat' with_reducible first | assumption | intro _ | apply State.wr_stable hP | apply State.put_stable hP | apply State.pingStart_stable hP | apply State.ite_stable | apply State.ite_snd_stable | apply State.ite_fst_stable | split | (dsimp only; split)

theorem execCascCfg_stable {s tt : State} {c : HostCmd} (e : execCascCfg c s = .next tt) (h : P s) :
    P tt := by
  unfold execCascCfg at e
  injection e with e
  rw [← e]
  repeat' with_reducible first | assumption | intro _ | apply State.hostCmd_stable hP | apply refuseMode_stable | refine refuseMode_stableEq (by assumption) ?_ | apply refuse_stable | refine refuse_stableEq (by assumption) ?_ | apply okReply_stable | refine okReply_stableEq (by assumption) ?_ | apply State.writeCcfg_stable hP | apply State.ite_stable | apply State.ite_snd_stable | apply State.ite_fst_stable | split | (dsimp only; split)

theorem execCascPing_stable {s tt : State} {c : HostCmd} (e : execCascPing c s = .next tt) (h : P s) :
    P tt := by
  unfold execCascPing at e
  injection e with e
  rw [← e]
  repeat' with_reducible first | assumption | intro _ | apply State.hostCmdW_stable hP | apply refuseMode_stable | refine refuseMode_stableEq (by assumption) ?_ | apply refuse_stable | refine refuse_stableEq (by assumption) ?_ | apply State.pingStart_stable hP | apply Step8.done_stable | apply Step8.waits_stable | apply State.ite_stable | apply State.ite_snd_stable | apply State.ite_fst_stable | split | (dsimp only; split)

theorem execCascStatus_stable {s tt : State} {c : HostCmd} (e : execCascStatus c s = .next tt) (h : P s) :
    P tt := by
  unfold execCascStatus at e
  injection e with e
  rw [← e]
  repeat' with_reducible first | assumption | intro _ | apply State.hostCmd_stable hP | apply refuseMode_stable | refine refuseMode_stableEq (by assumption) ?_ | apply okResult_stable | refine okResult_stableEq (by assumption) ?_ | apply State.ite_stable | apply State.ite_snd_stable | apply State.ite_fst_stable | split | (dsimp only; split)

end Sys2Proof.Machine
end

