-- ==== Sys2Proof/Laws/StableNet.lean ====
section
/-!
SUPPORT. The operations of Machine/Net.lean keep every stable property (Laws/Stable.lean).
-/

namespace Sys2Proof.Machine

variable {P : State → Prop} (hP : Stable P)
include hP

theorem State.wakeRequest_stable {s : State} (h : P s) (b : Nat) : P (State.wakeRequest s b) := by
  unfold State.wakeRequest
  repeat' with_reducible first | assumption | intro _ | apply State.put_stable hP | apply State.ite_stable | apply State.ite_snd_stable | apply State.ite_fst_stable | split | (dsimp only; split)

theorem State.setOffset_stable {s : State} (h : P s) (x : Int) : P (State.setOffset s x) := by
  unfold State.setOffset
  repeat' with_reducible first | assumption | intro _ | apply State.wr64_stable hP | apply State.put_stable hP | apply State.ite_stable | apply State.ite_snd_stable | apply State.ite_fst_stable | split | (dsimp only; split)

theorem State.applyRate_stable {s : State} (h : P s) (req : Nat) : P (State.applyRate s req) := by
  unfold State.applyRate
  repeat' with_reducible first | assumption | intro _ | apply State.setOffset_stable hP | apply State.wr_stable hP | apply State.put_stable hP | apply State.syncTime_stable hP | apply State.assertEv_stable hP | apply State.ite_stable | apply State.ite_snd_stable | apply State.ite_fst_stable | split | (dsimp only; split)

theorem execRateRequest_stable {s tt : State} {v : Word} {adv : Nat} (e : execRateRequest v adv s = .next tt) (h : P s) :
    P tt := by
  unfold execRateRequest at e
  injection e with e
  rw [← e]
  repeat' with_reducible first | assumption | intro _ | apply State.put_stable hP | apply State.tuAdvance_stable hP | apply State.applyRate_stable hP | apply State.ite_stable | apply State.ite_snd_stable | apply State.ite_fst_stable | split | (dsimp only; split)

theorem State.checkAlarm_stable {s : State} (h : P s)  : P (State.checkAlarm s) := by
  unfold State.checkAlarm
  repeat' with_reducible first | assumption | intro _ | apply State.put_stable hP | apply State.wakeRequest_stable hP | apply State.ite_stable | apply State.ite_snd_stable | apply State.ite_fst_stable | split | (dsimp only; split)

theorem State.gridRestart_stable {s : State} (h : P s)  : P (State.gridRestart s) := by
  unfold State.gridRestart
  repeat' with_reducible first | assumption | intro _ | apply State.withNet_stable hP | apply State.ite_stable | apply State.ite_snd_stable | apply State.ite_fst_stable | split | (dsimp only; split)

theorem State.applyStep_stable {s : State} (h : P s)  : P (State.applyStep s) := by
  unfold State.applyStep
  repeat' with_reducible first | assumption | intro _ | apply State.put_stable hP | apply State.setOffset_stable hP | apply State.syncTime_stable hP | apply State.gridRestart_stable hP | apply State.checkAlarm_stable hP | apply State.ite_stable | apply State.ite_snd_stable | apply State.ite_fst_stable | split | (dsimp only; split)

theorem execTimeStep_stable {s tt : State} {adv : Nat} (e : execTimeStep adv s = .next tt) (h : P s) :
    P tt := by
  unfold execTimeStep at e
  injection e with e
  rw [← e]
  repeat' with_reducible first | assumption | intro _ | apply State.tuAdvance_stable hP | apply State.applyStep_stable hP | apply State.ite_stable | apply State.ite_snd_stable | apply State.ite_fst_stable | split | (dsimp only; split)

theorem execAlarmReached_stable {s tt : State} {adv : Nat} (e : execAlarmReached adv s = .next tt) (h : P s) :
    P tt := by
  unfold execAlarmReached at e
  injection e with e
  rw [← e]
  repeat' with_reducible first | assumption | intro _ | apply State.runOn_stable hP | apply State.checkAlarm_stable hP | apply State.ite_stable | apply State.ite_snd_stable | apply State.ite_fst_stable | split | (dsimp only; split)

theorem State.sendGridMark_stable {s : State} (h : P s) (due : Nat) : P (State.sendGridMark s due) := by
  unfold State.sendGridMark
  repeat' with_reducible first | assumption | intro _ | apply State.modCarrier_stable hP | apply State.sampleClock_stable hP | apply State.each_stable | apply State.ite_stable | apply State.ite_snd_stable | apply State.ite_fst_stable | apply State.filterRegs_stable hP | apply State.filterMem_stable hP | split | (dsimp only; split)

theorem execGridMarkSend_stable {s tt : State} {adv : Nat} (e : execGridMarkSend adv s = .next tt) (h : P s) :
    P tt := by
  unfold execGridMarkSend at e
  injection e with e
  rw [← e]
  repeat' with_reducible first | assumption | intro _ | apply State.tuAdvance_stable hP | apply State.withNet_stable hP | apply State.inc_stable hP | apply State.assertEv_stable hP | apply State.sendGridMark_stable hP | apply State.ite_stable | apply State.ite_snd_stable | apply State.ite_fst_stable | split | (dsimp only; split)

theorem State.syncTsq_stable {s : State} (h : P s)  : P (State.syncTsq s) := by
  unfold State.syncTsq
  repeat' with_reducible first | assumption | intro _ | apply State.put_stable hP | apply State.wr_stable hP | apply State.putB_stable hP | apply State.ite_stable | apply State.ite_snd_stable | apply State.ite_fst_stable | split | (dsimp only; split)

theorem State.macStamp_stable {s : State} (h : P s) (p back : Nat) : P (State.macStamp s p back).2 := by
  unfold State.macStamp
  repeat' with_reducible first | assumption | intro _ | refine State.draw_stable hP (by assumption) ?_ | apply State.drawSnd_stable hP | apply State.ite_stable | apply State.ite_snd_stable | apply State.ite_fst_stable | split | (dsimp only; split)

theorem State.macStamp_stableEq {s tt : State} {x : Int} {p back : Nat} (heq : State.macStamp s p back = (x, tt)) (h : P s) : P tt := by
  have := State.macStamp_stable hP h p back
  rw [heq] at this; exact this

theorem State.pushStamp_stable {s : State} (h : P s) (p : Nat) (eg : Bool) (msgt seq : Nat) (t : Int) : P (State.pushStamp s p eg msgt seq t).2 := by
  unfold State.pushStamp
  repeat' with_reducible first | assumption | intro _ | apply State.withNet_stable hP | apply State.syncTsq_stable hP | apply State.put_stable hP | apply State.assertEv_stable hP | apply State.ite_stable | apply State.ite_snd_stable | apply State.ite_fst_stable | split | (dsimp only; split)

theorem State.pushStamp_stableEq {s tt : State} {x : Bool} {p : Nat} {eg : Bool} {msgt seq : Nat} {t : Int} (heq : State.pushStamp s p eg msgt seq t = (x, tt)) (h : P s) : P tt := by
  have := State.pushStamp_stable hP h p eg msgt seq t
  rw [heq] at this; exact this

theorem execFrameReceive_stable {s tt : State} {p : Fin 4} {bytes : List Byte} {bad : Bool} {full : Nat} {stamp : Moment} (e : execFrameReceive p bytes bad full stamp s = .next tt) (h : P s) :
    P tt := by
  unfold execFrameReceive at e
  injection e with e
  rw [← e]
  repeat' with_reducible first | assumption | intro _ | apply State.runOn_stable hP | apply State.macStamp_stable hP | refine State.macStamp_stableEq hP (by assumption) ?_ | apply State.inc_stable hP | apply State.forward_stable hP | apply State.ite_stable | apply State.ite_snd_stable | apply State.ite_fst_stable | split | (dsimp only; split)

theorem State.sendOwn_stable {s : State} (h : P s) (p : Nat) (bytes : List Byte) (inPort : Nat) (inAt : Int) (evt : Option (Nat × Nat)) (relay : Option (Nat × Int)) : P (State.sendOwn s p bytes inPort inAt evt relay) := by
  unfold State.sendOwn
  repeat' with_reducible first | assumption | intro _ | apply State.queueDrop_stable hP | refine State.frameBufs_stableEq hP (by assumption) ?_ | apply State.txPush_stable hP | apply State.ite_stable | apply State.ite_snd_stable | apply State.ite_fst_stable | split | (dsimp only; split)

theorem State.rxOwn_stableEq {s tt : State} {x : List Nat} {bytes : List Byte} (e : State.rxOwn s bytes = some (x, tt)) (h : P s) : P tt := by
  revert e; unfold State.rxOwn
  intro e
  try dsimp only at e
  repeat' split at e
  all_goals (try cases e)
  repeat' with_reducible first | assumption | intro _ | refine State.frameBufs_stableEq hP (by assumption) ?_ | apply State.ite_stable | apply State.ite_snd_stable | apply State.ite_fst_stable | split | (dsimp only; split)

theorem State.noBuf_stable {s : State} (h : P s)  : P (State.noBuf s) := by
  unfold State.noBuf
  repeat' with_reducible first | assumption | intro _ | apply State.inc_stable hP | apply State.assertEv_stable hP | apply State.ite_stable | apply State.ite_snd_stable | apply State.ite_fst_stable | split | (dsimp only; split)

theorem State.freeBufs_stable {s : State} (h : P s) (bs : List Nat) : P (State.freeBufs s bs) := by
  unfold State.freeBufs
  repeat' with_reducible first | assumption | intro _ | apply State.setOwner_stable hP | apply State.each_stable | apply State.ite_stable | apply State.ite_snd_stable | apply State.ite_fst_stable | split | (dsimp only; split)

theorem State.transparent_stable {s : State} (h : P s) (f : TxFrame) (egAt : Int) : P (State.transparent s f egAt).2 := by
  unfold State.transparent
  repeat' with_reducible first | assumption | intro _ | apply State.withNet_stable hP | apply State.ite_stable | apply State.ite_snd_stable | apply State.ite_fst_stable | apply State.filterRegs_stable hP | apply State.filterMem_stable hP | split | (dsimp only; split)

theorem State.transparent_stableEq {s tt : State} {x : List Byte} {f : TxFrame} {egAt : Int} (heq : State.transparent s f egAt = (x, tt)) (h : P s) : P tt := by
  have := State.transparent_stable hP h f egAt
  rw [heq] at this; exact this

theorem State.setLinkDelay_stable {s : State} (h : P s) (p : Nat) (v : LinkDelay) : P (State.setLinkDelay s p v) := by
  unfold State.setLinkDelay
  repeat' with_reducible first | assumption | intro _ | apply State.withNet_stable hP | apply State.ite_stable | apply State.ite_snd_stable | apply State.ite_fst_stable | split | (dsimp only; split)

theorem execFrameEgress_stable {s tt : State} {p : Fin 4} {stamp : Moment} (e : execFrameEgress p stamp s = .next tt) (h : P s) :
    P tt := by
  unfold execFrameEgress at e
  injection e with e
  rw [← e]
  repeat' with_reducible first | assumption | intro _ | apply State.runOn_stable hP | apply State.macStamp_stable hP | refine State.macStamp_stableEq hP (by assumption) ?_ | apply State.withNet_stable hP | apply State.transparent_stable hP | refine State.transparent_stableEq hP (by assumption) ?_ | apply State.freeSent_stable hP | apply State.pushStamp_stable hP | refine State.pushStamp_stableEq hP (by assumption) ?_ | apply State.setLinkDelay_stable hP | apply State.ite_stable | apply State.ite_snd_stable | apply State.ite_fst_stable | split | (dsimp only; split)

theorem execFdbAgeing_stable {s tt : State} {mac : BitVec 48} (e : execFdbAgeing mac s = .next tt) (h : P s) :
    P tt := by
  unfold execFdbAgeing at e
  injection e with e
  rw [← e]
  repeat' with_reducible first | assumption | intro _ | apply State.withNet_stable hP | apply State.ite_stable | apply State.ite_snd_stable | apply State.ite_fst_stable | apply State.filterRegs_stable hP | apply State.filterMem_stable hP | split | (dsimp only; split)

theorem execPortLinkChange_stable {s tt : State} {p : Fin 4} {up : Bool} (e : execPortLinkChange p up s = .next tt) (h : P s) :
    P tt := by
  unfold execPortLinkChange at e
  injection e with e
  rw [← e]
  repeat' with_reducible first | assumption | intro _ | apply State.putB_stable hP | apply State.assertEv_stable hP | apply State.ite_stable | apply State.ite_snd_stable | apply State.ite_fst_stable | split | (dsimp only; split)

theorem execInternalPortFrame_stable {s tt : State}  (e : execInternalPortFrame s = .next tt) (h : P s) :
    P tt := by
  unfold execInternalPortFrame at e
  injection e with e
  rw [← e]
  repeat' with_reducible first | assumption | intro _ | apply State.withNet_stable hP | apply State.inc_stable hP | refine State.frameBufs_stableEq hP (by assumption) ?_ | apply State.noBuf_stable hP | apply State.sendFrame_stable hP | refine State.sendFrame_stableEq hP (by assumption) ?_ | apply State.freeBufs_stable hP | apply State.ite_stable | apply State.ite_snd_stable | apply State.ite_fst_stable | split | (dsimp only; split)

theorem State.takeRx_stable {s : State} (h : P s) (payload : List Byte) : P (State.takeRx s payload) := by
  unfold State.takeRx
  repeat' with_reducible first | assumption | intro _ | apply State.withNet_stable hP | apply State.freeBufs_stable hP | apply State.ite_stable | apply State.ite_snd_stable | apply State.ite_fst_stable | split | (dsimp only; split)

theorem execVmDatagram_stable {s tt : State} {port : BitVec 16} {src : BitVec 32} {bytes : List Byte} (e : execVmDatagram port src bytes s = .next tt) (h : P s) :
    P tt := by
  unfold execVmDatagram at e
  injection e with e
  rw [← e]
  repeat' with_reducible first | assumption | intro _ | apply State.takeRx_stable hP | apply State.inc_stable hP | apply State.setVmBind_stable hP | apply State.wr64_stable hP | apply State.wr_stable hP | apply State.vmthWrite_stable hP | apply State.ite_stable | apply State.ite_snd_stable | apply State.ite_fst_stable | split | (dsimp only; split)

theorem execWakeFrame_stable {s tt : State} {bytes : List Byte} (e : execWakeFrame bytes s = .next tt) (h : P s) :
    P tt := by
  unfold execWakeFrame at e
  try dsimp only at e
  repeat' split at e
  all_goals first | (injection e with e; rw [← e]) | cases e
  repeat' with_reducible first | assumption | intro _ | apply State.wakeRequest_stable hP | apply State.ite_stable | apply State.ite_snd_stable | apply State.ite_fst_stable | split | (dsimp only; split)

theorem State.servo_stable {s : State} (h : P s) (off : Int) : P (State.servo s off) := by
  unfold State.servo
  repeat' with_reducible first | assumption | intro _ | apply State.withNet_stable hP | apply State.wr64_stable hP | apply State.applyStep_stable hP | apply State.wr_stable hP | apply State.put_stable hP | apply State.applyRate_stable hP | apply State.assertEv_stable hP | refine State.draw_stable hP (by assumption) ?_ | apply State.drawSnd_stable hP | apply State.ite_stable | apply State.ite_snd_stable | apply State.ite_fst_stable | split | (dsimp only; split)

theorem State.relaySync_stable {s : State} (h : P s) (p : Nat) (bytes : List Byte) (h : Nat) (origin inAt : Int) : P (State.relaySync s p bytes h origin inAt) := by
  unfold State.relaySync
  repeat' with_reducible first | assumption | intro _ | apply State.sendOwn_stable hP | apply State.each_stable | apply State.ite_stable | apply State.ite_snd_stable | apply State.ite_fst_stable | apply State.filterRegs_stable hP | apply State.filterMem_stable hP | split | (dsimp only; split)

theorem execGptpSyncReceived_stable {s tt : State} {p : Fin 4} {bytes : List Byte} {stamp : Moment} {origin : Int} (e : execGptpSyncReceived p bytes stamp origin s = .next tt) (h : P s) :
    P tt := by
  unfold execGptpSyncReceived at e
  try dsimp only at e
  repeat' split at e
  all_goals first | (injection e with e; rw [← e]) | cases e
  repeat' with_reducible first | assumption | intro _ | apply State.runOn_stable hP | apply State.macStamp_stable hP | refine State.macStamp_stableEq hP (by assumption) ?_ | refine State.rxOwn_stableEq hP (by assumption) ?_ | apply State.noBuf_stable hP | apply State.relaySync_stable hP | apply State.pushStamp_stable hP | refine State.pushStamp_stableEq hP (by assumption) ?_ | apply State.servo_stable hP | apply State.freeBufs_stable hP | apply State.ite_stable | apply State.ite_snd_stable | apply State.ite_fst_stable | split | (dsimp only; split)

theorem execSyncLossTimeout_stable {s tt : State}  (e : execSyncLossTimeout s = .next tt) (h : P s) :
    P tt := by
  unfold execSyncLossTimeout at e
  injection e with e
  rw [← e]
  repeat' with_reducible first | assumption | intro _ | apply State.put_stable hP | apply State.assertEv_stable hP | apply State.ite_stable | apply State.ite_snd_stable | apply State.ite_fst_stable | split | (dsimp only; split)

theorem execPdelayReqReceived_stable {s tt : State} {p : Fin 4} {sequence : BitVec 16} {stamp : Moment} (e : execPdelayReqReceived p sequence stamp s = .next tt) (h : P s) :
    P tt := by
  unfold execPdelayReqReceived at e
  injection e with e
  rw [← e]
  repeat' with_reducible first | assumption | intro _ | apply State.runOn_stable hP | apply State.macStamp_stable hP | refine State.macStamp_stableEq hP (by assumption) ?_ | refine State.rxOwn_stableEq hP (by assumption) ?_ | apply State.noBuf_stable hP | apply State.pushStamp_stable hP | refine State.pushStamp_stableEq hP (by assumption) ?_ | apply State.sendOwn_stable hP | apply State.freeBufs_stable hP | apply State.ite_stable | apply State.ite_snd_stable | apply State.ite_fst_stable | split | (dsimp only; split)

theorem execGptpTimerDue_stable {s tt : State} {p : Fin 4} {kind : Fin 3} (e : execGptpTimerDue p kind s = .next tt) (h : P s) :
    P tt := by
  unfold execGptpTimerDue at e
  injection e with e
  rw [← e]
  repeat' with_reducible first | assumption | intro _ | apply State.withNet_stable hP | apply State.setLinkDelay_stable hP | apply State.sendOwn_stable hP | apply State.ite_stable | apply State.ite_snd_stable | apply State.ite_fst_stable | split | (dsimp only; split)

theorem State.takePdelay_stable {s : State} (h : P s) (p : Nat) (kept : Bool) (seq : Nat) (ts : List Int) : P (State.takePdelay s p kept seq ts) := by
  unfold State.takePdelay
  repeat' with_reducible first | assumption | intro _ | apply State.setLinkDelay_stable hP | apply State.ite_stable | apply State.ite_snd_stable | apply State.ite_fst_stable | split | (dsimp only; split)

theorem execPdelayRespReceived_stable {s tt : State} {p : Fin 4} {sequence : BitVec 16} {stamp : Moment} {t2 t3 : Int} (e : execPdelayRespReceived p sequence stamp t2 t3 s = .next tt) (h : P s) :
    P tt := by
  unfold execPdelayRespReceived at e
  injection e with e
  rw [← e]
  repeat' with_reducible first | assumption | intro _ | apply State.runOn_stable hP | apply State.macStamp_stable hP | refine State.macStamp_stableEq hP (by assumption) ?_ | refine State.rxOwn_stableEq hP (by assumption) ?_ | apply State.noBuf_stable hP | apply State.pushStamp_stable hP | refine State.pushStamp_stableEq hP (by assumption) ?_ | apply State.takePdelay_stable hP | apply State.freeBufs_stable hP | apply State.ite_stable | apply State.ite_snd_stable | apply State.ite_fst_stable | split | (dsimp only; split)

theorem State.chooseRoles_stable {s : State} (h : P s)  : P (State.chooseRoles s) := by
  unfold State.chooseRoles
  repeat' with_reducible first | assumption | intro _ | apply State.withNet_stable hP | apply State.ite_stable | apply State.ite_snd_stable | apply State.ite_fst_stable | split | (dsimp only; split)

theorem execAnnounceReceived_stable {s tt : State} {p : Fin 4} {bytes : List Byte} (e : execAnnounceReceived p bytes s = .next tt) (h : P s) :
    P tt := by
  unfold execAnnounceReceived at e
  injection e with e
  rw [← e]
  repeat' with_reducible first | assumption | intro _ | refine State.rxOwn_stableEq hP (by assumption) ?_ | apply State.noBuf_stable hP | apply State.withNet_stable hP | apply State.chooseRoles_stable hP | apply State.freeBufs_stable hP | apply State.ite_stable | apply State.ite_snd_stable | apply State.ite_fst_stable | split | (dsimp only; split)

theorem State.tsqPop_stable {s : State} (h : P s)  : P (State.tsqPop s) := by
  unfold State.tsqPop
  repeat' with_reducible first | assumption | intro _ | apply State.withNet_stable hP | apply State.syncTsq_stable hP | apply State.sendOwn_stable hP | apply State.ite_stable | apply State.ite_snd_stable | apply State.ite_fst_stable | split | (dsimp only; split)

theorem execTsqPop_stable {s tt : State}  (e : execTsqPop s = .next tt) (h : P s) :
    P tt := by
  unfold execTsqPop at e
  injection e with e
  rw [← e]
  repeat' with_reducible first | assumption | intro _ | apply State.tsqPop_stable hP | apply State.ite_stable | apply State.ite_snd_stable | apply State.ite_fst_stable | split | (dsimp only; split)

theorem execNetPortCfg_stable {s tt : State} {c : HostCmd} (e : execNetPortCfg c s = .next tt) (h : P s) :
    P tt := by
  unfold execNetPortCfg at e
  injection e with e
  rw [← e]
  repeat' with_reducible first | assumption | intro _ | apply State.hostCmd_stable hP | apply refuseMode_stable | refine refuseMode_stableEq (by assumption) ?_ | apply refuse_stable | refine refuse_stableEq (by assumption) ?_ | apply State.put_stable hP | apply okReply_stable | refine okReply_stableEq (by assumption) ?_ | apply State.ite_stable | apply State.ite_snd_stable | apply State.ite_fst_stable | split | (dsimp only; split)

theorem execNetVlanCfg_stable {s tt : State} {c : HostCmd} (e : execNetVlanCfg c s = .next tt) (h : P s) :
    P tt := by
  unfold execNetVlanCfg at e
  injection e with e
  rw [← e]
  repeat' with_reducible first | assumption | intro _ | apply State.hostCmd_stable hP | apply refuseMode_stable | refine refuseMode_stableEq (by assumption) ?_ | apply refuse_stable | refine refuse_stableEq (by assumption) ?_ | apply State.put_stable hP | apply okReply_stable | refine okReply_stableEq (by assumption) ?_ | apply State.ite_stable | apply State.ite_snd_stable | apply State.ite_fst_stable | split | (dsimp only; split)

theorem execNetFdb_stable {s tt : State} {c : HostCmd} (e : execNetFdb c s = .next tt) (h : P s) :
    P tt := by
  unfold execNetFdb at e
  injection e with e
  rw [← e]
  repeat' with_reducible first | assumption | intro _ | apply State.hostCmd_stable hP | apply refuseMode_stable | refine refuseMode_stableEq (by assumption) ?_ | apply refuse_stable | refine refuse_stableEq (by assumption) ?_ | apply okReply_stable | refine okReply_stableEq (by assumption) ?_ | apply State.withNet_stable hP | apply State.ite_stable | apply State.ite_snd_stable | apply State.ite_fst_stable | split | (dsimp only; split)

theorem execNetIpCfg_stable {s tt : State} {c : HostCmd} (e : execNetIpCfg c s = .next tt) (h : P s) :
    P tt := by
  unfold execNetIpCfg at e
  injection e with e
  rw [← e]
  repeat' with_reducible first | assumption | intro _ | apply State.hostCmd_stable hP | apply refuseMode_stable | refine refuseMode_stableEq (by assumption) ?_ | apply refuse_stable | refine refuse_stableEq (by assumption) ?_ | apply okReply_stable | refine okReply_stableEq (by assumption) ?_ | apply State.withNet_stable hP | apply State.ite_stable | apply State.ite_snd_stable | apply State.ite_fst_stable | split | (dsimp only; split)

theorem execNetStatus_stable {s tt : State} {c : HostCmd} (e : execNetStatus c s = .next tt) (h : P s) :
    P tt := by
  unfold execNetStatus at e
  injection e with e
  rw [← e]
  repeat' with_reducible first | assumption | intro _ | apply State.hostCmd_stable hP | apply refuseMode_stable | refine refuseMode_stableEq (by assumption) ?_ | apply refuse_stable | refine refuse_stableEq (by assumption) ?_ | apply okResult_stable | refine okResult_stableEq (by assumption) ?_ | apply State.ite_stable | apply State.ite_snd_stable | apply State.ite_fst_stable | split | (dsimp only; split)

theorem execTimeCfg_stable {s tt : State} {c : HostCmd} (e : execTimeCfg c s = .next tt) (h : P s) :
    P tt := by
  unfold execTimeCfg at e
  injection e with e
  rw [← e]
  repeat' with_reducible first | assumption | intro _ | apply State.hostCmd_stable hP | apply refuseMode_stable | refine refuseMode_stableEq (by assumption) ?_ | apply refuse_stable | refine refuse_stableEq (by assumption) ?_ | apply State.put_stable hP | apply State.withNet_stable hP | apply okReply_stable | refine okReply_stableEq (by assumption) ?_ | apply State.chooseRoles_stable hP | apply State.ite_stable | apply State.ite_snd_stable | apply State.ite_fst_stable | split | (dsimp only; split)

theorem execTimeStatus_stable {s tt : State} {c : HostCmd} {adv : Nat} (e : execTimeStatus c adv s = .next tt) (h : P s) :
    P tt := by
  unfold execTimeStatus at e
  injection e with e
  rw [← e]
  repeat' with_reducible first | assumption | intro _ | apply State.hostCmd_stable hP | apply refuseMode_stable | refine refuseMode_stableEq (by assumption) ?_ | apply State.tuAdvance_stable hP | apply okResult_stable | refine okResult_stableEq (by assumption) ?_ | apply State.ite_stable | apply State.ite_snd_stable | apply State.ite_fst_stable | split | (dsimp only; split)

theorem State.newEpoch_stable {s : State} (h : P s)  : P (State.newEpoch s) := by
  unfold State.newEpoch
  repeat' with_reducible first | assumption | intro _ | apply State.put_stable hP | apply State.incMod_stable hP | apply State.ite_stable | apply State.ite_snd_stable | apply State.ite_fst_stable | split | (dsimp only; split)

theorem execTimeRestep_stable {s tt : State} {c : HostCmd} (e : execTimeRestep c s = .next tt) (h : P s) :
    P tt := by
  unfold execTimeRestep at e
  injection e with e
  rw [← e]
  repeat' with_reducible first | assumption | intro _ | apply State.hostCmd_stable hP | apply refuseMode_stable | refine refuseMode_stableEq (by assumption) ?_ | apply okReply_stable | refine okReply_stableEq (by assumption) ?_ | apply State.newEpoch_stable hP | apply State.ite_stable | apply State.ite_snd_stable | apply State.ite_fst_stable | split | (dsimp only; split)

theorem execTimeGrid_stable {s tt : State} {c : HostCmd} {adv : Nat} (e : execTimeGrid c adv s = .next tt) (h : P s) :
    P tt := by
  unfold execTimeGrid at e
  injection e with e
  rw [← e]
  repeat' with_reducible first | assumption | intro _ | apply State.hostCmd_stable hP | apply refuseMode_stable | refine refuseMode_stableEq (by assumption) ?_ | apply refuse_stable | refine refuse_stableEq (by assumption) ?_ | apply State.tuAdvance_stable hP | apply State.put_stable hP | apply okReply_stable | refine okReply_stableEq (by assumption) ?_ | apply State.gridRestart_stable hP | apply State.ite_stable | apply State.ite_snd_stable | apply State.ite_fst_stable | split | (dsimp only; split)

theorem execTimeAlarm_stable {s tt : State} {c : HostCmd} {adv : Nat} (e : execTimeAlarm c adv s = .next tt) (h : P s) :
    P tt := by
  unfold execTimeAlarm at e
  injection e with e
  rw [← e]
  apply State.hostCmd_stable hP h
  intro t ht
  dsimp only
  split
  · exact refuseMode_stable ht
  split
  · exact refuse_stable (State.tuAdvance_stable hP ht _) _
  · exact okReply_stable (State.put_stable hP (State.wr64_stable hP (State.tuAdvance_stable hP ht _) _ _ _) _ _)


theorem execNetPortDelay_stable {s tt : State} {c : HostCmd} (e : execNetPortDelay c s = .next tt) (h : P s) :
    P tt := by
  unfold execNetPortDelay at e
  injection e with e
  rw [← e]
  repeat' with_reducible first | assumption | intro _ | apply State.hostCmd_stable hP | apply refuseMode_stable | refine refuseMode_stableEq (by assumption) ?_ | apply refuse_stable | refine refuse_stableEq (by assumption) ?_ | apply okReply_stable | refine okReply_stableEq (by assumption) ?_ | apply State.put_stable hP | apply State.ite_stable | apply State.ite_snd_stable | apply State.ite_fst_stable | split | (dsimp only; split)

theorem execNetVmBind_stable {s tt : State} {c : HostCmd} (e : execNetVmBind c s = .next tt) (h : P s) :
    P tt := by
  unfold execNetVmBind at e
  injection e with e
  rw [← e]
  repeat' with_reducible first | assumption | intro _ | apply State.hostCmd_stable hP | apply refuseMode_stable | refine refuseMode_stableEq (by assumption) ?_ | apply refuse_stable | refine refuse_stableEq (by assumption) ?_ | apply okReply_stable | refine okReply_stableEq (by assumption) ?_ | apply State.setVmBind_stable hP | apply State.ite_stable | apply State.ite_snd_stable | apply State.ite_fst_stable | split | (dsimp only; split)

theorem execNetWakeCfg_stable {s tt : State} {c : HostCmd} (e : execNetWakeCfg c s = .next tt) (h : P s) :
    P tt := by
  unfold execNetWakeCfg at e
  injection e with e
  rw [← e]
  repeat' with_reducible first | assumption | intro _ | apply State.hostCmd_stable hP | apply refuseMode_stable | refine refuseMode_stableEq (by assumption) ?_ | apply okReply_stable | refine okReply_stableEq (by assumption) ?_ | apply State.wr_stable hP | apply State.ite_stable | apply State.ite_snd_stable | apply State.ite_fst_stable | split | (dsimp only; split)

end Sys2Proof.Machine
end

