-- ==== Sys2Proof/Laws/StableCan.lean ====
section
/-!
SUPPORT. The operations of Machine/Can.lean keep every stable property (Laws/Stable.lean).
-/

namespace Sys2Proof.Machine

variable {P : State → Prop} (hP : Stable P)
include hP

theorem State.canReceive_stable {s : State} (h : P s) (n : Nat) (f : CanFrame) (ns writes : Nat) : P (State.canReceive s n f ns writes) := by
  unfold State.canReceive
  repeat' with_reducible first | assumption | intro _ | apply State.canPlace_stable hP | apply State.put_stable hP | apply State.wakeRequest_stable hP | apply State.canCheck_stable hP | apply State.canServeReads_stable hP | apply State.ite_stable | apply State.ite_snd_stable | apply State.ite_fst_stable | split | (dsimp only; split)

theorem execQheadLock_stable {s tt : State} {n : Fin 8} {q : Fin 2} (e : execQheadLock n q s = .next tt) (h : P s) :
    P tt := by
  unfold execQheadLock at e
  injection e with e
  rw [← e]
  repeat' with_reducible first | assumption | intro _ | apply State.put_stable hP | apply State.ite_stable | apply State.ite_snd_stable | apply State.ite_fst_stable | split | (dsimp only; split)

theorem execQueueRelease_stable {s tt : State} {n : Fin 8} {q : Fin 2} (e : execQueueRelease n q s = .next tt) (h : P s) :
    P tt := by
  unfold execQueueRelease at e
  injection e with e
  rw [← e]
  repeat' with_reducible first | assumption | intro _ | apply State.canRelease_stable hP | apply State.canCheck_stable hP | apply State.ite_stable | apply State.ite_snd_stable | apply State.ite_fst_stable | split | (dsimp only; split)

theorem execSpillDone_stable {s tt : State} {n : Fin 8} (e : execSpillDone n s = .next tt) (h : P s) :
    P tt := by
  unfold execSpillDone at e
  injection e with e
  rw [← e]
  repeat' with_reducible first | assumption | intro _ | apply State.canSpillDone_stable hP | apply State.canCheck_stable hP | apply State.ite_stable | apply State.ite_snd_stable | apply State.ite_fst_stable | split | (dsimp only; split)

theorem State.canStart_stable {s : State} (h : P s) (n : Nat) : P (State.canStart s n) := by
  unfold State.canStart
  repeat' with_reducible first | assumption | intro _ | apply State.modCan_stable hP | apply State.put_stable hP | apply State.ite_stable | apply State.ite_snd_stable | apply State.ite_fst_stable | split | (dsimp only; split)

theorem State.startIf_stable {s : State} (h : P s) (n : Nat) (sof : Bool) : P (State.startIf s n sof) := by
  unfold State.startIf
  repeat' with_reducible first | assumption | intro _ | apply State.canStart_stable hP | apply State.ite_stable | apply State.ite_snd_stable | apply State.ite_fst_stable | split | (dsimp only; split)

theorem State.canFdSeen_stable {s : State} (h : P s) (n : Nat) : P (State.canFdSeen s n) := by
  unfold State.canFdSeen
  repeat' with_reducible first | assumption | intro _ | apply State.put_stable hP | apply State.assertEv_stable hP | apply State.setRec_stable hP | apply State.ite_stable | apply State.ite_snd_stable | apply State.ite_fst_stable | split | (dsimp only; split)

theorem execCanFrameReceived_stable {s tt : State} {n : Fin 8} {frame : CanFrame} {heard : CanHeard} (e : execCanFrameReceived n frame heard s = .next tt) (h : P s) :
    P tt := by
  unfold execCanFrameReceived at e
  injection e with e
  rw [← e]
  repeat' with_reducible first | assumption | intro _ | apply State.runOn_stable hP | apply State.canFdSeen_stable hP | apply State.setRec_stable hP | apply State.put_stable hP | apply State.canReceive_stable hP | apply State.startIf_stable hP | apply State.ite_stable | apply State.ite_snd_stable | apply State.ite_fst_stable | split | (dsimp only; split)

theorem State.canReturn_stable {s : State} (h : P s) (n b res : Nat) (late : Bool) : P (State.canReturn s n b res late) := by
  unfold State.canReturn
  repeat' with_reducible first | assumption | intro _ | apply State.put_stable hP | apply State.putB_stable hP | apply State.modCan_stable hP | apply State.finishHead_stable hP | apply State.ite_stable | apply State.ite_snd_stable | apply State.ite_fst_stable | apply State.filterRegs_stable hP | apply State.filterMem_stable hP | split | (dsimp only; split)

theorem State.canRequest_stable {s : State} (h : P s) (n : Nat) (l : List Nat) : P (State.canRequest s n l) := by
  unfold State.canRequest
  repeat' with_reducible first | assumption | intro _ | apply State.wr_stable hP | apply State.put_stable hP | apply State.each_stable | apply State.ite_stable | apply State.ite_snd_stable | apply State.ite_fst_stable | apply State.filterRegs_stable hP | apply State.filterMem_stable hP | split | (dsimp only; split)

theorem State.canCancel_stable {s : State} (h : P s) (n : Nat) (l : List Nat) : P (State.canCancel s n l) := by
  unfold State.canCancel
  repeat' with_reducible first | assumption | intro _ | apply State.modCan_stable hP | apply State.canReturn_stable hP | apply State.each_stable | apply State.ite_stable | apply State.ite_snd_stable | apply State.ite_fst_stable | apply State.filterRegs_stable hP | apply State.filterMem_stable hP | split | (dsimp only; split)

theorem execTxRequest_stable {s tt : State} {n : Fin 8} {bufs : BitVec 16} {sof : Bool} (e : execTxRequest n bufs sof s = .next tt) (h : P s) :
    P tt := by
  unfold execTxRequest at e
  injection e with e
  rw [← e]
  repeat' with_reducible first | assumption | intro _ | apply State.canRequest_stable hP | apply State.canCheck_stable hP | apply State.startIf_stable hP | apply State.ite_stable | apply State.ite_snd_stable | apply State.ite_fst_stable | split | (dsimp only; split)

theorem execTxCancel_stable {s tt : State} {n : Fin 8} {bufs : BitVec 16} (e : execTxCancel n bufs s = .next tt) (h : P s) :
    P tt := by
  unfold execTxCancel at e
  injection e with e
  rw [← e]
  repeat' with_reducible first | assumption | intro _ | apply State.canCancel_stable hP | apply State.canCheck_stable hP | apply State.ite_stable | apply State.ite_snd_stable | apply State.ite_fst_stable | split | (dsimp only; split)

theorem execTxAttemptEnd_stable {s tt : State} {n : Fin 8} {out : CanEnd} {sof : Bool} (e : execTxAttemptEnd n out sof s = .next tt) (h : P s) :
    P tt := by
  unfold execTxAttemptEnd at e
  injection e with e
  rw [← e]
  repeat' with_reducible first | assumption | intro _ | apply State.canStart_stable hP | apply State.runOn_stable hP | apply State.inc_stable hP | apply State.put_stable hP | apply State.wrBytes_stable hP | apply State.setTec_stable hP | apply State.canReturn_stable hP | apply State.canReceive_stable hP | apply State.modCan_stable hP | apply State.assertEv_stable hP | apply State.canCheck_stable hP | apply State.startIf_stable hP | apply State.ite_stable | apply State.ite_snd_stable | apply State.ite_fst_stable | split | (dsimp only; split)

theorem State.canFlush_stable {s : State} (h : P s) (n : Nat) : P (State.canFlush s n) := by
  unfold State.canFlush
  repeat' with_reducible first | assumption | intro _ | apply State.canReturn_stable hP | apply State.each_stable | apply State.ite_stable | apply State.ite_snd_stable | apply State.ite_fst_stable | split | (dsimp only; split)

theorem execCanBusError_stable {s tt : State} {n : Fin 8} {err : CanError} (e : execCanBusError n err s = .next tt) (h : P s) :
    P tt := by
  unfold execCanBusError at e
  injection e with e
  rw [← e]
  repeat' with_reducible first | assumption | intro _ | apply State.canFdSeen_stable hP | apply State.startIf_stable hP | apply State.put_stable hP | apply State.setRec_stable hP | apply State.setTec_stable hP | apply State.ite_stable | apply State.ite_snd_stable | apply State.ite_fst_stable | split | (dsimp only; split)

theorem execBusOff_stable {s tt : State} {n : Fin 8} (e : execBusOff n s = .next tt) (h : P s) :
    P tt := by
  unfold execBusOff at e
  injection e with e
  rw [← e]
  repeat' with_reducible first | assumption | intro _ | apply State.put_stable hP | apply State.modCan_stable hP | apply State.canFlush_stable hP | apply State.canReturn_stable hP | apply State.canCheck_stable hP | apply State.assertEv_stable hP | apply State.each_stable | apply State.ite_stable | apply State.ite_snd_stable | apply State.ite_fst_stable | apply State.filterRegs_stable hP | apply State.filterMem_stable hP | split | (dsimp only; split)

theorem execBusoffRecovered_stable {s tt : State} {n : Fin 8} (e : execBusoffRecovered n s = .next tt) (h : P s) :
    P tt := by
  unfold execBusoffRecovered at e
  injection e with e
  rw [← e]
  repeat' with_reducible first | assumption | intro _ | apply State.wr_stable hP | apply State.put_stable hP | apply State.modCan_stable hP | apply State.canStart_stable hP | apply State.ite_stable | apply State.ite_snd_stable | apply State.ite_fst_stable | split | (dsimp only; split)

theorem execStuckDominant_stable {s tt : State} {n : Fin 8} (e : execStuckDominant n s = .next tt) (h : P s) :
    P tt := by
  unfold execStuckDominant at e
  injection e with e
  rw [← e]
  repeat' with_reducible first | assumption | intro _ | apply State.put_stable hP | apply State.assertEv_stable hP | apply State.ite_stable | apply State.ite_snd_stable | apply State.ite_fst_stable | split | (dsimp only; split)

theorem execBusIntegrationDone_stable {s tt : State} {n : Fin 8} (e : execBusIntegrationDone n s = .next tt) (h : P s) :
    P tt := by
  unfold execBusIntegrationDone at e
  injection e with e
  rw [← e]
  repeat' with_reducible first | assumption | intro _ | apply State.put_stable hP | apply State.canErrState_stable hP | apply State.canStart_stable hP | apply State.ite_stable | apply State.ite_snd_stable | apply State.ite_fst_stable | split | (dsimp only; split)

theorem State.canEnable_stable {s : State} (h : P s) (n : Nat) (en : Bool) : P (State.canEnable s n en) := by
  unfold State.canEnable
  repeat' with_reducible first | assumption | intro _ | apply State.put_stable hP | apply State.canFlush_stable hP | apply State.canCheck_stable hP | apply State.ite_stable | apply State.ite_snd_stable | apply State.ite_fst_stable | split | (dsimp only; split)

theorem State.canStandby_stable {s : State} (h : P s)  : P (State.canStandby s) := by
  unfold State.canStandby
  repeat' with_reducible first | assumption | intro _ | apply State.canFlush_stable hP | apply State.canCheck_stable hP | apply State.withCtxCopy_stable hP | apply State.put_stable hP | apply State.each_stable | apply State.ite_stable | apply State.ite_snd_stable | apply State.ite_fst_stable | split | (dsimp only; split)

theorem State.canWake_stable {s : State} (h : P s)  : P (State.canWake s) := by
  unfold State.canWake
  repeat' with_reducible first | assumption | intro _ | apply State.setOwner_stable hP | apply State.setCan_stable hP | apply State.wr_stable hP | apply State.canEnable_stable hP | apply State.each_stable | apply State.ite_stable | apply State.ite_snd_stable | apply State.ite_fst_stable | apply State.filterRegs_stable hP | apply State.filterMem_stable hP | split | (dsimp only; split)

theorem State.canCount_stable {s : State} (h : P s) (addrs : List Nat) : P (State.canCount s addrs) := by
  unfold State.canCount
  repeat' with_reducible first | assumption | intro _ | apply State.put_stable hP | refine State.draw_stable hP (by assumption) ?_ | apply State.drawSnd_stable hP | apply State.each_stable | apply State.ite_stable | apply State.ite_snd_stable | apply State.ite_fst_stable | apply State.filterRegs_stable hP | apply State.filterMem_stable hP | split | (dsimp only; split)

theorem execCanCfg_stable {s tt : State} {c : HostCmd} (e : execCanCfg c s = .next tt) (h : P s) :
    P tt := by
  unfold execCanCfg at e
  injection e with e
  rw [← e]
  repeat' with_reducible first | assumption | intro _ | apply State.hostCmd_stable hP | apply refuseMode_stable | refine refuseMode_stableEq (by assumption) ?_ | apply refuse_stable | refine refuse_stableEq (by assumption) ?_ | apply State.wr_stable hP | apply okReply_stable | refine okReply_stableEq (by assumption) ?_ | apply State.ite_stable | apply State.ite_snd_stable | apply State.ite_fst_stable | split | (dsimp only; split)

theorem execCanFilter_stable {s tt : State} {c : HostCmd} (e : execCanFilter c s = .next tt) (h : P s) :
    P tt := by
  unfold execCanFilter at e
  injection e with e
  rw [← e]
  repeat' with_reducible first | assumption | intro _ | apply State.hostCmd_stable hP | apply refuseMode_stable | refine refuseMode_stableEq (by assumption) ?_ | apply refuse_stable | refine refuse_stableEq (by assumption) ?_ | apply State.writeFilter_stable hP | apply okReply_stable | refine okReply_stableEq (by assumption) ?_ | apply State.ite_stable | apply State.ite_snd_stable | apply State.ite_fst_stable | split | (dsimp only; split)

theorem execCanStart_stable {s tt : State} {c : HostCmd} (e : execCanStart c s = .next tt) (h : P s) :
    P tt := by
  unfold execCanStart at e
  injection e with e
  rw [← e]
  repeat' with_reducible first | assumption | intro _ | apply State.hostCmd_stable hP | apply refuseMode_stable | refine refuseMode_stableEq (by assumption) ?_ | apply okReply_stable | refine okReply_stableEq (by assumption) ?_ | apply State.canEnable_stable hP | apply State.each_stable | apply State.ite_stable | apply State.ite_snd_stable | apply State.ite_fst_stable | split | (dsimp only; split)

theorem execCanTx_stable {s tt : State} {c : HostCmd} {sof : Bool} (e : execCanTx c sof s = .next tt) (h : P s) :
    P tt := by
  unfold execCanTx at e
  injection e with e
  rw [← e]
  repeat' with_reducible first | assumption | intro _ | apply State.hostCmdW_stable hP | apply State.status_stable hP | apply State.wrMem32_stable hP | apply State.wrBytes_stable hP | apply State.modCan_stable hP | apply State.canRequest_stable hP | apply State.canCheck_stable hP | apply State.startIf_stable hP | apply Step8.done_stable | apply Step8.waits_stable | apply State.ite_stable | apply State.ite_snd_stable | apply State.ite_fst_stable | split | (dsimp only; split)

theorem execCanTxCancel_stable {s tt : State} {c : HostCmd} (e : execCanTxCancel c s = .next tt) (h : P s) :
    P tt := by
  unfold execCanTxCancel at e
  injection e with e
  rw [← e]
  repeat' with_reducible first | assumption | intro _ | apply State.hostCmd_stable hP | apply refuseMode_stable | refine refuseMode_stableEq (by assumption) ?_ | apply refuse_stable | refine refuse_stableEq (by assumption) ?_ | apply okReply_stable | refine okReply_stableEq (by assumption) ?_ | apply State.canCancel_stable hP | apply State.canCheck_stable hP | apply State.ite_stable | apply State.ite_snd_stable | apply State.ite_fst_stable | split | (dsimp only; split)

theorem execCanRxRead_stable {s tt : State} {c : HostCmd} (e : execCanRxRead c s = .next tt) (h : P s) :
    P tt := by
  unfold execCanRxRead at e
  injection e with e
  rw [← e]
  repeat' with_reducible first | assumption | intro _ | apply State.hostCmdW_stable hP | apply State.status_stable hP | apply State.modCan_stable hP | apply State.canDeliver_stable hP | refine State.canDeliver_stableEq hP (by assumption) ?_ | apply Step8.done_stable | apply Step8.waits_stable | refine State.draw_stable hP (by assumption) ?_ | apply State.drawSnd_stable hP | apply State.ite_stable | apply State.ite_snd_stable | apply State.ite_fst_stable | split | (dsimp only; split)

theorem execRxReadWaitEnd_stable {s tt : State} {k : Fin 16} (e : execRxReadWaitEnd k s = .next tt) (h : P s) :
    P tt := by
  unfold execRxReadWaitEnd at e
  injection e with e
  rw [← e]
  repeat' with_reducible first | assumption | intro _ | apply State.canServeReads_stable hP | apply State.modCan_stable hP | apply State.finishHead_stable hP | apply State.status_stable hP | refine State.draw_stable hP (by assumption) ?_ | apply State.drawSnd_stable hP | apply State.ite_stable | apply State.ite_snd_stable | apply State.ite_fst_stable | apply State.filterRegs_stable hP | apply State.filterMem_stable hP | split | (dsimp only; split)

theorem execCanStatus_stable {s tt : State} {c : HostCmd} (e : execCanStatus c s = .next tt) (h : P s) :
    P tt := by
  unfold execCanStatus at e
  injection e with e
  rw [← e]
  repeat' with_reducible first | assumption | intro _ | apply State.hostCmd_stable hP | apply refuseMode_stable | refine refuseMode_stableEq (by assumption) ?_ | apply refuse_stable | refine refuse_stableEq (by assumption) ?_ | apply State.canCount_stable hP | apply replyWith_stable hP | refine replyWith_stableEq hP (by assumption) ?_ | apply State.ite_stable | apply State.ite_snd_stable | apply State.ite_fst_stable | split | (dsimp only; split)

theorem execCanBusoffRecover_stable {s tt : State} {c : HostCmd} (e : execCanBusoffRecover c s = .next tt) (h : P s) :
    P tt := by
  unfold execCanBusoffRecover at e
  injection e with e
  rw [← e]
  repeat' with_reducible first | assumption | intro _ | apply State.hostCmd_stable hP | apply refuseMode_stable | refine refuseMode_stableEq (by assumption) ?_ | apply refuse_stable | refine refuse_stableEq (by assumption) ?_ | apply okReply_stable | refine okReply_stableEq (by assumption) ?_ | apply State.modCan_stable hP | apply State.ite_stable | apply State.ite_snd_stable | apply State.ite_fst_stable | split | (dsimp only; split)

end Sys2Proof.Machine
end

