-- ==== Sys2Proof/Laws/StableField.lean ====
section
/-!
SUPPORT. The operations of Machine/Field.lean keep every stable property (Laws/Stable.lean).
-/

namespace Sys2Proof.Machine

variable {P : State → Prop} (hP : Stable P)
include hP

theorem State.setLvl_stable {s : State} (h : P s) (n : Nat) (b : Bool) : P (State.setLvl s n b) := by
  unfold State.setLvl
  repeat' with_reducible first | assumption | intro _ | apply State.putB_stable hP | apply State.ite_stable | apply State.ite_snd_stable | apply State.ite_fst_stable | split | (dsimp only; split)

theorem State.setInValid_stable {s : State} (h : P s) (n : Nat) (b : Bool) : P (State.setInValid s n b) := by
  unfold State.setInValid
  repeat' with_reducible first | assumption | intro _ | apply State.modFin_stable hP | apply State.putB_stable hP | apply State.setLvl_stable hP | apply State.ite_stable | apply State.ite_snd_stable | apply State.ite_fst_stable | split | (dsimp only; split)

theorem State.refreshIn_stable {s : State} (h : P s) (n : Nat) : P (State.refreshIn s n) := by
  unfold State.refreshIn
  repeat' with_reducible first | assumption | intro _ | apply State.modFin_stable hP | apply State.setInValid_stable hP | apply State.ite_stable | apply State.ite_snd_stable | apply State.ite_fst_stable | split | (dsimp only; split)

theorem State.inEdge_stable {s : State} (h : P s) (n : Nat) : P (State.inEdge s n) := by
  unfold State.inEdge
  repeat' with_reducible first | assumption | intro _ | apply State.modFin_stable hP | apply State.setLvl_stable hP | apply State.put_stable hP | apply State.wakeRequest_stable hP | apply State.ite_stable | apply State.ite_snd_stable | apply State.ite_fst_stable | split | (dsimp only; split)

theorem State.inReject_stable {s : State} (h : P s) (n : Nat) (win : Bool) : P (State.inReject s n win) := by
  unfold State.inReject
  repeat' with_reducible first | assumption | intro _ | apply State.inc_stable hP | apply State.modFin_stable hP | apply State.put_stable hP | apply State.assertEv_stable hP | apply State.ite_stable | apply State.ite_snd_stable | apply State.ite_fst_stable | split | (dsimp only; split)

theorem State.rawEdge_stable {s : State} (h : P s) (n : Nat) (rise : Bool) : P (State.rawEdge s n rise) := by
  unfold State.rawEdge
  repeat' with_reducible first | assumption | intro _ | apply State.captureDue_stable hP | apply State.ite_stable | apply State.ite_snd_stable | apply State.ite_fst_stable | split | (dsimp only; split)

theorem execInputRawChange_stable {s tt : State} {n : Fin 32} {level win : Bool} (e : execInputRawChange n level win s = .next tt) (h : P s) :
    P tt := by
  unfold execInputRawChange at e
  injection e with e
  rw [← e]
  repeat' with_reducible first | assumption | intro _ | apply State.putB_stable hP | apply State.rawEdge_stable hP | apply State.inReject_stable hP | apply State.ite_stable | apply State.ite_snd_stable | apply State.ite_fst_stable | split | (dsimp only; split)

theorem execInputEdge_stable {s tt : State} {n : Fin 32} (e : execInputEdge n s = .next tt) (h : P s) :
    P tt := by
  unfold execInputEdge at e
  injection e with e
  rw [← e]
  repeat' with_reducible first | assumption | intro _ | apply State.inEdge_stable hP | apply State.ite_stable | apply State.ite_snd_stable | apply State.ite_fst_stable | split | (dsimp only; split)

theorem State.pulseInputs_stable {s : State} (h : P s)  : P (State.pulseInputs s) := by
  unfold State.pulseInputs
  repeat' with_reducible first | assumption | intro _ | apply State.modFin_stable hP | refine State.draw_stable hP (by assumption) ?_ | apply State.drawSnd_stable hP | apply State.each_stable | apply State.ite_stable | apply State.ite_snd_stable | apply State.ite_fst_stable | apply State.filterRegs_stable hP | apply State.filterMem_stable hP | split | (dsimp only; split)

theorem execPulseSample_stable {s tt : State} {n : Fin 32} {level win : Bool} (e : execPulseSample n level win s = .next tt) (h : P s) :
    P tt := by
  unfold execPulseSample at e
  injection e with e
  rw [← e]
  repeat' with_reducible first | assumption | intro _ | apply State.rawEdge_stable hP | apply State.putB_stable hP | apply State.modFin_stable hP | apply State.inReject_stable hP | apply State.inEdge_stable hP | apply State.ite_stable | apply State.ite_snd_stable | apply State.ite_fst_stable | split | (dsimp only; split)

theorem execWireBreakMeasure_stable {s tt : State} {n : Fin 32} {low : Bool} (e : execWireBreakMeasure n low s = .next tt) (h : P s) :
    P tt := by
  unfold execWireBreakMeasure at e
  injection e with e
  rw [← e]
  repeat' with_reducible first | assumption | intro _ | apply State.modFin_stable hP | apply State.put_stable hP | apply State.refreshIn_stable hP | apply State.assertEv_stable hP | apply State.ite_stable | apply State.ite_snd_stable | apply State.ite_fst_stable | split | (dsimp only; split)

theorem State.syncIsum_stable {s : State} (h : P s)  : P (State.syncIsum s) := by
  unfold State.syncIsum
  repeat' with_reducible first | assumption | intro _ | apply State.put_stable hP | apply State.ite_stable | apply State.ite_snd_stable | apply State.ite_fst_stable | apply State.foldl_stable | split | (dsimp only; split)

theorem State.refreshOut_stable {s : State} (h : P s) (m : Nat) : P (State.refreshOut s m) := by
  unfold State.refreshOut
  repeat' with_reducible first | assumption | intro _ | apply State.putB_stable hP | apply State.put_stable hP | apply State.syncIsum_stable hP | apply State.ite_stable | apply State.ite_snd_stable | apply State.ite_fst_stable | split | (dsimp only; split)

theorem State.refreshOuts_stable {s : State} (h : P s)  : P (State.refreshOuts s) := by
  unfold State.refreshOuts
  repeat' with_reducible first | assumption | intro _ | apply State.refreshOut_stable hP | apply State.each_stable | apply State.ite_stable | apply State.ite_snd_stable | apply State.ite_fst_stable | split | (dsimp only; split)

theorem State.latchOut_stable {s : State} (h : P s) (m : Nat) : P (State.latchOut s m) := by
  unfold State.latchOut
  repeat' with_reducible first | assumption | intro _ | apply State.put_stable hP | apply State.refreshOut_stable hP | apply State.ite_stable | apply State.ite_snd_stable | apply State.ite_fst_stable | split | (dsimp only; split)

theorem execOutputOverloadTrip_stable {s tt : State} {m : Option (Fin 16)} (e : execOutputOverloadTrip m s = .next tt) (h : P s) :
    P tt := by
  unfold execOutputOverloadTrip at e
  injection e with e
  rw [← e]
  repeat' with_reducible first | assumption | intro _ | apply State.put_stable hP | apply State.latchOut_stable hP | apply State.assertEv_stable hP | apply State.each_stable | apply State.ite_stable | apply State.ite_snd_stable | apply State.ite_fst_stable | split | (dsimp only; split)

theorem execOutputThermalShutdown_stable {s tt : State} {m : Fin 16} (e : execOutputThermalShutdown m s = .next tt) (h : P s) :
    P tt := by
  unfold execOutputThermalShutdown at e
  injection e with e
  rw [← e]
  repeat' with_reducible first | assumption | intro _ | apply State.put_stable hP | apply State.latchOut_stable hP | apply State.assertEv_stable hP | apply State.ite_stable | apply State.ite_snd_stable | apply State.ite_fst_stable | split | (dsimp only; split)

theorem execOpenLoadDetect_stable {s tt : State} {m : Fin 16} (e : execOpenLoadDetect m s = .next tt) (h : P s) :
    P tt := by
  unfold execOpenLoadDetect at e
  injection e with e
  rw [← e]
  repeat' with_reducible first | assumption | intro _ | apply State.put_stable hP | apply State.assertEv_stable hP | apply State.ite_stable | apply State.ite_snd_stable | apply State.ite_fst_stable | split | (dsimp only; split)

theorem execVfldMeasure_stable {s tt : State} {v : BitVec 16} {copy : Bool} (e : execVfldMeasure v copy s = .next tt) (h : P s) :
    P tt := by
  unfold execVfldMeasure at e
  injection e with e
  rw [← e]
  repeat' with_reducible first | assumption | intro _ | apply State.put_stable hP | apply State.ite_stable | apply State.ite_snd_stable | apply State.ite_fst_stable | split | (dsimp only; split)

theorem execVfldThreshold_stable {s tt : State} {cond : Fin 5} {enter : Bool} (e : execVfldThreshold cond enter s = .next tt) (h : P s) :
    P tt := by
  unfold execVfldThreshold at e
  injection e with e
  rw [← e]
  repeat' with_reducible first | assumption | intro _ | apply State.put_stable hP | apply State.assertEv_stable hP | apply State.putB_stable hP | apply State.refreshIn_stable hP | apply State.inc_stable hP | apply State.refreshOuts_stable hP | apply State.each_stable | apply State.ite_stable | apply State.ite_snd_stable | apply State.ite_fst_stable | split | (dsimp only; split)

theorem State.cutRelease_stable {s : State} (h : P s) (above : Bool) : P (State.cutRelease s above).2 := by
  unfold State.cutRelease
  repeat' with_reducible first | assumption | intro _ | apply State.put_stable hP | apply State.refreshOuts_stable hP | apply State.each_stable | apply State.ite_stable | apply State.ite_snd_stable | apply State.ite_fst_stable | split | (dsimp only; split)

theorem State.cutRelease_stableEq {s tt : State} {x : Bool} {above : Bool} (heq : State.cutRelease s above = (x, tt)) (h : P s) : P tt := by
  have := State.cutRelease_stable hP h above
  rw [heq] at this; exact this

theorem State.clearOuts_stable {s : State} (h : P s) (mask hot : Nat) : P (State.clearOuts s mask hot).2 := by
  unfold State.clearOuts
  repeat' with_reducible first | assumption | intro _ | apply State.put_stable hP | apply State.refreshOut_stable hP | apply State.each_stable | apply State.ite_stable | apply State.ite_snd_stable | apply State.ite_fst_stable | apply State.filterRegs_stable hP | apply State.filterMem_stable hP | split | (dsimp only; split)

theorem State.clearOuts_stableEq {s tt : State} {x : Nat} {mask hot : Nat} (heq : State.clearOuts s mask hot = (x, tt)) (h : P s) : P tt := by
  have := State.clearOuts_stable hP h mask hot
  rw [heq] at this; exact this

theorem execFieldInCfg_stable {s tt : State} {c : HostCmd} (e : execFieldInCfg c s = .next tt) (h : P s) :
    P tt := by
  unfold execFieldInCfg at e
  injection e with e
  rw [← e]
  repeat' with_reducible first | assumption | intro _ | apply State.hostCmd_stable hP | apply refuseMode_stable | refine refuseMode_stableEq (by assumption) ?_ | apply refuse_stable | refine refuse_stableEq (by assumption) ?_ | apply State.wr_stable hP | apply State.setLvl_stable hP | apply okReply_stable | refine okReply_stableEq (by assumption) ?_ | apply State.refreshIn_stable hP | apply State.ite_stable | apply State.ite_snd_stable | apply State.ite_fst_stable | split | (dsimp only; split)

theorem execFieldInRead_stable {s tt : State} {c : HostCmd} (e : execFieldInRead c s = .next tt) (h : P s) :
    P tt := by
  unfold execFieldInRead at e
  injection e with e
  rw [← e]
  repeat' with_reducible first | assumption | intro _ | apply State.hostCmd_stable hP | apply refuseMode_stable | refine refuseMode_stableEq (by assumption) ?_ | apply replyWith_stable hP | refine replyWith_stableEq hP (by assumption) ?_ | apply State.status_stable hP | apply State.put_stable hP | apply State.each_stable | apply State.ite_stable | apply State.ite_snd_stable | apply State.ite_fst_stable | split | (dsimp only; split)

theorem execFieldOutCfg_stable {s tt : State} {c : HostCmd} (e : execFieldOutCfg c s = .next tt) (h : P s) :
    P tt := by
  unfold execFieldOutCfg at e
  injection e with e
  rw [← e]
  repeat' with_reducible first | assumption | intro _ | apply State.hostCmd_stable hP | apply refuseMode_stable | refine refuseMode_stableEq (by assumption) ?_ | apply refuse_stable | refine refuse_stableEq (by assumption) ?_ | apply okReply_stable | refine okReply_stableEq (by assumption) ?_ | apply State.wr_stable hP | apply State.refreshOut_stable hP | apply State.ite_stable | apply State.ite_snd_stable | apply State.ite_fst_stable | split | (dsimp only; split)

theorem execFieldOutSet_stable {s tt : State} {c : HostCmd} (e : execFieldOutSet c s = .next tt) (h : P s) :
    P tt := by
  unfold execFieldOutSet at e
  injection e with e
  rw [← e]
  repeat' with_reducible first | assumption | intro _ | apply State.hostCmd_stable hP | apply refuseMode_stable | refine refuseMode_stableEq (by assumption) ?_ | apply refuse_stable | refine refuse_stableEq (by assumption) ?_ | apply okReply_stable | refine okReply_stableEq (by assumption) ?_ | apply State.putB_stable hP | apply State.refreshOut_stable hP | apply State.each_stable | apply State.ite_stable | apply State.ite_snd_stable | apply State.ite_fst_stable | split | (dsimp only; split)

theorem execFieldOutClear_stable {s tt : State} {c : HostCmd} {hot : BitVec 16} {above : Bool} (e : execFieldOutClear c hot above s = .next tt) (h : P s) :
    P tt := by
  unfold execFieldOutClear at e
  injection e with e
  rw [← e]
  repeat' with_reducible first | assumption | intro _ | apply State.hostCmd_stable hP | apply refuseMode_stable | refine refuseMode_stableEq (by assumption) ?_ | apply State.clearOuts_stable hP | refine State.clearOuts_stableEq hP (by assumption) ?_ | apply State.put_stable hP | apply State.cutRelease_stable hP | refine State.cutRelease_stableEq hP (by assumption) ?_ | apply State.status_stable hP | apply okReply_stable | refine okReply_stableEq (by assumption) ?_ | apply State.ite_stable | apply State.ite_snd_stable | apply State.ite_fst_stable | split | (dsimp only; split)

theorem State.takeLoads_stable {s : State} (h : P s) (cur : Nat → Nat) : P (State.takeLoads s cur) := by
  unfold State.takeLoads
  repeat' with_reducible first | assumption | intro _ | apply State.put_stable hP | apply State.putB_stable hP | apply State.syncIsum_stable hP | apply State.each_stable | apply State.ite_stable | apply State.ite_snd_stable | apply State.ite_fst_stable | split | (dsimp only; split)

theorem State.measureLoads_stable {s : State} (h : P s) (addrs : List Nat) : P (State.measureLoads s addrs) := by
  unfold State.measureLoads
  repeat' with_reducible first | assumption | intro _ | apply State.takeLoads_stable hP | refine State.draw_stable hP (by assumption) ?_ | apply State.drawSnd_stable hP | apply State.ite_stable | apply State.ite_snd_stable | apply State.ite_fst_stable | split | (dsimp only; split)

theorem restartVmin_stable {x : Reply × State} (h : P x.2) : P (restartVmin x).2 := by
  unfold restartVmin
  split
  · exact h
  · exact State.put_stable hP h _ _

theorem reportField_stable {s : State} (h : P s) (k : Nat) : P (reportField k s).2 :=
  restartVmin_stable hP (replyWith_stable hP h _ _)

theorem execFieldStatus_stable {s tt : State} {c : HostCmd} {ma : List Nat} (e : execFieldStatus c ma s = .next tt) (h : P s) :
    P tt := by
  unfold execFieldStatus at e
  injection e with e
  rw [← e]
  refine State.hostCmd_stable hP h _ _ _ (fun t ht => ?_)
  show P (if _ then _ else _ : Reply × State).2
  split
  · exact refuseMode_stable ht
  · exact reportField_stable hP (State.takeLoads_stable hP ht _) _



theorem execFieldWakeCfg_stable {s tt : State} {c : HostCmd} (e : execFieldWakeCfg c s = .next tt) (h : P s) :
    P tt := by
  unfold execFieldWakeCfg at e
  injection e with e
  rw [← e]
  repeat' with_reducible first | assumption | intro _ | apply State.hostCmd_stable hP | apply refuseMode_stable | refine refuseMode_stableEq (by assumption) ?_ | apply refuse_stable | refine refuse_stableEq (by assumption) ?_ | apply okReply_stable | refine okReply_stableEq (by assumption) ?_ | apply State.wr_stable hP | apply State.put_stable hP | apply State.ite_stable | apply State.ite_snd_stable | apply State.ite_fst_stable | split | (dsimp only; split)

end Sys2Proof.Machine
end

