-- ==== Sys2Proof/Laws/StableBackground.lean ====
section
/-!
SUPPORT. The operations of Machine/Background.lean keep every stable property (Laws/Stable.lean).
-/

namespace Sys2Proof.Machine

variable {P : State → Prop} (hP : Stable P)
include hP

theorem State.setScrubbed_stable {s : State} (h : P s) (r e v : Nat) : P (State.setScrubbed s r e v) := by
  unfold State.setScrubbed
  repeat' with_reducible first | assumption | intro _ | apply State.withMode_stable hP | apply State.ite_stable | apply State.ite_snd_stable | apply State.ite_fst_stable | split | (dsimp only; split)

theorem State.scrubNext_stable {s : State} (h : P s) (r e : Nat) : P (State.scrubNext s r e) := by
  unfold State.scrubNext
  repeat' with_reducible first | assumption | intro _ | apply State.setScrubbed_stable hP | apply State.incMod_stable hP | apply State.each_stable | apply State.ite_stable | apply State.ite_snd_stable | apply State.ite_fst_stable | split | (dsimp only; split)

theorem State.scrubFinds_stable {s : State} (h : P s) (r e ofs err : Nat) : P (State.scrubFinds s r e ofs err) := by
  unfold State.scrubFinds
  repeat' with_reducible first | assumption | intro _ | apply State.inc_stable hP | apply State.put_stable hP | apply State.assertEv_stable hP | apply State.ite_stable | apply State.ite_snd_stable | apply State.ite_fst_stable | split | (dsimp only; split)

theorem execScrubRead_stable {s tt : State} {region : Fin 5} {e : Fin 16} {err : Fin 3} {raced lag busy : Bool} (e : execScrubRead region e err raced lag busy s = .next tt) (h : P s) :
    P tt := by
  unfold execScrubRead at e
  injection e with e
  rw [← e]
  repeat' with_reducible first | assumption | intro _ | apply State.put_stable hP | apply State.sharedAccess_stable hP | apply State.markBad_stable hP | apply State.scrubFinds_stable hP | apply State.scrubNext_stable hP | apply State.ite_stable | apply State.ite_snd_stable | apply State.ite_fst_stable | split | (dsimp only; split)

theorem State.telFields_stable {s : State} (h : P s) (kind i : Nat) : P (State.telFields s kind i).2 := by
  unfold State.telFields
  repeat' with_reducible first | assumption | intro _ | refine State.draw_stable hP (by assumption) ?_ | apply State.drawSnd_stable hP | apply State.ite_stable | apply State.ite_snd_stable | apply State.ite_fst_stable | apply State.foldl_stable | apply State.filterRegs_stable hP | apply State.filterMem_stable hP | split | (dsimp only; split)

theorem State.telFields_stableEq {s tt : State} {x : List Byte} {kind i : Nat} (heq : State.telFields s kind i = (x, tt)) (h : P s) : P tt := by
  have := State.telFields_stable hP h kind i
  rw [heq] at this; exact this

theorem State.telResult_stable {s : State} (h : P s) (kind i ns : Nat) : P (State.telResult s kind i ns).2 := by
  unfold State.telResult
  repeat' with_reducible first | assumption | intro _ | apply State.telFields_stable hP | refine State.telFields_stableEq hP (by assumption) ?_ | apply State.ite_stable | apply State.ite_snd_stable | apply State.ite_fst_stable | split | (dsimp only; split)

theorem State.telResult_stableEq {s tt : State} {x : List Byte} {kind i ns : Nat} (heq : State.telResult s kind i ns = (x, tt)) (h : P s) : P tt := by
  have := State.telResult_stable hP h kind i ns
  rw [heq] at this; exact this

theorem State.telCount_stable {s : State} (h : P s) (kind i : Nat) : P (State.telCount s kind i) := by
  unfold State.telCount
  repeat' with_reducible first | assumption | intro _ | apply State.withTel_stable hP | apply State.ite_stable | apply State.ite_snd_stable | apply State.ite_fst_stable | split | (dsimp only; split)

theorem State.telPost_stable {s : State} (h : P s) (kind : Nat) (result : List Byte) : P (State.telPost s kind result) := by
  unfold State.telPost
  repeat' with_reducible first | assumption | intro _ | apply State.wrBytes_stable hP | apply State.incMod_stable hP | apply State.inc_stable hP | apply State.irq_stable hP | apply State.ite_stable | apply State.ite_snd_stable | apply State.ite_fst_stable | split | (dsimp only; split)

theorem State.telSend_stable (k : Nat) : ∀ {s : State} (_ : P s) (l : List (List Byte)), P (State.telSend k l s) := by
  induction k with
  | zero => intro s h l; exact h
  | succ k ih =>
    intro s h l
    unfold State.telSend
    repeat' with_reducible first | assumption | intro _ | apply ih | apply State.withTel_stable hP | apply State.sendUdp_stable hP | apply State.ite_stable | split | (dsimp only; split)


theorem execTelemetryDue_stable {s tt : State} {uu0 : Unit} {late : List (Fin 4 × Fin 16)} {adv : Nat} (e : execTelemetryDue uu0 late adv s = .next tt) (h : P s) :
    P tt := by
  unfold execTelemetryDue at e
  injection e with e
  rw [← e]
  repeat' with_reducible first | assumption | intro _ | apply State.runOn_stable hP | apply State.withTel_stable hP | apply State.inc_stable hP | apply State.telCount_stable hP | apply State.sharedAccess_stable hP | apply State.telResult_stable hP | refine State.telResult_stableEq hP (by assumption) ?_ | apply State.telPost_stable hP | apply State.telSend_stable hP | apply State.ite_stable | apply State.ite_snd_stable | apply State.ite_fst_stable | apply State.foldl_stable | split | (dsimp only; split)

theorem execTelCfg_stable {s tt : State} {c : HostCmd} (e : execTelCfg c s = .next tt) (h : P s) :
    P tt := by
  unfold execTelCfg at e
  injection e with e
  rw [← e]
  repeat' with_reducible first | assumption | intro _ | apply State.hostCmd_stable hP | apply refuseMode_stable | refine refuseMode_stableEq (by assumption) ?_ | apply refuse_stable | refine refuse_stableEq (by assumption) ?_ | apply okReply_stable | refine okReply_stableEq (by assumption) ?_ | apply State.withTel_stable hP | apply State.ite_stable | apply State.ite_snd_stable | apply State.ite_fst_stable | split | (dsimp only; split)

theorem execTelRead_stable {s tt : State} {c : HostCmd} {adv : Nat} (e : execTelRead c adv s = .next tt) (h : P s) :
    P tt := by
  unfold execTelRead at e
  injection e with e
  rw [← e]
  repeat' with_reducible first | assumption | intro _ | apply State.hostCmd_stable hP | apply refuseMode_stable | refine refuseMode_stableEq (by assumption) ?_ | apply refuse_stable | refine refuse_stableEq (by assumption) ?_ | apply State.runOn_stable hP | apply State.telResult_stable hP | refine State.telResult_stableEq hP (by assumption) ?_ | apply okResult_stable | refine okResult_stableEq (by assumption) ?_ | apply State.ite_stable | apply State.ite_snd_stable | apply State.ite_fst_stable | split | (dsimp only; split)

theorem execTelInv_stable {s tt : State} {c : HostCmd} {unstable : Bool} (e : execTelInv c unstable s = .next tt) (h : P s) :
    P tt := by
  unfold execTelInv at e
  injection e with e
  rw [← e]
  repeat' with_reducible first | assumption | intro _ | apply State.hostCmd_stable hP | apply refuseMode_stable | refine refuseMode_stableEq (by assumption) ?_ | apply refuse_stable | refine refuse_stableEq (by assumption) ?_ | apply replyWith_stable hP | refine replyWith_stableEq hP (by assumption) ?_ | apply State.ite_stable | apply State.ite_snd_stable | apply State.ite_fst_stable | split | (dsimp only; split)

theorem execScrubStatus_stable {s tt : State} {c : HostCmd} (e : execScrubStatus c s = .next tt) (h : P s) :
    P tt := by
  unfold execScrubStatus at e
  injection e with e
  rw [← e]
  repeat' with_reducible first | assumption | intro _ | apply State.hostCmd_stable hP | apply refuseMode_stable | refine refuseMode_stableEq (by assumption) ?_ | apply replyWith_stable hP | refine replyWith_stableEq hP (by assumption) ?_ | apply State.status_stable hP | apply State.put_stable hP | apply State.ite_stable | apply State.ite_snd_stable | apply State.ite_fst_stable | split | (dsimp only; split)

theorem execScrubCfg_stable {s tt : State} {c : HostCmd} (e : execScrubCfg c s = .next tt) (h : P s) :
    P tt := by
  unfold execScrubCfg at e
  injection e with e
  rw [← e]
  repeat' with_reducible first | assumption | intro _ | apply State.hostCmd_stable hP | apply refuseMode_stable | refine refuseMode_stableEq (by assumption) ?_ | apply refuse_stable | refine refuse_stableEq (by assumption) ?_ | apply okReply_stable | refine okReply_stableEq (by assumption) ?_ | apply State.wr_stable hP | apply State.ite_stable | apply State.ite_snd_stable | apply State.ite_fst_stable | split | (dsimp only; split)

end Sys2Proof.Machine
end

