-- ==== Sys2Proof/Laws/StableMode.lean ====
section
/-!
SUPPORT. The operations of Machine/Mode.lean keep every stable property (Laws/Stable.lean).
-/

namespace Sys2Proof.Machine

variable {P : State → Prop} (hP : Stable P)
include hP

theorem State.enterStop_stable {s : State} (h : P s)  : P (State.enterStop s) := by
  unfold State.enterStop
  repeat' with_reducible first | assumption | intro _ | apply State.toMode_stable hP | apply State.puRequest_stable hP | apply State.freezeAngle_stable hP | apply State.modAxis_stable hP | apply State.each_stable | apply State.ite_stable | apply State.ite_snd_stable | apply State.ite_fst_stable | apply State.filterRegs_stable hP | apply State.filterMem_stable hP | split | (dsimp only; split)

theorem State.enterUpdate_stable {s : State} (h : P s)  : P (State.enterUpdate s) := by
  unfold State.enterUpdate
  repeat' with_reducible first | assumption | intro _ | apply State.axGoto_stable hP | apply State.toMode_stable hP | apply State.writeIrst_stable hP | apply State.each_stable | apply State.ite_stable | apply State.ite_snd_stable | apply State.ite_fst_stable | split | (dsimp only; split)

theorem State.wakeUp_stable {s : State} (h : P s) (clocks : Nat) : P (State.wakeUp s clocks) := by
  unfold State.wakeUp
  repeat' with_reducible first | assumption | intro _ | apply State.runOn_stable hP | apply State.put_stable hP | apply State.keepMem_stable hP | apply State.toMode_stable hP | apply State.refreshIn_stable hP | apply State.irq_stable hP | apply State.keepRegs_stable hP | apply State.wr_stable hP | apply State.canWake_stable hP | apply State.withNet_stable hP | apply State.wearWake_stable hP | apply State.putB_stable hP | apply State.withMode_stable hP | apply State.assertTogether_stable hP | apply State.canServeReads_stable hP | apply State.each_stable | apply State.ite_stable | apply State.ite_snd_stable | apply State.ite_fst_stable | apply State.filterRegs_stable hP | apply State.filterMem_stable hP | split | (dsimp only; split)

theorem State.enterStandby_stable {s : State} (h : P s)  : P (State.enterStandby s) := by
  unfold State.enterStandby
  repeat' with_reducible first | assumption | intro _ | apply State.debugEnd_stable hP | apply State.put_stable hP | apply State.canStandby_stable hP | apply State.withNet_stable hP | apply State.withMode_stable hP | apply State.pulseInputs_stable hP | apply State.toMode_stable hP | apply State.refreshOuts_stable hP | apply State.wakeUp_stable hP | apply State.ite_stable | apply State.ite_snd_stable | apply State.ite_fst_stable | split | (dsimp only; split)

theorem State.startRestCheck_stable {s : State} (h : P s) (w : Fin 17) : P (State.startRestCheck s w) := by
  unfold State.startRestCheck
  repeat' with_reducible first | assumption | intro _ | apply State.enablePosition_stable hP | apply State.startSpeedTask_stable hP | apply State.withMode_stable hP | apply State.each_stable | apply State.ite_stable | apply State.ite_snd_stable | apply State.ite_fst_stable | split | (dsimp only; split)

theorem State.goMode_stable {s : State} (h : P s) (t : Nat) : P (State.goMode s t) := by
  unfold State.goMode
  repeat' with_reducible first | assumption | intro _ | apply State.enterStop_stable hP | apply State.enterUpdate_stable hP | apply State.requestWarm_stable hP | apply State.toMode_stable hP | apply State.ite_stable | apply State.ite_snd_stable | apply State.ite_fst_stable | split | (dsimp only; split)

theorem State.refuseReq_stable {s : State} (h : P s) (r : Nat) : P (State.refuseReq s r) := by
  unfold State.refuseReq
  repeat' with_reducible first | assumption | intro _ | apply State.put_stable hP | apply State.ite_stable | apply State.ite_snd_stable | apply State.ite_fst_stable | split | (dsimp only; split)

theorem execModeRequest_stable {s tt : State} {target : Fin 16} (e : execModeRequest target s = .next tt) (h : P s) :
    P tt := by
  unfold execModeRequest at e
  injection e with e
  rw [← e]
  repeat' with_reducible first | assumption | intro _ | apply State.put_stable hP | apply State.refuseReq_stable hP | apply State.goMode_stable hP | apply State.enterStandby_stable hP | apply State.startRestCheck_stable hP | apply State.ite_stable | apply State.ite_snd_stable | apply State.ite_fst_stable | split | (dsimp only; split)

theorem execSysMode_stable {s tt : State} {c : HostCmd} (e : execSysMode c s = .next tt) (h : P s) :
    P tt := by
  unfold execSysMode at e
  try dsimp only at e
  repeat' split at e
  all_goals first | (injection e with e; rw [← e]) | cases e
  repeat' with_reducible first | assumption | intro _ | apply State.hostCmdW_stable hP | apply State.status_stable hP | apply State.put_stable hP | apply State.refuseReq_stable hP | apply State.startRestCheck_stable hP | apply State.goMode_stable hP | apply State.withMode_stable hP | apply State.finishHead_stable hP | apply State.enterStandby_stable hP | apply Step8.done_stable | apply Step8.waits_stable | apply State.ite_stable | apply State.ite_snd_stable | apply State.ite_fst_stable | split | (dsimp only; split)

theorem execStandbyRestCheckDone_stable {s tt : State} {wakes : BitVec 5} (e : execStandbyRestCheckDone wakes s = .next tt) (h : P s) :
    P tt := by
  unfold execStandbyRestCheckDone at e
  injection e with e
  rw [← e]
  repeat' with_reducible first | assumption | intro _ | apply State.withMode_stable hP | apply State.refuseReq_stable hP | apply State.finishHead_stable hP | apply State.status_stable hP | apply State.wr_stable hP | apply State.enterStandby_stable hP | apply State.ite_stable | apply State.ite_snd_stable | apply State.ite_fst_stable | split | (dsimp only; split)

theorem execSysWakecfg_stable {s tt : State} {c : HostCmd} (e : execSysWakecfg c s = .next tt) (h : P s) :
    P tt := by
  unfold execSysWakecfg at e
  injection e with e
  rw [← e]
  repeat' with_reducible first | assumption | intro _ | apply State.hostCmd_stable hP | apply refuseMode_stable | refine refuseMode_stableEq (by assumption) ?_ | apply refuse_stable | refine refuse_stableEq (by assumption) ?_ | apply okReply_stable | refine okReply_stableEq (by assumption) ?_ | apply State.wr_stable hP | apply State.ite_stable | apply State.ite_snd_stable | apply State.ite_fst_stable | split | (dsimp only; split)

theorem execSysLinkwd_stable {s tt : State} {c : HostCmd} (e : execSysLinkwd c s = .next tt) (h : P s) :
    P tt := by
  unfold execSysLinkwd at e
  injection e with e
  rw [← e]
  repeat' with_reducible first | assumption | intro _ | apply State.hostCmd_stable hP | apply refuseMode_stable | refine refuseMode_stableEq (by assumption) ?_ | apply refuse_stable | refine refuse_stableEq (by assumption) ?_ | apply okReply_stable | refine okReply_stableEq (by assumption) ?_ | apply State.put_stable hP | apply State.ite_stable | apply State.ite_snd_stable | apply State.ite_fst_stable | split | (dsimp only; split)

theorem execSafeoffToRecovery_stable {s tt : State} {late : Bool} (e : execSafeoffToRecovery late s = .next tt) (h : P s) :
    P tt := by
  unfold execSafeoffToRecovery at e
  injection e with e
  rw [← e]
  repeat' with_reducible first | assumption | intro _ | apply State.put_stable hP | apply State.toMode_stable hP | apply State.checkDone_stable hP | apply State.ite_stable | apply State.ite_snd_stable | apply State.ite_fst_stable | split | (dsimp only; split)

theorem execDeratePoll_stable {s tt : State}  (e : execDeratePoll s = .next tt) (h : P s) :
    P tt := by
  unfold execDeratePoll at e
  injection e with e
  rw [← e]
  repeat' with_reducible first | assumption | intro _ | apply State.toMode_stable hP | apply State.ite_stable | apply State.ite_snd_stable | apply State.ite_fst_stable | split | (dsimp only; split)

theorem execDerateHoldExpiry_stable {s tt : State}  (e : execDerateHoldExpiry s = .next tt) (h : P s) :
    P tt := by
  unfold execDerateHoldExpiry at e
  injection e with e
  rw [← e]
  repeat' with_reducible first | assumption | intro _ | apply State.toMode_stable hP | apply State.ite_stable | apply State.ite_snd_stable | apply State.ite_fst_stable | split | (dsimp only; split)

theorem execAxisRestReached_stable {s tt : State} {n : Fin 16} (e : execAxisRestReached n s = .next tt) (h : P s) :
    P tt := by
  unfold execAxisRestReached at e
  injection e with e
  rw [← e]
  repeat' with_reducible first | assumption | intro _ | apply State.axGoto_stable hP | apply State.toMode_stable hP | apply State.ite_stable | apply State.ite_snd_stable | apply State.ite_fst_stable | split | (dsimp only; split)

theorem execStopTimeout_stable {s tt : State}  (e : execStopTimeout s = .next tt) (h : P s) :
    P tt := by
  unfold execStopTimeout at e
  injection e with e
  rw [← e]
  repeat' with_reducible first | assumption | intro _ | apply State.assertEv_stable hP | apply State.ite_stable | apply State.ite_snd_stable | apply State.ite_fst_stable | split | (dsimp only; split)

theorem execHostLinkTimeout_stable {s tt : State}  (e : execHostLinkTimeout s = .next tt) (h : P s) :
    P tt := by
  unfold execHostLinkTimeout at e
  injection e with e
  rw [← e]
  repeat' with_reducible first | assumption | intro _ | apply State.put_stable hP | apply State.enterStop_stable hP | apply State.ite_stable | apply State.ite_snd_stable | apply State.ite_fst_stable | split | (dsimp only; split)

theorem execWakeSource_stable {s tt : State} {src : Fin 6} {clocks : Nat} (e : execWakeSource src clocks s = .next tt) (h : P s) :
    P tt := by
  unfold execWakeSource at e
  injection e with e
  rw [← e]
  repeat' with_reducible first | assumption | intro _ | apply State.wakeRequest_stable hP | apply State.wakeUp_stable hP | apply State.ite_stable | apply State.ite_snd_stable | apply State.ite_fst_stable | split | (dsimp only; split)

theorem execLegsHeldReenable_stable {s tt : State} {n : Fin 16} (e : execLegsHeldReenable n s = .next tt) (h : P s) :
    P tt := by
  unfold execLegsHeldReenable at e
  injection e with e
  rw [← e]
  repeat' with_reducible first | assumption | intro _ | apply State.modAxis_stable hP | apply State.enableAxisLegs_stable hP | apply State.ite_stable | apply State.ite_snd_stable | apply State.ite_fst_stable | split | (dsimp only; split)

end Sys2Proof.Machine
end

