-- ==== Sys2Proof/Laws/StableBoot.lean ====
section
/-!
SUPPORT. The operations of Machine/Boot.lean keep every stable property (Laws/Stable.lean).
-/

namespace Sys2Proof.Machine

variable {P : State → Prop} (hP : Stable P)
include hP

theorem execPorstAssert_stable {s tt : State} {bor : Bool} (e : execPorstAssert bor s = .next tt) (h : P s) :
    P tt := by
  unfold execPorstAssert at e
  injection e with e
  rw [← e]
  repeat' with_reducible first | assumption | intro _ | apply State.powerOn_stable hP | apply State.ite_stable | apply State.ite_snd_stable | apply State.ite_fst_stable | split | (dsimp only; split)

theorem execWarmReset_stable {s tt : State}  (e : execWarmReset s = .next tt) (h : P s) :
    P tt := by
  unfold execWarmReset at e
  try dsimp only at e
  repeat' split at e
  all_goals first | (injection e with e; rw [← e]) | cases e
  repeat' with_reducible first | assumption | intro _ | apply State.warmReset_stable hP | apply State.ite_stable | apply State.ite_snd_stable | apply State.ite_fst_stable | split | (dsimp only; split)

theorem execClockFaultReset_stable {s tt : State}  (e : execClockFaultReset s = .next tt) (h : P s) :
    P tt := by
  unfold execClockFaultReset at e
  injection e with e
  rw [← e]
  repeat' with_reducible first | assumption | intro _ | apply State.warmReset_stable hP | apply State.ite_stable | apply State.ite_snd_stable | apply State.ite_fst_stable | split | (dsimp only; split)

theorem State.burn_stable {s : State} (h : P s) (off n : Nat) : P (State.burn s off n) := by
  unfold State.burn
  repeat' with_reducible first | assumption | intro _ | apply State.wrOtpBytes_stable hP | apply State.ite_stable | apply State.ite_snd_stable | apply State.ite_fst_stable | split | (dsimp only; split)

theorem State.burnKeys_stable {s : State} (h : P s)  : P (State.burnKeys s) := by
  unfold State.burnKeys
  repeat' with_reducible first | assumption | intro _ | apply State.burn_stable hP | apply State.withSec_stable hP | apply State.ite_stable | apply State.ite_snd_stable | apply State.ite_fst_stable | split | (dsimp only; split)

theorem State.loadOtp_stable {s : State} (h : P s) (bad : Bool) : P (State.loadOtp s bad) := by
  unfold State.loadOtp
  repeat' with_reducible first | assumption | intro _ | apply State.burnKeys_stable hP | apply State.put_stable hP | apply State.putB_stable hP | apply State.each_stable | apply State.ite_stable | apply State.ite_snd_stable | apply State.ite_fst_stable | split | (dsimp only; split)

theorem execResetRelease_stable {s tt : State} {otpBad x32 : Bool} (e : execResetRelease otpBad x32 s = .next tt) (h : P s) :
    P tt := by
  unfold execResetRelease at e
  injection e with e
  rw [← e]
  repeat' with_reducible first | assumption | intro _ | apply State.loadOtp_stable hP | apply State.putB_stable hP | apply State.toMode_stable hP | apply State.assertEv_stable hP | apply State.ite_stable | apply State.ite_snd_stable | apply State.ite_fst_stable | split | (dsimp only; split)

theorem execStrapLatch_stable {s tt : State} {samples : List (BitVec 14)} (e : execStrapLatch samples s = .next tt) (h : P s) :
    P tt := by
  unfold execStrapLatch at e
  injection e with e
  rw [← e]
  repeat' with_reducible first | assumption | intro _ | apply State.wr_stable hP | apply State.put_stable hP | apply State.putB_stable hP | apply State.withClk_stable hP | apply State.applyStraps_stable hP | apply State.ite_stable | apply State.ite_snd_stable | apply State.ite_fst_stable | apply State.filterRegs_stable hP | apply State.filterMem_stable hP | split | (dsimp only; split)

theorem State.bootOn_stable {s : State} (h : P s) (bad : List (Fin 4 × Nat × Bool)) : P (State.bootOn s bad) := by
  unfold State.bootOn
  repeat' with_reducible first | assumption | intro _ | apply State.writeIrst_stable hP | apply State.withClk_stable hP | apply State.selfTests_stable hP | apply State.ite_stable | apply State.ite_snd_stable | apply State.ite_fst_stable | split | (dsimp only; split)

theorem State.pllLock_stable {s : State} (h : P s) (p : Nat) (bad : List (Fin 4 × Nat × Bool)) : P (State.pllLock s p bad) := by
  unfold State.pllLock
  repeat' with_reducible first | assumption | intro _ | apply State.put_stable hP | apply State.bootOn_stable hP | apply State.withMode_stable hP | apply State.assertTogether_stable hP | apply State.ite_stable | apply State.ite_snd_stable | apply State.ite_fst_stable | split | (dsimp only; split)

theorem execPllLock_stable {s tt : State} {p : Fin 3} {bad : List (Fin 4 × Nat × Bool)} (e : execPllLock p bad s = .next tt) (h : P s) :
    P tt := by
  unfold execPllLock at e
  injection e with e
  rw [← e]
  repeat' with_reducible first | assumption | intro _ | apply State.pllLock_stable hP | apply State.ite_stable | apply State.ite_snd_stable | apply State.ite_fst_stable | split | (dsimp only; split)

theorem execPllLockRetry_stable {s tt : State} {p : Fin 2} {ok : Bool} {bad : List (Fin 4 × Nat × Bool)} (e : execPllLockRetry p ok bad s = .next tt) (h : P s) :
    P tt := by
  unfold execPllLockRetry at e
  injection e with e
  rw [← e]
  repeat' with_reducible first | assumption | intro _ | apply State.pllLock_stable hP | apply State.ite_stable | apply State.ite_snd_stable | apply State.ite_fst_stable | split | (dsimp only; split)

theorem execMemoryClearDone_stable {s tt : State} {bad : List (Fin 4 × Nat × Bool)} (e : execMemoryClearDone bad s = .next tt) (h : P s) :
    P tt := by
  unfold execMemoryClearDone at e
  injection e with e
  rw [← e]
  repeat' with_reducible first | assumption | intro _ | apply State.withClk_stable hP | apply State.bootOn_stable hP | apply State.ite_stable | apply State.ite_snd_stable | apply State.ite_fst_stable | split | (dsimp only; split)

theorem State.startFirmware_stable {s : State} (h : P s) (slot : Nat) : P (State.startFirmware s slot) := by
  unfold State.startFirmware
  repeat' with_reducible first | assumption | intro _ | apply State.put_stable hP | apply State.putB_stable hP | apply State.withClk_stable hP | apply State.wr_stable hP | apply State.toMode_stable hP | apply State.irq_stable hP | refine State.draw_stable hP (by assumption) ?_ | apply State.drawSnd_stable hP | apply State.ite_stable | apply State.ite_snd_stable | apply State.ite_fst_stable | split | (dsimp only; split)

theorem execFirmwareImageChecked_stable {s tt : State}  (e : execFirmwareImageChecked s = .next tt) (h : P s) :
    P tt := by
  unfold execFirmwareImageChecked at e
  injection e with e
  rw [← e]
  repeat' with_reducible first | assumption | intro _ | apply State.bootRecovery_stable hP | apply State.slotCheck_stable hP | refine State.slotCheck_stableEq hP (by assumption) ?_ | apply State.startFirmware_stable hP | apply State.put_stable hP | apply State.withClk_stable hP | apply State.assertEv_stable hP | apply State.ite_stable | apply State.ite_snd_stable | apply State.ite_fst_stable | split | (dsimp only; split)

theorem State.supWritesIrst_stable {s : State} (h : P s) (v : Nat) : P (State.supWritesIrst s v) := by
  unfold State.supWritesIrst
  repeat' with_reducible first | assumption | intro _ | apply State.put_stable hP | apply State.writeIrst_stable hP | apply State.ite_stable | apply State.ite_snd_stable | apply State.ite_fst_stable | split | (dsimp only; split)

theorem execIslandResetWrite_stable {s tt : State} {v : BitVec 6} (e : execIslandResetWrite v s = .next tt) (h : P s) :
    P tt := by
  unfold execIslandResetWrite at e
  injection e with e
  rw [← e]
  repeat' with_reducible first | assumption | intro _ | apply State.supWritesIrst_stable hP | apply State.ite_stable | apply State.ite_snd_stable | apply State.ite_fst_stable | split | (dsimp only; split)

theorem State.resetAccess_stable {s : State} (h : P s)  : P (State.resetAccess s) := by
  unfold State.resetAccess
  repeat' with_reducible first | assumption | intro _ | apply State.put_stable hP | apply State.assertEv_stable hP | apply State.ite_stable | apply State.ite_snd_stable | apply State.ite_fst_stable | split | (dsimp only; split)

theorem execIslandResetAccess_stable {s tt : State} {i : Fin 6} (e : execIslandResetAccess i s = .next tt) (h : P s) :
    P tt := by
  unfold execIslandResetAccess at e
  injection e with e
  rw [← e]
  repeat' with_reducible first | assumption | intro _ | apply State.resetAccess_stable hP | apply State.ite_stable | apply State.ite_snd_stable | apply State.ite_fst_stable | split | (dsimp only; split)

theorem State.faultReset_stable {s : State} (h : P s) (bit : Nat) : P (State.faultReset s bit) := by
  unfold State.faultReset
  repeat' with_reducible first | assumption | intro _ | apply State.withClk_stable hP | apply State.ite_stable | apply State.ite_snd_stable | apply State.ite_fst_stable | split | (dsimp only; split)

theorem execMainClockLoss_stable {s tt : State} {xin : Bool} (e : execMainClockLoss xin s = .next tt) (h : P s) :
    P tt := by
  unfold execMainClockLoss at e
  injection e with e
  rw [← e]
  repeat' with_reducible first | assumption | intro _ | apply State.put_stable hP | apply State.withClk_stable hP | apply State.refreshOuts_stable hP | apply State.assertEv_stable hP | apply State.faultReset_stable hP | apply State.ite_stable | apply State.ite_snd_stable | apply State.ite_fst_stable | split | (dsimp only; split)

theorem execSafetyClockLoss_stable {s tt : State} {sxin : Bool} (e : execSafetyClockLoss sxin s = .next tt) (h : P s) :
    P tt := by
  unfold execSafetyClockLoss at e
  injection e with e
  rw [← e]
  repeat' with_reducible first | assumption | intro _ | apply State.put_stable hP | apply State.withClk_stable hP | apply State.withMode_stable hP | apply State.tripAll_stable hP | apply State.faultReset_stable hP | apply State.ite_stable | apply State.ite_snd_stable | apply State.ite_fst_stable | split | (dsimp only; split)

theorem execReferenceMismatchWindow_stable {s tt : State} {dev : BitVec 16} (e : execReferenceMismatchWindow dev s = .next tt) (h : P s) :
    P tt := by
  unfold execReferenceMismatchWindow at e
  injection e with e
  rw [← e]
  repeat' with_reducible first | assumption | intro _ | apply State.put_stable hP | apply State.withClk_stable hP | apply State.assertEv_stable hP | apply State.ite_stable | apply State.ite_snd_stable | apply State.ite_fst_stable | split | (dsimp only; split)

theorem execX32Loss_stable {s tt : State}  (e : execX32Loss s = .next tt) (h : P s) :
    P tt := by
  unfold execX32Loss at e
  injection e with e
  rw [← e]
  repeat' with_reducible first | assumption | intro _ | apply State.put_stable hP | apply State.assertEv_stable hP | apply State.ite_stable | apply State.ite_snd_stable | apply State.ite_fst_stable | split | (dsimp only; split)

theorem execForwardedClockStop_stable {s tt : State} {stays : Bool} (e : execForwardedClockStop stays s = .next tt) (h : P s) :
    P tt := by
  unfold execForwardedClockStop at e
  injection e with e
  rw [← e]
  repeat' with_reducible first | assumption | intro _ | apply State.withClk_stable hP | apply State.refreshOuts_stable hP | apply State.assertEv_stable hP | apply State.ite_stable | apply State.ite_snd_stable | apply State.ite_fst_stable | split | (dsimp only; split)

theorem execDieLinkParityError_stable {s tt : State}  (e : execDieLinkParityError s = .next tt) (h : P s) :
    P tt := by
  unfold execDieLinkParityError at e
  injection e with e
  rw [← e]
  repeat' with_reducible first | assumption | intro _ | apply State.assertEv_stable hP | apply State.ite_stable | apply State.ite_snd_stable | apply State.ite_fst_stable | split | (dsimp only; split)

theorem execSupplyWarning_stable {s tt : State} {rail : Fin 4} {low : Bool} (e : execSupplyWarning rail low s = .next tt) (h : P s) :
    P tt := by
  unfold execSupplyWarning at e
  injection e with e
  rw [← e]
  repeat' with_reducible first | assumption | intro _ | apply State.putB_stable hP | apply State.assertEv_stable hP | apply State.ite_stable | apply State.ite_snd_stable | apply State.ite_fst_stable | split | (dsimp only; split)

theorem execVdrvOutOfRange_stable {s tt : State} {v : BitVec 16} (e : execVdrvOutOfRange v s = .next tt) (h : P s) :
    P tt := by
  unfold execVdrvOutOfRange at e
  injection e with e
  rw [← e]
  repeat' with_reducible first | assumption | intro _ | apply State.put_stable hP | apply State.assertEv_stable hP | apply State.ite_stable | apply State.ite_snd_stable | apply State.ite_fst_stable | split | (dsimp only; split)

theorem execVdrvCollapse_stable {s tt : State} {v : BitVec 16} (e : execVdrvCollapse v s = .next tt) (h : P s) :
    P tt := by
  unfold execVdrvCollapse at e
  injection e with e
  rw [← e]
  repeat' with_reducible first | assumption | intro _ | apply State.put_stable hP | apply State.withClk_stable hP | apply State.ite_stable | apply State.ite_snd_stable | apply State.ite_fst_stable | split | (dsimp only; split)

theorem execVdrvInRange_stable {s tt : State} {v : BitVec 16} (e : execVdrvInRange v s = .next tt) (h : P s) :
    P tt := by
  unfold execVdrvInRange at e
  injection e with e
  rw [← e]
  repeat' with_reducible first | assumption | intro _ | apply State.put_stable hP | apply State.withClk_stable hP | apply State.ite_stable | apply State.ite_snd_stable | apply State.ite_fst_stable | split | (dsimp only; split)

theorem execDieTempUpdate_stable {s tt : State} {log fld : BitVec 16} (e : execDieTempUpdate log fld s = .next tt) (h : P s) :
    P tt := by
  unfold execDieTempUpdate at e
  injection e with e
  rw [← e]
  repeat' with_reducible first | assumption | intro _ | apply State.put_stable hP | apply State.assertEv_stable hP | apply State.ite_stable | apply State.ite_snd_stable | apply State.ite_fst_stable | split | (dsimp only; split)

end Sys2Proof.Machine
end

