-- ==== Sys2Proof/Laws/StableHost.lean ====
section
/-!
SUPPORT. The operations of Machine/Host.lean keep every stable property (Laws/Stable.lean).
-/

namespace Sys2Proof.Machine

variable {P : State → Prop} (hP : Stable P)
include hP

theorem execHpRead_stable {s tt : State} {head : List (BitVec 4)} {len : Nat} (e : execHpRead head len s = .next tt) (h : P s) :
    P tt := by
  unfold execHpRead at e
  injection e with e
  rw [← e]
  repeat' with_reducible first | assumption | intro _ | apply State.withHpOut_stable hP | apply State.inc_stable hP | apply State.sharedAccess_stable hP | apply State.ite_stable | apply State.ite_snd_stable | apply State.ite_fst_stable | split | (dsimp only; split)

theorem execHpRdsr_stable {s tt : State}  (e : execHpRdsr s = .next tt) (h : P s) :
    P tt := by
  unfold execHpRdsr at e
  injection e with e
  rw [← e]
  repeat' with_reducible first | assumption | intro _ | apply State.withHpOut_stable hP | apply State.ite_stable | apply State.ite_snd_stable | apply State.ite_fst_stable | split | (dsimp only; split)

theorem State.grantCredit_stable {s : State} (h : P s) (k : Nat) : P (State.grantCredit s k) := by
  unfold State.grantCredit
  repeat' with_reducible first | assumption | intro _ | apply State.put_stable hP | apply State.modChan_stable hP | apply State.ite_stable | apply State.ite_snd_stable | apply State.ite_fst_stable | split | (dsimp only; split)

theorem State.badDoorbell_stable {s : State} (h : P s) (k : Nat) : P (State.badDoorbell s k) := by
  unfold State.badDoorbell
  repeat' with_reducible first | assumption | intro _ | apply State.inc_stable hP | apply State.put_stable hP | apply State.irq_stable hP | apply State.assertEv_stable hP | apply State.ite_stable | apply State.ite_snd_stable | apply State.ite_fst_stable | split | (dsimp only; split)

theorem State.doorbell_stable {s : State} (h : P s) (k cmdpi rspci : Nat) : P (State.doorbell s k cmdpi rspci).2 := by
  unfold State.doorbell
  repeat' with_reducible first | assumption | intro _ | apply State.put_stable hP | apply State.dropRsp_stable hP | apply State.grantCredit_stable hP | apply State.checkCredit_stable hP | apply State.badDoorbell_stable hP | apply State.each_stable | apply State.ite_stable | apply State.ite_snd_stable | apply State.ite_fst_stable | split | (dsimp only; split)

theorem State.doorbell_stableEq {s tt : State} {x : Bool} {k cmdpi rspci : Nat} (heq : State.doorbell s k cmdpi rspci = (x, tt)) (h : P s) : P tt := by
  have := State.doorbell_stable hP h k cmdpi rspci
  rw [heq] at this; exact this

theorem State.qspiDoorbell_stable {s : State} (h : P s) (k v : Nat) : P (State.qspiDoorbell s k v) := by
  unfold State.qspiDoorbell
  repeat' with_reducible first | assumption | intro _ | apply State.badDoorbell_stable hP | apply State.doorbell_stable hP | refine State.doorbell_stableEq hP (by assumption) ?_ | apply State.ite_stable | apply State.ite_snd_stable | apply State.ite_fst_stable | split | (dsimp only; split)

theorem execDoorbellWrite_stable {s tt : State} {k : Fin 16} {v : Word} (e : execDoorbellWrite k v s = .next tt) (h : P s) :
    P tt := by
  unfold execDoorbellWrite at e
  injection e with e
  rw [← e]
  repeat' with_reducible first | assumption | intro _ | apply State.qspiDoorbell_stable hP | apply State.ite_stable | apply State.ite_snd_stable | apply State.ite_fst_stable | split | (dsimp only; split)

theorem State.featCommit_stable {s : State} (h : P s) (v : Nat) : P (State.featCommit s v) := by
  unfold State.featCommit
  repeat' with_reducible first | assumption | intro _ | apply State.put_stable hP | apply State.ite_stable | apply State.ite_snd_stable | apply State.ite_fst_stable | split | (dsimp only; split)

theorem execFeatCommit_stable {s tt : State} {v : Word} (e : execFeatCommit v s = .next tt) (h : P s) :
    P tt := by
  unfold execFeatCommit at e
  injection e with e
  rw [← e]
  repeat' with_reducible first | assumption | intro _ | apply State.featCommit_stable hP | apply State.ite_stable | apply State.ite_snd_stable | apply State.ite_fst_stable | split | (dsimp only; split)

theorem State.windowStore_stable {s : State} (h : P s) (off v : Nat) : P (State.windowStore s off v) := by
  unfold State.windowStore
  repeat' with_reducible first | assumption | intro _ | apply State.wrMem32_stable hP | apply State.inc_stable hP | apply State.wr_stable hP | apply State.featCommit_stable hP | apply State.qspiDoorbell_stable hP | apply State.ite_stable | apply State.ite_snd_stable | apply State.ite_fst_stable | split | (dsimp only; split)

theorem State.windowWrite_stable (n : Nat) : ∀ {s : State} (_ : P s) (off : Nat) (l : List Byte), P (State.windowWrite n s off l) := by
  induction n with
  | zero => intro s h off l; exact h
  | succ n ih =>
    intro s h off l
    unfold State.windowWrite
    dsimp only
    split
    · exact h
    split
    · exact ih (State.windowStore_stable hP h _ _) _ _
    · exact ih (State.inc_stable hP h _) _ _


theorem execHpWrite_stable {s tt : State} {head data : List (BitVec 4)} (e : execHpWrite head data s = .next tt) (h : P s) :
    P tt := by
  unfold execHpWrite at e
  injection e with e
  rw [← e]
  repeat' with_reducible first | assumption | intro _ | apply State.inc_stable hP | apply State.windowWrite_stable hP | apply State.ite_stable | apply State.ite_snd_stable | apply State.ite_fst_stable | split | (dsimp only; split)

theorem State.consume_stable {s : State} (h : P s) (k : Nat) : P (State.consume s k) := by
  unfold State.consume
  repeat' with_reducible first | assumption | intro _ | apply State.incMod_stable hP | apply State.modChan_stable hP | apply State.withMbxTurn_stable hP | apply State.serveAll_stable hP | apply State.checkCredit_stable hP | apply State.ite_stable | apply State.ite_snd_stable | apply State.ite_fst_stable | split | (dsimp only; split)

theorem execCommandConsume_stable {s tt : State}  (e : execCommandConsume s = .next tt) (h : P s) :
    P tt := by
  unfold execCommandConsume at e
  injection e with e
  rw [← e]
  repeat' with_reducible first | assumption | intro _ | apply State.consume_stable hP | apply State.ite_stable | apply State.ite_snd_stable | apply State.ite_fst_stable | split | (dsimp only; split)

theorem State.discardDatagram_stable {s : State} (h : P s) (n : Nat) (burst : Bool) : P (State.discardDatagram s n burst) := by
  unfold State.discardDatagram
  repeat' with_reducible first | assumption | intro _ | apply State.modSession_stable hP | apply State.assertEv_stable hP | apply State.ite_stable | apply State.ite_snd_stable | apply State.ite_fst_stable | split | (dsimp only; split)

theorem State.sessionCommands_stable {s : State} (h : P s) (k : Nat) (b : List Byte) : P (State.sessionCommands s k b) := by
  unfold State.sessionCommands
  repeat' with_reducible first | assumption | intro _ | apply State.doorbell_stable hP | refine State.doorbell_stableEq hP (by assumption) ?_ | apply State.wrBytes_stable hP | apply State.each_stable | apply State.ite_stable | apply State.ite_snd_stable | apply State.ite_fst_stable | apply State.filterRegs_stable hP | apply State.filterMem_stable hP | split | (dsimp only; split)

theorem State.sessionBuffer_stable {s : State} (h : P s) (k : Nat) (b : List Byte) : P (State.sessionBuffer s k b) := by
  unfold State.sessionBuffer
  repeat' with_reducible first | assumption | intro _ | apply State.wrBytes_stable hP | apply State.ite_stable | apply State.ite_snd_stable | apply State.ite_fst_stable | split | (dsimp only; split)

theorem execHostSessionDatagram_stable {s tt : State} {bytes : List Byte} {burst : Bool} (e : execHostSessionDatagram bytes burst s = .next tt) (h : P s) :
    P tt := by
  unfold execHostSessionDatagram at e
  injection e with e
  rw [← e]
  repeat' with_reducible first | assumption | intro _ | apply State.takeRx_stable hP | apply State.assertEv_stable hP | apply State.discardDatagram_stable hP | apply State.modSession_stable hP | apply State.sessionCommands_stable hP | apply State.sessionBuffer_stable hP | apply State.ite_stable | apply State.ite_snd_stable | apply State.ite_fst_stable | split | (dsimp only; split)

theorem execSessionResponseResend_stable {s tt : State} {k : Fin 16} {index : BitVec 16} (e : execSessionResponseResend k index s = .next tt) (h : P s) :
    P tt := by
  unfold execSessionResponseResend at e
  injection e with e
  rw [← e]
  repeat' with_reducible first | assumption | intro _ | apply State.sendDatagram_stable hP | refine State.sendDatagram_stableEq hP (by assumption) ?_ | apply State.stage_stable hP | apply State.each_stable | apply State.ite_stable | apply State.ite_snd_stable | apply State.ite_fst_stable | split | (dsimp only; split)

theorem execSessionIdleClose_stable {s tt : State} {n : Fin 4} (e : execSessionIdleClose n s = .next tt) (h : P s) :
    P tt := by
  unfold execSessionIdleClose at e
  injection e with e
  rw [← e]
  repeat' with_reducible first | assumption | intro _ | apply State.closeSession_stable hP | apply State.ite_stable | apply State.ite_snd_stable | apply State.ite_fst_stable | split | (dsimp only; split)

theorem execSysNop_stable {s tt : State} {c : HostCmd} (e : execSysNop c s = .next tt) (h : P s) :
    P tt := by
  unfold execSysNop at e
  injection e with e
  rw [← e]
  repeat' with_reducible first | assumption | intro _ | apply State.hostCmd_stable hP | apply refuseMode_stable | refine refuseMode_stableEq (by assumption) ?_ | apply okReply_stable | refine okReply_stableEq (by assumption) ?_ | apply State.ite_stable | apply State.ite_snd_stable | apply State.ite_fst_stable | split | (dsimp only; split)

theorem execSysId_stable {s tt : State} {c : HostCmd} (e : execSysId c s = .next tt) (h : P s) :
    P tt := by
  unfold execSysId at e
  injection e with e
  rw [← e]
  repeat' with_reducible first | assumption | intro _ | apply State.hostCmd_stable hP | apply replyWith_stable hP | refine replyWith_stableEq hP (by assumption) ?_ | apply State.ite_stable | apply State.ite_snd_stable | apply State.ite_fst_stable | split | (dsimp only; split)

theorem execSysStatus_stable {s tt : State} {c : HostCmd} (e : execSysStatus c s = .next tt) (h : P s) :
    P tt := by
  unfold execSysStatus at e
  injection e with e
  rw [← e]
  repeat' with_reducible first | assumption | intro _ | apply State.hostCmd_stable hP | apply okResult_stable | refine okResult_stableEq (by assumption) ?_ | apply State.ite_stable | apply State.ite_snd_stable | apply State.ite_fst_stable | split | (dsimp only; split)

theorem execSysReset_stable {s tt : State} {c : HostCmd} (e : execSysReset c s = .next tt) (h : P s) :
    P tt := by
  unfold execSysReset at e
  injection e with e
  rw [← e]
  repeat' with_reducible first | assumption | intro _ | apply State.hostCmd_stable hP | apply refuseMode_stable | refine refuseMode_stableEq (by assumption) ?_ | apply refuse_stable | refine refuse_stableEq (by assumption) ?_ | apply okReply_stable | refine okReply_stableEq (by assumption) ?_ | apply State.requestWarm_stable hP | apply State.ite_stable | apply State.ite_snd_stable | apply State.ite_fst_stable | split | (dsimp only; split)

theorem State.setLimit_stableEq {s tt : State} {k n : Nat} (e : State.setLimit s k n = some tt) (h : P s) : P tt := by
  revert e; unfold State.setLimit
  intro e
  try dsimp only at e
  repeat' split at e
  all_goals (try cases e)
  repeat' with_reducible first | assumption | intro _ | apply State.put_stable hP | apply State.ite_stable | apply State.ite_snd_stable | apply State.ite_fst_stable | split | (dsimp only; split)

theorem execCreditSet_stable {s tt : State} {c : HostCmd} (e : execCreditSet c s = .next tt) (h : P s) :
    P tt := by
  unfold execCreditSet at e
  injection e with e
  rw [← e]
  repeat' with_reducible first | assumption | intro _ | apply State.hostCmd_stable hP | apply refuseMode_stable | refine refuseMode_stableEq (by assumption) ?_ | apply refuse_stable | refine refuse_stableEq (by assumption) ?_ | refine State.setLimit_stableEq hP (by assumption) ?_ | apply okReply_stable | refine okReply_stableEq (by assumption) ?_ | apply State.checkCredit_stable hP | apply State.ite_stable | apply State.ite_snd_stable | apply State.ite_fst_stable | split | (dsimp only; split)

theorem execBufAlloc_stable {s tt : State} {c : HostCmd} (e : execBufAlloc c s = .next tt) (h : P s) :
    P tt := by
  unfold execBufAlloc at e
  injection e with e
  rw [← e]
  repeat' with_reducible first | assumption | intro _ | apply State.hostCmd_stable hP | apply refuse_stable | refine refuse_stableEq (by assumption) ?_ | refine State.allocN_stableEq hP (by assumption) ?_ | apply State.status_stable hP | refine State.mapAll_stableEq hP (by assumption) ?_ | apply okResult_stable | refine okResult_stableEq (by assumption) ?_ | apply State.ite_stable | apply State.ite_snd_stable | apply State.ite_fst_stable | split | (dsimp only; split)

theorem execBufFree_stable {s tt : State} {c : HostCmd} (e : execBufFree c s = .next tt) (h : P s) :
    P tt := by
  unfold execBufFree at e
  injection e with e
  rw [← e]
  repeat' with_reducible first | assumption | intro _ | apply State.hostCmd_stable hP | apply State.status_stable hP | apply okReply_stable | refine okReply_stableEq (by assumption) ?_ | apply State.freeBuf_stable hP | apply State.each_stable | apply State.ite_stable | apply State.ite_snd_stable | apply State.ite_fst_stable | split | (dsimp only; split)

theorem execRsvStatus_stable {s tt : State} {c : HostCmd} (e : execRsvStatus c s = .next tt) (h : P s) :
    P tt := by
  unfold execRsvStatus at e
  injection e with e
  rw [← e]
  repeat' with_reducible first | assumption | intro _ | apply State.hostCmd_stable hP | apply okResult_stable | refine okResult_stableEq (by assumption) ?_ | apply State.ite_stable | apply State.ite_snd_stable | apply State.ite_fst_stable | split | (dsimp only; split)

theorem execRsvQuota_stable {s tt : State} {c : HostCmd} (e : execRsvQuota c s = .next tt) (h : P s) :
    P tt := by
  unfold execRsvQuota at e
  injection e with e
  rw [← e]
  repeat' with_reducible first | assumption | intro _ | apply State.hostCmd_stable hP | apply refuseMode_stable | refine refuseMode_stableEq (by assumption) ?_ | apply refuse_stable | refine refuse_stableEq (by assumption) ?_ | apply okReply_stable | refine okReply_stableEq (by assumption) ?_ | apply State.put_stable hP | apply State.each_stable | apply State.ite_stable | apply State.ite_snd_stable | apply State.ite_fst_stable | apply State.foldl_stable | split | (dsimp only; split)

theorem execChanStatus_stable {s tt : State} {c : HostCmd} (e : execChanStatus c s = .next tt) (h : P s) :
    P tt := by
  unfold execChanStatus at e
  injection e with e
  rw [← e]
  repeat' with_reducible first | assumption | intro _ | apply State.hostCmd_stable hP | apply refuse_stable | refine refuse_stableEq (by assumption) ?_ | apply okResult_stable | refine okResult_stableEq (by assumption) ?_ | apply State.ite_stable | apply State.ite_snd_stable | apply State.ite_fst_stable | split | (dsimp only; split)

theorem execSysEcho_stable {s tt : State} {c : HostCmd} (e : execSysEcho c s = .next tt) (h : P s) :
    P tt := by
  unfold execSysEcho at e
  injection e with e
  rw [← e]
  repeat' with_reducible first | assumption | intro _ | apply State.hostCmd_stable hP | apply refuseMode_stable | refine refuseMode_stableEq (by assumption) ?_ | apply State.status_stable hP | refine State.resultBufs_stableEq hP (by assumption) ?_ | apply State.ite_stable | apply State.ite_snd_stable | apply State.ite_fst_stable | split | (dsimp only; split)

end Sys2Proof.Machine
end

