-- ==== Sys2Proof/Laws/StableBus.lean ====
section
/-!
SUPPORT. The operations of Machine/Bus.lean keep every stable property (Laws/Stable.lean).
-/

namespace Sys2Proof.Machine

variable {P : State → Prop} (hP : Stable P)
include hP

theorem State.tableWrite_stable {s : State} (h : P s) (a v m : Nat) : P (State.tableWrite s a v m) := by
  unfold State.tableWrite
  repeat' with_reducible first | assumption | intro _ | apply State.wr_stable hP | apply State.ite_stable | apply State.ite_snd_stable | apply State.ite_fst_stable | split | (dsimp only; split)

theorem State.guardedWrite_stable {s : State} (h : P s) (a v m prot : Nat) : P (State.guardedWrite s a v m prot).2 := by
  unfold State.guardedWrite
  repeat' with_reducible first | assumption | intro _ | apply State.tableWrite_stable hP | apply State.ite_stable | apply State.ite_snd_stable | apply State.ite_fst_stable | split | (dsimp only; split)

theorem State.guardedWrite_stableEq {s tt : State} {x : Bool} {a v m prot : Nat} (heq : State.guardedWrite s a v m prot = (x, tt)) (h : P s) : P tt := by
  have := State.guardedWrite_stable hP h a v m prot
  rw [heq] at this; exact this

theorem State.writeCbCfg_stable {s : State} (h : P s) (c v m : Nat) : P (State.writeCbCfg s c v m) := by
  unfold State.writeCbCfg
  repeat' with_reducible first | assumption | intro _ | apply State.guardedWrite_stable hP | refine State.guardedWrite_stableEq hP (by assumption) ?_ | apply State.put_stable hP | apply State.carrierEnable_stable hP | apply State.ite_stable | apply State.ite_snd_stable | apply State.ite_fst_stable | split | (dsimp only; split)

theorem State.writeLegcfg_stable {s : State} (h : P s) (l v m : Nat) : P (State.writeLegcfg s l v m) := by
  unfold State.writeLegcfg
  repeat' with_reducible first | assumption | intro _ | apply State.guardedWrite_stable hP | refine State.guardedWrite_stableEq hP (by assumption) ?_ | apply State.legIgnored_stable hP | apply State.enableLeg_stable hP | apply State.clearLeg_stable hP | apply State.ite_stable | apply State.ite_snd_stable | apply State.ite_fst_stable | split | (dsimp only; split)

theorem State.writeLegtim_stable {s : State} (h : P s) (l v m : Nat) : P (State.writeLegtim s l v m) := by
  unfold State.writeLegtim
  repeat' with_reducible first | assumption | intro _ | apply State.guardedWrite_stable hP | refine State.guardedWrite_stableEq hP (by assumption) ?_ | apply State.legIgnored_stable hP | apply State.ite_stable | apply State.ite_snd_stable | apply State.ite_fst_stable | split | (dsimp only; split)

theorem State.writeGctl_stable {s : State} (h : P s) (v m : Nat) : P (State.writeGctl s v m) := by
  unfold State.writeGctl
  repeat' with_reducible first | assumption | intro _ | apply State.tableWrite_stable hP | apply State.disableLeg_stable hP | apply State.refreshHeld_stable hP | apply State.each_stable | apply State.ite_stable | apply State.ite_snd_stable | apply State.ite_fst_stable | split | (dsimp only; split)

theorem State.writeItmcfg_stable {s : State} (h : P s) (k v m : Nat) : P (State.writeItmcfg s k v m) := by
  unfold State.writeItmcfg
  repeat' with_reducible first | assumption | intro _ | apply State.tableWrite_stable hP | apply State.setTimer_stable hP | apply State.ite_stable | apply State.ite_snd_stable | apply State.ite_fst_stable | split | (dsimp only; split)

theorem State.writeCbEs_stable {s : State} (h : P s) (a v m : Nat) : P (State.writeCbEs s a v m) := by
  unfold State.writeCbEs
  repeat' with_reducible first | assumption | intro _ | apply State.shadowWrite_stable hP | refine State.shadowWrite_stableEq hP (by assumption) ?_ | apply State.writeCbCfg_stable hP | apply State.ldall_stable hP | apply State.cbClrcnt_stable hP | apply State.tableWrite_stable hP | apply State.writeGctl_stable hP | apply State.writeItmcfg_stable hP | apply State.writeLegcfg_stable hP | apply State.writeLegtim_stable hP | refine State.draw_stable hP (by assumption) ?_ | apply State.drawSnd_stable hP | apply State.ite_stable | apply State.ite_snd_stable | apply State.ite_fst_stable | split | (dsimp only; split)

theorem State.writeCdly_stable {s : State} (h : P s) (v m : Nat) : P (State.writeCdly s v m) := by
  unfold State.writeCdly
  repeat' with_reducible first | assumption | intro _ | apply State.tableWrite_stable hP | apply State.put_stable hP | apply State.ite_stable | apply State.ite_snd_stable | apply State.ite_fst_stable | split | (dsimp only; split)

theorem State.writeBsn_stable {s : State} (h : P s) (a v m : Nat) : P (State.writeBsn s a v m) := by
  unfold State.writeBsn
  repeat' with_reducible first | assumption | intro _ | apply State.tableWrite_stable hP | apply State.acqNotice_stable hP | apply State.disarm_stable hP | apply State.arm_stable hP | apply State.commandTrig_stable hP | apply State.capCheck_stable hP | apply State.writeCcfg_stable hP | apply State.writeCdly_stable hP | apply State.each_stable | apply State.ite_stable | apply State.ite_snd_stable | apply State.ite_fst_stable | split | (dsimp only; split)

theorem State.writeLegax_stable {s : State} (h : P s) (l v m : Nat) : P (State.writeLegax s l v m) := by
  unfold State.writeLegax
  repeat' with_reducible first | assumption | intro _ | apply State.tableWrite_stable hP | apply State.setGen_stable hP | apply State.each_stable | apply State.ite_stable | apply State.ite_snd_stable | apply State.ite_fst_stable | apply State.filterRegs_stable hP | apply State.filterMem_stable hP | split | (dsimp only; split)

theorem State.writeSpw_stable {s : State} (h : P s) (a v m : Nat) : P (State.writeSpw s a v m) := by
  unfold State.writeSpw
  repeat' with_reducible first | assumption | intro _ | apply State.writeLegax_stable hP | apply State.tableWrite_stable hP | apply State.speedWord_stable hP | apply State.setGen_stable hP | apply State.ite_stable | apply State.ite_snd_stable | apply State.ite_fst_stable | split | (dsimp only; split)

theorem State.writeGl_stable {s : State} (h : P s) (a v m : Nat) : P (State.writeGl s a v m) := by
  unfold State.writeGl
  repeat' with_reducible first | assumption | intro _ | apply State.glEnable_stable hP | apply State.glReset_stable hP | apply State.glCfgSend_stable hP | apply State.tableWrite_stable hP | apply State.ite_stable | apply State.ite_snd_stable | apply State.ite_fst_stable | split | (dsimp only; split)

theorem State.writePu_stable {s : State} (h : P s) (a v m : Nat) : P (State.writePu s a v m) := by
  unfold State.writePu
  repeat' with_reducible first | assumption | intro _ | apply State.tableWrite_stable hP | apply State.ctxCommit_stable hP | apply State.wr_stable hP | apply State.syncNax_stable hP | apply State.puRequest_stable hP | apply State.vmthWrite_stable hP | apply State.each_stable | apply State.ite_stable | apply State.ite_snd_stable | apply State.ite_fst_stable | apply State.filterRegs_stable hP | apply State.filterMem_stable hP | split | (dsimp only; split)

theorem State.writeWu_stable {s : State} (h : P s) (a v m : Nat) : P (State.writeWu s a v m) := by
  unfold State.writeWu
  repeat' with_reducible first | assumption | intro _ | apply State.wr_stable hP | apply State.tableWrite_stable hP | apply State.wearFlush_stable hP | apply State.ite_stable | apply State.ite_snd_stable | apply State.ite_fst_stable | split | (dsimp only; split)

theorem State.writeEnabled_stable {s : State} (h : P s) (a v m : Nat) (en : Fld) (rise : State → State)
    (hr : ∀ t, P t → P (rise t)) : P (State.writeEnabled s a v m en rise) := by
  unfold State.writeEnabled
  repeat' with_reducible first | assumption | apply hr | apply State.tableWrite_stable hP | split | (dsimp only; split)


theorem State.writeSdc_stable {s : State} (h : P s) (a v m : Nat) : P (State.writeSdc s a v m) := by
  unfold State.writeSdc
  repeat' with_reducible first | assumption | intro _ | apply State.tableWrite_stable hP | apply State.noteFault_stable hP | apply State.each_stable | apply State.ite_stable | apply State.ite_snd_stable | apply State.ite_fst_stable | split | (dsimp only; split)

theorem State.writeSense_stable {s : State} (h : P s) (a v m : Nat) : P (State.writeSense s a v m) := by
  unfold State.writeSense
  repeat' with_reducible first | assumption | intro _ | apply State.writeEnabled_stable hP | apply State.sdEnabled_stable hP | apply State.tableWrite_stable hP | apply State.writeSdc_stable hP | apply State.withSense_stable hP | apply State.encEnabled_stable hP | apply State.put_stable hP | apply State.resangWrite_stable hP | apply State.ite_stable | apply State.ite_snd_stable | apply State.ite_fst_stable | split | (dsimp only; split)

theorem State.writeTuCtrl_stable {s : State} (h : P s) (v m : Nat) : P (State.writeTuCtrl s v m) := by
  unfold State.writeTuCtrl
  repeat' with_reducible first | assumption | intro _ | apply State.tableWrite_stable hP | apply State.gridRestart_stable hP | apply State.newEpoch_stable hP | apply State.ite_stable | apply State.ite_snd_stable | apply State.ite_fst_stable | split | (dsimp only; split)

theorem State.writeWeir_stable {s : State} (h : P s) (a v m : Nat) : P (State.writeWeir s a v m) := by
  unfold State.writeWeir
  repeat' with_reducible first | assumption | intro _ | apply State.clearSticky_stable hP | apply State.writeReact_stable hP | apply State.rearm_stable hP | refine State.rearm_stableEq hP (by assumption) ?_ | apply State.tableWrite_stable hP | apply State.popNq_stable hP | apply State.kick_stable hP | apply State.ite_stable | apply State.ite_snd_stable | apply State.ite_fst_stable | split | (dsimp only; split)

theorem State.writeMbx_stable {s : State} (h : P s) (a v m : Nat) : P (State.writeMbx s a v m) := by
  unfold State.writeMbx
  repeat' with_reducible first | assumption | intro _ | apply State.tableWrite_stable hP | apply State.irq_stable hP | apply State.assertEv_stable hP | refine State.transfer_stableEq hP (by assumption) ?_ | apply State.checkReservoir_stable hP | apply State.put_stable hP | apply State.inc_stable hP | apply State.checkCredit_stable hP | apply State.ite_stable | apply State.ite_snd_stable | apply State.ite_fst_stable | split | (dsimp only; split)

theorem State.writeCan_stable {s : State} (h : P s) (a v m : Nat) : P (State.writeCan s a v m) := by
  unfold State.writeCan
  repeat' with_reducible first | assumption | intro _ | apply State.canEnable_stable hP | apply State.modCan_stable hP | apply State.put_stable hP | apply State.canRelease_stable hP | apply State.canSpillDone_stable hP | apply State.canCheck_stable hP | apply State.tableWrite_stable hP | apply State.canRequest_stable hP | apply State.canCancel_stable hP | apply State.each_stable | apply State.ite_stable | apply State.ite_snd_stable | apply State.ite_fst_stable | apply State.filterRegs_stable hP | apply State.filterMem_stable hP | split | (dsimp only; split)

theorem State.writeField_stable {s : State} (h : P s) (a v m : Nat) : P (State.writeField s a v m) := by
  unfold State.writeField
  repeat' with_reducible first | assumption | intro _ | apply State.tableWrite_stable hP | apply State.setLvl_stable hP | apply State.refreshIn_stable hP | apply State.refreshOut_stable hP | apply State.refreshOuts_stable hP | apply State.clearOuts_stable hP | refine State.clearOuts_stableEq hP (by assumption) ?_ | apply State.put_stable hP | apply State.cutRelease_stable hP | refine State.cutRelease_stableEq hP (by assumption) ?_ | refine State.draw_stable hP (by assumption) ?_ | apply State.drawSnd_stable hP | apply State.ite_stable | apply State.ite_snd_stable | apply State.ite_fst_stable | split | (dsimp only; split)

theorem State.writeCe_stable {s : State} (h : P s) (a v m : Nat) : P (State.writeCe s a v m) := by
  unfold State.writeCe
  repeat' with_reducible first | assumption | intro _ | apply State.tableWrite_stable hP | apply State.wr_stable hP | apply State.taskEvent_stable hP | apply State.each_stable | apply State.ite_stable | apply State.ite_snd_stable | apply State.ite_fst_stable | apply State.filterRegs_stable hP | apply State.filterMem_stable hP | split | (dsimp only; split)

theorem State.registerWord_stable {s : State} (h : P s) (a v m : Nat) : P (State.registerWord s a v m) := by
  unfold State.registerWord
  repeat' with_reducible first | assumption | intro _ | apply State.wr_stable hP | apply State.writeCe_stable hP | apply State.writeCbEs_stable hP | apply State.writeBsn_stable hP | apply State.tableWrite_stable hP | apply State.writeSpw_stable hP | apply State.writeGl_stable hP | apply State.writeSense_stable hP | apply State.writePu_stable hP | apply State.writeWu_stable hP | apply State.writeWeir_stable hP | apply State.supWritesIrst_stable hP | apply State.writeCan_stable hP | apply State.writeMbx_stable hP | apply State.writeField_stable hP | apply State.writeTuCtrl_stable hP | apply State.tsqPop_stable hP | apply State.ite_stable | apply State.ite_snd_stable | apply State.ite_fst_stable | split | (dsimp only; split)

theorem State.busWord_stable {s : State} (h : P s) (a v m : Nat) : P (State.busWord s a v m) := by
  unfold State.busWord
  repeat' with_reducible first | assumption | intro _ | apply State.wr8_stable hP | apply State.registerWord_stable hP | apply State.each_stable | apply State.ite_stable | apply State.ite_snd_stable | apply State.ite_fst_stable | apply State.filterRegs_stable hP | apply State.filterMem_stable hP | split | (dsimp only; split)

theorem State.busStore_stable {s : State} (h : P s) (l : List (Nat × Byte)) : P (State.busStore s l) := by
  unfold State.busStore
  repeat' with_reducible first | assumption | intro _ | apply State.busWord_stable hP | apply State.each_stable | apply State.ite_stable | apply State.ite_snd_stable | apply State.ite_fst_stable | split | (dsimp only; split)

theorem execRegisterWrite_stable {s tt : State} {addr : Nat} {v : Word} (e : execRegisterWrite addr v s = .next tt) (h : P s) :
    P tt := by
  unfold execRegisterWrite at e
  try dsimp only at e
  repeat' split at e
  all_goals first | (injection e with e; rw [← e]) | cases e
  repeat' with_reducible first | assumption | intro _ | apply State.resetAccess_stable hP | apply State.sharedAccess_stable hP | apply State.busWord_stable hP | apply State.ite_stable | apply State.ite_snd_stable | apply State.ite_fst_stable | split | (dsimp only; split)

end Sys2Proof.Machine
end

