-- ==== Sys2Proof/Laws/StableOperands.lean ====
section
/-!
SUPPORT. The operations of Machine/Operands.lean keep every stable property (Laws/Stable.lean).
-/

namespace Sys2Proof.Machine

variable {P : State → Prop} (hP : Stable P)
include hP

theorem State.setBank_stable {s : State} (h : P s) (e k : Nat) (b : Slot) : P (State.setBank s e k b) := by
  unfold State.setBank
  repeat' with_reducible first | assumption | intro _ | apply State.setSlot_stable hP | apply State.ite_stable | apply State.ite_snd_stable | apply State.ite_fst_stable | split | (dsimp only; split)

end Sys2Proof.Machine
end

