-- ==== Sys2Proof/Laws/StableFlags.lean ====
section
/-!
SUPPORT. The operations of Machine/Flags.lean keep every stable property (Laws/Stable.lean).
-/

namespace Sys2Proof.Machine

variable {P : State → Prop} (hP : Stable P)
include hP



end Sys2Proof.Machine
end

