-- ==== Sys2Proof/Laws/StableEngine.lean ====
section
/-!
SUPPORT. The operations of Machine/Engine.lean keep every stable property (Laws/Stable.lean).
-/

namespace Sys2Proof.Machine

variable {P : State → Prop} (hP : Stable P)
include hP

theorem State.issue_stable {s : State} (h : P s) (e path : Nat) (body : Nat → State → State)
    (hb : ∀ k t, P t → P (body k t)) : P (s.issue e path body) := by
  unfold State.issue
  dsimp only
  split
  · exact h
  split
  · exact State.put_stable hP (State.withSec_stable hP h _) _ _
  split
  · exact State.fetchDouble_stable hP h _
  · apply State.withSec_stable hP
    apply State.setBank_stable hP
    apply State.ite_stable
    · exact hb _ _ (State.setBank_stable hP h _ _ _)
    · exact State.assertEv_stable hP (State.put_stable hP (State.setBank_stable hP h _ _ _) _ _) _


theorem State.onBank_stable {s : State} (h : P s) (e path : Nat) (f : Slot → Slot) : P (State.onBank s e path f) := by
  unfold State.onBank
  repeat' with_reducible first | assumption | intro _ | apply State.issue_stable hP | apply State.setBank_stable hP | apply State.ite_stable | apply State.ite_snd_stable | apply State.ite_fst_stable | split | (dsimp only; split)

theorem State.illegal_stable {s : State} (h : P s) (e k : Nat) : P (State.illegal s e k) := by
  unfold State.illegal
  repeat' with_reducible first | assumption | intro _ | apply State.assertEv_stable hP | apply State.endActivation_stable hP | apply State.ite_stable | apply State.ite_snd_stable | apply State.ite_fst_stable | split | (dsimp only; split)

theorem State.stackError_stable {s : State} (h : P s) (e k : Nat) : P (State.stackError s e k) := by
  unfold State.stackError
  repeat' with_reducible first | assumption | intro _ | apply State.put_stable hP | apply State.illegal_stable hP | apply State.ite_stable | apply State.ite_snd_stable | apply State.ite_fst_stable | split | (dsimp only; split)

theorem State.noteSatm_stable {s : State} (h : P s) (e k : Nat) (sat : Bool) : P (State.noteSatm s e k sat) := by
  unfold State.noteSatm
  repeat' with_reducible first | assumption | intro _ | apply State.setBank_stable hP | apply State.put_stable hP | apply State.ite_stable | apply State.ite_snd_stable | apply State.ite_fst_stable | split | (dsimp only; split)

theorem State.noteAccsat_stable {s : State} (h : P s) (e : Nat) (sat : Bool) : P (State.noteAccsat s e sat) := by
  unfold State.noteAccsat
  repeat' with_reducible first | assumption | intro _ | apply State.put_stable hP | apply State.assertEv_stable hP | apply State.ite_stable | apply State.ite_snd_stable | apply State.ite_fst_stable | split | (dsimp only; split)

end Sys2Proof.Machine
end

