-- ==== Sys2Proof/Laws/StableAlu.lean ====
section
/-!
SUPPORT. The operations of Machine/Alu.lean keep every stable property (Laws/Stable.lean).
-/

namespace Sys2Proof.Machine

variable {P : State → Prop} (hP : Stable P)
include hP

theorem execMov_stable {s tt : State} {e d a : Fin 16} (e : execMov e d a s = .next tt) (h : P s) :
    P tt := by
  unfold execMov at e
  injection e with e
  rw [← e]
  repeat' with_reducible first | assumption | intro _ | apply State.onBank_stable hP | apply State.ite_stable | apply State.ite_snd_stable | apply State.ite_fst_stable | split | (dsimp only; split)

theorem execMovi_stable {s tt : State} {e d : Fin 16} {imm : BitVec 16} (e : execMovi e d imm s = .next tt) (h : P s) :
    P tt := by
  unfold execMovi at e
  injection e with e
  rw [← e]
  repeat' with_reducible first | assumption | intro _ | apply State.onBank_stable hP | apply State.ite_stable | apply State.ite_snd_stable | apply State.ite_fst_stable | split | (dsimp only; split)

theorem execMovhi_stable {s tt : State} {e d : Fin 16} {imm : BitVec 16} (e : execMovhi e d imm s = .next tt) (h : P s) :
    P tt := by
  unfold execMovhi at e
  injection e with e
  rw [← e]
  repeat' with_reducible first | assumption | intro _ | apply State.onBank_stable hP | apply State.ite_stable | apply State.ite_snd_stable | apply State.ite_fst_stable | split | (dsimp only; split)

theorem execAdd_stable {s tt : State} {e d a : Fin 16} {b : Src} (e : execAdd e d a b s = .next tt) (h : P s) :
    P tt := by
  unfold execAdd at e
  injection e with e
  rw [← e]
  repeat' with_reducible first | assumption | intro _ | apply State.onBank_stable hP | apply State.ite_stable | apply State.ite_snd_stable | apply State.ite_fst_stable | split | (dsimp only; split)

theorem execSub_stable {s tt : State} {e d a : Fin 16} {b : Src} (e : execSub e d a b s = .next tt) (h : P s) :
    P tt := by
  unfold execSub at e
  injection e with e
  rw [← e]
  repeat' with_reducible first | assumption | intro _ | apply State.onBank_stable hP | apply State.ite_stable | apply State.ite_snd_stable | apply State.ite_fst_stable | split | (dsimp only; split)

theorem execAnd_stable {s tt : State} {e d a : Fin 16} {b : Src} (e : execAnd e d a b s = .next tt) (h : P s) :
    P tt := by
  unfold execAnd at e
  injection e with e
  rw [← e]
  repeat' with_reducible first | assumption | intro _ | apply State.onBank_stable hP | apply State.ite_stable | apply State.ite_snd_stable | apply State.ite_fst_stable | split | (dsimp only; split)

theorem execOr_stable {s tt : State} {e d a : Fin 16} {b : Src} (e : execOr e d a b s = .next tt) (h : P s) :
    P tt := by
  unfold execOr at e
  injection e with e
  rw [← e]
  repeat' with_reducible first | assumption | intro _ | apply State.onBank_stable hP | apply State.ite_stable | apply State.ite_snd_stable | apply State.ite_fst_stable | split | (dsimp only; split)

theorem execXor_stable {s tt : State} {e d a : Fin 16} {b : Src} (e : execXor e d a b s = .next tt) (h : P s) :
    P tt := by
  unfold execXor at e
  injection e with e
  rw [← e]
  repeat' with_reducible first | assumption | intro _ | apply State.onBank_stable hP | apply State.ite_stable | apply State.ite_snd_stable | apply State.ite_fst_stable | split | (dsimp only; split)

theorem execCmp_stable {s tt : State} {e a b : Fin 16} (e : execCmp e a b s = .next tt) (h : P s) :
    P tt := by
  unfold execCmp at e
  injection e with e
  rw [← e]
  repeat' with_reducible first | assumption | intro _ | apply State.onBank_stable hP | apply State.ite_stable | apply State.ite_snd_stable | apply State.ite_fst_stable | split | (dsimp only; split)

theorem execAdds_stable {s tt : State} {e d a b : Fin 16} (e : execAdds e d a b s = .next tt) (h : P s) :
    P tt := by
  unfold execAdds at e
  injection e with e
  rw [← e]
  repeat' with_reducible first | assumption | intro _ | apply State.onBank_stable hP | apply State.ite_stable | apply State.ite_snd_stable | apply State.ite_fst_stable | split | (dsimp only; split)

theorem execSubs_stable {s tt : State} {e d a b : Fin 16} (e : execSubs e d a b s = .next tt) (h : P s) :
    P tt := by
  unfold execSubs at e
  injection e with e
  rw [← e]
  repeat' with_reducible first | assumption | intro _ | apply State.onBank_stable hP | apply State.ite_stable | apply State.ite_snd_stable | apply State.ite_fst_stable | split | (dsimp only; split)

theorem execAbs_stable {s tt : State} {e d a : Fin 16} (e : execAbs e d a s = .next tt) (h : P s) :
    P tt := by
  unfold execAbs at e
  injection e with e
  rw [← e]
  repeat' with_reducible first | assumption | intro _ | apply State.onBank_stable hP | apply State.ite_stable | apply State.ite_snd_stable | apply State.ite_fst_stable | split | (dsimp only; split)

theorem execNeg_stable {s tt : State} {e d a : Fin 16} (e : execNeg e d a s = .next tt) (h : P s) :
    P tt := by
  unfold execNeg at e
  injection e with e
  rw [← e]
  repeat' with_reducible first | assumption | intro _ | apply State.onBank_stable hP | apply State.ite_stable | apply State.ite_snd_stable | apply State.ite_fst_stable | split | (dsimp only; split)

theorem execShl_stable {s tt : State} {e d a : Fin 16} {n : Amount} (e : execShl e d a n s = .next tt) (h : P s) :
    P tt := by
  unfold execShl at e
  injection e with e
  rw [← e]
  repeat' with_reducible first | assumption | intro _ | apply State.onBank_stable hP | apply State.ite_stable | apply State.ite_snd_stable | apply State.ite_fst_stable | split | (dsimp only; split)

theorem execShr_stable {s tt : State} {e d a : Fin 16} {n : Amount} (e : execShr e d a n s = .next tt) (h : P s) :
    P tt := by
  unfold execShr at e
  injection e with e
  rw [← e]
  repeat' with_reducible first | assumption | intro _ | apply State.onBank_stable hP | apply State.ite_stable | apply State.ite_snd_stable | apply State.ite_fst_stable | split | (dsimp only; split)

theorem execSra_stable {s tt : State} {e d a : Fin 16} {n : Amount} (e : execSra e d a n s = .next tt) (h : P s) :
    P tt := by
  unfold execSra at e
  injection e with e
  rw [← e]
  repeat' with_reducible first | assumption | intro _ | apply State.onBank_stable hP | apply State.ite_stable | apply State.ite_snd_stable | apply State.ite_fst_stable | split | (dsimp only; split)

theorem execMin_stable {s tt : State} {e d a b : Fin 16} (e : execMin e d a b s = .next tt) (h : P s) :
    P tt := by
  unfold execMin at e
  injection e with e
  rw [← e]
  repeat' with_reducible first | assumption | intro _ | apply State.onBank_stable hP | apply State.ite_stable | apply State.ite_snd_stable | apply State.ite_fst_stable | split | (dsimp only; split)

theorem execMax_stable {s tt : State} {e d a b : Fin 16} (e : execMax e d a b s = .next tt) (h : P s) :
    P tt := by
  unfold execMax at e
  injection e with e
  rw [← e]
  repeat' with_reducible first | assumption | intro _ | apply State.onBank_stable hP | apply State.ite_stable | apply State.ite_snd_stable | apply State.ite_fst_stable | split | (dsimp only; split)

theorem execMul_stable {s tt : State} {e d a b : Fin 16} (e : execMul e d a b s = .next tt) (h : P s) :
    P tt := by
  unfold execMul at e
  injection e with e
  rw [← e]
  repeat' with_reducible first | assumption | intro _ | apply State.onBank_stable hP | apply State.ite_stable | apply State.ite_snd_stable | apply State.ite_fst_stable | split | (dsimp only; split)

theorem execDivq_stable {s tt : State} {e d a b : Fin 16} (e : execDivq e d a b s = .next tt) (h : P s) :
    P tt := by
  unfold execDivq at e
  injection e with e
  rw [← e]
  repeat' with_reducible first | assumption | intro _ | apply State.onBank_stable hP | apply State.ite_stable | apply State.ite_snd_stable | apply State.ite_fst_stable | split | (dsimp only; split)

theorem execSincos_stable {s tt : State} {e d a : Fin 16} (e : execSincos e d a s = .next tt) (h : P s) :
    P tt := by
  unfold execSincos at e
  injection e with e
  rw [← e]
  repeat' with_reducible first | assumption | intro _ | apply State.onBank_stable hP | apply State.ite_stable | apply State.ite_snd_stable | apply State.ite_fst_stable | split | (dsimp only; split)

theorem execRsq_stable {s tt : State} {e d a : Fin 16} (e : execRsq e d a s = .next tt) (h : P s) :
    P tt := by
  unfold execRsq at e
  injection e with e
  rw [← e]
  repeat' with_reducible first | assumption | intro _ | apply State.onBank_stable hP | apply State.ite_stable | apply State.ite_snd_stable | apply State.ite_fst_stable | split | (dsimp only; split)

theorem execRdsr_stable {s tt : State} {e d : Fin 16} (e : execRdsr e d s = .next tt) (h : P s) :
    P tt := by
  unfold execRdsr at e
  injection e with e
  rw [← e]
  repeat' with_reducible first | assumption | intro _ | apply State.issue_stable hP | apply State.setBank_stable hP | apply State.ite_stable | apply State.ite_snd_stable | apply State.ite_fst_stable | split | (dsimp only; split)

theorem execWrsr_stable {s tt : State} {e a : Fin 16} (e : execWrsr e a s = .next tt) (h : P s) :
    P tt := by
  unfold execWrsr at e
  injection e with e
  rw [← e]
  repeat' with_reducible first | assumption | intro _ | apply State.onBank_stable hP | apply State.ite_stable | apply State.ite_snd_stable | apply State.ite_fst_stable | split | (dsimp only; split)

theorem execNop_stable {s tt : State} {e : Fin 16} (e : execNop e s = .next tt) (h : P s) :
    P tt := by
  unfold execNop at e
  injection e with e
  rw [← e]
  repeat' with_reducible first | assumption | intro _ | apply State.onBank_stable hP | apply State.ite_stable | apply State.ite_snd_stable | apply State.ite_fst_stable | split | (dsimp only; split)

end Sys2Proof.Machine
end

