-- ==== Sys2Proof/Laws/StableMac.lean ====
section
/-!
SUPPORT. The operations of Machine/Mac.lean keep every stable property (Laws/Stable.lean).
-/

namespace Sys2Proof.Machine

variable {P : State → Prop} (hP : Stable P)
include hP

theorem State.accOp_stable {s : State} (h : P s) (e : Nat) (l : List Nat) (f : Slot → Nat → Int) : P (State.accOp s e l f) := by
  unfold State.accOp
  repeat' with_reducible first | assumption | intro _ | apply State.issue_stable hP | apply State.setBank_stable hP | apply State.noteAccsat_stable hP | apply State.ite_stable | apply State.ite_snd_stable | apply State.ite_fst_stable | apply State.foldl_stable | split | (dsimp only; split)

theorem execVclr_stable {s tt : State} {e : Fin 16} (e : execVclr e s = .next tt) (h : P s) :
    P tt := by
  unfold execVclr at e
  injection e with e
  rw [← e]
  repeat' with_reducible first | assumption | intro _ | apply State.accOp_stable hP | apply State.ite_stable | apply State.ite_snd_stable | apply State.ite_fst_stable | split | (dsimp only; split)

theorem execVmul_stable {s tt : State} {e : Fin 16} {a b : Fin 8} (e : execVmul e a b s = .next tt) (h : P s) :
    P tt := by
  unfold execVmul at e
  injection e with e
  rw [← e]
  repeat' with_reducible first | assumption | intro _ | apply State.accOp_stable hP | apply State.ite_stable | apply State.ite_snd_stable | apply State.ite_fst_stable | split | (dsimp only; split)

theorem execVmac_stable {s tt : State} {e : Fin 16} {a b : Fin 8} (e : execVmac e a b s = .next tt) (h : P s) :
    P tt := by
  unfold execVmac at e
  injection e with e
  rw [← e]
  repeat' with_reducible first | assumption | intro _ | apply State.accOp_stable hP | apply State.ite_stable | apply State.ite_snd_stable | apply State.ite_fst_stable | split | (dsimp only; split)

theorem execVmsu_stable {s tt : State} {e : Fin 16} {a b : Fin 8} (e : execVmsu e a b s = .next tt) (h : P s) :
    P tt := by
  unfold execVmsu at e
  injection e with e
  rw [← e]
  repeat' with_reducible first | assumption | intro _ | apply State.accOp_stable hP | apply State.ite_stable | apply State.ite_snd_stable | apply State.ite_fst_stable | split | (dsimp only; split)

theorem execVmacx_stable {s tt : State} {e : Fin 16} {a b : Fin 8} (e : execVmacx e a b s = .next tt) (h : P s) :
    P tt := by
  unfold execVmacx at e
  injection e with e
  rw [← e]
  repeat' with_reducible first | assumption | intro _ | apply State.accOp_stable hP | apply State.ite_stable | apply State.ite_snd_stable | apply State.ite_fst_stable | split | (dsimp only; split)

theorem execMacl_stable {s tt : State} {e : Fin 16} {k : Fin 4} {a : Fin 16} {ah : Bool} {b : Fin 16} {bh : Bool} (e : execMacl e k a ah b bh s = .next tt) (h : P s) :
    P tt := by
  unfold execMacl at e
  injection e with e
  rw [← e]
  repeat' with_reducible first | assumption | intro _ | apply State.accOp_stable hP | apply State.ite_stable | apply State.ite_snd_stable | apply State.ite_fst_stable | split | (dsimp only; split)

theorem execVsum_stable {s tt : State} {e : Fin 16} (e : execVsum e s = .next tt) (h : P s) :
    P tt := by
  unfold execVsum at e
  injection e with e
  rw [← e]
  repeat' with_reducible first | assumption | intro _ | apply State.accOp_stable hP | apply State.ite_stable | apply State.ite_snd_stable | apply State.ite_fst_stable | split | (dsimp only; split)

theorem State.laneOp_stable {s : State} (h : P s) (e d : Nat) (f : Slot → Nat → Int) : P (State.laneOp s e d f) := by
  unfold State.laneOp
  repeat' with_reducible first | assumption | intro _ | apply State.issue_stable hP | apply State.setBank_stable hP | apply State.noteSatm_stable hP | apply State.ite_stable | apply State.ite_snd_stable | apply State.ite_fst_stable | split | (dsimp only; split)

theorem execVadd_stable {s tt : State} {e : Fin 16} {d a b : Fin 8} (e : execVadd e d a b s = .next tt) (h : P s) :
    P tt := by
  unfold execVadd at e
  injection e with e
  rw [← e]
  repeat' with_reducible first | assumption | intro _ | apply State.laneOp_stable hP | apply State.ite_stable | apply State.ite_snd_stable | apply State.ite_fst_stable | split | (dsimp only; split)

theorem execVsub_stable {s tt : State} {e : Fin 16} {d a b : Fin 8} (e : execVsub e d a b s = .next tt) (h : P s) :
    P tt := by
  unfold execVsub at e
  injection e with e
  rw [← e]
  repeat' with_reducible first | assumption | intro _ | apply State.laneOp_stable hP | apply State.ite_stable | apply State.ite_snd_stable | apply State.ite_fst_stable | split | (dsimp only; split)

theorem execVabs_stable {s tt : State} {e : Fin 16} {d a : Fin 8} (e : execVabs e d a s = .next tt) (h : P s) :
    P tt := by
  unfold execVabs at e
  injection e with e
  rw [← e]
  repeat' with_reducible first | assumption | intro _ | apply State.laneOp_stable hP | apply State.ite_stable | apply State.ite_snd_stable | apply State.ite_fst_stable | split | (dsimp only; split)

theorem State.moveAcc_stable {s : State} (h : P s) (e path d w : Nat) (v : Slot → Int) (sh : State → Nat → Int) : P (State.moveAcc s e path d w v sh) := by
  unfold State.moveAcc
  repeat' with_reducible first | assumption | intro _ | apply State.issue_stable hP | apply State.setBank_stable hP | apply State.noteSatm_stable hP | apply State.ite_stable | apply State.ite_snd_stable | apply State.ite_fst_stable | split | (dsimp only; split)

theorem execMva_stable {s tt : State} {e d : Fin 16} {k : Fin 4} (e : execMva e d k s = .next tt) (h : P s) :
    P tt := by
  unfold execMva at e
  injection e with e
  rw [← e]
  repeat' with_reducible first | assumption | intro _ | apply State.moveAcc_stable hP | apply State.ite_stable | apply State.ite_snd_stable | apply State.ite_fst_stable | split | (dsimp only; split)

theorem execMvas_stable {s tt : State} {e d : Fin 16} {k : Fin 4} {sh : BitVec 4} (e : execMvas e d k sh s = .next tt) (h : P s) :
    P tt := by
  unfold execMvas at e
  injection e with e
  rw [← e]
  repeat' with_reducible first | assumption | intro _ | apply State.moveAcc_stable hP | apply State.ite_stable | apply State.ite_snd_stable | apply State.ite_fst_stable | split | (dsimp only; split)

theorem execVmva_stable {s tt : State} {e : Fin 16} {d : Fin 8} (e : execVmva e d s = .next tt) (h : P s) :
    P tt := by
  unfold execVmva at e
  injection e with e
  rw [← e]
  repeat' with_reducible first | assumption | intro _ | apply State.issue_stable hP | apply State.setBank_stable hP | apply State.noteSatm_stable hP | apply State.ite_stable | apply State.ite_snd_stable | apply State.ite_fst_stable | split | (dsimp only; split)

theorem State.paccOp_stable {s : State} (h : P s) (e j : Nat) (f : Slot → Int) : P (State.paccOp s e j f) := by
  unfold State.paccOp
  repeat' with_reducible first | assumption | intro _ | apply State.issue_stable hP | apply State.setBank_stable hP | apply State.noteAccsat_stable hP | apply State.ite_stable | apply State.ite_snd_stable | apply State.ite_fst_stable | split | (dsimp only; split)

theorem execPclr_stable {s tt : State} {e : Fin 16} {k : Fin 2} (e : execPclr e k s = .next tt) (h : P s) :
    P tt := by
  unfold execPclr at e
  injection e with e
  rw [← e]
  repeat' with_reducible first | assumption | intro _ | apply State.paccOp_stable hP | apply State.ite_stable | apply State.ite_snd_stable | apply State.ite_fst_stable | split | (dsimp only; split)

theorem execPmul_stable {s tt : State} {e : Fin 16} {k : Fin 2} {a b : Fin 16} (e : execPmul e k a b s = .next tt) (h : P s) :
    P tt := by
  unfold execPmul at e
  injection e with e
  rw [← e]
  repeat' with_reducible first | assumption | intro _ | apply State.paccOp_stable hP | apply State.ite_stable | apply State.ite_snd_stable | apply State.ite_fst_stable | split | (dsimp only; split)

theorem execPmac_stable {s tt : State} {e : Fin 16} {k : Fin 2} {a b : Fin 16} (e : execPmac e k a b s = .next tt) (h : P s) :
    P tt := by
  unfold execPmac at e
  injection e with e
  rw [← e]
  repeat' with_reducible first | assumption | intro _ | apply State.paccOp_stable hP | apply State.ite_stable | apply State.ite_snd_stable | apply State.ite_fst_stable | split | (dsimp only; split)

theorem execPmsu_stable {s tt : State} {e : Fin 16} {k : Fin 2} {a b : Fin 16} (e : execPmsu e k a b s = .next tt) (h : P s) :
    P tt := by
  unfold execPmsu at e
  injection e with e
  rw [← e]
  repeat' with_reducible first | assumption | intro _ | apply State.paccOp_stable hP | apply State.ite_stable | apply State.ite_snd_stable | apply State.ite_fst_stable | split | (dsimp only; split)

theorem execPadd_stable {s tt : State} {e : Fin 16} (e : execPadd e s = .next tt) (h : P s) :
    P tt := by
  unfold execPadd at e
  injection e with e
  rw [← e]
  repeat' with_reducible first | assumption | intro _ | apply State.paccOp_stable hP | apply State.ite_stable | apply State.ite_snd_stable | apply State.ite_fst_stable | split | (dsimp only; split)

theorem execPsha_stable {s tt : State} {e : Fin 16} {k : Fin 2} {n : BitVec 5} (e : execPsha e k n s = .next tt) (h : P s) :
    P tt := by
  unfold execPsha at e
  injection e with e
  rw [← e]
  repeat' with_reducible first | assumption | intro _ | apply State.paccOp_stable hP | apply State.ite_stable | apply State.ite_snd_stable | apply State.ite_fst_stable | split | (dsimp only; split)

theorem execPmve_stable {s tt : State} {e d : Fin 16} {k : Fin 2} (e : execPmve e d k s = .next tt) (h : P s) :
    P tt := by
  unfold execPmve at e
  injection e with e
  rw [← e]
  repeat' with_reducible first | assumption | intro _ | apply State.moveAcc_stable hP | apply State.ite_stable | apply State.ite_snd_stable | apply State.ite_fst_stable | split | (dsimp only; split)

theorem execPmves_stable {s tt : State} {e d : Fin 16} {k : Fin 2} {sh : BitVec 4} (e : execPmves e d k sh s = .next tt) (h : P s) :
    P tt := by
  unfold execPmves at e
  injection e with e
  rw [← e]
  repeat' with_reducible first | assumption | intro _ | apply State.moveAcc_stable hP | apply State.ite_stable | apply State.ite_snd_stable | apply State.ite_fst_stable | split | (dsimp only; split)

end Sys2Proof.Machine
end

