-- ==== Sys2Proof/Laws/StableLoop.lean ====
section
/-!
SUPPORT. The operations of Machine/Loop.lean keep every stable property (Laws/Stable.lean).
-/

namespace Sys2Proof.Machine

variable {P : State → Prop} (hP : Stable P)
include hP

theorem State.modLoop_stable {s : State} (h : P s) (n : Nat) (f : Loop → Loop) : P (State.modLoop s n f) := by
  unfold State.modLoop
  repeat' with_reducible first | assumption | intro _ | apply State.modAxis_stable hP | apply State.ite_stable | apply State.ite_snd_stable | apply State.ite_fst_stable | split | (dsimp only; split)

theorem State.takeSetpoint_stable {s : State} (h : P s) (n : Nat) (speed : Bool) : P (State.takeSetpoint s n speed) := by
  unfold State.takeSetpoint
  repeat' with_reducible first | assumption | intro _ | apply State.modAxis_stable hP | apply State.ite_stable | apply State.ite_snd_stable | apply State.ite_fst_stable | split | (dsimp only; split)

theorem State.currentLimits_stable {s : State} (h : P s) (n : Nat) : P (State.currentLimits s n) := by
  unfold State.currentLimits
  repeat' with_reducible first | assumption | intro _ | apply State.modLoop_stable hP | apply State.ite_stable | apply State.ite_snd_stable | apply State.ite_fst_stable | split | (dsimp only; split)

theorem State.powerLimit_stable {s : State} (h : P s) (n : Nat) : P (State.powerLimit s n).2 := by
  unfold State.powerLimit
  repeat' with_reducible first | assumption | intro _ | refine State.draw_stable hP (by assumption) ?_ | apply State.drawSnd_stable hP | apply State.ite_stable | apply State.ite_snd_stable | apply State.ite_fst_stable | split | (dsimp only; split)

theorem State.powerLimit_stableEq {s tt : State} {x : Nat} {n : Nat} (heq : State.powerLimit s n = (x, tt)) (h : P s) : P tt := by
  have := State.powerLimit_stable hP h n
  rw [heq] at this; exact this

theorem State.limitRef_stable {s : State} (h : P s) (n : Nat) (v : Int) : P (State.limitRef s n v) := by
  unfold State.limitRef
  repeat' with_reducible first | assumption | intro _ | apply State.powerLimit_stable hP | refine State.powerLimit_stableEq hP (by assumption) ?_ | apply State.modLoop_stable hP | apply State.ite_stable | apply State.ite_snd_stable | apply State.ite_fst_stable | split | (dsimp only; split)

theorem State.speedRef_stable {s : State} (h : P s) (n : Nat) : P (State.speedRef s n).2 := by
  unfold State.speedRef
  repeat' with_reducible first | assumption | intro _ | refine State.draw_stable hP (by assumption) ?_ | apply State.drawSnd_stable hP | apply State.ite_stable | apply State.ite_snd_stable | apply State.ite_fst_stable | split | (dsimp only; split)

theorem State.speedRef_stableEq {s tt : State} {x : Int} {n : Nat} (heq : State.speedRef s n = (x, tt)) (h : P s) : P tt := by
  have := State.speedRef_stable hP h n
  rw [heq] at this; exact this

theorem State.speedLoop_stable {s : State} (h : P s) (e k n : Nat) : P (State.speedLoop s e k n) := by
  unfold State.speedLoop
  repeat' with_reducible first | assumption | intro _ | apply State.speedRef_stable hP | refine State.speedRef_stableEq hP (by assumption) ?_ | apply State.modLoop_stable hP | apply State.limitRef_stable hP | refine State.draw_stable hP (by assumption) ?_ | apply State.drawSnd_stable hP | apply State.ite_stable | apply State.ite_snd_stable | apply State.ite_fst_stable | split | (dsimp only; split)

theorem State.loopRef_stable {s : State} (h : P s) (e k n : Nat) (was : Nat) : P (State.loopRef s e k n was) := by
  unfold State.loopRef
  repeat' with_reducible first | assumption | intro _ | apply State.modLoop_stable hP | apply State.limitRef_stable hP | apply State.speedLoop_stable hP | refine State.draw_stable hP (by assumption) ?_ | apply State.drawSnd_stable hP | apply State.ite_stable | apply State.ite_snd_stable | apply State.ite_fst_stable | split | (dsimp only; split)

theorem State.tableId_stable {s : State} (h : P s) (n : Nat) (t : Int) : P (State.tableId s n t).2 := by
  unfold State.tableId
  repeat' with_reducible first | assumption | intro _ | refine State.draw_stable hP (by assumption) ?_ | apply State.drawSnd_stable hP | apply State.ite_stable | apply State.ite_snd_stable | apply State.ite_fst_stable | apply State.filterRegs_stable hP | apply State.filterMem_stable hP | split | (dsimp only; split)

theorem State.tableId_stableEq {s tt : State} {x : Int} {n : Nat} {t : Int} (heq : State.tableId s n t = (x, tt)) (h : P s) : P tt := by
  have := State.tableId_stable hP h n t
  rw [heq] at this; exact this

theorem State.weaken_stable {s : State} (h : P s) (e k n : Nat) (id : Int) : P (State.weaken s e k n id) := by
  unfold State.weaken
  repeat' with_reducible first | assumption | intro _ | apply State.modLoop_stable hP | refine State.draw_stable hP (by assumption) ?_ | apply State.drawSnd_stable hP | apply State.ite_stable | apply State.ite_snd_stable | apply State.ite_fst_stable | split | (dsimp only; split)

theorem State.dqRefs_stable {s : State} (h : P s) (e k n : Nat) : P (State.dqRefs s e k n) := by
  unfold State.dqRefs
  repeat' with_reducible first | assumption | intro _ | apply State.tableId_stable hP | refine State.tableId_stableEq hP (by assumption) ?_ | apply State.weaken_stable hP | apply State.powerLimit_stable hP | refine State.powerLimit_stableEq hP (by assumption) ?_ | apply State.modLoop_stable hP | refine State.draw_stable hP (by assumption) ?_ | apply State.drawSnd_stable hP | apply State.ite_stable | apply State.ite_snd_stable | apply State.ite_fst_stable | split | (dsimp only; split)

theorem State.checkCurrents_stable {s : State} (h : P s) (n : Nat) : P (State.checkCurrents s n) := by
  unfold State.checkCurrents
  repeat' with_reducible first | assumption | intro _ | apply State.modLoop_stable hP | apply State.assertEv_stable hP | apply State.ite_stable | apply State.ite_snd_stable | apply State.ite_fst_stable | split | (dsimp only; split)

theorem State.mpcClamp_stable {s : State} (h : P s) (n : Nat) : P (State.mpcClamp s n) := by
  unfold State.mpcClamp
  repeat' with_reducible first | assumption | intro _ | apply State.modLoop_stable hP | refine State.draw_stable hP (by assumption) ?_ | apply State.drawSnd_stable hP | apply State.ite_stable | apply State.ite_snd_stable | apply State.ite_fst_stable | split | (dsimp only; split)

theorem State.writeCompare_stable {s : State} (h : P s) (l v : Nat) : P (State.writeCompare s l v) := by
  unfold State.writeCompare
  repeat' with_reducible first | assumption | intro _ | apply State.shadowWrite_stable hP | refine State.shadowWrite_stableEq hP (by assumption) ?_ | apply State.ite_stable | apply State.ite_snd_stable | apply State.ite_fst_stable | split | (dsimp only; split)

theorem State.stepCompares_stable {s : State} (h : P s) (n : Nat) (u w : Int) : P (State.stepCompares s n u w) := by
  unfold State.stepCompares
  repeat' with_reducible first | assumption | intro _ | apply State.modLoop_stable hP | apply State.writeCompare_stable hP | apply State.each_stable | apply State.ite_stable | apply State.ite_snd_stable | apply State.ite_fst_stable | split | (dsimp only; split)

theorem State.stepGenerator_stable {s : State} (h : P s) (n : Nat) : P (State.stepGenerator s n) := by
  unfold State.stepGenerator
  repeat' with_reducible first | assumption | intro _ | apply State.endFreewheel_stable hP | apply State.modAxis_stable hP | apply State.modLoop_stable hP | apply State.stepCompares_stable hP | apply State.ldall_stable hP | refine State.draw_stable hP (by assumption) ?_ | apply State.drawSnd_stable hP | apply State.ite_stable | apply State.ite_snd_stable | apply State.ite_fst_stable | split | (dsimp only; split)

theorem State.loopActivation_stable {s : State} (h : P s) (e k : Nat) : P (State.loopActivation s e k) := by
  unfold State.loopActivation
  repeat' with_reducible first | assumption | intro _ | apply State.takeSetpoint_stable hP | apply State.currentLimits_stable hP | apply State.checkCurrents_stable hP | apply State.mpcClamp_stable hP | apply State.stepGenerator_stable hP | apply State.loopRef_stable hP | apply State.dqRefs_stable hP | apply State.ite_stable | apply State.ite_snd_stable | apply State.ite_fst_stable | split | (dsimp only; split)

theorem execTaskDispatch_stable {s tt : State} {e : Fin 16} {ecc : Fin 3} (e : execTaskDispatch e ecc s = .next tt) (h : P s) :
    P tt := by
  unfold execTaskDispatch at e
  injection e with e
  rw [← e]
  repeat' with_reducible first | assumption | intro _ | apply State.dropPending_stable hP | apply State.showSlot_stable hP | apply State.activate_stable hP | apply State.loopActivation_stable hP | apply State.markBad_stable hP | apply State.fetchDouble_stable hP | apply State.put_stable hP | apply State.assertEv_stable hP | apply State.ite_stable | apply State.ite_snd_stable | apply State.ite_fst_stable | split | (dsimp only; split)

theorem State.overspeed_stable {s : State} (h : P s) (n fe : Nat) : P (State.overspeed s n fe) := by
  unfold State.overspeed
  repeat' with_reducible first | assumption | intro _ | apply State.modLoop_stable hP | apply State.assertEv_stable hP | apply State.ite_stable | apply State.ite_snd_stable | apply State.ite_fst_stable | split | (dsimp only; split)

theorem execSpeedWordWrite_stable {s tt : State} {n : Fin 16} {fe : FeReading} (e : execSpeedWordWrite n fe s = .next tt) (h : P s) :
    P tt := by
  unfold execSpeedWordWrite at e
  injection e with e
  rw [← e]
  repeat' with_reducible first | assumption | intro _ | apply State.overspeed_stable hP | apply State.withMode_stable hP | apply State.speedWord_stable hP | apply State.ite_stable | apply State.ite_snd_stable | apply State.ite_fst_stable | split | (dsimp only; split)

end Sys2Proof.Machine
end

