-- ==== Sys2Proof/Laws/StableAccess.lean ====
section
/-!
SUPPORT. The operations of Machine/Access.lean keep every stable property (Laws/Stable.lean).
-/

namespace Sys2Proof.Machine

variable {P : State → Prop} (hP : Stable P)
include hP

theorem State.rightsError_stable {s : State} (h : P s) (e : Nat) : P (State.rightsError s e) := by
  unfold State.rightsError
  repeat' with_reducible first | assumption | intro _ | apply State.put_stable hP | apply State.assertEv_stable hP | apply State.ite_stable | apply State.ite_snd_stable | apply State.ite_fst_stable | split | (dsimp only; split)

theorem State.dataError_stable {s : State} (h : P s) (e ecc : Nat) : P (State.dataError s e ecc) := by
  unfold State.dataError
  repeat' with_reducible first | assumption | intro _ | apply State.put_stable hP | apply State.assertEv_stable hP | apply State.ite_stable | apply State.ite_snd_stable | apply State.ite_fst_stable | split | (dsimp only; split)

theorem State.markLoad_stable {s : State} (h : P s) (addrs : List Nat) (ecc : Nat) : P (State.markLoad s addrs ecc) := by
  unfold State.markLoad
  repeat' with_reducible first | assumption | intro _ | apply State.markBad_stable hP | apply State.each_stable | apply State.ite_stable | apply State.ite_snd_stable | apply State.ite_fst_stable | split | (dsimp only; split)

theorem State.load_stable {s : State} (h : P s) (e d size : Nat) (m : Addr) (ecc : Nat) : P (State.load s e d size m ecc) := by
  unfold State.load
  repeat' with_reducible first | assumption | intro _ | apply State.issue_stable hP | apply State.setBank_stable hP | apply State.rightsError_stable hP | apply State.markLoad_stable hP | apply State.dataError_stable hP | apply State.modEngine_stable hP | apply State.issueTag_stable hP | apply State.ite_stable | apply State.ite_snd_stable | apply State.ite_fst_stable | split | (dsimp only; split)

theorem execLd_stable {s tt : State} {e d : Fin 16} {m : Addr} {ecc : Fin 3} (e : execLd e d m ecc s = .next tt) (h : P s) :
    P tt := by
  unfold execLd at e
  injection e with e
  rw [← e]
  repeat' with_reducible first | assumption | intro _ | apply State.load_stable hP | apply State.ite_stable | apply State.ite_snd_stable | apply State.ite_fst_stable | split | (dsimp only; split)

theorem execLdh_stable {s tt : State} {e d : Fin 16} {m : Addr} {ecc : Fin 3} (e : execLdh e d m ecc s = .next tt) (h : P s) :
    P tt := by
  unfold execLdh at e
  injection e with e
  rw [← e]
  repeat' with_reducible first | assumption | intro _ | apply State.load_stable hP | apply State.ite_stable | apply State.ite_snd_stable | apply State.ite_fst_stable | split | (dsimp only; split)

theorem execLdv_stable {s tt : State} {e : Fin 16} {d : Fin 8} {m : Addr} {ecc : Fin 3} (e : execLdv e d m ecc s = .next tt) (h : P s) :
    P tt := by
  unfold execLdv at e
  injection e with e
  rw [← e]
  repeat' with_reducible first | assumption | intro _ | apply State.load_stable hP | apply State.ite_stable | apply State.ite_snd_stable | apply State.ite_fst_stable | split | (dsimp only; split)

theorem State.arrive_stable {s : State} (h : P s) (l : List (Nat × Byte)) : P (State.arrive s l) := by
  unfold State.arrive
  repeat' with_reducible first | assumption | intro _ | apply State.busStore_stable hP | apply State.ite_stable | apply State.ite_snd_stable | apply State.ite_fst_stable | split | (dsimp only; split)

theorem State.store_stable {s : State} (h : P s) (e : Nat) (m : Addr) (bytes : Slot → List Byte) : P (State.store s e m bytes) := by
  unfold State.store
  repeat' with_reducible first | assumption | intro _ | apply State.issue_stable hP | apply State.setBank_stable hP | apply State.rightsError_stable hP | apply State.arrive_stable hP | apply State.modEngine_stable hP | apply State.ite_stable | apply State.ite_snd_stable | apply State.ite_fst_stable | split | (dsimp only; split)

theorem execSt_stable {s tt : State} {e a : Fin 16} {m : Addr} (e : execSt e a m s = .next tt) (h : P s) :
    P tt := by
  unfold execSt at e
  injection e with e
  rw [← e]
  repeat' with_reducible first | assumption | intro _ | apply State.store_stable hP | apply State.ite_stable | apply State.ite_snd_stable | apply State.ite_fst_stable | split | (dsimp only; split)

theorem execSth_stable {s tt : State} {e a : Fin 16} {m : Addr} (e : execSth e a m s = .next tt) (h : P s) :
    P tt := by
  unfold execSth at e
  injection e with e
  rw [← e]
  repeat' with_reducible first | assumption | intro _ | apply State.store_stable hP | apply State.ite_stable | apply State.ite_snd_stable | apply State.ite_fst_stable | split | (dsimp only; split)

theorem execStv_stable {s tt : State} {e : Fin 16} {a : Fin 8} {m : Addr} (e : execStv e a m s = .next tt) (h : P s) :
    P tt := by
  unfold execStv at e
  injection e with e
  rw [← e]
  repeat' with_reducible first | assumption | intro _ | apply State.store_stable hP | apply State.ite_stable | apply State.ite_snd_stable | apply State.ite_fst_stable | split | (dsimp only; split)

theorem execPostedLaneRoom_stable {s tt : State} {e : Fin 16} (e : execPostedLaneRoom e s = .next tt) (h : P s) :
    P tt := by
  unfold execPostedLaneRoom at e
  injection e with e
  rw [← e]
  repeat' with_reducible first | assumption | intro _ | apply State.arrive_stable hP | apply State.modEngine_stable hP | apply State.store_stable hP | apply State.ite_stable | apply State.ite_snd_stable | apply State.ite_fst_stable | split | (dsimp only; split)

theorem State.latchTime_stable {s : State} (h : P s) (adv : Nat) (addrs : List Nat) : P (State.latchTime s adv addrs) := by
  unfold State.latchTime
  repeat' with_reducible first | assumption | intro _ | apply State.runOn_stable hP | apply State.withNet_stable hP | apply State.ite_stable | apply State.ite_snd_stable | apply State.ite_fst_stable | split | (dsimp only; split)

theorem execRemoteLoadReturn_stable {s tt : State} {e : Fin 16} {adv : Nat} {cnt : BitVec 18} (e : execRemoteLoadReturn e adv cnt s = .next tt) (h : P s) :
    P tt := by
  unfold execRemoteLoadReturn at e
  injection e with e
  rw [← e]
  repeat' with_reducible first | assumption | intro _ | apply State.load_stable hP | apply State.arrive_stable hP | apply State.modEngine_stable hP | apply State.unstall_stable hP | apply State.setBank_stable hP | apply State.latchTime_stable hP | apply State.canCount_stable hP | apply State.measureLoads_stable hP | apply State.assertEv_stable hP | apply State.each_stable | apply State.ite_stable | apply State.ite_snd_stable | apply State.ite_fst_stable | apply State.filterRegs_stable hP | apply State.filterMem_stable hP | split | (dsimp only; split)

theorem State.debugRead_stable {s : State} (h : P s) (w : Nat) : P (State.debugRead s w) := by
  unfold State.debugRead
  repeat' with_reducible first | assumption | intro _ | apply State.latchTime_stable hP | apply State.canCount_stable hP | apply State.measureLoads_stable hP | apply State.sharedAccess_stable hP | apply State.setTap_stable hP | refine State.draw_stable hP (by assumption) ?_ | apply State.drawSnd_stable hP | apply State.ite_stable | apply State.ite_snd_stable | apply State.ite_fst_stable | split | (dsimp only; split)

theorem State.debugWrite_stable {s : State} (h : P s) (w : Nat) (v : Word) : P (State.debugWrite s w v) := by
  unfold State.debugWrite
  repeat' with_reducible first | assumption | intro _ | apply State.resetAccess_stable hP | apply State.sharedAccess_stable hP | apply State.busWord_stable hP | apply State.ite_stable | apply State.ite_snd_stable | apply State.ite_fst_stable | split | (dsimp only; split)

theorem execDebugHalt_stable {s tt : State} {core : Fin 17} {op : DebugOp} (e : execDebugHalt core op s = .next tt) (h : P s) :
    P tt := by
  unfold execDebugHalt at e
  injection e with e
  rw [← e]
  repeat' with_reducible first | assumption | intro _ | apply State.debugRead_stable hP | apply State.debugWrite_stable hP | apply State.withSec_stable hP | apply State.put_stable hP | apply State.ite_stable | apply State.ite_snd_stable | apply State.ite_fst_stable | split | (dsimp only; split)

theorem execSetc_stable {s tt : State} {e : Fin 16} {p : Fin 8} {b l : Fin 16} (e : execSetc e p b l s = .next tt) (h : P s) :
    P tt := by
  unfold execSetc at e
  injection e with e
  rw [← e]
  repeat' with_reducible first | assumption | intro _ | apply State.issue_stable hP | apply State.setBank_stable hP | refine State.draw_stable hP (by assumption) ?_ | apply State.drawSnd_stable hP | apply State.ite_stable | apply State.ite_snd_stable | apply State.ite_fst_stable | split | (dsimp only; split)

theorem execAddp_stable {s tt : State} {e : Fin 16} {p : Fin 8} {imm : Word} (e : execAddp e p imm s = .next tt) (h : P s) :
    P tt := by
  unfold execAddp at e
  injection e with e
  rw [← e]
  repeat' with_reducible first | assumption | intro _ | apply State.onBank_stable hP | apply State.ite_stable | apply State.ite_snd_stable | apply State.ite_fst_stable | split | (dsimp only; split)

theorem execLdin_stable {s tt : State} {e d : Fin 16} {i : Fin 64} (e : execLdin e d i s = .next tt) (h : P s) :
    P tt := by
  unfold execLdin at e
  injection e with e
  rw [← e]
  repeat' with_reducible first | assumption | intro _ | apply State.issue_stable hP | apply State.setBank_stable hP | apply State.put_stable hP | apply State.ite_stable | apply State.ite_snd_stable | apply State.ite_fst_stable | split | (dsimp only; split)

theorem execWaitv_stable {s tt : State} {e a b : Fin 16} (e : execWaitv e a b s = .next tt) (h : P s) :
    P tt := by
  unfold execWaitv at e
  injection e with e
  rw [← e]
  repeat' with_reducible first | assumption | intro _ | apply State.issue_stable hP | apply State.setBank_stable hP | apply State.modEngine_stable hP | apply State.showSlot_stable hP | apply State.ite_stable | apply State.ite_snd_stable | apply State.ite_fst_stable | split | (dsimp only; split)

theorem execProbe_stable {s tt : State} {e k a : Fin 16} (e : execProbe e k a s = .next tt) (h : P s) :
    P tt := by
  unfold execProbe at e
  injection e with e
  rw [← e]
  repeat' with_reducible first | assumption | intro _ | apply State.issue_stable hP | apply State.pushLatch_stable hP | apply State.ite_stable | apply State.ite_snd_stable | apply State.ite_fst_stable | split | (dsimp only; split)

theorem State.scan_stable {s : State} (h : P s) (e d i p n ecc at_ stop : Nat) (better : Int → Int → Bool) : P (State.scan s e d i p n ecc at_ stop better) := by
  unfold State.scan
  repeat' with_reducible first | assumption | intro _ | apply State.issue_stable hP | apply State.illegal_stable hP | apply State.setBank_stable hP | apply State.rightsError_stable hP | apply State.markLoad_stable hP | apply State.dataError_stable hP | refine State.draw_stable hP (by assumption) ?_ | apply State.drawSnd_stable hP | apply State.ite_stable | apply State.ite_snd_stable | apply State.ite_fst_stable | split | (dsimp only; split)

theorem execMaxi_stable {s tt : State} {e d i : Fin 16} {p : Fin 8} {n : Nat} {ecc : Fin 3} {at_ : ScanAt} (e : execMaxi e d i p n ecc at_ s = .next tt) (h : P s) :
    P tt := by
  unfold execMaxi at e
  injection e with e
  rw [← e]
  repeat' with_reducible first | assumption | intro _ | apply State.scan_stable hP | apply State.ite_stable | apply State.ite_snd_stable | apply State.ite_fst_stable | split | (dsimp only; split)

theorem execMini_stable {s tt : State} {e d i : Fin 16} {p : Fin 8} {n : Nat} {ecc : Fin 3} {at_ : ScanAt} (e : execMini e d i p n ecc at_ s = .next tt) (h : P s) :
    P tt := by
  unfold execMini at e
  injection e with e
  rw [← e]
  repeat' with_reducible first | assumption | intro _ | apply State.scan_stable hP | apply State.ite_stable | apply State.ite_snd_stable | apply State.ite_fst_stable | split | (dsimp only; split)

end Sys2Proof.Machine
end

