-- ==== Sys2Proof/Laws/StableBranch.lean ====
section
/-!
SUPPORT. The operations of Machine/Branch.lean keep every stable property (Laws/Stable.lean).
-/

namespace Sys2Proof.Machine

variable {P : State → Prop} (hP : Stable P)
include hP

theorem execBr_stable {s tt : State} {e : Fin 16} {t : BitVec 17} (e : execBr e t s = .next tt) (h : P s) :
    P tt := by
  unfold execBr at e
  injection e with e
  rw [← e]
  repeat' with_reducible first | assumption | intro _ | apply State.onBank_stable hP | apply State.ite_stable | apply State.ite_snd_stable | apply State.ite_fst_stable | split | (dsimp only; split)

theorem execBcc_stable {s tt : State} {e : Fin 16} {c : Cond} {t : BitVec 17} (e : execBcc e c t s = .next tt) (h : P s) :
    P tt := by
  unfold execBcc at e
  injection e with e
  rw [← e]
  repeat' with_reducible first | assumption | intro _ | apply State.onBank_stable hP | apply State.ite_stable | apply State.ite_snd_stable | apply State.ite_fst_stable | split | (dsimp only; split)

theorem execCall_stable {s tt : State} {e : Fin 16} {t : BitVec 17} (e : execCall e t s = .next tt) (h : P s) :
    P tt := by
  unfold execCall at e
  injection e with e
  rw [← e]
  repeat' with_reducible first | assumption | intro _ | apply State.issue_stable hP | apply State.setBank_stable hP | apply State.stackError_stable hP | apply State.ite_stable | apply State.ite_snd_stable | apply State.ite_fst_stable | split | (dsimp only; split)

theorem execRet_stable {s tt : State} {e : Fin 16} (e : execRet e s = .next tt) (h : P s) :
    P tt := by
  unfold execRet at e
  injection e with e
  rw [← e]
  repeat' with_reducible first | assumption | intro _ | apply State.issue_stable hP | apply State.stackError_stable hP | apply State.setBank_stable hP | apply State.ite_stable | apply State.ite_snd_stable | apply State.ite_fst_stable | split | (dsimp only; split)

theorem execLoop_stable {s tt : State} {e : Fin 16} {n : Passes} {last : BitVec 17} (e : execLoop e n last s = .next tt) (h : P s) :
    P tt := by
  unfold execLoop at e
  injection e with e
  rw [← e]
  repeat' with_reducible first | assumption | intro _ | apply State.issue_stable hP | apply State.illegal_stable hP | apply State.stackError_stable hP | apply State.setBank_stable hP | refine State.draw_stable hP (by assumption) ?_ | apply State.drawSnd_stable hP | apply State.ite_stable | apply State.ite_snd_stable | apply State.ite_fst_stable | split | (dsimp only; split)

theorem execEnd_stable {s tt : State} {e : Fin 16} (e : execEnd e s = .next tt) (h : P s) :
    P tt := by
  unfold execEnd at e
  injection e with e
  rw [← e]
  repeat' with_reducible first | assumption | intro _ | apply State.issue_stable hP | apply State.endActivation_stable hP | apply State.ite_stable | apply State.ite_snd_stable | apply State.ite_fst_stable | split | (dsimp only; split)

theorem execIllegalInstruction_stable {s tt : State} {e : Fin 16} (e : execIllegalInstruction e s = .next tt) (h : P s) :
    P tt := by
  unfold execIllegalInstruction at e
  injection e with e
  rw [← e]
  repeat' with_reducible first | assumption | intro _ | apply State.issue_stable hP | apply State.illegal_stable hP | apply State.ite_stable | apply State.ite_snd_stable | apply State.ite_fst_stable | split | (dsimp only; split)

end Sys2Proof.Machine
end

