-- ==== Sys2Proof/Laws/StableCode.lean ====
section
/-!
SUPPORT. The operations of Machine/Code.lean keep every stable property (Laws/Stable.lean).
-/

namespace Sys2Proof.Machine

variable {P : State → Prop} (hP : Stable P)
include hP

theorem State.freshBank_stable {s : State} (h : P s)  : P (State.freshBank s).2 := by
  unfold State.freshBank
  repeat' with_reducible first | assumption | intro _ | apply State.withFree_stable hP | apply State.ite_stable | apply State.ite_snd_stable | apply State.ite_fst_stable | apply State.foldl_stable | split | (dsimp only; split)

theorem State.freshBank_stableEq {s tt : State} {x : Slot}  (heq : State.freshBank s = (x, tt)) (h : P s) : P tt := by
  have := State.freshBank_stable hP h
  rw [heq] at this; exact this

theorem State.installTask_stable {s : State} (h : P s) (e : Nat) (d : TaskDesc) : P (State.installTask s e d) := by
  unfold State.installTask
  repeat' with_reducible first | assumption | intro _ | apply State.wr_stable hP | apply State.freshBank_stable hP | refine State.freshBank_stableEq hP (by assumption) ?_ | apply State.setBank_stable hP | apply State.each_stable | apply State.ite_stable | apply State.ite_snd_stable | apply State.ite_fst_stable | split | (dsimp only; split)

theorem State.clearEngine_stable {s : State} (h : P s) (e : Nat) : P (State.clearEngine s e) := by
  unfold State.clearEngine
  repeat' with_reducible first | assumption | intro _ | apply State.wr_stable hP | apply State.endAll_stable hP | apply State.setEngImg_stable hP | apply State.each_stable | apply State.ite_stable | apply State.ite_snd_stable | apply State.ite_fst_stable | split | (dsimp only; split)

theorem State.installPart_stable {s : State} (h : P s) (p : EngPart) (ident arb version : Nat) (stored : Option Nat) (image : List Byte) : P (State.installPart s p ident arb version stored image) := by
  unfold State.installPart
  repeat' with_reducible first | assumption | intro _ | apply State.clearEngine_stable hP | apply State.wrBytes_stable hP | apply State.installTask_stable hP | apply State.put_stable hP | apply State.setEngImg_stable hP | apply State.each_stable | apply State.ite_stable | apply State.ite_snd_stable | apply State.ite_fst_stable | split | (dsimp only; split)

theorem State.loadParts_stable {s : State} (h : P s) (mask : Nat) (parts : Option (List EngPart)) (ident arb version : Nat) (stored : Option Nat) (image : List Byte) : P (State.loadParts s mask parts ident arb version stored image).2 := by
  unfold State.loadParts
  repeat' with_reducible first | assumption | intro _ | apply refuse_stable | refine refuse_stableEq (by assumption) ?_ | apply State.installPart_stable hP | apply State.status_stable hP | apply okReply_stable | refine okReply_stableEq (by assumption) ?_ | apply State.each_stable | apply State.ite_stable | apply State.ite_snd_stable | apply State.ite_fst_stable | split | (dsimp only; split)

theorem State.loadParts_stableEq {s tt : State} {x : Reply} {mask : Nat} {parts : Option (List EngPart)} {ident arb version : Nat} {stored : Option Nat} {image : List Byte} (heq : State.loadParts s mask parts ident arb version stored image = (x, tt)) (h : P s) : P tt := by
  have := State.loadParts_stable hP h mask parts ident arb version stored image
  rw [heq] at this; exact this

theorem execEngLoadBegin_stable {s tt : State} {c : HostCmd} (e : execEngLoadBegin c s = .next tt) (h : P s) :
    P tt := by
  unfold execEngLoadBegin at e
  injection e with e
  rw [← e]
  repeat' with_reducible first | assumption | intro _ | apply State.hostCmd_stable hP | apply refuseMode_stable | refine refuseMode_stableEq (by assumption) ?_ | apply refuse_stable | refine refuse_stableEq (by assumption) ?_ | apply State.closeLoad_stable hP | apply State.put_stable hP | apply okReply_stable | refine okReply_stableEq (by assumption) ?_ | apply State.withEngLoad_stable hP | apply State.each_stable | apply State.ite_stable | apply State.ite_snd_stable | apply State.ite_fst_stable | apply State.filterRegs_stable hP | apply State.filterMem_stable hP | split | (dsimp only; split)

theorem execEngLoadData_stable {s tt : State} {c : HostCmd} (e : execEngLoadData c s = .next tt) (h : P s) :
    P tt := by
  unfold execEngLoadData at e
  injection e with e
  rw [← e]
  repeat' with_reducible first | assumption | intro _ | apply State.hostCmd_stable hP | apply refuseMode_stable | refine refuseMode_stableEq (by assumption) ?_ | apply refuse_stable | refine refuse_stableEq (by assumption) ?_ | apply okReply_stable | refine okReply_stableEq (by assumption) ?_ | apply State.withEngLoad_stable hP | apply State.ite_stable | apply State.ite_snd_stable | apply State.ite_fst_stable | split | (dsimp only; split)

theorem execEngLoadEnd_stable {s tt : State} {c : HostCmd} (e : execEngLoadEnd c s = .next tt) (h : P s) :
    P tt := by
  unfold execEngLoadEnd at e
  injection e with e
  rw [← e]
  repeat' with_reducible first | assumption | intro _ | apply State.hostCmd_stable hP | apply refuseMode_stable | refine refuseMode_stableEq (by assumption) ?_ | apply State.closeLoad_stable hP | apply refuse_stable | refine refuse_stableEq (by assumption) ?_ | apply State.loadParts_stable hP | refine State.loadParts_stableEq hP (by assumption) ?_ | apply State.ite_stable | apply State.ite_snd_stable | apply State.ite_fst_stable | split | (dsimp only; split)

theorem execEngLoadStored_stable {s tt : State} {c : HostCmd} (e : execEngLoadStored c s = .next tt) (h : P s) :
    P tt := by
  unfold execEngLoadStored at e
  injection e with e
  rw [← e]
  repeat' with_reducible first | assumption | intro _ | apply State.hostCmd_stable hP | apply refuseMode_stable | refine refuseMode_stableEq (by assumption) ?_ | apply refuse_stable | refine refuse_stableEq (by assumption) ?_ | apply State.slotCheck_stable hP | refine State.slotCheck_stableEq hP (by assumption) ?_ | apply State.status_stable hP | apply State.loadParts_stable hP | refine State.loadParts_stableEq hP (by assumption) ?_ | refine State.draw_stable hP (by assumption) ?_ | apply State.drawSnd_stable hP | apply State.ite_stable | apply State.ite_snd_stable | apply State.ite_fst_stable | split | (dsimp only; split)

theorem execEngUnload_stable {s tt : State} {c : HostCmd} (e : execEngUnload c s = .next tt) (h : P s) :
    P tt := by
  unfold execEngUnload at e
  injection e with e
  rw [← e]
  repeat' with_reducible first | assumption | intro _ | apply State.hostCmd_stable hP | apply refuseMode_stable | refine refuseMode_stableEq (by assumption) ?_ | apply refuse_stable | refine refuse_stableEq (by assumption) ?_ | apply okReply_stable | refine okReply_stableEq (by assumption) ?_ | apply State.clearEngine_stable hP | apply State.each_stable | apply State.ite_stable | apply State.ite_snd_stable | apply State.ite_fst_stable | split | (dsimp only; split)

theorem execEngTaskEnable_stable {s tt : State} {c : HostCmd} (e : execEngTaskEnable c s = .next tt) (h : P s) :
    P tt := by
  unfold execEngTaskEnable at e
  injection e with e
  rw [← e]
  repeat' with_reducible first | assumption | intro _ | apply State.hostCmd_stable hP | apply refuseMode_stable | refine refuseMode_stableEq (by assumption) ?_ | apply refuse_stable | refine refuse_stableEq (by assumption) ?_ | apply State.putB_stable hP | apply okReply_stable | refine okReply_stableEq (by assumption) ?_ | apply State.put_stable hP | apply State.each_stable | apply State.ite_stable | apply State.ite_snd_stable | apply State.ite_fst_stable | split | (dsimp only; split)

theorem execEngStatus_stable {s tt : State} {c : HostCmd} (e : execEngStatus c s = .next tt) (h : P s) :
    P tt := by
  unfold execEngStatus at e
  injection e with e
  rw [← e]
  repeat' with_reducible first | assumption | intro _ | apply State.hostCmd_stable hP | apply refuseMode_stable | refine refuseMode_stableEq (by assumption) ?_ | apply refuse_stable | refine refuse_stableEq (by assumption) ?_ | apply okResult_stable | refine okResult_stableEq (by assumption) ?_ | apply State.ite_stable | apply State.ite_snd_stable | apply State.ite_fst_stable | split | (dsimp only; split)

theorem execEngGrantRead_stable {s tt : State} {c : HostCmd} (e : execEngGrantRead c s = .next tt) (h : P s) :
    P tt := by
  unfold execEngGrantRead at e
  injection e with e
  rw [← e]
  repeat' with_reducible first | assumption | intro _ | apply State.hostCmd_stable hP | apply refuseMode_stable | refine refuseMode_stableEq (by assumption) ?_ | apply refuse_stable | refine refuse_stableEq (by assumption) ?_ | apply replyWith_stable hP | refine replyWith_stableEq hP (by assumption) ?_ | apply State.ite_stable | apply State.ite_snd_stable | apply State.ite_fst_stable | split | (dsimp only; split)

theorem execEngClearFlags_stable {s tt : State} {c : HostCmd} (e : execEngClearFlags c s = .next tt) (h : P s) :
    P tt := by
  unfold execEngClearFlags at e
  injection e with e
  rw [← e]
  repeat' with_reducible first | assumption | intro _ | apply State.hostCmd_stable hP | apply refuseMode_stable | refine refuseMode_stableEq (by assumption) ?_ | apply okReply_stable | refine okReply_stableEq (by assumption) ?_ | apply State.put_stable hP | apply State.wr_stable hP | apply State.each_stable | apply State.ite_stable | apply State.ite_snd_stable | apply State.ite_fst_stable | split | (dsimp only; split)

end Sys2Proof.Machine
end

