-- ==== Sys2Proof/WellFormed.lean ====
section
/-!
DEFINITION. Commands whose operands lie in the ranges the spec gives them, where the operand's type alone does not say so.
-/

namespace Sys2Proof

/-- A command descriptor holds at most 48 bytes of PARAM and four handles (R263). -/
def hostCmdOk (c : HostCmd) : Bool := decide (c.param.length ≤ 48) && decide (c.handles.length ≤ 4)

/-- A CAN frame carries the number of bytes of its DLC; a frame with RTR or of a classical DLC above 8 at most 8 (R366). -/
def canFrameOk (f : CanFrame) : Bool :=
  decide (f.data.length ≤ 64) && (f.fdf || decide (f.data.length ≤ 8))

/-- The operands are in range. -/
def wellFormed : Instr → Bool
  | .sysNop c | .sysId c | .sysStatus c | .sysMode c | .sysReset c | .sysWakecfg c | .creditSet c | .bufAlloc c | .bufFree c
  | .rsvStatus c | .rsvQuota c | .chanStatus c | .sysEcho c | .sysLinkwd c | .axConfig c | .axState c | .axRecover c
  | .axBridgeEn c | .axSetpoint c | .axLimits c | .axParamWrite c | .axParamRead c | .axStatus c | .axPositionSet c
  | .axCapture c | .wearTables c | .wearRead c | .wearRestore c | .derateCfg c | .trajCtxWrite c | .trajCtxRead c
  | .trajAssign c | .trajStart c | .trajTarget c | .trajParam c | .trajStop c | .trajStatus c | .gearEngage c | .gearTable c
  | .gearDisengage c | .vmasterSet c | .puAxisCfg c | .acqProbe c | .acqSetCfg c | .acqTrigCfg c | .acqArm c | .acqDisarm c
  | .acqTrigger c | .acqStatus c | .acqRead c | .cascCfg c | .cascPing c | .cascStatus c | .netPortCfg c | .netVlanCfg c
  | .netFdb c | .netIpCfg c | .netStatus c | .timeCfg c | .timeStatus c _ | .timeRestep c | .timeGrid c _ | .timeAlarm c _
  | .netPortDelay c | .netVmBind c | .netWakeCfg c | .canCfg c | .canFilter c | .canStart c | .canTx c _ | .canTxCancel c
  | .canRxRead c | .canStatus c | .canBusoffRecover c | .fieldInCfg c | .fieldInRead c | .fieldOutCfg c | .fieldOutSet c
  | .fieldOutClear c _ _ | .fieldWakeCfg c | .faultRead c | .faultClear c | .faultRearm c | .faultReact c | .faultInfo c
  | .faultDomcfg c | .faultNotify c | .faultBist c | .evtRoute c | .sfmStatus c | .engLoadBegin c | .engLoadData c
  | .engLoadEnd c | .engLoadStored c | .engUnload c | .engTaskEnable c | .engStatus c | .engGrantRead c | .engClearFlags c
  | .secStatus c | .secChallenge c | .secResponse c | .updBegin c | .updData c | .updEnd c | .updAbort c | .secLifecycle c
  | .secProvision c | .secArbAdvance c | .secSessionOpen c | .secSessionClose c | .secDebug c | .telCfg c | .telRead c _
  | .telInv c _ | .scrubStatus c | .scrubCfg c => hostCmdOk c
  | .fieldStatus c ma => hostCmdOk c && ma.length == 16
  | .maxi _ _ _ _ n _ _ | .mini _ _ _ _ n _ _ => decide (1 ≤ n ∧ n ≤ 4096)
  | .loop_ _ n _ => n != .imm 0
  | .shadowWrite addr _ | .registerWrite addr _ => decide (addr < 2 ^ 32)
  | .adcStepSample _ codes _ => decide (codes.length ≤ 4)
  | .ssiReadDone _ bits _ => decide (bits.length ≤ 64)
  | .canFrameReceived _ frame _ => canFrameOk frame
  | .strapLatch samples => samples.length == 16
  | .hpRdsr | .hpRead .. | .hpWrite .. | .doorbellWrite .. | .featCommit .. | .commandConsume | .hostSessionDatagram .. | .sessionResponseResend ..
  | .sessionIdleClose .. | .modeRequest .. | .safeoffToRecovery .. | .deratePoll | .derateHoldExpiry | .axisRestReached ..
  | .stopTimeout | .hostLinkTimeout | .standbyRestCheckDone .. | .wakeSource .. | .legsHeldReenable .. | .mov .. | .movi ..
  | .movhi .. | .add .. | .sub .. | .and_ .. | .or_ .. | .xor_ .. | .adds .. | .subs .. | .abs_ .. | .neg_ .. | .shl ..
  | .shr .. | .sra .. | .min_ .. | .max_ .. | .cmp .. | .mul .. | .divq .. | .sincos .. | .rsq .. | .ld .. | .ldh ..
  | .ldv .. | .st .. | .sth .. | .stv .. | .setc .. | .addp .. | .ldin .. | .waitv .. | .waitvResume .. | .probe .. | .br ..
  | .bcc .. | .call_ .. | .ret_ .. | .rdsr .. | .wrsr .. | .nop .. | .end_ .. | .vclr .. | .vmul .. | .vmac .. | .vmsu ..
  | .vmacx .. | .macl .. | .vsum .. | .vadd .. | .vsub .. | .vabs .. | .mva .. | .mvas .. | .vmva .. | .pclr .. | .pmul ..
  | .pmac .. | .pmsu .. | .padd .. | .psha .. | .pmve .. | .pmves .. | .illegalInstruction .. | .remoteLoadReturn ..
  | .postedLaneRoom .. | .taskTrigger .. | .taskDispatch .. | .taskBudgetAbort .. | .ceDoorbell .. | .ceClrcnt ..
  | .inputSlotPush .. | .carrierZero .. | .carrierPeak .. | .ldall .. | .speedWordWrite .. | .edgeComputeDone ..
  | .loadDeadlineEmission .. | .legEdge .. | .carrierEnable .. | .syncMark .. | .syncMiss .. | .intervalTimerEvent ..
  | .cbClrcnt .. | .sluiceRelease .. | .interlockTimeout .. | .desatDetect .. | .shuntOvercurrent .. | .bootstrapUv ..
  | .stoInput .. | .stoDiscrepancy | .spillwayStep2 .. | .safeStateReached .. | .shortApplyFail .. | .effectiveEnableFall ..
  | .effectiveEnableRise .. | .glEnable .. | .glReset .. | .glCfgsend .. | .trainAligned .. | .bringupTimeout ..
  | .bringupFrameDue .. | .heartbeatDue .. | .echoReceived .. | .statusReceived .. | .badFrameReceived .. | .linkSilence ..
  | .sinc3Result .. | .paWindowClose .. | .paResultValid .. | .modulatorFault .. | .fastComparatorDecision ..
  | .fastComparatorRelease .. | .offsetCalStep .. | .adcSequenceStart .. | .adcResult .. | .adcTrim .. | .resolverPeak ..
  | .resangWrite .. | .encTransition .. | .encIndex .. | .ssiReadStart .. | .captureTrigger .. | .captureArm ..
  | .setpointTimeout .. | .wearPeriodUpdate .. | .wearIdleUpdate .. | .wearFlush | .wearRecordWriteback | .profileTick ..
  | .referencePublish .. | .ctxCommit .. | .puStart .. | .puSwapnow .. | .puStop .. | .puQstop .. | .puEngage ..
  | .vmthWrite .. | .standstillEnter .. | .stepperLegsReady .. | .stepClampReport .. | .sourceAssert ..
  | .axisStopFirmware .. | .axisStopEscalation .. | .axisSafeoffFirmware .. | .settleMaskEnd .. | .supHeartbeatKick
  | .supWatchdogMiss | .sfmResetRequest | .sfmConfigCheck | .sfmLockstepMismatch | .selfTestRetry .. | .basinSample ..
  | .probePush .. | .basinRecordWrite .. | .triggerDecision .. | .exportBufferFill .. | .syncClkLoss | .cascadeLaunch
  | .cascadeTriggerReceive .. | .trigIoStuck | .pingAnswer | .pingRound .. | .frameReceive .. | .internalPortFrame
  | .gptpSyncReceived .. | .pdelayReqReceived .. | .syncLossTimeout | .rateRequest .. | .timeStep .. | .gridMarkSend ..
  | .alarmReached .. | .wakeFrame .. | .vmDatagram .. | .tsqPop | .qheadLock .. | .queueRelease .. | .spillDone ..
  | .txRequest .. | .txCancel .. | .txAttemptEnd .. | .busOff .. | .busoffRecovered .. | .stuckDominant ..
  | .inputRawChange .. | .inputEdge .. | .pulseSample .. | .wireBreakMeasure .. | .outputOverloadTrip ..
  | .scrubRead .. | .outputThermalShutdown .. | .openLoadDetect .. | .vfldMeasure .. | .vfldThreshold .. | .telemetryDue .. | .nonceExpiry
  | .authLockExpiry | .tapSecChal .. | .tapSecOpen .. | .tapIdcode | .tapBypass | .tapExtest | .tapSamplePreload
  | .debugHalt .. | .trstLow | .porstAssert .. | .warmReset | .resetRelease .. | .pllLock .. | .pllLockRetry ..
  | .memoryClearDone .. | .firmwareImageChecked | .islandResetWrite .. | .islandResetAccess .. | .mainClockLoss ..
  | .safetyClockLoss .. | .clockFaultReset | .referenceMismatchWindow .. | .x32Loss | .forwardedClockStop ..
  | .supplyWarning .. | .vdrvOutOfRange .. | .vdrvCollapse .. | .dieTempUpdate .. | .enDlNChange .. | .legCompareEvent ..
  | .syncClkEdge .. | .stoInputHigh .. | .vdrvInRange .. | .portLinkChange .. | .canBusError .. | .busIntegrationDone ..
  | .rxReadWaitEnd .. | .symbolError .. | .virtualMasterTimeout .. | .fdbAgeing .. | .frameEgress .. | .gptpTimerDue ..
  | .pdelayRespReceived .. | .announceReceived .. | .dieLinkParityError => true

end Sys2Proof
end

