-- ==== Sys2Proof/Tests/Slice0.lean ====
section
/-!
SUPPORT. Tests of the model: the check of well-formedness refuses an ill-formed term for each of its conditions, a few single steps,
and for every statement with hypotheses a named theorem that shows values which meet them.
-/

set_option maxRecDepth 8000
set_option Elab.async false

namespace Sys2Proof.Tests
open Sys2Proof.Machine

/-! ## Small states and commands -/

/-- A device in Run with its clocks, no island held in reset. -/
def live : State := ((State.reset.put F.MODE_CUR_MODE 5).wr R.CLK_IRST 0).withClk { State.reset.clk with ready := true }

/-- The same in mode `m`, every feature committed. -/
def host (m : Nat) : State := ((live.put F.MODE_CUR_MODE m).put HW.commit 1).wr (HW.hostFeat 0) 0xFFFFFFFF

/-- A host command on channel 15 with parameter bytes `p`. -/
def cmd (p : List Byte) : HostCmd := ⟨15, true, 0xFFFF, [], p⟩

/-- One with buffer 2047 attached, and a state in which that buffer belongs to channel 15. -/
def cmdBuf (p : List Byte) : HostCmd := { cmd p with handles := [2047] }

def owns (s : State) : State :=
  ((s.put (ownerFld 2047) 0x1F).put (F.MBX_RSVCNT_COUNT 0) 1).put F.MBX_RSVFREE_FREE 2047

/-- CE_15 runs slot 7, of an activation of datapath `d`, whose bank is `b`. -/
def running (d : Nat) (b : Slot) : State :=
  ((((live.put (F.CE_CTRL_EN 15) 1).put (F.CE_STAT_ACT 15) 1).put (F.CE_STAT_SLOT 15) 7).modEngine 15
    (fun x => { x with active := 128 })).setBank 15 7 { b with dp := d }

/-- The bank as it stands at reset, but for register 15. -/
def bank15 (v : Word) : Slot := Slot.reset.setX 15 v

/-- The bank at reset, but for pointer 7. -/
def bankPtr (a : Word) : Slot := Slot.reset.setPtr 7 a

/-- Slot 7 of CE_15 may read and write the first 4 KiB of the SRAM beyond the host window. -/
def window (s : State) : State :=
  (((s.put (F.CE_GRBASE_BASE 15 7 0) 0x04008000).put (F.CE_GRLIM_LIMIT 15 7 0) 0x040083FF).put (F.CE_GRLIM_R 15 7 0) 1).put
    (F.CE_GRLIM_W 15 7 0) 1

/-- Leg 71 belongs to group 15. -/
def bound71 (s : State) : State := (s.put (F.SPW_LEGAX_BOUND 71) 1).put (F.SPW_LEGAX_AXIS 71) 15

/-- Carrier 23 runs, counting up where `up`. -/
def carrier23 (up : Bool) : State := (live.put (F.CB_STAT_RUN 23) 1).putB (F.CB_STAT_DIR 23) up

/-- Axis 15 is of type `t` and configured; its state is `v`. -/
def axis15 (s : State) (t v : Nat) : State := (s.modAxis 15 (fun x => { x with configured := true, type := t })).put (F.axst 15) v

/-- Axis 15 in profile mode in Run, with its context 0 of type `t` valid and active. -/
def profile15 (t : Nat) : State :=
  let s := (axis15 (host 5) 1 2).modAxis 15 (fun x => { x with sp := { x.sp with mode := 3 } })
  let s := [0x18, 0x1C, 0x10].foldl (fun s o => s.wr (ctxAddr 0 o) 1) (s.wr (ctxAddr 0 0x14) (if t = 3 then 0 else 1))
  let s := ((s.put (F.PU_CTX_CTL_TYPE 0) t).put (F.PU_CTXOWN_V 0) 1).put (F.PU_CTXOWN_AXIS 0) 15
  (s.put (F.PU_AXCTX_AV 15) 1).modProfile 15 (fun p => { p with ctx := { p.ctx with typ := t }, gear := if t = 3 then 1 else 0 })

/-- Four buffers attached, which belong to channel 15. -/
def cmdBufs (p : List Byte) : HostCmd := { cmd p with handles := [2044, 2045, 2046, 2047] }

def owns4 (s : State) : State :=
  ((s.wr (R.MBX_RSVOWN 511) 0x1F1F1F1F).put (F.MBX_RSVCNT_COUNT 0) 4).put F.MBX_RSVFREE_FREE 2044

/-- CAN_7 sends buffer 15; `k` are the buffers whose cancel waits. -/
def canSends (k : Nat) : State :=
  (live.put (F.CAN_CTRL_EN 7) 1).modCan 7 (fun x => { x with sending := some 15, cancels := k })

/-- Session 3, number 1, is open for channel 15. -/
def session3 : State := (host 2).setSession 3 ⟨true, 1, 0, [], 0x8000, 0, 0, 0⟩

/-- A datagram of that session: KIND `kind` and CNT in `head`, the tag its key gives. -/
def datagram (kind : Byte) : List Byte :=
  let head : List Byte := [0x16, 0x7E, 1, kind, 1, 0, 0, 0, 0, 0, 0, 0, 15, 0, 0, 0, 0, 0, 0, 0]
  head ++ hmacTag [] head

/-- A bank whose pointer 7 is circular: at the base `b` of a buffer of `n` bytes. -/
def ring (n : Nat) (b : Word) : Slot :=
  { Slot.reset.setPtr 7 b with pbase := [(7, b)], plen := [(7, BitVec.ofNat 32 n)] }

/-! ## Ill-formed commands are refused by the check -/

theorem test_wellFormed_accepts : wellFormed (.sysNop (cmd [])) = true ∧ wellFormed (.hpRead (List.replicate 8 0) 4) = true := by decide +kernel
theorem test_illFormed_param : wellFormed (.sysNop (cmd (List.replicate 49 0))) = false := by decide +kernel
theorem test_illFormed_handles : wellFormed (.sysEcho { cmd [] with handles := [0, 1, 2, 3, 4] }) = false := by decide +kernel
theorem test_illFormed_currents : wellFormed (.fieldStatus (cmd []) [0]) = false := by decide +kernel
theorem test_illFormed_scan : wellFormed (.maxi 0 0 0 0 0 0 ⟨0, 0⟩) = false ∧ wellFormed (.mini 0 0 0 0 4097 0 ⟨0, 0⟩) = false := by
  decide +kernel
theorem test_illFormed_loop : wellFormed (.loop_ 0 (.imm 0) 0) = false := by decide +kernel
theorem test_illFormed_address :
    wellFormed (.registerWrite (2 ^ 32) 0) = false ∧ wellFormed (.shadowWrite (2 ^ 32) 0) = false := by decide +kernel
theorem test_illFormed_codes : wellFormed (.adcStepSample 0 [0, 0, 0, 0, 0] ()) = false := by decide +kernel
theorem test_illFormed_bits : wellFormed (.ssiReadDone 0 (List.replicate 65 true) true) = false := by decide +kernel
theorem test_illFormed_frame :
    wellFormed (.canFrameReceived 0 ⟨0, 9, false, false, false, List.replicate 9 0⟩ ⟨⟨⟨0, 0⟩, 0⟩, true⟩) = false := by decide +kernel
theorem test_illFormed_straps : wellFormed (.strapLatch []) = false := by decide +kernel

/-! ## The CRCs on the ASCII digits 1 to 9: the check values of the two polynomials -/

theorem test_crc16 : crc16 [0x31, 0x32, 0x33, 0x34, 0x35, 0x36, 0x37, 0x38, 0x39] = 0x29B1 := by decide +kernel
theorem test_crc32 : crc32 [0x31, 0x32, 0x33, 0x34, 0x35, 0x36, 0x37, 0x38, 0x39] = 0xCBF43926 := by decide +kernel

/-! ## Single steps, their results worked out by hand from the rules -/

/-- The state that command `i` leaves, in a field of it; 0 where it does not complete. -/
def after (i : Instr) (s : State) (f : State → Nat) : Nat :=
  match step (s.withPending [i]) with
  | .next t => f t
  | _ => 0

/-- Slot 7 of CE_15 in an activation of the run datapath. -/
def runs (b : Slot) : State := running 1 b

/-- R61: an addition wraps; 0x7FFFFFFF + 1 sets N and V, and 0xFFFFFFFF + 1 sets Z and C. -/
theorem test_add_wraps :
    after (.add 15 0 15 (.imm 1)) (runs (bank15 0x7FFFFFFF)) (fun t => ((t.bank 15 7).xr 0).toNat) = 0x80000000 ∧
    after (.add 15 0 15 (.imm 1)) (runs (bank15 0xFFFFFFFF)) (fun t => ((t.bank 15 7).xr 0).toNat) = 0 := by decide +kernel

/-- ADDS saturates: 0x7FFFFFFF + 0x7FFFFFFF stays 0x7FFFFFFF. -/
theorem test_adds_saturates :
    after (.adds 15 0 15 15) (runs (bank15 0x7FFFFFFF)) (fun t => ((t.bank 15 7).xr 0).toNat) = 0x7FFFFFFF := by
  decide +kernel

/-- R54: full scale plus a product stays at full scale, and ACCSAT is set. -/
theorem test_macl_saturates :
    after (.macl 15 0 15 false 15 false) (runs ((bank15 1).setAcc 0 (2 ^ 39 - 1)))
      (fun t => ((t.bank 15 7).acc 0).toNat + t.fld (F.CE_STAT_ACCSAT 15)) = 2 ^ 39 := by decide +kernel

/-- R264, R286: SYS_NOP writes one response: its index moves to 1, and TAG stands at bytes 2 and 3. -/
theorem test_nop_response :
    after (.sysNop (cmd [])) (host 2) (fun t => t.fld (HW.rsppi 15)) = 1 ∧
    after (.sysNop (cmd [])) (host 2) (fun t => numAt (t.rdBytes (rspSlot 15 0) 64) 2 2) = 0xFFFF := by decide +kernel

/-- R29, R447: PORST puts the device into Reset from any mode. -/
theorem test_porst : after (.porstAssert true) live (fun t => t.curMode + 1) = 1 := by decide +kernel

/-- R19: a write outside the address map stops with a bus error. -/
theorem test_bus_error : step (live.withPending [.registerWrite 0x7000C000 0]) = .fault .busError := by rfl

/-- R31: from Run, Stop may be requested and Configure may not (reason 1). -/
theorem test_mode_request :
    after (.modeRequest 7) live (fun t => t.curMode) = modeStop ∧
    after (.modeRequest 2) live (fun t => t.curMode * 16 + t.fld F.MODE_REQ_REFUSE) = modeRun * 16 + 1 := by decide +kernel

/-- R379: BORCNT stands at 128 after a recovery, and the error counters at 0. -/
theorem test_can_recovered :
    after (.busoffRecovered 7) (((live.put (F.CAN_CTRL_EN 7) 1).put (F.CAN_ERR_STATE 7) canBusOff).modCan 7
      (fun x => { x with recovering := true })) (fun t => t.fld (F.CAN_ERR_BORCNT 7) * 1000 + t.fld (F.CAN_ERR_TEC 7)) = 128000 := by
  decide +kernel

/-- On an empty queue the block idles. -/
theorem test_idle : step State.reset = .next State.reset := by rfl

/-- R453, R273: reset leaves mode Reset and 8 credits a channel. -/
theorem test_reset : State.reset.curMode = 0 ∧ State.reset.fld (F.MBX_CRED_LIMIT 15) = 8 := by decide +kernel

/-! ## The hypotheses of the statements about the whole block are met -/

/-- A sound state and a command that completes. -/
theorem witness_EveryStepKeepsSound :
    ∃ s t : State, s.Sound ∧ step s = .next t ∧ s.pending ≠ [] :=
  ⟨State.reset.withPending [.tapIdcode, .warmReset], _, ⟨by decide, by decide, by decide⟩, rfl, by decide⟩

theorem witness_StepRunsTheFrontCommand : ∃ s : State, s.pending = [] := ⟨State.reset, rfl⟩

theorem witness_StepKeepsTheQueueBehind :
    ∃ (c : Instr) (rest : List Instr) (s t : State), step (s.withPending (c :: rest)) = .next t ∧ rest ≠ [] :=
  ⟨.warmReset, [.tapIdcode], State.reset, _, rfl, by decide⟩

/-- A command that is no register write; writes that stop (SUP runs, below the map's last range and above it) and that do not. -/
theorem witness_OnlyABusErrorStops :
    (∃ i : Instr, ∀ a v, i ≠ .registerWrite a v) ∧
    (∃ (a : Nat) (s : State), s.supRuns = true ∧ inMap a = false) ∧
    (∃ (a : Nat) (s : State), s.supRuns = false ∨ inMap a = true) :=
  ⟨⟨.warmReset, by intro a v h; cases h⟩, ⟨0x7000C000, live, by decide +kernel⟩, ⟨0x7000BFFF, live, .inr (by decide +kernel)⟩⟩

/-- Just behind the last range of the map, and its last byte. -/
theorem witness_AccessOutsideTheMap :
    (∃ (a : Nat) (s : State), s.supRuns = true ∧ ∀ r ∈ addressMap, ¬ (r.1 ≤ a ∧ a ≤ r.2)) ∧
    (∃ (a : Nat) (s : State), s.supRuns = true ∧ ∃ r ∈ addressMap, r.1 ≤ a ∧ a ≤ r.2) :=
  ⟨⟨0x7000C000, live, by decide +kernel, by decide +kernel⟩, ⟨0x7000BFFF, live, by decide +kernel, by decide +kernel⟩⟩

/-- An instruction of each datapath in an activation of the other. -/
theorem witness_WrongDatapathIsNotPerformed :
    (∃ (i : Instr) (e : Fin 16) (k : Nat) (s : State), runEngine i = some e ∧ s.wrongPath e k pathRun = true) ∧
    (∃ (i : Instr) (e : Fin 16) (k : Nat) (s : State), preciseEngine i = some e ∧ s.wrongPath e k pathPrecise = true) :=
  ⟨⟨.vclr 15, 15, 7, running 2 Slot.reset, rfl, by decide +kernel⟩, ⟨.padd 15, 15, 7, running 1 Slot.reset, rfl, by decide +kernel⟩⟩

/-- An undefined encoding, a loop of 0 passes, scans of 0 and of 4097 elements; a ninth CALL, an empty RET, a third loop. -/
theorem witness_MisuseEndsTheActivation :
    (∃ s : State, s.performs 15 7 pathBoth = true ∧
      ∀ i ∈ [Instr.illegalInstruction 15, .loop_ 15 (.imm 0) 0, .maxi 15 0 0 0 0 0 ⟨0, 0⟩, .mini 15 0 0 0 4097 0 ⟨0, 0⟩],
        i = .illegalInstruction 15 ∨ i = .loop_ 15 (.imm 0) 0 ∨ i = .maxi 15 0 0 0 0 0 ⟨0, 0⟩ ∨ i = .mini 15 0 0 0 4097 0 ⟨0, 0⟩) ∧
    (∃ s : State, s.performs 15 7 pathBoth = true ∧ 8 ≤ (s.bank 15 7).ret.length) ∧
    (∃ s : State, s.performs 15 7 pathBoth = true ∧ (s.bank 15 7).ret = []) ∧
    (∃ s : State, s.performs 15 7 pathBoth = true ∧ 2 ≤ (s.bank 15 7).loops.length) :=
  ⟨⟨running 1 Slot.reset, by decide +kernel, by decide +kernel⟩,
   ⟨running 1 { Slot.reset with ret := List.replicate 8 4 }, by decide +kernel, by decide +kernel⟩,
   ⟨running 1 Slot.reset, by decide +kernel, by decide +kernel⟩,
   ⟨running 1 { Slot.reset with loops := [(0, 4), (0, 8)] }, by decide +kernel, by decide +kernel⟩⟩

theorem witness_AccumulatorsSaturate :
    (∃ (e : Fin 16) (k : Nat) (s : State), s.performs e k pathRun = true) ∧
    ∃ (e : Fin 16) (k : Nat) (s : State), s.performs e k pathPrecise = true :=
  ⟨⟨15, 7, running 1 Slot.reset, by decide +kernel⟩, ⟨15, 7, running 2 Slot.reset, by decide +kernel⟩⟩

theorem witness_MovesScaleRoundSaturate :
    (∃ (e : Fin 16) (k : Nat) (s : State), s.performs e k pathRun = true) ∧
    ∃ (e : Fin 16) (k : Nat) (s : State), s.performs e k pathPrecise = true :=
  ⟨⟨15, 7, running 1 Slot.reset, by decide +kernel⟩, ⟨15, 7, running 2 Slot.reset, by decide +kernel⟩⟩

/-- The fewest and the most elements, in the engine's own data memory. -/
theorem witness_ScansFindTheFirstBest :
    ∀ n ∈ [1, 4096], ∃ (e : Fin 16) (k : Nat) (p : Fin 8) (s : State) (addr : Nat → Nat → Nat) (elem : Nat → Int),
      s.performs e k pathBoth = true ∧ (s.bank e k).scan = none ∧ (1 ≤ n ∧ n ≤ 4096) ∧
      (∀ j o, addr j o = ((s.bank e k).fold p (((s.bank e k).ptr p).toNat + (2 * j + o : Nat))).toNat) ∧
      (∀ j, j < n → ∀ o, o < 2 → s.mayAccess e k false (addr j o) = true ∧ s.islandDown (addr j o) = false ∧ s.badAt (addr j o) = false) ∧
      (∀ j, elem j = (BitVec.ofNat 16 ((s.engByte (s.draw.1 % 2 ^ 18) (addr j 0)).toNat +
        256 * (s.engByte (s.draw.1 % 2 ^ 18) (addr j 1)).toNat)).toInt) := by
  intro n h
  have hn : 1 ≤ n ∧ n ≤ 4096 := by
    simp only [List.mem_cons, List.not_mem_nil, or_false] at h
    omega
  refine ⟨15, 7, 7, running 1 (bankPtr 0x303E0000), _, _, by decide +kernel, by decide +kernel, hn, fun _ _ => rfl, ?_, fun _ => rfl⟩
  intro j hj o ho
  have hl : ((running 1 (bankPtr 0x303E0000)).bank 15 7).len 7 = 0 := by decide +kernel
  have hp : (((running 1 (bankPtr 0x303E0000)).bank 15 7).ptr 7).toNat = 0x303E0000 := by decide +kernel
  have ha : (((running 1 (bankPtr 0x303E0000)).bank 15 7).fold 7 (0x303E0000 + (2 * j + o : Nat))).toNat = 0x303E0000 + (2 * j + o) := by
    simp only [Slot.fold, hl, if_true, BitVec.toNat_ofInt]
    omega
  have hd : dataBase 15 = 0x303E0000 := by decide
  have ho : ownData 15 (0x303E0000 + (2 * j + o)) = true := by
    simp only [ownData, hd, decide_eq_true_eq]
    omega
  refine ⟨?_, ?_, rfl⟩
  · show State.mayAccess _ 15 7 false _ = true
    simp only [Fin.isValue, State.mayAccess]
    erw [hp, ha, ho]
    rfl
  · erw [hp, ha]
    have hi : islandOf (0x303E0000 + (2 * j + o)) = islandOf 0x303E0000 := by
      unfold islandOf
      rw [if_pos (decide_eq_true (by omega)), if_pos (by decide)]
    have h0 : (running 1 (bankPtr 0x303E0000)).islandDown 0x303E0000 = false := by decide +kernel
    simp only [State.islandDown] at h0 ⊢
    rw [hi]
    exact h0

/-- The shortest and the longest buffer, the latter up against the end of the engine's data memory; lengths 1, 2 and 65534. -/
theorem witness_CircularLoads :
    (∀ l ∈ ([2, 65534] : List Nat), ∃ (e : Fin 16) (k : Nat) (p : Fin 8) (s : State) (L base ptr : Int) (A : Nat → Nat),
      s.performs e k pathBoth = true ∧ L = (s.bank e k).len p ∧ L = l ∧ base = ((s.bank e k).base p).toNat ∧
      ptr = ((s.bank e k).ptr p).toNat ∧ 0 < L ∧ base + L ≤ 2 ^ 32 ∧
      (∀ j, A j = (base + (ptr + j - base) % L).toNat) ∧ ∀ j, j < 4 → ownData e (A j) = true ∧ s.badAt (A j) = false) ∧
    (∃ s : State, s.performs 15 7 pathBoth = true ∧ ((s.bank 15 7).xr 15).toNat % 2 = 1) ∧
    ∀ l ∈ [2, 65534], ∃ s : State, s.performs 15 7 pathBoth = true ∧ ((s.bank 15 7).xr 15).toNat = l ∧
      ((s.bank 15 7).xr 15).toNat % 2 = 0 ∧ ((s.bank 15 7).xr 15).toNat ≤ 65534 := by
  refine ⟨?_, ⟨running 1 (bank15 1), by decide +kernel, by decide +kernel⟩, ?_⟩
  · intro l h
    refine ⟨15, 7, 7, running 1 (ring l 0x303E0002), l, 0x303E0002, 0x303E0002, fun j => (0x303E0002 + ((0x303E0002 : Int) + j - 0x303E0002) % l).toNat,
      ?_, ?_, rfl, ?_, ?_, ?_, ?_, fun _ => rfl, ?_⟩ <;>
    · simp only [List.mem_cons, List.not_mem_nil, or_false] at h
      rcases h with rfl | rfl <;> decide +kernel
  · intro l h
    refine ⟨running 1 (bank15 (BitVec.ofNat 32 l)), ?_, ?_, ?_, ?_⟩ <;>
    · simp only [List.mem_cons, List.not_mem_nil, or_false] at h
      rcases h with rfl | rfl <;> decide +kernel

theorem witness_CircularAccessesStayInside :
    ∃ (b : Slot) (m : Addr) (n a : Nat), 0 < b.len (addrPtr m) ∧ (b.base (addrPtr m)).toNat + b.len (addrPtr m) ≤ 2 ^ 32 ∧
      a ∈ b.bytesOf m n :=
  ⟨ring 2 0xFFFFFFFE, .post 7 1, 4, 0xFFFFFFFF, by decide +kernel, by decide +kernel, by decide +kernel⟩

/-- The least and the greatest positive operand. -/
theorem witness_ReciprocalRootWithinItsBound :
    ∀ x ∈ [1, 0x7FFFFFFF], ∃ s : State, s.performs 15 7 pathBoth = true ∧ ((s.bank 15 7).xr 15) = x ∧
      0 < ((s.bank 15 7).xr 15).toInt := by
  intro x h
  refine ⟨running 1 (bank15 x), ?_, ?_, ?_⟩ <;>
  · simp only [List.mem_cons, List.not_mem_nil, or_false] at h
    rcases h with rfl | rfl <;> decide +kernel

theorem witness_SkippedTaskStarts :
    ∃ s : State, s.startNext 0 (slotKey 15 7) = true ∧ s.computeRuns = true ∧ s.flag (F.CE_TASKCFG_EN 15 7) = true ∧
      (s.slot (slotKey 15 7)).div = s.fld (F.CE_TASKCFG_PHASE 15 7) ∧ s.taskAllowed 15 7 = false :=
  ⟨(((host 2).put (F.CE_TASKCFG_EN 15 7) 1).put (F.CE_TASKCFG_DPATH 15 7) 1).sendStarts [(0, slotKey 15 7)], by decide +kernel⟩

/-- The last protection source, with reaction notify, against an empty and a full queue, and with no reaction; the first and the
last source that only reaches the event routing; reserved sources below and above them. -/
theorem witness_AssertionsSetTheirStickyBit :
    (∃ s : State, s.curMode ≠ modeReset ∧ s.curMode ≠ modeStandby ∧ s.clk.safetyStopped = false ∧
      s.srcClass 190 ≠ classReserved ∧ s.fld (F.WEIR_RCT_REACT 190) = 1 ∧ s.flag (stkFld 190) = false ∧ s.weir.nq.length < 32) ∧
    (∃ s : State, s.curMode ≠ modeReset ∧ s.curMode ≠ modeStandby ∧ s.clk.safetyStopped = false ∧
      s.srcClass 190 ≠ classReserved ∧ s.fld (F.WEIR_RCT_REACT 190) = 1 ∧ s.flag (stkFld 190) = false ∧ 32 ≤ s.weir.nq.length) ∧
    (∃ s : State, s.curMode ≠ modeReset ∧ s.curMode ≠ modeStandby ∧ s.clk.safetyStopped = false ∧
      s.srcClass 0 ≠ classReserved ∧ s.fld (F.WEIR_RCT_REACT 0) = 0) ∧
    (∃ s : State, s.curMode ≠ modeReset ∧ s.curMode ≠ modeStandby ∧ s.clk.safetyStopped = false ∧ (192 ≤ 192 ∧ 227 < 228)) ∧
    (∃ s : State, s.srcClass 151 = classReserved ∧ 228 ≤ 228) :=
  ⟨⟨live.put (F.WEIR_RCT_REACT 190) 1, by decide +kernel⟩,
   ⟨(live.put (F.WEIR_RCT_REACT 190) 1).withWeir { live.weir with nq := List.replicate 32 0 }, by decide +kernel⟩,
   ⟨live.put (F.WEIR_RCT_REACT 0) 0, by decide +kernel⟩, ⟨live, by decide +kernel⟩, ⟨live, by decide +kernel⟩⟩

theorem witness_StickyBitsClearByClass : ∃ s : State, s.supRuns = true ∧ s.tagsBalance :=
  ⟨live, by decide +kernel, by decide +kernel, by decide +kernel, by decide +kernel,
    fun n _ => by show (0 : Nat).testBit n = false; exact Nat.zero_testBit n⟩

theorem witness_NopResponse :
    ∃ (c : HostCmd) (s : State), s.serves 0x00 c = true ∧ s.curMode ≠ modeUpdate ∧ c.handles = [] ∧ s.chanSession c.ch.val = none :=
  ⟨cmd [], host 2, by decide +kernel, by decide +kernel, rfl, by decide +kernel⟩

theorem witness_UpdateDataReachesTheFlash :
    ∃ (c : HostCmd) (s : State) (u : Update), s.serves 0x94 c = true ∧ s.curMode = modeUpdate ∧ s.sec.upd = some u ∧
      arg c 0 4 = u.next ∧ arg c 4 4 ≤ (s.updBytes c).length ∧ u.next + arg c 4 4 ≤ u.length :=
  ⟨cmdBuf [0, 0, 0, 0, 0, 1], (owns (host 11)).withSec { (host 11).sec with upd := some ⟨17, 256, 0⟩ }, ⟨17, 256, 0⟩,
    by decide +kernel, by decide +kernel, rfl, by decide +kernel, by decide +kernel, by decide +kernel⟩

/-- Both limits of the rate. -/
theorem witness_TimeIsContinuousAcrossARateChange :
    ∀ new ∈ [rateNominal - rateLimit, rateNominal + rateLimit], ∃ (v : Word) (s : State), s.netRuns = true ∧
      new = (s.rd R.TU_RATEREQL).toNat + v.toNat % 2 ^ (F.TU_RATEREQH_RATE).width * 2 ^ 32 ∧
      (rateNominal - rateLimit ≤ new ∧ new ≤ rateNominal + rateLimit) ∧
      (rateNominal - rateLimit ≤ s.tuRate ∧ s.tuRate ≤ rateNominal + rateLimit) ∧
      (-2 ^ 78 ≤ s.tuOffset ∧ s.tuOffset ≤ 2 ^ 78) := by
  intro new h
  refine ⟨BitVec.ofNat 32 (new / 2 ^ 32), live.wr R.TU_RATEREQL (BitVec.ofNat 32 new), ?_, ?_, ?_, ?_, ?_⟩ <;>
  · simp only [List.mem_cons, List.not_mem_nil, or_false] at h
    rcases h with rfl | rfl <;> decide +kernel

theorem witness_WarmResetKeepsAndClears :
    ∃ s : State, (if s.anyShorted then s.mode.warmDue &&& 16 else s.mode.warmDue) ≠ 0 ∧ s.curMode ≠ modeReset ∧ s.flag F.MBX_INV_CRERR = false ∧ s.flag F.MBX_INV_RSVERR = false :=
  ⟨live.withMode { live.mode with warmDue := 8 }, by decide +kernel⟩

/-! ## The hypotheses of the completion statements are met, clause by clause -/

/-- The conditions of each clause of SpillwayStepsComplete are met. -/
theorem witness_SpillwayStepsComplete :
    (∃ (n : Fin 16) (s : State), (s.islandsRun = true) ∧ (s.gstate n = gsStep1)) ∧
    (∃ (l : Fin 72) (s : State), (s.islandsRun = true) ∧ ((s.leg l).off = 1)) ∧
    (∃ (k : Fin 16) (s : State) (t : State), (s.islandsRun = true) ∧ ((s.link k).off = 1) ∧ (t = (s.each [3 * k.val, 3 * k.val + 1, 3 * k.val + 2] (fun l t => t.step2Leg l)).modLink k (fun x => { x with off := 2 }))) ∧
    (∃ (n : Fin 16) (s : State), (s.islandsRun = true) ∧ (s.flag (F.SPW_GSTAT_LATCH n) = true) ∧ ((s.group n).phase2 = true)) ∧
    (∃ (l : Fin 72) (s : State), (s.islandsRun = true) ∧ ((s.leg l).off = 2)) ∧
    (∃ (k : Fin 16) (s : State), (s.islandsRun = true) ∧ ((s.link k).off = 2)) ∧
    (∃ (n : Fin 16) (leg : Fin 72) (s : State), (s.islandsRun = true) ∧ (s.legGroup leg = some n.val) ∧ ((if s.groupLinked n then s.groupShorted n else s.gstate n == gsApplying) = true)) ∧
    (∃ (n : Fin 16) (s : State), (s.islandsRun = true)) ∧
    (∃ (n : Fin 16) (cmp : Bool) (trip : Bool) (s : State), (s.islandsRun = true)) ∧
    (∃ (high : Bool) (m : EnableMasks) (s : State) (t : State), (t = s.withPins { s.pins with enDl := !high }) ∧ (t.islandsRun = true)) ∧
    (∃ (n : Fin 16) (fe : FeReading) (s : State), (s.computeRuns = true) ∧ (s.mode.speedTasks.testBit n = true) ∧ (s.curMode = modeRecovery) ∧ (s.mode.restCheck = none) ∧ (s.islandsRun = true)) ∧
    (∃ (n : Fin 16) (fe : FeReading) (s : State) (t : State), (s.computeRuns = true) ∧ (s.axState n ≠ axDisabled) ∧ (s.curMode ≠ modeRecovery) ∧ (s.loopMissing n = false) ∧ (s.mode.restCheck = none) ∧ (t = s.overspeed n (s.measuredSpeed n fe.source fe.observer)) ∧ (t.mode.restCheck = none) ∧ (t.islandsRun = true)) :=
  ⟨⟨15, (live.put (F.SPW_GSTAT_STATE 15) 1), by decide +kernel⟩,
   ⟨71, (live.modLeg 71 (fun x => { x with off := 1 })), by decide +kernel⟩,
   ⟨15, (live.modLink 15 (fun x => { x with off := 1 })), _, by decide +kernel, by decide +kernel, rfl⟩,
   ⟨0, ((live.put (F.SPW_GSTAT_LATCH 0) 1).modGroup 0 (fun g => { g with phase2 := true })), by decide +kernel⟩,
   ⟨0, (live.modLeg 0 (fun x => { x with off := 2 })), by decide +kernel⟩,
   ⟨0, (live.modLink 0 (fun x => { x with off := 2 })), by decide +kernel⟩,
   ⟨15, 71, ((bound71 live).put (F.SPW_GSTAT_STATE 15) gsApplying), by decide +kernel⟩,
   ⟨15, live, by decide +kernel⟩,
   ⟨15, true, false, live, by decide +kernel⟩,
   ⟨true, ⟨1,2⟩, live, _, rfl, by decide +kernel⟩,
   ⟨15, ⟨0, none⟩, ((live.put F.MODE_CUR_MODE 10).withMode { live.mode with speedTasks := 32768 }), by decide +kernel⟩,
   ⟨15, ⟨0, none⟩, ((((live.put (F.axst 15) 2).modAxis 15 (fun x => { x with engine := 15 })).put (F.CE_TASKCFG_EN 15 7) 1).put (F.CE_TASKENT_AXB 15 7) 1 |>.put (F.CE_TASKENT_AXIS 15 7) 15), _, by decide +kernel, by decide +kernel, by decide +kernel, by decide +kernel, (by decide +kernel), rfl, by decide +kernel⟩⟩

/-- The conditions of each clause of BridgeDetectorsComplete are met. -/
theorem witness_BridgeDetectorsComplete :
    (∃ (leg : Fin 72) (wait : Nat) (s : State) (t : State), (s.islandsRun = true) ∧ ((s.leg leg).waitUp = true) ∧ (legLinked leg = true ∨ wait ≤ s.waitLimit leg) ∧ (t = s.modLeg leg (fun x => { x with waitUp := false }))) ∧
    (∃ (leg : Fin 72) (wait : Nat) (s : State) (t : State), (s.islandsRun = true) ∧ ((s.leg leg).waitLo = true) ∧ (legLinked leg = true ∨ wait ≤ s.waitLimit leg) ∧ (t = s.modLeg leg (fun x => { x with waitLo := false }))) ∧
    (∃ (leg : Fin 72) (upper : Bool) (wait : Nat) (s : State), (s.islandsRun = true) ∧ ((if upper then (s.leg leg).waitUp else (s.leg leg).waitLo) = true) ∧ (legLinked leg = false) ∧ (s.waitLimit leg < wait)) ∧
    (∃ (leg : Fin 72) (upper : Bool) (s : State), (s.islandsRun = true) ∧ ((if upper then (s.leg leg).waitUp else (s.leg leg).waitLo) = true)) ∧
    (∃ (leg : Fin 24) (d : DesatAt) (s : State) (t : State), (s.dieWatches leg = true) ∧ (t = s.put (if d.upper then F.DLD_LEGSTAT_UPDES leg else F.DLD_LEGSTAT_LODES leg) 1) ∧ (t.flag (if d.upper then F.ES_LEGSTAT_UP (48 + leg.val) else F.ES_LEGSTAT_LO (48 + leg.val)) = true) ∧ (t.blank leg ≤ d.since)) ∧
    (∃ (leg : Fin 24) (d : DesatAt) (s : State) (t : State), (s.dieWatches leg = true) ∧ (t = s.put (if d.upper then F.DLD_LEGSTAT_UPDES leg else F.DLD_LEGSTAT_LODES leg) 1) ∧ (t.flag (if d.upper then F.ES_LEGSTAT_UP (48 + leg.val) else F.ES_LEGSTAT_LO (48 + leg.val)) = false ∨ d.since < t.blank leg)) ∧
    (∃ (leg : Fin 24) (s : State), (s.dieWatches leg = true)) ∧
    (∃ (leg : Fin 24) (s : State) (t : State) (l : _), (s.dieWatches leg = true) ∧ (l = 48 + leg.val) ∧ (t = (s.put (F.DLD_LEGSTAT_BSUV leg) 1).modLeg l (fun x => { x with bsuvHold := true, bsuvOver := false, waitUp := false })) ∧ (t.legGroup l = none)) ∧
    (∃ (leg : Fin 24) (s : State) (t : State) (u : State) (v : State) (l : _) (n : _) (p : _), (s.dieWatches leg = true) ∧ (l = 48 + leg.val) ∧ (t = (s.put (F.DLD_LEGSTAT_BSUV leg) 1).modLeg l (fun x => { x with bsuvHold := true, bsuvOver := false, waitUp := false })) ∧ (t.legGroup l = some n) ∧ (p = 2 ^ t.legPos n l) ∧ (u = t.put (F.SPW_CAUSE_BSUV n) 1) ∧ (v = ((u.put (F.SPW_FLTSW_UP n) (u.fld (F.SPW_FLTSW_UP n) ||| p)).modGroup n (fun g => { g with bsuvUp := if (t.fld (F.SPW_FLTSW_UP n) &&& p) == 0 then g.bsuvUp ||| p else g.bsuvUp })).stepUnc n (F.PU_STEPST_BSUV n))) ∧
    (∃ (leg : Fin 24) (s : State), (s.dieWatches leg = true)) ∧
    (∃ (b : Bool) (s : State) (t : State) (u : State), (t = s.stoPin b false) ∧ (t.islandsRun = true) ∧ (u = (t.put (if b then F.SPW_STOSTAT_STOB else F.SPW_STOSTAT_STOA) 0).syncSto.tripAll causeSto [])) ∧
    (∃ (b : Bool) (s : State), ((s.stoPin b false).islandsRun = false)) ∧
    (∃ (b : Bool) (s : State) (t : State), (t = s.stoPin b true) ∧ (t.islandsRun = true)) ∧
    (∃ (b : Bool) (s : State), ((s.stoPin b true).islandsRun = false)) ∧
    (∃ (s : State), (s.islandsRun = true) ∧ (s.flag F.SPW_STOSTAT_STOA ≠ s.flag F.SPW_STOSTAT_STOB)) :=
  ⟨⟨71, 0, (live.modLeg 71 (fun x => { x with waitUp := true })), _, by decide +kernel, by decide +kernel, by decide +kernel, rfl⟩,
   ⟨71, 0, (live.modLeg 71 (fun x => { x with waitLo := true })), _, by decide +kernel, by decide +kernel, by decide +kernel, rfl⟩,
   ⟨71, true, 100000, (live.modLeg 71 (fun x => { x with waitUp := true })), by decide +kernel⟩,
   ⟨71, true, (live.modLeg 71 (fun x => { x with waitUp := true })), by decide +kernel⟩,
   ⟨23, ⟨true,1000⟩, ((live.put (F.ES_LEGCFG_EN 71) 1).put (F.ES_LEGSTAT_UP 71) 1), _, by decide +kernel, rfl, by decide +kernel⟩,
   ⟨23, ⟨true,0⟩, (live.put (F.ES_LEGCFG_EN 71) 1), _, by decide +kernel, rfl, by decide +kernel⟩,
   ⟨23, (live.put (F.ES_LEGCFG_EN 71) 1), by decide +kernel⟩,
   ⟨23, (live.put (F.ES_LEGCFG_EN 71) 1), _, _, by decide +kernel, rfl, rfl, by decide +kernel⟩,
   ⟨23, (bound71 (live.put (F.ES_LEGCFG_EN 71) 1)), _, _, _, _, _, _, by decide +kernel, rfl, rfl, rfl, rfl, rfl, rfl⟩,
   ⟨23, (live.put (F.ES_LEGCFG_EN 71) 1), by decide +kernel⟩,
   ⟨true, live, _, _, rfl, by decide +kernel, rfl⟩,
   ⟨true, State.reset, by decide +kernel⟩,
   ⟨true, live, _, rfl, by decide +kernel⟩,
   ⟨true, State.reset, by decide +kernel⟩,
   ⟨(live.put F.SPW_STOSTAT_STOA 1), by decide +kernel⟩⟩

/-- The conditions of each clause of TaskEventsComplete are met. -/
theorem witness_TaskEventsComplete :
    (∃ (e : Fin 16) (k : Fin 8) (s : State), (s.startNext 0 (slotKey e k) = true)) ∧
    (∃ (e : Fin 16) (k : Fin 8) (s : State), (s.startNext 0 (slotKey e k) = false)) ∧
    (∃ (e : Fin 16) (ecc : Fin 3) (s : State) (t : State), (s.engineOn e = true) ∧ ((s.engine e).stall = .none) ∧ (t = s.dropPending e) ∧ (topSlot (t.runnable e) = none)) ∧
    (∃ (e : Fin 16) (ecc : Fin 3) (s : State) (t : State) (u : State) (k : _) (a : _), (s.engineOn e = true) ∧ ((s.engine e).stall = .none) ∧ (t = s.dropPending e) ∧ (topSlot (t.runnable e) = some k) ∧ (u = State.showSlot (if (t.engine e).active.testBit k then t else (t.activate e k).loopActivation e k) e (some k)) ∧ (a = codeAddr e (u.slot (slotKey e k)).pc)) ∧
    (∃ (e : Fin 16) (k : Fin 8) (s : State), (s.computeRuns = true) ∧ (s.fld (F.CE_TASKBUD_BUDGET e k) ≠ 0) ∧ (((s.engine e).active.testBit k || (s.fld (F.CE_STAT_PEND e)).testBit k) = true)) ∧
    (∃ (ty : Fin 16) (idx : Fin 64) (v : Word) (s : State), (1 ≤ ty.val ∧ ty.val ≤ 7)) ∧
    (∃ (e : Fin 16) (k : Fin 8) (s : State), (s.computeRuns = true) ∧ ((s.engine e).waiting.testBit k = true) ∧ (s.slotsValid e (s.slot (slotKey e k)).waitLo (s.slot (slotKey e k)).waitHi = true)) :=
  ⟨⟨15, 7, (live.withWeir { live.weir with starts := [[(0, slotKey 15 7)]] }), by decide +kernel⟩,
   ⟨15, 7, live, by decide +kernel⟩,
   ⟨15, 2, (live.put (F.CE_CTRL_EN 15) 1), _, by decide +kernel, by decide +kernel, rfl, by decide +kernel⟩,
   ⟨15, 2, ((live.put (F.CE_CTRL_EN 15) 1).modEngine 15 (fun x => { x with active := 128 })), _, _, _, _, by decide +kernel, by decide +kernel, rfl, rfl, rfl, rfl⟩,
   ⟨15, 7, ((live.put (F.CE_TASKBUD_BUDGET 15 7) 1).put (F.CE_STAT_PEND 15) 128), by decide +kernel⟩,
   ⟨7, 63, 0, live, by decide +kernel⟩,
   ⟨15, 7, (live.modEngine 15 (fun x => { x with waiting := 128 })), by decide +kernel⟩⟩

/-- The conditions of each clause of CurrentSensingCompletes are met. -/
theorem witness_CurrentSensingCompletes :
    (∃ (n : Fin 48) (z : Nat) (since : Nat) (s : State) (t : State) (u : State) (m : _) (w : _) (v : _) (sat : _), (s.senseRuns = true) ∧ (s.flag (F.SDF_CFG_EN n) = true) ∧ (s.flag (F.SDF_S3CFG_S3EN n) = true) ∧ (m = Nat.max (s.fld (F.SDF_S3CFG_S3OSR n)) 7 + 1) ∧ (w = (if s.flag (F.SDF_S3CFG_S3W n) then 24 else 16)) ∧ (filterResult w z (m ^ 3) = (v, sat)) ∧ (t = (if sat then s.put (F.SDF_STAT_S3SAT n) 1 else s)) ∧ (u = t.modSdChan n (fun c => { c with s3Count := (c.s3Count + 1) % 16, calRun := if t.calAllowed n then Nat.min 3 (c.calRun + 1) else 0 }))) ∧
    (∃ (n : Fin 48) (sum : Nat) (k : Nat) (since : Nat) (s : State) (x : _) (xs : _) (m : _) (v : _) (sat : _), (s.senseRuns = true) ∧ (s.flag (F.SDF_CFG_EN n) = true) ∧ ((s.sdChan n).closed = x :: xs) ∧ (m = Nat.max (s.fld (F.SDF_CFG_PAOSR n)) 3 + 1) ∧ (filterResult 24 sum (k * m ^ 3) = (v, sat))) ∧
    (∃ (n : Fin 48) (sum : Nat) (k : Nat) (since : Nat) (s : State), (s.senseRuns = true) ∧ ((s.sdChan n).closed = [])) ∧
    (∃ (n : Fin 48) (s : State), (s.senseRuns = true) ∧ ((s.sdChan n).paPend = [])) ∧
    (∃ (n : Fin 48) (s : State) (t : State) (w : _) (ws : _), (s.senseRuns = true) ∧ ((s.sdChan n).paPend = w :: ws) ∧ (t = (s.modSdChan n (fun c => { c with paPend := ws, pas := (w :: c.pas).take 2 })).restCurrent n w)) ∧
    (∃ (n : Fin 48) (run : Nat) (s : State), (s.senseRuns = true) ∧ (s.flag (F.SDF_CFG_EN n) = true)) ∧
    (∃ (n : Fin 48) (zs : List Nat) (s : State) (t : State) (high : _) (low : _), (high = s.cmpAll n zs (fun v => decide (s.cmpHi n < v))) ∧ (low = s.cmpAll n zs (fun v => decide (v < s.cmpLo n))) ∧ (((high && !s.flag (F.SDF_STAT_CMPH n)) || (low && !s.flag (F.SDF_STAT_CMPL n))) = true) ∧ (s.senseRuns = true) ∧ (s.flag (F.SDF_CFG_EN n) = true) ∧ (s.flag (F.SDF_CMPCFG_EN n) = true) ∧ (t = ((s.putB (F.SDF_STAT_CMPH n) high).putB (F.SDF_STAT_CMPL n) low).put (F.SDF_STAT_TRIPD n) 1)) ∧
    (∃ (n : Fin 48) (zs : List Nat) (s : State) (h : Int), (h = s.fld (F.SDF_CMPCFG_HYS n)) ∧ (s.senseRuns = true) ∧ (s.flag (F.SDF_CFG_EN n) = true) ∧ (s.flag (F.SDF_CMPCFG_EN n) = true) ∧ (s.cmpAll n zs (fun v => decide (s.cmpLo n + h ≤ v ∧ v ≤ s.cmpHi n - h)) = true)) ∧
    (∃ (n : Fin 48) (up : Bool) (s : State) (sum : Int) (need : Int) (mean : Int) (ofs : Int), (s.senseRuns = true) ∧ (s.flag (F.SDF_CFG_EN n) = true) ∧ (s.flag (F.SDF_CFG_CALEN n) = true) ∧ ((s.sdChan n).calN = s.calNeed n) ∧ (sum = (s.sdChan n).calSum) ∧ (need = s.calNeed n) ∧ (mean = sum / need + (if up && sum % need != 0 then 1 else 0)) ∧ (ofs = sgn 24 (s.fld (F.SDF_CALOFS_OFS n)))) ∧
    (∃ (q : Fin 8) (s : State), (s.startNext 1 q = true)) ∧
    (∃ (q : Fin 8) (s : State), (s.startNext 1 q = false)) ∧
    (∃ (q : Fin 8) (codes : List (Fin 16384)) (s : State) (t : State) (i : _), (s.senseRuns = true) ∧ (s.flag (F.ADC_SEQSTAT_RUN q) = true) ∧ (i = (s.adcSeq q).next) ∧ (i ≤ s.fld (F.ADC_SEQCFG_NSTEP q)) ∧ (t = s.put (F.ADC_SEQSTAT_STEP q) i) ∧ ((!t.stepFree q i || t.stepYields q i) = true)) ∧
    (∃ (q : Fin 8) (codes : List (Fin 16384)) (s : State) (t : State) (i : _), (s.senseRuns = true) ∧ (s.flag (F.ADC_SEQSTAT_RUN q) = true) ∧ (i = (s.adcSeq q).next) ∧ (i ≤ s.fld (F.ADC_SEQCFG_NSTEP q)) ∧ (t = s.put (F.ADC_SEQSTAT_STEP q) i) ∧ ((!t.stepFree q i || t.stepYields q i) = false)) ∧
    (∃ (q : Fin 8) (s : State) (t : State) (x : _) (xs : _), (s.senseRuns = true) ∧ ((s.adcSeq q).samples = x :: xs) ∧ (t = (s.modAdcSeq q (fun y => { y with samples := xs })).each (List.range 4) (fun c t => if t.flag ⟨R.ADC_STEP q x.step, 8 * c + 7, 1⟩ then (t.wr (R.ADC_RES (t.fld ⟨R.ADC_STEP q x.step, 8 * c, 5⟩)) (t.adcWord q c x)).pushResult 3 (t.fld ⟨R.ADC_STEP q x.step, 8 * c, 5⟩) (t.adcWord q c x) else t))) ∧
    (∃ (c : Fin 4) (gain : Nat) (ofs : Int) (s : State) (t : State) (u : State), (s.senseRuns = true) ∧ ((s.flag F.ADC_CALCTL_EN || s.sense.trimNow.testBit c) = true) ∧ (32768 - 655 ≤ gain ∧ gain ≤ 32768 + 655 ∧ -64 ≤ ofs ∧ ofs ≤ 64) ∧ (t = s.withSense { s.sense with trimNow := putBit s.sense.trimNow c false }) ∧ (u = State.withSense ((t.put (F.ADC_TRIM_GAIN c) gain).put (F.ADC_TRIM_OFS c) (uns 16 ofs)) { t.sense with trimmed := putBit t.sense.trimmed c true })) ∧
    (∃ (c : Fin 4) (gain : Nat) (ofs : Int) (s : State), (s.senseRuns = true) ∧ ((s.flag F.ADC_CALCTL_EN || s.sense.trimNow.testBit c) = true) ∧ (¬ (32768 - 655 ≤ gain ∧ gain ≤ 32768 + 655 ∧ -64 ≤ ofs ∧ ofs ≤ 64))) :=
  ⟨⟨47, 0, 0, ((live.put (F.SDF_CFG_EN 47) 1).put (F.SDF_S3CFG_S3EN 47) 1), _, _, _, _, _, _, by decide +kernel, by decide +kernel, by decide +kernel, rfl, rfl, rfl, rfl, rfl⟩,
   ⟨47, 0, 0, 0, ((live.put (F.SDF_CFG_EN 47) 1).modSdChan 47 (fun c => { c with closed := [⟨true, false, 0, false⟩] })), _, _, _, _, _, by decide +kernel, by decide +kernel, rfl, rfl, rfl⟩,
   ⟨47, 0, 0, 0, live, by decide +kernel⟩,
   ⟨47, live, by decide +kernel⟩,
   ⟨47, (live.modSdChan 47 (fun c => { c with paPend := [5] })), _, 5, [], by decide +kernel, rfl, rfl⟩,
   ⟨47, 0, (live.put (F.SDF_CFG_EN 47) 1), by decide +kernel⟩,
   ⟨47, [0], (((live.put (F.SDF_CFG_EN 47) 1).put (F.SDF_CMPCFG_EN 47) 1).put (F.SDF_CMPTH_LO 47) 0x7FFF), _, _, _, rfl, rfl, by decide +kernel, by decide +kernel, by decide +kernel, by decide +kernel, rfl⟩,
   ⟨47, [100], ((((live.put (F.SDF_CFG_EN 47) 1).put (F.SDF_CMPCFG_EN 47) 1).put (F.SDF_CMPTH_LO 47) 0x8000).put (F.SDF_CMPTH_HI 47) 0x7FFF), _, rfl, by decide +kernel⟩,
   ⟨47, true, (((live.put (F.SDF_CFG_EN 47) 1).put (F.SDF_CFG_CALEN 47) 1).modSdChan 47 (fun c => { c with calN := 1024 })), _, _, _, _, by decide +kernel, by decide +kernel, by decide +kernel, by decide +kernel, rfl, rfl, rfl, rfl⟩,
   ⟨7, (live.withWeir { live.weir with starts := [[(1, 7)]] }), by decide +kernel⟩,
   ⟨7, live, by decide +kernel⟩,
   ⟨7, [], ((((live.put (F.ADC_SEQSTAT_RUN 7) 1).wr (R.ADC_STEP 7 0) 128).wr (R.ADC_STEP 0 0) 128).modAdcSeq 0 (fun y => { y with samples := [⟨0, [], false, 0, 0⟩] })), _, _, by decide +kernel, by decide +kernel, rfl, by decide +kernel, rfl, by decide +kernel⟩,
   ⟨7, [], (live.put (F.ADC_SEQSTAT_RUN 7) 1), _, _, by decide +kernel, by decide +kernel, rfl, by decide +kernel, rfl, by decide +kernel⟩,
   ⟨7, (live.modAdcSeq 7 (fun y => { y with samples := [⟨0, [], false, 0, 0⟩] })), _, _, _, by decide +kernel, rfl, rfl⟩,
   ⟨3, 32768, 0, (live.put F.ADC_CALCTL_EN 1), _, _, by decide +kernel, by decide +kernel, by decide +kernel, rfl, rfl⟩,
   ⟨3, 0, 0, (live.put F.ADC_CALCTL_EN 1), by decide +kernel⟩⟩

/-- The conditions of each clause of PositionInputsComplete are met. -/
theorem witness_PositionInputsComplete :
    (∃ (r : Fin 4) (second : Bool) (s : State), (s.senseRuns = true) ∧ (s.flag (F.ADC_RESCFG_EN r) = true)) ∧
    (∃ (r : Fin 4) (v : Word) (s : State), (s.senseRuns = true)) ∧
    (∃ (n : Fin 12) (a : Bool) (b : Bool) (e : EncZ) (s : State) (t : State) (a0 : _) (b0 : _), (s.senseRuns = true) ∧ (s.flag (F.ENC_CFG_EN n) = true) ∧ (a0 = s.flag (F.ENC_STAT_A n)) ∧ (b0 = s.flag (F.ENC_STAT_B n)) ∧ (t = (s.putB (F.ENC_STAT_A n) a).putB (F.ENC_STAT_B n) b) ∧ ((a0 != a && b0 != b) = true)) ∧
    (∃ (n : Fin 12) (a : Bool) (b : Bool) (e : EncZ) (s : State), (s.senseRuns = true) ∧ (s.flag (F.ENC_CFG_EN n) = true) ∧ (s.flag (F.ENC_STAT_A n) = a) ∧ (s.flag (F.ENC_STAT_B n) = b)) ∧
    (∃ (n : Fin 12) (a : Bool) (b : Bool) (e : EncZ) (s : State) (t : State) (u : State) (a0 : _) (b0 : _) (m : _), (s.senseRuns = true) ∧ (s.flag (F.ENC_CFG_EN n) = true) ∧ (a0 = s.flag (F.ENC_STAT_A n)) ∧ (b0 = s.flag (F.ENC_STAT_B n)) ∧ (t = (s.putB (F.ENC_STAT_A n) a).putB (F.ENC_STAT_B n) b) ∧ ((a0 != a && b0 != b) = false) ∧ ((a0 == a && b0 == b) = false) ∧ (m = t.fld (F.ENC_CFG_MODE n)) ∧ (u = (if m == 0 then t.encCount n (quadStep a0 a b == Config.quadForward) else if m == 1 && a && !a0 then t.encCount n (b == Config.stepForward) else t))) ∧
    (∃ (n : Fin 12) (err : Bool) (s : State), (s.senseRuns = true) ∧ (s.flag (F.ENC_CFG_EN n) = true)) ∧
    (∃ (m : Fin 4) (high : Bool) (s : State) (len : _), (len = s.fld (F.ENC_ABSCFG_LEN m)) ∧ (s.startNext 4 m = true) ∧ (s.senseRuns = true) ∧ (s.flag (F.ENC_ABSCFG_EN m) = true) ∧ (8 ≤ len ∧ len ≤ 40) ∧ (s.sense.reading.testBit m = false)) ∧
    (∃ (m : Fin 4) (high : Bool) (s : State) (len : _), (len = s.fld (F.ENC_ABSCFG_LEN m)) ∧ (s.startNext 4 m = true) ∧ (s.senseRuns = true) ∧ (s.flag (F.ENC_ABSCFG_EN m) = true) ∧ (len < 8 ∨ 40 < len) ∧ (s.sense.reading.testBit m = false)) ∧
    (∃ (m : Fin 4) (bits : List Bool) (mono : Bool) (s : State), (s.senseRuns = true) ∧ (s.sense.reading.testBit m = true) ∧ (bits.length = s.fld (F.ENC_ABSCFG_LEN m))) ∧
    (∃ (k : Fin 16) (adv : Nat) (age : Nat) (s : State) (t : State) (e : _), (s.senseRuns = true) ∧ (s.capWaits k = true) ∧ ((s.runOn adv).draw = (e, t))) ∧
    (∃ (k : Fin 16) (s : State), (s.senseRuns = true)) :=
  ⟨⟨3, true, (live.put (F.ADC_RESCFG_EN 3) 1), by decide +kernel⟩,
   ⟨3, 0, live, by decide +kernel⟩,
   ⟨11, true, true, ⟨true, true⟩, (live.put (F.ENC_CFG_EN 11) 1), _, _, _, by decide +kernel, by decide +kernel, rfl, rfl, rfl, by decide +kernel⟩,
   ⟨11, false, false, ⟨true, true⟩, (live.put (F.ENC_CFG_EN 11) 1), by decide +kernel⟩,
   ⟨11, true, false, ⟨true, true⟩, (live.put (F.ENC_CFG_EN 11) 1), _, _, _, _, _, by decide +kernel, by decide +kernel, rfl, rfl, rfl, by decide +kernel, by decide +kernel, rfl, rfl⟩,
   ⟨11, true, (live.put (F.ENC_CFG_EN 11) 1), by decide +kernel⟩,
   ⟨3, true, (((live.put (F.ENC_ABSCFG_EN 3) 1).put (F.ENC_ABSCFG_LEN 3) 8).withWeir { live.weir with starts := [[(4, 3)]] }), _, rfl, by decide +kernel⟩,
   ⟨3, true, (((live.put (F.ENC_ABSCFG_EN 3) 1).put (F.ENC_ABSCFG_LEN 3) 41).withWeir { live.weir with starts := [[(4, 3)]] }), _, rfl, by decide +kernel⟩,
   ⟨3, [], true, (live.withSense { live.sense with reading := 8 }), by decide +kernel⟩,
   ⟨15, 0, 0, (live.withSense { live.sense with capDue := 32768 }), _, _, by decide +kernel, by decide +kernel, rfl⟩,
   ⟨15, live, by decide +kernel⟩⟩

/-- The conditions of each clause of GateLinksComplete are met. -/
theorem witness_GateLinksComplete :
    (∃ (k : Fin 16) (en : Bool) (s : State), (s.islandsRun = true)) ∧
    (∃ (k : Fin 16) (s : State), (s.islandsRun = true)) ∧
    (∃ (k : Fin 16) (s : State), (s.islandsRun = true)) ∧
    (∃ (k : Fin 16) (s : State), (s.islandsRun = true) ∧ (s.linkState k = linkTrain)) ∧
    (∃ (k : Fin 16) (y : LinkSym) (s : State), (s.islandsRun = true) ∧ (s.linkState k = linkTrain) ∧ (symError y = true)) ∧
    (∃ (k : Fin 16) (s : State), (s.islandsRun = true) ∧ (s.linkState k = linkTrain)) ∧
    (∃ (k : Fin 16) (s : State) (st : _), (st = s.linkState k) ∧ (s.islandsRun = true) ∧ ((st == linkTrain || st == linkMeasure || st == linkConfig) = true)) ∧
    (∃ (k : Fin 16) (s : State), (s.islandsRun = true) ∧ (s.linkState k = linkMeasure)) ∧
    (∃ (k : Fin 16) (s : State), (s.islandsRun = true) ∧ (s.linkState k = linkConfig)) ∧
    (∃ (k : Fin 16) (s : State), (s.linkState k ≠ linkMeasure) ∧ (s.linkState k ≠ linkConfig)) ∧
    (∃ (k : Fin 16) (req : Bool) (s : State), (s.islandsRun = true) ∧ (s.linkState k = linkUp)) ∧
    (∃ (k : Fin 16) (f : BadFrame) (s : State), (s.islandsRun = true) ∧ (s.linkState k ≠ linkOff) ∧ (rxJudge f.syms = .bad)) ∧
    (∃ (k : Fin 16) (s : State), (s.islandsRun = true) ∧ (s.linkState k = linkUp)) ∧
    (∃ (k : Fin 16) (syms : List LinkSym) (gates : List GateAt) (cover : List (BitVec 8)) (late : List (BitVec 8)) (s : State) (t : State) (p : _), (s.islandsRun = true) ∧ (s.linkState k ≠ linkOff) ∧ (rxPayload 0x81 syms = some p) ∧ (t = s.modLink k (fun x => { x with badRun := 0 })) ∧ (t.linkHears k = true)) ∧
    (∃ (k : Fin 16) (syms : List LinkSym) (gates : List GateAt) (cover : List (BitVec 8)) (late : List (BitVec 8)) (s : State), (s.islandsRun = true) ∧ (s.linkState k ≠ linkOff) ∧ (rxPayload 0x81 syms = none) ∧ (rxJudge syms = .bad)) ∧
    (∃ (k : Fin 16) (syms : List LinkSym) (rtt : Nat) (s : State) (t : State) (p : _), (s.islandsRun = true) ∧ (s.linkState k ≠ linkOff) ∧ (rxPayload 0x82 syms = some p) ∧ (t = s.modLink k (fun x => { x with badRun := 0 })) ∧ (t.linkHears k = true)) ∧
    (∃ (k : Fin 16) (syms : List LinkSym) (rtt : Nat) (s : State), (s.islandsRun = true) ∧ (s.linkState k ≠ linkOff) ∧ (rxPayload 0x82 syms = none) ∧ (rxJudge syms = .bad)) :=
  ⟨⟨15, true, live, by decide +kernel⟩,
   ⟨15, live, by decide +kernel⟩,
   ⟨15, live, by decide +kernel⟩,
   ⟨15, (live.put (F.GL_STAT_STATE 15) linkTrain), by decide +kernel⟩,
   ⟨15, .violation, (live.put (F.GL_STAT_STATE 15) linkTrain), by decide +kernel⟩,
   ⟨15, (live.put (F.GL_STAT_STATE 15) linkTrain), by decide +kernel⟩,
   ⟨15, (live.put (F.GL_STAT_STATE 15) linkTrain), _, rfl, by decide +kernel⟩,
   ⟨15, (live.put (F.GL_STAT_STATE 15) linkMeasure), by decide +kernel⟩,
   ⟨15, (live.put (F.GL_STAT_STATE 15) linkConfig), by decide +kernel⟩,
   ⟨15, live, by decide +kernel⟩,
   ⟨15, true, (live.put (F.GL_STAT_STATE 15) linkUp), by decide +kernel⟩,
   ⟨15, ⟨[symSof, .violation], true⟩, (live.put (F.GL_STAT_STATE 15) linkTrain), by decide +kernel⟩,
   ⟨15, (live.put (F.GL_STAT_STATE 15) linkUp), by decide +kernel⟩,
   ⟨15, (symSof :: ((frameBytes 129 (List.replicate 7 0)).map LinkSym.data ++ [symEof])), [], [], [], (live.put (F.GL_STAT_STATE 15) linkUp), _, (List.replicate 7 0), by decide +kernel, by decide +kernel, by decide +kernel, rfl, by decide +kernel⟩,
   ⟨15, [symSof, .violation], [], [], [], (live.put (F.GL_STAT_STATE 15) linkUp), by decide +kernel⟩,
   ⟨15, (symSof :: ((frameBytes 130 (List.replicate 11 0)).map LinkSym.data ++ [symEof])), 0, (live.put (F.GL_STAT_STATE 15) linkUp), _, (List.replicate 11 0), by decide +kernel, by decide +kernel, by decide +kernel, rfl, by decide +kernel⟩,
   ⟨15, [symSof, .violation], 0, (live.put (F.GL_STAT_STATE 15) linkUp), by decide +kernel⟩⟩

/-- The conditions of each clause of CarriersAndEdgesComplete are met. -/
theorem witness_CarriersAndEdgesComplete :
    (∃ (c : Fin 24) (en : Bool) (s : State), (s.islandsRun = true)) ∧
    (∃ (addr : Nat) (v : Word) (s : State), (s.islandsRun = true)) ∧
    (∃ (c : Fin 24) (late : Bool) (s : State), (s.islandsRun = true)) ∧
    (∃ (c : Fin 24) (tight : List (Fin 16 × Fin 8)) (s : State), (s.islandsRun = true) ∧ (s.flag (F.CB_LOAD_PEND c) = true)) ∧
    (∃ (c : Fin 24) (tight : List (Fin 16 × Fin 8)) (s : State), (s.islandsRun = true) ∧ (s.running c = true)) ∧
    (∃ (c : Fin 24) (late : List (Fin 72)) (s : State), (s.islandsRun = true) ∧ (s.running c = true) ∧ (s.countingUp c = false)) ∧
    (∃ (c : Fin 24) (s : State), (s.islandsRun = true) ∧ (s.running c = true) ∧ (s.countingUp c = true)) ∧
    (∃ (leg : Fin 72) (b : Bool) (s : State) (c : _), (c = s.fld (F.ES_LEGCFG_CB leg)) ∧ (s.islandsRun = true) ∧ (c < 24) ∧ (s.running c = true) ∧ (s.countingUp c = !b) ∧ (s.eventsPass c = true)) ∧
    (∃ (leg : Fin 72) (s : State), (s.islandsRun = true)) ∧
    (∃ (c : Fin 24) (at_ : Int) (s : State) (t : State) (u : State) (src : Nat) (v : Nat) (ticks : Int) (want : Int) (k : Int) (p : Int), (src = s.fld (F.CB_CFG_SYNSRC c)) ∧ (s.islandsRun = true) ∧ (s.running c = true) ∧ (s.leaderOf c = some c.val) ∧ (src = 1 ∨ (src = 2 ∧ (s.carrier c).marks ≠ [])) ∧ (ticks = (if src = 2 then ((s.carrier c).marks.headD 0 : Int) - (s.carrier c).zeroAt else at_)) ∧ (t = (if src = 2 then s.modCarrier c (fun x => { x with marks := x.marks.tail }) else s)) ∧ (want = ticks + t.fld (F.CB_SYNCCFG_OFFSET c)) ∧ (k = t.countTicks c) ∧ ((v, u) = (if want % k = 0 then (0, t) else t.draw)) ∧ (p = want / k + (v % 2 : Nat))) ∧
    (∃ (c : Fin 24) (s : State) (src : _), (src = s.fld (F.CB_CFG_SYNSRC c)) ∧ (s.islandsRun = true) ∧ (s.running c = true) ∧ (s.leaderOf c = some c.val) ∧ ((src == 1 || src == 2) = true)) ∧
    (∃ (c : Fin 24) (s : State), (s.islandsRun = true)) ∧
    (∃ (k : Fin 8) (s : State), (s.islandsRun = true) ∧ (s.flag (F.ES_ITMCFG_EN k) = true) ∧ ((s.timer k).started = true)) :=
  ⟨⟨23, true, live, by decide +kernel⟩,
   ⟨0, 0, live, by decide +kernel⟩,
   ⟨23, true, live, by decide +kernel⟩,
   ⟨23, [], (live.put (F.CB_LOAD_PEND 23) 1), by decide +kernel⟩,
   ⟨23, [], (carrier23 false), by decide +kernel⟩,
   ⟨23, [], (carrier23 false), by decide +kernel⟩,
   ⟨23, (carrier23 true), by decide +kernel⟩,
   ⟨71, true, ((carrier23 false).put (F.ES_LEGCFG_CB 71) 23), _, rfl, by decide +kernel⟩,
   ⟨71, live, by decide +kernel⟩,
   ⟨23, 0, (((carrier23 false).put (F.CB_CFG_SYNSRC 23) 1).put (F.CB_CFG_GRP 23) 23), _, _, _, 0, _, _, _, _, rfl, by decide +kernel, by decide +kernel, by decide +kernel, .inl (by decide +kernel), rfl, rfl, rfl, rfl, (if_pos (by decide +kernel)).symm, rfl⟩,
   ⟨23, (((carrier23 false).put (F.CB_CFG_SYNSRC 23) 1).put (F.CB_CFG_GRP 23) 23), _, rfl, by decide +kernel⟩,
   ⟨23, live, by decide +kernel⟩,
   ⟨7, ((live.put (F.ES_ITMCFG_EN 7) 1).setTimer 7 ⟨true, 200⟩), by decide +kernel⟩⟩

/-- The conditions of each clause of ProfileEventsComplete are met. -/
theorem witness_ProfileEventsComplete :
    (∃ (c : Fin 256) (s : State), (s.islandsRun = true)) ∧
    (∃ (n : Fin 16) (s : State), (s.islandsRun = true)) ∧
    (∃ (n : Fin 16) (s : State), (s.islandsRun = true)) ∧
    (∃ (n : Fin 16) (s : State), (s.islandsRun = true)) ∧
    (∃ (n : Fin 16) (s : State), (s.islandsRun = true)) ∧
    (∃ (n : Fin 16) (s : State), (s.islandsRun = true)) ∧
    (∃ (n : Fin 16) (dt : Nat) (at_ : TickAt) (s : State) (u : State) (t : State), (s.islandsRun = true) ∧ (s.flag F.PU_CTRL_EN = true) ∧ (s.flag (F.PU_AXCFG_EN n) = true) ∧ (s.fld (F.PU_AXCFG_TSRC n) = 1 ∨ s.fld (F.PU_AXCFG_TSRC n) = 2) ∧ (0 < (s.profile n).arrived) ∧ (u = (s.runOn at_.adv).modProfile n (fun p => { p with arrived := p.arrived - 1 })) ∧ (t = (if u.axState n == axEnergised && (u.axis n).type == 3 && !(u.axis n).stopping then u.wr (R.PU_STEPCNT n) (BitVec.ofNat 32 (uns 32 (roundShift (u.profile n).pos 32))) else u)) ∧ ((u.profile n).due = true)) ∧
    (∃ (n : Fin 16) (dt : Nat) (at_ : TickAt) (s : State) (u : State) (t : State) (v : State) (m : _) (e : _) (x : _) (ok : _), (s.islandsRun = true) ∧ (s.flag F.PU_CTRL_EN = true) ∧ (s.flag (F.PU_AXCFG_EN n) = true) ∧ (s.fld (F.PU_AXCFG_TSRC n) = 1 ∨ s.fld (F.PU_AXCFG_TSRC n) = 2) ∧ (0 < (s.profile n).arrived) ∧ (u = (s.runOn at_.adv).modProfile n (fun p => { p with arrived := p.arrived - 1 })) ∧ (t = (if u.axState n == axEnergised && (u.axis n).type == 3 && !(u.axis n).stopping then u.wr (R.PU_STEPCNT n) (BitVec.ofNat 32 (uns 32 (roundShift (u.profile n).pos 32))) else u)) ∧ ((u.profile n).due = false) ∧ (m = (if (u.profile n).gear == 0 && t.flag (F.PU_AXCTX_NV n) then t.readCtx (t.fld (F.PU_AXCTX_NEXT n)) else (u.profile n).ctx)) ∧ (t.draw = (e, v)) ∧ ((if m.typ == 3 then v.sampleMaster m.msrc m.midx (v.netTime + ((e % 327681 : Nat) : Int) - 163840) else (0, true)) = (x, ok))) ∧
    (∃ (n : Fin 16) (work : Nat) (par : Bool) (s : State), (s.islandsRun = true) ∧ ((s.profile n).due = true) ∧ (s.firstDue n = true)) ∧
    (∃ (k : Fin 4) (v : Word) (s : State), (s.islandsRun = true)) ∧
    (∃ (k : Fin 4) (s : State), (s.islandsRun = true)) :=
  ⟨⟨255, live, by decide +kernel⟩,
   ⟨15, live, by decide +kernel⟩,
   ⟨15, live, by decide +kernel⟩,
   ⟨15, live, by decide +kernel⟩,
   ⟨15, live, by decide +kernel⟩,
   ⟨15, live, by decide +kernel⟩,
   ⟨15, 0, ⟨0, true⟩, ((((live.put F.PU_CTRL_EN 1).put (F.PU_AXCFG_EN 15) 1).put (F.PU_AXCFG_TSRC 15) 1).modProfile 15 (fun p => { p with due := true, arrived := 1 })), _, _, by decide +kernel, by decide +kernel, by decide +kernel, by decide +kernel, (by decide +kernel), rfl, rfl, by decide +kernel⟩,
   ⟨15, 0, ⟨0, false⟩, ((((live.put F.PU_CTRL_EN 1).put (F.PU_AXCFG_EN 15) 1).put (F.PU_AXCFG_TSRC 15) 1).modProfile 15 (fun p => { p with due := false, arrived := 1 })), _, _, _, _, _, _, _, by decide +kernel, by decide +kernel, by decide +kernel, by decide +kernel, (by decide +kernel), rfl, rfl, by decide +kernel, rfl, rfl, rfl⟩,
   ⟨15, 0, true, (live.modProfile 15 (fun p => { p with due := true })), by decide +kernel⟩,
   ⟨3, 0, live, by decide +kernel⟩,
   ⟨3, live, by decide +kernel⟩⟩

/-- The conditions of each clause of AxisCommandsComplete are met. -/
theorem witness_AxisCommandsComplete :
    (∃ (c : HostCmd) (s : State) (u : State) (a : _), (s.serves 0x10 c = true) ∧ (u = s.atStep8 0x10 c) ∧ (a = readAxCfg c) ∧ (u.inModes configModes = true) ∧ (a.axis ≤ 15) ∧ (u.axState a.axis = axDisabled) ∧ (u.axCfgErrors c a = [])) ∧
    (∃ (c : HostCmd) (s : State) (u : State) (n : _), (s.serves 0x11 c = true) ∧ (u = s.atStep8 0x11 c) ∧ (n = arg c 0 1) ∧ (u.inModes liveModes = true) ∧ (n ≤ 15) ∧ (u.axStateReasons n (arg c 1 1) = [])) ∧
    (∃ (c : HostCmd) (s : State) (u : State) (n : _), (s.serves 0x12 c = true) ∧ (u = s.atStep8 0x12 c) ∧ (n = arg c 0 1) ∧ (u.inModes armModes = true) ∧ (n ≤ 15) ∧ (u.axState n = axFreewheel ∨ u.axState n = axFaulted) ∧ (u.flag (F.WEIR_DOMST_ACT n) = false) ∧ (u.axValid n = true) ∧ (u.axCleared n = true)) ∧
    (∃ (c : HostCmd) (s : State) (u : State) (n : _), (s.serves 0x13 c = true) ∧ (u = s.atStep8 0x13 c) ∧ (n = arg c 0 1) ∧ (u.inModes liveModes = true) ∧ (n ≤ 15) ∧ (u.islandsRun = true)) ∧
    (∃ (c : HostCmd) (s : State) (u : State) (n : _) (m : _), (s.serves 0x14 c = true) ∧ (u = s.atStep8 0x14 c) ∧ (n = arg c 0 1) ∧ (m = arg c 1 1) ∧ (u.inModes armModes = true) ∧ (n ≤ 15) ∧ ((u.axis n).configured = true) ∧ (m ≤ 3)) ∧
    (∃ (n : Fin 16) (s : State), (s.computeRuns = true) ∧ ((s.axis n).sp.wdog ≠ 0) ∧ ((s.axis n).ramping = false)) ∧
    (∃ (c : HostCmd) (s : State) (u : State) (n : _), (s.serves 0x15 c = true) ∧ (u = s.atStep8 0x15 c) ∧ (n = arg c 0 1) ∧ (u.inModes (2 :: armModes) = true) ∧ (¬ (15 < n)) ∧ (¬ ((u.axis n).rated < 4 * arg c 13 4))) ∧
    (∃ (c : HostCmd) (s : State) (u : State) (n : _) (id : _) (given : _) (v : _), (s.serves 0x16 c = true) ∧ (u = s.atStep8 0x16 c) ∧ (n = arg c 0 1) ∧ (id = arg c 1 1) ∧ (given = (if c.handles.isEmpty then c.param.drop 2 else u.attached c)) ∧ (v = given.take (paramSize (u.axis n).type id)) ∧ (u.inModes liveModes = true) ∧ (n ≤ 15) ∧ (id ≠ 12) ∧ (id ≠ 14) ∧ (paramSize (u.axis n).type id ≠ 0) ∧ (paramLive id = true ∨ u.axState n = axDisabled ∨ u.axState n = axArmed) ∧ (paramSize (u.axis n).type id ≤ given.length) ∧ (paramOk (u.axis n) id 0 v = true)) ∧
    (∃ (c : HostCmd) (s : State) (u : State) (n : _) (id : _), (s.serves 0x17 c = true) ∧ (u = s.atStep8 0x17 c) ∧ (n = arg c 0 1) ∧ (id = arg c 1 1) ∧ (u.inModes liveModes = true) ∧ (n ≤ 15) ∧ (paramSize (u.axis n).type id ≠ 0)) ∧
    (∃ (c : HostCmd) (s : State) (u : State) (n : _) (p : _), (s.serves 0x18 c = true) ∧ (u = s.atStep8 0x18 c) ∧ (n = arg c 0 1) ∧ (u.inModes liveModes = true) ∧ (n ≤ 15) ∧ (p = u.axPosition n)) ∧
    (∃ (c : HostCmd) (s : State) (u : State) (n : _) (i : _), (s.serves 0x19 c = true) ∧ (u = s.atStep8 0x19 c) ∧ (n = arg c 0 1) ∧ (i = (u.axis n).posInst) ∧ (u.inModes liveModes = true) ∧ (¬ (15 < n)) ∧ (u.axState n ≠ axEnergised) ∧ ((u.axis n).posKind = 1)) ∧
    (∃ (c : HostCmd) (s : State) (u : State) (k : _), (s.serves 0x1A c = true) ∧ (u = s.atStep8 0x1A c) ∧ (k = arg c 0 1) ∧ (u.inModes liveModes = true) ∧ (k ≤ 15) ∧ (arg c 1 1 = 2)) ∧
    (∃ (c : HostCmd) (s : State) (u : State) (k : _), (s.serves 0x1A c = true) ∧ (u = s.atStep8 0x1A c) ∧ (k = arg c 0 1) ∧ (u.inModes liveModes = true) ∧ (k ≤ 15) ∧ (arg c 1 1 = 1)) ∧
    (∃ (n : Fin 16) (s : State), (s.islandsRun = true) ∧ ((s.axis n).type = 3) ∧ (s.axState n = axEnergised) ∧ (s.refAtRest n = true) ∧ (s.moveWaits n = false) ∧ ((s.axis n).standstill = 0)) ∧
    (∃ (n : Fin 16) (s : State), (s.islandsRun = true) ∧ ((s.axis n).startWait ≠ 0) ∧ ((s.groupLegs n).all (fun l => !s.flag (F.ES_LEGSTAT_HELD l) && !(s.sched l).awaitSet) = true)) ∧
    (∃ (n : Fin 16) (s : State), (s.computeRuns = true) ∧ ((s.axis n).type = 3) ∧ ((s.axis n).loop.clamped = true)) :=
  ⟨⟨(cmd ([15, 5, 0, 0, 0, 0, 0, 0, 0, 0, 0x80, 0, 1, 255] ++ List.replicate 16 0 ++ [100])), (host 2), _, _, by decide +kernel, rfl, rfl, by decide +kernel⟩,
   ⟨(cmd [15, 0]), (axis15 (host 2) 5 1), _, _, by decide +kernel, rfl, rfl, by decide +kernel⟩,
   ⟨(cmd [15]), (axis15 (host 4) 5 3), _, _, by decide +kernel, rfl, rfl, by decide +kernel⟩,
   ⟨(cmd []), (host 2), _, _, by decide +kernel, rfl, rfl, by decide +kernel⟩,
   ⟨(cmd [15, 3]), (axis15 (host 4) 5 1), _, _, _, by decide +kernel, rfl, rfl, rfl, by decide +kernel⟩,
   ⟨15, (live.modAxis 15 (fun x => { x with sp := { x.sp with wdog := 1 } })), by decide +kernel⟩,
   ⟨(cmd []), (host 2), _, _, by decide +kernel, rfl, rfl, by decide +kernel⟩,
   ⟨(cmd ([15, 1] ++ List.replicate 8 0)), (axis15 (host 2) 5 0), _, _, _, _, _, by decide +kernel, rfl, rfl, rfl, rfl, rfl, by decide +kernel⟩,
   ⟨(cmd [15, 1]), (axis15 (host 2) 5 0), _, _, _, by decide +kernel, rfl, rfl, rfl, by decide +kernel⟩,
   ⟨(cmd []), (host 2), _, _, _, by decide +kernel, rfl, rfl, by decide +kernel, by decide +kernel, rfl⟩,
   ⟨(cmd [15]), ((host 2).modAxis 15 (fun x => { x with posKind := 1 })), _, _, _, by decide +kernel, rfl, rfl, rfl, by decide +kernel⟩,
   ⟨(cmd [15, 2]), (host 2), _, _, by decide +kernel, rfl, rfl, by decide +kernel⟩,
   ⟨(cmd [15, 1]), (host 2), _, _, by decide +kernel, rfl, rfl, by decide +kernel⟩,
   ⟨15, ((axis15 live 3 2).put (F.PU_AXSTAT_STATE 15) psRest), by decide +kernel⟩,
   ⟨15, (live.modAxis 15 (fun x => { x with startWait := 1 })), by decide +kernel⟩,
   ⟨15, ((axis15 live 3 2).modLoop 15 (fun y => { y with clamped := true })), by decide +kernel⟩⟩

/-- The conditions of each clause of TrajectoryCommandsComplete are met. -/
theorem witness_TrajectoryCommandsComplete :
    (∃ (c : HostCmd) (s : State) (u : State) (x : _) (img : _) (t : _), (s.serves 0x20 c = true) ∧ (u = s.atStep8 0x20 c) ∧ (x = arg c 0 1) ∧ (img = u.attached c) ∧ (t = u.writeCtx x img) ∧ (u.inModes [2, 4, 5, 6, 7, 9] = true) ∧ (u.ctxForeign x = false) ∧ (img.isEmpty = false) ∧ (((t.readCtx x).ok || emptyType (numAt img 0 4 / 2 ^ 28)) = true)) ∧
    (∃ (c : HostCmd) (s : State) (u : State), (s.serves 0x21 c = true) ∧ (u = s.atStep8 0x21 c) ∧ (u.inModes liveModes = true)) ∧
    (∃ (c : HostCmd) (s : State) (u : State) (x : _) (n : _), (s.serves 0x22 c = true) ∧ (u = s.atStep8 0x22 c) ∧ (x = arg c 0 1) ∧ (n = arg c 1 1) ∧ (u.inModes [2, 4, 5, 6, 9] = true) ∧ ((decide (15 < n) && n != 255) = false) ∧ (u.ctxBusy x = false)) ∧
    (∃ (c : HostCmd) (s : State) (u : State) (n : _) (x : _) (w : _) (m : _), (s.serves 0x23 c = true) ∧ (u = s.atStep8 0x23 c) ∧ (n = arg c 0 1) ∧ (x = arg c 1 1) ∧ (w = arg c 2 1) ∧ (m = u.readCtx x) ∧ (¬ (15 < n)) ∧ (u.profileMode n = true) ∧ (¬ (1 < w)) ∧ (m.ok = true) ∧ (u.flag (F.PU_CTXOWN_V x) = true) ∧ (u.fld (F.PU_CTXOWN_AXIS x) = n) ∧ ((m.typ != 3 && u.ctxBlocked n m) = false) ∧ ((u.freewheels n && !u.axValid n) = false) ∧ (u.flag (F.PU_AXCTX_NV n) = false)) ∧
    (∃ (c : HostCmd) (s : State) (u : State) (n : _) (x : _), (s.serves 0x24 c = true) ∧ (u = s.atStep8 0x24 c) ∧ (n = arg c 0 1) ∧ (x = u.fld (F.PU_AXCTX_ACTIVE n)) ∧ (¬ (15 < n)) ∧ (u.profileMode n = true) ∧ (u.activeMove n = true)) ∧
    (∃ (c : HostCmd) (s : State) (u : State) (a : State) (t : State) (put : Nat → State → Nat → Nat → State) (n : _) (k : _) (x : _), (s.serves 0x25 c = true) ∧ (u = s.atStep8 0x25 c) ∧ (n = arg c 0 1) ∧ (k = arg c 1 1) ∧ (x = u.fld (F.PU_AXCTX_ACTIVE n)) ∧ (n ≤ 15) ∧ (k ≤ 15) ∧ (u.profileMode n = true) ∧ (u.activeMove n = true) ∧ (put = (fun b t off v => if k.testBit b then t.wr (ctxAddr x off) (BitVec.ofNat 32 v) else t)) ∧ (a = put 2 (put 1 (put 0 u 0x10 (arg c 2 4)) 0x14 (arg c 6 4)) 0x18 (arg c 10 4)) ∧ (t = put 3 a 0x20 (a.ctxWord x 0x20 / 65536 * 65536 + arg c 14 2)) ∧ ((t.readCtx x).ok = true)) ∧
    (∃ (c : HostCmd) (s : State) (u : State), (s.serves 0x26 c = true) ∧ (u = s.atStep8 0x26 c) ∧ (u.inModes [5, 6, 7, 9] = true)) ∧
    (∃ (c : HostCmd) (s : State) (u : State) (n : _), (s.serves 0x27 c = true) ∧ (u = s.atStep8 0x27 c) ∧ (n = arg c 0 1) ∧ (u.inModes liveModes = true) ∧ (¬ (15 < n))) ∧
    (∃ (c : HostCmd) (s : State) (u : State) (n : _) (x : _) (m : _), (s.serves 0x28 c = true) ∧ (u = s.atStep8 0x28 c) ∧ (n = arg c 0 1) ∧ (x = arg c 1 1) ∧ (m = u.readCtx x) ∧ (¬ (15 < n)) ∧ (u.profileMode n = true) ∧ ((u.refAtRest n || u.puState n == psTracking) = true) ∧ ((u.freewheels n && !u.axValid n) = false) ∧ (m.typ = 3) ∧ (m.ok = true) ∧ (u.flag (F.PU_CTXOWN_V x) = true) ∧ (u.fld (F.PU_CTXOWN_AXIS x) = n)) ∧
    (∃ (c : HostCmd) (s : State) (u : State) (a : State) (t : State) (n : _) (x : _) (k : _), (s.serves 0x29 c = true) ∧ (u = s.atStep8 0x29 c) ∧ (n = arg c 0 1) ∧ (x = u.fld (F.PU_AXCTX_ACTIVE n)) ∧ (k = arg c 9 1) ∧ (n ≤ 15) ∧ (u.profileMode n = true) ∧ ((u.profile n).gear ≠ 0) ∧ (k ≤ 4) ∧ (a = ((u.wr (ctxAddr x 0x0C) (BitVec.ofNat 32 (arg c 1 4))).wr (ctxAddr x 0x10) (BitVec.ofNat 32 (arg c 5 4))).wr (ctxAddr x 0x14) (BitVec.ofNat 32 k)) ∧ (t = a.each (List.range (Nat.min k 4)) (fun i t => t.each (List.range 4) (fun j t => t.wr (ctxAddr x (0x28 + 0x14 * i + 4 * j)) (BitVec.ofNat 32 (arg c (10 + 16 * i + 4 * j) 4))))) ∧ ((t.readCtx x).ok = true)) ∧
    (∃ (c : HostCmd) (s : State) (u : State) (n : _), (s.serves 0x2A c = true) ∧ (u = s.atStep8 0x2A c) ∧ (n = arg c 0 1) ∧ (u.inModes [5, 6, 7, 9] = true) ∧ (¬ (15 < n)) ∧ ((u.profile n).gear ≠ 0)) ∧
    (∃ (c : HostCmd) (s : State) (u : State), (s.serves 0x2B c = true) ∧ (u = s.atStep8 0x2B c) ∧ (u.inModes liveModes = true) ∧ (¬ (3 < arg c 0 1))) ∧
    (∃ (c : HostCmd) (s : State) (u : State) (t : State) (n : _), (s.serves 0x2C c = true) ∧ (u = s.atStep8 0x2C c) ∧ (n = arg c 0 1) ∧ (t = (((((((u.put (F.PU_AXCFG_EN n) 1).put (F.PU_AXCFG_PS n) (arg c 1 1)).put (F.PU_AXCFG_TSRC n) (arg c 2 1)).put (F.PU_AXCFG_TSEL n) (arg c 3 1)).put (F.PU_AXCFG_TEVT n) (arg c 4 1)).put (F.PU_AXCFG_FBSRC n) (arg c 5 1)).put (F.PU_AXCFG_FBIDX n) (arg c 6 1))) ∧ (u.inModes configModes = true) ∧ (n ≤ 15) ∧ (u.axState n = axDisabled) ∧ (arg c 1 1 ≤ 1) ∧ (arg c 2 1 ≤ 3) ∧ (arg c 3 1 ≤ 31) ∧ (arg c 4 1 ≤ 3) ∧ (arg c 5 1 ≤ 7) ∧ (arg c 6 1 ≤ 15) ∧ (((u.axis n).type != 3 || stepTick (u.axis n).leader (arg c 2 1) (arg c 3 1) (arg c 4 1)) = true) ∧ (t.puLoadOk = true)) :=
  ⟨⟨(cmdBuf [0]), (owns (host 2)), _, _, _, _, by decide +kernel, rfl, rfl, rfl, rfl, by decide +kernel⟩,
   ⟨(cmd []), (host 2), _, by decide +kernel, rfl, by decide +kernel⟩,
   ⟨(cmd []), (host 2), _, _, _, by decide +kernel, rfl, rfl, rfl, by decide +kernel⟩,
   ⟨(cmd [15, 0, 1]), (profile15 1), _, _, _, _, _, by decide +kernel, rfl, rfl, rfl, rfl, rfl, by decide +kernel, by decide +kernel, by decide +kernel, by decide +kernel, (by decide +kernel), rfl, by decide +kernel⟩,
   ⟨(cmd [15]), (profile15 1), _, _, _, by decide +kernel, rfl, rfl, rfl, by decide +kernel⟩,
   ⟨(cmd [15]), (profile15 1), _, _, _, _, _, _, _, by decide +kernel, rfl, rfl, rfl, rfl, by decide +kernel, by decide +kernel, by decide +kernel, by decide +kernel, rfl, rfl, rfl, by decide +kernel⟩,
   ⟨(cmd []), (host 5), _, by decide +kernel, rfl, by decide +kernel⟩,
   ⟨(cmd []), (host 2), _, _, by decide +kernel, rfl, rfl, by decide +kernel⟩,
   ⟨(cmd [15, 0]), (profile15 3), _, _, _, _, by decide +kernel, rfl, rfl, rfl, rfl, by decide +kernel, by decide +kernel, by decide +kernel, by decide +kernel, (by decide +kernel), by decide +kernel, by decide +kernel, rfl⟩,
   ⟨(cmd [15, 1, 0, 0, 0, 1]), (profile15 3), _, _, _, _, _, _, by decide +kernel, rfl, rfl, rfl, rfl, by decide +kernel, by decide +kernel, by decide +kernel, by decide +kernel, rfl, rfl, by decide +kernel⟩,
   ⟨(cmd [15]), (profile15 3), _, _, by decide +kernel, rfl, rfl, by decide +kernel⟩,
   ⟨(cmd []), (host 2), _, by decide +kernel, rfl, by decide +kernel⟩,
   ⟨(cmd []), (host 2), _, _, _, by decide +kernel, rfl, rfl, rfl, by decide +kernel⟩⟩

/-- The conditions of each clause of WearAndBackgroundComplete are met. -/
theorem witness_WearAndBackgroundComplete :
    (∃ (s : State), (s.islandsRun = true)) ∧
    (∃ (leg : Fin 72) (s : State), (s.islandsRun = true) ∧ (s.flag F.WU_CTRL_EN = true) ∧ (s.flag (F.WU_LEGCFG_EN leg) = true)) ∧
    (∃ (leg : Fin 72) (s : State), (s.islandsRun = true) ∧ (s.flag F.WU_CTRL_EN = true) ∧ (s.flag (F.WU_LEGCFG_EN leg) = false)) ∧
    (∃ (leg : Fin 72) (s : State), (s.wearRuns leg = true) ∧ (s.running (s.fld (F.ES_LEGCFG_CB leg)) = false)) ∧
    (∃ (s : State), (s.islandsRun = true)) ∧
    (∃ (c : HostCmd) (s : State) (u : State) (t : _), (s.serves 0x1B c = true) ∧ (u = s.atStep8 0x1B c) ∧ (t = arg c 0 1) ∧ (u.inModes [2, 4, 9] = true) ∧ (t ≤ 15) ∧ (axisList.any (fun n => u.axState n == axEnergised && (u.groupLegs n).any (fun l => u.flag (F.WU_LEGCFG_EN l) && u.fld (F.WU_LEGCFG_TSET l) == t)) = false) ∧ ((u.attached c).length = 1024) ∧ (u.wearPart = none)) ∧
    (∃ (c : HostCmd) (s : State) (u : State) (t : _) (first : _) (img : _), (s.serves 0x1B c = true) ∧ (u = s.atStep8 0x1B c) ∧ (t = arg c 0 1) ∧ (u.inModes [2, 4, 9] = true) ∧ (t ≤ 15) ∧ (axisList.any (fun n => u.axState n == axEnergised && (u.groupLegs n).any (fun l => u.flag (F.WU_LEGCFG_EN l) && u.fld (F.WU_LEGCFG_TSET l) == t)) = false) ∧ ((u.attached c).length = 1024) ∧ (u.wearPart = some (t, first)) ∧ (img = first ++ u.attached c)) ∧
    (∃ (c : HostCmd) (s : State) (u : State) (v : State) (w : State) (p : _) (hist : _) (bs : _) (data : _), (s.serves 0x1C c = true) ∧ (u = s.atStep8 0x1C c) ∧ (p = arg c 0 1) ∧ (hist = (arg c 2 1 % 2 == 1)) ∧ (u.inModes liveModes = true) ∧ (p ≤ 143) ∧ (u.resultBufs c.ch (List.replicate (if hist then 1024 else 93) 0) = some (bs, v)) ∧ (w = State.wearDrain (if arg c 1 1 % 2 == 1 then v.wearFlushOne p else v) p) ∧ (data = leBytes 4 (uns 32 (w.wear p).tj) ++ w.reg4 (R.WU_LIFE p) ++ w.wearImage p hist)) ∧
    (∃ (c : HostCmd) (s : State) (u : State) (p : _) (bs : _) (n : _), (s.serves 0x1D c = true) ∧ (u = s.atStep8 0x1D c) ∧ (p = arg c 0 1) ∧ (bs = u.attached c ++ c.param.drop 1) ∧ (n = 0x411 + 2 * Nat.min 9 (numAt bs 0x410 1)) ∧ (u.inModes configModes = true) ∧ (p ≤ 143) ∧ (n + 4 ≤ bs.length) ∧ (crc32 (bs.take n) = numAt bs n 4) ∧ ((u.wear p).restored = false)) ∧
    (∃ (c : HostCmd) (s : State) (u : State) (n : _), (s.serves 0x1E c = true) ∧ (u = s.atStep8 0x1E c) ∧ (n = arg c 0 1) ∧ (u.inModes [2, 4, 9] = true) ∧ (n ≤ 14)) ∧
    (∃ (c : HostCmd) (s : State) (u : State), (s.serves 0x1E c = true) ∧ (u = s.atStep8 0x1E c) ∧ (arg c 0 1 = 15) ∧ (u.inModes [2, 4, 9] = true)) ∧
    (∃ (region : Fin 5) (e : Fin 16) (err : Fin 3) (raced : Bool) (lag : Bool) (s : State) (t : State) (u : State) (k : _) (a : _) (x : _), (s.scrubs region = true) ∧ (k = (if decide (3 ≤ region.val) then e.val else 0)) ∧ (t = (if lag && decide (3 ≤ region.val) then s.put (F.MODE_SCRSTAT_LAG region) 1 else s)) ∧ (s.scrubbed region k < scrubWords region) ∧ (a = scrubAddr region k (s.scrubbed region k)) ∧ (x = (if t.badAt a then 2 else err.val)) ∧ (u = t.sharedAccess (fun v => if x == 2 then v.markBad a else v))) ∧
    (∃ (region : Fin 5) (e : Fin 16) (err : Fin 3) (raced : Bool) (lag : Bool) (s : State), (s.scrubs region = true)) ∧
    (∃ (late : List (Fin 4 × Fin 16)) (adv : Nat) (s : State), (s.supRuns = true) ∧ (s.feature 10 = true)) ∧
    (∃ (c : HostCmd) (s : State) (u : State) (kinds : _) (port : _), (s.serves 0xA0 c = true) ∧ (u = s.atStep8 0xA0 c) ∧ (kinds = (List.range 4).map (fun k => (arg c (7 * k) 4, arg c (7 * k + 4) 1, arg c (7 * k + 5) 2))) ∧ (port = arg c 32 4) ∧ (u.inModes netConfigModes = true) ∧ (kinds.any (fun x => decide (100 < x.1) || decide (3 < x.2.1)) = false) ∧ (port ≤ 65535) ∧ (port ≠ sessionPort) ∧ (u.vmOf port = none)) ∧
    (∃ (c : HostCmd) (adv : Nat) (s : State) (u : State) (v : State) (k : _) (i : _) (r : _), (s.serves 0xA1 c = true) ∧ (u = s.atStep8 0xA1 c) ∧ (k = arg c 0 1) ∧ (i = arg c 1 1) ∧ (u.inModes telModes = true) ∧ (0xA8 ≤ k ∧ k ≤ 0xAB) ∧ (i ≤ (if k == 0xA9 || k == 0xAB then 15 else 0)) ∧ ((u.runOn adv).telResult (k - 0xA8) i ((u.runOn adv).nsAt 0) = (r, v))) ∧
    (∃ (c : HostCmd) (unstable : Bool) (s : State) (u : State) (q : _) (i : _), (s.serves 0xA2 c = true) ∧ (u = s.atStep8 0xA2 c) ∧ (q = arg c 0 1) ∧ (i = arg c 1 1) ∧ (u.inModes telModes = true) ∧ (¬ (4 < q)) ∧ (¬ ([16, 1, 1, 8, 4].getD q 0 ≤ i))) ∧
    (∃ (c : HostCmd) (s : State) (u : State), (s.serves 0xA3 c = true) ∧ (u = s.atStep8 0xA3 c) ∧ (u.inModes telModes = true)) ∧
    (∃ (c : HostCmd) (s : State) (u : State) (v : _), (s.serves 0xA4 c = true) ∧ (u = s.atStep8 0xA4 c) ∧ (v = arg c 0 4) ∧ (u.inModes netConfigModes = true) ∧ (¬ (v % 65536 < 50)) ∧ (¬ (6000 < v % 65536))) :=
  ⟨⟨live, by decide +kernel⟩,
   ⟨71, ((live.put F.WU_CTRL_EN 1).put (F.WU_LEGCFG_EN 71) 1), by decide +kernel⟩,
   ⟨71, (live.put F.WU_CTRL_EN 1), by decide +kernel⟩,
   ⟨71, ((live.put F.WU_CTRL_EN 1).put (F.WU_LEGCFG_EN 71) 1), by decide +kernel⟩,
   ⟨live, by decide +kernel⟩,
   ⟨(cmdBufs [15]), (owns4 (host 2)), _, _, by decide +kernel, rfl, rfl, by decide +kernel⟩,
   ⟨(cmdBufs [15]), ((owns4 (host 2)).withWearPart (some (15, List.replicate 1024 0))), _, _, (List.replicate 1024 0), _, by decide +kernel, rfl, rfl, by decide +kernel, by decide +kernel, by decide +kernel, by decide +kernel, rfl, rfl⟩,
   ⟨(cmd []), (host 2), _, _, _, _, _, _, _, by decide +kernel, rfl, rfl, rfl, by decide +kernel, by decide +kernel, rfl, rfl, rfl⟩,
   ⟨(cmdBufs ([143] ++ List.replicate 17 0 ++ leBytes 4 (crc32 (List.replicate 1041 0)))), (owns4 (host 2)), _, _, _, _, by decide +kernel, rfl, rfl, rfl, rfl, by decide +kernel⟩,
   ⟨(cmd [14]), (host 2), _, _, by decide +kernel, rfl, rfl, by decide +kernel⟩,
   ⟨(cmd [15]), (host 2), _, by decide +kernel, rfl, by decide +kernel⟩,
   ⟨4, 15, 1, false, true, (((live.put HW.pub 1).put F.MODE_SCRCFG_EN 1).put F.MODE_SCRCFG_REG 31), _, _, _, _, _, by decide +kernel, rfl, rfl, by decide +kernel, rfl, rfl, rfl⟩,
   ⟨4, 15, 1, false, true, (((live.put HW.pub 1).put F.MODE_SCRCFG_EN 1).put F.MODE_SCRCFG_REG 31), by decide +kernel⟩,
   ⟨[], 0, (host 2), by decide +kernel⟩,
   ⟨(cmd []), (host 2), _, _, _, by decide +kernel, rfl, rfl, rfl, by decide +kernel⟩,
   ⟨(cmd [0xAB]), 0, (host 10), _, _, _, _, _, by decide +kernel, rfl, rfl, rfl, by decide +kernel, by decide +kernel, by decide +kernel, rfl⟩,
   ⟨(cmd []), true, (host 2), _, _, _, by decide +kernel, rfl, rfl, rfl, by decide +kernel⟩,
   ⟨(cmd []), (host 2), _, by decide +kernel, rfl, by decide +kernel⟩,
   ⟨(cmd [0x70, 0x17]), (host 9), _, _, by decide +kernel, rfl, rfl, by decide +kernel⟩⟩

/-- The conditions of each clause of WeirEventsComplete are met. -/
theorem witness_WeirEventsComplete :
    (∃ (n : Fin 16) (rest : Bool) (s : State), (s.supRuns = true) ∧ (s.fld (F.WEIR_DOMST_REACT n) = 2) ∧ (s.flag (F.WEIR_DOMST_ACT n) = true) ∧ (s.axState n = axEnergised)) ∧
    (∃ (n : Fin 16) (s : State), (s.curMode ≠ modeReset) ∧ (s.fld (F.WEIR_DOMST_REACT n) = 2) ∧ (s.flag (F.WEIR_DOMST_ACT n) = true) ∧ (s.flag (F.WEIR_DOMST_DONE n) = false)) ∧
    (∃ (n : Fin 16) (s : State), (s.supRuns = true) ∧ (s.weir.safeOffDue.testBit n = true)) ∧
    (∃ (n : Fin 16) (s : State), ((s.group n).maskSpillOver = true)) ∧
    (∃ (n : Fin 16) (s : State) (t : State) (u : State), ((s.group n).maskClearOver = true) ∧ (t = (s.modGroup n (fun g => { g with maskClear := false, maskClearOver := false })).syncMask n) ∧ (u = t.echoAssert (t.groupLegs n))) ∧
    (∃ (k : Fin 16) (s : State) (t : State), ((s.link k).maskOver = true) ∧ (t = (s.modLink k (fun x => { x with mask := false, maskOver := false })).syncMaskOf k)) ∧
    (∃ (n : Fin 16) (s : State) (t : State), (s.weir.maskStopOver.testBit n = true) ∧ (t = State.syncMask (s.withWeir { s.weir with maskStop := putBit s.weir.maskStop n false, maskStopOver := putBit s.weir.maskStopOver n false }) n)) ∧
    (∃ (s : State), (s.supRuns = true)) ∧
    (∃ (s : State), (s.flag F.WEIR_SFMSTAT_RUN = true) ∧ (s.clk.safetyStopped = false) ∧ (s.sec.halted.testBit 16 = false)) ∧
    (∃ (s : State), (s.flag F.WEIR_SFMSTAT_RUN = true) ∧ (s.clk.safetyStopped = false) ∧ (s.flag F.WEIR_SFMCFG_RSTEN = true) ∧ (s.weir.noKickSinceSafeOff = true) ∧ (s.sec.halted.testBit 16 = false)) ∧
    (∃ (s : State), (s.flag F.WEIR_SFMSTAT_RUN = true) ∧ (s.clk.safetyStopped = false)) ∧
    (∃ (s : State), (s.flag F.WEIR_SFMSTAT_RUN = true) ∧ (s.clk.safetyStopped = false)) ∧
    (∃ (t : Fin 4) (inst : Nat) (result : Fin 4) (s : State), (s.curMode = modeBoot) ∧ (s.weir.retry.contains (t.val, inst) = true) ∧ (result.val ≠ 0)) :=
  ⟨⟨15, true, (((live.put (F.WEIR_DOMST_REACT 15) 2).put (F.WEIR_DOMST_ACT 15) 1).put (F.axst 15) axEnergised), by decide +kernel⟩,
   ⟨15, ((live.put (F.WEIR_DOMST_REACT 15) 2).put (F.WEIR_DOMST_ACT 15) 1), by decide +kernel⟩,
   ⟨15, (live.withWeir { live.weir with safeOffDue := 2 ^ 15 }), by decide +kernel⟩,
   ⟨15, (live.modGroup 15 (fun g => { g with maskSpillOver := true })), by decide +kernel⟩,
   ⟨15, (live.modGroup 15 (fun g => { g with maskClearOver := true })), _, _, by decide +kernel, rfl, rfl⟩,
   ⟨15, (live.modLink 15 (fun g => { g with maskOver := true })), _, by decide +kernel, rfl⟩,
   ⟨15, (live.withWeir { live.weir with maskStopOver := 32768 }), _, by decide +kernel, rfl⟩,
   ⟨live, by decide +kernel⟩,
   ⟨(live.put F.WEIR_SFMSTAT_RUN 1), by decide +kernel⟩,
   ⟨(((live.put F.WEIR_SFMSTAT_RUN 1).put F.WEIR_SFMCFG_RSTEN 1).withWeir { live.weir with noKickSinceSafeOff := true }), by decide +kernel⟩,
   ⟨(live.put F.WEIR_SFMSTAT_RUN 1), by decide +kernel⟩,
   ⟨(live.put F.WEIR_SFMSTAT_RUN 1), by decide +kernel⟩,
   ⟨3, 0, 3, ((live.put F.MODE_CUR_MODE modeBoot).withWeir { live.weir with retry := [(3, 0)] }), by decide +kernel⟩⟩

/-- The conditions of each clause of FaultCommandsComplete are met. -/
theorem witness_FaultCommandsComplete :
    (∃ (c : HostCmd) (s : State) (u : State) (bytes : _), (s.serves 0x70 c = true) ∧ (u = s.atStep8 0x70 c) ∧ (bytes = (List.range 6).flatMap (fun i => u.reg4 (R.WEIR_STK i)) ++ (List.range 6).flatMap (fun i => u.reg4 (R.WEIR_PREV i)) ++ (List.range 17).flatMap (fun d => u.reg4 (R.WEIR_DOMST d))) ∧ (u.inModes liveModes = true)) ∧
    (∃ (c : HostCmd) (s : State) (u : State) (ignored : _), (s.serves 0x71 c = true) ∧ (u = s.atStep8 0x71 c) ∧ (ignored = ((List.range 6).map (fun i => (bitsOf 32 (arg c (4 * i) 4 &&& u.classFBits i)).length)).foldl (· + ·) 0) ∧ (u.inModes liveModes = true)) ∧
    (∃ (c : HostCmd) (s : State) (u : State) (v : State) (r : _), (s.serves 0x72 c = true) ∧ (u = s.atStep8 0x72 c) ∧ (u.inModes liveModes = true) ∧ (u.rearm (arg c 0 3) = (r, v))) ∧
    (∃ (c : HostCmd) (s : State) (u : State) (ev : _) (r : _), (s.serves 0x73 c = true) ∧ (u = s.atStep8 0x73 c) ∧ (ev = arg c 0 1) ∧ (r = arg c 1 1) ∧ (u.inModes [modeConfigure] = true) ∧ (ev ≤ 191) ∧ (r ≤ 6) ∧ ((u.fld (F.WEIR_RCT_ALLOW ev)).testBit r = true)) ∧
    (∃ (c : HostCmd) (s : State) (u : State), (s.serves 0x74 c = true) ∧ (u = s.atStep8 0x74 c) ∧ (u.inModes liveModes = true) ∧ (¬ (191 < arg c 0 1))) ∧
    (∃ (c : HostCmd) (s : State) (u : State) (d : _) (stopt : _) (tset : _), (s.serves 0x75 c = true) ∧ (u = s.atStep8 0x75 c) ∧ (d = arg c 0 1) ∧ (stopt = arg c 1 2) ∧ (tset = arg c 3 2) ∧ (u.inModes [2, 4, 9] = true) ∧ (¬ (16 < d)) ∧ (1 ≤ tset ∧ tset ≤ 1000) ∧ ((d != domDev && !decide (100 ≤ stopt ∧ stopt ≤ 60000)) = false)) ∧
    (∃ (c : HostCmd) (s : State) (u : State), (s.serves 0x76 c = true) ∧ (u = s.atStep8 0x76 c) ∧ (u.inModes liveModes = true)) ∧
    (∃ (c : HostCmd) (s : State) (u : State), (s.serves 0x77 c = true) ∧ (u = s.atStep8 0x77 c) ∧ (u.inModes liveModes = true)) ∧
    (∃ (c : HostCmd) (s : State) (u : State) (t : _), (s.serves 0x78 c = true) ∧ (u = s.atStep8 0x78 c) ∧ (t = arg c 0 1) ∧ (u.inModes [2, 4, 9] = true) ∧ (¬ (31 < t))) ∧
    (∃ (c : HostCmd) (s : State) (u : State), (s.serves 0x79 c = true) ∧ (u = s.atStep8 0x79 c) ∧ (u.inModes liveModes = true)) :=
  ⟨⟨(cmd []), (host 2), _, _, by decide +kernel, rfl, rfl, by decide +kernel⟩,
   ⟨(cmd []), (host 2), _, _, by decide +kernel, rfl, rfl, by decide +kernel⟩,
   ⟨(cmd []), (host 2), _, _, _, by decide +kernel, rfl, by decide +kernel, rfl⟩,
   ⟨(cmd [191, 1]), ((host 2).put (F.WEIR_RCT_ALLOW 191) 127), _, _, _, by decide +kernel, rfl, rfl, rfl, by decide +kernel⟩,
   ⟨(cmd []), (host 2), _, by decide +kernel, rfl, by decide +kernel⟩,
   ⟨(cmd [16, 0, 0, 1]), (host 2), _, _, _, _, by decide +kernel, rfl, rfl, rfl, rfl, by decide +kernel⟩,
   ⟨(cmd []), (host 2), _, by decide +kernel, rfl, by decide +kernel⟩,
   ⟨(cmd []), (host 2), _, by decide +kernel, rfl, by decide +kernel⟩,
   ⟨(cmd []), (host 2), _, _, by decide +kernel, rfl, rfl, by decide +kernel⟩,
   ⟨(cmd []), (host 2), _, by decide +kernel, rfl, by decide +kernel⟩⟩

/-- The conditions of each clause of SecurityCommandsComplete are met. -/
theorem witness_SecurityCommandsComplete :
    (∃ (c : HostCmd) (s : State) (u : State), (s.serves 0x90 c = true) ∧ (u = s.atStep8 0x90 c)) ∧
    (∃ (c : HostCmd) (s : State) (u : State) (v : State) (bs : _), (s.serves 0x91 c = true) ∧ (u = s.atStep8 0x91 c) ∧ (u.challenge (arg c 0 1) (arg c 1 1) = (stOk, bs, v))) ∧
    (∃ (c : HostCmd) (s : State) (u : State) (v : State) (ok : _), (s.serves 0x92 c = true) ∧ (u = s.atStep8 0x92 c) ∧ (c.handles.length = 1) ∧ (u.respond (u.attached c) = (ok, v))) ∧
    (∃ (c : HostCmd) (s : State) (u : State) (t : _) (l : _), (s.serves 0x97 c = true) ∧ (u = s.atStep8 0x97 c) ∧ (t = arg c 0 1) ∧ (l = u.fld F.SEC_LCS_PEND) ∧ (u.inModes [2, 10] = true) ∧ ((u.nextLcs l).contains t = true) ∧ ((l != lcsBlank && !u.granted 3) = false)) ∧
    (∃ (c : HostCmd) (s : State) (u : State) (r : _), (s.serves 0x98 c = true) ∧ (u = s.atStep8 0x98 c) ∧ (u.inModes [modeConfigure] = true) ∧ (u.provision (Config.otpItem (arg c 0 1)) (c.param.drop 1) = r)) ∧
    (∃ (c : HostCmd) (s : State) (u : State) (k : _) (vs : _), (s.serves 0x99 c = true) ∧ (u = s.atStep8 0x99 c) ∧ (k = arg c 0 1) ∧ (vs = u.imageVersions k) ∧ (u.inModes [modeConfigure] = true) ∧ (k ≤ 15) ∧ (vs.isEmpty = false) ∧ (u.flag F.SEC_BOOT_FALLBACK = false)) ∧
    (∃ (c : HostCmd) (s : State) (u : State) (t : State) (n : _) (slot : _), (s.serves 0x93 c = true) ∧ (u = s.atStep8 0x93 c) ∧ (n = arg c 1 4) ∧ (u.inModes [modeUpdate] = true) ∧ (u.sec.upd.isSome = false) ∧ (u.updSlot (arg c 0 1) = some (slot, t)) ∧ (n ≠ 0) ∧ (n ≤ updLimit slot)) ∧
    (∃ (c : HostCmd) (s : State) (u : State) (x : _) (n : _), (s.serves 0x94 c = true) ∧ (u = s.atStep8 0x94 c) ∧ (u.sec.upd = some x) ∧ (n = arg c 4 4) ∧ (u.inModes [modeUpdate] = true) ∧ (arg c 0 4 = x.next) ∧ (n ≤ (u.updBytes c).length) ∧ (x.next + n ≤ x.length)) ∧
    (∃ (c : HostCmd) (s : State) (u : State) (x : _), (s.serves 0x95 c = true) ∧ (u = s.atStep8 0x95 c) ∧ (u.sec.upd = some x) ∧ (u.inModes [modeUpdate] = true) ∧ (x.next ≠ x.length)) ∧
    (∃ (c : HostCmd) (s : State) (u : State) (t : State) (x : _) (r : _), (s.serves 0x95 c = true) ∧ (u = s.atStep8 0x95 c) ∧ (u.sec.upd = some x) ∧ (u.inModes [modeUpdate] = true) ∧ (x.next = x.length) ∧ (r = u.imageCheck x.slot (if x.slot < 2 then 1 else 2)) ∧ (t = u.withSec { u.sec with upd := none, slotBad := putBit u.sec.slotBad x.slot false })) ∧
    (∃ (c : HostCmd) (s : State) (u : State), (s.serves 0x96 c = true) ∧ (u = s.atStep8 0x96 c) ∧ (u.inModes [modeUpdate] = true)) ∧
    (∃ (c : HostCmd) (s : State) (u : State) (mask : _) (num : _) (used : _) (bound : _) (n : _), (s.serves 0x9A c = true) ∧ (u = s.atStep8 0x9A c) ∧ (mask = arg c 4 2) ∧ (num = arg c 6 4) ∧ (used = [0, 1, 2, 3].filter (fun n => (u.session n).isOpen)) ∧ (bound = used.foldl (fun m n => m ||| (u.session n).chans) 0) ∧ (u.inModes [2, 4, 9] = true) ∧ (u.feature 12 = true) ∧ (c.handles.length = 1) ∧ (u.granted 4 = true) ∧ ([0, 1, 2, 3].find? (fun n => !(u.session n).isOpen) = some n) ∧ (bound &&& mask = 0) ∧ ((bitsOf 16 (bound ||| mask)).length ≤ 4) ∧ (used.any (fun n => (u.session n).number == num) = false)) ∧
    (∃ (c : HostCmd) (s : State) (u : State) (n : _), (s.serves 0x9B c = true) ∧ (u = s.atStep8 0x9B c) ∧ (u.curMode ≠ modeUpdate) ∧ ([0, 1, 2, 3].find? (fun n => (u.session n).isOpen && (u.session n).number == arg c 0 4) = some n)) ∧
    (∃ (c : HostCmd) (s : State) (u : State), (s.serves 0x9C c = true) ∧ (u = s.atStep8 0x9C c) ∧ (u.curMode ≠ modeUpdate) ∧ (arg c 0 1 = 0)) :=
  ⟨⟨(cmd []), (host 2), _, by decide +kernel, rfl⟩,
   ⟨(cmd [4, 0]), (host 2), _, _, _, by decide +kernel, rfl, rfl⟩,
   ⟨(cmdBuf []), (owns (host 2)), _, _, _, by decide +kernel, rfl, by decide +kernel, rfl⟩,
   ⟨(cmd [BitVec.ofNat 8 lcsDevelop]), ((host 10).put F.SEC_KEYST_KH0V 1), _, _, _, by decide +kernel, rfl, rfl, rfl, by decide +kernel⟩,
   ⟨(cmd []), (host 2), _, _, by decide +kernel, rfl, by decide +kernel, rfl⟩,
   ⟨(cmd []), (host 2), _, _, _, by decide +kernel, rfl, rfl, rfl, by decide +kernel⟩,
   ⟨(cmd [15, 1]), (host 11), _, ((host 11).atStep8 0x93 (cmd [15, 1])), _, 17, by decide +kernel, rfl, rfl, by decide +kernel, by decide +kernel, rfl, by decide +kernel⟩,
   ⟨(cmdBuf [0, 0, 0, 0, 0, 1]), ((owns (host 11)).withSec { (host 11).sec with upd := some ⟨17, 256, 0⟩ }), _, ⟨17, 256, 0⟩, _, by decide +kernel, rfl, by decide +kernel, rfl, by decide +kernel⟩,
   ⟨(cmd []), ((host 11).withSec { (host 11).sec with upd := some ⟨17, 256, 0⟩ }), _, ⟨17, 256, 0⟩, by decide +kernel, rfl, by decide +kernel⟩,
   ⟨(cmd []), ((host 11).withSec { (host 11).sec with upd := some ⟨17, 256, 256⟩ }), _, _, ⟨17, 256, 256⟩, _, by decide +kernel, rfl, by decide +kernel, by decide +kernel, by decide +kernel, rfl, rfl⟩,
   ⟨(cmd []), (host 11), _, by decide +kernel, rfl, by decide +kernel⟩,
   ⟨{ cmdBuf [0, 0, 0, 0, 15, 0, 1, 0, 0, 0] with ch := 15 }, ((owns (host 2)).put F.SEC_AUTH_GRANT 8), _, _, _, _, _, 0, by decide +kernel, rfl, rfl, rfl, rfl, rfl, by decide +kernel⟩,
   ⟨(cmd [1]), ((host 2).setSession 3 ⟨true, 1, 0, [], 15, 0, 0, 0⟩), _, 3, by decide +kernel, rfl, by decide +kernel⟩,
   ⟨(cmd []), (host 2), _, by decide +kernel, rfl, by decide +kernel⟩⟩

/-- The conditions of each clause of DebugPortCompletes are met. -/
theorem witness_DebugPortCompletes :
    (∃ (purpose : Byte) (level : Byte) (s : State), (s.tapSec = true)) ∧
    (∃ (level : Fin 4) (s : State), (s.tapSec = true)) ∧
    (∃ (s : State), (s.tapUp = true)) ∧
    (∃ (s : State), (s.tapUp = true)) ∧
    (∃ (s : State), (s.tapUp = true)) ∧
    (∃ (s : State), (s.tapUp = true)) ∧
    (∃ (core : Fin 17) (a : Nat) (s : State), (s.fld F.SEC_DBG_LEVEL = 2) ∧ (s.tapUp = true)) ∧
    (∃ (core : Fin 17) (op : DebugOp) (s : State), (op = .halt ∨ op = .step) ∧ (s.fld F.SEC_DBG_LEVEL = 2) ∧ (s.tapUp = true) ∧ (s.carriesSpeed core = false)) ∧
    (∃ (s : State), (s.tapUp = true)) :=
  ⟨⟨0, 0, live, by decide +kernel⟩,
   ⟨3, live, by decide +kernel⟩,
   ⟨live, by decide +kernel⟩,
   ⟨live, by decide +kernel⟩,
   ⟨live, by decide +kernel⟩,
   ⟨live, by decide +kernel⟩,
   ⟨16, 0, (live.put F.SEC_DBG_LEVEL 2), by decide +kernel⟩,
   ⟨16, .step, (live.put F.SEC_DBG_LEVEL 2), by decide +kernel⟩,
   ⟨live, by decide +kernel⟩⟩

/-- The conditions of each clause of BasinEventsComplete are met. -/
theorem witness_BasinEventsComplete :
    (∃ (p : Fin 48) (v : Word) (s : State), (s.islandsRun = true)) ∧
    (∃ (n : Fin 4) (adv : Nat) (s : State) (t : State), (s.islandsRun = true) ∧ (t = s.runOn adv) ∧ (s.fld (F.BSN_SCFG_CSRC n) = 3)) ∧
    (∃ (n : Fin 4) (adv : Nat) (s : State) (t : State) (u : State) (ds : _), (s.islandsRun = true) ∧ (s.fld (F.BSN_SCFG_CSRC n) ≠ 3) ∧ ((s.cap n).due = none :: ds) ∧ (t = s.runOn (Nat.max adv (0 - s.tuCnt))) ∧ (u = t.modCap n (fun x => { x with due := ds }))) ∧
    (∃ (n : Fin 4) (adv : Nat) (s : State) (t : State) (u : State) (d : _) (ds : _), (s.islandsRun = true) ∧ (s.fld (F.BSN_SCFG_CSRC n) ≠ 3) ∧ ((s.cap n).due = some d :: ds) ∧ (t = s.runOn (Nat.max adv (d - s.tuCnt))) ∧ (u = t.modCap n (fun x => { x with due := ds }))) ∧
    (∃ (n : Fin 4) (adv : Nat) (s : State), (s.islandsRun = true) ∧ (s.fld (F.BSN_SCFG_CSRC n) ≠ 3) ∧ ((s.cap n).due = [])) ∧
    (∃ (n : Fin 4) (s : State) (a : State) (b : State) (t : State) (r : _) (rs : _), (s.clocked = true) ∧ ((s.cap n).left = []) ∧ ((s.cap n).queue = r :: rs) ∧ (a = (s.modCap n (fun x => { x with queue := rs })).wrBytes r.addr (r.words.flatMap (fun w => leBytes 4 w.toNat))) ∧ (b = a.put (F.BSN_SWR_CNT n) (a.fld (F.BSN_SWR_CNT n) + 1)) ∧ (t = (b.put (F.BSN_SQUE_QUE n) (b.fld (F.BSN_SQUE_QUE n) - 1)).capCheck n)) ∧
    (∃ (n : Fin 4) (s : State) (r : _) (rs : _), (s.clocked = true) ∧ ((s.cap n).left = r :: rs)) ∧
    (∃ (n : Fin 4) (s : State) (t : State) (e : _) (es : _), (s.islandsRun = true) ∧ ((s.cap n).samples = e :: es) ∧ (t = s.modCap n (fun x => { x with samples := es })) ∧ (t.capState n = csWaiting) ∧ (e.filling = false) ∧ (e.met ≠ 0) ∧ (t.fld (F.BSN_SPRE_PRE n) ≤ e.index)) ∧
    (∃ (n : Fin 4) (s : State) (e : _) (es : _), (s.islandsRun = true) ∧ ((s.cap n).samples = e :: es) ∧ (e.met = 0)) ∧
    (∃ (n : Fin 4) (s : State) (t : State) (u : State) (left : _) (b : _) (k : _), (s.clocked = true) ∧ (s.capState n = csDone) ∧ (left = s.streamLen n - (s.cap n).fill) ∧ (left ≠ 0) ∧ ((s.cap n).staged.length < 8) ∧ (s.alloc (0x50 + n.val) = some (b, t)) ∧ (k = Nat.min 256 left) ∧ (u = t.sharedAccess (fun t => t.wrBytes (bufBase b) ((List.range k).map (fun i => s.streamByte n ((s.cap n).fill + i)))))) ∧
    (∃ (n : Fin 4) (s : State), (s.capState n ≠ csDone)) ∧
    (∃ (near : Bool) (low : Bool) (s : State), (s.cascOn = true)) ∧
    (∃ (s : State), (s.cascOn = true)) ∧
    (∃ (s : State) (t : State), (s.islandsRun = true) ∧ (s.startNext 3 0 = true) ∧ (t = s.takeStart 3 0) ∧ (t.flag F.BSN_CCFG_EN = true) ∧ (t.flag F.BSN_CSTAT_LOCK = true) ∧ (t.casc.lows = 0) ∧ (2 ≤ t.casc.highs)) ∧
    (∃ (m : Moment) (s : State) (t : State) (u : State), (s.cascOn = true) ∧ (s.flag F.BSN_CSTAT_LOCK = true) ∧ (s.casc.lows = 2) ∧ (2 ≤ s.casc.highs) ∧ (t = (s.runOn m.adv).withCasc { s.casc with highs := 0 }) ∧ (u = (if t.flag F.BSN_CCFG_OUTEN then (t.cascPulse (t.fld F.BSN_CCFG_OUTLINE) (t.nsAt m.back)).incMod F.BSN_CSTAT_RXCNT else t))) ∧
    (∃ (s : State), (s.cascOn = true)) ∧
    (∃ (s : State), (s.cascOn = true) ∧ (s.flag F.BSN_CCFG_MASTER = true)) ∧
    (∃ (r : Nat) (s : State), (s.islandsRun = true) ∧ (s.flag F.BSN_CSTAT_PINGBUSY = true) ∧ (s.casc.rtts.length < 15)) ∧
    (∃ (s : State), (s.islandsRun = true) ∧ (s.flag F.BSN_CSTAT_PINGBUSY = true)) ∧
    (∃ (rtt : Option Nat) (s : State), (s.islandsRun = true) ∧ (s.flag F.BSN_CSTAT_PINGBUSY = true)) ∧
    (∃ (r : Nat) (s : State) (t : State) (l : _), (s.islandsRun = true) ∧ (s.flag F.BSN_CSTAT_PINGBUSY = true) ∧ (l = r :: s.casc.rtts) ∧ (16 ≤ l.length) ∧ (t = s.put F.BSN_CSTAT_SPREAD (Nat.min (l.foldl Nat.max 0 - l.foldl Nat.min r) 255)) ∧ (l.foldl Nat.max 0 - l.foldl Nat.min r ≤ 13)) :=
  ⟨⟨47, 0, live, by decide +kernel⟩,
   ⟨3, 1000, ((live.put (F.BSN_SSTAT_STATE 3) csFilling).put (F.BSN_SCFG_CSRC 3) 3), _, by decide +kernel, rfl, by decide +kernel⟩,
   ⟨3, 1000, (live.modCap 3 (fun x => { x with due := [none] })), _, _, [], by decide +kernel, by decide +kernel, rfl, rfl, rfl⟩,
   ⟨3, 1000, (live.modCap 3 (fun x => { x with due := [some 400] })), _, _, 400, [], by decide +kernel, by decide +kernel, by decide +kernel, rfl, rfl⟩,
   ⟨3, 1000, live, by decide +kernel⟩,
   ⟨3, (live.modCap 3 (fun x => { x with queue := [⟨0, 0x201FFFC0, [1]⟩] })), _, _, _, ⟨0, 0x201FFFC0, [1]⟩, [], by decide +kernel, by decide +kernel, rfl, rfl, rfl, rfl⟩,
   ⟨3, (live.modCap 3 (fun x => { x with left := [⟨0, 0x20000000, [1]⟩] })), ⟨0, 0x20000000, [1]⟩, [], by decide +kernel, rfl⟩,
   ⟨3, ((live.modCap 3 (fun x => { x with samples := [⟨8, 0, 5, 0, 0, false⟩] })).put (F.BSN_SSTAT_STATE 3) csWaiting), _, ⟨8, 0, 5, 0, 0, false⟩, [], by decide +kernel, rfl, rfl, by decide +kernel⟩,
   ⟨3, (live.modCap 3 (fun x => { x with samples := [⟨0, 0, 5, 0, 0, false⟩] })), ⟨0, 0, 5, 0, 0, false⟩, [], by decide +kernel, rfl, by decide +kernel⟩,
   ⟨3, (live.put (F.BSN_SSTAT_STATE 3) csDone), _, _, _, _, _, by decide +kernel, by decide +kernel, rfl, by decide +kernel, by decide +kernel, rfl, rfl, rfl⟩,
   ⟨3, live, by decide +kernel⟩,
   ⟨true, true, (live.put F.BSN_CCFG_EN 1), by decide +kernel⟩,
   ⟨(live.put F.BSN_CCFG_EN 1), by decide +kernel⟩,
   ⟨(((((live.put F.BSN_CCFG_EN 1).put F.BSN_CCFG_INEN 1).put F.BSN_CSTAT_LOCK 1).withCasc { live.casc with highs := 2 }).withWeir { live.weir with starts := [[(3, 0)]] }), _, by decide +kernel, by decide +kernel, rfl, by decide +kernel⟩,
   ⟨⟨0, 0⟩, ((((live.put F.BSN_CCFG_EN 1).put F.BSN_CCFG_INEN 1).put F.BSN_CSTAT_LOCK 1).withCasc { live.casc with highs := 2, lows := 2 }), _, _, by decide +kernel, by decide +kernel, by decide +kernel, by decide +kernel, rfl, rfl⟩,
   ⟨(live.put F.BSN_CCFG_EN 1), by decide +kernel⟩,
   ⟨((live.put F.BSN_CCFG_EN 1).put F.BSN_CCFG_MASTER 1), by decide +kernel⟩,
   ⟨20, (((live.put F.BSN_CCFG_EN 1).put F.BSN_CSTAT_PINGBUSY 1)), by decide +kernel⟩,
   ⟨(((live.put F.BSN_CCFG_EN 1).put F.BSN_CSTAT_PINGBUSY 1)), by decide +kernel⟩,
   ⟨(some 20), (((live.put F.BSN_CCFG_EN 1).put F.BSN_CSTAT_PINGBUSY 1)), by decide +kernel⟩,
   ⟨20, (((live.put F.BSN_CCFG_EN 1).put F.BSN_CSTAT_PINGBUSY 1).withCasc { live.casc with rtts := List.replicate 15 20 }), _, _, by decide +kernel, by decide +kernel, rfl, by decide +kernel, rfl, by decide +kernel⟩⟩

/-- The conditions of each clause of AcquisitionCommandsComplete are met. -/
theorem witness_AcquisitionCommandsComplete :
    (∃ (c : HostCmd) (s : State) (u : State) (p : _) (v : _) (t : _), (s.serves 0x30 c = true) ∧ (u = s.atStep8 0x30 c) ∧ (p = arg c 0 1) ∧ (v = arg c 1 4) ∧ (t = v / 2 ^ 27 % 16) ∧ (u.captureMode = true) ∧ ((decide (p < 48) && u.probeInUse p) = false) ∧ (¬ (47 < p)) ∧ (v % 2 ^ 17 = 0) ∧ (¬ (8 < t)) ∧ ((t != 0 && decide (probeCount t ≤ v / 2 ^ 21 % 64)) = false)) ∧
    (∃ (c : HostCmd) (s : State) (u : State) (v : State) (w : State) (x : State) (n : _) (scfg : _) (sdiv : _) (base : _) (len : _) (pre : _) (post : _) (lo : _) (hi : _) (clash : _), (s.serves 0x31 c = true) ∧ (u = s.atStep8 0x31 c) ∧ (n = arg c 0 1) ∧ (scfg = arg c 1 4) ∧ (sdiv = arg c 5 4) ∧ (base = arg c 9 2) ∧ (len = arg c 11 3) ∧ (pre = arg c 14 3) ∧ (post = arg c 17 3) ∧ (lo = 64 * base) ∧ (hi = lo + len * recBytes (scfg / 2 ^ 27) (scfg / 2 ^ 16 % 256)) ∧ (clash = [0, 1, 2, 3].any (fun m => m != n && decide (lo < (u.capRegion m).2) && decide ((u.capRegion m).1 < hi))) ∧ (u.captureMode = true) ∧ (n ≤ 3) ∧ (u.capState n = csIdle) ∧ (base < 2 ^ 15) ∧ (len < 2 ^ 20) ∧ (pre < len) ∧ (post ≤ len - pre) ∧ (u.clockOk scfg sdiv = true) ∧ (hi ≤ basinSize) ∧ (clash = false) ∧ (v = (u.wr (R.BSN_SCFG n) (BitVec.ofNat 32 (scfg - scfg % 128 - (scfg / 2 ^ 24 % 8) * 2 ^ 24))).wr (R.BSN_SDIV n) (BitVec.ofNat 32 sdiv)) ∧ (w = (v.put (F.BSN_SBASE_BASE n) base).put (F.BSN_SLEN_LEN n) len) ∧ (x = (w.put (F.BSN_SPRE_PRE n) pre).put (F.BSN_SPOST_POST n) post)) ∧
    (∃ (c : HostCmd) (s : State) (u : State) (n : _), (s.serves 0x32 c = true) ∧ (u = s.atStep8 0x32 c) ∧ (n = arg c 0 1) ∧ (u.captureMode = true) ∧ (n ≤ 3) ∧ (u.capState n = csIdle) ∧ ((∀ j < 4, (arg c (1 + 8 * j) 4 / 2 ^ 29 % 4 = 0 → arg c (1 + 8 * j) 4 / 2 ^ 21 % 64 ≤ 47) ∧ (arg c (1 + 8 * j) 4 / 2 ^ 29 % 4 = 1 → arg c (1 + 8 * j) 4 / 2 ^ 21 % 64 ≤ 31)))) ∧
    (∃ (c : HostCmd) (s : State) (u : State) (m : _), (s.serves 0x33 c = true) ∧ (u = s.atStep8 0x33 c) ∧ (m = arg c 0 1) ∧ (u.captureMode = true) ∧ ((setsOf m).any (fun n => u.capArmed n || u.fld (F.BSN_SCFG_CSRC n) == 0) = false) ∧ (¬ (15 < m)) ∧ ((setsOf m).any (fun n => decide (u.fld (F.BSN_SLEN_LEN n) < u.fld (F.BSN_SPRE_PRE n) + u.fld (F.BSN_SPOST_POST n))) = false)) ∧
    (∃ (c : HostCmd) (s : State) (u : State), (s.serves 0x34 c = true) ∧ (u = s.atStep8 0x34 c) ∧ (u.captureMode = true)) ∧
    (∃ (c : HostCmd) (s : State) (u : State) (l : _), (s.serves 0x35 c = true) ∧ (u = s.atStep8 0x35 c) ∧ (l = setsOf (arg c 0 1)) ∧ (u.captureMode = true) ∧ (l.any (fun n => u.capState n != csWaiting) = false)) ∧
    (∃ (c : HostCmd) (s : State) (u : State) (n : _), (s.serves 0x36 c = true) ∧ (u = s.atStep8 0x36 c) ∧ (n = arg c 0 1) ∧ (u.captureMode = true) ∧ (¬ (3 < n))) ∧
    (∃ (c : HostCmd) (s : State) (u : State) (t : State) (n : _) (out : _) (off : _) (len : _) (fst : _), (s.serves 0x37 c = true) ∧ (u = s.atStep8 0x37 c) ∧ (n = arg c 0 1) ∧ (u.captureMode = true) ∧ (n ≤ 3) ∧ (u.capState n = csDone) ∧ (out = (u.cap n).staged.take 4) ∧ (out.getLast? = some (fst, off, len)) ∧ (u.passBufs c.ch.val (0x50 + n) (out.map (fun x => x.1)) = some t)) ∧
    (∃ (c : HostCmd) (s : State) (u : State) (v : _), (s.serves 0x38 c = true) ∧ (u = s.atStep8 0x38 c) ∧ (v = arg c 0 4) ∧ (u.inModes [2, 4, 9] = true) ∧ (v / 2 % 2 ^ 16 = 0)) ∧
    (∃ (c : HostCmd) (s : State) (u : State), (s.serves 0x39 c = true) ∧ (u = s.atStep8 0x39 c) ∧ (u.inModes [2, 4, 9] = true) ∧ (u.flag F.BSN_CCFG_MASTER = false) ∧ (u.flag F.BSN_CCFG_EN = true) ∧ (u.flag F.BSN_CSTAT_PINGBUSY = false)) ∧
    (∃ (c : HostCmd) (s : State) (u : State), (s.serves 0x3A c = true) ∧ (u = s.atStep8 0x3A c) ∧ (u.captureMode = true)) :=
  ⟨⟨(cmd []), (host 2), _, _, _, _, by decide +kernel, rfl, rfl, rfl, rfl, by decide +kernel⟩,
   ⟨(cmd ([3] ++ List.replicate 8 0 ++ [0xFF, 0x7F, 4, 0, 0, 3, 0, 0, 1, 0, 0])), (host 10), _, _, _, _, _, _, _, _, _, _, _, _, _, _, by decide +kernel, rfl, rfl, rfl, rfl, rfl, rfl, rfl, rfl, rfl, rfl, rfl, by decide +kernel, by decide +kernel, by decide +kernel, by decide +kernel, (by decide +kernel), by decide +kernel, by decide +kernel, by decide +kernel, by decide +kernel, rfl, rfl, rfl, rfl⟩,
   ⟨(cmd []), (host 2), _, _, by decide +kernel, rfl, rfl, by decide +kernel⟩,
   ⟨(cmd []), (host 2), _, _, by decide +kernel, rfl, rfl, by decide +kernel⟩,
   ⟨(cmd []), (host 2), _, by decide +kernel, rfl, by decide +kernel⟩,
   ⟨(cmd []), (host 2), _, _, by decide +kernel, rfl, rfl, by decide +kernel⟩,
   ⟨(cmd []), (host 2), _, _, by decide +kernel, rfl, rfl, by decide +kernel⟩,
   ⟨(cmd [3]), ((((host 10).modCap 3 (fun x => { x with staged := [(2047, 0, 64)] })).put (F.BSN_SSTAT_STATE 3) csDone).put (ownerFld 2047) 0x53), _, _, _, _, _, _, _, by decide +kernel, rfl, rfl, by decide +kernel, by decide +kernel, by decide +kernel, rfl, rfl, rfl⟩,
   ⟨(cmd []), (host 2), _, _, by decide +kernel, rfl, rfl, by decide +kernel⟩,
   ⟨(cmd []), ((host 9).put F.BSN_CCFG_EN 1), _, by decide +kernel, rfl, by decide +kernel⟩,
   ⟨(cmd []), (host 2), _, by decide +kernel, rfl, by decide +kernel⟩⟩

/-- The conditions of each clause of NetworkEventsComplete are met. -/
theorem witness_NetworkEventsComplete :
    (∃ (v : Word) (adv : Nat) (s : State), (s.netRuns = true)) ∧
    (∃ (adv : Nat) (s : State), (s.netRuns = true)) ∧
    (∃ (adv : Nat) (s : State), (s.netRuns = true ∨ s.curMode = modeStandby)) ∧
    (∃ (adv : Nat) (s : State) (t : State) (due : _), (s.netRuns = true) ∧ (s.flag F.TU_CTRL_GRIDEN = true) ∧ (t = s.tuAdvance adv) ∧ (due = t.tickAt t.gridNext) ∧ (due < t.net.gridFrom + 400)) ∧
    (∃ (adv : Nat) (s : State) (t : State) (due : _), (s.netRuns = true) ∧ (s.flag F.TU_CTRL_GRIDEN = true) ∧ (t = s.tuAdvance adv) ∧ (due = t.tickAt t.gridNext) ∧ (t.net.gridFrom + 400 ≤ due) ∧ (t.tuCnt + 400 ≤ due)) ∧
    (∃ (p : Fin 4) (bytes : List Byte) (bad : Bool) (full : Nat) (stamp : Moment) (s : State) (t : State) (raw : _), (s.netRuns = true) ∧ (s.flag (F.SW_PCFG_EN p) = true) ∧ ((s.runOn stamp.adv).macStamp p stamp.back = (raw, t)) ∧ (bad = true ∨ bytes.length < 60 ∨ 1518 < bytes.length)) ∧
    (∃ (p : Fin 4) (bytes : List Byte) (full : Nat) (stamp : Moment) (s : State) (t : State) (raw : _), (s.netRuns = true) ∧ (s.flag (F.SW_PCFG_EN p) = true) ∧ ((s.runOn stamp.adv).macStamp p stamp.back = (raw, t)) ∧ (60 ≤ bytes.length ∧ bytes.length ≤ 1518) ∧ (gptpLocal bytes = false)) ∧
    (∃ (p : Fin 4) (stamp : Moment) (s : State) (t : State) (u : State) (f : _) (ratio : _) (d : _) (raw : _), (s.netRuns = true) ∧ (s.txHead p = some f) ∧ (f.relay = some (ratio, d)) ∧ (f.evt = none) ∧ ((s.runOn stamp.adv).macStamp p stamp.back = (raw, t)) ∧ (u = (t.withNet { t.net with txq := t.net.txq.erase f }).freeSent f.bufs)) ∧
    (∃ (p : Fin 4) (stamp : Moment) (s : State) (t : State) (u : State) (f : _) (raw : _), (s.netRuns = true) ∧ (s.txHead p = some f) ∧ (f.relay = none) ∧ (f.inPort = 4) ∧ (f.evt = none) ∧ ((s.runOn stamp.adv).macStamp p stamp.back = (raw, t)) ∧ (u = (t.withNet { t.net with txq := t.net.txq.erase f }).freeSent f.bufs)) ∧
    (∃ (p : Fin 4) (stamp : Moment) (s : State) (t : State) (u : State) (v : State) (f : _) (raw : _) (seq : _) (bytes : _) (kept : _), (s.netRuns = true) ∧ (s.txHead p = some f) ∧ (f.relay = none) ∧ (f.inPort = 4) ∧ (f.evt = some (0, seq)) ∧ ((s.runOn stamp.adv).macStamp p stamp.back = (raw, t)) ∧ (bytes = setOrigin f.bytes (typeAt f.bytes + 2) (raw + t.egLat p)) ∧ (u = (t.withNet { t.net with txq := t.net.txq.erase f }).freeSent f.bufs) ∧ ((u.withNet { u.net with wire := some (p.val, bytes) }).pushStamp p true 0 seq (raw + t.egLat p) = (kept, v))) ∧
    (∃ (mac : BitVec 48) (s : State), (s.netRuns = true)) ∧
    (∃ (p : Fin 4) (up : Bool) (s : State), ((s.netRuns || (s.curMode == modeStandby && p == 2)) = true)) ∧
    (∃ (s : State) (t : State) (f : _), (s.netRuns = true) ∧ (s.txHead 4 = some f) ∧ (t = s.withNet { s.net with txq := s.net.txq.erase f }) ∧ (t.portAction f.bytes = 0)) ∧
    (∃ (s : State) (t : State) (f : _), (s.netRuns = true) ∧ (s.txHead 4 = some f) ∧ (t = s.withNet { s.net with txq := s.net.txq.erase f }) ∧ (t.portAction f.bytes ≠ 0) ∧ (t.frameBufs 0x40 f.bytes = none)) ∧
    (∃ (s : State) (t : State) (u : State) (f : _) (bs : _), (s.netRuns = true) ∧ (s.txHead 4 = some f) ∧ (t = s.withNet { s.net with txq := s.net.txq.erase f }) ∧ (t.frameBufs 0x40 f.bytes = some (bs, u)) ∧ (t.portAction f.bytes = 1)) ∧
    (∃ (s : State) (t : State) (u : State) (f : _) (bs : _) (a : _), (s.netRuns = true) ∧ (s.txHead 4 = some f) ∧ (t = s.withNet { s.net with txq := s.net.txq.erase f }) ∧ (t.frameBufs 0x40 f.bytes = some (bs, u)) ∧ (t.portAction f.bytes = 2) ∧ (udpAt f.bytes = some a)) ∧
    (∃ (port : BitVec 16) (src : BitVec 32) (bytes : List Byte) (s : State), (s.netRuns = true) ∧ (s.supRuns = true) ∧ ((s.takeRx bytes).vmOf port.toNat = none)) ∧
    (∃ (port : BitVec 16) (src : BitVec 32) (bytes : List Byte) (s : State) (t : State) (k : _), (s.netRuns = true) ∧ (s.supRuns = true) ∧ (t = s.takeRx bytes) ∧ (t.vmOf port.toNat = some k) ∧ (src.toNat ≠ (t.vmBind k).src ∨ bytes.length ≠ 24 ∨ numAt bytes 0 2 ≠ 0x7E17 ∨ numAt bytes 2 2 < (t.vmBind k).next)) ∧
    (∃ (port : BitVec 16) (src : BitVec 32) (bytes : List Byte) (s : State) (t : State) (u : State) (k : _), (s.netRuns = true) ∧ (s.supRuns = true) ∧ (t = s.takeRx bytes) ∧ (t.vmOf port.toNat = some k) ∧ (src.toNat = (t.vmBind k).src) ∧ (bytes.length = 24) ∧ (numAt bytes 0 2 = 0x7E17) ∧ ((t.vmBind k).next ≤ numAt bytes 2 2) ∧ (u = t.setVmBind k { t.vmBind k with next := numAt bytes 2 2 + 1 }) ∧ (u.islandsRun = true)) ∧
    (∃ (bytes : List Byte) (s : State), (beAt bytes 0 6 = s.macAddr ∨ beAt bytes 0 6 = 0xFFFFFFFFFFFF) ∧ (beAt bytes 12 2 = 0x88B5) ∧ (19 ≤ bytes.length) ∧ (numAt bytes 14 4 = (s.rd R.SW_WAKEKEY).toNat) ∧ (numAt bytes 18 1 = s.fld F.STRAP_VAL_NODEID ∨ numAt bytes 18 1 = 0xFF)) ∧
    (∃ (p : Fin 4) (bytes : List Byte) (stamp : Moment) (origin : Int) (s : State) (t : State) (u : State) (v : State) (h : _) (raw : _) (bs : _) (kept : _), (h = typeAt bytes + 2) ∧ (s.netRuns = true) ∧ (s.supRuns = true) ∧ (s.flag (F.SW_PCFG_EN p) = true) ∧ (isGptp bytes = true) ∧ (beAt bytes (h + 4) 1 = 0) ∧ ((s.runOn stamp.adv).macStamp p stamp.back = (raw, t)) ∧ (t.rxOwn bytes = some (bs, u)) ∧ (u.role p = roleSlave) ∧ ((u.relaySync p bytes h origin (raw - u.inLat p)).pushStamp p false 0 (beAt bytes (h + 30) 2) (raw - u.inLat p) = (kept, v))) ∧
    (∃ (p : Fin 4) (bytes : List Byte) (stamp : Moment) (origin : Int) (s : State) (t : State) (u : State) (v : State) (h : _) (raw : _) (bs : _) (kept : _), (h = typeAt bytes + 2) ∧ (s.netRuns = true) ∧ (s.supRuns = true) ∧ (s.flag (F.SW_PCFG_EN p) = true) ∧ (isGptp bytes = true) ∧ (beAt bytes (h + 4) 1 = 0) ∧ ((s.runOn stamp.adv).macStamp p stamp.back = (raw, t)) ∧ (t.rxOwn bytes = some (bs, u)) ∧ (u.role p ≠ roleSlave) ∧ (u.pushStamp p false 0 (beAt bytes (h + 30) 2) (raw - u.inLat p) = (kept, v))) ∧
    (∃ (s : State), (s.netRuns = true) ∧ (s.supRuns = true) ∧ ([0, 1, 2, 3].any (fun p => s.role p == roleSlave) = true)) ∧
    (∃ (p : Fin 4) (sequence : BitVec 16) (stamp : Moment) (s : State) (t : State) (r : State) (u : State) (raw : _) (bs : _) (kept : _), (s.netRuns = true) ∧ (s.supRuns = true) ∧ (s.flag (F.SW_PCFG_EN p) = true) ∧ ((s.runOn stamp.adv).macStamp p stamp.back = (raw, t)) ∧ (t.rxOwn [] = some (bs, r)) ∧ (r.pushStamp p false 2 sequence.toNat (raw - r.inLat p) = (kept, u))) ∧
    (∃ (p : Fin 4) (s : State) (t : State), (s.netRuns = true) ∧ (s.supRuns = true) ∧ (s.flag (F.SW_PCFG_EN p) = true) ∧ (t = State.setLinkDelay (s.withNet { s.net with seq := (s.net.seq + 1) % 65536 }) p { (s.withNet { s.net with seq := (s.net.seq + 1) % 65536 }).linkDelay p with req := none })) ∧
    (∃ (p : Fin 4) (kind : Fin 3) (s : State) (t : State), (s.netRuns = true) ∧ (s.supRuns = true) ∧ (s.flag (F.SW_PCFG_EN p) = true) ∧ (kind ≠ 0) ∧ (s.net.grandmaster = true) ∧ (s.role p = roleMaster) ∧ (t = s.withNet { s.net with seq := (s.net.seq + 1) % 65536 })) ∧
    (∃ (p : Fin 4) (sequence : BitVec 16) (stamp : Moment) (t2 : Int) (t3 : Int) (s : State) (t : State) (x : State) (u : State) (raw : _) (bs : _) (kept : _) (q : _) (t1 : _) (r : _), (s.netRuns = true) ∧ (s.supRuns = true) ∧ (s.flag (F.SW_PCFG_EN p) = true) ∧ ((s.runOn stamp.adv).macStamp p stamp.back = (raw, t)) ∧ (t.rxOwn [] = some (bs, x)) ∧ (x.pushStamp p false 3 sequence.toNat (raw - x.inLat p) = (kept, u)) ∧ ((u.linkDelay p).req = some (q, t1)) ∧ (r = Config.linkDelay [t1, t2, t3, raw - x.inLat p, sgn 32 (u.fld (F.SW_PASYM_ASYM p))] (u.linkDelay p).ratio)) ∧
    (∃ (p : Fin 4) (bytes : List Byte) (s : State) (t : State) (bs : _), (s.netRuns = true) ∧ (s.supRuns = true) ∧ (s.flag (F.SW_PCFG_EN p) = true) ∧ (s.rxOwn bytes = some (bs, t))) ∧
    (∃ (p : Fin 4) (bytes : List Byte) (s : State), (s.netRuns = true) ∧ (s.supRuns = true) ∧ (s.flag (F.SW_PCFG_EN p) = true) ∧ (s.rxOwn bytes = none)) :=
  ⟨⟨0, 0, live, by decide +kernel⟩,
   ⟨0, live, by decide +kernel⟩,
   ⟨0, live, by decide +kernel⟩,
   ⟨0, ((live.put F.TU_CTRL_GRIDEN 1).withNet { live.net with gridFrom := 1000000000 }), _, _, by decide +kernel, by decide +kernel, rfl, rfl, by decide +kernel⟩,
   ⟨0, (live.put F.TU_CTRL_GRIDEN 1), _, _, by decide +kernel, by decide +kernel, rfl, rfl, by decide +kernel⟩,
   ⟨3, [], true, 0, ⟨0, 0⟩, (live.put (F.SW_PCFG_EN 3) 1), _, _, by decide +kernel, by decide +kernel, rfl, by decide +kernel⟩,
   ⟨3, (List.replicate 60 0), 0, ⟨0, 0⟩, (live.put (F.SW_PCFG_EN 3) 1), _, _, by decide +kernel, by decide +kernel, rfl, by decide +kernel⟩,
   ⟨3, ⟨0, 0⟩, (live.withNet { live.net with txq := [⟨3, 0, [1], 0, 0, [2047], none, some (1, 0)⟩] }), _, _, ⟨3, 0, [1], 0, 0, [2047], none, some (1, 0)⟩, 1, 0, _, by decide +kernel, by decide +kernel, rfl, by decide +kernel, rfl, rfl⟩,
   ⟨3, ⟨0, 0⟩, (live.withNet { live.net with txq := [⟨3, 0, [1], 4, 0, [2047], none, none⟩] }), _, _, ⟨3, 0, [1], 4, 0, [2047], none, none⟩, _, by decide +kernel, by decide +kernel, by decide +kernel, by decide +kernel, (by decide +kernel), rfl, rfl⟩,
   ⟨3, ⟨0, 0⟩, (live.withNet { live.net with txq := [⟨3, 0, (List.replicate 12 0 ++ [0x88, 0xF7, 0x10] ++ List.replicate 45 0), 4, 0, [2047], some (0, 0), none⟩] }), _, _, _, ⟨3, 0, (List.replicate 12 0 ++ [0x88, 0xF7, 0x10] ++ List.replicate 45 0), 4, 0, [2047], some (0, 0), none⟩, _, 0, _, _, by decide +kernel, by decide +kernel, by decide +kernel, by decide +kernel, rfl, rfl, rfl, rfl, rfl⟩,
   ⟨0, live, by decide +kernel⟩,
   ⟨3, true, live, by decide +kernel⟩,
   ⟨(live.withNet { live.net with txq := [⟨4, 0, List.replicate 64 0, 0, 0, [], none, none⟩] }), _, ⟨4, 0, List.replicate 64 0, 0, 0, [], none, none⟩, by decide +kernel, by decide +kernel, rfl, by decide +kernel⟩,
   ⟨((live.withNet { live.net with txq := [⟨4, 0, (List.replicate 12 0 ++ [8, 6] ++ List.replicate 7 0 ++ [1] ++ List.replicate 40 0), 0, 0, [], none, none⟩] }).put (F.MBX_RSVQ_CAP 2) 0), _, ⟨4, 0, (List.replicate 12 0 ++ [8, 6] ++ List.replicate 7 0 ++ [1] ++ List.replicate 40 0), 0, 0, [], none, none⟩, by decide +kernel, by decide +kernel, rfl, by decide +kernel⟩,
   ⟨(live.withNet { live.net with txq := [⟨4, 0, (List.replicate 12 0 ++ [8, 6] ++ List.replicate 7 0 ++ [1] ++ List.replicate 40 0), 0, 0, [], none, none⟩] }), _, _, ⟨4, 0, (List.replicate 12 0 ++ [8, 6] ++ List.replicate 7 0 ++ [1] ++ List.replicate 40 0), 0, 0, [], none, none⟩, [0], by decide +kernel, by decide +kernel, rfl, rfl, by decide +kernel⟩,
   ⟨(State.setSession (live.withNet { live.net with txq := [⟨4, 0, (List.replicate 12 0 ++ [8, 0, 0x45] ++ List.replicate 8 0 ++ [17] ++ List.replicate 12 0 ++ (leBytes 2 sessionPort).reverse ++ [0, 8] ++ List.replicate 24 0), 0, 0, [], none, none⟩] }) 3 ⟨true, 1, 0, [], 0, 0, 0, 0⟩), _, _, ⟨4, 0, (List.replicate 12 0 ++ [8, 0, 0x45] ++ List.replicate 8 0 ++ [17] ++ List.replicate 12 0 ++ (leBytes 2 sessionPort).reverse ++ [0, 8] ++ List.replicate 24 0), 0, 0, [], none, none⟩, [0], 34, by decide +kernel, by decide +kernel, rfl, rfl, by decide +kernel⟩,
   ⟨0, 0, [], live, by decide +kernel⟩,
   ⟨65535, 1, [], (live.setVmBind 3 ⟨true, 65535, 2, 0, 0⟩), _, 3, by decide +kernel, by decide +kernel, rfl, by decide +kernel⟩,
   ⟨65535, 2, ([0x17, 0x7E, 0xFF, 0xFF] ++ List.replicate 20 0), (live.setVmBind 3 ⟨true, 65535, 2, 0xFFFF, 0⟩), _, _, 3, by decide +kernel, by decide +kernel, rfl, by decide +kernel, by decide +kernel, by decide +kernel, by decide +kernel, (by decide +kernel), rfl, by decide +kernel⟩,
   ⟨[255, 255, 255, 255, 255, 255, 0, 0, 0, 0, 0, 0, 0x88, 0xB5, 0, 0, 0, 0, 255], live, by decide +kernel⟩,
   ⟨3, (List.replicate 12 0 ++ [0x88, 0xF7, 0x10] ++ List.replicate 45 0), ⟨0, 0⟩, 0, ((live.put (F.SW_PCFG_EN 3) 1).withNet { live.net with roles := [0, 0, 0, roleSlave] }), _, _, _, _, _, _, _, rfl, by decide +kernel, by decide +kernel, by decide +kernel, by decide +kernel, (by decide +kernel), rfl, rfl, by decide +kernel, rfl⟩,
   ⟨3, (List.replicate 12 0 ++ [0x88, 0xF7, 0x10] ++ List.replicate 45 0), ⟨0, 0⟩, 0, (live.put (F.SW_PCFG_EN 3) 1), _, _, _, _, _, _, _, rfl, by decide +kernel, by decide +kernel, by decide +kernel, by decide +kernel, (by decide +kernel), rfl, rfl, by decide +kernel, rfl⟩,
   ⟨(live.withNet { live.net with roles := [0, 0, 0, 2] }), by decide +kernel⟩,
   ⟨3, 0, ⟨0, 0⟩, (live.put (F.SW_PCFG_EN 3) 1), _, _, _, _, _, _, by decide +kernel, by decide +kernel, by decide +kernel, rfl, rfl, rfl⟩,
   ⟨3, (live.put (F.SW_PCFG_EN 3) 1), _, by decide +kernel, by decide +kernel, by decide +kernel, rfl⟩,
   ⟨3, 2, ((live.put (F.SW_PCFG_EN 3) 1).withNet { live.net with grandmaster := true, roles := [0, 0, 0, roleMaster] }), _, by decide +kernel, by decide +kernel, by decide +kernel, by decide +kernel, (by decide +kernel), by decide +kernel, rfl⟩,
   ⟨3, 0, ⟨0, 0⟩, 0, 0, ((live.put (F.SW_PCFG_EN 3) 1).setLinkDelay 3 ⟨0, 0, some (0, 0)⟩), _, _, _, _, _, _, 0, 0, _, by decide +kernel, by decide +kernel, by decide +kernel, rfl, rfl, rfl, rfl, rfl⟩,
   ⟨3, [], (live.put (F.SW_PCFG_EN 3) 1), _, _, by decide +kernel, by decide +kernel, by decide +kernel, rfl⟩,
   ⟨3, (List.replicate 12 0 ++ [0x88, 0xF7, 0x10] ++ List.replicate 45 0), ((live.put (F.SW_PCFG_EN 3) 1).put (F.MBX_RSVQ_CAP 2) 0), by decide +kernel⟩⟩

/-- The conditions of each clause of NetworkCommandsComplete are met. -/
theorem witness_NetworkCommandsComplete :
    (∃ (c : HostCmd) (s : State) (u : State) (p : _) (spd : _), (s.serves 0x40 c = true) ∧ (u = s.atStep8 0x40 c) ∧ (p = arg c 0 1) ∧ (spd = arg c 2 1) ∧ (u.inModes netConfigModes = true) ∧ (¬ (3 < p)) ∧ (¬ (1 < arg c 1 1)) ∧ (¬ (2 < spd)) ∧ (¬ (4094 < arg c 3 2)) ∧ (arg c 3 2 ≠ 0)) ∧
    (∃ (c : HostCmd) (s : State) (u : State) (v : _), (s.serves 0x41 c = true) ∧ (u = s.atStep8 0x41 c) ∧ (v = arg c 0 1) ∧ (u.inModes netConfigModes = true) ∧ (¬ (15 < v)) ∧ (¬ (4094 < arg c 1 2)) ∧ (¬ (31 < arg c 3 1)) ∧ (¬ (31 < arg c 4 1))) ∧
    (∃ (c : HostCmd) (s : State) (u : State) (i : _) (mac : _) (e : _), (s.serves 0x42 c = true) ∧ (u = s.atStep8 0x42 c) ∧ (i = arg c 0 1) ∧ (mac = arg c 1 6) ∧ (e = (if arg c 8 1 == 1 then (true, mac, arg c 7 1) else (false, 0, 0))) ∧ (u.inModes netModes = true) ∧ (¬ (15 < i)) ∧ (¬ (31 < arg c 7 1)) ∧ (¬ (1 < arg c 8 1))) ∧
    (∃ (c : HostCmd) (s : State) (u : State) (inv : _), (s.serves 0x43 c = true) ∧ (u = s.atStep8 0x43 c) ∧ (inv = 2 ^ 32 - 1 - arg c 4 4) ∧ (u.inModes netConfigModes = true) ∧ ((inv &&& (inv + 1)) = 0)) ∧
    (∃ (c : HostCmd) (s : State) (u : State) (p : _), (s.serves 0x44 c = true) ∧ (u = s.atStep8 0x44 c) ∧ (p = arg c 0 1) ∧ (u.inModes netModes = true) ∧ (¬ (4 < p))) ∧
    (∃ (c : HostCmd) (s : State) (u : State) (r : _) (roles : _) (static : _) (lock : _) (step : _) (tmo : _), (s.serves 0x45 c = true) ∧ (u = s.atStep8 0x45 c) ∧ (r = arg c 4 4) ∧ (roles = (List.range 4).map (fun p => r / 4 ^ p % 4)) ∧ (static = r.testBit 8) ∧ (lock = arg c 8 1) ∧ (step = arg c 9 2) ∧ (tmo = arg c 11 1) ∧ (u.inModes netConfigModes = true) ∧ (¬ (255 < arg c 0 4)) ∧ (¬ (511 < r)) ∧ (lock ≠ 0) ∧ (step ≠ 0) ∧ (¬ (tmo < 2)) ∧ ((static && decide (1 < roles.countP (fun x => x == roleSlave))) = false)) ∧
    (∃ (c : HostCmd) (adv : Nat) (s : State) (u : State), (s.serves 0x46 c = true) ∧ (u = s.atStep8 0x46 c) ∧ (u.inModes netModes = true)) ∧
    (∃ (c : HostCmd) (s : State) (u : State), (s.serves 0x47 c = true) ∧ (u = s.atStep8 0x47 c) ∧ (u.inModes netConfigModes = true)) ∧
    (∃ (c : HostCmd) (adv : Nat) (s : State) (u : State) (per : _), (s.serves 0x48 c = true) ∧ (u = s.atStep8 0x48 c) ∧ (per = arg c 0 4) ∧ (u.inModes netConfigModes = true) ∧ (¬ (per < 1000)) ∧ (¬ (1000000000 < per)) ∧ (¬ (per ≤ arg c 4 4)) ∧ (¬ (1 < arg c 8 1))) ∧
    (∃ (c : HostCmd) (adv : Nat) (s : State) (u : State) (v : State), (s.serves 0x49 c = true) ∧ (u = s.atStep8 0x49 c) ∧ (u.inModes netModes = true) ∧ (v = u.tuAdvance adv) ∧ (v.timePassed (arg c 0 8) = false) ∧ (arg c 8 1 ≤ 1)) ∧
    (∃ (c : HostCmd) (s : State) (u : State) (p : _), (s.serves 0x4A c = true) ∧ (u = s.atStep8 0x4A c) ∧ (p = arg c 0 1) ∧ (u.inModes netConfigModes = true) ∧ (¬ (3 < p))) ∧
    (∃ (c : HostCmd) (s : State) (u : State) (k : _) (port : _) (on : _), (s.serves 0x4B c = true) ∧ (u = s.atStep8 0x4B c) ∧ (k = arg c 0 1) ∧ (port = arg c 1 4) ∧ (on = arg c 9 1) ∧ (u.inModes netConfigModes = true) ∧ (¬ (3 < k)) ∧ (¬ (65535 < port)) ∧ (port ≠ 0) ∧ (¬ (1 < on)) ∧ ((on == 1 && (port == sessionPort || [0, 1, 2, 3].any (fun j => j != k && (u.vmBind j).en && (u.vmBind j).port == port))) = false)) ∧
    (∃ (c : HostCmd) (s : State) (u : State), (s.serves 0x4C c = true) ∧ (u = s.atStep8 0x4C c) ∧ (u.inModes [modeConfigure, modeReady, modeSafeOff] = true)) :=
  ⟨⟨(cmd [3, 1, 0, 0xFE, 0x0F]), (host 9), _, _, _, by decide +kernel, rfl, rfl, rfl, by decide +kernel⟩,
   ⟨(cmd []), (host 2), _, _, by decide +kernel, rfl, rfl, by decide +kernel⟩,
   ⟨(cmd []), (host 2), _, _, _, _, by decide +kernel, rfl, rfl, rfl, rfl, by decide +kernel⟩,
   ⟨(cmd []), (host 2), _, _, by decide +kernel, rfl, rfl, by decide +kernel⟩,
   ⟨(cmd []), (host 2), _, _, by decide +kernel, rfl, rfl, by decide +kernel⟩,
   ⟨(cmd [255, 0, 0, 0, 255, 0, 0, 0, 1, 1, 0, 2]), (host 9), _, _, _, _, _, _, _, by decide +kernel, rfl, rfl, rfl, rfl, rfl, rfl, rfl, by decide +kernel⟩,
   ⟨(cmd []), 0, (host 2), _, by decide +kernel, rfl, by decide +kernel⟩,
   ⟨(cmd []), (host 2), _, by decide +kernel, rfl, by decide +kernel⟩,
   ⟨(cmd [0, 0xCA, 0x9A, 0x3B, 0xFF, 0xC9, 0x9A, 0x3B, 1]), 0, (host 9), _, _, by decide +kernel, rfl, rfl, by decide +kernel⟩,
   ⟨(cmd [1, 0, 0, 0, 0, 0, 0, 0, 1]), 0, (host 10), _, _, by decide +kernel, rfl, by decide +kernel, rfl, by decide +kernel⟩,
   ⟨(cmd []), (host 2), _, _, by decide +kernel, rfl, rfl, by decide +kernel⟩,
   ⟨(cmd [3, 0xFF, 0xFF, 0, 0, 0, 0, 0, 0, 1]), (host 9), _, _, _, _, by decide +kernel, rfl, rfl, rfl, rfl, by decide +kernel⟩,
   ⟨(cmd []), (host 2), _, by decide +kernel, rfl, by decide +kernel⟩⟩

/-- The conditions of each clause of CanEventsComplete are met. -/
theorem witness_CanEventsComplete :
    (∃ (n : Fin 8) (frame : CanFrame) (heard : CanHeard) (s : State) (t : State), (s.canOnBus n = true) ∧ (s.canMode n ≠ 2) ∧ (t = s.runOn heard.rx.sof.adv) ∧ ((frame.fdf && !t.flag (F.CAN_CFG_FDEN n)) = true)) ∧
    (∃ (n : Fin 8) (frame : CanFrame) (heard : CanHeard) (s : State) (t : State) (u : State), (s.canOnBus n = true) ∧ (s.canMode n ≠ 2) ∧ (t = s.runOn heard.rx.sof.adv) ∧ ((frame.fdf && !t.flag (F.CAN_CFG_FDEN n)) = false) ∧ (u = (if t.canMode n == 1 || t.fld (F.CAN_ERR_REC n) == 0 then t else t.setRec n (if decide (127 < t.fld (F.CAN_ERR_REC n)) then 127 else t.fld (F.CAN_ERR_REC n) - 1)))) ∧
    (∃ (n : Fin 8) (q : Fin 2) (s : State), (s.flag (F.CAN_QSTAT_LOCK n q) = true)) ∧
    (∃ (n : Fin 8) (s : State) (e : _) (es : _), ((s.can n).spills = e :: es)) ∧
    (∃ (n : Fin 8) (rx : CanRx) (s : State) (t : State) (v : State) (b : _) (ns : _), (t = s.canStart n) ∧ ((t.can n).sending = some b) ∧ (t.canMaySend n = true) ∧ (v = t.runOn rx.sof.adv) ∧ (ns = v.nsAt rx.sof.back)) ∧
    (∃ (n : Fin 8) (s : State) (t : State) (b : _), (t = s.canStart n) ∧ ((t.can n).sending = some b) ∧ (t.canMaySend n = true) ∧ ((t.can n).cancels.testBit b = false)) ∧
    (∃ (n : Fin 8) (s : State) (t : State) (b : _), (t = s.canStart n) ∧ ((t.can n).sending = some b) ∧ (t.canMaySend n = true) ∧ ((t.can n).cancels.testBit b = true)) ∧
    (∃ (n : Fin 8) (err : CanFail) (s : State) (t : State) (u : State) (v : State) (b : _), (t = s.canStart n) ∧ ((t.can n).sending = some b) ∧ (t.canMaySend n = true) ∧ ((t.can n).cancels.testBit b = false) ∧ (u = (t.inc (F.CAN_TXST_ATT n b)).put (F.CAN_STAT_LEC n) err.lec.toNat) ∧ (v = u.setTec n (u.fld (F.CAN_ERR_TEC n) + (if err.exempt && (err.lec == 1 || (err.lec == 3 && u.fld (F.CAN_ERR_STATE n) == canPassive)) then 0 else 8) + 8 * err.eights)) ∧ (255 < v.fld (F.CAN_ERR_TEC n) ∨ 16 ≤ v.fld (F.CAN_CFG_RETR n) ∨ v.fld (F.CAN_TXST_ATT n b) ≤ v.fld (F.CAN_CFG_RETR n))) ∧
    (∃ (n : Fin 8) (next : Bool) (s : State), (s.canOnBus n = true) ∧ (s.canMode n ≠ 2) ∧ (s.flag (F.CAN_CFG_FDEN n) = false)) ∧
    (∃ (n : Fin 8) (lec : BitVec 3) (eights : Nat) (next : Bool) (s : State) (t : State), (s.canOnBus n = true) ∧ (s.canMode n = 0) ∧ (t = s.put (F.CAN_STAT_LEC n) lec.toNat)) ∧
    (∃ (n : Fin 8) (lec : BitVec 3) (eights : Nat) (next : Bool) (s : State), (s.canOnBus n = true) ∧ (s.canMode n = 1)) ∧
    (∃ (n : Fin 8) (tx : Bool) (eights : Nat) (next : Bool) (s : State), (s.canOnBus n = true) ∧ (s.canMode n = 0)) ∧
    (∃ (n : Fin 8) (s : State), (s.canRuns n = true) ∧ (255 < s.fld (F.CAN_ERR_TEC n)) ∧ (s.fld (F.CAN_ERR_STATE n) ≠ canBusOff)) ∧
    (∃ (n : Fin 8) (s : State), (s.canRuns n = true) ∧ (s.fld (F.CAN_ERR_STATE n) = canBusOff) ∧ ((s.can n).recovering = true)) ∧
    (∃ (n : Fin 8) (s : State), (s.canRuns n = true)) ∧
    (∃ (n : Fin 8) (s : State), (s.canRuns n = true) ∧ (s.fld (F.CAN_ERR_STATE n) = canIntegrating)) :=
  ⟨⟨7, ⟨0, 0, true, false, false, []⟩, ⟨⟨⟨0, 0⟩, 0⟩, false⟩, (canSends 0), _, by decide +kernel, by decide +kernel, rfl, by decide +kernel⟩,
   ⟨7, ⟨0, 0, false, false, false, []⟩, ⟨⟨⟨0, 0⟩, 0⟩, false⟩, (canSends 0), _, _, by decide +kernel, by decide +kernel, rfl, by decide +kernel, rfl⟩,
   ⟨7, 1, (live.put (F.CAN_QSTAT_LOCK 7 1) 1), by decide +kernel⟩,
   ⟨7, (live.modCan 7 (fun x => { x with spills := [(1, 5, 2047)] })), (1, 5, 2047), [], rfl⟩,
   ⟨7, ⟨⟨0, 0⟩, 0⟩, (canSends 0), _, _, 15, _, rfl, by decide +kernel, by decide +kernel, rfl, rfl⟩,
   ⟨7, (canSends 0), _, 15, rfl, by decide +kernel⟩,
   ⟨7, (canSends 32768), _, 15, rfl, by decide +kernel⟩,
   ⟨7, ⟨1, false, 0⟩, (canSends 0), _, _, _, 15, rfl, by decide +kernel, by decide +kernel, by decide +kernel, rfl, rfl, by decide +kernel⟩,
   ⟨7, false, (canSends 0), by decide +kernel⟩,
   ⟨7, 1, 1, true, (canSends 0), _, by decide +kernel, by decide +kernel, rfl⟩,
   ⟨7, 1, 1, true, ((canSends 0).put (F.CAN_CFG_MODE 7) 1), by decide +kernel⟩,
   ⟨7, true, 1, true, (canSends 0), by decide +kernel⟩,
   ⟨7, ((live.put (F.CAN_CTRL_EN 7) 1).put (F.CAN_ERR_TEC 7) 256), by decide +kernel⟩,
   ⟨7, (((live.put (F.CAN_CTRL_EN 7) 1).put (F.CAN_ERR_STATE 7) canBusOff).modCan 7 (fun x => { x with recovering := true })), by decide +kernel⟩,
   ⟨7, (live.put (F.CAN_CTRL_EN 7) 1), by decide +kernel⟩,
   ⟨7, ((live.put (F.CAN_CTRL_EN 7) 1).put (F.CAN_ERR_STATE 7) canIntegrating), by decide +kernel⟩⟩

/-- The conditions of each clause of CanCommandsComplete are met. -/
theorem witness_CanCommandsComplete :
    (∃ (c : HostCmd) (s : State) (u : State) (n : _) (cfg : _) (nbt : _) (dbt : _), (s.serves 0x50 c = true) ∧ (u = s.atStep8 0x50 c) ∧ (n = arg c 0 1) ∧ (cfg = arg c 1 4) ∧ (nbt = arg c 5 4) ∧ (dbt = arg c 9 4) ∧ (u.inModes netConfigModes = true) ∧ (¬ (7 < n)) ∧ (u.flag (F.CAN_CTRL_EN n) = false) ∧ (canTimingOk nbt dbt = true) ∧ ((cfg.testBit 17 && decide (2 ≤ n)) = false)) ∧
    (∃ (c : HostCmd) (s : State) (u : State) (n : _) (f : _) (k : _), (s.serves 0x51 c = true) ∧ (u = s.atStep8 0x51 c) ∧ (n = arg c 0 1) ∧ (f = arg c 1 1) ∧ (k = arg c 6 4) ∧ (u.inModes canModes = true) ∧ (n ≤ 7) ∧ (f ≤ 31) ∧ ((k.testBit 31 && decide (2 ≤ n)) = false)) ∧
    (∃ (c : HostCmd) (s : State) (u : State), (s.serves 0x52 c = true) ∧ (u = s.atStep8 0x52 c) ∧ (u.inModes canModes = true)) ∧
    (∃ (c : HostCmd) (sof : Bool) (s : State) (u : State) (n : _) (b : _) (id : _) (flags : _) (len : _) (data : _), (s.serves 0x53 c = true) ∧ (u = s.atStep8 0x53 c) ∧ (n = arg c 0 1) ∧ (id = arg c 4 4 % 2 ^ 31) ∧ (flags = arg c 8 4 % 128) ∧ (len = (if id.testBit 30 then 0 else dlcBytes (flags.testBit 4) (flags % 16))) ∧ (data = (if decide (32 < len) then (u.attached c).take len else bytesAt c.param 0x0C len)) ∧ (u.inModes canModes = true) ∧ (n ≤ 7) ∧ (bufList16.find? (fun b => !(u.canPending n).contains b) = some b) ∧ (u.canMode n ≠ 1) ∧ (u.flag (F.CAN_CTRL_EN n) = true) ∧ (u.fld (F.CAN_ERR_STATE n) ≠ canBusOff ∨ u.flag (F.CAN_CFG_BOFLUSH n) = false) ∧ (len ≤ 32 ∨ c.handles.isEmpty = false)) ∧
    (∃ (c : HostCmd) (s : State) (u : State) (n : _) (t : _), (s.serves 0x54 c = true) ∧ (u = s.atStep8 0x54 c) ∧ (n = arg c 0 1) ∧ (u.inModes canModes = true) ∧ (n ≤ 7) ∧ ((u.can n).tags.find? (fun t => t.tag == arg c 1 2) = some t)) ∧
    (∃ (c : HostCmd) (s : State) (u : State) (n : _) (q : _) (k : _) (wait : _), (s.serves 0x55 c = true) ∧ (u = s.atStep8 0x55 c) ∧ (n = arg c 0 1) ∧ (q = arg c 1 1) ∧ (k = arg c 2 1) ∧ (wait = arg c 3 4) ∧ (u.inModes canModes = true) ∧ (n ≤ 7) ∧ (q ≤ 1) ∧ (k ≠ 0) ∧ (k ≤ 12) ∧ (wait ≤ 1000) ∧ (u.canAvail n q ≠ 0)) ∧
    (∃ (c : HostCmd) (s : State) (u : State) (n : _) (q : _) (k : _) (wait : _), (s.serves 0x55 c = true) ∧ (u = s.atStep8 0x55 c) ∧ (n = arg c 0 1) ∧ (q = arg c 1 1) ∧ (k = arg c 2 1) ∧ (wait = arg c 3 4) ∧ (u.inModes canModes = true) ∧ (n ≤ 7) ∧ (q ≤ 1) ∧ (k ≠ 0) ∧ (k ≤ 12) ∧ (wait ≤ 1000) ∧ (0 < wait) ∧ (u.canAvail n q = 0)) ∧
    (∃ (k : Fin 16) (s : State) (t : State) (u : State) (n : _) (v : _), (s.supRuns = true) ∧ (t = s.canServeReads) ∧ ((List.range 8).find? (fun n => (t.can n).reads.any (fun r => r.1 == k.val)) = some n) ∧ ((t.modCan n (fun x => { x with reads := x.reads.filter (fun r => r.1 != k.val) })).draw = (v, u))) ∧
    (∃ (k : Fin 16) (s : State) (t : State), (s.supRuns = true) ∧ (t = s.canServeReads) ∧ ((List.range 8).find? (fun n => (t.can n).reads.any (fun r => r.1 == k.val)) = none)) ∧
    (∃ (c : HostCmd) (s : State) (u : State) (v : State) (n : _), (s.serves 0x56 c = true) ∧ (u = s.atStep8 0x56 c) ∧ (n = arg c 0 1) ∧ (u.inModes (canModes ++ [modeRecovery]) = true) ∧ (¬ (7 < n)) ∧ (v = u.canCount [R.CAN_ERR n])) ∧
    (∃ (c : HostCmd) (s : State) (u : State) (n : _), (s.serves 0x57 c = true) ∧ (u = s.atStep8 0x57 c) ∧ (n = arg c 0 1) ∧ (u.inModes canModes = true) ∧ (¬ (7 < n)) ∧ (u.fld (F.CAN_ERR_STATE n) = canBusOff) ∧ (u.flag (F.CAN_CFG_BOAUTO n) = false)) :=
  ⟨⟨(cmd [7, 0, 0, 0, 0, 0, 60, 124, 30, 0, 24, 50, 128]), (host 9), _, _, _, _, _, by decide +kernel, rfl, rfl, rfl, rfl, rfl, by decide +kernel⟩,
   ⟨(cmd []), (host 2), _, _, _, _, by decide +kernel, rfl, rfl, rfl, rfl, by decide +kernel⟩,
   ⟨(cmd []), (host 2), _, by decide +kernel, rfl, by decide +kernel⟩,
   ⟨(cmd [7, 0, 1, 0, 1, 0, 0, 0, 8, 0, 0, 0]), true, ((host 8).put (F.CAN_CTRL_EN 7) 1), _, _, 0, _, _, _, _, by decide +kernel, rfl, rfl, rfl, rfl, rfl, rfl, by decide +kernel⟩,
   ⟨(cmd [7, 1]), ((host 8).modCan 7 (fun x => { x with tags := [⟨15, 1, 15⟩] })), _, _, ⟨15, 1, 15⟩, by decide +kernel, rfl, rfl, by decide +kernel, by decide +kernel, rfl⟩,
   ⟨(cmd [7, 1, 12]), ((host 8).modCan 7 (fun x => { x with spills := [(1, 5, 2047)] })), _, _, _, _, _, by decide +kernel, rfl, rfl, rfl, rfl, rfl, by decide +kernel⟩,
   ⟨(cmd [7, 1, 12, 0xE8, 3]), (host 8), _, _, _, _, _, by decide +kernel, rfl, rfl, rfl, rfl, rfl, by decide +kernel⟩,
   ⟨15, (live.modCan 7 (fun x => { x with reads := [(15, 1, 1)] })), _, _, 7, _, by decide +kernel, rfl, by decide +kernel, rfl⟩,
   ⟨15, live, _, by decide +kernel, rfl, by decide +kernel⟩,
   ⟨(cmd []), (host 2), _, _, _, by decide +kernel, rfl, rfl, by decide +kernel, by decide +kernel, rfl⟩,
   ⟨(cmd [7]), (((host 8).put (F.CAN_ERR_STATE 7) canBusOff).put (F.CAN_CFG_BOAUTO 7) 0), _, _, by decide +kernel, rfl, rfl, by decide +kernel⟩⟩

/-- The conditions of each clause of FieldIoCompletes are met. -/
theorem witness_FieldIoCompletes :
    (∃ (n : Fin 32) (level : Bool) (win : Bool) (s : State) (t : State), (s.inSampled n = true) ∧ (s.inPulsed n = false) ∧ (s.flag (F.FIO_ISTAT_RAW n) ≠ level) ∧ (t = (s.putB (F.FIO_ISTAT_RAW n) level).rawEdge n level)) ∧
    (∃ (n : Fin 32) (s : State), (s.inSampled n = true) ∧ (s.inPulsed n = false) ∧ (s.flag (F.FIO_ISTAT_VALID n) = true) ∧ (s.flag (F.FIO_ISTAT_RAW n) ≠ s.inRawLvl n)) ∧
    (∃ (n : Fin 32) (level : Bool) (win : Bool) (s : State) (t : State), (s.inSampled n = true) ∧ (s.inPulsed n = true) ∧ (t = State.putB (if s.flag (F.FIO_ISTAT_RAW n) == level then s else s.rawEdge n level) (F.FIO_ISTAT_RAW n) level) ∧ (t.flag (F.FIO_ISTAT_VALID n) = false)) ∧
    (∃ (n : Fin 32) (level : Bool) (win : Bool) (s : State) (t : State), (s.inSampled n = true) ∧ (s.inPulsed n = true) ∧ (t = State.putB (if s.flag (F.FIO_ISTAT_RAW n) == level then s else s.rawEdge n level) (F.FIO_ISTAT_RAW n) level) ∧ (t.flag (F.FIO_ISTAT_VALID n) = true) ∧ (level = t.inRawLvl n)) ∧
    (∃ (n : Fin 32) (level : Bool) (win : Bool) (s : State) (t : State), (s.inSampled n = true) ∧ (s.inPulsed n = true) ∧ (t = State.putB (if s.flag (F.FIO_ISTAT_RAW n) == level then s else s.rawEdge n level) (F.FIO_ISTAT_RAW n) level) ∧ (t.flag (F.FIO_ISTAT_VALID n) = true) ∧ (level ≠ t.inRawLvl n)) ∧
    (∃ (n : Fin 32) (s : State) (t : State), (s.inSampled n = true) ∧ (s.flag (F.FIO_ICFG_WBEN n) = true) ∧ (s.flag (F.FIO_ISTAT_RAW n) = false) ∧ (t = s.modFin n (fun x => { x with wbRun := bump 8 x.wbRun }))) ∧
    (∃ (n : Fin 32) (s : State), (s.inSampled n = true) ∧ (s.flag (F.FIO_ICFG_WBEN n) = true) ∧ (s.flag (F.FIO_ISTAT_RAW n) = false)) ∧
    (∃ (m : Fin 16) (s : State), (s.outsMay = true) ∧ (s.flag (F.FIO_OSTAT_ON m) = true)) ∧
    (∃ (s : State), (s.outsMay = true) ∧ (outList.any (fun m => s.flag (F.FIO_OSTAT_ON m)) = true)) ∧
    (∃ (m : Fin 16) (s : State), (s.outsMay = true)) ∧
    (∃ (m : Fin 16) (s : State), (s.outsMay = true) ∧ ((s.flag (F.FIO_OSTAT_ON m) || s.flag (F.FIO_OCFG_OLOFF m)) = true)) ∧
    (∃ (v : BitVec 16) (copy : Bool) (s : State) (t : State), (s.fieldUp = true) ∧ (t = s.put F.FSM_STAT_VFLD v.toNat)) ∧
    (∃ (cond : Fin 5) (enter : Bool) (s : State), (s.fieldUp = true) ∧ (cond.val = 0) ∧ (s.vfldIn cond ≠ enter) ∧ (vfldBeyond cond enter (s.fld F.FSM_STAT_VFLD) = true)) ∧
    (∃ (cond : Fin 5) (enter : Bool) (s : State), (s.fieldUp = true) ∧ (cond.val = 1) ∧ (s.vfldIn cond ≠ enter) ∧ (vfldBeyond cond enter (s.fld F.FSM_STAT_VFLD) = true)) ∧
    (∃ (cond : Fin 5) (enter : Bool) (s : State), (s.fieldUp = true) ∧ (cond.val = 2) ∧ (s.vfldIn cond ≠ enter) ∧ (vfldBeyond cond enter (s.fld F.FSM_STAT_VFLD) = true)) ∧
    (∃ (cond : Fin 5) (enter : Bool) (s : State), (s.fieldUp = true) ∧ (cond.val = 3) ∧ (s.vfldIn cond ≠ enter) ∧ (vfldBeyond cond enter (s.fld F.FSM_STAT_VFLD) = true)) ∧
    (∃ (cond : Fin 5) (enter : Bool) (s : State), (s.fieldUp = true) ∧ (cond.val = 4) ∧ (s.vfldIn cond ≠ enter) ∧ (vfldBeyond cond enter (s.fld F.FSM_STAT_VFLD) = true)) ∧
    (∃ (c : HostCmd) (s : State) (u : State) (n : _) (v : _) (deb : _) (raw : _), (s.serves 0x60 c = true) ∧ (u = s.atStep8 0x60 c) ∧ (n = arg c 0 1) ∧ (v = arg c 1 4) ∧ (deb = v / 2 ^ 16 % 256) ∧ (raw = u.inRawLvl n) ∧ (u.inModes netConfigModes = true) ∧ (¬ (31 < n)) ∧ (deb ≠ 0) ∧ (¬ (250 < deb))) ∧
    (∃ (c : HostCmd) (s : State) (u : State), (s.serves 0x61 c = true) ∧ (u = s.atStep8 0x61 c) ∧ (u.inModes fieldModes = true)) ∧
    (∃ (c : HostCmd) (s : State) (u : State) (m : _) (v : _), (s.serves 0x62 c = true) ∧ (u = s.atStep8 0x62 c) ∧ (m = arg c 0 1) ∧ (v = arg c 1 4) ∧ (u.inModes netConfigModes = true) ∧ (¬ (15 < m)) ∧ (¬ (250 < v / 2 ^ 20 % 256))) ∧
    (∃ (c : HostCmd) (s : State) (u : State) (mask : _) (v : _), (s.serves 0x63 c = true) ∧ (u = s.atStep8 0x63 c) ∧ (mask = arg c 0 2) ∧ (v = arg c 2 2) ∧ (u.inModes fieldModes = true) ∧ ((u.inModes [modeSafeOff, modeRecovery] && outList.any (fun m => mask.testBit m && u.flag (F.FIO_OCFG_SOFF m))) = false)) ∧
    (∃ (c : HostCmd) (hot : BitVec 16) (above : Bool) (s : State) (u : State), (s.serves 0x64 c = true) ∧ (u = s.atStep8 0x64 c) ∧ (u.inModes fieldModes = true) ∧ ((arg c 2 1).testBit 0 = false) ∧ ((arg c 3 1).testBit 0 = false) ∧ ((u.clearOuts (arg c 0 2) hot.toNat).1 = 0)) ∧
    (∃ (c : HostCmd) (ma : List Nat) (s : State) (u : State) (v : State) (r : _), (s.serves 0x65 c = true) ∧ (u = s.atStep8 0x65 c) ∧ (u.inModes fieldModes = true) ∧ (reportField c.ch (u.takeLoads (u.loadOf ma)) = (r, v))) ∧
    (∃ (c : HostCmd) (s : State) (u : State) (iv : _), (s.serves 0x66 c = true) ∧ (u = s.atStep8 0x66 c) ∧ (iv = arg c 5 2) ∧ (u.inModes [modeConfigure, modeReady, modeSafeOff] = true) ∧ (¬ (1 < arg c 4 1)) ∧ (iv ≠ 0) ∧ (¬ (1000 < iv))) :=
  ⟨⟨31, true, true, (live.put (F.FIO_ICFG_EN 31) 1), _, by decide +kernel, by decide +kernel, by decide +kernel, rfl⟩,
   ⟨31, (((live.put (F.FIO_ISTAT_VALID 31) 1).put (F.FIO_ICFG_EN 31) 1).put (F.FIO_ISTAT_RAW 31) 1), by decide +kernel⟩,
   ⟨31, true, true, ((live.put (F.FIO_ICFG_EN 31) 1).put (F.FIO_ICFG_PULSE 31) 1), _, by decide +kernel, by decide +kernel, rfl, by decide +kernel⟩,
   ⟨31, false, true, (((live.put (F.FIO_ICFG_EN 31) 1).put (F.FIO_ICFG_PULSE 31) 1).put (F.FIO_ISTAT_VALID 31) 1), _, by decide +kernel, by decide +kernel, rfl, by decide +kernel⟩,
   ⟨31, true, true, (((live.put (F.FIO_ICFG_EN 31) 1).put (F.FIO_ICFG_PULSE 31) 1).put (F.FIO_ISTAT_VALID 31) 1), _, by decide +kernel, by decide +kernel, rfl, by decide +kernel⟩,
   ⟨31, ((live.put (F.FIO_ICFG_EN 31) 1).put (F.FIO_ICFG_WBEN 31) 1), _, by decide +kernel, by decide +kernel, by decide +kernel, rfl⟩,
   ⟨31, ((live.put (F.FIO_ICFG_EN 31) 1).put (F.FIO_ICFG_WBEN 31) 1), by decide +kernel⟩,
   ⟨15, (live.put (F.FIO_OSTAT_ON 15) 1), by decide +kernel⟩,
   ⟨(live.put (F.FIO_OSTAT_ON 15) 1), by decide +kernel⟩,
   ⟨15, live, by decide +kernel⟩,
   ⟨15, (live.put (F.FIO_OCFG_OLOFF 15) 1), by decide +kernel⟩,
   ⟨2400, true, live, _, by decide +kernel, rfl⟩,
   ⟨0, true, (live.put F.FSM_STAT_VFLD 4000), by decide +kernel⟩,
   ⟨1, true, live, by decide +kernel⟩,
   ⟨2, true, live, by decide +kernel⟩,
   ⟨3, true, live, by decide +kernel⟩,
   ⟨4, true, live, by decide +kernel⟩,
   ⟨(cmd [31, 0, 0, 250, 0]), (host 9), _, _, _, _, _, by decide +kernel, rfl, rfl, rfl, rfl, rfl, by decide +kernel⟩,
   ⟨(cmd []), (host 2), _, by decide +kernel, rfl, by decide +kernel⟩,
   ⟨(cmd []), (host 2), _, _, _, by decide +kernel, rfl, rfl, rfl, by decide +kernel⟩,
   ⟨(cmd []), (host 2), _, _, _, by decide +kernel, rfl, rfl, rfl, by decide +kernel⟩,
   ⟨(cmd []), 0, false, (host 2), _, by decide +kernel, rfl, by decide +kernel⟩,
   ⟨(cmd []), (List.replicate 16 4096), (host 8), _, _, _, by decide +kernel, rfl, by decide +kernel, rfl⟩,
   ⟨(cmd [0, 0, 0, 0, 1, 0xE8, 3]), (host 4), _, _, by decide +kernel, rfl, rfl, by decide +kernel⟩⟩

/-- The conditions of each clause of ModesComplete are met. -/
theorem witness_ModesComplete :
    (∃ (target : Fin 16) (s : State) (t : State) (r : _), (s.supRuns = true) ∧ (t = s.put F.MODE_REQ_TARGET target.val) ∧ (lowest (t.modeReasons target.val false ++ t.standbyReasons target.val) = some r)) ∧
    (∃ (target : Fin 16) (s : State) (t : State), (s.supRuns = true) ∧ (t = s.put F.MODE_REQ_TARGET target.val) ∧ (lowest (t.modeReasons target.val false ++ t.standbyReasons target.val) = none) ∧ (target.val ≠ modeStandby)) ∧
    (∃ (target : Fin 16) (s : State) (t : State), (s.supRuns = true) ∧ (t = s.put F.MODE_REQ_TARGET target.val) ∧ (lowest (t.modeReasons target.val false ++ t.standbyReasons target.val) = none) ∧ (target.val = modeStandby)) ∧
    (∃ (c : HostCmd) (s : State) (u : State) (m : _), (s.serves 0x03 c = true) ∧ (u = s.atStep8 0x03 c) ∧ (m = arg c 0 1) ∧ (m ∈ [2, 4, 5, 6, 7, 9, 11]) ∧ (lowest ((u.put F.MODE_REQ_TARGET m).modeReasons m true ++ (u.put F.MODE_REQ_TARGET m).standbyReasons m) = none) ∧ ((((u.put F.MODE_REQ_TARGET m).goMode m).finishHead c.ch.val .ok).mode.restCheck = none)) ∧
    (∃ (wakes : BitVec 5) (s : State) (t : State) (w : _) (dropped : _) (r : _), (s.mode.restCheck = some (w, dropped)) ∧ (t = s.withMode { s.mode with restCheck := none, speedTasks := if s.curMode == modeSafeOff || s.curMode == modeRecovery then s.mode.speedTasks else 0 }) ∧ (lowest (t.restReasons dropped) = some r)) ∧
    (∃ (wakes : BitVec 5) (s : State) (t : State) (u : State) (w : _) (dropped : _), (s.mode.restCheck = some (w, dropped)) ∧ (t = s.withMode { s.mode with restCheck := none, speedTasks := if s.curMode == modeSafeOff || s.curMode == modeRecovery then s.mode.speedTasks else 0 }) ∧ (lowest (t.restReasons dropped) = none) ∧ (u = (if w.val < 16 then t.finishHead w Reply.ok else t))) ∧
    (∃ (c : HostCmd) (s : State) (u : State), (s.serves 0x05 c = true) ∧ (u = s.atStep8 0x05 c) ∧ (u.inModes [modeConfigure, modeReady, modeSafeOff] = true) ∧ (¬ (31 < arg c 0 4))) ∧
    (∃ (c : HostCmd) (s : State) (u : State) (t : _), (s.serves 0x0D c = true) ∧ (u = s.atStep8 0x0D c) ∧ (t = arg c 0 4) ∧ (u.inModes [2, 4, 5, 6, 9] = true) ∧ ((t != 0 && !decide (10 ≤ t ∧ t ≤ 10000)) = false)) ∧
    (∃ (late : Bool) (s : State) (safe : _), (safe = s.groupList.all (fun n => s.flag (F.SPW_GSTAT_SAFE n))) ∧ (s.curMode = modeSafeOff) ∧ (s.flag F.MODE_CAUSE_FATAL = true) ∧ ((safe || late) = true)) ∧
    (∃ (s : State), (s.supRuns = true) ∧ (s.curMode = modeRun) ∧ (s.derating = true)) ∧
    (∃ (s : State), (s.supRuns = true) ∧ (s.curMode = modeDerate) ∧ (s.derating = false)) ∧
    (∃ (n : Fin 16) (s : State) (t : State), (s.supRuns = true) ∧ (s.curMode = modeStop) ∧ (s.axState n = axEnergised) ∧ (s.axisAtRest n true = true) ∧ (t = s.axGoto n axArmed)) ∧
    (∃ (s : State), (s.supRuns = true) ∧ (s.curMode = modeStop) ∧ (s.anyAxis axEnergised = true)) ∧
    (∃ (s : State), (s.supRuns = true) ∧ (s.inModes [modeRun, modeDerate] = true) ∧ (s.fld F.MODE_HLINK_TMO ≠ 0)) ∧
    (∃ (src : Fin 6) (clocks : Nat) (s : State), (s.curMode ≠ modeStandby)) ∧
    (∃ (src : Fin 6) (clocks : Nat) (s : State) (t : State), (s.curMode = modeStandby) ∧ (t = (if decide (src.val < 5) then s.wakeRequest src else s)) ∧ ((t.rd R.MODE_WAKESRC).toNat ≠ 0)) ∧
    (∃ (src : Fin 6) (clocks : Nat) (s : State) (t : State), (s.curMode = modeStandby) ∧ (t = (if decide (src.val < 5) then s.wakeRequest src else s)) ∧ ((t.rd R.MODE_WAKESRC).toNat = 0)) ∧
    (∃ (n : Fin 16) (s : State) (t : State), (s.supRuns = true) ∧ ((s.axis n).reenable = true) ∧ (s.axValid n = true) ∧ ((s.groupLegs n).all (fun l => s.flag (F.ES_LEGSTAT_HELD l)) = true) ∧ (t = s.modAxis n (fun a => { a with reenable := false }))) :=
  ⟨⟨15, live, _, 1, by decide +kernel, rfl, by decide +kernel⟩,
   ⟨7, live, _, by decide +kernel, rfl, by decide +kernel⟩,
   ⟨3, (host 2), _, by decide +kernel, rfl, by decide +kernel⟩,
   ⟨(cmd [7]), (host 6), _, _, by decide +kernel, rfl, rfl, by decide +kernel⟩,
   ⟨0, ((host 4).withMode { live.mode with restCheck := some (15, true) }), _, 15, true, 7, rfl, rfl, by decide +kernel⟩,
   ⟨0, ((host 4).withMode { live.mode with restCheck := some (16, false) }), _, _, 16, false, rfl, rfl, by decide +kernel, rfl⟩,
   ⟨(cmd []), (host 2), _, by decide +kernel, rfl, by decide +kernel⟩,
   ⟨(cmd []), (host 2), _, _, by decide +kernel, rfl, rfl, by decide +kernel⟩,
   ⟨true, ((live.put F.MODE_CUR_MODE modeSafeOff).put F.MODE_CAUSE_FATAL 1), _, rfl, by decide +kernel⟩,
   ⟨((live.put (F.WU_AXST_TJ 15) 1).put (F.axst 15) 1), by decide +kernel⟩,
   ⟨(live.put F.MODE_CUR_MODE modeDerate), by decide +kernel⟩,
   ⟨15, ((live.put F.MODE_CUR_MODE modeStop).put (F.axst 15) axEnergised), _, by decide +kernel, by decide +kernel, by decide +kernel, by decide +kernel, rfl⟩,
   ⟨((live.put F.MODE_CUR_MODE modeStop).put (F.axst 15) axEnergised), by decide +kernel⟩,
   ⟨(live.put F.MODE_HLINK_TMO 1), by decide +kernel⟩,
   ⟨4, 0, live, by decide +kernel⟩,
   ⟨0, 0, (host modeStandby), _, by decide +kernel, rfl, by decide +kernel⟩,
   ⟨5, 0, (host modeStandby), _, by decide +kernel, rfl, by decide +kernel⟩,
   ⟨15, (live.modAxis 15 (fun a => { a with reenable := true, configured := true })), _, by decide +kernel, by decide +kernel, by decide +kernel, by decide +kernel, rfl⟩⟩

/-- The conditions of each clause of ResetAndBootComplete are met. -/
theorem witness_ResetAndBootComplete :
    (∃ (s : State) (due : _), (due = (if s.anyShorted then s.mode.warmDue &&& 16 else s.mode.warmDue)) ∧ (due ≠ 0)) ∧
    (∃ (s : State), ((if s.anyShorted then s.mode.warmDue &&& 16 else s.mode.warmDue) = 0)) ∧
    (∃ (otpBad : Bool) (x32 : Bool) (s : State), (s.curMode = modeReset) ∧ (s.clk.strapDue = false)) ∧
    (∃ (samples : List (BitVec 14)) (s : State), (s.clk.strapDue = true) ∧ (samples.length = 16)) ∧
    (∃ (bad : List (Fin 4 × Nat × Bool)) (s : State), (s.booting = true) ∧ (s.clk.cleared = false) ∧ (s.flag F.CLK_STAT_MLOCK = true)) ∧
    (∃ (s : State) (t : State) (u : State) (v : State) (slot : _) (r : _), (s.mayBoot = true) ∧ (s.fld F.STRAP_VAL_BOOTSEL ≠ 2) ∧ (slot = s.bootOrder.getD s.clk.tried 0) ∧ (s.slotCheck slot 1 = (r, t)) ∧ (u = t.put (if slot = 0 then F.SEC_BOOT_FAILA else F.SEC_BOOT_FAILB) r) ∧ (v = u.withClk { u.clk with tried := u.clk.tried + 1 })) ∧
    (∃ (s : State), (s.mayBoot = true) ∧ (s.fld F.STRAP_VAL_BOOTSEL = 2)) ∧
    (∃ (v : BitVec 6) (s : State), (s.supServes = true)) ∧
    (∃ (i : Fin 6) (s : State), ((s.rd R.CLK_IRST).toNat.testBit i = true) ∧ (s.clocked = true)) :=
  ⟨⟨(live.withMode { live.mode with warmDue := 16 }), _, rfl, by decide +kernel⟩,
   ⟨live, by decide +kernel⟩,
   ⟨true, true, ((live.put F.MODE_CUR_MODE modeReset).withClk { live.clk with strapDue := false }), by decide +kernel⟩,
   ⟨(List.replicate 16 0), (live.withClk { live.clk with strapDue := true }), by decide +kernel⟩,
   ⟨[], (((live.put F.MODE_CUR_MODE modeBoot).put F.CLK_STAT_MLOCK 1).withClk { live.clk with ready := false, cleared := false }), by decide +kernel⟩,
   ⟨((live.put F.MODE_CUR_MODE modeBoot).withClk { live.clk with tried := 1 }), _, _, _, _, _, by decide +kernel, by decide +kernel, rfl, rfl, rfl, rfl⟩,
   ⟨((live.put F.MODE_CUR_MODE modeBoot).put F.STRAP_VAL_BOOTSEL 2), by decide +kernel⟩,
   ⟨0, live, by decide +kernel⟩,
   ⟨5, (live.wr R.CLK_IRST 32), by decide +kernel⟩⟩

/-- The conditions of each clause of ClocksAndSuppliesComplete are met. -/
theorem witness_ClocksAndSuppliesComplete :
    (∃ (dev : BitVec 16) (s : State) (t : State) (was : _), (s.flag F.CLK_STAT_XOK = true) ∧ (s.flag F.CLK_STAT_SXOK = true) ∧ (t = s.put F.CLK_STAT_DEV dev.toNat) ∧ (10000 < dev.toInt.natAbs) ∧ (was = t.clk.devRun)) ∧
    (∃ (dev : BitVec 16) (s : State) (t : State), (s.flag F.CLK_STAT_XOK = true) ∧ (s.flag F.CLK_STAT_SXOK = true) ∧ (t = s.put F.CLK_STAT_DEV dev.toNat) ∧ (dev.toInt.natAbs ≤ 10000)) ∧
    (∃ (s : State), (s.flag F.CLK_STAT_X32OK = true)) ∧
    (∃ (stays : Bool) (s : State) (t : State), (s.curMode ≠ modeReset) ∧ (s.flag F.CLK_IRST_FIELD = false) ∧ (s.clk.mainStopped = false) ∧ (t = (s.withClk { s.clk with fieldStopped := stays }).refreshOuts)) ∧
    (∃ (s : State), (s.fieldUp = true)) ∧
    (∃ (rail : Fin 4) (low : Bool) (s : State) (t : State), (s.curMode ≠ modeReset) ∧ (s.flag ⟨R.CLK_SUPMON, 1 + rail, 1⟩ ≠ low) ∧ (t = s.putB ⟨R.CLK_SUPMON, 1 + rail, 1⟩ low)) ∧
    (∃ (v : BitVec 16) (s : State) (t : State), (s.curMode ≠ modeReset) ∧ (v.toNat < 1350 ∨ 1650 < v.toNat) ∧ (t = (s.put F.CLK_SUPMON_VDRV v.toNat).put F.CLK_SUPMON_VDRVIN 0)) ∧
    (∃ (v : BitVec 16) (s : State) (t : State), (s.curMode ≠ modeReset) ∧ (v.toNat < 1100) ∧ (t = s.put F.CLK_SUPMON_VDRV v.toNat)) :=
  ⟨⟨20000, ((live.put F.CLK_STAT_XOK 1).put F.CLK_STAT_SXOK 1), _, _, by decide +kernel, by decide +kernel, rfl, by decide +kernel, rfl⟩,
   ⟨0, ((live.put F.CLK_STAT_XOK 1).put F.CLK_STAT_SXOK 1), _, by decide +kernel, by decide +kernel, rfl, by decide +kernel⟩,
   ⟨(live.put F.CLK_STAT_X32OK 1), by decide +kernel⟩,
   ⟨true, live, _, by decide +kernel, by decide +kernel, by decide +kernel, rfl⟩,
   ⟨live, by decide +kernel⟩,
   ⟨3, true, live, _, by decide +kernel, by decide +kernel, rfl⟩,
   ⟨1349, live, _, by decide +kernel, by decide +kernel, rfl⟩,
   ⟨1099, live, _, by decide +kernel, by decide +kernel, rfl⟩⟩

/-- The conditions of each clause of HostPortCompletes are met. -/
theorem witness_HostPortCompletes :
    (∃ (head : List (BitVec 4)) (len : Nat) (s : State) (a : _), (s.hpAddr 0x0B head = some a)) ∧
    (∃ (head : List (BitVec 4)) (len : Nat) (s : State), (s.hpAddr 0x0B head = none)) ∧
    (∃ (k : Fin 16) (v : Word) (s : State), (s.supServes = true)) ∧
    (∃ (v : Word) (s : State), (s.supServes = true)) ∧
    (∃ (head : List (BitVec 4)) (data : List (BitVec 4)) (s : State) (a : _), (s.hpAddr 0x02 head = some a)) ∧
    (∃ (head : List (BitVec 4)) (data : List (BitVec 4)) (s : State), (s.hpAddr 0x02 head = none)) ∧
    (∃ (bytes : List Byte) (burst : Bool) (s : State), (s.netRuns = true) ∧ (s.supRuns = true) ∧ ((s.takeRx bytes).feature 12 = true) ∧ ([0, 1, 2, 3].find? (fun n => ((s.takeRx bytes).session n).isOpen && ((s.takeRx bytes).session n).number == numAt bytes 4 4) = none)) ∧
    (∃ (bytes : List Byte) (burst : Bool) (s : State) (t : State) (n : _), (s.netRuns = true) ∧ (s.supRuns = true) ∧ (t = s.takeRx bytes) ∧ (t.feature 12 = true) ∧ ([0, 1, 2, 3].find? (fun n => (t.session n).isOpen && (t.session n).number == numAt bytes 4 4) = some n) ∧ (bytes.drop (bytes.length - 16) ≠ hmacTag (t.session n).key (bytes.take (bytes.length - 16)) ∨ numAt bytes 8 4 < (t.session n).rxNext)) ∧
    (∃ (bytes : List Byte) (burst : Bool) (s : State) (t : State) (n : _) (x : _), (s.netRuns = true) ∧ (s.supRuns = true) ∧ (t = s.takeRx bytes) ∧ (t.feature 12 = true) ∧ ([0, 1, 2, 3].find? (fun n => (t.session n).isOpen && (t.session n).number == numAt bytes 4 4) = some n) ∧ (x = t.session n) ∧ (bytes.drop (bytes.length - 16) = hmacTag x.key (bytes.take (bytes.length - 16))) ∧ (x.rxNext ≤ numAt bytes 8 4) ∧ (numAt bytes 0 2 = 0x7E16) ∧ (numAt bytes 2 1 = 1) ∧ (bytes.length ≤ 1472) ∧ (x.chans.testBit (numAt bytes 12 1) = true) ∧ (numAt bytes 13 1 ≤ 16) ∧ (numAt bytes 3 1 = 1) ∧ (bytes.length = 36 + 64 * numAt bytes 13 1)) ∧
    (∃ (bytes : List Byte) (burst : Bool) (s : State) (t : State) (n : _) (x : _), (s.netRuns = true) ∧ (s.supRuns = true) ∧ (t = s.takeRx bytes) ∧ (t.feature 12 = true) ∧ ([0, 1, 2, 3].find? (fun n => (t.session n).isOpen && (t.session n).number == numAt bytes 4 4) = some n) ∧ (x = t.session n) ∧ (bytes.drop (bytes.length - 16) = hmacTag x.key (bytes.take (bytes.length - 16))) ∧ (x.rxNext ≤ numAt bytes 8 4) ∧ (numAt bytes 0 2 = 0x7E16) ∧ (numAt bytes 2 1 = 1) ∧ (bytes.length ≤ 1472) ∧ (x.chans.testBit (numAt bytes 12 1) = true) ∧ (numAt bytes 13 1 ≤ 16) ∧ (numAt bytes 3 1 = 3)) ∧
    (∃ (k : Fin 16) (index : BitVec 16) (s : State) (t : State) (n : _) (l : _) (ok : _), (s.netRuns = true) ∧ (s.supRuns = true) ∧ (s.chanSession k = some n) ∧ (l = oneDatagram ((s.chan k).sent.dropWhile (fun r => r.index != index.toNat))) ∧ (l ≠ []) ∧ (s.sendDatagram n k l = (ok, t))) ∧
    (∃ (k : Fin 16) (index : BitVec 16) (s : State), (s.chanSession k = none)) ∧
    (∃ (n : Fin 4) (s : State), (s.supRuns = true) ∧ ((s.session n).isOpen = true)) :=
  ⟨⟨[0, 11, 0, 0, 0, 0, 0, 0], 1, (live.put F.HP_CFG_HOSTSEL 2), 0, by decide +kernel⟩,
   ⟨[], 4, live, by decide +kernel⟩,
   ⟨15, 0, live, by decide +kernel⟩,
   ⟨0, live, by decide +kernel⟩,
   ⟨[0, 2, 0, 0, 0, 0, 0, 0], [], (live.put F.HP_CFG_HOSTSEL 2), 0, by decide +kernel⟩,
   ⟨[], [], live, by decide +kernel⟩,
   ⟨[], true, session3, by decide +kernel⟩,
   ⟨[0x16, 0x7E, 1, 3, 1, 0, 0, 0, 0, 0, 0, 0], true, (session3.setSession 3 ⟨true, 1, 0, [], 0x8000, 1, 0, 0⟩), _, 3, by decide +kernel, by decide +kernel, rfl, by decide +kernel, by decide +kernel, .inr (by decide +kernel)⟩,
   ⟨(datagram 1), true, session3, _, 3, _, by decide +kernel, by decide +kernel, rfl, by decide +kernel, by decide +kernel, rfl, rfl, by decide +kernel⟩,
   ⟨(datagram 3), true, session3, _, 3, _, by decide +kernel, by decide +kernel, rfl, by decide +kernel, by decide +kernel, rfl, rfl, by decide +kernel⟩,
   ⟨15, 0, (session3.modChan 15 (fun c => { c with sent := [⟨0, [], true, [], []⟩] })), _, 3, _, _, by decide +kernel, by decide +kernel, by decide +kernel, rfl, by decide +kernel, rfl⟩,
   ⟨15, 65535, live, by decide +kernel⟩,
   ⟨3, session3, by decide +kernel⟩⟩

/-- The conditions of each clause of SystemCommandsComplete are met. -/
theorem witness_SystemCommandsComplete :
    (∃ (c : HostCmd) (s : State) (u : State), (s.serves 0x00 c = true) ∧ (u = s.atStep8 0x00 c) ∧ (u.curMode ≠ modeUpdate)) ∧
    (∃ (c : HostCmd) (s : State) (u : State) (ids : _), (s.serves 0x01 c = true) ∧ (u = s.atStep8 0x01 c) ∧ (ids = axisList.flatMap (fun e => leBytes 4 (if (u.engImg e).loaded then (u.engImg e).ident else 0)))) ∧
    (∃ (c : HostCmd) (s : State) (u : State), (s.serves 0x02 c = true) ∧ (u = s.atStep8 0x02 c)) ∧
    (∃ (c : HostCmd) (s : State) (u : State), (s.serves 0x04 c = true) ∧ (u = s.atStep8 0x04 c) ∧ (u.curMode ≠ modeUpdate) ∧ (arg c 0 1 = 1) ∧ (u.anyShorted = false)) ∧
    (∃ (c : HostCmd) (s : State) (u : State) (t : State) (k : _), (s.serves 0x06 c = true) ∧ (u = s.atStep8 0x06 c) ∧ (k = arg c 0 1) ∧ (u.curMode ≠ modeUpdate) ∧ (k ≤ 15) ∧ (u.setLimit k (arg c 1 1) = some t)) ∧
    (∃ (c : HostCmd) (s : State) (u : State) (t : State) (v : State) (n : _) (bs : _) (is : _), (s.serves 0x07 c = true) ∧ (u = s.atStep8 0x07 c) ∧ (n = arg c 0 1) ∧ (1 ≤ n ∧ n ≤ 16) ∧ (u.allocN (0x10 + c.ch.val) n = some (bs, t)) ∧ (t.mapAll bs = some (is, v))) ∧
    (∃ (c : HostCmd) (s : State) (u : State) (n : _) (hs : _), (s.serves 0x08 c = true) ∧ (u = s.atStep8 0x08 c) ∧ (n = arg c 0 1) ∧ (hs = (List.range n).map (fun j => arg c (1 + 2 * j) 2)) ∧ (1 ≤ n ∧ n ≤ 16) ∧ (hs.all (fun h => decide (h < 2048) && u.owner h == 0x10 + c.ch.val) = true) ∧ (noRepeat hs = true)) ∧
    (∃ (c : HostCmd) (s : State) (u : State), (s.serves 0x09 c = true) ∧ (u = s.atStep8 0x09 c)) ∧
    (∃ (c : HostCmd) (s : State) (u : State), (s.serves 0x0A c = true) ∧ (u = s.atStep8 0x0A c) ∧ (u.inModes [modeConfigure] = true) ∧ (((List.range 5).map (fun i => arg c (4 * i + 2) 2)).foldl (· + ·) 0 ≤ 2048) ∧ ((List.range 5).any (fun i => decide (arg c (4 * i) 2 < arg c (4 * i + 2) 2) || decide (arg c (4 * i) 2 < u.fld (F.MBX_RSVCNT_COUNT i)) || decide (4095 < arg c (4 * i) 2)) = false)) ∧
    (∃ (c : HostCmd) (s : State) (u : State) (k : _), (s.serves 0x0B c = true) ∧ (u = s.atStep8 0x0B c) ∧ (k = arg c 0 1) ∧ (k ≤ 15) ∧ (u.chanSession k = none)) ∧
    (∃ (c : HostCmd) (s : State) (u : State) (t : State) (bs : _), (s.serves 0x0C c = true) ∧ (u = s.atStep8 0x0C c) ∧ (u.curMode ≠ modeUpdate) ∧ (c.handles.isEmpty = false) ∧ (u.resultBufs c.ch (u.attached c) = some (bs, t))) :=
  ⟨⟨(cmd []), (host 2), _, by decide +kernel, rfl, by decide +kernel⟩,
   ⟨(cmd []), (host 2), _, _, by decide +kernel, rfl, rfl⟩,
   ⟨(cmd []), (host 2), _, by decide +kernel, rfl⟩,
   ⟨(cmd [1]), (host 2), _, by decide +kernel, rfl, by decide +kernel⟩,
   ⟨(cmd [15, 1]), (host 2), _, _, _, by decide +kernel, rfl, rfl, by decide +kernel, by decide +kernel, rfl⟩,
   ⟨(cmd [1]), (host 2), _, _, _, _, [0], _, by decide +kernel, rfl, rfl, by decide +kernel, rfl, rfl⟩,
   ⟨(cmd [1, 0xFF, 7]), (owns (host 2)), _, _, _, by decide +kernel, rfl, rfl, rfl, by decide +kernel⟩,
   ⟨(cmd []), (host 2), _, by decide +kernel, rfl⟩,
   ⟨(cmd []), (host 2), _, by decide +kernel, rfl, by decide +kernel⟩,
   ⟨(cmd []), (host 2), _, _, by decide +kernel, rfl, rfl, by decide +kernel⟩,
   ⟨(cmdBuf []), (owns (host 2)), _, _, [0], by decide +kernel, rfl, by decide +kernel, by decide +kernel, rfl⟩⟩

/-- The conditions of each clause of BusAndCodeLoadingComplete are met. -/
theorem witness_BusAndCodeLoadingComplete :
    (∃ (addr : Nat) (v : Word) (s : State), (s.supRuns = true) ∧ (inMap addr = true) ∧ (s.islandDown addr = false)) ∧
    (∃ (addr : Nat) (v : Word) (s : State), (s.supRuns = true) ∧ (inMap addr = true) ∧ (s.islandDown addr = true)) ∧
    (∃ (addr : Nat) (v : Word) (s : State), (s.supRuns = true) ∧ (inMap addr = false)) ∧
    (∃ (c : HostCmd) (s : State) (u : State) (v : State) (mask : _) (len : _) (held : _), (s.serves 0x80 c = true) ∧ (u = s.atStep8 0x80 c) ∧ (mask = arg c 0 2) ∧ (len = arg c 2 4) ∧ (u.inModes [modeConfigure] = true) ∧ (u.engLoad.isOpen = false) ∧ (len ≤ 160 * 1024 * (engineList mask).length) ∧ (held = maskOf ((engineList mask).filter (fun e => u.flag (F.CE_CTRL_HALT e)))) ∧ (v = u.each (engineList mask) (fun e t => t.put (F.CE_CTRL_HALT e) 1))) ∧
    (∃ (c : HostCmd) (s : State) (u : State), (s.serves 0x80 c = true) ∧ (u = s.atStep8 0x80 c) ∧ (u.inModes [modeConfigure] = true) ∧ (u.engLoad.isOpen = true)) ∧
    (∃ (c : HostCmd) (s : State) (u : State) (n : _) (bs : _) (l : _), (s.serves 0x81 c = true) ∧ (u = s.atStep8 0x81 c) ∧ (n = arg c 4 2) ∧ (bs = u.attached c) ∧ (l = u.engLoad) ∧ (u.inModes [modeConfigure] = true) ∧ (l.isOpen = true) ∧ (arg c 0 4 = l.bytes.length) ∧ (¬ (bs.length < n)) ∧ (¬ (l.length < l.bytes.length + n))) ∧
    (∃ (c : HostCmd) (s : State) (u : State) (l : _), (s.serves 0x82 c = true) ∧ (u = s.atStep8 0x82 c) ∧ (l = u.engLoad) ∧ (u.inModes [modeConfigure] = true) ∧ (l.isOpen = true) ∧ (l.bytes.length = l.length)) ∧
    (∃ (c : HostCmd) (s : State) (u : State) (v : State) (n : _) (h : _) (check : _), (s.serves 0x83 c = true) ∧ (u = s.atStep8 0x83 c) ∧ (n = arg c 2 1) ∧ (h = u.flashBytes (slotBase (2 + n)) imgHeader) ∧ (u.inModes [modeConfigure] = true) ∧ (n ≤ 15) ∧ (numAt h 0 4 ≠ 0xFFFFFFFF) ∧ (u.slotCheck (2 + n) 2 = (check, v))) ∧
    (∃ (c : HostCmd) (s : State) (u : State) (l : _), (s.serves 0x84 c = true) ∧ (u = s.atStep8 0x84 c) ∧ (l = engineList (arg c 0 2)) ∧ (u.inModes [modeConfigure] = true) ∧ (l.any u.engineInUse = false)) ∧
    (∃ (c : HostCmd) (s : State) (u : State) (e : _) (ks : _) (en : _) (energised : _), (s.serves 0x85 c = true) ∧ (u = s.atStep8 0x85 c) ∧ (e = arg c 0 1) ∧ (ks = bitsOf 8 (arg c 1 1)) ∧ (en = (arg c 2 1).testBit 0) ∧ (energised = ks.any (fun k => u.flag (F.CE_TASKENT_AXB e k) && u.axState (u.fld (F.CE_TASKENT_AXIS e k)) == axEnergised)) ∧ ((u.inModes [2, 4, 9] || (u.inModes [5, 6] && (decide (15 < e) || !energised))) = true) ∧ (¬ (15 < e)) ∧ (ks.any (fun k => u.fld (F.CE_TASKCFG_DPATH e k) == 0) = false)) ∧
    (∃ (c : HostCmd) (s : State) (u : State) (e : _), (s.serves 0x86 c = true) ∧ (u = s.atStep8 0x86 c) ∧ (e = arg c 0 1) ∧ (u.inModes liveModes = true) ∧ (¬ (15 < e))) ∧
    (∃ (c : HostCmd) (s : State) (u : State) (e : _) (k : _), (s.serves 0x87 c = true) ∧ (u = s.atStep8 0x87 c) ∧ (e = arg c 0 1) ∧ (k = arg c 1 1) ∧ (u.inModes liveModes = true) ∧ (¬ (15 < e)) ∧ (¬ (7 < k)) ∧ (u.fld (F.CE_TASKCFG_DPATH e k) ≠ 0)) ∧
    (∃ (c : HostCmd) (s : State) (u : State), (s.serves 0x88 c = true) ∧ (u = s.atStep8 0x88 c) ∧ (u.inModes liveModes = true)) :=
  ⟨⟨0x50000000, 0, live, by decide +kernel⟩,
   ⟨0x40000000, 0, (live.put F.CLK_IRST_TIMEBASE 1), by decide +kernel⟩,
   ⟨0xFFFFFFFF, 0, live, by decide +kernel⟩,
   ⟨(cmd []), (host 2), _, _, _, _, _, by decide +kernel, rfl, rfl, rfl, by decide +kernel, by decide +kernel, by decide +kernel, rfl, rfl⟩,
   ⟨(cmd []), ((host 2).withEngLoad ⟨true, 1, 256, 1, [], 0⟩), _, by decide +kernel, rfl, by decide +kernel⟩,
   ⟨(cmdBuf [0, 0, 0, 0, 0, 1]), ((owns (host 2)).withEngLoad ⟨true, 1, 256, 1, [], 0⟩), _, _, _, _, by decide +kernel, rfl, rfl, rfl, rfl, by decide +kernel⟩,
   ⟨(cmd []), ((host 2).withEngLoad ⟨true, 1, 64, 1, List.replicate 64 0, 0⟩), _, _, by decide +kernel, rfl, rfl, by decide +kernel⟩,
   ⟨(cmd [0, 0, 15]), ((host 2).wrFlash8 (slotBase 17) 0), _, _, _, _, _, by decide +kernel, rfl, rfl, rfl, by decide +kernel, by decide +kernel, by decide +kernel, rfl⟩,
   ⟨(cmd []), (host 2), _, _, by decide +kernel, rfl, rfl, by decide +kernel⟩,
   ⟨(cmd []), (host 2), _, _, _, _, _, by decide +kernel, rfl, rfl, rfl, rfl, rfl, by decide +kernel⟩,
   ⟨(cmd []), (host 2), _, _, by decide +kernel, rfl, rfl, by decide +kernel⟩,
   ⟨(cmd [15, 7]), ((host 10).put (F.CE_TASKCFG_DPATH 15 7) 1), _, _, _, by decide +kernel, rfl, rfl, rfl, by decide +kernel⟩,
   ⟨(cmd []), (host 2), _, by decide +kernel, rfl, by decide +kernel⟩⟩

/-- The conditions of each clause of EngineArithmeticAndFlags are met. -/
theorem witness_EngineArithmeticAndFlags :
    (∃ (e : Fin 16) (d : Fin 16) (a : Fin 16) (z : Src) (k : Nat) (s : State) (b : Slot) (x : _) (y : _) (r : _), (s.performs e k pathBoth = true) ∧ (b = (s.bank e k).next) ∧ (x = b.xr a) ∧ (y = b.src z) ∧ (r = x + y)) ∧
    (∃ (e : Fin 16) (d : Fin 16) (a : Fin 16) (z : Src) (k : Nat) (s : State) (b : Slot) (x : _) (y : _) (r : _), (s.performs e k pathBoth = true) ∧ (b = (s.bank e k).next) ∧ (x = b.xr a) ∧ (y = b.src z) ∧ (r = x - y)) ∧
    (∃ (e : Fin 16) (d : Fin 16) (a : Fin 16) (z : Src) (k : Nat) (s : State) (b : Slot) (x : _) (y : _) (r : _), (s.performs e k pathBoth = true) ∧ (b = (s.bank e k).next) ∧ (x = b.xr a) ∧ (y = b.src z) ∧ (r = x &&& y)) ∧
    (∃ (e : Fin 16) (d : Fin 16) (a : Fin 16) (z : Src) (k : Nat) (s : State) (b : Slot) (x : _) (y : _) (r : _), (s.performs e k pathBoth = true) ∧ (b = (s.bank e k).next) ∧ (x = b.xr a) ∧ (y = b.src z) ∧ (r = x ||| y)) ∧
    (∃ (e : Fin 16) (d : Fin 16) (a : Fin 16) (z : Src) (k : Nat) (s : State) (b : Slot) (x : _) (y : _) (r : _), (s.performs e k pathBoth = true) ∧ (b = (s.bank e k).next) ∧ (x = b.xr a) ∧ (y = b.src z) ∧ (r = x ^^^ y)) ∧
    (∃ (e : Fin 16) (a : Fin 16) (z : Fin 16) (k : Nat) (s : State) (b : Slot) (x : _) (y : _) (r : _), (s.performs e k pathBoth = true) ∧ (b = (s.bank e k).next) ∧ (x = b.xr a) ∧ (y = b.xr z) ∧ (r = x - y)) ∧
    (∃ (e : Fin 16) (d : Fin 16) (a : Fin 16) (z : Fin 16) (k : Nat) (s : State) (b : Slot), (s.performs e k pathBoth = true) ∧ (b = (s.bank e k).next)) ∧
    (∃ (e : Fin 16) (d : Fin 16) (a : Fin 16) (z : Fin 16) (k : Nat) (s : State) (b : Slot), (s.performs e k pathBoth = true) ∧ (b = (s.bank e k).next)) ∧
    (∃ (e : Fin 16) (d : Fin 16) (a : Fin 16) (k : Nat) (s : State) (b : Slot), (s.performs e k pathBoth = true) ∧ (b = (s.bank e k).next)) ∧
    (∃ (e : Fin 16) (d : Fin 16) (a : Fin 16) (k : Nat) (s : State) (b : Slot), (s.performs e k pathBoth = true) ∧ (b = (s.bank e k).next)) :=
  ⟨⟨15, 15, 15, (.reg 15), 7, (running 1 Slot.reset), _, _, _, _, by decide +kernel, rfl, rfl, rfl, rfl⟩,
   ⟨15, 15, 15, (.reg 15), 7, (running 1 Slot.reset), _, _, _, _, by decide +kernel, rfl, rfl, rfl, rfl⟩,
   ⟨15, 15, 15, (.reg 15), 7, (running 1 Slot.reset), _, _, _, _, by decide +kernel, rfl, rfl, rfl, rfl⟩,
   ⟨15, 15, 15, (.reg 15), 7, (running 1 Slot.reset), _, _, _, _, by decide +kernel, rfl, rfl, rfl, rfl⟩,
   ⟨15, 15, 15, (.reg 15), 7, (running 1 Slot.reset), _, _, _, _, by decide +kernel, rfl, rfl, rfl, rfl⟩,
   ⟨15, 15, 15, 7, (running 1 Slot.reset), _, _, _, _, by decide +kernel, rfl, rfl, rfl, rfl⟩,
   ⟨15, 15, 15, 15, 7, (running 1 Slot.reset), _, by decide +kernel, rfl⟩,
   ⟨15, 15, 15, 15, 7, (running 1 Slot.reset), _, by decide +kernel, rfl⟩,
   ⟨15, 15, 15, 7, (running 1 Slot.reset), _, by decide +kernel, rfl⟩,
   ⟨15, 15, 15, 7, (running 1 Slot.reset), _, by decide +kernel, rfl⟩⟩

/-- The conditions of each clause of EngineMovesShiftsProducts are met. -/
theorem witness_EngineMovesShiftsProducts :
    (∃ (e : Fin 16) (d : Fin 16) (a : Fin 16) (k : Nat) (s : State) (b : Slot), (s.performs e k pathBoth = true) ∧ (b = (s.bank e k).next)) ∧
    (∃ (e : Fin 16) (d : Fin 16) (i : BitVec 16) (k : Nat) (s : State) (b : Slot), (s.performs e k pathBoth = true) ∧ (b = (s.bank e k).next)) ∧
    (∃ (e : Fin 16) (d : Fin 16) (i : BitVec 16) (k : Nat) (s : State) (b : Slot), (s.performs e k pathBoth = true) ∧ (b = (s.bank e k).next)) ∧
    (∃ (e : Fin 16) (d : Fin 16) (a : Fin 16) (n : Fin 32) (k : Nat) (s : State) (b : Slot), (s.performs e k pathBoth = true) ∧ (b = (s.bank e k).next)) ∧
    (∃ (e : Fin 16) (d : Fin 16) (a : Fin 16) (v : Fin 16) (k : Nat) (s : State) (b : Slot) (j : _), (s.performs e k pathBoth = true) ∧ (b = (s.bank e k).next) ∧ (j = (b.xr v).toNat)) ∧
    (∃ (e : Fin 16) (d : Fin 16) (a : Fin 16) (n : Fin 32) (k : Nat) (s : State) (b : Slot), (s.performs e k pathBoth = true) ∧ (b = (s.bank e k).next)) ∧
    (∃ (e : Fin 16) (d : Fin 16) (a : Fin 16) (v : Fin 16) (k : Nat) (s : State) (b : Slot) (j : _), (s.performs e k pathBoth = true) ∧ (b = (s.bank e k).next) ∧ (j = (b.xr v).toNat)) ∧
    (∃ (e : Fin 16) (d : Fin 16) (a : Fin 16) (n : Fin 32) (k : Nat) (s : State) (b : Slot), (s.performs e k pathBoth = true) ∧ (b = (s.bank e k).next)) ∧
    (∃ (e : Fin 16) (d : Fin 16) (a : Fin 16) (v : Fin 16) (k : Nat) (s : State) (b : Slot) (j : _), (s.performs e k pathBoth = true) ∧ (b = (s.bank e k).next) ∧ (j = (b.xr v).toNat)) ∧
    (∃ (e : Fin 16) (d : Fin 16) (a : Fin 16) (z : Fin 16) (k : Nat) (s : State) (b : Slot), (s.performs e k pathBoth = true) ∧ (b = (s.bank e k).next)) ∧
    (∃ (e : Fin 16) (d : Fin 16) (a : Fin 16) (z : Fin 16) (k : Nat) (s : State) (b : Slot), (s.performs e k pathBoth = true) ∧ (b = (s.bank e k).next)) ∧
    (∃ (e : Fin 16) (d : Fin 16) (a : Fin 16) (z : Fin 16) (k : Nat) (s : State) (b : Slot), (s.performs e k pathBoth = true) ∧ (b = (s.bank e k).next)) ∧
    (∃ (e : Fin 16) (d : Fin 16) (a : Fin 16) (z : Fin 16) (k : Nat) (s : State) (b : Slot), (s.performs e k pathBoth = true) ∧ (b = (s.bank e k).next) ∧ (b.xr z ≠ 0)) ∧
    (∃ (e : Fin 16) (d : Fin 16) (a : Fin 16) (z : Fin 16) (k : Nat) (s : State) (b : Slot), (s.performs e k pathBoth = true) ∧ (b = (s.bank e k).next) ∧ (b.xr z = 0)) ∧
    (∃ (e : Fin 16) (d : Fin 16) (a : Fin 16) (k : Nat) (s : State) (b : Slot), (s.performs e k pathBoth = true) ∧ (b = (s.bank e k).next)) ∧
    (∃ (e : Fin 16) (d : Fin 16) (a : Fin 16) (k : Nat) (s : State) (b : Slot), (s.performs e k pathBoth = true) ∧ (b = (s.bank e k).next) ∧ (0 < (b.xr a).toInt)) ∧
    (∃ (e : Fin 16) (d : Fin 16) (a : Fin 16) (k : Nat) (s : State) (b : Slot), (s.performs e k pathBoth = true) ∧ (b = (s.bank e k).next) ∧ ((b.xr a).toInt ≤ 0)) ∧
    (∃ (e : Fin 16) (d : Fin 16) (k : Nat) (s : State) (b : Slot), (s.performs e k pathBoth = true) ∧ (b = (s.bank e k).next)) ∧
    (∃ (e : Fin 16) (a : Fin 16) (k : Nat) (s : State) (b : Slot), (s.performs e k pathBoth = true) ∧ (b = (s.bank e k).next)) ∧
    (∃ (e : Fin 16) (k : Nat) (s : State) (b : Slot), (s.performs e k pathBoth = true) ∧ (b = (s.bank e k).next)) :=
  ⟨⟨15, 15, 15, 7, (running 1 Slot.reset), _, by decide +kernel, rfl⟩,
   ⟨15, 15, 0, 7, (running 1 Slot.reset), _, by decide +kernel, rfl⟩,
   ⟨15, 15, 0, 7, (running 1 Slot.reset), _, by decide +kernel, rfl⟩,
   ⟨15, 15, 15, 31, 7, (running 1 Slot.reset), _, by decide +kernel, rfl⟩,
   ⟨15, 15, 15, 15, 7, (running 1 Slot.reset), _, _, by decide +kernel, rfl, rfl⟩,
   ⟨15, 15, 15, 31, 7, (running 1 Slot.reset), _, by decide +kernel, rfl⟩,
   ⟨15, 15, 15, 15, 7, (running 1 Slot.reset), _, _, by decide +kernel, rfl, rfl⟩,
   ⟨15, 15, 15, 31, 7, (running 1 Slot.reset), _, by decide +kernel, rfl⟩,
   ⟨15, 15, 15, 15, 7, (running 1 Slot.reset), _, _, by decide +kernel, rfl, rfl⟩,
   ⟨15, 15, 15, 15, 7, (running 1 Slot.reset), _, by decide +kernel, rfl⟩,
   ⟨15, 15, 15, 15, 7, (running 1 Slot.reset), _, by decide +kernel, rfl⟩,
   ⟨15, 15, 15, 15, 7, (running 1 Slot.reset), _, by decide +kernel, rfl⟩,
   ⟨15, 15, 15, 15, 7, (running 1 (bank15 3)), _, by decide +kernel, rfl, by decide +kernel⟩,
   ⟨15, 15, 15, 15, 7, (running 1 Slot.reset), _, by decide +kernel, rfl, by decide +kernel⟩,
   ⟨15, 15, 15, 7, (running 1 Slot.reset), _, by decide +kernel, rfl⟩,
   ⟨15, 15, 15, 7, (running 1 (bank15 4)), _, by decide +kernel, rfl, by decide +kernel⟩,
   ⟨15, 15, 15, 7, (running 1 Slot.reset), _, by decide +kernel, rfl, by decide +kernel⟩,
   ⟨15, 15, 7, (running 1 Slot.reset), _, by decide +kernel, rfl⟩,
   ⟨15, 15, 7, (running 1 Slot.reset), _, by decide +kernel, rfl⟩,
   ⟨15, 7, (running 1 Slot.reset), _, by decide +kernel, rfl⟩⟩

/-- The conditions of each clause of EngineRunDatapath are met. -/
theorem witness_EngineRunDatapath :
    (∃ (e : Fin 16) (k : Nat) (s : State) (b : Slot) (v : _), (s.performs e k pathRun = true) ∧ (b = (s.bank e k).next) ∧ (v = (fun (_ : Nat) => (0 : Int)))) ∧
    (∃ (e : Fin 16) (f : Fin 8) (g : Fin 8) (k : Nat) (s : State) (b : Slot) (v : _), (s.performs e k pathRun = true) ∧ (b = (s.bank e k).next) ∧ (v = (fun (j : Nat) => ((lane (b.pair f) j * lane (b.pair g) j) : Int)))) ∧
    (∃ (e : Fin 16) (f : Fin 8) (g : Fin 8) (k : Nat) (s : State) (b : Slot) (v : _), (s.performs e k pathRun = true) ∧ (b = (s.bank e k).next) ∧ (v = (fun (j : Nat) => (((b.acc j).toInt + lane (b.pair f) j * lane (b.pair g) j) : Int)))) ∧
    (∃ (e : Fin 16) (f : Fin 8) (g : Fin 8) (k : Nat) (s : State) (b : Slot) (v : _), (s.performs e k pathRun = true) ∧ (b = (s.bank e k).next) ∧ (v = (fun (j : Nat) => (((b.acc j).toInt - lane (b.pair f) j * lane (b.pair g) j) : Int)))) ∧
    (∃ (e : Fin 16) (f : Fin 8) (g : Fin 8) (k : Nat) (s : State) (b : Slot) (v : _), (s.performs e k pathRun = true) ∧ (b = (s.bank e k).next) ∧ (v = (fun (j : Nat) => (((b.acc j).toInt + lane (b.pair f) j * lane (b.pair g) (if j % 2 = 0 then j + 1 else j - 1)) : Int)))) ∧
    (∃ (e : Fin 16) (j : Fin 4) (a : Fin 16) (ah : Bool) (z : Fin 16) (zh : Bool) (k : Nat) (s : State) (b : Slot) (v : _), (s.performs e k pathRun = true) ∧ (b = (s.bank e k).next) ∧ (v = (b.acc j).toInt + half (b.xr a) ah * half (b.xr z) zh)) ∧
    (∃ (e : Fin 16) (k : Nat) (s : State) (b : Slot) (v : _), (s.performs e k pathRun = true) ∧ (b = (s.bank e k).next) ∧ (v = (b.acc 0).toInt + (b.acc 1).toInt + (b.acc 2).toInt + (b.acc 3).toInt)) ∧
    (∃ (e : Fin 16) (d : Fin 8) (f : Fin 8) (g : Fin 8) (k : Nat) (s : State) (b : Slot) (v : _), (s.performs e k pathRun = true) ∧ (b = (s.bank e k).next) ∧ (v = (fun (j : Nat) => ((lane (b.pair f) j + lane (b.pair g) j) : Int)))) ∧
    (∃ (e : Fin 16) (d : Fin 8) (f : Fin 8) (g : Fin 8) (k : Nat) (s : State) (b : Slot) (v : _), (s.performs e k pathRun = true) ∧ (b = (s.bank e k).next) ∧ (v = (fun (j : Nat) => ((lane (b.pair f) j - lane (b.pair g) j) : Int)))) ∧
    (∃ (e : Fin 16) (d : Fin 8) (f : Fin 8) (k : Nat) (s : State) (b : Slot) (v : _), (s.performs e k pathRun = true) ∧ (b = (s.bank e k).next) ∧ (v = (fun (j : Nat) => (((lane (b.pair f) j).natAbs) : Int)))) ∧
    (∃ (e : Fin 16) (d : Fin 16) (j : Fin 4) (k : Nat) (s : State) (b : Slot) (v : _), (s.performs e k pathRun = true) ∧ (b = (s.bank e k).next) ∧ (v = scaleRound (b.acc j).toInt (sgn 4 (s.fld (F.CE_TASKCFG_SCALE e k))))) ∧
    (∃ (e : Fin 16) (d : Fin 16) (j : Fin 4) (n : BitVec 4) (k : Nat) (s : State) (b : Slot) (v : _), (s.performs e k pathRun = true) ∧ (b = (s.bank e k).next) ∧ (v = scaleRound (b.acc j).toInt (n.toInt))) ∧
    (∃ (e : Fin 16) (d : Fin 8) (k : Nat) (s : State) (b : Slot) (v : _), (s.performs e k pathRun = true) ∧ (b = (s.bank e k).next) ∧ (v = (fun (j : Nat) => scaleRound (b.acc j).toInt (sgn 4 (s.fld (F.CE_TASKCFG_SCALE e k)) - 15)))) :=
  ⟨⟨15, 7, (running 1 Slot.reset), _, _, by decide +kernel, rfl, rfl⟩,
   ⟨15, 7, 7, 7, (running 1 Slot.reset), _, _, by decide +kernel, rfl, rfl⟩,
   ⟨15, 7, 7, 7, (running 1 Slot.reset), _, _, by decide +kernel, rfl, rfl⟩,
   ⟨15, 7, 7, 7, (running 1 Slot.reset), _, _, by decide +kernel, rfl, rfl⟩,
   ⟨15, 7, 7, 7, (running 1 Slot.reset), _, _, by decide +kernel, rfl, rfl⟩,
   ⟨15, 3, 15, true, 15, true, 7, (running 1 Slot.reset), _, _, by decide +kernel, rfl, rfl⟩,
   ⟨15, 7, (running 1 Slot.reset), _, _, by decide +kernel, rfl, rfl⟩,
   ⟨15, 7, 7, 7, 7, (running 1 Slot.reset), _, _, by decide +kernel, rfl, rfl⟩,
   ⟨15, 7, 7, 7, 7, (running 1 Slot.reset), _, _, by decide +kernel, rfl, rfl⟩,
   ⟨15, 7, 7, 7, (running 1 Slot.reset), _, _, by decide +kernel, rfl, rfl⟩,
   ⟨15, 15, 3, 7, (running 1 Slot.reset), _, _, by decide +kernel, rfl, rfl⟩,
   ⟨15, 15, 3, 0, 7, (running 1 Slot.reset), _, _, by decide +kernel, rfl, rfl⟩,
   ⟨15, 7, 7, (running 1 Slot.reset), _, _, by decide +kernel, rfl, rfl⟩⟩

/-- The conditions of each clause of EnginePreciseDatapath are met. -/
theorem witness_EnginePreciseDatapath :
    (∃ (e : Fin 16) (j : Fin 2) (k : Nat) (s : State) (b : Slot) (v : _), (s.performs e k pathPrecise = true) ∧ (b = (s.bank e k).next) ∧ (v = ((0) : Int))) ∧
    (∃ (e : Fin 16) (j : Fin 2) (a : Fin 16) (z : Fin 16) (k : Nat) (s : State) (b : Slot) (v : _), (s.performs e k pathPrecise = true) ∧ (b = (s.bank e k).next) ∧ (v = (((((b.xr a).extractLsb' 0 24).toInt * ((b.xr z).extractLsb' 0 24).toInt)) : Int))) ∧
    (∃ (e : Fin 16) (j : Fin 2) (a : Fin 16) (z : Fin 16) (k : Nat) (s : State) (b : Slot) (v : _), (s.performs e k pathPrecise = true) ∧ (b = (s.bank e k).next) ∧ (v = (((b.pacc j).toInt + (((b.xr a).extractLsb' 0 24).toInt * ((b.xr z).extractLsb' 0 24).toInt)) : Int))) ∧
    (∃ (e : Fin 16) (j : Fin 2) (a : Fin 16) (z : Fin 16) (k : Nat) (s : State) (b : Slot) (v : _), (s.performs e k pathPrecise = true) ∧ (b = (s.bank e k).next) ∧ (v = (((b.pacc j).toInt - (((b.xr a).extractLsb' 0 24).toInt * ((b.xr z).extractLsb' 0 24).toInt)) : Int))) ∧
    (∃ (e : Fin 16) (k : Nat) (s : State) (b : Slot) (v : _), (s.performs e k pathPrecise = true) ∧ (b = (s.bank e k).next) ∧ (v = (((b.pacc 0).toInt + (b.pacc 1).toInt) : Int))) ∧
    (∃ (e : Fin 16) (j : Fin 2) (n : BitVec 5) (k : Nat) (s : State) (b : Slot) (v : _), (s.performs e k pathPrecise = true) ∧ (b = (s.bank e k).next) ∧ (v = ((if n.toInt < 0 then asr (b.pacc j).toInt n.toInt.natAbs else (b.pacc j).toInt * ((2 ^ n.toInt.toNat : Nat) : Int)) : Int))) ∧
    (∃ (e : Fin 16) (d : Fin 16) (j : Fin 2) (k : Nat) (s : State) (b : Slot) (v : _), (s.performs e k pathPrecise = true) ∧ (b = (s.bank e k).next) ∧ (v = scaleRound (b.pacc j).toInt (sgn 4 (s.fld (F.CE_TASKCFG_SCALE e k)) - 23))) ∧
    (∃ (e : Fin 16) (d : Fin 16) (j : Fin 2) (n : BitVec 4) (k : Nat) (s : State) (b : Slot) (v : _), (s.performs e k pathPrecise = true) ∧ (b = (s.bank e k).next) ∧ (v = scaleRound (b.pacc j).toInt (n.toInt - 23))) :=
  ⟨⟨15, 1, 7, (running 2 Slot.reset), _, _, by decide +kernel, rfl, rfl⟩,
   ⟨15, 1, 15, 15, 7, (running 2 Slot.reset), _, _, by decide +kernel, rfl, rfl⟩,
   ⟨15, 1, 15, 15, 7, (running 2 Slot.reset), _, _, by decide +kernel, rfl, rfl⟩,
   ⟨15, 1, 15, 15, 7, (running 2 Slot.reset), _, _, by decide +kernel, rfl, rfl⟩,
   ⟨15, 7, (running 2 Slot.reset), _, _, by decide +kernel, rfl, rfl⟩,
   ⟨15, 1, 0, 7, (running 2 Slot.reset), _, _, by decide +kernel, rfl, rfl⟩,
   ⟨15, 15, 1, 7, (running 2 Slot.reset), _, _, by decide +kernel, rfl, rfl⟩,
   ⟨15, 15, 1, 0, 7, (running 2 Slot.reset), _, _, by decide +kernel, rfl, rfl⟩⟩

/-- The conditions of each clause of EngineLoads are met. -/
theorem witness_EngineLoads :
    (∃ (e : Fin 16) (d : Fin 16) (m : Addr) (ecc : Fin 3) (k : Nat) (s : State) (b : Slot) (l : _), (s.performs e k pathBoth = true) ∧ (b = (s.bank e k).next) ∧ (l = b.bytesOf m 4) ∧ (l.any (fun a => !s.mayAccess e k false a) = true)) ∧
    (∃ (e : Fin 16) (d : Fin 16) (m : Addr) (ecc : Fin 3) (k : Nat) (s : State) (b : Slot) (l : _) (x : _), (s.performs e k pathBoth = true) ∧ (b = (s.bank e k).next) ∧ (l = b.bytesOf m 4) ∧ (l.any (fun a => !s.mayAccess e k false a) = false) ∧ (l.all dataMemory = true) ∧ (x = s.eccAt l ecc)) ∧
    (∃ (e : Fin 16) (d : Fin 16) (m : Addr) (ecc : Fin 3) (k : Nat) (s : State) (b : Slot) (l : _), (s.performs e k pathBoth = true) ∧ (b = (s.bank e k).next) ∧ (l = b.bytesOf m 4) ∧ (l.any (fun a => !s.mayAccess e k false a) = false) ∧ (l.all dataMemory = false)) ∧
    (∃ (e : Fin 16) (d : Fin 16) (m : Addr) (ecc : Fin 3) (k : Nat) (s : State) (b : Slot) (l : _), (s.performs e k pathBoth = true) ∧ (b = (s.bank e k).next) ∧ (l = b.bytesOf m 2) ∧ (l.any (fun a => !s.mayAccess e k false a) = true)) ∧
    (∃ (e : Fin 16) (d : Fin 16) (m : Addr) (ecc : Fin 3) (k : Nat) (s : State) (b : Slot) (l : _) (x : _), (s.performs e k pathBoth = true) ∧ (b = (s.bank e k).next) ∧ (l = b.bytesOf m 2) ∧ (l.any (fun a => !s.mayAccess e k false a) = false) ∧ (l.all dataMemory = true) ∧ (x = s.eccAt l ecc)) ∧
    (∃ (e : Fin 16) (d : Fin 16) (m : Addr) (ecc : Fin 3) (k : Nat) (s : State) (b : Slot) (l : _), (s.performs e k pathBoth = true) ∧ (b = (s.bank e k).next) ∧ (l = b.bytesOf m 2) ∧ (l.any (fun a => !s.mayAccess e k false a) = false) ∧ (l.all dataMemory = false)) ∧
    (∃ (e : Fin 16) (d : Fin 8) (m : Addr) (ecc : Fin 3) (k : Nat) (s : State) (b : Slot) (l : _), (s.performs e k pathBoth = true) ∧ (b = (s.bank e k).next) ∧ (l = b.bytesOf m 8) ∧ (l.any (fun a => !s.mayAccess e k false a) = true)) ∧
    (∃ (e : Fin 16) (d : Fin 8) (m : Addr) (ecc : Fin 3) (k : Nat) (s : State) (b : Slot) (l : _) (x : _), (s.performs e k pathBoth = true) ∧ (b = (s.bank e k).next) ∧ (l = b.bytesOf m 8) ∧ (l.any (fun a => !s.mayAccess e k false a) = false) ∧ (l.all dataMemory = true) ∧ (x = s.eccAt l ecc)) ∧
    (∃ (e : Fin 16) (d : Fin 8) (m : Addr) (ecc : Fin 3) (k : Nat) (s : State) (b : Slot) (l : _), (s.performs e k pathBoth = true) ∧ (b = (s.bank e k).next) ∧ (l = b.bytesOf m 8) ∧ (l.any (fun a => !s.mayAccess e k false a) = false) ∧ (l.all dataMemory = false)) ∧
    (∃ (e : Fin 16) (adv : Nat) (cnt : BitVec 18) (s : State) (t : State) (u : State) (v : State) (w : State) (d : Nat) (size : Nat) (k : Nat) (l : List Nat) (bad : Bool), (s.computeRuns = true) ∧ ((s.engine e).stall = .load d size l bad) ∧ (t = s.each ((s.engine e).lane.filter (fun p => p.island == islandOf (l.headD 0))) (fun p t => t.arrive p.bytes)) ∧ (u = (t.modEngine e (fun x => { x with lane := (s.engine e).lane.filter (fun p => p.island != islandOf (l.headD 0)) })).unstall e) ∧ (k = u.fld (F.CE_STAT_SLOT e)) ∧ (l.any (fun a => u.islandDown a) = false) ∧ (v = ((u.latchTime adv l).canCount l).measureLoads l) ∧ (w = (if bad && l.any contextMemory then v.assertEv 150 else v))) ∧
    (∃ (e : Fin 16) (adv : Nat) (cnt : BitVec 18) (s : State) (t : State) (u : State) (d : Nat) (size : Nat) (k : Nat) (l : List Nat) (bad : Bool), (s.computeRuns = true) ∧ ((s.engine e).stall = .load d size l bad) ∧ (t = s.each ((s.engine e).lane.filter (fun p => p.island == islandOf (l.headD 0))) (fun p t => t.arrive p.bytes)) ∧ (u = (t.modEngine e (fun x => { x with lane := (s.engine e).lane.filter (fun p => p.island != islandOf (l.headD 0)) })).unstall e) ∧ (k = u.fld (F.CE_STAT_SLOT e)) ∧ (l.any (fun a => u.islandDown a) = true)) :=
  ⟨⟨15, 15, (.post 7 4), 2, 7, (running 1 Slot.reset), _, _, by decide +kernel, rfl, rfl, by decide +kernel⟩,
   ⟨15, 15, (.post 7 4), 2, 7, (running 1 (bankPtr 0x303EFFFC)), _, _, _, by decide +kernel, rfl, rfl, by decide +kernel, by decide +kernel, rfl⟩,
   ⟨15, 15, (.post 7 4), 2, 7, (window (running 1 (bankPtr 0x10020000))), _, _, by decide +kernel, rfl, rfl, by decide +kernel⟩,
   ⟨15, 15, (.post 7 4), 2, 7, (running 1 Slot.reset), _, _, by decide +kernel, rfl, rfl, by decide +kernel⟩,
   ⟨15, 15, (.post 7 4), 2, 7, (running 1 (bankPtr 0x303EFFFC)), _, _, _, by decide +kernel, rfl, rfl, by decide +kernel, by decide +kernel, rfl⟩,
   ⟨15, 15, (.post 7 4), 2, 7, (window (running 1 (bankPtr 0x10020000))), _, _, by decide +kernel, rfl, rfl, by decide +kernel⟩,
   ⟨15, 7, (.post 7 4), 2, 7, (running 1 Slot.reset), _, _, by decide +kernel, rfl, rfl, by decide +kernel⟩,
   ⟨15, 7, (.post 7 4), 2, 7, (running 1 (bankPtr 0x303EFFF8)), _, _, _, by decide +kernel, rfl, rfl, by decide +kernel, by decide +kernel, rfl⟩,
   ⟨15, 7, (.post 7 4), 2, 7, (window (running 1 (bankPtr 0x10020000))), _, _, by decide +kernel, rfl, rfl, by decide +kernel⟩,
   ⟨15, 0, 0, (live.modEngine 15 (fun x => { x with stall := .load 15 4 [0x10020000] false })), _, _, _, _, 15, 4, _, [0x10020000], false, by decide +kernel, by decide +kernel, rfl, rfl, rfl, by decide +kernel, rfl, rfl⟩,
   ⟨15, 0, 0, ((live.modEngine 15 (fun x => { x with stall := .load 15 4 [0x40000000] false })).wr R.CLK_IRST 2), _, _, 15, 4, _, [0x40000000], false, by decide +kernel, by decide +kernel, rfl, rfl, rfl, by decide +kernel⟩⟩

/-- The conditions of each clause of EngineStores are met. -/
theorem witness_EngineStores :
    (∃ (e : Fin 16) (a : Fin 16) (m : Addr) (k : Nat) (s : State) (b : Slot) (l : _), (s.performs e k pathBoth = true) ∧ (b = (s.bank e k).next) ∧ (l = (b.bytesOf m (leBytes 4 (b.xr a).toNat).length).zip (leBytes 4 (b.xr a).toNat)) ∧ (l.any (fun x => !s.mayAccess e k true x.1) = true)) ∧
    (∃ (e : Fin 16) (a : Fin 16) (m : Addr) (k : Nat) (s : State) (b : Slot) (l : _), (s.performs e k pathBoth = true) ∧ (b = (s.bank e k).next) ∧ (l = (b.bytesOf m (leBytes 4 (b.xr a).toNat).length).zip (leBytes 4 (b.xr a).toNat)) ∧ (l.any (fun x => !s.mayAccess e k true x.1) = false) ∧ (l.all (fun x => ownData e x.1 || decide (0x40000000 ≤ x.1 ∧ x.1 < 0x40020000)) = true)) ∧
    (∃ (e : Fin 16) (a : Fin 16) (m : Addr) (k : Nat) (s : State) (b : Slot) (l : _), (s.performs e k pathBoth = true) ∧ (b = (s.bank e k).next) ∧ (l = (b.bytesOf m (leBytes 4 (b.xr a).toNat).length).zip (leBytes 4 (b.xr a).toNat)) ∧ (l.any (fun x => !s.mayAccess e k true x.1) = false) ∧ (l.all (fun x => ownData e x.1 || decide (0x40000000 ≤ x.1 ∧ x.1 < 0x40020000)) = false) ∧ ((s.engine e).lane.length < 8)) ∧
    (∃ (e : Fin 16) (a : Fin 16) (m : Addr) (k : Nat) (s : State) (b : Slot) (l : _), (s.performs e k pathBoth = true) ∧ (b = (s.bank e k).next) ∧ (l = (b.bytesOf m (leBytes 4 (b.xr a).toNat).length).zip (leBytes 4 (b.xr a).toNat)) ∧ (l.any (fun x => !s.mayAccess e k true x.1) = false) ∧ (l.all (fun x => ownData e x.1 || decide (0x40000000 ≤ x.1 ∧ x.1 < 0x40020000)) = false) ∧ (8 ≤ (s.engine e).lane.length)) ∧
    (∃ (e : Fin 16) (a : Fin 16) (m : Addr) (k : Nat) (s : State) (b : Slot) (l : _), (s.performs e k pathBoth = true) ∧ (b = (s.bank e k).next) ∧ (l = (b.bytesOf m (leBytes 2 (b.xr a).toNat).length).zip (leBytes 2 (b.xr a).toNat)) ∧ (l.any (fun x => !s.mayAccess e k true x.1) = true)) ∧
    (∃ (e : Fin 16) (a : Fin 16) (m : Addr) (k : Nat) (s : State) (b : Slot) (l : _), (s.performs e k pathBoth = true) ∧ (b = (s.bank e k).next) ∧ (l = (b.bytesOf m (leBytes 2 (b.xr a).toNat).length).zip (leBytes 2 (b.xr a).toNat)) ∧ (l.any (fun x => !s.mayAccess e k true x.1) = false) ∧ (l.all (fun x => ownData e x.1 || decide (0x40000000 ≤ x.1 ∧ x.1 < 0x40020000)) = true)) ∧
    (∃ (e : Fin 16) (a : Fin 16) (m : Addr) (k : Nat) (s : State) (b : Slot) (l : _), (s.performs e k pathBoth = true) ∧ (b = (s.bank e k).next) ∧ (l = (b.bytesOf m (leBytes 2 (b.xr a).toNat).length).zip (leBytes 2 (b.xr a).toNat)) ∧ (l.any (fun x => !s.mayAccess e k true x.1) = false) ∧ (l.all (fun x => ownData e x.1 || decide (0x40000000 ≤ x.1 ∧ x.1 < 0x40020000)) = false) ∧ ((s.engine e).lane.length < 8)) ∧
    (∃ (e : Fin 16) (a : Fin 16) (m : Addr) (k : Nat) (s : State) (b : Slot) (l : _), (s.performs e k pathBoth = true) ∧ (b = (s.bank e k).next) ∧ (l = (b.bytesOf m (leBytes 2 (b.xr a).toNat).length).zip (leBytes 2 (b.xr a).toNat)) ∧ (l.any (fun x => !s.mayAccess e k true x.1) = false) ∧ (l.all (fun x => ownData e x.1 || decide (0x40000000 ≤ x.1 ∧ x.1 < 0x40020000)) = false) ∧ (8 ≤ (s.engine e).lane.length)) ∧
    (∃ (e : Fin 16) (a : Fin 8) (m : Addr) (k : Nat) (s : State) (b : Slot) (l : _), (s.performs e k pathBoth = true) ∧ (b = (s.bank e k).next) ∧ (l = (b.bytesOf m (leBytes 8 (b.pair a).toNat).length).zip (leBytes 8 (b.pair a).toNat)) ∧ (l.any (fun x => !s.mayAccess e k true x.1) = true)) ∧
    (∃ (e : Fin 16) (a : Fin 8) (m : Addr) (k : Nat) (s : State) (b : Slot) (l : _), (s.performs e k pathBoth = true) ∧ (b = (s.bank e k).next) ∧ (l = (b.bytesOf m (leBytes 8 (b.pair a).toNat).length).zip (leBytes 8 (b.pair a).toNat)) ∧ (l.any (fun x => !s.mayAccess e k true x.1) = false) ∧ (l.all (fun x => ownData e x.1 || decide (0x40000000 ≤ x.1 ∧ x.1 < 0x40020000)) = true)) ∧
    (∃ (e : Fin 16) (a : Fin 8) (m : Addr) (k : Nat) (s : State) (b : Slot) (l : _), (s.performs e k pathBoth = true) ∧ (b = (s.bank e k).next) ∧ (l = (b.bytesOf m (leBytes 8 (b.pair a).toNat).length).zip (leBytes 8 (b.pair a).toNat)) ∧ (l.any (fun x => !s.mayAccess e k true x.1) = false) ∧ (l.all (fun x => ownData e x.1 || decide (0x40000000 ≤ x.1 ∧ x.1 < 0x40020000)) = false) ∧ ((s.engine e).lane.length < 8)) ∧
    (∃ (e : Fin 16) (a : Fin 8) (m : Addr) (k : Nat) (s : State) (b : Slot) (l : _), (s.performs e k pathBoth = true) ∧ (b = (s.bank e k).next) ∧ (l = (b.bytesOf m (leBytes 8 (b.pair a).toNat).length).zip (leBytes 8 (b.pair a).toNat)) ∧ (l.any (fun x => !s.mayAccess e k true x.1) = false) ∧ (l.all (fun x => ownData e x.1 || decide (0x40000000 ≤ x.1 ∧ x.1 < 0x40020000)) = false) ∧ (8 ≤ (s.engine e).lane.length)) ∧
    (∃ (e : Fin 16) (s : State) (p : _) (l : _), (s.computeRuns = true) ∧ ((s.engine e).lane = p :: l)) ∧
    (∃ (e : Fin 16) (s : State), (s.computeRuns = true) ∧ ((s.engine e).lane = [])) :=
  ⟨⟨15, 15, (.post 7 4), 7, (running 1 Slot.reset), _, _, by decide +kernel, rfl, rfl, by decide +kernel⟩,
   ⟨15, 15, (.post 7 4), 7, (running 1 (bankPtr 0x303EFFFC)), _, _, by decide +kernel, rfl, rfl, by decide +kernel⟩,
   ⟨15, 15, (.post 7 4), 7, (window (running 1 (bankPtr 0x10020000))), _, _, by decide +kernel, rfl, rfl, by decide +kernel⟩,
   ⟨15, 15, (.post 7 4), 7, ((window (running 1 (bankPtr 0x10020000))).modEngine 15 (fun x => { x with lane := List.replicate 8 ⟨[]⟩ })), _, _, by decide +kernel, rfl, rfl, by decide +kernel⟩,
   ⟨15, 15, (.post 7 4), 7, (running 1 Slot.reset), _, _, by decide +kernel, rfl, rfl, by decide +kernel⟩,
   ⟨15, 15, (.post 7 4), 7, (running 1 (bankPtr 0x303EFFFC)), _, _, by decide +kernel, rfl, rfl, by decide +kernel⟩,
   ⟨15, 15, (.post 7 4), 7, (window (running 1 (bankPtr 0x10020000))), _, _, by decide +kernel, rfl, rfl, by decide +kernel⟩,
   ⟨15, 15, (.post 7 4), 7, ((window (running 1 (bankPtr 0x10020000))).modEngine 15 (fun x => { x with lane := List.replicate 8 ⟨[]⟩ })), _, _, by decide +kernel, rfl, rfl, by decide +kernel⟩,
   ⟨15, 7, (.post 7 4), 7, (running 1 Slot.reset), _, _, by decide +kernel, rfl, rfl, by decide +kernel⟩,
   ⟨15, 7, (.post 7 4), 7, (running 1 (bankPtr 0x303EFFF8)), _, _, by decide +kernel, rfl, rfl, by decide +kernel⟩,
   ⟨15, 7, (.post 7 4), 7, (window (running 1 (bankPtr 0x10020000))), _, _, by decide +kernel, rfl, rfl, by decide +kernel⟩,
   ⟨15, 7, (.post 7 4), 7, ((window (running 1 (bankPtr 0x10020000))).modEngine 15 (fun x => { x with lane := List.replicate 8 ⟨[]⟩ })), _, _, by decide +kernel, rfl, rfl, by decide +kernel⟩,
   ⟨15, (live.modEngine 15 (fun x => { x with lane := [⟨[(0x10020000, 1)]⟩] })), ⟨[(0x10020000, 1)]⟩, [], by decide +kernel, rfl⟩,
   ⟨7, live, by decide +kernel⟩⟩

/-- The conditions of each clause of EnginePointersSlotsScans are met. -/
theorem witness_EnginePointersSlotsScans :
    (∃ (e : Fin 16) (p : Fin 8) (z : Fin 16) (y : Fin 16) (k : Nat) (s : State) (b : Slot) (n : _), (s.performs e k pathBoth = true) ∧ (b = (s.bank e k).next) ∧ (n = (b.xr y).toNat) ∧ (n % 2 = 1)) ∧
    (∃ (e : Fin 16) (p : Fin 8) (z : Fin 16) (y : Fin 16) (k : Nat) (s : State) (b : Slot) (n : _), (s.performs e k pathBoth = true) ∧ (b = (s.bank e k).next) ∧ (n = (b.xr y).toNat) ∧ (n % 2 = 0) ∧ (n ≤ 65534)) ∧
    (∃ (e : Fin 16) (p : Fin 8) (z : Fin 16) (y : Fin 16) (k : Nat) (s : State) (b : Slot) (n : _), (s.performs e k pathBoth = true) ∧ (b = (s.bank e k).next) ∧ (n = (b.xr y).toNat) ∧ (n % 2 = 0) ∧ (65534 < n)) ∧
    (∃ (e : Fin 16) (p : Fin 8) (i : Word) (k : Nat) (s : State) (b : Slot), (s.performs e k pathBoth = true) ∧ (b = (s.bank e k).next)) ∧
    (∃ (e : Fin 16) (d : Fin 16) (i : Fin 64) (k : Nat) (s : State) (b : Slot), (s.performs e k pathBoth = true) ∧ (b = (s.bank e k).next)) ∧
    (∃ (e : Fin 16) (x : Fin 16) (y : Fin 16) (k : Nat) (s : State) (b : Slot), (s.performs e k pathBoth = true) ∧ (b = (s.bank e k).next) ∧ (s.slotsValid e (b.xr x).toNat (b.xr y).toNat = true)) ∧
    (∃ (e : Fin 16) (x : Fin 16) (y : Fin 16) (k : Nat) (s : State) (b : Slot), (s.performs e k pathBoth = true) ∧ (b = (s.bank e k).next) ∧ (s.slotsValid e (b.xr x).toNat (b.xr y).toNat = false)) ∧
    (∃ (e : Fin 16) (j : Fin 16) (a : Fin 16) (k : Nat) (s : State) (b : Slot), (s.performs e k pathBoth = true) ∧ (b = (s.bank e k).next)) ∧
    (∃ (e : Fin 16) (d : Fin 16) (i : Fin 16) (p : Fin 8) (n : Nat) (ecc : Fin 3) (f : ScanAt) (k : Nat) (s : State) (w : State) (v : State) (b : Slot) (j0 : _) (j1 : _) (hit : _) (cnt : _) (l : _) (r : _) (ok : _) (x : _) (met : _), (s.performs e k pathBoth = true) ∧ (b = (s.bank e k).next) ∧ (1 ≤ n ∧ n ≤ 4096) ∧ (w = s.setBank e k b) ∧ (j0 = (match b.scan with | some x => x.1 | none => 0)) ∧ (j1 = (if f.stop = 0 then n else Nat.min n (j0 + 4 * f.stop))) ∧ (hit = (decide (j0 ≤ f.elem ∧ f.elem < j1) && w.elementOk e k p f.elem && (b.elementAt p f.elem).all dataMemory)) ∧ (w.draw = (cnt, v)) ∧ (l = (List.range (j1 - j0)).map (fun j => v.elementValue e k p (cnt % 2 ^ 18) (j0 + j) (hit && j0 + j == f.elem && ecc.val == 2))) ∧ (r = firstBest (fun v w => decide (w < v)) l j0 (match b.scan with | some x => x.2 | none => (l.headD 0, j0))) ∧ (ok = (List.range (j1 - j0)).all (fun j => v.elementOk e k p (j0 + j))) ∧ (x = v.setBank e k (if decide (j1 < n) then { b with pc := b.pc - 4, scan := some (j1, r) } else { (b.setX d (BitVec.ofInt 32 r.1)).setX i (BitVec.ofNat 32 r.2) with scan := none })) ∧ (met = (let x := if ok then x else x.rightsError e; (List.range (j1 - j0)).any (fun j => x.elementOk e k p (j0 + j) && (b.elementAt p (j0 + j)).all dataMemory && (b.elementAt p (j0 + j)).any x.badAt)))) ∧
    (∃ (e : Fin 16) (d : Fin 16) (i : Fin 16) (p : Fin 8) (n : Nat) (ecc : Fin 3) (f : ScanAt) (k : Nat) (s : State) (b : Slot), (s.performs e k pathBoth = true) ∧ (b = (s.bank e k).next) ∧ (n = 0 ∨ 4096 < n)) ∧
    (∃ (e : Fin 16) (d : Fin 16) (i : Fin 16) (p : Fin 8) (n : Nat) (ecc : Fin 3) (f : ScanAt) (k : Nat) (s : State) (w : State) (v : State) (b : Slot) (j0 : _) (j1 : _) (hit : _) (cnt : _) (l : _) (r : _) (ok : _) (x : _) (met : _), (s.performs e k pathBoth = true) ∧ (b = (s.bank e k).next) ∧ (1 ≤ n ∧ n ≤ 4096) ∧ (w = s.setBank e k b) ∧ (j0 = (match b.scan with | some x => x.1 | none => 0)) ∧ (j1 = (if f.stop = 0 then n else Nat.min n (j0 + 4 * f.stop))) ∧ (hit = (decide (j0 ≤ f.elem ∧ f.elem < j1) && w.elementOk e k p f.elem && (b.elementAt p f.elem).all dataMemory)) ∧ (w.draw = (cnt, v)) ∧ (l = (List.range (j1 - j0)).map (fun j => v.elementValue e k p (cnt % 2 ^ 18) (j0 + j) (hit && j0 + j == f.elem && ecc.val == 2))) ∧ (r = firstBest (fun v w => decide (v < w)) l j0 (match b.scan with | some x => x.2 | none => (l.headD 0, j0))) ∧ (ok = (List.range (j1 - j0)).all (fun j => v.elementOk e k p (j0 + j))) ∧ (x = v.setBank e k (if decide (j1 < n) then { b with pc := b.pc - 4, scan := some (j1, r) } else { (b.setX d (BitVec.ofInt 32 r.1)).setX i (BitVec.ofNat 32 r.2) with scan := none })) ∧ (met = (let x := if ok then x else x.rightsError e; (List.range (j1 - j0)).any (fun j => x.elementOk e k p (j0 + j) && (b.elementAt p (j0 + j)).all dataMemory && (b.elementAt p (j0 + j)).any x.badAt)))) ∧
    (∃ (e : Fin 16) (d : Fin 16) (i : Fin 16) (p : Fin 8) (n : Nat) (ecc : Fin 3) (f : ScanAt) (k : Nat) (s : State) (b : Slot), (s.performs e k pathBoth = true) ∧ (b = (s.bank e k).next) ∧ (n = 0 ∨ 4096 < n)) :=
  ⟨⟨15, 7, 15, 15, 7, (running 1 (bank15 3)), _, _, by decide +kernel, rfl, rfl, by decide +kernel⟩,
   ⟨15, 7, 15, 15, 7, (running 1 Slot.reset), _, _, by decide +kernel, rfl, rfl, by decide +kernel⟩,
   ⟨15, 7, 15, 15, 7, (running 1 (bank15 65536)), _, _, by decide +kernel, rfl, rfl, by decide +kernel⟩,
   ⟨15, 7, 0, 7, (running 1 Slot.reset), _, by decide +kernel, rfl⟩,
   ⟨15, 15, 63, 7, (running 1 Slot.reset), _, by decide +kernel, rfl⟩,
   ⟨15, 15, 15, 7, (running 1 Slot.reset), _, by decide +kernel, rfl, by decide +kernel⟩,
   ⟨15, 15, 15, 7, ((running 1 (bank15 1)).put (invalidFld 15 0) 1), _, by decide +kernel, rfl, by decide +kernel⟩,
   ⟨15, 15, 15, 7, (running 1 Slot.reset), _, by decide +kernel, rfl⟩,
   ⟨15, 15, 14, 7, 8, 0, ⟨1, 0⟩, 7, (running 1 (bankPtr 0x303EFFFC)), _, _, _, _, _, _, _, _, _, _, _, _, by decide +kernel, rfl, by decide +kernel, rfl, rfl, rfl, rfl, rfl, rfl, rfl, rfl, rfl, rfl⟩,
   ⟨15, 15, 14, 7, 4097, 0, ⟨1, 0⟩, 7, (running 1 Slot.reset), _, by decide +kernel, rfl, by decide +kernel⟩,
   ⟨15, 15, 14, 7, 8, 0, ⟨1, 0⟩, 7, (running 1 (bankPtr 0x303EFFFC)), _, _, _, _, _, _, _, _, _, _, _, _, by decide +kernel, rfl, by decide +kernel, rfl, rfl, rfl, rfl, rfl, rfl, rfl, rfl, rfl, rfl⟩,
   ⟨15, 15, 14, 7, 4097, 0, ⟨1, 0⟩, 7, (running 1 Slot.reset), _, by decide +kernel, rfl, by decide +kernel⟩⟩

/-- The conditions of each clause of EngineControlFlow are met. -/
theorem witness_EngineControlFlow :
    (∃ (e : Fin 16) (x : BitVec 17) (k : Nat) (s : State) (b : Slot), (s.performs e k pathBoth = true) ∧ (b = (s.bank e k).next)) ∧
    (∃ (e : Fin 16) (c : Cond) (x : BitVec 17) (k : Nat) (s : State) (b : Slot), (s.performs e k pathBoth = true) ∧ (b = (s.bank e k).next)) ∧
    (∃ (e : Fin 16) (x : BitVec 17) (k : Nat) (s : State) (b : Slot), (s.performs e k pathBoth = true) ∧ (b = (s.bank e k).next) ∧ (b.ret.length < 8)) ∧
    (∃ (e : Fin 16) (x : BitVec 17) (k : Nat) (s : State) (b : Slot), (s.performs e k pathBoth = true) ∧ (b = (s.bank e k).next) ∧ (8 ≤ b.ret.length)) ∧
    (∃ (e : Fin 16) (k : Nat) (s : State) (b : Slot) (a : _) (r : _), (s.performs e k pathBoth = true) ∧ (b = (s.bank e k).next) ∧ (b.ret = a :: r)) ∧
    (∃ (e : Fin 16) (k : Nat) (s : State) (b : Slot), (s.performs e k pathBoth = true) ∧ (b = (s.bank e k).next) ∧ (b.ret = [])) ∧
    (∃ (e : Fin 16) (n : Passes) (x : BitVec 17) (k : Nat) (s : State) (b : Slot) (c : _), (s.performs e k pathBoth = true) ∧ (b = (s.bank e k).next) ∧ (c = (match n with | .imm i => i.toNat | .reg r => (b.xr r).toNat)) ∧ (n ≠ .imm 0) ∧ (b.loops.length < 2) ∧ (1 ≤ c ∧ c ≤ 65535)) ∧
    (∃ (e : Fin 16) (n : Passes) (x : BitVec 17) (k : Nat) (s : State) (b : Slot), (s.performs e k pathBoth = true) ∧ (b = (s.bank e k).next) ∧ (n = .imm 0)) ∧
    (∃ (e : Fin 16) (n : Passes) (x : BitVec 17) (k : Nat) (s : State) (b : Slot), (s.performs e k pathBoth = true) ∧ (b = (s.bank e k).next) ∧ (n ≠ .imm 0) ∧ (2 ≤ b.loops.length)) ∧
    (∃ (e : Fin 16) (n : Passes) (x : BitVec 17) (k : Nat) (s : State) (b : Slot) (r : _), (s.performs e k pathBoth = true) ∧ (b = (s.bank e k).next) ∧ (n = .reg r) ∧ (b.loops.length < 2) ∧ ((b.xr r).toNat = 0 ∨ 65535 < (b.xr r).toNat)) ∧
    (∃ (e : Fin 16) (k : Nat) (s : State) (b : Slot), (s.performs e k pathBoth = true) ∧ (b = (s.bank e k).next)) ∧
    (∃ (e : Fin 16) (k : Nat) (s : State) (b : Slot), (s.performs e k pathBoth = true) ∧ (b = (s.bank e k).next)) :=
  ⟨⟨15, 0, 7, (running 1 Slot.reset), _, by decide +kernel, rfl⟩,
   ⟨15, .le, 0, 7, (running 1 Slot.reset), _, by decide +kernel, rfl⟩,
   ⟨15, 0, 7, (running 1 Slot.reset), _, by decide +kernel, rfl, by decide +kernel⟩,
   ⟨15, 0, 7, (running 1 { Slot.reset with ret := List.replicate 8 4 }), _, by decide +kernel, rfl, by decide +kernel⟩,
   ⟨15, 7, (running 1 { Slot.reset with ret := [8] }), _, 8, [], by decide +kernel, rfl, rfl⟩,
   ⟨15, 7, (running 1 Slot.reset), _, by decide +kernel, rfl, by decide +kernel⟩,
   ⟨15, (.imm 65535), 0, 7, (running 1 Slot.reset), _, _, by decide +kernel, rfl, rfl, by decide +kernel⟩,
   ⟨15, _, 0, 7, (running 1 Slot.reset), _, by decide +kernel, rfl, rfl⟩,
   ⟨15, (.imm 1), 0, 7, (running 1 { Slot.reset with loops := [(0, 4), (0, 8)] }), _, by decide +kernel, rfl, by decide +kernel⟩,
   ⟨15, (.reg 15), 0, 7, (running 1 Slot.reset), _, 15, by decide +kernel, rfl, by decide +kernel⟩,
   ⟨15, 7, (running 1 Slot.reset), _, by decide +kernel, rfl⟩,
   ⟨15, 7, (running 1 Slot.reset), _, by decide +kernel, rfl⟩⟩

end Sys2Proof.Tests
end

section
/-!
A host command that is served, at the level of exec: it answers what its step 8 answers (R271).
-/

namespace Sys2Proof.Machine

/-- A served command whose step 8, in the state `u` that it finds, answers `r` and leaves `t`: exec ends the command with that
answer. `hi` is the command's arm. -/
theorem exec_of_step8_answers {i : Instr} {s u t : State} {op : Nat} {c : HostCmd} {body : State → Reply × State} {r : Reply}
    (hi : exec i s = .next (State.hostCmd op c s body)) (hs : s.serves op c = true) (hu : u = s.atStep8 op c)
    (hb : body u = (r, t)) : exec i s = .next (t.finishHead c.ch.val r) := by
  subst hu
  rw [hi, State.hostCmd_serves hs, State.finishHead_done hb]

end Sys2Proof.Machine
end

section
/-!
The events of engine tasks and input slots.
-/

namespace Sys2Proof.Machine

/-- Settles O26: each clause's conditions are the guards of its command, so the guarded branch is taken. -/
theorem taskEventsComplete : Obligations.TaskEventsComplete := by
  unfold Obligations.TaskEventsComplete
  refine ⟨?_, ?_, ?_, ?_, ?_, ?_, ?_, ?_, ?_⟩
  · intro e k s hstart
    rw [exec_taskTrigger, execTaskTrigger, if_pos hstart]
  · intro e k s hstart
    rw [exec_taskTrigger, execTaskTrigger, if_neg (by simp [hstart])]
  · intro e ecc s t hon hstall ht hnone
    subst ht
    rw [exec_taskDispatch, execTaskDispatch, if_pos (by simp [hon, hstall])]
    simp only [hnone]
  · intro e ecc s t u k a hon hstall ht htop hu ha
    subst ha hu ht
    rw [exec_taskDispatch, execTaskDispatch, if_pos (by simp [hon, hstall])]
    simp only [htop, Bool.or_eq_true, beq_iff_eq]
  · intro e k s hrun hbudget hbusy
    rw [exec_taskBudgetAbort, execTaskBudgetAbort, if_pos (by simp [hrun, hbudget, hbusy])]
  · intro e ring s
    rw [exec_ceDoorbell, execCeDoorbell]
  · intro e s
    rw [exec_ceClrcnt, execCeClrcnt]
  · intro ty idx v s htype
    rw [exec_inputSlotPush, execInputSlotPush, if_pos (decide_eq_true htype)]
  · intro e k s hrun hwait hvalid
    rw [exec_waitvResume, execWaitvResume, if_pos (by simp [hrun, hwait, hvalid])]

end Sys2Proof.Machine
end

section
/-!
The events of carriers, edges, synchronisation and interval timers.
-/

namespace Sys2Proof.Machine

/-- Settles O30: each clause's conditions are the guards of its command; SYNC_MARK's clause names the values that its arm
computes on the way, the free value of a fraction included. -/
theorem carriersAndEdgesComplete : Obligations.CarriersAndEdgesComplete := by
  unfold Obligations.CarriersAndEdgesComplete
  refine ⟨?_, ?_, ?_, ?_, ?_, ?_, ?_, ?_, ?_, ?_, ?_, ?_, ?_⟩
  · intro c en s hrun
    rw [exec_carrierEnable, execCarrierEnable, if_pos hrun]
  · intro addr v s hrun
    rw [exec_shadowWrite, execShadowWrite, if_pos hrun]
  · intro c late s hrun
    rw [exec_ldall, execLdall, if_pos hrun]
  · intro c tight s hrun hpend
    rw [exec_edgeComputeDone, execEdgeComputeDone, if_pos (by simp [hrun, hpend])]
  · intro c tight s hrun hcarrier
    rw [exec_loadDeadlineEmission, execLoadDeadlineEmission, if_pos (by simp [hrun, hcarrier])]
  · intro c late s hrun hcarrier hdown
    rw [exec_carrierZero, execCarrierZero, if_pos (by simp [hrun, hcarrier, hdown])]
  · intro c s hrun hcarrier hup
    rw [exec_carrierPeak, execCarrierPeak, if_pos (by simp [hrun, hcarrier, hup])]
  · intro leg b s c hc hrun hlt hcarrier hramp hpass
    subst hc
    rw [exec_legCompareEvent, execLegCompareEvent]
    exact congrArg Host.Outcome.next (if_pos (by simp [hrun, hlt, hcarrier, hramp, hpass]))
  · intro leg s hrun
    rw [exec_legEdge, execLegEdge]
    exact congrArg Host.Outcome.next (if_pos hrun)
  · intro c at_ s t u src v ticks want k p hsrc hrun hcarrier hlead hmark hticks ht hwant hk hdraw hp
    subst hsrc hp hk hwant ht hticks
    rw [exec_syncMark, execSyncMark, if_pos (by simpa [hrun, hcarrier, hlead] using hmark)]
    simp only [beq_iff_eq]
    obtain ⟨rfl, rfl⟩ := Prod.ext_iff.mp hdraw
    rfl
  · intro c s src hsrc hrun hcarrier hlead hsel
    subst hsrc
    rw [exec_syncMiss, execSyncMiss]
    exact congrArg Host.Outcome.next (if_pos (by simpa [hrun, hcarrier, hlead] using hsel))
  · intro c s hrun
    rw [exec_cbClrcnt, execCbClrcnt, if_pos hrun]
  · intro k s hrun hen hstarted
    rw [exec_intervalTimerEvent, execIntervalTimerEvent, if_pos (by simp [hrun, hen, hstarted])]

end Sys2Proof.Machine
end

section
/-!
Register writes by SUP and the engine-code commands 0x80 to 0x88.
-/

namespace Sys2Proof.Machine

/-- Settles O51: a register write takes the branch of the address map that its conditions name; each engine-code command is
served, and its step 8 passes the refusals that its conditions exclude. -/
theorem busAndCodeLoadingComplete : Obligations.BusAndCodeLoadingComplete := by
  unfold Obligations.BusAndCodeLoadingComplete
  refine ⟨?_, ?_, ?_, ?_, ?_, ?_, ?_, ?_, ?_, ?_, ?_, ?_, ?_⟩
  · intro addr v s hrun hmap hup
    simp [execRegisterWrite, hrun, hmap, hup]
  · intro addr v s hrun hmap hdown
    simp [execRegisterWrite, hrun, hmap, hdown]
  · intro addr v s hrun hmap
    simp [execRegisterWrite, hrun, hmap]
  · intro c s u v mask len held hs hu hmask hlen hmode hclosed hfit hheld hv
    subst hmask hlen hheld hv
    refine exec_of_step8_answers (exec_engLoadBegin c s) hs hu ?_
    simp [hmode, hclosed, Nat.not_lt.mpr hfit, okReply]
  · intro c s u hs hu hmode hopen
    refine exec_of_step8_answers (exec_engLoadBegin c s) hs hu ?_
    simp [hmode, hopen, refuse]
  · intro c s u n bs l hs hu hn hbs hl hmode hopen hoffset hlong hfit
    subst hn hbs hl
    refine exec_of_step8_answers (exec_engLoadData c s) hs hu ?_
    simp [hmode, hopen, hoffset, hlong, hfit, okReply]
  · intro c s u l hs hu hl hmode hopen hlength
    subst hl
    by_cases hsigned : u.closeLoad.imageSigned u.engLoad.bytes = true
    · rw [if_pos hsigned]
      refine exec_of_step8_answers (exec_engLoadEnd c s) hs hu ?_
      simp [hmode, hopen, hlength, hsigned]
    · rw [if_neg hsigned]
      refine exec_of_step8_answers (exec_engLoadEnd c s) hs hu ?_
      simp [hmode, hopen, hsigned, refuse]
  · intro c s u v n h check hs hu hn hh hmode hslot himage hcheck
    subst hn hh
    by_cases hok : check = 0
    · rw [if_pos hok]
      refine exec_of_step8_answers (exec_engLoadStored c s) hs hu ?_
      simp [hmode, Nat.not_lt.mpr hslot, himage, hcheck, hok]
    · rw [if_neg hok]
      refine exec_of_step8_answers (exec_engLoadStored c s) hs hu ?_
      simp [hmode, Nat.not_lt.mpr hslot, himage, hcheck, hok]
  · intro c s u l hs hu hl hmode hfree
    subst hl
    refine exec_of_step8_answers (exec_engUnload c s) hs hu ?_
    simp only [hmode, hfree, okReply, Bool.not_true, Bool.false_eq_true, if_false]
  · intro c s u e ks en energised hs hu he hks hen henergised hmode hengine hpath
    subst he hks hen henergised
    refine exec_of_step8_answers (exec_engTaskEnable c s) hs hu ?_
    exact (if_neg (by simp only [hmode, Bool.not_true, Bool.false_eq_true, not_false_eq_true])).trans
      (if_neg (by simp only [hengine, hpath, decide_false, Bool.or_self, Bool.false_eq_true, not_false_eq_true]))
  · intro c s u e hs hu he hmode hengine
    subst he
    refine exec_of_step8_answers (exec_engStatus c s) hs hu ?_
    simp [hmode, hengine, okResult]
  · intro c s u e k hs hu he hk hmode hengine hslot hpath
    subst he hk
    refine exec_of_step8_answers (exec_engGrantRead c s) hs hu ?_
    simp [hmode, hengine, hslot, hpath]
  · intro c s u hs hu hmode
    refine exec_of_step8_answers (exec_engClearFlags c s) hs hu ?_
    simp [hmode, okReply]

end Sys2Proof.Machine
end

section
/-!
Stable properties along a run: what Laws/Stable*.lean proves command by command, for the dispatch and for a step.
-/

namespace Sys2Proof.Machine

/-- Every command keeps every stable property. -/
theorem exec_stable {P : State → Prop} (hP : Stable P) {i : Instr} {s t : State} (e : exec i s = .next t) (h : P s) : P t := by
  cases i with
  | sysNop => exact execSysNop_stable hP ((exec_sysNop ..).symm.trans e) h
  | sysId => exact execSysId_stable hP ((exec_sysId ..).symm.trans e) h
  | sysStatus => exact execSysStatus_stable hP ((exec_sysStatus ..).symm.trans e) h
  | sysMode => exact execSysMode_stable hP ((exec_sysMode ..).symm.trans e) h
  | sysReset => exact execSysReset_stable hP ((exec_sysReset ..).symm.trans e) h
  | sysWakecfg => exact execSysWakecfg_stable hP ((exec_sysWakecfg ..).symm.trans e) h
  | creditSet => exact execCreditSet_stable hP ((exec_creditSet ..).symm.trans e) h
  | bufAlloc => exact execBufAlloc_stable hP ((exec_bufAlloc ..).symm.trans e) h
  | bufFree => exact execBufFree_stable hP ((exec_bufFree ..).symm.trans e) h
  | rsvStatus => exact execRsvStatus_stable hP ((exec_rsvStatus ..).symm.trans e) h
  | rsvQuota => exact execRsvQuota_stable hP ((exec_rsvQuota ..).symm.trans e) h
  | chanStatus => exact execChanStatus_stable hP ((exec_chanStatus ..).symm.trans e) h
  | sysEcho => exact execSysEcho_stable hP ((exec_sysEcho ..).symm.trans e) h
  | sysLinkwd => exact execSysLinkwd_stable hP ((exec_sysLinkwd ..).symm.trans e) h
  | axConfig => exact execAxConfig_stable hP ((exec_axConfig ..).symm.trans e) h
  | axState => exact execAxState_stable hP ((exec_axState ..).symm.trans e) h
  | axRecover => exact execAxRecover_stable hP ((exec_axRecover ..).symm.trans e) h
  | axBridgeEn => exact execAxBridgeEn_stable hP ((exec_axBridgeEn ..).symm.trans e) h
  | axSetpoint => exact execAxSetpoint_stable hP ((exec_axSetpoint ..).symm.trans e) h
  | axLimits => exact execAxLimits_stable hP ((exec_axLimits ..).symm.trans e) h
  | axParamWrite => exact execAxParamWrite_stable hP ((exec_axParamWrite ..).symm.trans e) h
  | axParamRead => exact execAxParamRead_stable hP ((exec_axParamRead ..).symm.trans e) h
  | axStatus => exact execAxStatus_stable hP ((exec_axStatus ..).symm.trans e) h
  | axPositionSet => exact execAxPositionSet_stable hP ((exec_axPositionSet ..).symm.trans e) h
  | axCapture => exact execAxCapture_stable hP ((exec_axCapture ..).symm.trans e) h
  | wearTables => exact execWearTables_stable hP ((exec_wearTables ..).symm.trans e) h
  | wearRead => exact execWearRead_stable hP ((exec_wearRead ..).symm.trans e) h
  | wearRestore => exact execWearRestore_stable hP ((exec_wearRestore ..).symm.trans e) h
  | derateCfg => exact execDerateCfg_stable hP ((exec_derateCfg ..).symm.trans e) h
  | trajCtxWrite => exact execTrajCtxWrite_stable hP ((exec_trajCtxWrite ..).symm.trans e) h
  | trajCtxRead => exact execTrajCtxRead_stable hP ((exec_trajCtxRead ..).symm.trans e) h
  | trajAssign => exact execTrajAssign_stable hP ((exec_trajAssign ..).symm.trans e) h
  | trajStart => exact execTrajStart_stable hP ((exec_trajStart ..).symm.trans e) h
  | trajTarget => exact execTrajTarget_stable hP ((exec_trajTarget ..).symm.trans e) h
  | trajParam => exact execTrajParam_stable hP ((exec_trajParam ..).symm.trans e) h
  | trajStop => exact execTrajStop_stable hP ((exec_trajStop ..).symm.trans e) h
  | trajStatus => exact execTrajStatus_stable hP ((exec_trajStatus ..).symm.trans e) h
  | gearEngage => exact execGearEngage_stable hP ((exec_gearEngage ..).symm.trans e) h
  | gearTable => exact execGearTable_stable hP ((exec_gearTable ..).symm.trans e) h
  | gearDisengage => exact execGearDisengage_stable hP ((exec_gearDisengage ..).symm.trans e) h
  | vmasterSet => exact execVmasterSet_stable hP ((exec_vmasterSet ..).symm.trans e) h
  | puAxisCfg => exact execPuAxisCfg_stable hP ((exec_puAxisCfg ..).symm.trans e) h
  | acqProbe => exact execAcqProbe_stable hP ((exec_acqProbe ..).symm.trans e) h
  | acqSetCfg => exact execAcqSetCfg_stable hP ((exec_acqSetCfg ..).symm.trans e) h
  | acqTrigCfg => exact execAcqTrigCfg_stable hP ((exec_acqTrigCfg ..).symm.trans e) h
  | acqArm => exact execAcqArm_stable hP ((exec_acqArm ..).symm.trans e) h
  | acqDisarm => exact execAcqDisarm_stable hP ((exec_acqDisarm ..).symm.trans e) h
  | acqTrigger => exact execAcqTrigger_stable hP ((exec_acqTrigger ..).symm.trans e) h
  | acqStatus => exact execAcqStatus_stable hP ((exec_acqStatus ..).symm.trans e) h
  | acqRead => exact execAcqRead_stable hP ((exec_acqRead ..).symm.trans e) h
  | cascCfg => exact execCascCfg_stable hP ((exec_cascCfg ..).symm.trans e) h
  | cascPing => exact execCascPing_stable hP ((exec_cascPing ..).symm.trans e) h
  | cascStatus => exact execCascStatus_stable hP ((exec_cascStatus ..).symm.trans e) h
  | netPortCfg => exact execNetPortCfg_stable hP ((exec_netPortCfg ..).symm.trans e) h
  | netVlanCfg => exact execNetVlanCfg_stable hP ((exec_netVlanCfg ..).symm.trans e) h
  | netFdb => exact execNetFdb_stable hP ((exec_netFdb ..).symm.trans e) h
  | netIpCfg => exact execNetIpCfg_stable hP ((exec_netIpCfg ..).symm.trans e) h
  | netStatus => exact execNetStatus_stable hP ((exec_netStatus ..).symm.trans e) h
  | timeCfg => exact execTimeCfg_stable hP ((exec_timeCfg ..).symm.trans e) h
  | timeStatus => exact execTimeStatus_stable hP ((exec_timeStatus ..).symm.trans e) h
  | timeRestep => exact execTimeRestep_stable hP ((exec_timeRestep ..).symm.trans e) h
  | timeGrid => exact execTimeGrid_stable hP ((exec_timeGrid ..).symm.trans e) h
  | timeAlarm => exact execTimeAlarm_stable hP ((exec_timeAlarm ..).symm.trans e) h
  | netPortDelay => exact execNetPortDelay_stable hP ((exec_netPortDelay ..).symm.trans e) h
  | netVmBind => exact execNetVmBind_stable hP ((exec_netVmBind ..).symm.trans e) h
  | netWakeCfg => exact execNetWakeCfg_stable hP ((exec_netWakeCfg ..).symm.trans e) h
  | canCfg => exact execCanCfg_stable hP ((exec_canCfg ..).symm.trans e) h
  | canFilter => exact execCanFilter_stable hP ((exec_canFilter ..).symm.trans e) h
  | canStart => exact execCanStart_stable hP ((exec_canStart ..).symm.trans e) h
  | canTx => exact execCanTx_stable hP ((exec_canTx ..).symm.trans e) h
  | canTxCancel => exact execCanTxCancel_stable hP ((exec_canTxCancel ..).symm.trans e) h
  | canRxRead => exact execCanRxRead_stable hP ((exec_canRxRead ..).symm.trans e) h
  | canStatus => exact execCanStatus_stable hP ((exec_canStatus ..).symm.trans e) h
  | canBusoffRecover => exact execCanBusoffRecover_stable hP ((exec_canBusoffRecover ..).symm.trans e) h
  | fieldInCfg => exact execFieldInCfg_stable hP ((exec_fieldInCfg ..).symm.trans e) h
  | fieldInRead => exact execFieldInRead_stable hP ((exec_fieldInRead ..).symm.trans e) h
  | fieldOutCfg => exact execFieldOutCfg_stable hP ((exec_fieldOutCfg ..).symm.trans e) h
  | fieldOutSet => exact execFieldOutSet_stable hP ((exec_fieldOutSet ..).symm.trans e) h
  | fieldOutClear => exact execFieldOutClear_stable hP ((exec_fieldOutClear ..).symm.trans e) h
  | fieldStatus => exact execFieldStatus_stable hP ((exec_fieldStatus ..).symm.trans e) h
  | fieldWakeCfg => exact execFieldWakeCfg_stable hP ((exec_fieldWakeCfg ..).symm.trans e) h
  | faultRead => exact execFaultRead_stable hP ((exec_faultRead ..).symm.trans e) h
  | faultClear => exact execFaultClear_stable hP ((exec_faultClear ..).symm.trans e) h
  | faultRearm => exact execFaultRearm_stable hP ((exec_faultRearm ..).symm.trans e) h
  | faultReact => exact execFaultReact_stable hP ((exec_faultReact ..).symm.trans e) h
  | faultInfo => exact execFaultInfo_stable hP ((exec_faultInfo ..).symm.trans e) h
  | faultDomcfg => exact execFaultDomcfg_stable hP ((exec_faultDomcfg ..).symm.trans e) h
  | faultNotify => exact execFaultNotify_stable hP ((exec_faultNotify ..).symm.trans e) h
  | faultBist => exact execFaultBist_stable hP ((exec_faultBist ..).symm.trans e) h
  | evtRoute => exact execEvtRoute_stable hP ((exec_evtRoute ..).symm.trans e) h
  | sfmStatus => exact execSfmStatus_stable hP ((exec_sfmStatus ..).symm.trans e) h
  | engLoadBegin => exact execEngLoadBegin_stable hP ((exec_engLoadBegin ..).symm.trans e) h
  | engLoadData => exact execEngLoadData_stable hP ((exec_engLoadData ..).symm.trans e) h
  | engLoadEnd => exact execEngLoadEnd_stable hP ((exec_engLoadEnd ..).symm.trans e) h
  | engLoadStored => exact execEngLoadStored_stable hP ((exec_engLoadStored ..).symm.trans e) h
  | engUnload => exact execEngUnload_stable hP ((exec_engUnload ..).symm.trans e) h
  | engTaskEnable => exact execEngTaskEnable_stable hP ((exec_engTaskEnable ..).symm.trans e) h
  | engStatus => exact execEngStatus_stable hP ((exec_engStatus ..).symm.trans e) h
  | engGrantRead => exact execEngGrantRead_stable hP ((exec_engGrantRead ..).symm.trans e) h
  | engClearFlags => exact execEngClearFlags_stable hP ((exec_engClearFlags ..).symm.trans e) h
  | secStatus => exact execSecStatus_stable hP ((exec_secStatus ..).symm.trans e) h
  | secChallenge => exact execSecChallenge_stable hP ((exec_secChallenge ..).symm.trans e) h
  | secResponse => exact execSecResponse_stable hP ((exec_secResponse ..).symm.trans e) h
  | updBegin => exact execUpdBegin_stable hP ((exec_updBegin ..).symm.trans e) h
  | updData => exact execUpdData_stable hP ((exec_updData ..).symm.trans e) h
  | updEnd => exact execUpdEnd_stable hP ((exec_updEnd ..).symm.trans e) h
  | updAbort => exact execUpdAbort_stable hP ((exec_updAbort ..).symm.trans e) h
  | secLifecycle => exact execSecLifecycle_stable hP ((exec_secLifecycle ..).symm.trans e) h
  | secProvision => exact execSecProvision_stable hP ((exec_secProvision ..).symm.trans e) h
  | secArbAdvance => exact execSecArbAdvance_stable hP ((exec_secArbAdvance ..).symm.trans e) h
  | secSessionOpen => exact execSecSessionOpen_stable hP ((exec_secSessionOpen ..).symm.trans e) h
  | secSessionClose => exact execSecSessionClose_stable hP ((exec_secSessionClose ..).symm.trans e) h
  | secDebug => exact execSecDebug_stable hP ((exec_secDebug ..).symm.trans e) h
  | telCfg => exact execTelCfg_stable hP ((exec_telCfg ..).symm.trans e) h
  | telRead => exact execTelRead_stable hP ((exec_telRead ..).symm.trans e) h
  | telInv => exact execTelInv_stable hP ((exec_telInv ..).symm.trans e) h
  | scrubStatus => exact execScrubStatus_stable hP ((exec_scrubStatus ..).symm.trans e) h
  | scrubCfg => exact execScrubCfg_stable hP ((exec_scrubCfg ..).symm.trans e) h
  | hpRead => exact execHpRead_stable hP ((exec_hpRead ..).symm.trans e) h
  | hpWrite => exact execHpWrite_stable hP ((exec_hpWrite ..).symm.trans e) h
  | hpRdsr => exact execHpRdsr_stable hP ((exec_hpRdsr ..).symm.trans e) h
  | doorbellWrite => exact execDoorbellWrite_stable hP ((exec_doorbellWrite ..).symm.trans e) h
  | featCommit => exact execFeatCommit_stable hP ((exec_featCommit ..).symm.trans e) h
  | commandConsume => exact execCommandConsume_stable hP ((exec_commandConsume ..).symm.trans e) h
  | hostSessionDatagram => exact execHostSessionDatagram_stable hP ((exec_hostSessionDatagram ..).symm.trans e) h
  | sessionResponseResend => exact execSessionResponseResend_stable hP ((exec_sessionResponseResend ..).symm.trans e) h
  | sessionIdleClose => exact execSessionIdleClose_stable hP ((exec_sessionIdleClose ..).symm.trans e) h
  | modeRequest => exact execModeRequest_stable hP ((exec_modeRequest ..).symm.trans e) h
  | safeoffToRecovery => exact execSafeoffToRecovery_stable hP ((exec_safeoffToRecovery ..).symm.trans e) h
  | deratePoll => exact execDeratePoll_stable hP ((exec_deratePoll ..).symm.trans e) h
  | derateHoldExpiry => exact execDerateHoldExpiry_stable hP ((exec_derateHoldExpiry ..).symm.trans e) h
  | axisRestReached => exact execAxisRestReached_stable hP ((exec_axisRestReached ..).symm.trans e) h
  | stopTimeout => exact execStopTimeout_stable hP ((exec_stopTimeout ..).symm.trans e) h
  | hostLinkTimeout => exact execHostLinkTimeout_stable hP ((exec_hostLinkTimeout ..).symm.trans e) h
  | standbyRestCheckDone => exact execStandbyRestCheckDone_stable hP ((exec_standbyRestCheckDone ..).symm.trans e) h
  | wakeSource => exact execWakeSource_stable hP ((exec_wakeSource ..).symm.trans e) h
  | legsHeldReenable => exact execLegsHeldReenable_stable hP ((exec_legsHeldReenable ..).symm.trans e) h
  | mov => exact execMov_stable hP ((exec_mov ..).symm.trans e) h
  | movi => exact execMovi_stable hP ((exec_movi ..).symm.trans e) h
  | movhi => exact execMovhi_stable hP ((exec_movhi ..).symm.trans e) h
  | add => exact execAdd_stable hP ((exec_add ..).symm.trans e) h
  | sub => exact execSub_stable hP ((exec_sub ..).symm.trans e) h
  | and_ => exact execAnd_stable hP ((exec_and_ ..).symm.trans e) h
  | or_ => exact execOr_stable hP ((exec_or_ ..).symm.trans e) h
  | xor_ => exact execXor_stable hP ((exec_xor_ ..).symm.trans e) h
  | adds => exact execAdds_stable hP ((exec_adds ..).symm.trans e) h
  | subs => exact execSubs_stable hP ((exec_subs ..).symm.trans e) h
  | abs_ => exact execAbs_stable hP ((exec_abs_ ..).symm.trans e) h
  | neg_ => exact execNeg_stable hP ((exec_neg_ ..).symm.trans e) h
  | shl => exact execShl_stable hP ((exec_shl ..).symm.trans e) h
  | shr => exact execShr_stable hP ((exec_shr ..).symm.trans e) h
  | sra => exact execSra_stable hP ((exec_sra ..).symm.trans e) h
  | min_ => exact execMin_stable hP ((exec_min_ ..).symm.trans e) h
  | max_ => exact execMax_stable hP ((exec_max_ ..).symm.trans e) h
  | cmp => exact execCmp_stable hP ((exec_cmp ..).symm.trans e) h
  | mul => exact execMul_stable hP ((exec_mul ..).symm.trans e) h
  | divq => exact execDivq_stable hP ((exec_divq ..).symm.trans e) h
  | sincos => exact execSincos_stable hP ((exec_sincos ..).symm.trans e) h
  | rsq => exact execRsq_stable hP ((exec_rsq ..).symm.trans e) h
  | ld => exact execLd_stable hP ((exec_ld ..).symm.trans e) h
  | ldh => exact execLdh_stable hP ((exec_ldh ..).symm.trans e) h
  | ldv => exact execLdv_stable hP ((exec_ldv ..).symm.trans e) h
  | st => exact execSt_stable hP ((exec_st ..).symm.trans e) h
  | sth => exact execSth_stable hP ((exec_sth ..).symm.trans e) h
  | stv => exact execStv_stable hP ((exec_stv ..).symm.trans e) h
  | setc => exact execSetc_stable hP ((exec_setc ..).symm.trans e) h
  | addp => exact execAddp_stable hP ((exec_addp ..).symm.trans e) h
  | ldin => exact execLdin_stable hP ((exec_ldin ..).symm.trans e) h
  | waitv => exact execWaitv_stable hP ((exec_waitv ..).symm.trans e) h
  | waitvResume => exact execWaitvResume_stable hP ((exec_waitvResume ..).symm.trans e) h
  | probe => exact execProbe_stable hP ((exec_probe ..).symm.trans e) h
  | maxi => exact execMaxi_stable hP ((exec_maxi ..).symm.trans e) h
  | mini => exact execMini_stable hP ((exec_mini ..).symm.trans e) h
  | br => exact execBr_stable hP ((exec_br ..).symm.trans e) h
  | bcc => exact execBcc_stable hP ((exec_bcc ..).symm.trans e) h
  | call_ => exact execCall_stable hP ((exec_call_ ..).symm.trans e) h
  | ret_ => exact execRet_stable hP ((exec_ret_ ..).symm.trans e) h
  | loop_ => exact execLoop_stable hP ((exec_loop_ ..).symm.trans e) h
  | rdsr => exact execRdsr_stable hP ((exec_rdsr ..).symm.trans e) h
  | wrsr => exact execWrsr_stable hP ((exec_wrsr ..).symm.trans e) h
  | nop => exact execNop_stable hP ((exec_nop ..).symm.trans e) h
  | end_ => exact execEnd_stable hP ((exec_end_ ..).symm.trans e) h
  | vclr => exact execVclr_stable hP ((exec_vclr ..).symm.trans e) h
  | vmul => exact execVmul_stable hP ((exec_vmul ..).symm.trans e) h
  | vmac => exact execVmac_stable hP ((exec_vmac ..).symm.trans e) h
  | vmsu => exact execVmsu_stable hP ((exec_vmsu ..).symm.trans e) h
  | vmacx => exact execVmacx_stable hP ((exec_vmacx ..).symm.trans e) h
  | macl => exact execMacl_stable hP ((exec_macl ..).symm.trans e) h
  | vsum => exact execVsum_stable hP ((exec_vsum ..).symm.trans e) h
  | vadd => exact execVadd_stable hP ((exec_vadd ..).symm.trans e) h
  | vsub => exact execVsub_stable hP ((exec_vsub ..).symm.trans e) h
  | vabs => exact execVabs_stable hP ((exec_vabs ..).symm.trans e) h
  | mva => exact execMva_stable hP ((exec_mva ..).symm.trans e) h
  | mvas => exact execMvas_stable hP ((exec_mvas ..).symm.trans e) h
  | vmva => exact execVmva_stable hP ((exec_vmva ..).symm.trans e) h
  | pclr => exact execPclr_stable hP ((exec_pclr ..).symm.trans e) h
  | pmul => exact execPmul_stable hP ((exec_pmul ..).symm.trans e) h
  | pmac => exact execPmac_stable hP ((exec_pmac ..).symm.trans e) h
  | pmsu => exact execPmsu_stable hP ((exec_pmsu ..).symm.trans e) h
  | padd => exact execPadd_stable hP ((exec_padd ..).symm.trans e) h
  | psha => exact execPsha_stable hP ((exec_psha ..).symm.trans e) h
  | pmve => exact execPmve_stable hP ((exec_pmve ..).symm.trans e) h
  | pmves => exact execPmves_stable hP ((exec_pmves ..).symm.trans e) h
  | illegalInstruction => exact execIllegalInstruction_stable hP ((exec_illegalInstruction ..).symm.trans e) h
  | remoteLoadReturn => exact execRemoteLoadReturn_stable hP ((exec_remoteLoadReturn ..).symm.trans e) h
  | postedLaneRoom => exact execPostedLaneRoom_stable hP ((exec_postedLaneRoom ..).symm.trans e) h
  | taskTrigger => exact execTaskTrigger_stable hP ((exec_taskTrigger ..).symm.trans e) h
  | taskDispatch => exact execTaskDispatch_stable hP ((exec_taskDispatch ..).symm.trans e) h
  | taskBudgetAbort => exact execTaskBudgetAbort_stable hP ((exec_taskBudgetAbort ..).symm.trans e) h
  | ceDoorbell => exact execCeDoorbell_stable hP ((exec_ceDoorbell ..).symm.trans e) h
  | ceClrcnt => exact execCeClrcnt_stable hP ((exec_ceClrcnt ..).symm.trans e) h
  | inputSlotPush => exact execInputSlotPush_stable hP ((exec_inputSlotPush ..).symm.trans e) h
  | carrierZero => exact execCarrierZero_stable hP ((exec_carrierZero ..).symm.trans e) h
  | carrierPeak => exact execCarrierPeak_stable hP ((exec_carrierPeak ..).symm.trans e) h
  | shadowWrite => exact execShadowWrite_stable hP ((exec_shadowWrite ..).symm.trans e) h
  | ldall => exact execLdall_stable hP ((exec_ldall ..).symm.trans e) h
  | speedWordWrite => exact execSpeedWordWrite_stable hP ((exec_speedWordWrite ..).symm.trans e) h
  | edgeComputeDone => exact execEdgeComputeDone_stable hP ((exec_edgeComputeDone ..).symm.trans e) h
  | loadDeadlineEmission => exact execLoadDeadlineEmission_stable hP ((exec_loadDeadlineEmission ..).symm.trans e) h
  | legEdge => exact execLegEdge_stable hP ((exec_legEdge ..).symm.trans e) h
  | carrierEnable => exact execCarrierEnable_stable hP ((exec_carrierEnable ..).symm.trans e) h
  | syncMark => exact execSyncMark_stable hP ((exec_syncMark ..).symm.trans e) h
  | syncMiss => exact execSyncMiss_stable hP ((exec_syncMiss ..).symm.trans e) h
  | intervalTimerEvent => exact execIntervalTimerEvent_stable hP ((exec_intervalTimerEvent ..).symm.trans e) h
  | cbClrcnt => exact execCbClrcnt_stable hP ((exec_cbClrcnt ..).symm.trans e) h
  | sluiceRelease => exact execSluiceRelease_stable hP ((exec_sluiceRelease ..).symm.trans e) h
  | interlockTimeout => exact execInterlockTimeout_stable hP ((exec_interlockTimeout ..).symm.trans e) h
  | desatDetect => exact execDesatDetect_stable hP ((exec_desatDetect ..).symm.trans e) h
  | shuntOvercurrent => exact execShuntOvercurrent_stable hP ((exec_shuntOvercurrent ..).symm.trans e) h
  | bootstrapUv => exact execBootstrapUv_stable hP ((exec_bootstrapUv ..).symm.trans e) h
  | stoInput => exact execStoInput_stable hP ((exec_stoInput ..).symm.trans e) h
  | stoDiscrepancy => exact execStoDiscrepancy_stable hP ((exec_stoDiscrepancy ..).symm.trans e) h
  | spillwayStep2 => exact execSpillwayStep2_stable hP ((exec_spillwayStep2 ..).symm.trans e) h
  | safeStateReached => exact execSafeStateReached_stable hP ((exec_safeStateReached ..).symm.trans e) h
  | shortApplyFail => exact execShortApplyFail_stable hP ((exec_shortApplyFail ..).symm.trans e) h
  | effectiveEnableFall => exact execEffectiveEnableFall_stable hP ((exec_effectiveEnableFall ..).symm.trans e) h
  | effectiveEnableRise => exact execEffectiveEnableRise_stable hP ((exec_effectiveEnableRise ..).symm.trans e) h
  | glEnable => exact execGlEnable_stable hP ((exec_glEnable ..).symm.trans e) h
  | glReset => exact execGlReset_stable hP ((exec_glReset ..).symm.trans e) h
  | glCfgsend => exact execGlCfgsend_stable hP ((exec_glCfgsend ..).symm.trans e) h
  | trainAligned => exact execTrainAligned_stable hP ((exec_trainAligned ..).symm.trans e) h
  | bringupTimeout => exact execBringupTimeout_stable hP ((exec_bringupTimeout ..).symm.trans e) h
  | bringupFrameDue => exact execBringupFrameDue_stable hP ((exec_bringupFrameDue ..).symm.trans e) h
  | heartbeatDue => exact execHeartbeatDue_stable hP ((exec_heartbeatDue ..).symm.trans e) h
  | echoReceived => exact execEchoReceived_stable hP ((exec_echoReceived ..).symm.trans e) h
  | statusReceived => exact execStatusReceived_stable hP ((exec_statusReceived ..).symm.trans e) h
  | badFrameReceived => exact execBadFrameReceived_stable hP ((exec_badFrameReceived ..).symm.trans e) h
  | linkSilence => exact execLinkSilence_stable hP ((exec_linkSilence ..).symm.trans e) h
  | sinc3Result => exact execSinc3Result_stable hP ((exec_sinc3Result ..).symm.trans e) h
  | paWindowClose => exact execPaWindowClose_stable hP ((exec_paWindowClose ..).symm.trans e) h
  | paResultValid => exact execPaResultValid_stable hP ((exec_paResultValid ..).symm.trans e) h
  | modulatorFault => exact execModulatorFault_stable hP ((exec_modulatorFault ..).symm.trans e) h
  | fastComparatorDecision => exact execFastComparatorDecision_stable hP ((exec_fastComparatorDecision ..).symm.trans e) h
  | fastComparatorRelease => exact execFastComparatorRelease_stable hP ((exec_fastComparatorRelease ..).symm.trans e) h
  | offsetCalStep => exact execOffsetCalStep_stable hP ((exec_offsetCalStep ..).symm.trans e) h
  | adcSequenceStart => exact execAdcSequenceStart_stable hP ((exec_adcSequenceStart ..).symm.trans e) h
  | adcStepSample => exact execAdcStepSample_stable hP ((exec_adcStepSample ..).symm.trans e) h
  | adcResult => exact execAdcResult_stable hP ((exec_adcResult ..).symm.trans e) h
  | adcTrim => exact execAdcTrim_stable hP ((exec_adcTrim ..).symm.trans e) h
  | resolverPeak => exact execResolverPeak_stable hP ((exec_resolverPeak ..).symm.trans e) h
  | resangWrite => exact execResangWrite_stable hP ((exec_resangWrite ..).symm.trans e) h
  | encTransition => exact execEncTransition_stable hP ((exec_encTransition ..).symm.trans e) h
  | encIndex => exact execEncIndex_stable hP ((exec_encIndex ..).symm.trans e) h
  | ssiReadStart => exact execSsiReadStart_stable hP ((exec_ssiReadStart ..).symm.trans e) h
  | ssiReadDone => exact execSsiReadDone_stable hP ((exec_ssiReadDone ..).symm.trans e) h
  | captureTrigger => exact execCaptureTrigger_stable hP ((exec_captureTrigger ..).symm.trans e) h
  | captureArm => exact execCaptureArm_stable hP ((exec_captureArm ..).symm.trans e) h
  | setpointTimeout => exact execSetpointTimeout_stable hP ((exec_setpointTimeout ..).symm.trans e) h
  | wearPeriodUpdate => exact execWearPeriodUpdate_stable hP ((exec_wearPeriodUpdate ..).symm.trans e) h
  | wearIdleUpdate => exact execWearIdleUpdate_stable hP ((exec_wearIdleUpdate ..).symm.trans e) h
  | wearFlush => exact execWearFlush_stable hP ((exec_wearFlush ..).symm.trans e) h
  | wearRecordWriteback => exact execWearRecordWriteback_stable hP ((exec_wearRecordWriteback ..).symm.trans e) h
  | profileTick => exact execProfileTick_stable hP ((exec_profileTick ..).symm.trans e) h
  | referencePublish => exact execReferencePublish_stable hP ((exec_referencePublish ..).symm.trans e) h
  | ctxCommit => exact execCtxCommit_stable hP ((exec_ctxCommit ..).symm.trans e) h
  | puStart => exact execPuStart_stable hP ((exec_puStart ..).symm.trans e) h
  | puSwapnow => exact execPuSwapnow_stable hP ((exec_puSwapnow ..).symm.trans e) h
  | puStop => exact execPuStop_stable hP ((exec_puStop ..).symm.trans e) h
  | puQstop => exact execPuQstop_stable hP ((exec_puQstop ..).symm.trans e) h
  | puEngage => exact execPuEngage_stable hP ((exec_puEngage ..).symm.trans e) h
  | vmthWrite => exact execVmthWrite_stable hP ((exec_vmthWrite ..).symm.trans e) h
  | standstillEnter => exact execStandstillEnter_stable hP ((exec_standstillEnter ..).symm.trans e) h
  | stepperLegsReady => exact execStepperLegsReady_stable hP ((exec_stepperLegsReady ..).symm.trans e) h
  | stepClampReport => exact execStepClampReport_stable hP ((exec_stepClampReport ..).symm.trans e) h
  | sourceAssert => exact execSourceAssert_stable hP ((exec_sourceAssert ..).symm.trans e) h
  | axisStopFirmware => exact execAxisStopFirmware_stable hP ((exec_axisStopFirmware ..).symm.trans e) h
  | axisStopEscalation => exact execAxisStopEscalation_stable hP ((exec_axisStopEscalation ..).symm.trans e) h
  | axisSafeoffFirmware => exact execAxisSafeoffFirmware_stable hP ((exec_axisSafeoffFirmware ..).symm.trans e) h
  | settleMaskEnd => exact execSettleMaskEnd_stable hP ((exec_settleMaskEnd ..).symm.trans e) h
  | supHeartbeatKick => exact execSupHeartbeatKick_stable hP ((exec_supHeartbeatKick ..).symm.trans e) h
  | supWatchdogMiss => exact execSupWatchdogMiss_stable hP ((exec_supWatchdogMiss ..).symm.trans e) h
  | sfmResetRequest => exact execSfmResetRequest_stable hP ((exec_sfmResetRequest ..).symm.trans e) h
  | sfmConfigCheck => exact execSfmConfigCheck_stable hP ((exec_sfmConfigCheck ..).symm.trans e) h
  | sfmLockstepMismatch => exact execSfmLockstepMismatch_stable hP ((exec_sfmLockstepMismatch ..).symm.trans e) h
  | selfTestRetry => exact execSelfTestRetry_stable hP ((exec_selfTestRetry ..).symm.trans e) h
  | basinSample => exact execBasinSample_stable hP ((exec_basinSample ..).symm.trans e) h
  | probePush => exact execProbePush_stable hP ((exec_probePush ..).symm.trans e) h
  | basinRecordWrite => exact execBasinRecordWrite_stable hP ((exec_basinRecordWrite ..).symm.trans e) h
  | triggerDecision => exact execTriggerDecision_stable hP ((exec_triggerDecision ..).symm.trans e) h
  | exportBufferFill => exact execExportBufferFill_stable hP ((exec_exportBufferFill ..).symm.trans e) h
  | syncClkLoss => exact execSyncClkLoss_stable hP ((exec_syncClkLoss ..).symm.trans e) h
  | cascadeLaunch => exact execCascadeLaunch_stable hP ((exec_cascadeLaunch ..).symm.trans e) h
  | cascadeTriggerReceive => exact execCascadeTriggerReceive_stable hP ((exec_cascadeTriggerReceive ..).symm.trans e) h
  | trigIoStuck => exact execTrigIoStuck_stable hP ((exec_trigIoStuck ..).symm.trans e) h
  | pingAnswer => exact execPingAnswer_stable hP ((exec_pingAnswer ..).symm.trans e) h
  | pingRound => exact execPingRound_stable hP ((exec_pingRound ..).symm.trans e) h
  | frameReceive => exact execFrameReceive_stable hP ((exec_frameReceive ..).symm.trans e) h
  | internalPortFrame => exact execInternalPortFrame_stable hP ((exec_internalPortFrame ..).symm.trans e) h
  | gptpSyncReceived => exact execGptpSyncReceived_stable hP ((exec_gptpSyncReceived ..).symm.trans e) h
  | pdelayReqReceived => exact execPdelayReqReceived_stable hP ((exec_pdelayReqReceived ..).symm.trans e) h
  | syncLossTimeout => exact execSyncLossTimeout_stable hP ((exec_syncLossTimeout ..).symm.trans e) h
  | rateRequest => exact execRateRequest_stable hP ((exec_rateRequest ..).symm.trans e) h
  | timeStep => exact execTimeStep_stable hP ((exec_timeStep ..).symm.trans e) h
  | gridMarkSend => exact execGridMarkSend_stable hP ((exec_gridMarkSend ..).symm.trans e) h
  | alarmReached => exact execAlarmReached_stable hP ((exec_alarmReached ..).symm.trans e) h
  | wakeFrame => exact execWakeFrame_stable hP ((exec_wakeFrame ..).symm.trans e) h
  | vmDatagram => exact execVmDatagram_stable hP ((exec_vmDatagram ..).symm.trans e) h
  | tsqPop => exact execTsqPop_stable hP ((exec_tsqPop ..).symm.trans e) h
  | canFrameReceived => exact execCanFrameReceived_stable hP ((exec_canFrameReceived ..).symm.trans e) h
  | qheadLock => exact execQheadLock_stable hP ((exec_qheadLock ..).symm.trans e) h
  | queueRelease => exact execQueueRelease_stable hP ((exec_queueRelease ..).symm.trans e) h
  | spillDone => exact execSpillDone_stable hP ((exec_spillDone ..).symm.trans e) h
  | txRequest => exact execTxRequest_stable hP ((exec_txRequest ..).symm.trans e) h
  | txCancel => exact execTxCancel_stable hP ((exec_txCancel ..).symm.trans e) h
  | txAttemptEnd => exact execTxAttemptEnd_stable hP ((exec_txAttemptEnd ..).symm.trans e) h
  | busOff => exact execBusOff_stable hP ((exec_busOff ..).symm.trans e) h
  | busoffRecovered => exact execBusoffRecovered_stable hP ((exec_busoffRecovered ..).symm.trans e) h
  | stuckDominant => exact execStuckDominant_stable hP ((exec_stuckDominant ..).symm.trans e) h
  | inputRawChange => exact execInputRawChange_stable hP ((exec_inputRawChange ..).symm.trans e) h
  | inputEdge => exact execInputEdge_stable hP ((exec_inputEdge ..).symm.trans e) h
  | pulseSample => exact execPulseSample_stable hP ((exec_pulseSample ..).symm.trans e) h
  | wireBreakMeasure => exact execWireBreakMeasure_stable hP ((exec_wireBreakMeasure ..).symm.trans e) h
  | outputOverloadTrip => exact execOutputOverloadTrip_stable hP ((exec_outputOverloadTrip ..).symm.trans e) h
  | outputThermalShutdown => exact execOutputThermalShutdown_stable hP ((exec_outputThermalShutdown ..).symm.trans e) h
  | openLoadDetect => exact execOpenLoadDetect_stable hP ((exec_openLoadDetect ..).symm.trans e) h
  | vfldMeasure => exact execVfldMeasure_stable hP ((exec_vfldMeasure ..).symm.trans e) h
  | vfldThreshold => exact execVfldThreshold_stable hP ((exec_vfldThreshold ..).symm.trans e) h
  | scrubRead => exact execScrubRead_stable hP ((exec_scrubRead ..).symm.trans e) h
  | telemetryDue => exact execTelemetryDue_stable hP ((exec_telemetryDue ..).symm.trans e) h
  | nonceExpiry => exact execNonceExpiry_stable hP ((exec_nonceExpiry ..).symm.trans e) h
  | authLockExpiry => exact execAuthLockExpiry_stable hP ((exec_authLockExpiry ..).symm.trans e) h
  | tapSecChal => exact execTapSecChal_stable hP ((exec_tapSecChal ..).symm.trans e) h
  | tapSecOpen => exact execTapSecOpen_stable hP ((exec_tapSecOpen ..).symm.trans e) h
  | tapIdcode => exact execTapIdcode_stable hP ((exec_tapIdcode ..).symm.trans e) h
  | tapBypass => exact execTapBypass_stable hP ((exec_tapBypass ..).symm.trans e) h
  | tapExtest => exact execTapExtest_stable hP ((exec_tapExtest ..).symm.trans e) h
  | tapSamplePreload => exact execTapSamplePreload_stable hP ((exec_tapSamplePreload ..).symm.trans e) h
  | debugHalt => exact execDebugHalt_stable hP ((exec_debugHalt ..).symm.trans e) h
  | trstLow => exact execTrstLow_stable hP ((exec_trstLow ..).symm.trans e) h
  | porstAssert => exact execPorstAssert_stable hP ((exec_porstAssert ..).symm.trans e) h
  | warmReset => exact execWarmReset_stable hP ((exec_warmReset ..).symm.trans e) h
  | resetRelease => exact execResetRelease_stable hP ((exec_resetRelease ..).symm.trans e) h
  | strapLatch => exact execStrapLatch_stable hP ((exec_strapLatch ..).symm.trans e) h
  | pllLock => exact execPllLock_stable hP ((exec_pllLock ..).symm.trans e) h
  | pllLockRetry => exact execPllLockRetry_stable hP ((exec_pllLockRetry ..).symm.trans e) h
  | memoryClearDone => exact execMemoryClearDone_stable hP ((exec_memoryClearDone ..).symm.trans e) h
  | firmwareImageChecked => exact execFirmwareImageChecked_stable hP ((exec_firmwareImageChecked ..).symm.trans e) h
  | islandResetWrite => exact execIslandResetWrite_stable hP ((exec_islandResetWrite ..).symm.trans e) h
  | islandResetAccess => exact execIslandResetAccess_stable hP ((exec_islandResetAccess ..).symm.trans e) h
  | mainClockLoss => exact execMainClockLoss_stable hP ((exec_mainClockLoss ..).symm.trans e) h
  | safetyClockLoss => exact execSafetyClockLoss_stable hP ((exec_safetyClockLoss ..).symm.trans e) h
  | clockFaultReset => exact execClockFaultReset_stable hP ((exec_clockFaultReset ..).symm.trans e) h
  | referenceMismatchWindow => exact execReferenceMismatchWindow_stable hP ((exec_referenceMismatchWindow ..).symm.trans e) h
  | x32Loss => exact execX32Loss_stable hP ((exec_x32Loss ..).symm.trans e) h
  | forwardedClockStop => exact execForwardedClockStop_stable hP ((exec_forwardedClockStop ..).symm.trans e) h
  | supplyWarning => exact execSupplyWarning_stable hP ((exec_supplyWarning ..).symm.trans e) h
  | vdrvOutOfRange => exact execVdrvOutOfRange_stable hP ((exec_vdrvOutOfRange ..).symm.trans e) h
  | vdrvCollapse => exact execVdrvCollapse_stable hP ((exec_vdrvCollapse ..).symm.trans e) h
  | dieTempUpdate => exact execDieTempUpdate_stable hP ((exec_dieTempUpdate ..).symm.trans e) h
  | enDlNChange => exact execEnDlNChange_stable hP ((exec_enDlNChange ..).symm.trans e) h
  | registerWrite => exact execRegisterWrite_stable hP ((exec_registerWrite ..).symm.trans e) h
  | legCompareEvent => exact execLegCompareEvent_stable hP ((exec_legCompareEvent ..).symm.trans e) h
  | syncClkEdge => exact execSyncClkEdge_stable hP ((exec_syncClkEdge ..).symm.trans e) h
  | stoInputHigh => exact execStoInputHigh_stable hP ((exec_stoInputHigh ..).symm.trans e) h
  | vdrvInRange => exact execVdrvInRange_stable hP ((exec_vdrvInRange ..).symm.trans e) h
  | portLinkChange => exact execPortLinkChange_stable hP ((exec_portLinkChange ..).symm.trans e) h
  | canBusError => exact execCanBusError_stable hP ((exec_canBusError ..).symm.trans e) h
  | busIntegrationDone => exact execBusIntegrationDone_stable hP ((exec_busIntegrationDone ..).symm.trans e) h
  | rxReadWaitEnd => exact execRxReadWaitEnd_stable hP ((exec_rxReadWaitEnd ..).symm.trans e) h
  | symbolError => exact execSymbolError_stable hP ((exec_symbolError ..).symm.trans e) h
  | virtualMasterTimeout => exact execVirtualMasterTimeout_stable hP ((exec_virtualMasterTimeout ..).symm.trans e) h
  | fdbAgeing => exact execFdbAgeing_stable hP ((exec_fdbAgeing ..).symm.trans e) h
  | frameEgress => exact execFrameEgress_stable hP ((exec_frameEgress ..).symm.trans e) h
  | gptpTimerDue => exact execGptpTimerDue_stable hP ((exec_gptpTimerDue ..).symm.trans e) h
  | pdelayRespReceived => exact execPdelayRespReceived_stable hP ((exec_pdelayRespReceived ..).symm.trans e) h
  | announceReceived => exact execAnnounceReceived_stable hP ((exec_announceReceived ..).symm.trans e) h
  | dieLinkParityError => exact execDieLinkParityError_stable hP ((exec_dieLinkParityError ..).symm.trans e) h

/-- A step keeps every stable property that taking the front command off the queue keeps. -/
theorem step_stable {P : State → Prop} (hP : Stable P) {s t : State} (e : step s = .next t) (h : P s)
    (hpop : ∀ c rest, s.pending = c :: rest → P (s.withPending rest)) : P t := by
  unfold step at e
  split at e
  next => exact Host.Outcome.next.inj e ▸ h
  next c rest hq => exact exec_stable hP e (hpop c rest hq)

/-- Settles O2: the canonical form is stable, and taking a command off the queue touches none of the stores. -/
theorem everyStepKeepsSound : Obligations.EveryStepKeepsSound := by
  unfold Obligations.EveryStepKeepsSound
  intro s t hs e
  refine step_stable State.Sound.stable e hs ?_
  intro _ rest _
  exact ⟨hs.regs, hs.mem, hs.flash⟩

end Sys2Proof.Machine
end

section
/-!
The address map as a list of ranges (spec/01, "Address map") and as the test that the bus makes (R19).
-/

namespace Sys2Proof.Machine

/-- Some range of `l` holds the address `a`. -/
def Covers (l : List (Nat × Nat)) (a : Nat) : Prop := ∃ r ∈ l, r.1 ≤ a ∧ a ≤ r.2

@[simp] theorem covers_nil (a : Nat) : ¬ Covers [] a := by simp [Covers]

@[simp] theorem covers_cons (r : Nat × Nat) (l : List (Nat × Nat)) (a : Nat) :
    Covers (r :: l) a ↔ r.1 ≤ a ∧ a ≤ r.2 ∨ Covers l a := by simp [Covers]

@[simp] theorem covers_append (l m : List (Nat × Nat)) (a : Nat) : Covers (l ++ m) a ↔ Covers l a ∨ Covers m a := by
  simp only [Covers, List.mem_append, or_and_right, exists_or]

@[simp] theorem covers_flatMap_range (f : Nat → List (Nat × Nat)) (k a : Nat) :
    Covers ((List.range k).flatMap f) a ↔ ∃ n < k, Covers (f n) a := by
  simp only [Covers, List.mem_flatMap, List.mem_range]
  exact ⟨fun ⟨r, ⟨n, hn, hr⟩, ha⟩ => ⟨n, hn, r, hr, ha⟩, fun ⟨n, hn, r, hr, ha⟩ => ⟨r, ⟨n, hn, hr⟩, ha⟩⟩

@[simp] theorem covers_map_range (f : Nat → Nat × Nat) (k a : Nat) :
    Covers ((List.range k).map f) a ↔ ∃ n < k, (f n).1 ≤ a ∧ a ≤ (f n).2 := by
  simp [Covers]

/-- One window, from `first` to `last` in the block at `base`, in each of `k` blocks of `size` bytes: the block number gives way to
the offset within a block. -/
theorem exists_window_iff (first last base size k a : Nat) (hdvd : size ∣ base) (hfirst : base ≤ first)
    (hlast : last < base + size) :
    (∃ n < k, first + n * size ≤ a ∧ a ≤ last + n * size) ↔
      (base ≤ a ∧ a < base + k * size) ∧ first ≤ base + a % size ∧ base + a % size ≤ last := by
  have offset : ∀ {n r : Nat}, r < size → a = base + n * size + r → a % size = r := by
    rintro n r hr rfl
    rw [Nat.add_mod, Nat.add_mul_mod_self_right, Nat.mod_eq_zero_of_dvd hdvd, Nat.zero_add, Nat.mod_mod, Nat.mod_eq_of_lt hr]
  constructor
  · rintro ⟨n, hn, hlo, hhi⟩
    have hblocks : (n + 1) * size ≤ k * size := Nat.mul_le_mul_right size hn
    rw [Nat.succ_mul] at hblocks
    rw [offset (n := n) (r := a - (base + n * size)) (by omega) (by omega)]
    omega
  · rintro ⟨⟨hbase, hend⟩, hlo, hhi⟩
    have hsize : 0 < size := by omega
    have hdiv := Nat.div_add_mod' (a - base) size
    have hmod := offset (Nat.mod_lt (a - base) hsize) (n := (a - base) / size) (by omega)
    exact ⟨(a - base) / size, (Nat.div_lt_iff_lt_mul hsize).mpr (by omega), by omega, by omega⟩

/-- The bus finds an address in the map exactly when a range of the spec's address map holds it. -/
theorem inMap_iff_covers (a : Nat) : inMap a = true ↔ Covers addressMap a := by
  have prog := exists_window_iff 0x30000000 0x30017FFF 0x30000000 0x40000 16 a (by decide) (by decide) (by decide)
  have data := exists_window_iff 0x30020000 0x3002FFFF 0x30000000 0x40000 16 a (by decide) (by decide) (by decide)
  have control := exists_window_iff 0x30030000 0x30030FFF 0x30000000 0x40000 16 a (by decide) (by decide) (by decide)
  have links := exists_window_iff 0x40020000 0x400207FF 0x40020000 0x800 16 a (by decide) (by decide) (by decide)
  have cans := exists_window_iff 0x60020000 0x60020FFF 0x60020000 0x1000 8 a (by decide) (by decide) (by decide)
  simp only [addressMap, covers_append, covers_cons, covers_nil, covers_flatMap_range, covers_map_range, or_false, and_or_left,
    exists_or, prog, data, control, links, cans]
  simp only [inMap, plainMemory, engineMemory, registerRegions, List.any_cons, List.any_nil, Bool.or_eq_true, Bool.and_eq_true,
    decide_eq_true_eq, Bool.or_false]
  constructor
  · simp only [or_imp]
    and_intros <;> omega
  · simp only [or_imp]
    and_intros <;> omega

end Sys2Proof.Machine
end

section
/-!
Which commands answer a next state.
-/

namespace Sys2Proof.Machine

/-- Every meaning but that of REGISTER_WRITE is a next state on all paths (assumption log 42). -/
theorem exec_completes {i : Instr} (s : State) (h : ∀ a v, i ≠ .registerWrite a v) : ∃ t, exec i s = .next t := by
  cases i with
  | registerWrite a v => exact absurd rfl (h a v)
  | spillwayStep2 tgt => cases tgt <;> exact ⟨_, rfl⟩
  | safeStateReached tgt => cases tgt <;> exact ⟨_, rfl⟩
  | settleMaskEnd m => cases m <;> exact ⟨_, rfl⟩
  | _ => exact ⟨_, rfl⟩

/-- A write outside the address map is a bus error (R19). -/
theorem exec_registerWrite_outside {a : Nat} (v : Word) {s : State} (hrun : s.supRuns = true) (hmap : inMap a = false) :
    exec (.registerWrite a v) s = .fault .busError := by
  simp [execRegisterWrite, hrun, hmap]

/-- A write that SUP does not make, or makes inside the address map, answers a next state, also where its island is down. -/
theorem exec_registerWrite_completes {a : Nat} (v : Word) {s : State} (h : s.supRuns = false ∨ inMap a = true) :
    ∃ t, exec (.registerWrite a v) s = .next t := by
  rw [exec_registerWrite, execRegisterWrite]
  cases hrun : s.supRuns with
  | false => exact ⟨s, rfl⟩
  | true =>
    have hmap : inMap a = true := h.resolve_left (by simp [hrun])
    simp only [hmap, Bool.not_true, Bool.false_eq_true, if_false]
    split <;> exact ⟨_, rfl⟩

/-- Settles O5: REGISTER_WRITE aside every meaning is a next state, and a register write stops at the address map alone. -/
theorem onlyABusErrorStops : Obligations.OnlyABusErrorStops := by
  unfold Obligations.OnlyABusErrorStops
  refine ⟨fun i s hi => exec_completes s hi, fun a v s => ⟨?_, exec_registerWrite_completes v⟩⟩
  rintro ⟨hrun, hmap⟩
  exact exec_registerWrite_outside v hrun hmap

/-- Settles O6: the ranges of the address map are what the bus tests. -/
theorem accessOutsideTheMap : Obligations.AccessOutsideTheMap := by
  unfold Obligations.AccessOutsideTheMap
  refine fun a v s hrun => ⟨fun hout => exec_registerWrite_outside v hrun ?_, fun hin => ?_⟩
  · rw [← Bool.not_eq_true, inMap_iff_covers]
    rintro ⟨r, hr, ha⟩
    exact hout r hr ha
  · exact exec_registerWrite_completes v (.inr ((inMap_iff_covers a).mpr hin))

end Sys2Proof.Machine
end

section
/-!
The events of clocks, supplies and the die temperatures.
-/

namespace Sys2Proof.Machine

/-- Settles O48: MAIN_CLOCK_LOSS, SAFETY_CLOCK_LOSS, VDRV_IN_RANGE and DIE_TEMP_UPDATE have one clause each, which is the whole
arm; every other clause's conditions are the guards of its command. -/
theorem clocksAndSuppliesComplete : Obligations.ClocksAndSuppliesComplete := by
  unfold Obligations.ClocksAndSuppliesComplete
  refine ⟨?_, ?_, ?_, ?_, ?_, ?_, ?_, ?_, ?_, ?_, ?_, ?_⟩
  · intro xin s
    rw [exec_mainClockLoss, execMainClockLoss]
  · intro sxin s
    rw [exec_safetyClockLoss, execSafetyClockLoss]
  · intro dev s t was hxin hsxin ht hfar hwas
    subst ht hwas
    rw [exec_referenceMismatchWindow, execReferenceMismatchWindow, if_pos (by simp [hxin, hsxin])]
    exact congrArg Host.Outcome.next (if_pos (decide_eq_true hfar))
  · intro dev s t hxin hsxin ht hnear
    subst ht
    rw [exec_referenceMismatchWindow, execReferenceMismatchWindow, if_pos (by simp [hxin, hsxin])]
    exact congrArg Host.Outcome.next (if_neg (by simpa using hnear))
  · intro s hok
    rw [exec_x32Loss, execX32Loss, if_pos hok]
  · intro stays s t hmode hfield hmain ht
    subst ht
    rw [exec_forwardedClockStop, execForwardedClockStop, if_neg (by simp [hmode, hfield, hmain])]
  · intro s hup
    rw [exec_dieLinkParityError, execDieLinkParityError, if_pos hup]
  · intro rail low s t hmode hnew ht
    subst ht
    rw [exec_supplyWarning, execSupplyWarning, if_neg (by simp [hmode, hnew])]
  · intro v s t hmode hout ht
    subst ht
    rw [exec_vdrvOutOfRange, execVdrvOutOfRange, if_neg (by simp [hmode]; omega)]
  · intro v s t hmode hlow ht
    subst ht
    rw [exec_vdrvCollapse, execVdrvCollapse, if_neg (by simpa [hmode] using hlow)]
  · intro v s
    rw [exec_vdrvInRange, execVdrvInRange]
  · intro log fld s
    rw [exec_dieTempUpdate, execDieTempUpdate]

end Sys2Proof.Machine
end

section
/-!
An instruction of a datapath that the activation may not use (R27).
-/

namespace Sys2Proof.Machine

/-! ## What the end of a hardware loop and a source's assertion leave -/

/-- The end of a hardware loop moves the program offset, the loop counters and the open loops alone. -/
theorem Slot.loopPass_eq (pc n : Nat) (b : Slot) :
    ∃ lc0 lc1 loops off, b.loopPass pc n = { b with lc0 := lc0, lc1 := lc1, loops := loops, pc := off } := by
  fun_induction Slot.loopPass pc n b with
  | case1 | case2 | case3 => exact ⟨_, _, _, _, rfl⟩
  | case4 n b first last l hloops hend c d hmore =>
    dsimp only [d]
    split <;> exact ⟨_, _, _, _, rfl⟩
  | case5 n b first last l hloops hend c d hlast ih =>
    obtain ⟨_, _, _, _, ih⟩ := ih
    rw [ih]
    dsimp only [d]
    split <;> exact ⟨_, _, _, _, rfl⟩

@[simp] theorem State.slots_put (s : State) (f : Fld) (v : Nat) : (s.put f v).slots = s.slots := rfl

@[simp] theorem State.engines_put (s : State) (f : Fld) (v : Nat) : (s.put f v).engines = s.engines := rfl

@[simp] theorem State.slots_wrBytes (s : State) (a : Nat) (l : List Byte) : (s.wrBytes a l).slots = s.slots := by
  induction l generalizing s a with
  | nil => rfl
  | cons b l ih => exact ih ..

@[simp] theorem State.engines_wrBytes (s : State) (a : Nat) (l : List Byte) : (s.wrBytes a l).engines = s.engines := by
  induction l generalizing s a with
  | nil => rfl
  | cons b l ih => exact ih ..

/-- From `s` to `t` no slot's bank, no engine and, but for the speed task's words, no byte of memory changes. -/
def State.keepsEngines (s t : State) : Prop := t.slots = s.slots ∧ t.engines = s.engines ∧ s.keepsMemory t

theorem State.keepsEngines_calm (s : State) : Calm s.keepsEngines where
  wr _ _ _ h := h
  speed t e build he h := by
    obtain ⟨hslots, hengines, hmem⟩ := h
    -- Rewritten step by step: by unfolding alone the kernel would compute the task's words.
    refine ⟨?_, ?_, fun a ha => (t.keepsMemory_writeSpeedTask build he a ha).trans (hmem a ha)⟩
    · unfold State.writeSpeedTask
      dsimp only
      rw [State.slots_put, State.slots_wrBytes, State.slots_wrBytes, hslots]
    · unfold State.writeSpeedTask
      dsimp only
      rw [State.engines_put, State.engines_wrBytes, State.engines_wrBytes, hengines]
  other h hmem _ _ _ _ hslots hengines _ _ _ _ _ := by
    obtain ⟨hslots', hengines', hmem'⟩ := h
    exact ⟨hslots.trans hslots', hengines.trans hengines',
      fun a ha => (congrArg (fun m => SMap.get memDefault m a) hmem).trans (hmem' a ha)⟩

theorem State.keepsEngines_refl (s : State) : s.keepsEngines s := ⟨rfl, rfl, fun _ _ => rfl⟩

/-- An instruction whose action leaves the engines' state leaves every bank but its own, the engines and the memory, and of its
own bank takes the program offset alone past the instruction. -/
theorem State.performed_keepsEngines {s : State} {e k : Nat} {f : State → State}
    (h : (s.setBank e k (s.bank e k).next).keepsEngines (f (s.setBank e k (s.bank e k).next))) :
    (s.performed e k f).bank e k = (s.bank e k).next.loopPass (s.bank e k).pc 2 ∧
      (∀ j, j ≠ slotKey e k → (s.performed e k f).slot j = s.slot j) ∧ s.keepsMemory (s.performed e k f) ∧
      (s.performed e k f).engines = s.engines := by
  obtain ⟨hslots, hengines, hmem⟩ := h
  have hslot : ∀ j, (f (s.setBank e k (s.bank e k).next)).slot j = (s.setBank e k (s.bank e k).next).slot j :=
    fun j => congrArg (fun m => SMap.get _ m j) hslots
  have hbank : (f (s.setBank e k (s.bank e k).next)).bank e k = (s.bank e k).next :=
    (hslot _).trans (State.bank_setBank_same ..)
  refine ⟨?_, fun j hj => ?_, hmem, hengines⟩
  · simp only [State.performed, State.bank_withSec, State.bank_setBank_same, hbank]
  · simp only [State.performed, State.slot_withSec]
    rw [State.slot_setBank_ne _ _ _ _ hj, hslot, State.slot_setBank_ne _ _ _ _ hj]

/-! ## An instruction of the wrong datapath -/

/-- What the engine does in place of an instruction that its activation's datapath lacks. -/
def State.pathViolation (e : Nat) (s : State) : State := (s.put (F.CE_STAT_DPVIOL e) 1).assertEv (evAxis e 6)

theorem State.issue_wrongPath {s : State} {e k path : Nat} (h : s.wrongPath e k path = true) (body : Nat → State → State) :
    s.issue e path body = s.performed e k (State.pathViolation e) := by
  simp only [State.wrongPath, Bool.and_eq_true, beq_iff_eq, Bool.not_eq_true', bne_iff_ne, ne_eq] at h
  obtain ⟨⟨⟨⟨hissuing, hbreak⟩, hfetch⟩, hboth⟩, hother⟩ := h
  unfold State.issue
  simp only [hissuing, hbreak, hfetch, hboth, hother, beq_iff_eq, Bool.or_eq_true, Bool.false_eq_true, or_self, if_false]
  rfl

theorem State.pathViolation_keepsEngines (s : State) (e : Nat) : s.keepsEngines (s.pathViolation e) :=
  State.assertEv_calm s.keepsEngines_calm (State.put_calm s.keepsEngines_calm s.keepsEngines_refl _ _) _

theorem exec_of_runEngine {i : Instr} {e : Fin 16} (h : runEngine i = some e) (s : State) :
    ∃ body, exec i s = .next (s.issue e pathRun body) := by
  unfold runEngine at h
  split at h <;> cases h <;> exact ⟨_, rfl⟩

theorem exec_of_preciseEngine {i : Instr} {e : Fin 16} (h : preciseEngine i = some e) (s : State) :
    ∃ body, exec i s = .next (s.issue e pathPrecise body) := by
  unfold preciseEngine at h
  split at h <;> cases h <;> exact ⟨_, rfl⟩

/-- An instruction that either datapath has, issued in an activation of the other, has the effect of the violation alone. -/
theorem exec_wrongPath {i : Instr} {e : Fin 16} {k : Nat} {s : State}
    (h : runEngine i = some e ∧ s.wrongPath e k pathRun = true ∨
      preciseEngine i = some e ∧ s.wrongPath e k pathPrecise = true) :
    exec i s = .next (s.performed e k (State.pathViolation e)) := by
  obtain ⟨hi, hw⟩ | ⟨hi, hw⟩ := h
  · obtain ⟨body, hexec⟩ := exec_of_runEngine hi s
    rw [hexec, State.issue_wrongPath hw]
  · obtain ⟨body, hexec⟩ := exec_of_preciseEngine hi s
    rw [hexec, State.issue_wrongPath hw]

theorem srcClass_reset_illegal : ∀ e : Fin 16, State.reset.srcClass (evAxis e 6) = classU := by decide

/-- Settles O8: the violation takes the instruction's place, and a source's assertion is calm. -/
theorem wrongDatapathIsNotPerformed : Obligations.WrongDatapathIsNotPerformed := by
  unfold Obligations.WrongDatapathIsNotPerformed
  refine ⟨fun i e k s h => ⟨_, exec_wrongPath h, rfl, ?_⟩, srcClass_reset_illegal⟩
  obtain ⟨hbank, hothers, hmem, hengines⟩ := State.performed_keepsEngines (State.pathViolation_keepsEngines (s.setBank e k _) e)
  obtain ⟨_, _, _, _, hloop⟩ := Slot.loopPass_eq (s.bank e k).pc 2 (s.bank e k).next
  rw [hbank, hloop]
  exact ⟨rfl, rfl, rfl, rfl, rfl, rfl, hothers, hmem, hengines⟩

end Sys2Proof.Machine
end

section
/-!
The axis commands and the events of axes.
-/

namespace Sys2Proof.Machine

/-- Settles O32: each command is served and its step 8 passes the refusals that its conditions exclude; an event's conditions are
its guards. -/
theorem axisCommandsComplete : Obligations.AxisCommandsComplete := by
  unfold Obligations.AxisCommandsComplete
  refine ⟨?_, ?_, ?_, ?_, ?_, ?_, ?_, ?_, ?_, ?_, ?_, ?_, ?_, ?_, ?_, ?_⟩
  · intro c s u a hs hu ha hmode _ hdisabled herrors
    subst ha
    refine exec_of_step8_answers (exec_axConfig c s) hs hu ?_
    simp [hmode, hdisabled, herrors, okReply]
  · intro c s u n hs hu hn hmode haxis hreasons
    subst hn
    refine exec_of_step8_answers (exec_axState c s) hs hu ?_
    simp [hmode, Nat.not_lt.mpr haxis, hreasons, okReply]
  · intro c s u n hs hu hn hmode haxis hstate hdomain hvalid hcleared
    subst hn
    refine exec_of_step8_answers (exec_axRecover c s) hs hu ?_
    have hstopped : (u.axState (arg c 0 1) == axFreewheel || u.axState (arg c 0 1) == axFaulted) = true := by simpa using hstate
    simp [hmode, Nat.not_lt.mpr haxis, hstopped, hdomain, hvalid, hcleared, okReply]
  · intro c s u n hs hu hn hmode haxis hislands
    subst hn
    refine exec_of_step8_answers (exec_axBridgeEn c s) hs hu ?_
    simp [hmode, Nat.not_lt.mpr haxis, hislands, okReply]
  · intro c s u n m hs hu hn hm hmode haxis hconfigured hkind
    subst hn hm
    refine exec_of_step8_answers (exec_axSetpoint c s) hs hu ?_
    have hkind' : ¬ 4 < arg c 1 1 ∧ arg c 1 1 ≠ 4 := by omega
    simp [hmode, Nat.not_lt.mpr haxis, hconfigured, hkind', okReply]
  · intro n s hrun hwdog hramp
    rw [exec_setpointTimeout, execSetpointTimeout, if_pos (by simp [hrun, hwdog, hramp])]
  · intro c s u n hs hu hn hmode haxis hcap
    subst hn
    refine exec_of_step8_answers (exec_axLimits c s) hs hu ?_
    simp only [hmode, haxis, hcap, okReply, Bool.not_true, decide_false, Bool.or_self, Bool.false_eq_true, if_false]
  · intro c s u n id given v hs hu hn hid hgiven hv hmode haxis htop himage hsize hlive hlength hok
    have hmayWrite : (!paramLive id && !(u.axState n == axDisabled || u.axState n == axArmed)) = false := by
      simpa [Decidable.or_iff_not_imp_left] using hlive
    refine exec_of_step8_answers (exec_axParamWrite c s) hs hu ?_
    simp only [← hn, ← hid, ← hgiven, ← hv, hmode, Nat.not_lt.mpr haxis, hsize, hmayWrite, Nat.not_lt.mpr hlength,
      beq_eq_false_iff_ne.mpr htop, bne_iff_ne.mpr himage, hok, okReply, decide_false, Bool.not_true, Bool.true_or, Bool.or_self,
      Bool.false_eq_true, if_false]
  · intro c s u n id hs hu hn hid hmode haxis hsize
    subst hn hid
    refine exec_of_step8_answers (exec_axParamRead c s) hs hu ?_
    simp [hmode, Nat.not_lt.mpr haxis, hsize]
  · intro c s u n p hs hu hn hmode haxis hp
    subst hn hp
    refine exec_of_step8_answers (exec_axStatus c s) hs hu ?_
    simp only [hmode, Nat.not_lt.mpr haxis, okResult, Bool.not_true, decide_false, Bool.false_eq_true, if_false]
  · intro c s u n i hs hu hn hi hmode haxis hstate hkind
    subst hn hi
    refine exec_of_step8_answers (exec_axPositionSet c s) hs hu ?_
    simp [hmode, haxis, hstate, hkind, okReply]
  · intro c s u k hs hu hk hmode hcapture hop
    subst hk
    refine exec_of_step8_answers (exec_axCapture c s) hs hu ?_
    simp [hmode, Nat.not_lt.mpr hcapture, hop, okResult]
  · intro c s u k hs hu hk hmode hcapture hop
    subst hk
    refine exec_of_step8_answers (exec_axCapture c s) hs hu ?_
    simp [hmode, Nat.not_lt.mpr hcapture, hop, okReply]
  · intro n s hislands htype hstate hrest hmove hstand
    rw [exec_standstillEnter, execStandstillEnter, if_pos (by simp [hislands, htype, hstate, hrest, hmove, hstand])]
  · intro n s hislands hwait hlegs
    rw [exec_stepperLegsReady, execStepperLegsReady]
    exact congrArg Host.Outcome.next (if_pos (by simpa [hislands, hwait] using hlegs))
  · intro n s hrun htype hclamped
    rw [exec_stepClampReport, execStepClampReport, if_pos (by simp [hrun, htype, hclamped])]

end Sys2Proof.Machine
end

section
/-!
Mode requests and the events that change the mode or follow a change.
-/

namespace Sys2Proof.Machine

/-- Settles O46: each clause's conditions are the guards of its command; SYS_MODE to a mode other than Standby starts no rest
check. -/
theorem modesComplete : Obligations.ModesComplete := by
  unfold Obligations.ModesComplete
  refine ⟨?_, ?_, ?_, ?_, ?_, ?_, ?_, ?_, ?_, ?_, ?_, ?_, ?_, ?_, ?_, ?_, ?_, ?_⟩
  · intro target s t r hrun ht hreason
    subst ht
    rw [exec_modeRequest, execModeRequest, if_neg (by simp [hrun])]
    simp only [hreason]
  · intro target s t hrun ht hnone hmode
    subst ht
    rw [exec_modeRequest, execModeRequest, if_neg (by simp [hrun])]
    simp only [hnone]
    rw [if_pos (by simp [hmode])]
  · intro target s t hrun ht hnone hmode
    subst ht
    rw [exec_modeRequest, execModeRequest, if_neg (by simp [hrun])]
    simp only [hnone]
    rw [if_neg (by simp [hmode])]
  · intro c s u m hs hu hm hmode hnone hcheck
    subst hm
    simp only [List.mem_cons, List.not_mem_nil, or_false] at hmode
    have hallowed : (arg c 0 1 == 0 || arg c 0 1 == 1 || arg c 0 1 == 8 || arg c 0 1 == 10 || decide (11 < arg c 0 1)) = false := by
      simp only [Bool.or_eq_false_iff, beq_eq_false_iff_ne, decide_eq_false_iff_not]
      omega
    have hstandby : (arg c 0 1 == modeStandby) = false := by
      simp only [modeStandby, beq_eq_false_iff_ne]
      omega
    subst hu
    rw [exec_sysMode, execSysMode, State.hostCmdW_serves hs]
    simp only [hallowed, hnone, hstandby, hcheck, Bool.false_eq_true, if_false]
  · intro wakes s t w dropped r hcheck ht hreason
    subst ht
    rw [exec_standbyRestCheckDone, execStandbyRestCheckDone]
    simp only [hcheck, hreason, decide_eq_true_eq]
  · intro wakes s t u w dropped hcheck ht hnone hu
    subst hu ht
    rw [exec_standbyRestCheckDone, execStandbyRestCheckDone]
    simp only [hcheck, hnone, decide_eq_true_eq]
  · intro c s u hs hu hmode hmask
    refine exec_of_step8_answers (exec_sysWakecfg c s) hs hu ?_
    simp [hmode, hmask, okReply]
  · intro c s u t hs hu ht hmode hrange
    subst ht
    refine exec_of_step8_answers (exec_sysLinkwd c s) hs hu ?_
    simp only [hmode, hrange, okReply, Bool.not_true, Bool.false_eq_true, if_false]
  · intro late s safe hsafe hmode hfatal hready
    subst hsafe
    rw [exec_safeoffToRecovery, execSafeoffToRecovery]
    exact congrArg Host.Outcome.next (if_pos (by simpa [hmode, hfatal] using hready))
  · intro s hrun hmode hderate
    rw [exec_deratePoll, execDeratePoll, if_pos (by simp [hrun, hmode, hderate])]
  · intro s hrun hmode hderate
    rw [exec_derateHoldExpiry, execDerateHoldExpiry, if_pos (by simp [hrun, hmode, hderate])]
  · intro n s t hrun hmode henergised hrest ht
    subst ht
    rw [exec_axisRestReached, execAxisRestReached, if_pos (by simp [hrun, hmode, henergised, hrest])]
  · intro s hrun hmode henergised
    rw [exec_stopTimeout, execStopTimeout, if_pos (by simp [hrun, hmode, henergised])]
  · intro s hrun hmode htime
    rw [exec_hostLinkTimeout, execHostLinkTimeout, if_pos (by simp [hrun, hmode, htime])]
  · intro src clocks s hmode
    rw [exec_wakeSource, execWakeSource, if_pos (by simp [hmode])]
  · intro src clocks s t hmode ht hlatched
    subst ht
    rw [exec_wakeSource, execWakeSource, if_neg (by simp [hmode])]
    exact congrArg Host.Outcome.next (if_neg (by simpa using hlatched))
  · intro src clocks s t hmode ht hlatched
    subst ht
    rw [exec_wakeSource, execWakeSource, if_neg (by simp [hmode])]
    exact congrArg Host.Outcome.next (if_pos (by simpa using hlatched))
  · intro n s t hrun hreenable hvalid hheld ht
    subst ht
    rw [exec_legsHeldReenable, execLegsHeldReenable]
    exact congrArg Host.Outcome.next (if_pos (by simpa [hrun, hreenable, hvalid] using hheld))

end Sys2Proof.Machine
end

section
/-!
The steps of the Spillway, the enable edges and the speed word; the waits, the driver detectors and the STO inputs.
-/

namespace Sys2Proof.Machine

/-- Settles O24: each clause's conditions are the guards of its command; a speed word that leaves no rest check open marks none
as failed. -/
theorem spillwayStepsComplete : Obligations.SpillwayStepsComplete := by
  unfold Obligations.SpillwayStepsComplete
  refine ⟨?_, ?_, ?_, ?_, ?_, ?_, ?_, ?_, ?_, ?_, ?_, ?_⟩
  · intro n s hrun hstep
    rw [exec_spillwayStep2, execSpillwayStep2]
    exact congrArg Host.Outcome.next (if_pos (by simp [hrun, hstep]))
  · intro l s hrun hoff
    rw [exec_spillwayStep2, execSpillwayStep2]
    exact congrArg Host.Outcome.next (if_pos (by simp [hrun, hoff]))
  · intro k s t hrun hoff ht
    subst ht
    rw [exec_spillwayStep2, execSpillwayStep2, if_pos (by simp [hrun, hoff])]
    simp only [beq_iff_eq]
  · intro n s hrun hlatch hphase
    rw [exec_safeStateReached, execSafeStateReached]
    exact congrArg Host.Outcome.next (if_pos (by simp [hrun, hlatch, hphase]))
  · intro l s hrun hoff
    rw [exec_safeStateReached, execSafeStateReached]
    exact congrArg Host.Outcome.next (if_pos (by simp [hrun, hoff]))
  · intro k s hrun hoff
    rw [exec_safeStateReached, execSafeStateReached]
    exact congrArg Host.Outcome.next (if_pos (by simp [hrun, hoff]))
  · intro n leg s hrun hleg hshort
    rw [exec_shortApplyFail, execShortApplyFail, if_pos (by simpa [hrun, hleg] using hshort)]
  · intro n s hrun
    rw [exec_effectiveEnableFall, execEffectiveEnableFall, if_pos hrun]
  · intro n cmp trip s hrun
    rw [exec_effectiveEnableRise, execEffectiveEnableRise, if_pos hrun]
  · intro high m s t ht hrun
    subst ht
    rw [exec_enDlNChange, execEnDlNChange]
    exact congrArg Host.Outcome.next (if_pos hrun)
  · intro n fe s hcompute hfirm hmode hcheck hrun
    rw [exec_speedWordWrite, execSpeedWordWrite]
    simp [hcompute, hfirm, hmode, hcheck, hrun]
  · intro n fe s t hcompute haxis hmode hloop _ ht hcheck hrun
    subst ht
    rw [exec_speedWordWrite, execSpeedWordWrite]
    simp [hcompute, haxis, hmode, hloop, hcheck, hrun]

/-- A switch that waits and whose gate is released in time turns on: the wait ends and its length is kept, 0 on a linked leg
(R111). -/
theorem exec_sluiceRelease_within_limit {s : State} {leg : Fin 72} {upper : Bool} {wait : Nat} (hrun : s.islandsRun = true)
    (hwait : (if upper then (s.leg leg).waitUp else (s.leg leg).waitLo) = true)
    (hlimit : legLinked leg = true ∨ wait ≤ s.waitLimit leg) :
    exec (.sluiceRelease leg upper wait) s = .next
      ((((s.modLeg leg (fun x => if upper then { x with waitUp := false } else { x with waitLo := false })).switchOn leg
        upper).gateReleased leg upper).put (F.SLU_LEGSTAT_LASTW leg) (if legLinked leg then 0 else wait)) := by
  have hintime : ¬ (!legLinked leg && decide (s.waitLimit leg < wait)) = true := by
    simpa [Decidable.or_iff_not_imp_left] using hlimit
  rw [exec_sluiceRelease, execSluiceRelease, if_pos (by simpa [hrun] using hwait), if_neg hintime]

/-- Settles O25: each clause's conditions are the guards of its command. -/
theorem bridgeDetectorsComplete : Obligations.BridgeDetectorsComplete := by
  unfold Obligations.BridgeDetectorsComplete
  refine ⟨?_, ?_, ?_, ?_, ?_, ?_, ?_, ?_, ?_, ?_, ?_, ?_, ?_, ?_, ?_⟩
  · intro leg wait s t hrun hwait hlimit ht
    subst ht
    exact exec_sluiceRelease_within_limit hrun hwait hlimit
  · intro leg wait s t hrun hwait hlimit ht
    subst ht
    exact exec_sluiceRelease_within_limit hrun hwait hlimit
  · intro leg upper wait s hrun hwait hdirect hlate
    rw [exec_sluiceRelease, execSluiceRelease, if_pos (by simpa [hrun] using hwait), if_pos (by simp [hdirect, hlate])]
  · intro leg upper s hrun hwait
    rw [exec_interlockTimeout, execInterlockTimeout, if_pos (by simpa [hrun] using hwait)]
  · intro leg d s t hwatch ht hon hsince
    subst ht
    rw [exec_desatDetect, execDesatDetect, if_pos hwatch]
    exact congrArg Host.Outcome.next (if_pos (by simp [hon, hsince]))
  · intro leg d s t hwatch ht hblank
    subst ht
    rw [exec_desatDetect, execDesatDetect, if_pos hwatch]
    refine congrArg Host.Outcome.next (if_neg ?_)
    obtain hoff | hearly := hblank
    · simp [hoff]
    · simp [Nat.not_le.mpr hearly]
  · intro leg s hwatch
    rw [exec_shuntOvercurrent, execShuntOvercurrent, if_pos hwatch]
  · intro leg s t l hwatch hl ht hgroup
    subst hl ht
    rw [exec_bootstrapUv, execBootstrapUv, if_pos hwatch]
    simp only [hgroup, if_true]
  · intro leg s t u v l n p hwatch hl ht hgroup hp hu hv
    subst hv hu hp ht hl
    rw [exec_bootstrapUv, execBootstrapUv, if_pos hwatch]
    simp only [hgroup, if_true]
  · intro leg s hwatch
    rw [exec_bootstrapUv, execBootstrapUv, if_pos hwatch]
    rfl
  · intro b s t u ht hrun hu
    subst hu ht
    rw [exec_stoInput, execStoInput]
    exact congrArg Host.Outcome.next (if_pos hrun)
  · intro b s hstopped
    rw [exec_stoInput, execStoInput]
    exact congrArg Host.Outcome.next (if_neg (by simp [hstopped]))
  · intro b s t ht hrun
    subst ht
    rw [exec_stoInputHigh, execStoInputHigh]
    exact congrArg Host.Outcome.next (if_pos hrun)
  · intro b s hstopped
    rw [exec_stoInputHigh, execStoInputHigh]
    exact congrArg Host.Outcome.next (if_neg (by simp [hstopped]))
  · intro s hrun hdiffer
    rw [exec_stoDiscrepancy, execStoDiscrepancy, if_pos (by simp [hrun, hdiffer])]

end Sys2Proof.Machine
end

section
/-!
The gate-link events: bring-up, heartbeats and loss, and the frames received.
-/

namespace Sys2Proof.Machine

/-- Settles O29: each clause's conditions are the guards of its command; a received frame is sorted by the payload of its TYPE,
and one without it counts as bad when its symbols are judged bad. -/
theorem gateLinksComplete : Obligations.GateLinksComplete := by
  unfold Obligations.GateLinksComplete
  refine ⟨?_, ?_, ?_, ?_, ?_, ?_, ?_, ?_, ?_, ?_, ?_, ?_, ?_, ?_, ?_, ?_, ?_⟩
  · intro k en s hrun
    rw [exec_glEnable, execGlEnable, if_pos hrun]
  · intro k s hrun
    rw [exec_glReset, execGlReset, if_pos hrun]
  · intro k s hrun
    rw [exec_glCfgsend, execGlCfgsend, if_pos hrun]
  · intro k s hrun htrain
    rw [exec_trainAligned, execTrainAligned, if_pos (by simp [hrun, htrain])]
  · intro k y s hrun htrain herror
    rw [exec_symbolError, execSymbolError, if_pos (by simp [hrun, htrain, herror])]
  · intro k s hrun htrain
    rw [exec_symbolError, execSymbolError, if_pos (by simp [hrun, htrain])]
  · intro k s st hst hrun hbringup
    subst hst
    rw [exec_bringupTimeout, execBringupTimeout]
    exact congrArg Host.Outcome.next (if_pos (by simpa [hrun] using hbringup))
  · intro k s hrun hmeasure
    rw [exec_bringupFrameDue, execBringupFrameDue, if_pos (by simp [hrun, hmeasure])]
  · intro k s hrun hconfig
    have hnotmeasure : ¬ (s.islandsRun && s.linkState k == linkMeasure) = true := by
      simp [hconfig, linkConfig, linkMeasure]
    rw [exec_bringupFrameDue, execBringupFrameDue, if_neg hnotmeasure, if_pos (by simp [hrun, hconfig])]
  · intro k s hmeasure hconfig
    rw [exec_bringupFrameDue, execBringupFrameDue, if_neg (by simp [hmeasure]), if_neg (by simp [hconfig])]
  · intro k req s hrun hup
    rw [exec_heartbeatDue, execHeartbeatDue, if_pos (by simp [hrun, hup])]
  · intro k f s hrun hon hbad
    rw [exec_badFrameReceived, execBadFrameReceived, if_pos (by simp [hrun, hon, hbad])]
  · intro k s hrun hup
    rw [exec_linkSilence, execLinkSilence, if_pos (by simp [hrun, hup])]
  · intro k syms gates cover late s t p hrun hon hpayload ht hhears
    subst ht
    rw [exec_echoReceived, execEchoReceived, if_pos (by simp [hrun, hon])]
    simp only [hpayload, hhears, if_true]
  · intro k syms gates cover late s hrun hon hnone hbad
    rw [exec_echoReceived, execEchoReceived, if_pos (by simp [hrun, hon])]
    simp only [hnone, hbad, beq_self_eq_true, if_true]
  · intro k syms rtt s t p hrun hon hpayload ht hhears
    subst ht
    rw [exec_statusReceived, execStatusReceived, if_pos (by simp [hrun, hon])]
    simp only [hpayload, hhears, if_true]
  · intro k syms rtt s hrun hon hnone hbad
    rw [exec_statusReceived, execStatusReceived, if_pos (by simp [hrun, hon])]
    simp only [hnone, hbad, beq_self_eq_true, if_true]

end Sys2Proof.Machine
end

section
/-!
Current sensing: filter results, fast comparators, offset calibration and the ADC sequences.
-/

namespace Sys2Proof.Machine

/-- Settles O27: each clause's conditions are the guards of its command; a filter result enters through the value and the
saturation that its clause names, and a queue of windows or results through its oldest entry. -/
theorem currentSensingCompletes : Obligations.CurrentSensingCompletes := by
  unfold Obligations.CurrentSensingCompletes
  refine ⟨?_, ?_, ?_, ?_, ?_, ?_, ?_, ?_, ?_, ?_, ?_, ?_, ?_, ?_, ?_, ?_⟩
  · intro n z since s t u m w v sat hrun hen hs3 hm hw hfilter ht hu
    subst hu ht hw hm
    rw [exec_sinc3Result, execSinc3Result, if_pos (by simp [hrun, hen, hs3])]
    simp only [hfilter]
  · intro n sum k since s x xs m v sat hrun hen hclosed hm hfilter
    subst hm
    rw [exec_paWindowClose, execPaWindowClose, if_pos (by simp [hrun, hen])]
    simp only [hclosed, hfilter]
  · intro n sum k since s hrun hnone
    rw [exec_paWindowClose, execPaWindowClose, hnone]
    exact congrArg Host.Outcome.next (ite_self s)
  · intro n s hrun hnone
    rw [exec_paResultValid, execPaResultValid, if_pos hrun, hnone]
  · intro n s t w ws hrun hpend ht
    subst ht
    rw [exec_paResultValid, execPaResultValid, if_pos hrun, hpend]
  · intro n run s hrun hen
    rw [exec_modulatorFault, execModulatorFault]
    exact congrArg Host.Outcome.next (if_pos (by simp [hrun, hen]))
  · intro n zs s t high low hhigh hlow hnews hrun hen hcmp ht
    subst ht hhigh hlow
    rw [exec_fastComparatorDecision, execFastComparatorDecision]
    exact congrArg Host.Outcome.next (if_pos (by simpa only [hrun, hen, hcmp, Bool.true_and] using hnews))
  · intro n zs s h hh hrun hen hcmp hband
    subst hh
    rw [exec_fastComparatorRelease, execFastComparatorRelease]
    exact congrArg Host.Outcome.next (if_pos (by simpa only [hrun, hen, hcmp, Bool.true_and] using hband))
  · intro n up s sum need mean ofs hrun hen hcal hfull hsum hneed hmean hofs
    subst hofs hmean hneed hsum
    rw [exec_offsetCalStep, execOffsetCalStep, if_pos (by simp [hrun, hen, hcal, hfull])]
  · intro q s hstart
    rw [exec_adcSequenceStart, execAdcSequenceStart, if_pos hstart]
  · intro q s hstart
    rw [exec_adcSequenceStart, execAdcSequenceStart, if_neg (by simp [hstart])]
  · intro q codes s t i hrun hseq hi hlast ht hwaits
    subst ht hi
    rw [exec_adcStepSample, execAdcStepSample, if_pos (by simp [hrun, hseq, hlast])]
    exact congrArg Host.Outcome.next (if_pos hwaits)
  · intro q codes s t i hrun hseq hi hlast ht hfree
    subst ht hi
    rw [exec_adcStepSample, execAdcStepSample, if_pos (by simp [hrun, hseq, hlast])]
    exact congrArg Host.Outcome.next (if_neg (ne_true_of_eq_false hfree))
  · intro q s t x xs hrun hsamples ht
    subst ht
    rw [exec_adcResult, execAdcResult, if_pos hrun, hsamples]
  · intro c gain ofs s t u hrun hasked hrange ht hu
    subst hu ht
    rw [exec_adcTrim, execAdcTrim, if_pos (by rw [hrun, hasked, Bool.and_self])]
    exact congrArg Host.Outcome.next (if_pos (decide_eq_true hrange))
  · intro c gain ofs s hrun hasked hrange
    rw [exec_adcTrim, execAdcTrim, if_pos (by rw [hrun, hasked, Bool.and_self])]
    exact congrArg Host.Outcome.next (if_neg (by rwa [decide_eq_true_eq]))

end Sys2Proof.Machine
end

section
/-!
Position inputs: resolvers, encoders, SSI ports and capture units.
-/

namespace Sys2Proof.Machine

/-- The trigger of an SSI port is taken; it starts a read exactly where `ok` says that the port can read now, and otherwise leaves the
read in progress as it is (R182). -/
theorem exec_ssiReadStart_of_startNext {m : Fin 4} {high ok : Bool} {s : State} (hstart : s.startNext 4 m = true)
    (hok : (s.senseRuns && s.flag (F.ENC_ABSCFG_EN m) &&
      decide (8 ≤ s.fld (F.ENC_ABSCFG_LEN m) ∧ s.fld (F.ENC_ABSCFG_LEN m) ≤ 40) && !s.sense.reading.testBit m) = ok) :
    exec (.ssiReadStart m high) s = .next ((s.takeStart 4 m).withSense { s.sense with
      reading := putBit s.sense.reading m (ok || s.sense.reading.testBit m)
      notReady := putBit s.sense.notReady m (if ok then !high else s.sense.notReady.testBit m) }) := by
  subst hok
  rw [exec_ssiReadStart, execSsiReadStart]
  exact congrArg Host.Outcome.next (if_pos hstart)

/-- Settles O28: each clause's conditions are the guards of its command; a transition of an encoder is judged by which of its two
levels change, and a start of an SSI port by whether the port can read now. -/
theorem positionInputsComplete : Obligations.PositionInputsComplete := by
  unfold Obligations.PositionInputsComplete
  refine ⟨?_, ?_, ?_, ?_, ?_, ?_, ?_, ?_, ?_, ?_, ?_⟩
  · intro r second s hrun hen
    rw [exec_resolverPeak, execResolverPeak, if_pos (by simp [hrun, hen])]
  · intro r v s hrun
    rw [exec_resangWrite, execResangWrite, if_pos hrun]
  · intro n a b e s t a0 b0 hrun hen ha hb ht hboth
    subst ht hb ha
    rw [exec_encTransition, execEncTransition, if_pos (by simp [hrun, hen])]
    exact congrArg Host.Outcome.next (if_pos hboth)
  · intro n a b e s hrun hen ha hb
    subst hb ha
    rw [exec_encTransition, execEncTransition, if_pos (by simp [hrun, hen])]
    exact congrArg Host.Outcome.next ((if_neg (by simp)).trans (if_pos (by simp)))
  · intro n a b e s t u a0 b0 m hrun hen ha hb ht hboth hsame hm hu
    subst hu hm ht hb ha
    rw [exec_encTransition, execEncTransition, if_pos (by simp [hrun, hen])]
    exact congrArg Host.Outcome.next ((if_neg (ne_true_of_eq_false hboth)).trans (if_neg (ne_true_of_eq_false hsame)))
  · intro n err s hrun hen
    rw [exec_encIndex, execEncIndex, if_pos (by simp [hrun, hen])]
  · intro m high s len hlen hstart hrun hen hrange hidle
    subst hlen
    exact exec_ssiReadStart_of_startNext (ok := true) hstart (by simp [hrun, hen, hrange, hidle])
  · intro m high s len hlen hstart hrun hen hrange hidle
    subst hlen
    have hbad : ¬ (8 ≤ s.fld (F.ENC_ABSCFG_LEN m) ∧ s.fld (F.ENC_ABSCFG_LEN m) ≤ 40) := by omega
    rw [exec_ssiReadStart_of_startNext (ok := false) hstart (by simp only [hbad, decide_false, Bool.and_false, Bool.false_and]),
      hidle, Bool.false_or, if_neg Bool.false_ne_true]
  · intro m bits mono s hrun hreading hlength
    rw [exec_ssiReadDone, execSsiReadDone, if_pos (by simp [hrun, hreading, hlength])]
  · intro k adv age s t e hrun hwaits hdraw
    rw [exec_captureTrigger, execCaptureTrigger, if_pos (by simp [hrun, hwaits])]
    simp only [hdraw]
  · intro k s hrun
    rw [exec_captureArm, execCaptureArm, if_pos hrun]

end Sys2Proof.Machine
end

section
/-!
Wear accounting and its commands, scrubbing and telemetry.
-/

namespace Sys2Proof.Machine

/-- Settles O34: each event's conditions are the guards of its command; each host command is served and its step 8 passes the
refusals that its conditions exclude. -/
theorem wearAndBackgroundComplete : Obligations.WearAndBackgroundComplete := by
  unfold Obligations.WearAndBackgroundComplete
  refine ⟨?_, ?_, ?_, ?_, ?_, ?_, ?_, ?_, ?_, ?_, ?_, ?_, ?_, ?_, ?_, ?_, ?_, ?_, ?_⟩
  · intro s hrun
    rw [exec_wearFlush, execWearFlush, if_pos hrun]
  · intro leg s hrun hunit hleg
    rw [exec_wearPeriodUpdate, execWearPeriodUpdate, if_pos (by simp [hrun, hunit]), if_pos hleg]
  · intro leg s hrun hunit hleg
    rw [exec_wearPeriodUpdate, execWearPeriodUpdate, if_pos (by simp [hrun, hunit]), if_neg (ne_true_of_eq_false hleg)]
  · intro leg s hruns hstopped
    rw [exec_wearIdleUpdate, execWearIdleUpdate, if_pos (by simp [hruns, hstopped])]
  · intro s hrun
    rw [exec_wearRecordWriteback, execWearRecordWriteback]
    exact congrArg Host.Outcome.next (if_pos hrun)
  · intro c s u t hs hu ht hmode hset huse hlength hfirst
    subst ht
    refine exec_of_step8_answers (exec_wearTables c s) hs hu ?_
    simp [hmode, Nat.not_lt.mpr hset, huse, hlength, hfirst, okReply]
  · intro c s u t first img hs hu ht hmode hset huse hlength hsecond himg
    subst himg ht
    dsimp only
    by_cases hcrc : crc32 ((first ++ u.attached c).take 0x3FC ++ (first ++ u.attached c).drop 0x400) =
        numAt (first ++ u.attached c) 0x3FC 4
    · rw [if_pos hcrc]
      refine exec_of_step8_answers (exec_wearTables c s) hs hu ?_
      -- The clause matches on the replaced set with a matcher of its own: `rfl` identifies it with the model's.
      simp only [hmode, Nat.not_lt.mpr hset, huse, hlength, hsecond, hcrc, okReply, bne_self_eq_false, beq_self_eq_true,
        decide_false, Bool.not_true, Bool.false_eq_true, if_false, if_true] <;> rfl
    · rw [if_neg hcrc]
      refine exec_of_step8_answers (exec_wearTables c s) hs hu ?_
      simp only [hmode, Nat.not_lt.mpr hset, huse, hlength, hsecond, beq_eq_false_iff_ne.mpr hcrc, refuse, bne_self_eq_false,
        decide_false, Bool.not_true, Bool.false_eq_true, if_false]
  · intro c s u v w p hist bs data hs hu hp hhist hmode hpos hbufs hw hdata
    subst hdata hw hhist hp
    refine exec_of_step8_answers (exec_wearRead c s) hs hu ?_
    simp only [hmode, Nat.not_lt.mpr hpos, hbufs, decide_false, Bool.not_true, Bool.false_eq_true, if_false]
  · intro c s u p bs n hs hu hp hbs hn hmode hpos hlength hcrc hfresh
    subst hn hbs hp
    refine exec_of_step8_answers (exec_wearRestore c s) hs hu ?_
    simp only [hmode, Nat.not_lt.mpr hpos, Nat.not_lt.mpr hlength, hcrc, hfresh, okReply, bne_self_eq_false, decide_false,
      Bool.not_true, Bool.or_self, Bool.false_eq_true, if_false]
  · intro c s u n hs hu hn hmode haxis
    subst hn
    refine exec_of_step8_answers (exec_derateCfg c s) hs hu ?_
    have hrange : ¬ 15 < arg c 0 1 ∧ arg c 0 1 ≠ 15 := by omega
    simp [hmode, hrange, okReply]
  · intro c s u hs hu haxis hmode
    refine exec_of_step8_answers (exec_derateCfg c s) hs hu ?_
    simp [hmode, haxis, okReply]
  · intro region e err raced lag s t u k a x hscrubs hk ht hat ha hx hu
    subst hu hx ha ht hk
    rw [exec_scrubRead, execScrubRead]
    simp only [hscrubs, Nat.not_le.mpr hat, decide_false, Bool.not_true, Bool.or_self, Bool.false_eq_true, if_false]
  · intro region e err raced lag s hscrubs
    rw [exec_scrubRead, execScrubRead]
    simp only [hscrubs, Bool.not_true, Bool.true_or, Bool.false_eq_true, if_false, if_true]
  · intro late adv s hrun hfeature
    rw [exec_telemetryDue, execTelemetryDue]
    exact congrArg Host.Outcome.next (if_neg (by simp [hrun, hfeature]))
  · intro c s u kinds port hs hu hkinds hport hmode hrange hmax hsession hvm
    subst hport hkinds
    refine exec_of_step8_answers (exec_telCfg c s) hs hu ?_
    simp only [hmode, hrange, Nat.not_lt.mpr hmax, beq_eq_false_iff_ne.mpr hsession, hvm, okReply, decide_false, Bool.not_true,
      Option.isSome_none, Bool.or_self, Bool.false_eq_true, if_false]
  · intro c adv s u v k i r hs hu hk hi hmode hkind hinst hresult
    subst hi hk
    obtain ⟨hfirst, hlast⟩ := hkind
    refine exec_of_step8_answers (exec_telRead c adv s) hs hu ?_
    simp only [hmode, Nat.not_lt.mpr hfirst, Nat.not_lt.mpr hlast, Nat.not_lt.mpr hinst, hresult, okResult, decide_false,
      Bool.not_true, Bool.or_self, Bool.false_eq_true, if_false]
  · intro c unstable s u q i hs hu hq hi hmode hinv hinst
    subst hi hq
    rcases hread : u.invRead (arg c 0 1) (arg c 1 1) with ⟨bad, bytes⟩
    refine exec_of_step8_answers (exec_telInv c unstable s) hs hu ?_
    simp only [hmode, hinv, hinst, hread, decide_false, Bool.not_true, Bool.or_self, Bool.false_eq_true, if_false]
  · intro c s u hs hu hmode
    refine exec_of_step8_answers (exec_scrubStatus c s) hs hu ?_
    simp only [hmode, Bool.not_true, Bool.false_eq_true, if_false, bne_iff_ne, ne_eq, ite_not]
    split <;> rfl
  · intro c s u v hs hu hv hmode hlow hhigh
    subst hv
    refine exec_of_step8_answers (exec_scrubCfg c s) hs hu ?_
    simp only [hmode, hlow, hhigh, okReply, decide_false, Bool.not_true, Bool.or_self, Bool.false_eq_true, if_false]

end Sys2Proof.Machine
end

section
/-!
The profile unit: requests, ticks, publication and virtual masters.
-/

namespace Sys2Proof.Machine

/-- A tick that has arrived at an axis of the enabled unit, from a carrier or a timer, meets the guard of PROFILE_TICK (R213). -/
theorem profileTick_guard {s : State} {n : Fin 16} (hrun : s.islandsRun = true) (hunit : s.flag F.PU_CTRL_EN = true)
    (haxis : s.flag (F.PU_AXCFG_EN n) = true) (hsource : s.fld (F.PU_AXCFG_TSRC n) = 1 ∨ s.fld (F.PU_AXCFG_TSRC n) = 2)
    (harrived : 0 < (s.profile n).arrived) :
    (s.islandsRun && s.flag F.PU_CTRL_EN && s.flag (F.PU_AXCFG_EN n) &&
      (s.fld (F.PU_AXCFG_TSRC n) == 1 || s.fld (F.PU_AXCFG_TSRC n) == 2) && decide (0 < (s.profile n).arrived)) = true := by
  simpa [hrun, hunit, haxis, harrived] using hsource

/-- Settles O31: each clause's conditions are the guards of its command; a tick that arrives is dropped where the one before it is
still unpublished, and otherwise taken (R214). -/
theorem profileEventsComplete : Obligations.ProfileEventsComplete := by
  unfold Obligations.ProfileEventsComplete
  refine ⟨?_, ?_, ?_, ?_, ?_, ?_, ?_, ?_, ?_, ?_, ?_⟩
  · intro c s hrun
    rw [exec_ctxCommit, execCtxCommit, if_pos hrun]
  · intro n s hrun
    rw [exec_puStart, execPuStart, if_pos hrun]
  · intro n s hrun
    rw [exec_puSwapnow, execPuSwapnow, if_pos hrun]
  · intro n s hrun
    rw [exec_puStop, execPuStop, if_pos hrun]
  · intro n s hrun
    rw [exec_puQstop, execPuQstop, if_pos hrun]
  · intro n s hrun
    rw [exec_puEngage, execPuEngage, if_pos hrun]
  · intro n dt at_ s u t hrun hunit haxis hsource harrived hu ht hdue
    subst ht hu
    rw [exec_profileTick, execProfileTick]
    have hguard := profileTick_guard hrun hunit haxis hsource harrived
    exact congrArg Host.Outcome.next ((if_pos hguard).trans (if_pos hdue))
  · intro n dt at_ s u t v m e x ok hrun hunit haxis hsource harrived hu ht hfree hm hdraw hsample
    subst hm ht hu
    rw [exec_profileTick, execProfileTick]
    have hguard := profileTick_guard hrun hunit haxis hsource harrived
    refine congrArg Host.Outcome.next ((if_pos hguard).trans ((if_neg (ne_true_of_eq_false hfree)).trans ?_))
    simp only [hdraw, hsample]
  · intro n work par s hrun hdue hfirst
    rw [exec_referencePublish, execReferencePublish]
    exact congrArg Host.Outcome.next (if_pos (by simp [hrun, hdue, hfirst]))
  · intro k v s hrun
    rw [exec_vmthWrite, execVmthWrite, if_pos hrun]
  · intro k s hrun
    rw [exec_virtualMasterTimeout, execVirtualMasterTimeout, if_pos hrun]

end Sys2Proof.Machine
end

section
/-!
The trajectory and gearing commands.
-/

namespace Sys2Proof.Machine

/-- A served command whose step 8, in the state `u` that it finds, waits in `t`: exec leaves that state. `hi` is the command's
arm. -/
theorem exec_of_step8_waits {i : Instr} {s u t : State} {op : Nat} {c : HostCmd} {body : State → Step8}
    (hi : exec i s = .next (State.hostCmdW op c s body)) (hs : s.serves op c = true) (hu : u = s.atStep8 op c)
    (hb : body u = .waits t) : exec i s = .next t := by
  subst hu
  rw [hi, State.hostCmdW_serves hs, hb]

/-- Settles O33: each command is served and its step 8 passes the refusals that its conditions exclude; TRAJ_PARAM and GEAR_TABLE
then wait for the tick that reads their commit (R237, R242). -/
theorem trajectoryCommandsComplete : Obligations.TrajectoryCommandsComplete := by
  unfold Obligations.TrajectoryCommandsComplete
  refine ⟨?_, ?_, ?_, ?_, ?_, ?_, ?_, ?_, ?_, ?_, ?_, ?_, ?_⟩
  · intro c s u x img t hs hu hx himg ht hmode hforeign hnonempty hok
    subst ht himg hx
    refine exec_of_step8_answers (exec_trajCtxWrite c s) hs hu ?_
    simp only [hmode, hforeign, hnonempty, hok, okReply, Bool.not_true, Bool.false_eq_true, if_false]
  · intro c s u hs hu hmode
    refine exec_of_step8_answers (exec_trajCtxRead c s) hs hu ?_
    simp only [hmode, Bool.not_true, Bool.false_eq_true, if_false]
  · intro c s u x n hs hu hx hn hmode haxis hidle
    subst hn hx
    refine exec_of_step8_answers (exec_trajAssign c s) hs hu ?_
    simp only [hmode, haxis, hidle, okReply, Bool.not_true, Bool.false_eq_true, if_false]
  · intro c s u n x w m hs hu hn hx hw hm haxis hmode hwhen hok howned howner hopen hvalid hnext
    subst hm hw hx hn
    refine exec_of_step8_answers (exec_trajStart c s) hs hu ?_
    simp only [haxis, hmode, hwhen, hok, howned, howner, hopen, hvalid, hnext, okReply, beq_self_eq_true, decide_false,
      Bool.not_true, Bool.and_self, Bool.or_self, Bool.false_eq_true, if_false]
  · intro c s u n x hs hu hn hx haxis hmode hmove
    subst hx hn
    refine exec_of_step8_answers (exec_trajTarget c s) hs hu ?_
    simp only [haxis, hmode, hmove, okReply, decide_false, Bool.not_true, Bool.false_eq_true, if_false]
  · intro c s u a t put n k x hs hu hn hk hx haxis hmask hmode hmove hput ha ht hok
    subst ht ha hput hx hk hn
    refine exec_of_step8_waits (exec_trajParam c s) hs hu ?_
    simp only [Nat.not_lt.mpr haxis, Nat.not_lt.mpr hmask, hmode, hmove, hok, decide_false, Bool.not_true, Bool.or_self,
      Bool.false_eq_true, if_false]
  · intro c s u hs hu hmode
    refine exec_of_step8_answers (exec_trajStop c s) hs hu ?_
    simp only [hmode, okReply, Bool.not_true, Bool.false_eq_true, if_false]
  · intro c s u n hs hu hn hmode haxis
    subst hn
    refine exec_of_step8_answers (exec_trajStatus c s) hs hu ?_
    simp only [hmode, haxis, okResult, decide_false, Bool.not_true, Bool.false_eq_true, if_false]
  · intro c s u n x m hs hu hn hx hm haxis hmode hrest hvalid htype hok howned howner
    subst hm hx hn
    refine exec_of_step8_answers (exec_gearEngage c s) hs hu ?_
    simp only [haxis, hmode, hrest, hvalid, htype, hok, howned, howner, okReply, beq_self_eq_true, decide_false, Bool.not_true,
      Bool.and_self, Bool.or_self, Bool.false_eq_true, if_false]
  · intro c s u a t n x k hs hu hn hx hk haxis hmode hgear hrows ha ht hok
    subst ht ha hk hx hn
    refine exec_of_step8_waits (exec_gearTable c s) hs hu ?_
    simp only [Nat.not_lt.mpr haxis, Nat.not_lt.mpr hrows, hmode, bne_iff_ne.mpr hgear, hok, decide_false, Bool.not_true,
      Bool.and_self, Bool.or_self, Bool.false_eq_true, if_false]
  · intro c s u n hs hu hn hmode haxis hgear
    subst hn
    refine exec_of_step8_answers (exec_gearDisengage c s) hs hu ?_
    simp only [hmode, haxis, beq_eq_false_iff_ne.mpr hgear, okReply, decide_false, Bool.not_true, Bool.false_eq_true, if_false]
  · intro c s u hs hu hmode hmaster
    refine exec_of_step8_answers (exec_vmasterSet c s) hs hu ?_
    simp only [hmode, hmaster, okReply, decide_false, Bool.not_true, Bool.false_eq_true, if_false]
  · intro c s u t n hs hu hn ht hmode haxis hdisabled hps htsrc htsel htevt hfbsrc hfbidx hstep hload
    subst ht hn
    refine exec_of_step8_answers (exec_puAxisCfg c s) hs hu ?_
    simp only [hmode, Nat.not_lt.mpr haxis, hdisabled, Nat.not_lt.mpr hps, Nat.not_lt.mpr htsrc, Nat.not_lt.mpr htsel,
      Nat.not_lt.mpr htevt, Nat.not_lt.mpr hfbsrc, Nat.not_lt.mpr hfbidx, hstep, hload, okReply, bne_self_eq_false,
      decide_false, Bool.not_true, Bool.or_self, Bool.false_eq_true, if_false]

end Sys2Proof.Machine
end

section
/-!
A step and its queue.
-/

namespace Sys2Proof.Machine

theorem step_cons (c : Instr) (rest : List Instr) (s : State) : step (s.withPending (c :: rest)) = exec c (s.withPending rest) := rfl

theorem step_of_pending_nil {s : State} (h : s.pending = []) : step s = .next s := by
  simp only [step, h]

/-- Settles O3: `step` looks at the queue alone. -/
theorem stepRunsTheFrontCommand : Obligations.StepRunsTheFrontCommand :=
  ⟨step_cons, fun _ => step_of_pending_nil⟩

/-- Settles O4: what the queue holds is stable, and exec starts with the rest of the queue. -/
theorem stepKeepsTheQueueBehind : Obligations.StepKeepsTheQueueBehind := by
  unfold Obligations.StepKeepsTheQueueBehind
  intro c rest s t hstep
  rw [step_cons] at hstep
  exact exec_stable (pending_stable rest) hstep rfl

end Sys2Proof.Machine
end

section
/-!
Reset values of registers: where the table of the values that are not 0 lists nothing, and what reset leaves in the mailbox.
-/

namespace Sys2Proof.Machine

theorem inDims_le {ds : List (Nat × Nat)} {off : Nat} (h : inDims ds off = true) :
    off ≤ (ds.map (fun d => (d.1 - 1) * d.2)).sum := by
  fun_induction inDims ds off with
  | case1 off => simpa using h
  | case2 n st off =>
    simp only [Bool.and_eq_true, beq_iff_eq, decide_eq_true_eq] at h
    obtain ⟨hmod, hdiv⟩ := h
    have := Nat.mul_le_mul_right st (Nat.le_sub_one_of_lt hdiv)
    have := Nat.div_mul_cancel (Nat.dvd_of_mod_eq_zero hmod)
    simp only [List.map_cons, List.map_nil, List.sum_cons, List.sum_nil]
    omega
  | case3 n st ds off hne ih =>
    simp only [Bool.and_eq_true, decide_eq_true_eq] at h
    obtain ⟨hdiv, hrest⟩ := h
    have := Nat.mul_le_mul_right st (Nat.le_sub_one_of_lt hdiv)
    have := Nat.div_add_mod' off st
    have := ih hrest
    simp only [List.map_cons, List.sum_cons]
    omega

/-- The last address that a row can cover. -/
def ResetRow.last (r : ResetRow) : Nat := r.base + (r.dims.map (fun d => (d.1 - 1) * d.2)).sum

theorem ResetRow.bounds_of_covers {r : ResetRow} {a : Nat} (h : r.covers a = true) : r.base ≤ a ∧ a ≤ r.last := by
  simp only [ResetRow.covers, Bool.and_eq_true, decide_eq_true_eq] at h
  obtain ⟨hbase, hdims⟩ := h
  have := inDims_le hdims
  unfold ResetRow.last
  omega

/-- No register from address `lo` to `hi` has a reset value other than 0. -/
def resetsToZero (lo hi : Nat) : Bool :=
  decide (hi < R.WEIR_RCT 0 ∨ R.WEIR_RCT 192 ≤ lo) && decide (hi < R.MBX_RSVQ 0 ∨ R.MBX_RSVQ 5 ≤ lo) &&
    resetRows.all (fun r => decide (hi < r.base ∨ r.last < lo))

theorem regReset_eq_zero {lo hi a : Nat} (h : resetsToZero lo hi = true) (hlo : lo ≤ a) (hhi : a ≤ hi) : regReset a = 0 := by
  simp only [resetsToZero, Bool.and_eq_true, decide_eq_true_eq, List.all_eq_true] at h
  obtain ⟨⟨hrct, hrsvq⟩, hrows⟩ := h
  have hnone : resetRows.find? (fun r => r.covers a) = none := by
    rw [List.find?_eq_none]
    intro r hr hcovers
    have := hrows r hr
    have := ResetRow.bounds_of_covers hcovers
    omega
  unfold regReset
  rw [if_neg (by omega), if_neg (by omega), hnone]

theorem State.fld_of_rd_eq_zero {s : State} {f : Fld} (h : s.rd f.addr = 0) : s.fld f = 0 := by
  simp [State.fld, h]

theorem State.flag_of_rd_eq_zero {s : State} {f : Fld} (h : s.rd f.addr = 0) : s.flag f = false := by
  simp [State.flag, State.fld_of_rd_eq_zero h]

theorem regReset_modeCur : regReset R.MODE_CUR = 0 := by decide

theorem regReset_axisStates (n : Fin 16) : regReset (F.axst n).addr = 0 :=
  regReset_eq_zero (lo := 0x50018020) (hi := 0x50018024) (by decide) (by simp only [F.axst, R.MODE_AXST0]; omega)
    (by simp only [F.axst, R.MODE_AXST0]; omega)

theorem regReset_featStat : regReset HW.featStat = 0 := by decide

theorem regReset_doorbell (k : Fin 16) : regReset (HW.db k) = 0 :=
  regReset_eq_zero (lo := 0x10000100) (hi := 0x1000013C) (by decide) (by unfold HW.db; omega) (by unfold HW.db; omega)

theorem regReset_channelStatus (k : Fin 16) : regReset (HW.chst k 0) = 0 :=
  regReset_eq_zero (lo := 0x10000400) (hi := 0x100004F0) (by decide) (by unfold HW.chst; omega) (by unfold HW.chst; omega)

theorem regReset_sticky {i : Nat} (hi : i < 6) : regReset (R.WEIR_STK i) = 0 :=
  regReset_eq_zero (lo := 0x50000000) (hi := 0x50000014) (by decide) (by unfold R.WEIR_STK; omega) (by unfold R.WEIR_STK; omega)

theorem regReset_credit : ∀ k : Fin 16, regReset (R.MBX_CRED k) = 8 := by decide

theorem regReset_owners (b : Fin 2048) : regReset (ownerFld b).addr = 0 :=
  regReset_eq_zero (lo := 0x60041000) (hi := 0x600417FC) (by decide) (by simp only [ownerFld, R.MBX_RSVOWN]; omega)
    (by simp only [ownerFld, R.MBX_RSVOWN]; omega)

theorem regReset_aperture (i : Fin 128) : regReset (R.MBX_APMAP i) = 0 :=
  regReset_eq_zero (lo := 0x60040400) (hi := 0x600405FC) (by decide) (by unfold R.MBX_APMAP; omega)
    (by unfold R.MBX_APMAP; omega)

/-- A credit register at reset: a limit of 8, no credit in flight (R268). -/
theorem State.credit_of_rd {s : State} {k : Fin 16} (h : s.rd (R.MBX_CRED k) = regReset (R.MBX_CRED k)) :
    s.fld (F.MBX_CRED_LIMIT k) = 8 ∧ s.fld (F.MBX_CRED_INFL k) = 0 := by
  rw [regReset_credit] at h
  simp [State.fld, F.MBX_CRED_LIMIT, F.MBX_CRED_INFL, h]

@[simp] theorem State.rd_reset (a : Nat) : State.reset.rd a = regReset a := rfl

/-- Settles O7: each clause is the reset value of its register. -/
theorem resetOfTheHostWindow : Obligations.ResetOfTheHostWindow := by
  unfold Obligations.ResetOfTheHostWindow
  refine ⟨State.fld_of_rd_eq_zero regReset_modeCur, rfl, rfl, State.flag_of_rd_eq_zero regReset_featStat,
    fun k => ⟨?_, ?_, ?_, ?_, ?_⟩, fun b => ?_, fun i => ?_, by decide, by decide⟩
  · exact (State.credit_of_rd (State.rd_reset _)).1
  · exact (State.credit_of_rd (State.rd_reset _)).2
  · exact State.fld_of_rd_eq_zero (regReset_channelStatus k)
  · exact State.fld_of_rd_eq_zero (regReset_channelStatus k)
  · exact State.fld_of_rd_eq_zero (regReset_axisStates k)
  · exact State.fld_of_rd_eq_zero (regReset_owners b)
  · exact State.flag_of_rd_eq_zero (regReset_aperture i)

end Sys2Proof.Machine
end

section
/-!
The warm reset: what it stores over, which registers it leaves at reset and which bytes of memory it keeps (R455, assumption log 21).
-/

namespace Sys2Proof.Machine

theorem SMap.get_filter {α : Type} (d : Nat → α) (m : SMap α) (p : Nat → Bool) (k : Nat) :
    SMap.get d (m.filter (fun e => p e.1)) k = if p k then SMap.get d m k else d k := by
  induction m with
  | nil => simp [SMap.get]
  | cons e m ih =>
    obtain ⟨j, v⟩ := e
    rw [List.filter_cons]
    by_cases hjk : j = k
    · subst hjk
      by_cases hp : p j <;> simp_all [SMap.get]
    · by_cases hp : p j <;> simp [SMap.get, hp, hjk, ih]

/-- A property that every change of the list's elements keeps. -/
theorem State.each_mem_stable {P : State → Prop} {α : Type} {s : State} (h : P s) {l : List α} {f : α → State → State}
    (hf : ∀ x ∈ l, ∀ t, P t → P (f x t)) : P (s.each l f) := by
  unfold State.each
  induction l generalizing s with
  | nil => exact h
  | cons x l ih => exact ih (hf x (.head l) s h) fun y hy => hf y (.tail x hy)

/-! ## The stores of the reset -/

/-- What a warm reset keeps of a state, before it writes a register. -/
def State.warmCore (s : State) : State := { State.reset with
  regs := s.regs.filter (fun e => s.warmKept e.1)
  mem := s.mem.filter (fun e => decide (0x10020000 ≤ e.1 ∧ e.1 < 0x10400000) || openMemory e.1)
  flash := s.flash
  sec := secKept s.sec
  wears := s.wears
  mode := { ModeState.reset with
    rillHeld := s.mode.rillHeld
    bad := s.mode.bad.filter (fun w => decide (0x10020000 ≤ 8 * w ∧ 8 * w < 0x10400000) || openMemory (8 * w)) }
  clk := { ClkState.reset with strapDue := s.clk.strapDue, cleared := s.clk.cleared }
  pins := s.pins
  free := s.free
  pending := s.pending }

/-- The state of a warm reset in which the sticky bits have been copied. -/
def State.warmCopied (s : State) : State :=
  (s.warmCore.freeMem openMemory).keepWears.each ((List.range 6).zip ((List.range 6).map (fun i => s.rd (R.WEIR_STK i))))
    (fun x u => u.wr (R.WEIR_PREV x.1) x.2)

/-- The registers that a warm reset writes after that. -/
def warmWrites : List Nat :=
  [R.CLK_STAT, R.WEIR_SFMSTAT, R.CLK_RSTCAUSE, R.CLK_IRST, R.FIO_SBCFG, R.CLK_CFG, R.HP_CFG, HW.node] ++ axisList.map R.SPW_AXCFG

section
variable {P : State → Prop} (hP : ∀ t a w, a ∈ warmWrites → P t → P (State.wr t a w))
include hP

theorem State.strapTimebase_keeps {s : State} (h : P s) : P s.strapTimebase := by
  unfold State.strapTimebase
  refine State.each_mem_stable h fun n hn t ht => ?_
  have hwrites : R.SPW_AXCFG n ∈ warmWrites := List.mem_append_right _ (List.mem_map_of_mem hn)
  exact hP _ _ _ hwrites (hP _ _ _ hwrites ht)

theorem State.applyStraps_keeps {s : State} (h : P s) : P s.applyStraps := by
  have hfield : P s.strapTimebase.strapField := hP _ _ _ (by decide) (State.strapTimebase_keeps hP h)
  exact hP _ _ _ (by decide) (hP _ _ _ (by decide) (hP _ _ _ (by decide) hfield))

/-- What holds once the sticky bits are copied, and no write of those registers ends, holds after the warm reset. -/
theorem State.warmReset_of_warmCopied {s : State} (hmode : s.curMode ≠ modeReset) (h : P s.warmCopied) (causes : Nat) :
    P (s.warmReset causes) := by
  unfold State.warmReset
  dsimp only
  rw [if_neg (by simpa using hmode)]
  refine State.applyStraps_keeps hP (hP _ _ _ (by decide) (hP _ _ _ (by decide) (hP _ _ _ (by decide) (hP _ _ _ (by decide)
    (hP _ _ _ (by decide) ?_)))))
  exact h

end

/-! ## What it leaves -/

theorem State.rd8_freeMem (s : State) {p : Nat → Bool} {a : Nat} (ha : p a = false) : (s.freeMem p).rd8 a = s.rd8 a := by
  unfold State.freeMem
  refine State.each_mem_stable (P := fun t => t.rd8 a = s.rd8 a) rfl fun b hb t ht => ?_
  have hne : a ≠ b := by
    rintro rfl
    simp [ha] at hb
  exact (State.rd8_wr8_ne _ _ hne).trans ht

/-- Free values go into memory alone. -/
theorem State.freeMem_keeps {β : Type} {g : State → β} (hg : ∀ t a b, g (State.wr8 t a b) = g t)
    (hfree : ∀ t v, g (State.withFree t v) = g t) (s : State) (p : Nat → Bool) : g (s.freeMem p) = g s := by
  unfold State.freeMem
  exact State.each_stable (P := fun t => g t = g s) rfl _ fun a t ht => (hg ..).trans ((hfree ..).trans ht)

theorem State.warmCopied_keeps {β : Type} {g : State → β} (hwr : ∀ t a w, g (State.wr t a w) = g t)
    (hwears : ∀ t v, g (State.withWears t v) = g t) (s : State) : g s.warmCopied = g (s.warmCore.freeMem openMemory) :=
  State.each_stable (P := fun t => g t = g (s.warmCore.freeMem openMemory)) (hwears ..) _ fun _ _ ht => (hwr ..).trans ht

theorem State.flash_warmReset {s : State} (hmode : s.curMode ≠ modeReset) (causes : Nat) : (s.warmReset causes).flash = s.flash := by
  refine State.warmReset_of_warmCopied (P := fun t => t.flash = s.flash) (fun _ _ _ _ h => h) hmode ?_ causes
  rw [State.warmCopied_keeps (g := State.flash) (fun _ _ _ => rfl) (fun _ _ => rfl)]
  exact State.freeMem_keeps (fun _ _ _ => rfl) (fun _ _ => rfl) ..

theorem State.otp_warmReset {s : State} (hmode : s.curMode ≠ modeReset) (causes : Nat) :
    (s.warmReset causes).sec.otp = s.sec.otp := by
  refine State.warmReset_of_warmCopied (P := fun t => t.sec.otp = s.sec.otp) (fun _ _ _ _ h => h) hmode ?_ causes
  rw [State.warmCopied_keeps (g := State.sec) (fun _ _ _ => rfl) (fun _ _ => rfl),
    State.freeMem_keeps (g := State.sec) (fun _ _ _ => rfl) (fun _ _ => rfl)]
  rfl

/-- Of the memory that takes no free value, the SRAM beyond the host window is kept and the rest reads 0. -/
theorem State.rd8_warmReset {s : State} (hmode : s.curMode ≠ modeReset) (causes : Nat) {a : Nat} (ha : openMemory a = false) :
    (s.warmReset causes).rd8 a = if 0x10020000 ≤ a ∧ a < 0x10400000 then s.rd8 a else 0 := by
  refine State.warmReset_of_warmCopied (P := fun t => t.rd8 a = _) (fun _ _ _ _ h => h) hmode ?_ causes
  rw [State.warmCopied_keeps (g := fun t => t.rd8 a) (fun _ _ _ => rfl) (fun _ _ => rfl), State.rd8_freeMem _ ha]
  refine (SMap.get_filter memDefault s.mem (fun k => decide (0x10020000 ≤ k ∧ k < 0x10400000) || openMemory k) a).trans ?_
  simp only [ha, Bool.or_false, decide_eq_true_eq]
  rfl

/-- The host window's words from HOST_FEAT on, WEIR.STK, the mode controller and the mailbox but for MBX.INV: registers that a warm
reset neither keeps nor writes. -/
def warmAtReset (a : Nat) : Prop :=
  0x10000010 ≤ a ∧ a < 0x10001000 ∨ 0x50000000 ≤ a ∧ a < 0x50000020 ∨ 0x50018000 ≤ a ∧ a < 0x50020000 ∨
    0x60040010 ≤ a ∧ a < 0x60050000

theorem not_warmAtReset_of_mem_warmWrites : ∀ a ∈ warmWrites, ¬ warmAtReset a := by
  unfold warmAtReset
  decide

/-- With its two equalities unbroken the mailbox keeps nothing but MBX.INV (R420). -/
theorem State.warmKept_eq_false {s : State} (hcredit : s.flag F.MBX_INV_CRERR = false) (hreservoir : s.flag F.MBX_INV_RSVERR = false)
    {a : Nat} (ha : warmAtReset a) : s.warmKept a = false := by
  unfold warmAtReset at ha
  have hlinks : ∀ k < 16, ¬ (R.GL_SEQSENT k ≤ a ∧ a ≤ R.GL_SEQOPEN k) := by
    unfold R.GL_SEQSENT R.GL_SEQOPEN
    omega
  have hcans : ∀ n < 8, ¬ (R.CAN_RXACC n ≤ a ∧ a ≤ R.CAN_INV n) ∧ a ≠ R.CAN_TXPEND n ∧ a ≠ R.CAN_QSTAT n 0 ∧
      a ≠ R.CAN_QSTAT n 1 := by
    unfold R.CAN_RXACC R.CAN_INV R.CAN_TXPEND R.CAN_QSTAT
    omega
  have hcaps : ∀ n ∈ [0, 1, 2, 3], ¬ (R.BSN_SREC n ≤ a ∧ a ≤ R.BSN_SQUE n) := by
    unfold R.BSN_SREC R.BSN_SQUE
    simp only [List.mem_cons, List.not_mem_nil, or_false]
    omega
  have hinv : a ≠ R.MBX_INV := by unfold R.MBX_INV; omega
  have hrill : ¬ (0x50010000 ≤ a ∧ a < 0x50018000) ∧ ¬ (0x50020000 ≤ a ∧ a < 0x50028000) := by omega
  unfold State.warmKept
  simp only [Bool.or_eq_false_iff, decide_eq_false_iff_not, List.any_eq_false, List.mem_filter, List.mem_range, Bool.or_eq_true,
    decide_eq_true_eq, beq_iff_eq, beq_eq_false_iff_ne, hcredit, hreservoir, Bool.false_and, and_true]
  exact ⟨⟨⟨⟨hrill, fun k hk => hlinks k hk.1⟩, fun n hn => by simpa [or_assoc] using hcans n hn.1⟩, fun n hn => hcaps n hn.1⟩, hinv⟩

theorem State.rd_freeMem (s : State) (p : Nat → Bool) (a : Nat) : (s.freeMem p).rd a = s.rd a :=
  State.freeMem_keeps (g := fun t => t.rd a) (fun _ _ _ => rfl) (fun _ _ => rfl) s p

theorem State.rd_warmReset {s : State} (hmode : s.curMode ≠ modeReset) (hcredit : s.flag F.MBX_INV_CRERR = false)
    (hreservoir : s.flag F.MBX_INV_RSVERR = false) (causes : Nat) {a : Nat} (ha : warmAtReset a) :
    (s.warmReset causes).rd a = regReset a := by
  have hwr : ∀ t b w, b ∈ warmWrites → t.rd a = regReset a → (State.wr t b w).rd a = regReset a := by
    intro t b w hb ht
    have hne : a ≠ b := fun h => not_warmAtReset_of_mem_warmWrites b hb (h ▸ ha)
    exact (State.rd_wr_ne t w hne).trans ht
  refine State.warmReset_of_warmCopied hwr hmode ?_ causes
  refine State.each_mem_stable (P := fun t => t.rd a = regReset a) ?_ fun x hx t ht => (State.rd_wr_ne t x.2 ?_).trans ht
  · refine (State.rd_freeMem s.warmCore openMemory a).trans ((SMap.get_filter regReset s.regs s.warmKept a).trans ?_)
    rw [State.warmKept_eq_false hcredit hreservoir ha]
    rfl
  · have hindex := List.mem_range.mp (List.of_mem_zip hx).1
    unfold warmAtReset at ha
    unfold R.WEIR_PREV
    omega

/-- The registers of an array, each written with a value of its own: what a written one reads then. -/
theorem State.rd_each_wr_zip {addr : Nat → Nat} (hinj : ∀ {i j}, addr i = addr j → i = j) (v : Nat → Word) (l : List Nat) (s : State)
    {i : Nat} (h : i ∈ l ∨ s.rd (addr i) = v i) :
    (s.each (l.zip (l.map v)) (fun x u => u.wr (addr x.1) x.2)).rd (addr i) = v i := by
  induction l generalizing s with
  | nil => exact h.resolve_left List.not_mem_nil
  | cons j l ih =>
    refine ih (s.wr (addr j) (v j)) ?_
    by_cases hij : i = j
    · exact .inr (hij ▸ State.rd_wr_same ..)
    · rw [State.rd_wr_ne _ _ fun hne => hij (hinj hne)]
      exact h.imp_left fun hmem => (List.mem_cons.mp hmem).resolve_left hij

theorem State.rd_prev_warmReset {s : State} (hmode : s.curMode ≠ modeReset) (causes : Nat) {i : Nat} (hi : i < 6) :
    (s.warmReset causes).rd (R.WEIR_PREV i) = s.rd (R.WEIR_STK i) := by
  have hprev : ∀ b ∈ warmWrites, b < R.WEIR_PREV 0 ∨ R.WEIR_PREV 5 < b := by decide
  refine State.warmReset_of_warmCopied (P := fun t => t.rd (R.WEIR_PREV i) = s.rd (R.WEIR_STK i)) ?_ hmode ?_ causes
  · intro t b w hb ht
    have hne : R.WEIR_PREV i ≠ b := by
      have := hprev b hb
      unfold R.WEIR_PREV at *
      omega
    exact (State.rd_wr_ne t w hne).trans ht
  · refine State.rd_each_wr_zip (addr := R.WEIR_PREV) ?_ (fun j => s.rd (R.WEIR_STK j)) _ _ (.inl (List.mem_range.mpr hi))
    unfold R.WEIR_PREV
    omega

theorem exec_warmReset_due {s : State} (h : (if s.anyShorted then s.mode.warmDue &&& 16 else s.mode.warmDue) ≠ 0) :
    exec .warmReset s = .next (s.warmReset (if s.anyShorted then s.mode.warmDue &&& 16 else s.mode.warmDue)) := by
  rw [exec_warmReset, execWarmReset]
  exact congrArg Host.Outcome.next (if_neg (by simpa using h))

/-- Settles O23: registers that a warm reset neither keeps nor writes stand at reset, and memory is kept or cleared by its address. -/
theorem warmResetKeepsAndClears : Obligations.WarmResetKeepsAndClears := by
  unfold Obligations.WarmResetKeepsAndClears
  intro s hdue hmode hcredit hreservoir
  have hexec := exec_warmReset_due hdue
  generalize (if s.anyShorted then s.mode.warmDue &&& 16 else s.mode.warmDue) = causes at hexec
  have hreset : ∀ {a}, warmAtReset a → (s.warmReset causes).rd a = regReset a :=
    fun ha => State.rd_warmReset hmode hcredit hreservoir causes ha
  have hdoorbell : ∀ k : Fin 16, warmAtReset (HW.db k) := by simp only [warmAtReset, HW.db]; omega
  have hchannel : ∀ k : Fin 16, warmAtReset (HW.chst k 0) := by simp only [warmAtReset, HW.chst]; omega
  have hclosed : ∀ a, 0x10000000 ≤ a → a < 0x10400000 → openMemory a = false := by
    intro a hlo hhi
    simp only [openMemory, Bool.or_eq_false_iff, decide_eq_false_iff_not]
    omega
  refine ⟨_, hexec, ?_, fun i hi => ⟨State.rd_prev_warmReset hmode causes hi, ?_⟩, fun k => ⟨?_, ?_, ?_, ?_, ?_⟩, fun b => ?_,
    fun i => ?_, ?_, fun a hlo hhi => ?_, fun a hlo hhi => ?_, State.flash_warmReset hmode causes, State.otp_warmReset hmode causes,
    exec_stable (pending_stable s.pending) hexec rfl⟩
  · exact State.fld_of_rd_eq_zero ((hreset (by unfold warmAtReset; decide)).trans regReset_modeCur)
  · exact (hreset (by simp only [warmAtReset, R.WEIR_STK]; omega)).trans (regReset_sticky hi)
  · exact (State.credit_of_rd (hreset (by simp only [warmAtReset, R.MBX_CRED]; omega))).1
  · exact State.fld_of_rd_eq_zero ((hreset (hdoorbell k)).trans (regReset_doorbell k))
  · exact State.fld_of_rd_eq_zero ((hreset (hchannel k)).trans (regReset_channelStatus k))
  · exact State.fld_of_rd_eq_zero ((hreset (hchannel k)).trans (regReset_channelStatus k))
  · exact State.fld_of_rd_eq_zero ((hreset (hdoorbell k)).trans (regReset_doorbell k))
  · have howner : warmAtReset (ownerFld b).addr := by simp only [warmAtReset, ownerFld, R.MBX_RSVOWN]; omega
    exact State.fld_of_rd_eq_zero ((hreset howner).trans (regReset_owners b))
  · have hslot : warmAtReset (R.MBX_APMAP i) := by simp only [warmAtReset, R.MBX_APMAP]; omega
    exact State.flag_of_rd_eq_zero ((hreset hslot).trans (regReset_aperture i))
  · exact State.flag_of_rd_eq_zero ((hreset (by unfold warmAtReset; decide)).trans regReset_featStat)
  · rw [State.rd8_warmReset hmode causes (hclosed a hlo (by omega)), if_neg (by omega)]
  · rw [State.rd8_warmReset hmode causes (hclosed a (by omega) hhi), if_pos ⟨hlo, hhi⟩]

end Sys2Proof.Machine
end

section
/-!
The host port, doorbells, command consumption, feature commit and host sessions.
-/

namespace Sys2Proof.Machine

/-- What a datagram does that an open session authenticates and whose header and length keep the layout of R280. -/
theorem exec_hostSessionDatagram_accepted {bytes : List Byte} (burst : Bool) {s t : State} {n : Nat}
    (hnet : s.netRuns = true) (hrun : s.supRuns = true) (ht : t = s.takeRx bytes) (hfeature : t.feature 12 = true)
    (hopen : [0, 1, 2, 3].find? (fun n => (t.session n).isOpen && (t.session n).number == numAt bytes 4 4) = some n)
    (htag : bytes.drop (bytes.length - 16) = hmacTag (t.session n).key (bytes.take (bytes.length - 16)))
    (hseq : (t.session n).rxNext ≤ numAt bytes 8 4) (hmagic : numAt bytes 0 2 = 0x7E16) (hversion : numAt bytes 2 1 = 1)
    (hlength : bytes.length ≤ 1472) (hchan : (t.session n).chans.testBit (numAt bytes 12 1) = true)
    (hcount : numAt bytes 13 1 ≤ 16) :
    exec (.hostSessionDatagram bytes burst) s =
      let u := t.modSession n (fun x => { x with rxNext := numAt bytes 8 4 + 1 })
      .next (if numAt bytes 3 1 == 1 then
          if bytes.length == 36 + 64 * numAt bytes 13 1 then u.sessionCommands (numAt bytes 12 1) bytes else t
        else if numAt bytes 3 1 == 3 then u.sessionBuffer (numAt bytes 12 1) bytes
        else t) := by
  subst ht
  rw [exec_hostSessionDatagram, execHostSessionDatagram, if_neg (by simp [hnet, hrun])]
  have hauthentic := bne_eq_false_iff_eq.mpr htag
  simp only [hfeature, hopen, hauthentic, Nat.not_lt.mpr hseq, hmagic, hversion, Nat.not_lt.mpr hlength, hchan,
    Nat.not_lt.mpr hcount, bne_self_eq_false, decide_false, Bool.not_true, Bool.or_self, Bool.false_eq_true, if_false]

/-- Settles O49: each clause's conditions are the guards of its command. -/
theorem hostPortCompletes : Obligations.HostPortCompletes := by
  unfold Obligations.HostPortCompletes
  refine ⟨?_, ?_, ?_, ?_, ?_, ?_, ?_, ?_, ?_, ?_, ?_, ?_, ?_, ?_, ?_⟩
  · intro head len s a haddr
    rw [exec_hpRead, execHpRead]
    simp only [haddr]
  · intro head len s hvoid
    rw [exec_hpRead, execHpRead]
    simp only [hvoid]
  · intro s
    rw [exec_hpRdsr, execHpRdsr]
  · intro k v s hserves
    rw [exec_doorbellWrite, execDoorbellWrite, if_pos hserves]
  · intro v s hserves
    rw [exec_featCommit, execFeatCommit, if_pos hserves]
  · intro head data s a haddr
    rw [exec_hpWrite, execHpWrite]
    simp only [haddr]
  · intro head data s hvoid
    rw [exec_hpWrite, execHpWrite]
    simp only [hvoid]
  · intro s
    exact exec_commandConsume s
  · intro bytes burst s hnet hrun hfeature hnone
    rw [exec_hostSessionDatagram, execHostSessionDatagram, if_neg (by simp [hnet, hrun])]
    simp only [hfeature, hnone, Bool.not_true, Bool.false_eq_true, if_false]
  · intro bytes burst s t n hnet hrun ht hfeature hopen hdiscard
    subst ht
    rw [exec_hostSessionDatagram, execHostSessionDatagram, if_neg (by simp [hnet, hrun])]
    simp only [hfeature, hopen, Bool.not_true, Bool.false_eq_true, if_false]
    exact congrArg Host.Outcome.next (if_pos (by simpa using hdiscard))
  · intro bytes burst s t n x hnet hrun ht hfeature hopen hx htag hseq hmagic hversion hlength hchan hcount hkind hsize
    subst hx
    rw [exec_hostSessionDatagram_accepted burst hnet hrun ht hfeature hopen htag hseq hmagic hversion hlength hchan hcount]
    simp only [hkind, hsize, beq_self_eq_true, if_true]
  · intro bytes burst s t n x hnet hrun ht hfeature hopen hx htag hseq hmagic hversion hlength hchan hcount hkind
    subst hx
    rw [exec_hostSessionDatagram_accepted burst hnet hrun ht hfeature hopen htag hseq hmagic hversion hlength hchan hcount]
    simp [hkind]
  · intro k index s t n l ok hnet hrun hbound hl hsome hsend
    subst hl
    rw [exec_sessionResponseResend, execSessionResponseResend, if_neg (by simp [hnet, hrun])]
    simp only [hbound, List.isEmpty_eq_false_iff.mpr hsome, hsend, Bool.false_eq_true, if_false]
  · intro k index s hunbound
    rw [exec_sessionResponseResend, execSessionResponseResend]
    simp only [hunbound, ite_self]
  · intro n s hrun hopen
    rw [exec_sessionIdleClose, execSessionIdleClose, if_pos (by simp [hrun, hopen])]

end Sys2Proof.Machine
end

section
/-!
The system commands 0x00 to 0x0C that the mailbox answers for the device as a whole.
-/

namespace Sys2Proof.Machine

/-- SYS_NOP at its step 8, outside Update. -/
theorem exec_sysNop_ok {c : HostCmd} {s u : State} (hs : s.serves 0x00 c = true) (hu : u = s.atStep8 0x00 c)
    (hmode : u.curMode ≠ modeUpdate) : exec (.sysNop c) s = .next (u.finishHead c.ch.val .ok) := by
  refine exec_of_step8_answers (exec_sysNop c s) hs hu ?_
  simp [hmode, okReply]

/-- Settles O50: each command is served and its step 8 passes the refusals that its conditions exclude. -/
theorem systemCommandsComplete : Obligations.SystemCommandsComplete := by
  unfold Obligations.SystemCommandsComplete
  refine ⟨?_, ?_, ?_, ?_, ?_, ?_, ?_, ?_, ?_, ?_, ?_⟩
  · intro c s u hs hu hmode
    exact exec_sysNop_ok hs hu hmode
  · intro c s u ids hs hu hids
    subst hids
    exact exec_of_step8_answers (exec_sysId c s) hs hu rfl
  · intro c s u hs hu
    exact exec_of_step8_answers (exec_sysStatus c s) hs hu rfl
  · intro c s u hs hu hmode harg hshorted
    refine exec_of_step8_answers (exec_sysReset c s) hs hu ?_
    simp [hmode, harg, hshorted, okReply]
  · intro c s u t k hs hu hk hmode hchan hlimit
    subst hk
    refine exec_of_step8_answers (exec_creditSet c s) hs hu ?_
    simp only [beq_eq_false_iff_ne.mpr hmode, Nat.not_lt.mpr hchan, hlimit, okReply, decide_false, Bool.false_eq_true, if_false]
  · intro c s u t v n bs is hs hu hn hcount halloc hmap
    subst hn
    refine exec_of_step8_answers (exec_bufAlloc c s) hs hu ?_
    simp only [hcount, halloc, hmap, okResult, and_self, decide_true, Bool.not_true, Bool.false_eq_true, if_false]
  · intro c s u n hs hserves hu hn hhs hcount howned hdistinct
    subst hhs hn
    refine exec_of_step8_answers (exec_bufFree c s) hserves hu ?_
    simp only [hcount, howned, hdistinct, okReply, and_self, decide_true, Bool.not_true, Bool.or_self, Bool.false_eq_true, if_false]
  · intro c s u hs hu
    exact exec_of_step8_answers (exec_rsvStatus c s) hs hu rfl
  · intro c s u hs hu hmode hfloors hquotas
    refine exec_of_step8_answers (exec_rsvQuota c s) hs hu ?_
    simp only [hmode, Nat.not_lt.mpr hfloors, hquotas, okReply, decide_false, Bool.not_true, Bool.or_self, Bool.false_eq_true,
      if_false]
  · intro c s u k hs hu hk hchan hunbound
    subst hk
    refine exec_of_step8_answers (exec_chanStatus c s) hs hu ?_
    simp only [Nat.not_lt.mpr hchan, hunbound, okResult, decide_false, Bool.false_eq_true, if_false]
  · intro c s u t bs hs hu hmode hattached hbufs
    refine exec_of_step8_answers (exec_sysEcho c s) hs hu ?_
    simp only [beq_eq_false_iff_ne.mpr hmode, hattached, hbufs, Bool.false_eq_true, if_false]

end Sys2Proof.Machine
end

section
/-!
The response of a command: what a command with no buffers and a plain answer leaves (R264, R267, R268).
-/

namespace Sys2Proof.Machine

/-! ## Frames of a block of bytes written -/

@[simp] theorem State.fld_wrBytes (s : State) (a : Nat) (l : List Byte) (g : Fld) : (s.wrBytes a l).fld g = s.fld g := by
  unfold State.fld
  rw [State.rd_wrBytes]

theorem State.wrBytes_keeps {β : Type} {g : State → β} (hg : ∀ t a b, g (State.wr8 t a b) = g t) (s : State) (a : Nat)
    (l : List Byte) : g (s.wrBytes a l) = g s := by
  induction l generalizing s a with
  | nil => rfl
  | cons b l ih => exact (ih ..).trans (hg ..)

@[simp] theorem State.flash_wrBytes (s : State) (a : Nat) (l : List Byte) : (s.wrBytes a l).flash = s.flash :=
  State.wrBytes_keeps (fun _ _ _ => rfl) s a l

@[simp] theorem State.weir_wrBytes (s : State) (a : Nat) (l : List Byte) : (s.wrBytes a l).weir = s.weir :=
  State.wrBytes_keeps (fun _ _ _ => rfl) s a l

@[simp] theorem State.chan_wrBytes (s : State) (a k : Nat) (l : List Byte) : (s.wrBytes a l).chan k = s.chan k :=
  State.wrBytes_keeps (g := fun t => t.chan k) (fun _ _ _ => rfl) s a l

@[simp] theorem State.chanSession_wrBytes (s : State) (a k : Nat) (l : List Byte) :
    (s.wrBytes a l).chanSession k = s.chanSession k :=
  State.wrBytes_keeps (g := fun t => t.chanSession k) (fun _ _ _ => rfl) s a l

theorem State.rdBytes_wrBytes_same (s : State) (a : Nat) (l : List Byte) : (s.wrBytes a l).rdBytes a l.length = l := by
  refine List.ext_getElem (by simp [State.rdBytes]) fun i hi hi' => ?_
  simp [State.rdBytes, State.rd8_wrBytes, hi']

/-! ## Changes of registers alone -/

/-- From `s` to `t` registers alone change, and the one at `a` does not. -/
def State.regsOnlyBut (a : Nat) (s t : State) : Prop := (∃ v, t = s.withRegs v) ∧ t.rd a = s.rd a

theorem State.regsOnlyBut_refl (a : Nat) (s : State) : s.regsOnlyBut a s := ⟨⟨s.regs, rfl⟩, rfl⟩

theorem State.regsOnlyBut_put {a : Nat} {s t : State} (h : s.regsOnlyBut a t) {f : Fld} (v : Nat) (hf : a ≠ f.addr) :
    s.regsOnlyBut a (t.put f v) := by
  obtain ⟨⟨w, rfl⟩, hrd⟩ := h
  exact ⟨⟨_, rfl⟩, (State.rd_put_ne _ v hf).trans hrd⟩

/-- The credit that comes back stands in the channel's credit register and the pool. -/
theorem State.regsOnlyBut_returnCredit {a k : Nat} {s t : State} (h : s.regsOnlyBut a t) (hcred : a ≠ R.MBX_CRED k)
    (hpool : a ≠ R.MBX_CREDPOOL) : s.regsOnlyBut a (t.returnCredit k) := by
  unfold State.returnCredit
  dsimp only
  split
  · exact State.regsOnlyBut_put h _ hcred
  · exact State.regsOnlyBut_put (State.regsOnlyBut_put (State.regsOnlyBut_put h _ hcred) _ hcred) _ hpool

/-! ## The answer on a channel without a session -/

@[simp] theorem State.chan_incMod (s : State) (f : Fld) (k : Nat) : (s.incMod f).chan k = s.chan k := rfl
@[simp] theorem State.withRegs_incMod (s : State) (f : Fld) (v : SMap Word) : (s.incMod f).withRegs v = s.withRegs v := rfl
@[simp] theorem State.rd8_withRegs (s : State) (v : SMap Word) (a : Nat) : (s.withRegs v).rd8 a = s.rd8 a := rfl
@[simp] theorem State.chan_withRegs (s : State) (v : SMap Word) (k : Nat) : (s.withRegs v).chan k = s.chan k := rfl
@[simp] theorem State.chanSession_put (s : State) (f : Fld) (v k : Nat) : (s.put f v).chanSession k = s.chanSession k := rfl
@[simp] theorem State.chanSession_incMod (s : State) (f : Fld) (k : Nat) : (s.incMod f).chanSession k = s.chanSession k := rfl
@[simp] theorem State.chanSession_withRegs (s : State) (v : SMap Word) (k : Nat) :
    (s.withRegs v).chanSession k = s.chanSession k := rfl
@[simp] theorem State.chanSession_modChan (s : State) (j k : Nat) (f : Chan → Chan) :
    (s.modChan j f).chanSession k = s.chanSession k := rfl

/-- A response of MB_k in its slot, and RSPPI one further. -/
def State.responded (s : State) (k op tag : Nat) (r : Reply) : State :=
  (s.wrBytes (rspSlot k (s.fld (HW.rsppi k))) (descriptor op r.status tag r.result.length r.detail (s.fld (HW.rsppi k)) false
    (r.ret ++ r.bufs) r.result)).incMod (HW.rsppi k)

/-- After the response only its interrupt follows: it waits for no datagram. -/
theorem State.writeResponse_unbound {s : State} {k : Nat} (h : s.chanSession k = none) (op tag : Nat) (irq : Bool) (r : Reply) :
    s.writeResponse k op tag irq r =
      if irq then (s.responded k op tag r).put ⟨HW.rspIrq, k, 1⟩ 1 else s.responded k op tag r := by
  have hbound : ∀ t : State, t.chanSession k = s.chanSession k → ¬ (t.chanSession k).isSome = true := by
    intro t ht
    simp [ht, h]
  unfold State.writeResponse State.responded
  dsimp only
  rw [if_neg (hbound _ ?_)]
  split <;> simp only [State.chanSession_put, State.chanSession_incMod, State.chanSession_wrBytes]

/-- After the response only registers follow: its interrupt and the command's credit. -/
theorem State.answer_unbound {s : State} {k : Nat} (hk : k < 16) (h : s.chanSession k = none) (e : InService) (r : Reply) :
    (s.responded k e.opcode e.cmd.tag.toNat r).regsOnlyBut (HW.chst k 0) (s.answer k e r) := by
  have hirq : HW.chst k 0 ≠ HW.rspIrq := by unfold HW.chst HW.rspIrq; omega
  have hcred : HW.chst k 0 ≠ R.MBX_CRED k := by unfold HW.chst R.MBX_CRED; omega
  have hpool : HW.chst k 0 ≠ R.MBX_CREDPOOL := by unfold HW.chst R.MBX_CREDPOOL; omega
  have hresponse : (s.responded k e.opcode e.cmd.tag.toNat r).regsOnlyBut (HW.chst k 0)
      (s.writeResponse k e.opcode e.cmd.tag.toNat e.cmd.irq r) := by
    rw [State.writeResponse_unbound h]
    split
    · exact State.regsOnlyBut_put (State.regsOnlyBut_refl ..) _ hirq
    · exact State.regsOnlyBut_refl ..
  unfold State.answer
  dsimp only
  split
  · exact State.regsOnlyBut_returnCredit hresponse hcred hpool
  · exact hresponse

/-! ## The end of a command without buffers -/

theorem State.takeAttached_nil (s : State) (k : Nat) {c : HostCmd} (h : c.handles = []) : s.takeAttached k c = s := by
  unfold State.takeAttached
  rw [h]
  exact ite_self s

/-- With nothing in service on a channel without a session nothing is checked and nothing sent. -/
theorem State.serveAll_idle {s : State} {k : Nat} (hidle : (s.chan k).inService = []) (hunbound : s.chanSession k = none) :
    s.serveAll k = s := by
  simp only [State.serveAll, State.serve, State.sendRsps, hidle, hunbound]

/-- The channel with its head command ended and no buffer of it held. -/
def State.withHeadEnded (s : State) (k : Nat) (e : InService) (es : List InService) : State :=
  (s.modChan k (fun c => { c with inService := es })).modChan k
    (fun c => { c with held := c.held.filter (fun x => !(e.cmd.handles.map (fun h => h.toNat)).contains x.2) })

theorem State.inService_withHeadEnded (s : State) (k : Nat) (e : InService) (es : List InService) :
    ((s.withHeadEnded k e es).chan k).inService = es := by
  simp [State.withHeadEnded]

/-- The end of a command without buffers, alone in service on a channel without a session, that answers ST_OK: its response. -/
theorem State.finishHead_ok {s : State} {k : Nat} {e : InService} (hk : k < 16) (hservice : (s.chan k).inService = [e])
    (hbufs : e.cmd.handles = []) (hunbound : s.chanSession k = none) :
    ((s.withHeadEnded k e []).responded k e.opcode e.cmd.tag.toNat .ok).regsOnlyBut (HW.chst k 0) (s.finishHead k .ok) := by
  have hfinish : (s.modChan k (fun c => { c with inService := [] })).finish k e .ok = (s.withHeadEnded k e []).answer k e .ok := by
    unfold State.finish State.withHeadEnded
    simp [hbufs, Reply.ok, stOk, State.each]
  have hanswer := State.answer_unbound (s := s.withHeadEnded k e []) hk hunbound e .ok
  obtain ⟨v, hv⟩ := hanswer.1
  have hidle : (((s.withHeadEnded k e []).answer k e .ok).chan k).inService = [] := by
    rw [hv, State.responded, State.chan_withRegs, State.chan_incMod, State.chan_wrBytes, State.inService_withHeadEnded]
  have hsession : ((s.withHeadEnded k e []).answer k e .ok).chanSession k = none := by
    rw [hv, State.responded, State.chanSession_withRegs, State.chanSession_incMod, State.chanSession_wrBytes]
    exact hunbound
  unfold State.finishHead
  rw [hservice]
  dsimp only
  rw [hfinish, State.serveAll_idle hidle hsession]
  exact hanswer

/-- The 64 bytes of a response with index `i`, status ST_OK, no buffers and no result (R264). -/
def okResponse (op tag i : Nat) : List Byte :=
  [BitVec.ofNat 8 op, 0x00, BitVec.ofNat 8 tag, BitVec.ofNat 8 (tag / 256), 0x00, 0x00, 0x00,
    BitVec.ofNat 8 ((1 - i / 32 % 2) * 128)] ++ List.replicate 56 0x00

theorem descriptor_ok (op tag i : Nat) : descriptor op Reply.ok.status tag Reply.ok.result.length Reply.ok.detail i false
    (Reply.ok.ret ++ Reply.ok.bufs) Reply.ok.result = okResponse op tag i := by
  simp [okResponse, descriptor, leBytes, bytesAt, Reply.ok, stOk, List.range_succ, List.replicate]

/-- The end of a command without buffers in the terms of R264 and R267: the response in its slot and nothing else in memory, the
index one further, the command out of service. -/
theorem State.finishHead_ok_effect {s t : State} {k : Nat} {e : InService} (hk : k < 16) (hservice : (s.chan k).inService = [e])
    (hbufs : e.cmd.handles = []) (hunbound : s.chanSession k = none) (ht : t = s.finishHead k .ok) :
    t.rdBytes (rspSlot k (s.fld (HW.rsppi k))) 64 = okResponse e.opcode e.cmd.tag.toNat (s.fld (HW.rsppi k)) ∧
      (∀ a, a < rspSlot k (s.fld (HW.rsppi k)) ∨ rspSlot k (s.fld (HW.rsppi k)) + 64 ≤ a → t.rd8 a = s.rd8 a) ∧
      t.fld (HW.rsppi k) = (s.fld (HW.rsppi k) + 1) % 65536 ∧
      (t.chan k).inService = [] ∧ t.flash = s.flash ∧ t.engines = s.engines ∧ t.weir = s.weir := by
  have hend := State.finishHead_ok hk hservice hbufs hunbound
  have hhead : (s.withHeadEnded k e []).fld (HW.rsppi k) = s.fld (HW.rsppi k) := rfl
  rw [← ht, State.responded, descriptor_ok, hhead] at hend
  obtain ⟨⟨v, hv⟩, hrd⟩ := hend
  rw [State.withRegs_incMod] at hv
  have hrd8 : ∀ a, t.rd8 a = ((s.withHeadEnded k e []).wrBytes (rspSlot k (s.fld (HW.rsppi k)))
      (okResponse e.opcode e.cmd.tag.toNat (s.fld (HW.rsppi k)))).rd8 a := fun a => by rw [hv, State.rd8_withRegs]
  refine ⟨?_, fun a ha => ?_, ?_, ?_, ?_, ?_, ?_⟩
  · rw [State.rdBytes, List.map_congr_left (fun i _ => hrd8 _)]
    exact State.rdBytes_wrBytes_same ..
  · rw [hrd8, State.rd8_wrBytes, if_neg]
    · rfl
    · simp only [okResponse, List.length_append, List.length_cons, List.length_nil, List.length_replicate]
      omega
  · rw [State.fld, show (HW.rsppi k).addr = HW.chst k 0 from rfl, hrd]
    refine (State.fld_put_same _ (HW.rsppi k) _ (Nat.le_refl 32)).trans ?_
    rw [State.fld_wrBytes]
    rfl
  · rw [hv, State.chan_withRegs, State.chan_wrBytes, State.inService_withHeadEnded]
  · rw [hv, State.withRegs_flash, State.flash_wrBytes]
    rfl
  · rw [hv, State.withRegs_engines, State.engines_wrBytes]
    rfl
  · rw [hv, State.withRegs_weir, State.weir_wrBytes]
    rfl

/-! ## SYS_NOP -/

/-- The state in which step 8 of a command without buffers acts: only a credit has gone into flight and the command into service. -/
theorem State.atStep8_nil (s : State) (op : Nat) {c : HostCmd} (h : c.handles = []) :
    s.atStep8 op c =
      (((s.put (F.MBX_CRED_INFL c.ch.val) (s.fld (F.MBX_CRED_INFL c.ch.val) + 1)).modChan c.ch.val
        (fun x => { x with inService := [{ s.entry op c with checked := true }] })).modChan c.ch.val
        (fun x => { x with inService := { s.entry op c with checked := true, started := true } :: x.inService.tail })) := by
  unfold State.atStep8
  rw [State.takeAttached_nil _ _ h]

theorem State.fld_atStep8_nil (s : State) (op : Nat) {c : HostCmd} (h : c.handles = []) {g : Fld}
    (hg : g.addr ≠ R.MBX_CRED c.ch.val) : (s.atStep8 op c).fld g = s.fld g := by
  rw [State.atStep8_nil s op h, State.fld_modChan, State.fld_modChan, State.fld_put_ne _ _ hg]

theorem State.inService_atStep8_nil (s : State) (op : Nat) {c : HostCmd} (h : c.handles = []) :
    ((s.atStep8 op c).chan c.ch.val).inService = [{ s.entry op c with checked := true, started := true }] := by
  simp [State.atStep8_nil s op h]

/-- Settles O20: the command ends with its response, and after the response only registers change. -/
theorem nopResponse : Obligations.NopResponse := by
  unfold Obligations.NopResponse
  intro c s hs hmode hbufs hunbound
  have hmode' : (s.atStep8 0x00 c).curMode ≠ modeUpdate := by
    rwa [State.curMode, State.fld_atStep8_nil s _ hbufs (by simp only [F.MODE_CUR_MODE, R.MODE_CUR, R.MBX_CRED]; omega)]
  have hrsppi : (s.atStep8 0x00 c).fld (HW.rsppi c.ch.val) = s.fld (HW.rsppi c.ch.val) :=
    State.fld_atStep8_nil s _ hbufs (by simp only [HW.rsppi, HW.chst, R.MBX_CRED]; omega)
  have hunbound' : (s.atStep8 0x00 c).chanSession c.ch.val = none := by rw [State.atStep8_nil s _ hbufs]; exact hunbound
  refine ⟨_, exec_sysNop_ok hs rfl hmode', ?_⟩
  obtain ⟨hresponse, hmem, hindex, hservice, hflash, hengines, hweir⟩ :=
    State.finishHead_ok_effect c.ch.isLt (State.inService_atStep8_nil s 0x00 hbufs) hbufs hunbound' rfl
  rw [hrsppi] at hresponse hmem hindex
  have hfront := State.atStep8_nil s 0x00 hbufs
  refine ⟨hresponse, fun a ha => (hmem a ha).trans ?_, hindex, hservice, hflash.trans ?_, hengines.trans ?_, hweir.trans ?_⟩ <;>
  · rw [hfront]; rfl

end Sys2Proof.Machine
end

section
/-!
The assertion of a fault source: what it cannot touch (R289, R291).
-/

namespace Sys2Proof.Machine

/-- A part of the state that no write of a register or of a byte of memory moves is not moved by the words of the speed task. -/
theorem State.writeSpeedTask_keeps {β : Type} {g : State → β} (hput : ∀ t f v, g (State.put t f v) = g t)
    (hwr8 : ∀ t a b, g (State.wr8 t a b) = g t) (s : State) (e build : Nat) : g (s.writeSpeedTask e build) = g s := by
  unfold State.writeSpeedTask
  dsimp only
  rw [hput, State.wrBytes_keeps hwr8, State.wrBytes_keeps hwr8]

/-- The flash, the mailbox, the security, network and CAN state and the input slots: beyond the reach of the protection. -/
def State.beyondProtection (s : State) :=
  (s.flash, s.chans, s.sessions, s.inputs, s.sec, s.net, s.cans)

theorem State.beyondProtection_calm (s : State) : Calm (fun t => t.beyondProtection = s.beyondProtection) where
  wr _ _ _ h := h
  speed t e build _ h :=
    (State.writeSpeedTask_keeps (g := State.beyondProtection) (fun _ _ _ => rfl) (fun _ _ _ => rfl) t e build).trans h
  other h _ hflash _ hchans hsessions _ _ hinputs hsec hnet hcans _ := by
    rw [← h]
    simp only [State.beyondProtection, hflash, hchans, hsessions, hinputs, hsec, hnet, hcans]

/-- Settles O17: a source's assertion is calm, and neither the engines and the memory nor what lies beyond the protection is
moved by a calm operation. -/
theorem assertionsTouchOnlyProtection : Obligations.AssertionsTouchOnlyProtection := by
  unfold Obligations.AssertionsTouchOnlyProtection
  intro ev s
  obtain ⟨hslots, hengines, hmem⟩ := State.assertEv_calm s.keepsEngines_calm s.keepsEngines_refl ev
  have hbeyond := State.assertEv_calm s.beyondProtection_calm rfl ev
  simp only [State.beyondProtection, Prod.mk.injEq] at hbeyond
  obtain ⟨hflash, hchans, hsessions, hinputs, hsec, hnet, hcans⟩ := hbeyond
  exact ⟨_, exec_sourceAssert ev s, hmem, hflash, hchans, hsessions, hslots, hengines, hinputs, hsec, hnet, hcans⟩

end Sys2Proof.Machine
end

section
/-!
A source that reaches the Weir sets its sticky bit and joins the notify queue (R288, R302, R303).
-/

namespace Sys2Proof.Machine

/-! ## Event routing -/

/-- Routing an event drives trigger-bus lines; no register and no notify entry changes. -/
theorem State.routeEvent_frame (s : State) (ev : Nat) :
    (s.routeEvent ev).regs = s.regs ∧ (s.routeEvent ev).weir.nq = s.weir.nq := by
  have hstarts : ∀ (t : State) l, (t.sendStarts l).regs = t.regs ∧ (t.sendStarts l).weir.nq = t.weir.nq := by
    intro t l
    unfold State.sendStarts
    split <;> exact ⟨rfl, rfl⟩
  unfold State.routeEvent
  dsimp only
  split
  · exact ⟨rfl, rfl⟩
  · unfold State.linePulse
    refine State.each_stable (P := fun t => t.regs = s.regs ∧ t.weir.nq = s.weir.nq) ?_ _ (fun _ _ h => h)
    exact hstarts _ _

theorem State.rd_routeEvent (s : State) (ev a : Nat) : (s.routeEvent ev).rd a = s.rd a :=
  congrArg (fun m => SMap.get regReset m a) (s.routeEvent_frame ev).1

theorem State.fld_routeEvent (s : State) (ev : Nat) (g : Fld) : (s.routeEvent ev).fld g = s.fld g := by
  rw [State.fld, State.rd_routeEvent, State.fld]

/-! ## The notify queue -/

/-- The firmware shows IRQSTAT.WEIR while the main clocks run. -/
def State.weirIrq (s : State) : State := if s.clk.mainStopped then s else s.irq 2

theorem State.rd_weirIrq (s : State) {a : Nat} (h : a ≠ HW.irqStat) : s.weirIrq.rd a = s.rd a := by
  unfold State.weirIrq State.irq
  split
  · rfl
  · rw [State.rd_put_ne _ _ h]

@[simp] theorem State.weir_weirIrq (s : State) : s.weirIrq.weir = s.weir := by
  unfold State.weirIrq
  split <;> rfl

@[simp] theorem State.weir_put (s : State) (f : Fld) (v : Nat) : (s.put f v).weir = s.weir := rfl

@[simp] theorem State.weir_syncNq (s : State) : s.syncNq.weir = s.weir := by
  unfold State.syncNq State.putB
  rw [State.weir_put, State.weir_put]

theorem State.rd_syncNq (s : State) {a : Nat} (h : a ≠ R.WEIR_NQ) : s.syncNq.rd a = s.rd a := by
  unfold State.syncNq State.putB
  rw [State.rd_put_ne _ _ h, State.rd_put_ne _ _ h]

/-- A notification that finds room is the queue's new last entry. -/
theorem State.notify_room {s : State} (ev : Nat) (h : s.weir.nq.length < 32) :
    s.notify ev = ((s.withWeir { s.weir with nq := s.weir.nq ++ [ev] }).syncNq).weirIrq := by
  unfold State.notify State.weirIrq
  simp only [h, decide_true, if_true]

/-- A notification that finds the queue full sets its overflow flag. -/
theorem State.notify_full {s : State} (ev : Nat) (h : 32 ≤ s.weir.nq.length) :
    s.notify ev = (s.put F.WEIR_NQ_OVF 1).weirIrq := by
  unfold State.notify State.weirIrq
  simp only [Nat.not_lt.mpr h, decide_false, Bool.false_eq_true, if_false]

theorem State.rd_notify (s : State) (ev : Nat) {a : Nat} (hnq : a ≠ R.WEIR_NQ) (hirq : a ≠ HW.irqStat) :
    (s.notify ev).rd a = s.rd a := by
  by_cases h : s.weir.nq.length < 32
  · rw [State.notify_room ev h, State.rd_weirIrq _ hirq, State.rd_syncNq _ hnq, State.rd_withWeir]
  · rw [State.notify_full ev (Nat.not_lt.mp h), State.rd_weirIrq _ hirq, State.rd_put_ne _ _ hnq]

theorem State.overflow_notify {s : State} (ev : Nat) (h : 32 ≤ s.weir.nq.length) :
    (s.notify ev).flag F.WEIR_NQ_OVF = true := by
  rw [State.notify_full ev h, State.flag, State.fld, State.rd_weirIrq _ (by decide), ← State.fld,
    State.fld_put_same s F.WEIR_NQ_OVF 1 (by decide)]
  rfl

/-! ## Sticky bits -/

theorem State.sticky_put_same (s : State) (ev : Nat) : (s.put (stkFld ev) 1).flag (stkFld ev) = true := by
  have hbit : (stkFld ev).lo + (stkFld ev).width ≤ 32 := by simp only [stkFld]; omega
  rw [State.flag, State.fld_put_same s (stkFld ev) 1 hbit]
  rfl

/-- Another source's sticky bit stands in another register or at another bit. -/
theorem State.sticky_put_ne (s : State) {ev j : Nat} (h : j ≠ ev) (v : Nat) :
    (s.put (stkFld ev) v).flag (stkFld j) = s.flag (stkFld j) := by
  unfold State.flag
  by_cases hreg : j / 32 = ev / 32
  · rw [State.fld_put_disj s v (by simp only [stkFld]; omega) (by simp only [stkFld]; omega)]
  · rw [State.fld_put_ne s v (by simp only [stkFld, R.WEIR_STK]; omega)]

theorem State.sticky_notify (s : State) (ev : Nat) {j : Nat} (h : j < 192) :
    (s.notify ev).flag (stkFld j) = s.flag (stkFld j) := by
  rw [State.flag, State.fld, State.rd_notify s ev (by simp only [stkFld, R.WEIR_STK, R.WEIR_NQ]; omega)
    (by simp only [stkFld, R.WEIR_STK, HW.irqStat]; omega)]
  rfl

/-! ## What reaches the Weir -/

/-- A source that can assert, while nothing holds it back, reaches the Weir. -/
theorem State.assertOwn_awake {s : State} {ev : Nat} (own : List Nat) (hreset : s.curMode ≠ modeReset)
    (hstandby : s.curMode ≠ modeStandby) (hclock : s.clk.safetyStopped = false) (hsource : s.canAssert ev = true) :
    s.assertOwn ev own = s.weirTake ev own := by
  unfold State.assertOwn
  rw [if_neg (by simp [hreset, hclock, hsource]), if_neg (by simpa using hstandby)]

theorem State.assertOwn_reserved {s : State} {ev : Nat} (own : List Nat) (h : s.canAssert ev = false) :
    s.assertOwn ev own = s := by
  unfold State.assertOwn
  rw [if_pos (by simp [h])]

/-- The state in which a source's sticky bit has just been set. -/
def State.markSticky (s : State) (ev : Nat) : State := (s.routeEvent ev).put (stkFld ev) 1

/-- A source without a protective reaction: routing, its sticky bit, and a notify entry on the first assertion. -/
theorem State.weirTake_mild {s : State} {ev : Nat} (own : List Nat) (hev : ev < 192) (hmild : s.fld (F.WEIR_RCT_REACT ev) ≤ 1) :
    s.weirTake ev own =
      if s.flag (stkFld ev) = false ∧ s.fld (F.WEIR_RCT_REACT ev) = 1 then (s.markSticky ev).notify ev
      else s.markSticky ev := by
  unfold State.weirTake
  dsimp only
  have hcode : (1 ≤ s.fld (F.WEIR_RCT_REACT ev)) ↔ s.fld (F.WEIR_RCT_REACT ev) = 1 := by omega
  rw [if_neg (by simpa using hev), State.flag, State.fld_routeEvent, State.fld_routeEvent, if_neg (by simpa using hmild)]
  simp only [Bool.and_eq_true, Bool.not_eq_true', decide_eq_true_eq, hcode]
  rfl

theorem State.nq_markSticky (s : State) (ev : Nat) : (s.markSticky ev).weir.nq = s.weir.nq := by
  rw [State.markSticky, State.weir_put, (s.routeEvent_frame ev).2]

theorem State.sticky_markSticky_ne (s : State) {ev j : Nat} (h : j ≠ ev) :
    (s.markSticky ev).flag (stkFld j) = s.flag (stkFld j) := by
  rw [State.markSticky, State.sticky_put_ne _ h, State.flag, State.fld_routeEvent, State.flag]

/-- Settles O18: awake, a source of reaction none or notify does what `weirTake_mild` says; a status event is only routed; a
reserved source cannot assert. -/
theorem assertionsSetTheirStickyBit : Obligations.AssertionsSetTheirStickyBit := by
  unfold Obligations.AssertionsSetTheirStickyBit
  refine ⟨?_, ?_, ?_⟩
  · intro ev hlt s hreset hstandby hclock hev hclass hmild
    have hsource : s.canAssert ev = true := by simp [State.canAssert, hev, hclass]
    have htake : s.assertEv ev = _ :=
      (State.assertOwn_awake [] hreset hstandby hclock hsource).trans (State.weirTake_mild [] hev hmild)
    refine ⟨_, (exec_sourceAssert ⟨ev, hlt⟩ s).trans (congrArg Host.Outcome.next htake), ?_⟩
    have hset : (s.markSticky ev).flag (stkFld ev) = true := State.sticky_put_same _ ev
    split
    next hfirst =>
      obtain ⟨hclear, hnotify⟩ := hfirst
      refine ⟨(State.sticky_notify _ ev hev).trans hset,
        fun j hj hne => (State.sticky_notify _ ev hj).trans (s.sticky_markSticky_ne hne),
        fun _ _ hroom => ?_, fun _ _ hfull => ⟨?_, ?_⟩,
        fun hquiet => ?_⟩
      · rw [State.notify_room ev (by rwa [State.nq_markSticky]), State.weir_weirIrq, State.weir_syncNq,
          State.withWeir_weir, State.nq_markSticky]
      · rw [State.notify_full ev (by rwa [State.nq_markSticky]), State.weir_weirIrq, State.weir_put, State.nq_markSticky]
      · exact State.overflow_notify ev (by rwa [State.nq_markSticky])
      · rw [hnotify, hclear] at hquiet
        simp at hquiet
    next hlater =>
      exact ⟨hset, fun j _ hne => s.sticky_markSticky_ne hne, fun hnotify hclear _ => absurd ⟨hclear, hnotify⟩ hlater,
        fun hnotify hclear _ => absurd ⟨hclear, hnotify⟩ hlater, fun _ => s.nq_markSticky ev⟩
  · intro ev hlt s hreset hstandby hclock hstatus hdefined
    have hsource : s.canAssert ev = true := by simp [State.canAssert, Nat.not_lt.mpr hstatus, hdefined]
    have htake : s.weirTake ev [] = s.routeEvent ev := by
      unfold State.weirTake
      rw [if_pos (decide_eq_true hstatus)]
    have hassert : s.assertEv ev = s.routeEvent ev := (State.assertOwn_awake [] hreset hstandby hclock hsource).trans htake
    exact ⟨_, (exec_sourceAssert ⟨ev, hlt⟩ s).trans (congrArg Host.Outcome.next hassert), rfl, (s.routeEvent_frame ev).1⟩
  · intro ev hlt s hreserved
    have hsource : s.canAssert ev = false := by
      obtain ⟨hev, hclass⟩ | hbeyond := hreserved
      · simp [State.canAssert, hev, hclass]
      · have hev : ¬ ev < 192 := by omega
        simp [State.canAssert, hev, hbeyond]
    exact (exec_sourceAssert ⟨ev, hlt⟩ s).trans (congrArg Host.Outcome.next (State.assertOwn_reserved [] hsource))

end Sys2Proof.Machine
end

section
/-!
A write of 1 to sticky bits clears those that are not of class F (R302).
-/

namespace Sys2Proof.Machine

/-! ## Bits of masks -/

/-- Taking from a number the bits it shares with another leaves its bits that are not in the other. -/
theorem testBit_sub_and (n m i : Nat) : (n - (n &&& m)).testBit i = (n.testBit i && !m.testBit i) := by
  induction i generalizing n m with
  | zero =>
    have hle : n &&& m ≤ n := Nat.and_le_left
    have hbit : (n &&& m) % 2 = 1 ↔ n % 2 = 1 ∧ m % 2 = 1 := by
      simpa only [Nat.testBit_zero, ← Bool.decide_and, decide_eq_decide] using Nat.testBit_and n m 0
    rw [Nat.testBit_zero, Nat.testBit_zero, Nat.testBit_zero, ← decide_not, ← Bool.decide_and, decide_eq_decide]
    omega
  | succ i ih =>
    have hle : n &&& m ≤ n := Nat.and_le_left
    have hrest : (n &&& m) / 2 = n / 2 &&& m / 2 := Nat.and_div_two_pow (n := 1)
    have hbit : (n &&& m) % 2 ≤ n % 2 := (Nat.and_mod_two_pow (n := 1)).trans_le Nat.and_le_left
    have hhalf : (n - (n &&& m)) / 2 = n / 2 - (n / 2 &&& m / 2) := by omega
    rw [Nat.testBit_succ, Nat.testBit_succ, Nat.testBit_succ, hhalf, ih]

theorem testBit_putBit_set (n i j : Nat) : (putBit n i true).testBit j = (n.testBit j || decide (j = i)) := by
  by_cases h : n.testBit i = true
  · by_cases hj : j = i
    · subst hj; simp [putBit, h]
    · simp [putBit, h, hj]
  · exact testBit_putBit_true (by simpa using h) j

/-- A mask holds the bits of its list. -/
theorem testBit_maskOf (l : List Nat) (j : Nat) : (maskOf l).testBit j = decide (j ∈ l) := by
  have hfold : ∀ m : Nat, (l.foldl (fun m i => putBit m i true) m).testBit j = (m.testBit j || decide (j ∈ l)) := by
    induction l with
    | nil => simp
    | cons x l ih =>
      intro m
      rw [List.foldl_cons, ih, testBit_putBit_set]
      simp [Bool.or_assoc]
  simp [maskOf, hfold]

/-! ## The sticky bits of a word -/

theorem State.testBit_classFBits (s : State) (i : Nat) {j : Nat} (h : j < 32) :
    (s.classFBits i).testBit j = (s.srcClass (32 * i + j) == classF) := by
  simp [State.classFBits, testBit_maskOf, h, beq_eq_decide]

theorem stkFld_of_word (i : Nat) {j : Nat} (h : j < 32) : stkFld (32 * i + j) = ⟨R.WEIR_STK i, j, 1⟩ := by
  simp only [stkFld, Fld.mk.injEq, and_true]
  exact ⟨congrArg R.WEIR_STK (by omega), by omega⟩

/-- A one-bit field is set where its register has the bit. -/
theorem State.flag_bit (s : State) (a j : Nat) : s.flag ⟨a, j, 1⟩ = (s.rd a).toNat.testBit j := by
  rw [State.flag, State.fld, Nat.testBit_eq_decide_div_mod_eq]
  obtain h | h := Nat.mod_two_eq_zero_or_one ((s.rd a).toNat / 2 ^ j) <;> simp [h]

/-- The sticky bits that a write of 1s clears: those written, but for class F. -/
theorem State.sticky_clearSticky (s : State) (i m : Nat) {j : Nat} (h : j < 32) :
    (s.clearSticky i m).flag (stkFld (32 * i + j)) =
      (s.flag (stkFld (32 * i + j)) && !(m.testBit j && s.srcClass (32 * i + j) != classF)) := by
  have hin : 0 ≤ j ∧ j < 0 + 32 := by omega
  rw [stkFld_of_word i h, State.flag_bit, State.flag_bit, State.clearSticky]
  rw [show R.WEIR_STK i = (F.WEIR_STK_S i).addr from rfl, State.testBit_rd_put]
  simp only [F.WEIR_STK_S, h, hin, and_self, decide_true, Bool.true_and, if_true, Nat.sub_zero, testBit_sub_and,
    State.testBit_fld, Nat.add_zero, s.testBit_classFBits i h, bne]

theorem State.rd_clearSticky (s : State) (i m : Nat) {a : Nat} (h : a ≠ R.WEIR_STK i) : (s.clearSticky i m).rd a = s.rd a := by
  rw [State.clearSticky, State.rd_put_ne _ _ h]

/-! ## The write through the bus -/

theorem islandOf_sticky (i : Fin 6) : islandOf (R.WEIR_STK i) = none := by
  decide +revert

theorem inMap_sticky (i : Fin 6) : inMap (R.WEIR_STK i) = true := by
  decide +revert

/-- A write of a word of the Weir's registers. -/
theorem State.busWord_weir (s : State) {a : Nat} (v m : Nat) (hlo : 0x50000000 ≤ a) (hhi : a < 0x50008000) :
    s.busWord a v m = s.writeWeir a v m := by
  have hbelow : ∀ b, b ≤ 0x50000000 → ¬ a < b := fun b hb => by omega
  have habove : ∀ b, 0x50008000 ≤ b → ¬ b ≤ a := fun b hb => by omega
  have hbytes : (plainMemory a || engineMemory a || canTxByte a) = false := by
    simp [plainMemory, engineMemory, canTxByte, hbelow, habove]
  unfold State.busWord State.registerWord
  simp [hbytes, hbelow, hhi]

theorem State.busWord_sticky (s : State) (i : Fin 6) (v : Word) :
    s.busWord (R.WEIR_STK i / 4 * 4) v.toNat 0xFFFFFFFF = s.clearSticky i v.toNat := by
  have haddr : R.WEIR_STK i = 0x50000000 + 4 * i.val := rfl
  have hword : R.WEIR_STK i / 4 * 4 = R.WEIR_STK i := by omega
  have hall : v.toNat &&& 0xFFFFFFFF = v.toNat := Nat.and_two_pow_sub_one_of_lt_two_pow (n := 32) v.isLt
  have hindex : (R.WEIR_STK i - R.WEIR_STK 0) / 4 = i.val := by simp only [R.WEIR_STK]; omega
  rw [hword, State.busWord_weir s _ _ (by omega) (by omega), State.writeWeir,
    if_pos (decide_eq_true (by simp only [R.WEIR_STK]; omega)), hall, hindex]

/-- Settles O19: the write reaches the sticky word alone, within a transaction that gives its tag back. -/
theorem stickyBitsClearByClass : Obligations.StickyBitsClearByClass := by
  unfold Obligations.StickyBitsClearByClass
  intro i v s hrun htags
  have hup : s.islandDown (R.WEIR_STK i) = false := by rw [State.islandDown, islandOf_sticky]
  obtain ⟨taken, given, hshared, hheld, hbalance⟩ :=
    State.sharedAccess_eq (f := fun t => t.busWord (R.WEIR_STK i / 4 * 4) v.toNat 0xFFFFFFFF) htags
      (fun t => by rw [State.busWord_sticky]; rfl)
  have hexec : exec (.registerWrite (R.WEIR_STK i) v) s =
      .next (((s.withTags taken).clearSticky i v.toNat).withTags given) := by
    rw [exec_registerWrite, execRegisterWrite, hshared, State.busWord_sticky]
    simp [hrun, inMap_sticky, hup]
  exact ⟨_, hexec, fun j hj => State.sticky_clearSticky (s.withTags taken) i v.toNat hj,
    fun a ha => State.rd_clearSticky (s.withTags taken) i v.toNat ha, hbalance, hheld, rfl⟩

end Sys2Proof.Machine
end

section
/-!
The events of the Weir.
-/

namespace Sys2Proof.Machine

/-- Settles O35: SOURCE_ASSERT has one clause, which is its whole arm; every other clause's conditions are the guards of its
command. -/
theorem weirEventsComplete : Obligations.WeirEventsComplete := by
  unfold Obligations.WeirEventsComplete
  refine ⟨?_, ?_, ?_, ?_, ?_, ?_, ?_, ?_, ?_, ?_, ?_, ?_, ?_, ?_⟩
  · intro ev s
    rw [exec_sourceAssert, execSourceAssert]
  · intro n rest s hrun hreact hact hstate
    rw [exec_axisStopFirmware, execAxisStopFirmware, if_pos (by simp [hrun, hreact, hact, hstate])]
  · intro n s hmode hreact hact hdone
    rw [exec_axisStopEscalation, execAxisStopEscalation, if_pos (by simp [hmode, hreact, hact, hdone])]
  · intro n s hrun hdue
    rw [exec_axisSafeoffFirmware, execAxisSafeoffFirmware, if_pos (by simp [hrun, hdue])]
  · intro n s hover
    rw [exec_settleMaskEnd, execSettleMaskEnd]
    exact congrArg Host.Outcome.next (if_pos hover)
  · intro n s t u hover ht hu
    subst hu ht
    rw [exec_settleMaskEnd, execSettleMaskEnd]
    exact congrArg Host.Outcome.next (if_pos hover)
  · intro k s t hover ht
    subst ht
    rw [exec_settleMaskEnd, execSettleMaskEnd]
    exact congrArg Host.Outcome.next (if_pos hover)
  · intro n s t hover ht
    subst ht
    rw [exec_settleMaskEnd, execSettleMaskEnd]
    exact congrArg Host.Outcome.next (if_pos hover)
  · intro s hrun
    rw [exec_supHeartbeatKick, execSupHeartbeatKick, if_pos hrun]
  · intro s hrun hclock hhalt
    rw [exec_supWatchdogMiss, execSupWatchdogMiss, if_pos (by simp [hrun, hclock, hhalt])]
  · intro s hrun hclock henabled hkick hhalt
    rw [exec_sfmResetRequest, execSfmResetRequest, if_pos (by simp [hrun, hclock, henabled, hkick, hhalt])]
  · intro s hrun hclock
    rw [exec_sfmConfigCheck, execSfmConfigCheck]
    simp only [hrun, hclock, Bool.not_false, Bool.true_and, bne_iff_ne]
  · intro s hrun hclock
    rw [exec_sfmLockstepMismatch, execSfmLockstepMismatch, if_pos (by simp [hrun, hclock])]
  · intro t inst result s hmode hretry hresult
    rw [exec_selfTestRetry, execSelfTestRetry, if_pos (by rw [hmode, hretry, bne_iff_ne.mpr hresult]; rfl)]

end Sys2Proof.Machine
end

section
/-!
The fault commands 0x70 to 0x79.
-/

namespace Sys2Proof.Machine

/-- Settles O36: each command is served and its step 8 passes the refusals that its conditions exclude. -/
theorem faultCommandsComplete : Obligations.FaultCommandsComplete := by
  unfold Obligations.FaultCommandsComplete
  refine ⟨?_, ?_, ?_, ?_, ?_, ?_, ?_, ?_, ?_, ?_⟩
  · intro c s u bytes hs hu hbytes hmode
    subst hbytes
    refine exec_of_step8_answers (exec_faultRead c s) hs hu ?_
    simp only [hmode, Bool.not_true, Bool.false_eq_true, if_false]
  · intro c s u ignored hs hu hignored hmode
    subst hignored
    refine exec_of_step8_answers (exec_faultClear c s) hs hu ?_
    simp only [hmode, okResult, Bool.not_true, Bool.false_eq_true, if_false]
  · intro c s u v r hs hu hmode hrearm
    refine exec_of_step8_answers (exec_faultRearm c s) hs hu ?_
    by_cases hr : r = 0 <;>
      simp only [hmode, hrearm, hr, okResult, beq_iff_eq, Bool.not_true, Bool.false_eq_true, if_false, if_true]
  · intro c s u ev r hs hu hev hr hmode hsource hcode hallow
    subst hr hev
    refine exec_of_step8_answers (exec_faultReact c s) hs hu ?_
    simp only [hmode, Nat.not_lt.mpr hsource, Nat.lt_succ_of_le hcode, hallow, okReply, decide_true, decide_false, Bool.and_self,
      Bool.not_true, Bool.false_eq_true, if_false, if_true]
  · intro c s u hs hu hmode hsource
    refine exec_of_step8_answers (exec_faultInfo c s) hs hu ?_
    simp only [hmode, hsource, okResult, decide_false, Bool.not_true, Bool.false_eq_true, if_false]
  · intro c s u d stopt tset hs hu hd hstopt htset hmode hdomain hsettle hstop
    subst htset hstopt hd
    refine exec_of_step8_answers (exec_faultDomcfg c s) hs hu ?_
    simp only [hmode, hdomain, hsettle, hstop, okReply, and_self, decide_true, decide_false, Bool.not_true, Bool.or_self,
      Bool.false_eq_true, if_false]
  · intro c s u hs hu hmode
    refine exec_of_step8_answers (exec_faultNotify c s) hs hu ?_
    simp only [hmode, okResult, Bool.not_true, Bool.false_eq_true, if_false]
  · intro c s u hs hu hmode
    refine exec_of_step8_answers (exec_faultBist c s) hs hu ?_
    simp only [hmode, okResult, Bool.not_true, Bool.false_eq_true, if_false]
  · intro c s u t hs hu ht hmode hline
    subst ht
    refine exec_of_step8_answers (exec_evtRoute c s) hs hu ?_
    simp only [hmode, hline, okReply, decide_false, Bool.not_true, Bool.false_eq_true, if_false]
  · intro c s u hs hu hmode
    rcases hdraw : u.draw with ⟨v, t⟩
    refine exec_of_step8_answers (exec_sfmStatus c s) hs hu ?_
    simp only [hmode, hdraw, okResult, Bool.not_true, Bool.false_eq_true, if_false]

end Sys2Proof.Machine
end

section
/-!
The canonical form of the state after reset.
-/

namespace Sys2Proof.Machine

/-- Settles O1: the register file, the memory and the flash of the reset state list nothing at all. -/
theorem resetIsSound : Obligations.ResetIsSound :=
  ⟨SMap.wf_nil _, SMap.wf_nil _, SMap.wf_nil _⟩

end Sys2Proof.Machine
end

section
/-!
Network time across a change of rate (R349, R350).
-/

namespace Sys2Proof.Machine

/-! ## Numbers -/

/-- A quotient without a stated rounding lies less than 1 from the exact one, on either side (assumption log 9). -/
theorem openRound_bounds (n : Int) {d : Nat} (hd : 0 < d) : n - d < d * openRound n d ∧ d * openRound n d < n + d := by
  have hd' : (0 : Int) < d := by exact_mod_cast hd
  have hdiv := Int.mul_ediv_add_emod n d
  have hlow := Int.emod_nonneg n hd'.ne'
  have hhigh := Int.emod_lt_of_pos n hd'
  unfold openRound
  rw [if_neg hd.ne']
  split
  · omega
  · rcases Bool.eq_false_or_eq_true (Config.roundUp n d) with hup | hup <;>
    · simp only [hup, Bool.toNat_true, Bool.toNat_false, Nat.cast_zero, Nat.cast_one, add_zero, mul_add, mul_one]
      omega

/-- A count times a rate, split at a change of the rate: three roundings leave the parts at most 2 apart. -/
theorem openRound_rateChange (cnt old new : Nat) :
    (openRound (cnt * new) (2 ^ 16) + openRound (cnt * ((old : Int) - new)) (2 ^ 16) - openRound (cnt * old) (2 ^ 16)).natAbs ≤ 2 := by
  have hnew := openRound_bounds ((cnt : Int) * new) (d := 2 ^ 16) (by decide)
  have hstep := openRound_bounds ((cnt : Int) * ((old : Int) - new)) (d := 2 ^ 16) (by decide)
  have hold := openRound_bounds ((cnt : Int) * old) (d := 2 ^ 16) (by decide)
  rw [mul_sub] at hstep ⊢
  norm_num at hnew hstep hold ⊢
  omega

/-- The correction that a change of rate within the limit of R350 brings about. -/
theorem openRound_rateChange_bounds {cnt old new : Nat} (hcnt : cnt < 2 ^ 64)
    (hnew : rateNominal - rateLimit ≤ new ∧ new ≤ rateNominal + rateLimit)
    (hold : rateNominal - rateLimit ≤ old ∧ old ≤ rateNominal + rateLimit) :
    -2 ^ 72 ≤ openRound (cnt * ((old : Int) - new)) (2 ^ 16) ∧ openRound (cnt * ((old : Int) - new)) (2 ^ 16) ≤ 2 ^ 72 := by
  have hround := openRound_bounds ((cnt : Int) * ((old : Int) - new)) (d := 2 ^ 16) (by decide)
  have hdiff : ((old : Int) - new).natAbs ≤ 2 ^ 24 - 1 := by
    unfold rateNominal rateLimit at *
    omega
  have hprod : ((cnt : Int) * ((old : Int) - new)).natAbs ≤ 2 ^ 64 * (2 ^ 24 - 1) := by
    rw [Int.natAbs_mul, Int.natAbs_natCast]
    exact Nat.mul_le_mul hcnt.le hdiff
  generalize (cnt : Int) * ((old : Int) - new) = p at *
  norm_num at hround hprod ⊢
  omega

/-- A number within `w` signed bits is what its low `w` bits read as. -/
theorem sgn_uns {w : Nat} {x : Int} (hw : 0 < w) (hlow : -2 ^ (w - 1) ≤ x) (hhigh : x < 2 ^ (w - 1)) : sgn w (uns w x) = x := by
  obtain ⟨v, rfl⟩ : ∃ v, w = v + 1 := ⟨w - 1, by omega⟩
  have hpow : (2 : Int) ^ v = ((2 ^ v : Nat) : Int) := by norm_num
  simp only [Nat.add_sub_cancel, hpow] at hlow hhigh
  unfold sgn uns
  simp only [Nat.add_sub_cancel, pow_succ]
  generalize 2 ^ v = half at *
  rcases lt_or_ge x 0 with hneg | hpos
  · rw [← Int.add_emod_right, Int.emod_eq_of_lt (by omega) (by omega), Nat.mod_eq_of_lt (by omega), if_neg (by omega)]
    omega
  · rw [Int.emod_eq_of_lt hpos (by omega), Nat.mod_eq_of_lt (by omega), if_pos (by omega)]
    omega

/-! ## The registers of the time unit -/

theorem State.rd_wr64_ne (s : State) {lo hi a : Nat} (v : Nat) (hlo : a ≠ lo) (hhi : a ≠ hi) : (s.wr64 lo hi v).rd a = s.rd a := by
  rw [State.wr64, State.rd_wr_ne _ _ hhi, State.rd_wr_ne _ _ hlo]

theorem State.rd_wr64_lo (s : State) {lo hi : Nat} (v : Nat) (h : lo ≠ hi) : (s.wr64 lo hi v).rd lo = BitVec.ofNat 32 v := by
  rw [State.wr64, State.rd_wr_ne _ _ h, State.rd_wr_same]

theorem State.rd_wr64_hi (s : State) {lo hi : Nat} (v : Nat) : (s.wr64 lo hi v).rd hi = BitVec.ofNat 32 (v / 2 ^ 32) :=
  State.rd_wr_same ..

theorem State.rd_syncTime (s : State) {a : Nat} (h : a < R.TU_TIMEL) : s.syncTime.rd a = s.rd a :=
  State.rd_wr64_ne _ _ h.ne (h.trans (by decide)).ne

/-- The counter runs in the four registers of the count and of the time that shows it. -/
theorem State.rd_tuAdvance (s : State) (adv : Nat) {a : Nat} (hlo : a ≠ R.TU_CNTL) (hhi : a ≠ R.TU_CNTH) (h : a < R.TU_TIMEL) :
    (s.tuAdvance adv).rd a = s.rd a := by
  rw [State.tuAdvance, State.rd_syncTime _ h, State.rd_wr64_ne _ _ hlo hhi]

theorem State.tuCnt_lt (s : State) : s.tuCnt < 2 ^ 64 := by
  have := (s.rd R.TU_CNTL).isLt
  have := (s.rd R.TU_CNTH).isLt
  unfold State.tuCnt
  omega

/-- The rate and the offset stand in five registers. -/
theorem State.tuRate_congr {s t : State} (hlo : t.rd R.TU_RATEL = s.rd R.TU_RATEL) (hhi : t.rd R.TU_RATEH = s.rd R.TU_RATEH) :
    t.tuRate = s.tuRate := by
  simp only [State.tuRate, State.fld, F.TU_RATEH_RATE, hlo, hhi]

theorem State.tuOffset_congr {s t : State} (h0 : t.rd R.TU_OFS0 = s.rd R.TU_OFS0) (h1 : t.rd R.TU_OFS1 = s.rd R.TU_OFS1)
    (h2 : t.rd R.TU_OFS2 = s.rd R.TU_OFS2) : t.tuOffset = s.tuOffset := by
  simp only [State.tuOffset, State.fld, F.TU_OFS2_OFS, h0, h1, h2]

theorem State.tuCnt_congr {s t : State} (hlo : t.rd R.TU_CNTL = s.rd R.TU_CNTL) (hhi : t.rd R.TU_CNTH = s.rd R.TU_CNTH) :
    t.tuCnt = s.tuCnt := by
  simp only [State.tuCnt, hlo, hhi]

theorem State.tuCnt_tuAdvance (s : State) (adv : Nat) : (s.tuAdvance adv).tuCnt = (s.tuCnt + adv) % 2 ^ 64 := by
  rw [State.tuAdvance, State.tuCnt, State.rd_syncTime _ (by decide), State.rd_syncTime _ (by decide),
    State.rd_wr64_lo _ _ (by decide), State.rd_wr64_hi, BitVec.toNat_ofNat, BitVec.toNat_ofNat]
  omega

theorem State.tuRate_tuAdvance (s : State) (adv : Nat) : (s.tuAdvance adv).tuRate = s.tuRate :=
  State.tuRate_congr (State.rd_tuAdvance _ _ (by decide) (by decide) (by decide))
    (State.rd_tuAdvance _ _ (by decide) (by decide) (by decide))

theorem State.tuOffset_tuAdvance (s : State) (adv : Nat) : (s.tuAdvance adv).tuOffset = s.tuOffset :=
  State.tuOffset_congr (State.rd_tuAdvance _ _ (by decide) (by decide) (by decide))
    (State.rd_tuAdvance _ _ (by decide) (by decide) (by decide)) (State.rd_tuAdvance _ _ (by decide) (by decide) (by decide))

theorem State.tuOffset_setOffset (s : State) {x : Int} (hlow : -2 ^ 79 ≤ x) (hhigh : x < 2 ^ 79) : (s.setOffset x).tuOffset = x := by
  have hlt : uns 80 x < 2 ^ 80 := by
    unfold uns
    omega
  have hparts : (uns 80 x) % 2 ^ 32 + uns 80 x / 2 ^ 32 % 2 ^ 32 * 2 ^ 32 + uns 80 x / 2 ^ 64 % 2 ^ 16 * 2 ^ 64 = uns 80 x := by omega
  have hfld : (s.setOffset x).fld F.TU_OFS2_OFS = uns 80 x / 2 ^ 64 % 2 ^ 16 := State.fld_put_same _ F.TU_OFS2_OFS _ (by decide)
  have hrd : ∀ {a}, a ≠ R.TU_OFS2 → (s.setOffset x).rd a = (s.wr64 R.TU_OFS0 R.TU_OFS1 (uns 80 x)).rd a :=
    fun ha => State.rd_put_ne _ _ ha
  rw [State.tuOffset, hfld, hrd (by decide), hrd (by decide), State.rd_wr64_lo _ _ (by decide), State.rd_wr64_hi,
    BitVec.toNat_ofNat, BitVec.toNat_ofNat, hparts, sgn_uns (by decide) hlow hhigh]

theorem State.rd_setOffset (s : State) (x : Int) {a : Nat} (h : a < R.TU_OFS0) : (s.setOffset x).rd a = s.rd a := by
  have h1 : a < R.TU_OFS1 := h.trans (by decide)
  have h2 : a < R.TU_OFS2 := h.trans (by decide)
  rw [State.setOffset, State.rd_put_ne _ _ h2.ne, State.rd_wr64_ne _ _ h.ne h1.ne]

/-! ## The change of rate (R350) -/

/-- What a change to a rate within the limit writes: the offset that keeps the time, the rate, and the time shown. -/
def State.rateChanged (s : State) (new : Nat) : State :=
  (((s.setOffset (s.tuOffset + openRound (s.tuCnt * ((s.tuRate : Int) - new)) (2 ^ 16))).wr R.TU_RATEL (BitVec.ofNat 32 new)).put
    F.TU_RATEH_RATE (new / 2 ^ 32)).syncTime

theorem State.applyRate_within (s : State) {new : Nat} (h : rateNominal - rateLimit ≤ new ∧ new ≤ rateNominal + rateLimit) :
    s.applyRate new = s.rateChanged new := by
  have hclamp : clampN (rateNominal - rateLimit) (rateNominal + rateLimit) new = new := by
    rw [clampN, if_neg (by omega), if_neg (by omega)]
  unfold State.applyRate
  dsimp only
  rw [hclamp, beq_self_eq_true]
  rfl

/-- Only the offset, the rate and the time shown are written. -/
theorem State.rd_rateChanged (s : State) (new : Nat) {a : Nat} (h : a < R.TU_RATEL) : (s.rateChanged new).rd a = s.rd a := by
  have hrateh : a < R.TU_RATEH := h.trans (by decide)
  rw [State.rateChanged, State.rd_syncTime _ (h.trans (by decide)), State.rd_put_ne _ _ hrateh.ne, State.rd_wr_ne _ _ h.ne,
    State.rd_setOffset _ _ (h.trans (by decide))]

theorem State.tuCnt_rateChanged (s : State) (new : Nat) : (s.rateChanged new).tuCnt = s.tuCnt :=
  State.tuCnt_congr (State.rd_rateChanged _ _ (by decide)) (State.rd_rateChanged _ _ (by decide))

theorem State.tuRate_rateChanged (s : State) {new : Nat} (h : new ≤ rateNominal + rateLimit) : (s.rateChanged new).tuRate = new := by
  have hwidth : (F.TU_RATEH_RATE).width = 8 := rfl
  rw [State.rateChanged, State.tuRate, State.rd_syncTime _ (by decide), State.fld, State.rd_syncTime _ (by decide), ← State.fld,
    State.fld_put_same _ _ _ (by decide), State.rd_put_ne _ _ (by decide), State.rd_wr_same, BitVec.toNat_ofNat, hwidth]
  unfold rateNominal rateLimit at h
  omega

theorem State.tuOffset_rateChanged (s : State) {new : Nat} {d : Int}
    (hd : d = openRound (s.tuCnt * ((s.tuRate : Int) - new)) (2 ^ 16)) (hlow : -2 ^ 79 ≤ s.tuOffset + d)
    (hhigh : s.tuOffset + d < 2 ^ 79) : (s.rateChanged new).tuOffset = s.tuOffset + d := by
  have hrd : ∀ {a}, a < R.TU_TIMEL → a ≠ R.TU_RATEL → a ≠ R.TU_RATEH →
      (s.rateChanged new).rd a = (s.setOffset (s.tuOffset + d)).rd a := by
    intro a htime hratel hrateh
    rw [State.rateChanged, State.rd_syncTime _ htime, State.rd_put_ne _ _ hrateh, State.rd_wr_ne _ _ hratel, hd]
  rw [State.tuOffset_congr (hrd (by decide) (by decide) (by decide)) (hrd (by decide) (by decide) (by decide))
    (hrd (by decide) (by decide) (by decide)), State.tuOffset_setOffset _ hlow hhigh]

/-- Network time goes on across the change but for the three roundings of assumption log 9. -/
theorem State.netTime_rateChanged (s : State) {new : Nat} (hnew : rateNominal - rateLimit ≤ new ∧ new ≤ rateNominal + rateLimit)
    (hold : rateNominal - rateLimit ≤ s.tuRate ∧ s.tuRate ≤ rateNominal + rateLimit) (hofs : -2 ^ 78 ≤ s.tuOffset ∧ s.tuOffset ≤ 2 ^ 78) :
    ((s.rateChanged new).netTime - s.netTime).natAbs ≤ 2 := by
  obtain ⟨hlow, hhigh⟩ := openRound_rateChange_bounds s.tuCnt_lt hnew hold
  have hsplit := openRound_rateChange s.tuCnt s.tuRate new
  have hregroup : ∀ a o d b : Int, a + (o + d) - (b + o) = a + d - b := fun a o d b => by ring
  rw [State.netTime, State.netTime, State.tuCnt_rateChanged, State.tuRate_rateChanged _ hnew.2,
    State.tuOffset_rateChanged _ rfl (by omega) (by omega), hregroup]
  exact hsplit

/-- The pair that RATE_REQUEST applies is what stands in RATEREQL and what it writes to RATEREQH. -/
theorem State.rateRequested (s : State) (v : Word) (adv : Nat) :
    (((s.put F.TU_RATEREQH_RATE v.toNat).tuAdvance adv).rd R.TU_RATEREQL).toNat +
        ((s.put F.TU_RATEREQH_RATE v.toNat).tuAdvance adv).fld F.TU_RATEREQH_RATE * 2 ^ 32 =
      (s.rd R.TU_RATEREQL).toNat + v.toNat % 2 ^ (F.TU_RATEREQH_RATE).width * 2 ^ 32 := by
  rw [State.rd_tuAdvance _ _ (by decide) (by decide) (by decide), State.rd_put_ne _ _ (by decide), State.fld,
    State.rd_tuAdvance _ _ (by decide) (by decide) (by decide), ← State.fld, State.fld_put_same _ _ _ (by decide)]

theorem exec_rateRequest_running {s : State} (v : Word) (adv : Nat) (hrun : s.netRuns = true) :
    exec (.rateRequest v adv) s = .next (((s.put F.TU_RATEREQH_RATE v.toNat).tuAdvance adv).applyRate
      ((s.rd R.TU_RATEREQL).toNat + v.toNat % 2 ^ (F.TU_RATEREQH_RATE).width * 2 ^ 32)) := by
  rw [exec_rateRequest, execRateRequest, if_pos hrun]
  dsimp only
  rw [State.rateRequested]

/-- Settles O22: the request register is none of those from which the time is formed, and the change keeps the time. -/
theorem timeIsContinuousAcrossARateChange : Obligations.TimeIsContinuousAcrossARateChange := by
  unfold Obligations.TimeIsContinuousAcrossARateChange
  intro v adv new s hrun hreq hnew hold hofs
  have hexec := exec_rateRequest_running v adv hrun
  rw [← hreq, State.applyRate_within _ hnew] at hexec
  generalize hu : (s.put F.TU_RATEREQH_RATE v.toNat).tuAdvance adv = u at hexec
  have hput : ∀ {a}, a ≠ R.TU_RATEREQH → (s.put F.TU_RATEREQH_RATE v.toNat).rd a = s.rd a := fun ha => State.rd_put_ne _ _ ha
  have hcnt : u.tuCnt = (s.tuCnt + adv) % 2 ^ 64 := by
    rw [← hu, State.tuCnt_tuAdvance, State.tuCnt_congr (hput (by decide)) (hput (by decide))]
  have hrate : u.tuRate = s.tuRate := by
    rw [← hu, State.tuRate_tuAdvance, State.tuRate_congr (hput (by decide)) (hput (by decide))]
  have hoffset : u.tuOffset = s.tuOffset := by
    rw [← hu, State.tuOffset_tuAdvance, State.tuOffset_congr (hput (by decide)) (hput (by decide)) (hput (by decide))]
  have htime : (s.tuAdvance adv).netTime = u.netTime := by
    rw [State.netTime, State.netTime, State.tuCnt_tuAdvance, State.tuRate_tuAdvance, State.tuOffset_tuAdvance, hcnt, hrate, hoffset]
  refine ⟨_, hexec, State.tuRate_rateChanged _ hnew.2, (State.tuCnt_rateChanged ..).trans hcnt, ?_⟩
  rw [htime]
  exact State.netTime_rateChanged u hnew (hrate ▸ hold) (hoffset ▸ hofs)

end Sys2Proof.Machine
end

section
/-!
The events of the Basin and of the Cascade.
-/

namespace Sys2Proof.Machine

/-- Settles O39: each clause's conditions are the guards of its command. -/
theorem basinEventsComplete : Obligations.BasinEventsComplete := by
  unfold Obligations.BasinEventsComplete
  refine ⟨?_, ?_, ?_, ?_, ?_, ?_, ?_, ?_, ?_, ?_, ?_, ?_, ?_, ?_, ?_, ?_, ?_, ?_, ?_, ?_, ?_⟩
  · intro p v s hrun
    rw [exec_probePush, execProbePush, if_pos hrun]
  · intro n adv s t hrun ht hsrc
    subst ht
    rw [exec_basinSample, execBasinSample, if_neg (by simp [hrun]), if_pos (by simp [hsrc])]
  · intro n adv s t u ds hrun hsrc hdue ht hu
    subst hu ht
    rw [exec_basinSample, execBasinSample, if_neg (by simp [hrun]), if_neg (by simp [hsrc])]
    simp only [hdue, Option.getD_none]
  · intro n adv s t u d ds hrun hsrc hdue ht hu
    subst hu ht
    rw [exec_basinSample, execBasinSample, if_neg (by simp [hrun]), if_neg (by simp [hsrc])]
    simp only [hdue, Option.getD_some]
  · intro n adv s hrun hsrc hdue
    rw [exec_basinSample, execBasinSample, if_neg (by simp [hrun]), if_neg (by simp [hsrc])]
    simp only [hdue]
  · intro n s a b t r rs hclock hleft hqueue ha hb ht
    rw [exec_basinRecordWrite, execBasinRecordWrite, if_pos hclock, State.writeRecord, hleft, hqueue]
    subst ht hb ha
    rfl
  · intro n s r rs hclock hleft
    rw [exec_basinRecordWrite, execBasinRecordWrite, if_pos hclock, State.writeRecord]
    simp only [hleft, State.putRecord]
  · intro n s t e es hrun hsamples ht hwaiting hfilled hmet hpre
    subst ht
    rw [exec_triggerDecision, execTriggerDecision, if_neg (by simp [hrun])]
    simp only [hsamples]
    exact congrArg Host.Outcome.next (if_pos (by rw [hwaiting, hfilled, decide_eq_true hpre]; simp [hmet]))
  · intro n s e es hrun hsamples hmet
    rw [exec_triggerDecision, execTriggerDecision, if_neg (by simp [hrun])]
    simp only [hsamples]
    exact congrArg Host.Outcome.next (if_neg (by simp [hmet]))
  · intro n s t u left b k hclock hdone hleft hmore hroom halloc hk hu
    subst hu hk hleft
    rw [exec_exportBufferFill, execExportBufferFill]
    simp only [hclock, hdone, halloc, beq_eq_false_iff_ne.mpr hmore, Nat.not_le.mpr hroom, bne_self_eq_false, decide_false,
      Bool.not_true, Bool.or_self, Bool.false_eq_true, if_false]
  · intro n s hdone
    rw [exec_exportBufferFill, execExportBufferFill]
    exact congrArg Host.Outcome.next (if_pos (by simp [hdone]))
  · intro near low s hon
    rw [exec_syncClkEdge, execSyncClkEdge, if_pos hon]
  · intro s hon
    rw [exec_syncClkLoss, execSyncClkLoss, if_pos hon]
  · intro s t hrun hstart ht hen hlock hlow hhigh
    subst ht
    rw [exec_cascadeLaunch, execCascadeLaunch, if_pos (by simp [hrun, hstart])]
    exact congrArg Host.Outcome.next (if_pos (by simp [hen, hlock, hlow, hhigh]))
  · intro m s t u hon hlock hlow hhigh ht hu
    subst hu ht
    rw [exec_cascadeTriggerReceive, execCascadeTriggerReceive, if_pos (by simp [hon, hlock, hlow, hhigh])]
  · intro s hon
    rw [exec_trigIoStuck, execTrigIoStuck, if_pos hon]
  · intro s hon hmaster
    rw [exec_pingAnswer, execPingAnswer, if_pos (by simp [hon, hmaster])]
  · intro r s hrun hbusy hrounds
    rw [exec_pingRound, execPingRound, if_pos (by simp [hrun, hbusy])]
    exact congrArg Host.Outcome.next (if_pos (by simpa using Nat.succ_lt_succ hrounds))
  · intro s hrun hbusy
    rw [exec_pingRound, execPingRound, if_pos (by simp [hrun, hbusy])]
  · intro rtt s hrun hbusy
    rw [exec_pingRound, execPingRound, if_pos (by simp [hrun, hbusy])]
  · intro r s t l hrun hbusy hl hrounds ht hspread
    subst ht hl
    rw [exec_pingRound, execPingRound, if_pos (by simp [hrun, hbusy])]
    simp only [Nat.not_lt.mpr hrounds, Nat.not_lt.mpr hspread, decide_false, Bool.false_eq_true, if_false]

end Sys2Proof.Machine
end

section
/-!
The acquisition and Cascade commands 0x30 to 0x3A.
-/

namespace Sys2Proof.Machine

/-- Conditions whose sources their kinds know (R320): ACQ_TRIG_CFG refuses none of them. -/
theorem trigSources_ok {v : Nat → Nat}
    (h : ∀ j < 4, (v j / 2 ^ 29 % 4 = 0 → v j / 2 ^ 21 % 64 ≤ 47) ∧ (v j / 2 ^ 29 % 4 = 1 → v j / 2 ^ 21 % 64 ≤ 31)) :
    (List.range 4).any (fun j => (v j / 2 ^ 29 % 4 == 0 && decide (47 < v j / 2 ^ 21 % 64)) ||
      (v j / 2 ^ 29 % 4 == 1 && decide (31 < v j / 2 ^ 21 % 64))) = false := by
  rw [List.any_eq_false]
  intro j hj
  obtain ⟨hprobe, hline⟩ := h j (List.mem_range.mp hj)
  simp only [Bool.or_eq_true, Bool.and_eq_true, beq_iff_eq, decide_eq_true_eq]
  omega

/-- Settles O40: each command is served and its step 8 passes the refusals that its conditions exclude. -/
theorem acquisitionCommandsComplete : Obligations.AcquisitionCommandsComplete := by
  unfold Obligations.AcquisitionCommandsComplete
  refine ⟨?_, ?_, ?_, ?_, ?_, ?_, ?_, ?_, ?_, ?_, ?_⟩
  · intro c s u p v t hs hu hp hv ht hmode hfree hprobe hlow htype hinst
    subst ht hv hp
    refine exec_of_step8_answers (exec_acqProbe c s) hs hu ?_
    simp only [hmode, hfree, hprobe, hlow, htype, hinst, okReply, bne_self_eq_false, decide_false, Bool.not_true, Bool.or_self,
      Bool.false_eq_true, if_false]
  · intro c s u v w x n scfg sdiv base len pre post lo hi clash hs hu hn hscfg hsdiv hbase hlen hpre hpost hlo hhi hclash hmode
      hset hidle hbaseLt hlenLt hpreLt hpostLe hclock hfits hclear hv hw hx
    subst hx hw hv hclash hhi hlo hpost hpre hlen hbase hsdiv hscfg hn
    refine exec_of_step8_answers (exec_acqSetCfg c s) hs hu ?_
    simp only [hmode, hidle, Nat.not_lt.mpr hset, Nat.not_le.mpr hbaseLt, Nat.not_le.mpr hlenLt, Nat.not_le.mpr hpreLt,
      Nat.not_lt.mpr hpostLe, hclock, Nat.not_lt.mpr hfits, hclear, okReply, bne_self_eq_false, decide_false, Bool.and_false,
      Bool.not_true, Bool.or_self, Bool.false_eq_true, if_false]
  · intro c s u n hs hu hn hmode hset hidle hsources
    subst hn
    refine exec_of_step8_answers (exec_acqTrigCfg c s) hs hu ?_
    simp only [hmode, hidle, Nat.not_lt.mpr hset, trigSources_ok hsources, okReply, bne_self_eq_false, decide_false, Bool.and_false,
      Bool.not_true, Bool.or_self, Bool.false_eq_true, if_false]
  · intro c s u m hs hu hm hmode hready hmask hroom
    subst hm
    refine exec_of_step8_answers (exec_acqArm c s) hs hu ?_
    simp only [hmode, hready, hmask, hroom, okReply, decide_false, Bool.not_true, Bool.or_self, Bool.false_eq_true, if_false]
  · intro c s u hs hu hmode
    refine exec_of_step8_answers (exec_acqDisarm c s) hs hu ?_
    simp only [hmode, okReply, Bool.not_true, Bool.false_eq_true, if_false]
  · intro c s u l hs hu hl hmode hwaiting
    subst hl
    refine exec_of_step8_answers (exec_acqTrigger c s) hs hu ?_
    simp only [hmode, hwaiting, okReply, Bool.not_true, Bool.false_eq_true, if_false]
  · intro c s u n hs hu hn hmode hset
    subst hn
    refine exec_of_step8_answers (exec_acqStatus c s) hs hu ?_
    simp only [hmode, hset, okResult, decide_false, Bool.not_true, Bool.false_eq_true, if_false]
  · intro c s u t n out off len fst hs hu hn hmode hset hdone hout hlast hpass
    subst hout hn
    refine exec_of_step8_answers (exec_acqRead c s) hs hu ?_
    simp only [hmode, hdone, Nat.not_lt.mpr hset, hlast, hpass, bne_self_eq_false, decide_false, Bool.not_true, Bool.false_eq_true,
      if_false]
  · intro c s u v hs hu hv hmode hspare
    subst hv
    refine exec_of_step8_answers (exec_cascCfg c s) hs hu ?_
    simp only [hmode, hspare, okReply, bne_self_eq_false, Bool.not_true, Bool.false_eq_true, if_false]
  · intro c s u hs hu hmode hslave hen hidle
    refine exec_of_step8_waits (exec_cascPing c s) hs hu ?_
    simp only [hmode, hslave, hen, hidle, Bool.not_true, Bool.or_self, Bool.false_eq_true, if_false]
  · intro c s u hs hu hmode
    refine exec_of_step8_answers (exec_cascStatus c s) hs hu ?_
    simp only [hmode, okResult, Bool.not_true, Bool.false_eq_true, if_false]

end Sys2Proof.Machine
end

section
/-!
The events of the network island.
-/

namespace Sys2Proof.Machine

theorem exec_frameReceive_accepted {p : Fin 4} {bytes : List Byte} {bad : Bool} {full : Nat} {stamp : Moment} {s t : State} {raw : Int}
    (hrun : s.netRuns = true) (hen : s.flag (F.SW_PCFG_EN p) = true) (hstamp : (s.runOn stamp.adv).macStamp p stamp.back = (raw, t)) :
    exec (.frameReceive p bytes bad full stamp) s = .next (
      if bad || decide (bytes.length + 4 < 64) || decide (1522 < bytes.length + 4) then t.inc (F.SW_PSTAT_RXERR p)
      else if gptpLocal bytes then t else t.forward p bytes full (raw - t.inLat p) []) := by
  rw [exec_frameReceive, execFrameReceive, if_neg (by simp [hrun, hen])]
  simp only [hstamp]

/-- Settles O41: each clause's conditions are the guards of its command. -/
theorem networkEventsComplete : Obligations.NetworkEventsComplete := by
  unfold Obligations.NetworkEventsComplete
  refine ⟨?_, ?_, ?_, ?_, ?_, ?_, ?_, ?_, ?_, ?_, ?_, ?_, ?_, ?_, ?_, ?_, ?_, ?_, ?_, ?_, ?_, ?_, ?_, ?_, ?_, ?_, ?_, ?_, ?_, ?_⟩
  · intro v adv s hrun
    rw [exec_rateRequest, execRateRequest, if_pos hrun]
  · intro adv s hrun
    rw [exec_timeStep, execTimeStep, if_pos hrun]
  · intro adv s hrun
    rw [exec_alarmReached, execAlarmReached, if_pos (by simpa using hrun)]
  · intro adv s t due hrun hgrid ht hdue hlate
    subst hdue ht
    rw [exec_gridMarkSend, execGridMarkSend, if_pos (by simp [hrun, hgrid])]
    exact congrArg Host.Outcome.next (if_pos (decide_eq_true hlate))
  · intro adv s t due hrun hgrid ht hdue hfrom hcnt
    subst hdue ht
    rw [exec_gridMarkSend, execGridMarkSend, if_pos (by simp [hrun, hgrid])]
    simp only [Nat.not_lt.mpr hfrom, Nat.not_lt.mpr hcnt, decide_false, Bool.false_eq_true, if_false]
  · intro p bytes bad full stamp s t raw hrun hen hstamp hbad
    rw [exec_frameReceive_accepted hrun hen hstamp, if_pos]
    simp only [Bool.or_eq_true, decide_eq_true_eq, or_assoc]
    exact hbad.imp_right (fun hsize => by omega)
  · intro p bytes full stamp s t raw hrun hen hstamp hsize hforeign
    rw [exec_frameReceive_accepted hrun hen hstamp, if_neg, if_neg (by simp [hforeign])]
    simp only [Bool.or_eq_true, decide_eq_true_eq, Bool.false_eq_true, false_or]
    omega
  · intro p stamp s t u f ratio d raw hrun hhead hrelay hevt hstamp hu
    subst hu
    rw [exec_frameEgress, execFrameEgress, if_neg (by simp [hrun])]
    simp only [hhead, hstamp, hrelay, hevt]
  · intro p stamp s t u f raw hrun hhead hrelay hport hevt hstamp hu
    subst hu
    rw [exec_frameEgress, execFrameEgress, if_neg (by simp [hrun])]
    simp only [hhead, hstamp, hrelay, hevt, hport, bne_self_eq_false, Bool.false_eq_true, if_false]
  · intro p stamp s t u v f raw seq bytes kept hrun hhead hrelay hport hevt hstamp hbytes hu hpush
    subst hu hbytes
    rw [exec_frameEgress, execFrameEgress, if_neg (by simp [hrun])]
    simp only [hhead, hstamp, hrelay, hevt, hport, bne_self_eq_false, Bool.false_eq_true, if_false]
    exact congrArg (fun x => Host.Outcome.next x.2) hpush
  · intro mac s hrun
    rw [exec_fdbAgeing, execFdbAgeing, if_pos hrun]
  · intro p up s hrun
    rw [exec_portLinkChange, execPortLinkChange, if_pos hrun]
  · intro s t f hrun hhead ht haction
    subst ht
    rw [exec_internalPortFrame, execInternalPortFrame, if_neg (by simp [hrun])]
    simp only [hhead, haction, beq_self_eq_true, if_true]
  · intro s t f hrun hhead ht haction hnone
    subst ht
    rw [exec_internalPortFrame, execInternalPortFrame, if_neg (by simp [hrun])]
    simp only [hhead, beq_eq_false_iff_ne.mpr haction, hnone, State.noBuf, Bool.false_eq_true, if_false]
  · intro s t u f bs hrun hhead ht hbufs haction
    subst ht
    rw [exec_internalPortFrame, execInternalPortFrame, if_neg (by simp [hrun])]
    simp [hhead, hbufs, haction]
  · intro s t u f bs a hrun hhead ht hbufs haction hudp
    subst ht
    rw [exec_internalPortFrame, execInternalPortFrame, if_neg (by simp [hrun])]
    simp [hhead, hbufs, haction, hudp]
  · intro port src bytes s hrun hsup hnone
    rw [exec_vmDatagram, execVmDatagram, if_neg (by simp [hrun, hsup])]
    simp only [hnone]
  · intro port src bytes s t k hrun hsup ht hbound hbad
    subst ht
    rw [exec_vmDatagram, execVmDatagram, if_neg (by simp [hrun, hsup])]
    simp only [hbound]
    exact congrArg Host.Outcome.next (if_pos (by simpa [or_assoc] using hbad))
  · intro port src bytes s t u k hrun hsup ht hbound hsrc hlength hmagic hseq hu hislands
    subst hu ht
    rw [exec_vmDatagram, execVmDatagram, if_neg (by simp [hrun, hsup])]
    simp only [hbound, hsrc, hlength, hmagic, Nat.not_lt.mpr hseq, hislands, bne_self_eq_false, decide_false, Bool.or_self,
      Bool.not_true, Bool.false_eq_true, if_false]
  · intro bytes s hdst htype hlength hkey hnode
    rw [exec_wakeFrame, execWakeFrame]
    exact congrArg Host.Outcome.next (if_pos (by simp [hdst, htype, hlength, hkey, hnode]))
  · intro p bytes stamp origin s t u v h raw bs kept hh hrun hsup hen hgptp hdomain hstamp hbufs hslave hpush
    subst hh
    rw [exec_gptpSyncReceived, execGptpSyncReceived, if_neg (by simp [hrun, hsup, hen, hgptp, hdomain])]
    simp only [hstamp, hbufs, hslave, beq_self_eq_true, if_true, hpush, Bool.and_true]
  · intro p bytes stamp origin s t u v h raw bs kept hh hrun hsup hen hgptp hdomain hstamp hbufs hslave hpush
    subst hh
    rw [exec_gptpSyncReceived, execGptpSyncReceived, if_neg (by simp [hrun, hsup, hen, hgptp, hdomain])]
    simp only [hstamp, hbufs, beq_eq_false_iff_ne.mpr hslave, hpush, Bool.and_false, Bool.false_eq_true, if_false]
  · intro s hrun hsup hslave
    rw [exec_syncLossTimeout, execSyncLossTimeout, if_pos (by rw [hrun, hsup, hslave]; rfl)]
  · intro p sequence stamp s t r u raw bs kept hrun hsup hen hstamp hbufs hpush
    rw [exec_pdelayReqReceived, execPdelayReqReceived, if_neg (by simp [hrun, hsup, hen])]
    simp only [hstamp, hbufs, hpush]
  · intro p s t hrun hsup hen ht
    subst ht
    rw [exec_gptpTimerDue, execGptpTimerDue, if_neg (by simp [hrun, hsup, hen])]
    rfl
  · intro p kind s t hrun hsup hen hkind hmaster hrole ht
    subst ht
    rw [exec_gptpTimerDue, execGptpTimerDue, if_neg (by simp [hrun, hsup, hen, hmaster, hrole])]
    simp only [beq_eq_false_iff_ne.mpr hkind, Bool.false_eq_true, if_false]
  · intro p sequence stamp t2 t3 s t x u raw bs kept q t1 r hrun hsup hen hstamp hbufs hpush hreq hr
    subst hr
    rw [exec_pdelayRespReceived, execPdelayRespReceived, if_neg (by simp [hrun, hsup, hen])]
    simp only [hstamp, hbufs, hpush, State.takePdelay, hreq, List.cons_append, List.nil_append]
  · intro p bytes s t bs hrun hsup hen hbufs
    rw [exec_announceReceived, execAnnounceReceived, if_pos (by simp [hrun, hsup, hen])]
    simp only [hbufs]
  · intro p bytes s hrun hsup hen hnone
    rw [exec_announceReceived, execAnnounceReceived, if_pos (by simp [hrun, hsup, hen])]
    simp only [hnone, State.noBuf]
  · intro s
    rw [exec_tsqPop, execTsqPop]

end Sys2Proof.Machine
end

section
/-!
The network and time commands 0x40 to 0x4C.
-/

namespace Sys2Proof.Machine

/-- Settles O42: each command is served and its step 8 passes the refusals that its conditions exclude. -/
theorem networkCommandsComplete : Obligations.NetworkCommandsComplete := by
  unfold Obligations.NetworkCommandsComplete
  refine ⟨?_, ?_, ?_, ?_, ?_, ?_, ?_, ?_, ?_, ?_, ?_, ?_, ?_⟩
  · intro c s u p spd hs hu hp hspd hmode hport hen hspeed hpvid hnone
    subst hspd hp
    refine exec_of_step8_answers (exec_netPortCfg c s) hs hu ?_
    simp only [hmode, hport, hen, hspeed, hpvid, beq_eq_false_iff_ne.mpr hnone, okReply, decide_false, Bool.not_true, Bool.or_self,
      Bool.false_eq_true, if_false]
  · intro c s u v hs hu hv hmode hentry hvid hmemb huntag
    subst hv
    refine exec_of_step8_answers (exec_netVlanCfg c s) hs hu ?_
    simp only [hmode, hentry, hvid, hmemb, huntag, okReply, decide_false, Bool.not_true, Bool.or_self, Bool.false_eq_true, if_false]
  · intro c s u i mac e hs hu hi hmac he hmode hentry hports hvalid
    subst he hmac hi
    refine exec_of_step8_answers (exec_netFdb c s) hs hu ?_
    simp only [hmode, hentry, hports, hvalid, okReply, decide_false, Bool.not_true, Bool.or_self, Bool.false_eq_true, if_false]
  · intro c s u inv hs hu hinv hmode hmask
    subst hinv
    refine exec_of_step8_answers (exec_netIpCfg c s) hs hu ?_
    simp only [hmode, hmask, okReply, bne_self_eq_false, Bool.not_true, Bool.false_eq_true, if_false]
  · intro c s u p hs hu hp hmode hport
    subst hp
    refine exec_of_step8_answers (exec_netStatus c s) hs hu ?_
    simp only [hmode, hport, okResult, decide_false, Bool.not_true, Bool.false_eq_true, if_false]
  · intro c s u r roles static lock step tmo hs hu hr hroles hstatic hlock hstep htmo hmode hprio hbits hlockth hstepth hsynctmo hslaves
    subst htmo hstep hlock hstatic hroles hr
    refine exec_of_step8_answers (exec_timeCfg c s) hs hu ?_
    simp only [hmode, hprio, hbits, beq_eq_false_iff_ne.mpr hlockth, beq_eq_false_iff_ne.mpr hstepth, hsynctmo, hslaves, okReply,
      decide_false, Bool.not_true, Bool.or_self, Bool.false_eq_true, if_false]
  · intro c adv s u hs hu hmode
    refine exec_of_step8_answers (exec_timeStatus c adv s) hs hu ?_
    simp only [hmode, okResult, Bool.not_true, Bool.false_eq_true, if_false]
  · intro c s u hs hu hmode
    refine exec_of_step8_answers (exec_timeRestep c s) hs hu ?_
    simp only [hmode, okReply, State.newEpoch, Bool.not_true, Bool.false_eq_true, if_false]
  · intro c adv s u per hs hu hper hmode hlow hhigh hofs hen
    subst hper
    refine exec_of_step8_answers (exec_timeGrid c adv s) hs hu ?_
    simp only [hmode, hlow, hhigh, hofs, hen, okReply, decide_false, Bool.not_true, Bool.or_self, Bool.false_eq_true, if_false]
  · intro c adv s u v hs hu hmode hv hfuture hen
    subst hv
    refine exec_of_step8_answers (exec_timeAlarm c adv s) hs hu ?_
    simp only [hmode, hfuture, Nat.not_lt.mpr hen, okReply, decide_false, Bool.not_true, Bool.or_self, Bool.false_eq_true, if_false]
  · intro c s u p hs hu hp hmode hport
    subst hp
    refine exec_of_step8_answers (exec_netPortDelay c s) hs hu ?_
    simp only [hmode, hport, okReply, decide_false, Bool.not_true, Bool.false_eq_true, if_false]
  · intro c s u k port on hs hu hk hport hon hmode hmaster hrange hzero hflag hfree
    subst hon hport hk
    refine exec_of_step8_answers (exec_netVmBind c s) hs hu ?_
    simp only [hmode, hmaster, hrange, beq_eq_false_iff_ne.mpr hzero, hflag, hfree, okReply, decide_false, Bool.not_true,
      Bool.or_self, Bool.false_eq_true, if_false]
  · intro c s u hs hu hmode
    refine exec_of_step8_answers (exec_netWakeCfg c s) hs hu ?_
    simp only [hmode, okReply, Bool.not_true, Bool.false_eq_true, if_false]

end Sys2Proof.Machine
end

section
/-!
The events of the CAN controllers.
-/

namespace Sys2Proof.Machine

/-- A frame on the bus that the controller listens to, in the state `t` at its start. -/
theorem exec_canFrameReceived_heard {n : Fin 8} {frame : CanFrame} {heard : CanHeard} {s t : State} (hbus : s.canOnBus n = true)
    (hmode : s.canMode n ≠ 2) (ht : t = s.runOn heard.rx.sof.adv) :
    exec (.canFrameReceived n frame heard) s = .next (State.startIf (if frame.fdf && !t.flag (F.CAN_CFG_FDEN n) then t.canFdSeen n
      else
        let u := if t.canMode n == 1 || t.fld (F.CAN_ERR_REC n) == 0 then t
          else t.setRec n (if decide (127 < t.fld (F.CAN_ERR_REC n)) then 127 else t.fld (F.CAN_ERR_REC n) - 1)
        let v := if u.canMode n == 1 then u else u.put (F.CAN_STAT_LEC n) 0
        v.canReceive n frame (v.nsAt heard.rx.sof.back) heard.rx.writes) n heard.next) := by
  subst ht
  rw [exec_canFrameReceived, execCanFrameReceived, if_neg (by simp [hbus, hmode])]

/-- Settles O43: each clause's conditions are the guards of its command. -/
theorem canEventsComplete : Obligations.CanEventsComplete := by
  unfold Obligations.CanEventsComplete
  refine ⟨?_, ?_, ?_, ?_, ?_, ?_, ?_, ?_, ?_, ?_, ?_, ?_, ?_, ?_, ?_, ?_, ?_, ?_, ?_⟩
  · intro n frame heard s t hbus hmode ht hfd
    rw [exec_canFrameReceived_heard hbus hmode ht, if_pos hfd]
  · intro n frame heard s t u hbus hmode ht hfd hu
    subst hu
    rw [exec_canFrameReceived_heard hbus hmode ht, if_neg (by simp [hfd])]
  · intro n q s
    rw [exec_qheadLock, execQheadLock]
  · intro n q s hlock
    rw [exec_queueRelease, execQueueRelease, if_pos hlock]
  · intro n s e es hspills
    rw [exec_spillDone, execSpillDone]
    simp only [hspills]
  · intro n bufs sof s
    rw [exec_txRequest, execTxRequest]
  · intro n bufs s
    rw [exec_txCancel, execTxCancel]
  · intro n rx s t v b ns ht hsending hmay hv hns
    rw [exec_txAttemptEnd, execTxAttemptEnd]
    subst hns hv ht
    simp only [hsending, hmay, State.startIf, Bool.not_true, Bool.false_eq_true, if_false]
  · intro n s t b ht hsending hmay hcancel
    subst ht
    rw [exec_txAttemptEnd, execTxAttemptEnd]
    simp only [hsending, hmay, hcancel, State.startIf, Bool.not_true, Bool.false_eq_true, if_false]
  · intro n s t b ht hsending hmay hcancel
    subst ht
    rw [exec_txAttemptEnd, execTxAttemptEnd]
    simp only [hsending, hmay, hcancel, State.startIf, Bool.not_true, Bool.false_eq_true, if_false, if_true]
  · intro n err s t u v b ht hsending hmay hcancel hu hv hretry
    rw [exec_txAttemptEnd, execTxAttemptEnd]
    subst ht
    simp only [hsending, hmay, hcancel, State.startIf, ← hu, ← hv, Bool.not_true, Bool.false_eq_true, if_false]
    by_cases hover : 255 < v.fld (F.CAN_ERR_TEC n)
    · rw [if_pos (decide_eq_true hover)]
    · have hmore := hretry.resolve_left hover
      rw [if_neg (by simpa using hover), if_neg]
      simp only [Bool.and_eq_true, decide_eq_true_eq]
      omega
  · intro n next s hbus hmode hfden
    rw [exec_canBusError, execCanBusError, if_neg (by simp [hbus, hmode])]
    simp only [hfden, Bool.false_eq_true, if_false]
  · intro n lec eights next s t hbus hmode ht
    subst ht
    rw [exec_canBusError, execCanBusError, if_neg (by simp [hbus, hmode])]
    simp [hmode]
  · intro n lec eights next s hbus hmode
    rw [exec_canBusError, execCanBusError, if_neg (by simp [hbus, hmode])]
    simp [hmode]
  · intro n tx eights next s hbus hmode
    rw [exec_canBusError, execCanBusError, if_neg (by simp [hbus, hmode])]
    simp [hmode]
  · intro n s hruns htec hstate
    rw [exec_busOff, execBusOff, if_pos (by simp [hruns, htec, hstate])]
  · intro n s hruns hstate hrecovering
    rw [exec_busoffRecovered, execBusoffRecovered, if_pos (by simp [hruns, hstate, hrecovering])]
  · intro n s hruns
    rw [exec_stuckDominant, execStuckDominant, if_pos hruns]
  · intro n s hruns hstate
    rw [exec_busIntegrationDone, execBusIntegrationDone, if_pos (by simp [hruns, hstate])]

end Sys2Proof.Machine
end

section
/-!
The CAN commands 0x50 to 0x57, and the end of a held CAN_RX_READ.
-/

namespace Sys2Proof.Machine

/-- A served command whose step 8, in the state `u` that it finds, is done at once with answer `r` in `t`, although the command may
also wait: exec ends the command with that answer. `hi` is the command's arm. -/
theorem exec_of_step8_done {i : Instr} {s u t : State} {op : Nat} {c : HostCmd} {body : State → Step8} {r : Reply}
    (hi : exec i s = .next (State.hostCmdW op c s body)) (hs : s.serves op c = true) (hu : u = s.atStep8 op c)
    (hb : body u = .done r t) : exec i s = .next (t.finishHead c.ch.val r) := by
  subst hu
  rw [hi, State.hostCmdW_serves hs, hb]

/-- The end of a wait that finds channel `k`'s read held on bus `n` answers count 0 with the drawn RXSEQ. -/
theorem exec_rxReadWaitEnd_of_read {k : Fin 16} {s t u : State} {n v : Nat} (hrun : s.supRuns = true) (ht : t = s.canServeReads)
    (hread : (List.range 8).find? (fun n => (t.can n).reads.any (fun r => r.1 == k.val)) = some n)
    (hdraw : (t.modCan n (fun x => { x with reads := x.reads.filter (fun r => r.1 != k.val) })).draw = (v, u)) :
    exec (.rxReadWaitEnd k) s = .next (u.finishHead k { status := stOk, result := leBytes 1 0 ++ leBytes 2 v }) := by
  rw [exec_rxReadWaitEnd, execRxReadWaitEnd, if_neg (by simp [hrun]), ← ht]
  dsimp only
  rw [hread]
  dsimp only
  generalize State.draw _ = p at hdraw ⊢
  subst hdraw
  rfl

/-- The end of a wait that finds channel `k`'s read held no more changes nothing beyond serving the reads. -/
theorem exec_rxReadWaitEnd_of_none {k : Fin 16} {s t : State} (hrun : s.supRuns = true) (ht : t = s.canServeReads)
    (hnone : (List.range 8).find? (fun n => (t.can n).reads.any (fun r => r.1 == k.val)) = none) :
    exec (.rxReadWaitEnd k) s = .next t := by
  rw [exec_rxReadWaitEnd, execRxReadWaitEnd, if_neg (by simp [hrun]), ← ht]
  dsimp only
  rw [hnone]

/-- Settles O44: each command is served and its step 8 passes the refusals that its conditions exclude; CAN_TX then waits for its
buffer's RESULT, and a CAN_RX_READ without a frame for one (R377, R386). -/
theorem canCommandsComplete : Obligations.CanCommandsComplete := by
  unfold Obligations.CanCommandsComplete
  refine ⟨?_, ?_, ?_, ?_, ?_, ?_, ?_, ?_, ?_, ?_, ?_⟩
  · intro c s u n cfg nbt dbt hs hu hn hcfg hnbt hdbt hmode hnode hstopped htiming hspill
    subst hdbt hnbt hcfg hn
    refine exec_of_step8_answers (exec_canCfg c s) hs hu ?_
    simp only [hmode, hnode, hstopped, htiming, hspill, okReply, decide_false, Bool.not_true, Bool.or_self, Bool.false_eq_true,
      if_false]
  · intro c s u n f k hs hu hn hf hk hmode hnode hfilter hwake
    subst hk hf hn
    refine exec_of_step8_answers (exec_canFilter c s) hs hu ?_
    simp only [hmode, Nat.not_lt.mpr hnode, Nat.not_lt.mpr hfilter, hwake, okReply, decide_false, Bool.not_true, Bool.or_self,
      Bool.false_eq_true, if_false]
  · intro c s u hs hu hmode
    refine exec_of_step8_answers (exec_canStart c s) hs hu ?_
    simp only [hmode, okReply, Bool.not_true, Bool.false_eq_true, if_false]
  · intro c sof s u n b id flags len data hs hu hn hid hflags hlen hdata hmode hnode hbuf hlisten hen hbus hattached
    subst hn
    refine exec_of_step8_waits (exec_canTx c sof s) hs hu ?_
    have hserved : (u.canMode (arg c 0 1) == 1 || !u.flag (F.CAN_CTRL_EN (arg c 0 1)) ||
        (u.fld (F.CAN_ERR_STATE (arg c 0 1)) == canBusOff && u.flag (F.CAN_CFG_BOFLUSH (arg c 0 1)))) = false := by
      rcases hbus with hbus | hbus <;> simp [hlisten, hen, hbus]
    have hlong : (decide (32 < len) && c.handles.isEmpty) = false := by
      rcases hattached with hshort | hsome
      · rw [decide_eq_false (Nat.not_lt.mpr hshort), Bool.false_and]
      · rw [hsome, Bool.and_false]
    subst hdata hlen hflags hid
    simp only [hmode, Nat.not_lt.mpr hnode, hbuf, hserved, hlong, decide_false, Bool.not_true, Bool.false_eq_true, if_false]
  · intro c s u n t hs hu hn hmode hnode htag
    subst hn
    refine exec_of_step8_answers (exec_canTxCancel c s) hs hu ?_
    simp only [hmode, Nat.not_lt.mpr hnode, htag, okReply, decide_false, Bool.not_true, Bool.false_eq_true, if_false]
  · intro c s u n q k wait hs hu hn hq hk hwait hmode hnode hqueue hsome hcount hlimit hframes
    subst hwait hk hq hn
    refine exec_of_step8_done (exec_canRxRead c s) hs hu ?_
    simp only [hmode, Nat.not_lt.mpr hnode, Nat.not_lt.mpr hqueue, beq_eq_false_iff_ne.mpr hsome, Nat.not_lt.mpr hcount,
      Nat.not_lt.mpr hlimit, beq_eq_false_iff_ne.mpr hframes, decide_false, Bool.false_and, Bool.not_true, Bool.or_self,
      Bool.false_eq_true, if_false]
  · intro c s u n q k wait hs hu hn hq hk hwait hmode hnode hqueue hsome hcount hlimit hheld hnone
    subst hwait hk hq hn
    refine exec_of_step8_waits (exec_canRxRead c s) hs hu ?_
    simp only [hmode, Nat.not_lt.mpr hnode, Nat.not_lt.mpr hqueue, beq_eq_false_iff_ne.mpr hsome, Nat.not_lt.mpr hcount,
      Nat.not_lt.mpr hlimit, hheld, hnone, beq_self_eq_true, decide_true, decide_false, Bool.and_self, Bool.not_true, Bool.or_self,
      Bool.false_eq_true, if_false, if_true]
  · intro k s t u n v hrun ht hread hdraw
    exact exec_rxReadWaitEnd_of_read hrun ht hread hdraw
  · intro k s t hrun ht hnone
    exact exec_rxReadWaitEnd_of_none hrun ht hnone
  · intro c s u v n hs hu hn hmode hnode hv
    subst hv hn
    refine exec_of_step8_answers (exec_canStatus c s) hs hu ?_
    simp only [hmode, hnode, decide_false, Bool.not_true, Bool.false_eq_true, if_false]
  · intro c s u n hs hu hn hmode hnode hoff hmanual
    subst hn
    refine exec_of_step8_answers (exec_canBusoffRecover c s) hs hu ?_
    simp only [hmode, hnode, hoff, hmanual, okReply, bne_self_eq_false, decide_false, Bool.not_true, Bool.or_self,
      Bool.false_eq_true, if_false]

end Sys2Proof.Machine
end

section
/-!
Field inputs and outputs, the monitor of the field supply, and the commands 0x60 to 0x66.
-/

namespace Sys2Proof.Machine

/-- A sample of a pulsed input, in the state `t` that the raw level `level` leaves: no more for an input that is not valid, and
otherwise by whether the sample agrees with the debounced level. -/
theorem exec_pulseSample_pulsed {n : Fin 32} {level win : Bool} {s t : State} (hsampled : s.inSampled n = true)
    (hpulsed : s.inPulsed n = true)
    (ht : t = State.putB (if s.flag (F.FIO_ISTAT_RAW n) == level then s else s.rawEdge n level) (F.FIO_ISTAT_RAW n) level) :
    exec (.pulseSample n level win) s = .next (if !t.flag (F.FIO_ISTAT_VALID n) then t
      else if level == t.inRawLvl n then
        let u := t.modFin n (fun x => { x with agree := 0 })
        if s.flag (F.FIO_ISTAT_RAW n) != t.inRawLvl n then u.inReject n win else u
      else if decide (t.inNeed n ≤ (t.fin n).agree + 1) then t.inEdge n
      else t.modFin n (fun x => { x with cand := level, agree := x.agree + 1 })) := by
  subst ht
  rw [exec_pulseSample, execPulseSample, if_neg (by simp [hsampled, hpulsed])]

/-- VFLD crosses the threshold of a condition: the guards of the command pass, and its effect is the condition's own. -/
theorem vfldThreshold_guard {cond : Fin 5} {enter : Bool} {s : State} (hup : s.fieldUp = true) (hin : s.vfldIn cond ≠ enter)
    (hbeyond : vfldBeyond cond enter (s.fld F.FSM_STAT_VFLD) = true) :
    (!s.fieldUp || s.vfldIn cond == enter || !vfldBeyond cond enter (s.fld F.FSM_STAT_VFLD)) = false := by
  simp [hup, hin, hbeyond]

/-- Settles O45: the conditions of a clause are the guards of its event, or its command is served and its step 8 passes the
refusals that they exclude. -/
theorem fieldIoCompletes : Obligations.FieldIoCompletes := by
  unfold Obligations.FieldIoCompletes
  refine ⟨?_, ?_, ?_, ?_, ?_, ?_, ?_, ?_, ?_, ?_, ?_, ?_, ?_, ?_, ?_, ?_, ?_, ?_, ?_, ?_, ?_, ?_, ?_, ?_⟩
  · intro n level win s t hsampled hpulsed hraw ht
    subst ht
    rw [exec_inputRawChange, execInputRawChange, if_neg (by simp [hsampled, hpulsed, hraw])]
  · intro n s hsampled hpulsed hvalid hraw
    rw [exec_inputEdge, execInputEdge, if_pos (by simp [hsampled, hpulsed, hvalid, hraw])]
  · intro n level win s t hsampled hpulsed ht hinvalid
    rw [exec_pulseSample_pulsed hsampled hpulsed ht, if_pos (by rw [hinvalid, Bool.not_false])]
  · intro n level win s t hsampled hpulsed ht hvalid hlevel
    rw [exec_pulseSample_pulsed hsampled hpulsed ht, if_neg (by simp [hvalid]), if_pos (beq_iff_eq.mpr hlevel)]
  · intro n level win s t hsampled hpulsed ht hvalid hlevel
    rw [exec_pulseSample_pulsed hsampled hpulsed ht, if_neg (by simp [hvalid]), if_neg (by simpa using hlevel)]
  · intro n s t hsampled hwben hopen ht
    subst ht
    rw [exec_wireBreakMeasure, execWireBreakMeasure, if_neg (by simp [hsampled, hwben, hopen])]
    simp only [if_true, Bool.or_eq_true, decide_eq_true_eq]
  · intro n s hsampled hwben hopen
    rw [exec_wireBreakMeasure, execWireBreakMeasure, if_neg (by simp [hsampled, hwben, hopen]), if_neg Bool.false_ne_true]
  · intro m s hmay hon
    rw [exec_outputOverloadTrip, execOutputOverloadTrip]
    simp only [hmay, hon, Bool.not_true, Bool.false_eq_true, if_false, if_true]
  · intro s hmay hany
    rw [exec_outputOverloadTrip, execOutputOverloadTrip]
    simp only [hmay, hany, Bool.not_true, Bool.false_eq_true, if_false, if_true]
  · intro m s hmay
    rw [exec_outputThermalShutdown, execOutputThermalShutdown, if_pos hmay]
  · intro m s hmay hopen
    rw [exec_openLoadDetect, execOpenLoadDetect, if_pos (by rw [hmay, hopen, Bool.and_self])]
  · intro v copy s t hup ht
    subst ht
    rw [exec_vfldMeasure, execVfldMeasure, if_neg (by simp [hup])]
  · intro cond enter s hup hcond hin hbeyond
    rw [exec_vfldThreshold, execVfldThreshold, vfldThreshold_guard hup hin hbeyond]
    simp only [hcond, Bool.false_eq_true, if_false]
  · intro cond enter s hup hcond hin hbeyond
    rw [exec_vfldThreshold, execVfldThreshold, vfldThreshold_guard hup hin hbeyond]
    simp only [hcond, Bool.false_eq_true, if_false]
  · intro cond enter s hup hcond hin hbeyond
    rw [exec_vfldThreshold, execVfldThreshold, vfldThreshold_guard hup hin hbeyond]
    simp only [hcond, Bool.false_eq_true, if_false]
  · intro cond enter s hup hcond hin hbeyond
    rw [exec_vfldThreshold, execVfldThreshold, vfldThreshold_guard hup hin hbeyond]
    simp only [hcond, Bool.false_eq_true, if_false]
  · intro cond enter s hup hcond hin hbeyond
    rw [exec_vfldThreshold, execVfldThreshold, vfldThreshold_guard hup hin hbeyond]
    simp only [hcond, Bool.false_eq_true, if_false]
  · intro c s u n v deb raw hs hu hn hv hdeb hraw hmode hinput hnone hlong
    subst hraw hdeb hv hn
    refine exec_of_step8_answers (exec_fieldInCfg c s) hs hu ?_
    simp only [hmode, hinput, beq_eq_false_iff_ne.mpr hnone, hlong, okReply, decide_false, Bool.not_true, Bool.or_self,
      Bool.false_eq_true, if_false]
  · intro c s u hs hu hmode
    refine exec_of_step8_answers (exec_fieldInRead c s) hs hu ?_
    simp only [hmode, Bool.not_true, Bool.false_eq_true, if_false]
    split
    next hbad => rw [if_neg (by simpa using hbad)]
    next hok => rw [if_pos (by simpa using hok)]
  · intro c s u m v hs hu hm hv hmode hout hlimt
    subst hv hm
    refine exec_of_step8_answers (exec_fieldOutCfg c s) hs hu ?_
    simp only [hmode, hout, hlimt, okReply, decide_false, Bool.not_true, Bool.or_self, Bool.false_eq_true, if_false]
  · intro c s u mask v hs hu hmask hv hmode hsoff
    subst hv hmask
    refine exec_of_step8_answers (exec_fieldOutSet c s) hs hu ?_
    simp only [hmode, hsoff, okReply, Bool.not_true, Bool.false_eq_true, if_false]
  · intro c hot above s u hs hu hmode hcut htot hnone
    refine exec_of_step8_answers (exec_fieldOutClear c hot above s) hs hu ?_
    simp only [hmode, hcut, htot, hnone, okReply, bne_self_eq_false, Bool.not_true, Bool.false_eq_true, if_false]
  · intro c ma s u v r hs hu hmode hreport
    refine exec_of_step8_answers (exec_fieldStatus c ma s) hs hu ?_
    simp only [hmode, hreport, Bool.not_true, Bool.false_eq_true, if_false]
  · intro c s u iv hs hu hiv hmode hall hnone hlong
    subst hiv
    refine exec_of_step8_answers (exec_fieldWakeCfg c s) hs hu ?_
    simp only [hmode, hall, beq_eq_false_iff_ne.mpr hnone, hlong, okReply, decide_false, Bool.not_true, Bool.or_self,
      Bool.false_eq_true, if_false]

end Sys2Proof.Machine
end

section
/-!
Resets, straps, PLL lock, memory clear, image check and island resets.
-/

namespace Sys2Proof.Machine

/-- Settles O47: each clause's conditions are the guards of its command. -/
theorem resetAndBootComplete : Obligations.ResetAndBootComplete := by
  unfold Obligations.ResetAndBootComplete
  refine ⟨?_, ?_, ?_, ?_, ?_, ?_, ?_, ?_, ?_, ?_, ?_, ?_, ?_⟩
  · intro bor s
    rw [exec_porstAssert, execPorstAssert]
  · intro s due hdue hsome
    subst hdue
    exact exec_warmReset_due hsome
  · intro s hnone
    rw [exec_warmReset, execWarmReset]
    simp only [hnone, beq_self_eq_true, if_true]
  · intro s
    rw [exec_clockFaultReset, execClockFaultReset]
  · intro otpBad x32 s hmode hstraps
    rw [exec_resetRelease, execResetRelease, if_pos (by simp [hmode, hstraps])]
  · intro samples s hstraps hall
    rw [exec_strapLatch, execStrapLatch, if_pos (by simp [hstraps, hall])]
  · intro p bad s
    rw [exec_pllLock, execPllLock]
  · intro p ok bad s
    rw [exec_pllLockRetry, execPllLockRetry]
  · intro bad s hbooting hcleared hlock
    rw [exec_memoryClearDone, execMemoryClearDone, if_pos (by simp [hbooting, hcleared, hlock])]
  · intro s t u v slot r hmay hflash hslot hcheck hu hv
    subst hv hu
    rw [exec_firmwareImageChecked, execFirmwareImageChecked, if_neg (by simp [hmay]), if_neg (by simpa using hflash), ← hslot]
    simp only [hcheck, beq_iff_eq]
  · intro s hmay hnoflash
    rw [exec_firmwareImageChecked, execFirmwareImageChecked, if_neg (by simp [hmay]), if_pos (by simpa using hnoflash)]
  · intro v s hserves
    rw [exec_islandResetWrite, execIslandResetWrite, if_pos hserves]
  · intro i s hreset hclocked
    rw [exec_islandResetAccess, execIslandResetAccess, if_pos (by simp only [hreset, hclocked, Bool.and_self])]

end Sys2Proof.Machine
end

section
/-!
The security commands: challenge and response, lifecycle, provisioning, Update and sessions.
-/

namespace Sys2Proof.Machine

/-- UPD_DATA in Update, with an open transfer `x` whose next offset it names and whose length its bytes do not exceed. -/
theorem exec_updData_transfer {c : HostCmd} {s u : State} {x : Update} {n : Nat} (hs : s.serves 0x94 c = true)
    (hu : u = s.atStep8 0x94 c) (hupd : u.sec.upd = some x) (hn : n = arg c 4 4) (hmode : u.inModes [modeUpdate] = true)
    (hoff : arg c 0 4 = x.next) (hbytes : n ≤ (u.updBytes c).length) (hroom : x.next + n ≤ x.length) :
    exec (.updData c) s = .next (
      let t := u.wrFlashBytes (slotBase x.slot + x.next) ((u.updBytes c).take n)
      (t.withSec { t.sec with upd := some { x with next := x.next + n } }).finishHead c.ch.val .ok) := by
  subst hn
  refine exec_of_step8_answers (exec_updData c s) hs hu ?_
  simp only [hupd, hmode, hoff, Nat.not_lt.mpr hbytes, Nat.not_lt.mpr hroom, okReply, bne_self_eq_false, decide_false,
    Bool.not_true, Bool.or_self, Bool.false_eq_true, if_false]

/-- A reason code other than 0 fails UPD_END, and 0 completes it. -/
theorem exec_updEnd_transfer {c : HostCmd} {s u t : State} {x : Update} {r : Nat} (hs : s.serves 0x95 c = true)
    (hu : u = s.atStep8 0x95 c) (hupd : u.sec.upd = some x) (hmode : u.inModes [modeUpdate] = true)
    (hr : r = if x.next ≠ x.length then 1 else u.imageCheck x.slot (if x.slot < 2 then 1 else 2))
    (ht : t = u.withSec { u.sec with upd := none, slotBad := putBit u.sec.slotBad x.slot false }) :
    exec (.updEnd c) s = .next (if r = 0 then
        (t.withMode { t.mode with warmDue := putBit t.mode.warmDue 5 true }).finishHead c.ch.val .ok
      else (u.withSec { u.sec with upd := none }).finishHead c.ch.val { status := reasonStatus r, detail := r }) := by
  subst ht
  simp only [← bne_iff_ne] at hr
  by_cases hzero : r = 0
  · rw [if_pos hzero]
    refine exec_of_step8_answers (exec_updEnd c s) hs hu ?_
    simp only [hupd, hmode, ← hr, hzero, okReply, beq_self_eq_true, Bool.not_true, Bool.false_eq_true, if_false, if_true]
  · rw [if_neg hzero]
    refine exec_of_step8_answers (exec_updEnd c s) hs hu ?_
    simp only [hupd, hmode, ← hr, beq_eq_false_iff_ne.mpr hzero, Bool.not_true, Bool.false_eq_true, if_false]

/-- Settles O37: each command is served and its step 8 passes the refusals that its conditions exclude. -/
theorem securityCommandsComplete : Obligations.SecurityCommandsComplete := by
  unfold Obligations.SecurityCommandsComplete
  refine ⟨?_, ?_, ?_, ?_, ?_, ?_, ?_, ?_, ?_, ?_, ?_, ?_, ?_, ?_, ?_, ?_⟩
  · intro c s u hs hu
    exact exec_of_step8_answers (exec_secStatus c s) hs hu rfl
  · intro c s u v bs hs hu hchallenge
    refine exec_of_step8_answers (exec_secChallenge c s) hs hu ?_
    simp only [hchallenge, okResult, beq_self_eq_true, if_true]
  · intro c s u v ok hs hu hone hrespond
    refine exec_of_step8_answers (exec_secResponse c s) hs hu ?_
    simp only [hone, hrespond, okReply, refuse, bne_self_eq_false, Bool.false_eq_true, if_false]
    cases ok <;> rfl
  · intro s
    rw [exec_nonceExpiry, execNonceExpiry]
  · intro s
    rw [exec_authLockExpiry, execAuthLockExpiry]
  · intro c s u t l hs hu ht hl hmode hnext hgrant
    subst hl ht
    refine exec_of_step8_answers (exec_secLifecycle c s) hs hu ?_
    simp only [hmode, hnext, hgrant, okReply, Bool.not_true, Bool.false_eq_true, if_false]
  · intro c s u r hs hu hmode hr
    cases r with
    | some v =>
      refine exec_of_step8_answers (exec_secProvision c s) hs hu ?_
      simp only [hmode, hr, okReply, Bool.not_true, Bool.false_eq_true, if_false]
    | none =>
      refine exec_of_step8_answers (exec_secProvision c s) hs hu ?_
      simp only [hmode, hr, refuse, Bool.not_true, Bool.false_eq_true, if_false]
  · intro c s u k vs hs hu hk hvs hmode hcounter hsome hfallback
    subst hvs hk
    refine exec_of_step8_answers (exec_secArbAdvance c s) hs hu ?_
    simp only [hmode, Nat.not_lt.mpr hcounter, hsome, hfallback, okReply, decide_false, Bool.not_true, Bool.or_self,
      Bool.false_eq_true, if_false]
  · intro c s u t n slot hs hu hn hmode hfree hslot hsome hlimit
    subst hn
    refine exec_of_step8_answers (exec_updBegin c s) hs hu ?_
    simp only [hmode, hfree, hslot, beq_eq_false_iff_ne.mpr hsome, Nat.not_lt.mpr hlimit, okReply, decide_false, Bool.not_true,
      Bool.or_self, Bool.false_eq_true, if_false]
  · intro c s u x n hs hu hupd hn hmode hoff hbytes hroom
    exact exec_updData_transfer hs hu hupd hn hmode hoff hbytes hroom
  · intro c s u x hs hu hupd hmode hshort
    exact exec_updEnd_transfer hs hu hupd hmode (if_pos hshort).symm rfl
  · intro c s u t x r hs hu hupd hmode hfull hr ht
    exact exec_updEnd_transfer hs hu hupd hmode (hr.trans (if_neg (not_not_intro hfull)).symm) ht
  · intro c s u hs hu hmode
    refine exec_of_step8_answers (exec_updAbort c s) hs hu ?_
    simp only [hmode, okReply, Bool.not_true, Bool.false_eq_true, if_false]
  · intro c s u mask num used bound n hs hu hmask hnum hused hbound hmode hfeature hone hgrant hfree hdisjoint hfour hnew
    subst hbound hused hnum hmask
    refine exec_of_step8_answers (exec_secSessionOpen c s) hs hu ?_
    simp only [hmode, hfeature, hone, hgrant, hfree, hdisjoint, Nat.not_lt.mpr hfour, hnew, okReply, bne_self_eq_false,
      decide_false, Bool.not_true, Bool.or_self, Bool.false_eq_true, if_false]
  · intro c s u n hs hu hmode hfind
    refine exec_of_step8_answers (exec_secSessionClose c s) hs hu ?_
    simp only [beq_eq_false_iff_ne.mpr hmode, hfind, okReply, Bool.false_eq_true, if_false]
  · intro c s u hs hu hmode hclose
    refine exec_of_step8_answers (exec_secDebug c s) hs hu ?_
    simp only [hclose, okReply, beq_self_eq_true, if_true]

end Sys2Proof.Machine
end

section
/-!
The test access port and the debugger.
-/

namespace Sys2Proof.Machine

/-- Settles O38: the port answers while it is not powered down, and a Halt session acts on the cores. -/
theorem debugPortCompletes : Obligations.DebugPortCompletes := by
  unfold Obligations.DebugPortCompletes
  refine ⟨?_, ?_, ?_, ?_, ?_, ?_, ?_, ?_, ?_⟩
  · intro purpose level s hsec
    rw [exec_tapSecChal, execTapSecChal, if_pos hsec]
  · intro level s hsec
    rw [exec_tapSecOpen, execTapSecOpen, if_pos hsec]
  · intro s hup
    rw [exec_tapIdcode, execTapIdcode, if_pos hup]
  · intro s hup
    rw [exec_tapBypass, execTapBypass, if_pos hup]
  · intro s hup
    rw [exec_tapExtest, execTapExtest, if_pos hup]
  · intro s hup
    rw [exec_tapSamplePreload, execTapSamplePreload, if_pos hup]
  · intro core a s hlevel hup
    rw [exec_debugHalt, execDebugHalt]
    simp [hlevel, hup]
  · intro core op s hop hlevel hup hspeed
    rw [exec_debugHalt, execDebugHalt]
    rcases hop with rfl | rfl <;> simp [hlevel, hup, hspeed]
  · intro s hup
    rw [exec_trstLow, execTrstLow, if_pos hup]

end Sys2Proof.Machine
end

section
/-!
What holds the images and the keys, the flash and the security state, is out of the reach of the mailbox's answers.
-/

namespace Sys2Proof.Machine

/-- The flash and the security state. -/
def State.vault (s : State) := (s.flash, s.sec)

theorem State.vault_calm (s : State) : Calm (fun t => t.vault = s.vault) where
  wr _ _ _ h := h
  speed t e build _ h := (State.writeSpeedTask_keeps (g := State.vault) (fun _ _ _ => rfl) (fun _ _ _ => rfl) t e build).trans h
  other h _ hflash _ _ _ _ _ _ hsec _ _ _ := by
    rw [← h]
    simp only [State.vault, hflash, hsec]

/-! ## Registers, memory and the Weir

By the two components, and not by `rfl` alone: simp would then use them by unfolding, and the kernel would compute the words. -/

@[simp] theorem State.vault_wr (s : State) (a : Nat) (w : Word) : (s.wr a w).vault = s.vault := Prod.ext rfl rfl

@[simp] theorem State.vault_put (s : State) (f : Fld) (v : Nat) : (s.put f v).vault = s.vault := Prod.ext rfl rfl

@[simp] theorem State.vault_inc (s : State) (f : Fld) : (s.inc f).vault = s.vault := Prod.ext rfl rfl

@[simp] theorem State.vault_incMod (s : State) (f : Fld) : (s.incMod f).vault = s.vault := Prod.ext rfl rfl

@[simp] theorem State.vault_irq (s : State) (i : Nat) : (s.irq i).vault = s.vault := s.vault_put _ _

@[simp] theorem State.vault_modChan (s : State) (k : Nat) (f : Chan → Chan) : (s.modChan k f).vault = s.vault := Prod.ext rfl rfl

@[simp] theorem State.vault_modSession (s : State) (k : Nat) (f : Session → Session) : (s.modSession k f).vault = s.vault := Prod.ext rfl rfl

@[simp] theorem State.vault_withNet (s : State) (v : NetState) : (s.withNet v).vault = s.vault := Prod.ext rfl rfl

@[simp] theorem State.vault_withNetOut (s : State) (v : List (List Byte)) : (s.withNetOut v).vault = s.vault := Prod.ext rfl rfl

@[simp] theorem State.vault_draw (s : State) : s.draw.2.vault = s.vault := Prod.ext rfl rfl

@[simp] theorem State.vault_wrBytes (s : State) (a : Nat) (l : List Byte) : (s.wrBytes a l).vault = s.vault :=
  State.wrBytes_keeps (fun _ _ _ => rfl) s a l

@[simp] theorem State.vault_assertEv (s : State) (ev : Nat) : (s.assertEv ev).vault = s.vault :=
  State.assertEv_calm s.vault_calm rfl ev

theorem State.vault_each {α : Type} (s : State) (l : List α) {f : α → State → State} (h : ∀ x t, (f x t).vault = t.vault) :
    (s.each l f).vault = s.vault :=
  State.each_stable (P := fun t => t.vault = s.vault) rfl l fun x t ht => (h x t).trans ht

/-! ## The Reservoir -/

@[simp] theorem State.vault_rsvLow (s : State) (old : Nat) : (s.rsvLow old).vault = s.vault := by
  unfold State.rsvLow
  dsimp only
  split
  · rw [State.vault_assertEv, State.vault_irq]
  · rfl

@[simp] theorem State.vault_setOwner (s : State) (b o : Nat) : (s.setOwner b o).vault = s.vault := by
  unfold State.setOwner
  dsimp only
  rw [State.vault_rsvLow]
  cases ownerClass (s.owner b) <;> cases ownerClass o <;> dsimp only <;>
    simp only [apply_ite State.vault, State.vault_put, ite_self]

theorem State.vault_alloc {s t : State} {o b : Nat} (h : s.alloc o = some (b, t)) : t.vault = s.vault := by
  unfold State.alloc at h
  split at h
  · cases h
  split at h
  · cases h
  split at h
  · split at h
    · cases h
      exact s.vault_setOwner _ _
    · cases h
  · cases h

theorem State.vault_allocN {s t : State} {o n : Nat} {bs : List Nat} (h : s.allocN o n = some (bs, t)) : t.vault = s.vault := by
  induction n generalizing s t bs with
  | zero => cases h; rfl
  | succ n ih =>
    unfold State.allocN at h
    split at h
    · cases h
    next b u hb =>
      split at h
      · cases h
      next bs' v hbs =>
        cases h
        exact (ih hbs).trans (State.vault_alloc hb)

theorem State.vault_frameBufs {s t : State} {o : Nat} {f : List Byte} {bs : List Nat} (h : s.frameBufs o f = some (bs, t)) :
    t.vault = s.vault := by
  unfold State.frameBufs at h
  split at h
  next bs' u hbs =>
    cases h
    exact (State.vault_each u _ fun _ t => t.vault_wrBytes _ _).trans (State.vault_allocN hbs)
  · cases h

@[simp] theorem State.vault_mapSlot (s : State) (i b : Nat) : (s.mapSlot i b).vault = s.vault := by
  rw [State.mapSlot, State.vault_put, State.vault_put]

@[simp] theorem State.vault_unmapSlot (s : State) (i : Nat) : (s.unmapSlot i).vault = s.vault := s.vault_wr _ _

@[simp] theorem State.vault_giveBack (s : State) (k b : Nat) : (s.giveBack k b).vault = s.vault := by
  unfold State.giveBack
  dsimp only
  rw [State.vault_setOwner]
  split
  · rw [State.vault_mapSlot]
  · rfl

/-! ## The switch -/

@[simp] theorem State.vault_learn (s : State) (mac p : Nat) : (s.learn mac p).vault = s.vault := by
  unfold State.learn
  dsimp only
  split
  · rfl
  split
  · rfl
  split <;> rfl

@[simp] theorem State.vault_queueDrop (s : State) (p : Nat) : (s.queueDrop p).vault = s.vault := by
  rw [State.queueDrop, State.vault_assertEv, State.vault_inc]

@[simp] theorem State.vault_forward (s : State) (p : Nat) (f : List Byte) (full : Nat) (inAt : Int) (bufs : List Nat) :
    (s.forward p f full inAt bufs).vault = s.vault := by
  have hpush : ∀ (t : State) x, (t.txPush x).vault = t.vault := fun _ _ => rfl
  unfold State.forward
  dsimp only
  split
  · rfl
  split
  · rfl
  rw [State.vault_each]
  · split
    · rw [State.vault_inc, State.vault_learn]
    · rw [State.vault_learn]
  · intro q t
    rw [apply_ite State.vault, State.vault_queueDrop, hpush, ite_self]

/-! ## Datagrams and responses -/

@[simp] theorem State.vault_sendFrame (s : State) (f : List Byte) : (s.sendFrame f).2.vault = s.vault := by
  unfold State.sendFrame
  split
  · rfl
  split
  · rfl
  next bs t hbs =>
    rw [State.freeSent, State.vault_each _ _ fun _ t => t.vault_setOwner _ _, State.vault_forward, State.vault_frameBufs hbs]

@[simp] theorem State.vault_sendUdp (s : State) (bytes : List Byte) (ip port : Nat) : (s.sendUdp bytes ip port).2.vault = s.vault := by
  unfold State.sendUdp
  dsimp only
  split
  · rw [State.vault_withNetOut, State.vault_sendFrame]
  · rfl

@[simp] theorem State.vault_sendDatagram (s : State) (n k : Nat) (l : List SentRsp) : (s.sendDatagram n k l).2.vault = s.vault := by
  rw [State.sendDatagram, State.vault_sendUdp, State.vault_modSession]

@[simp] theorem State.vault_stage (s : State) (k : Nat) (r : SentRsp) : (s.stage k r).vault = s.vault := by
  unfold State.stage
  dsimp only
  rw [State.vault_modChan, State.vault_each]
  intro b t
  rw [State.vault_setOwner]
  split
  · rw [State.vault_unmapSlot]
  · rfl

@[simp] theorem State.vault_sendRsps (s : State) (k n : Nat) : (State.sendRsps k n s).vault = s.vault := by
  induction n generalizing s with
  | zero => rfl
  | succ n ih =>
    unfold State.sendRsps
    dsimp only
    split
    · split
      · rfl
      split
      · rw [ih, State.vault_each _ _ fun r t => t.vault_stage k r, State.vault_sendDatagram]
      · rfl
    · rfl

@[simp] theorem State.vault_writeResponse (s : State) (k op tag : Nat) (irq : Bool) (r : Reply) :
    (s.writeResponse k op tag irq r).vault = s.vault := by
  simp only [State.writeResponse, apply_ite State.vault, State.vault_modChan, State.vault_put, State.vault_incMod,
    State.vault_wrBytes, ite_self]

@[simp] theorem State.vault_channelError (s : State) (k status detail : Nat) :
    (s.channelError k status detail).vault = s.vault := by
  simp only [State.channelError, State.vault_assertEv, State.vault_irq, apply_ite State.vault, State.vault_inc, State.vault_put, ite_self]

@[simp] theorem State.vault_returnCredit (s : State) (k : Nat) : (s.returnCredit k).vault = s.vault := by
  simp only [State.returnCredit, apply_ite State.vault, State.vault_put, ite_self]

@[simp] theorem State.vault_answer (s : State) (k : Nat) (e : InService) (r : Reply) : (s.answer k e r).vault = s.vault := by
  unfold State.answer
  dsimp only
  split <;> simp only [State.vault_returnCredit, State.vault_writeResponse]

@[simp] theorem State.vault_serve (s : State) (k n : Nat) : (State.serve k n s).vault = s.vault := by
  induction n generalizing s with
  | zero => rfl
  | succ n ih =>
    unfold State.serve
    split
    · rfl
    split
    · rfl
    split
    · rfl
    · rw [ih, State.vault_answer, State.vault_channelError, State.vault_modChan]

/-! ## The end of a command -/

@[simp] theorem State.vault_finish (s : State) (k : Nat) (e : InService) (r : Reply) : (s.finish k e r).vault = s.vault := by
  unfold State.finish
  dsimp only
  have hback : ∀ (c : Bool) b (t : State), (if c then t.giveBack k b else t.setOwner b 0).vault = t.vault := by
    intro c b t
    cases c
    · exact t.vault_setOwner b 0
    · exact t.vault_giveBack k b
  rw [State.vault_answer]
  split <;> split <;> simp only [State.vault_channelError, State.vault_modChan, State.vault_each _ _ (hback _)]

@[simp] theorem State.vault_finishHead (s : State) (k : Nat) (r : Reply) : (s.finishHead k r).vault = s.vault := by
  unfold State.finishHead
  split
  · rfl
  · rw [State.serveAll, State.vault_sendRsps, State.vault_serve, State.vault_finish, State.vault_modChan]

end Sys2Proof.Machine
end

section
/-!
The taking of a command's buffers leaves the memory, the flash and the security state as they were (R277, R278), and UPD_DATA writes
its bytes to the slot (R438).
-/

namespace Sys2Proof.Machine

/-! ## A buffer changes hands -/

/-- The class counts after a buffer of owner `old` goes to `o` (R278). -/
def State.recount (s : State) (old o : Nat) : State :=
  let s := match ownerClass old with
    | some c => s.put (F.MBX_RSVCNT_COUNT c) (s.fld (F.MBX_RSVCNT_COUNT c) - 1)
    | none => s
  match ownerClass o with
    | some c => s.put (F.MBX_RSVCNT_COUNT c) (s.fld (F.MBX_RSVCNT_COUNT c) + 1)
    | none => s

theorem ownerClass_lt {o c : Nat} (h : ownerClass o = some c) : c < 5 := by
  unfold ownerClass at h
  (repeat' split at h) <;> cases h <;> decide

/-- What every write of a register of the Reservoir's counts keeps, the recount keeps. -/
theorem State.recount_keeps {β : Type} {g : State → β} (hg : ∀ t c v, c < 5 → g (State.put t (F.MBX_RSVCNT_COUNT c) v) = g t)
    (s : State) (old o : Nat) : g (s.recount old o) = g s := by
  unfold State.recount
  dsimp only
  split
  next c hc =>
    rw [hg _ _ _ (ownerClass_lt hc)]
    split
    next d hd => exact hg _ _ _ (ownerClass_lt hd)
    next => rfl
  next =>
    split
    next d hd => exact hg _ _ _ (ownerClass_lt hd)
    next => rfl

theorem State.rd_recount {s : State} {a : Nat} (h : ∀ c < 5, a ≠ R.MBX_RSVCNT c) (old o : Nat) : (s.recount old o).rd a = s.rd a :=
  State.recount_keeps (g := fun t => t.rd a) (fun t c v hc => t.rd_put_ne v (h c hc)) s old o

/-- A buffer that goes from one owner to another does not move the count of free buffers, so nothing is signalled. -/
theorem State.setOwner_owned {s : State} {b o : Nat} (hold : s.owner b ≠ 0) (ho : o ≠ 0) :
    s.setOwner b o = (s.recount (s.owner b) o).put (ownerFld b) o := by
  have hfree : ((s.recount (s.owner b) o).put (ownerFld b) o).fld F.MBX_RSVFREE_FREE = s.fld F.MBX_RSVFREE_FREE := by
    rw [State.fld_put_ne]
    · unfold State.fld
      rw [State.rd_recount]
      simp only [F.MBX_RSVFREE_FREE, R.MBX_RSVCNT, R.MBX_RSVFREE]
      omega
    · simp only [F.MBX_RSVFREE_FREE, ownerFld, R.MBX_RSVOWN, R.MBX_RSVFREE]
      omega
  unfold State.setOwner
  dsimp only
  rw [if_neg (by simp [hold]), if_neg (by simp [ho])]
  change State.rsvLow ((s.recount (s.owner b) o).put (ownerFld b) o) _ = _
  rw [State.rsvLow, hfree, if_neg]
  simp only [Bool.and_eq_true, decide_eq_true_eq]
  omega

/-- From `s` to `t` buffers changed hands only: the memory, the flash, the security state and the mode are the same, and no
buffer went free. -/
structure State.Took (s t : State) : Prop where
  vault : t.vault = s.vault
  mem : t.mem = s.mem
  mode : t.rd R.MODE_CUR = s.rd R.MODE_CUR
  owned : ∀ b < 2048, s.owner b ≠ 0 → t.owner b ≠ 0

theorem State.Took.refl (s : State) : s.Took s := ⟨rfl, rfl, rfl, fun _ _ h => h⟩

theorem State.Took.trans {s t u : State} (h : s.Took t) (h' : t.Took u) : s.Took u :=
  ⟨h'.vault.trans h.vault, h'.mem.trans h.mem, h'.mode.trans h.mode, fun b hb hs => h'.owned b hb (h.owned b hb hs)⟩

theorem State.took_modChan (s : State) (k : Nat) (f : Chan → Chan) : s.Took (s.modChan k f) :=
  ⟨s.vault_modChan k f, rfl, rfl, fun _ _ h => h⟩

/-- A write of a register that holds neither the mode nor an owner. -/
theorem State.took_wr (s : State) {a : Nat} (w : Word) (hmode : R.MODE_CUR ≠ a) (howner : ∀ b < 2048, (ownerFld b).addr ≠ a) :
    s.Took (s.wr a w) :=
  ⟨s.vault_wr a w, rfl, s.rd_wr_ne w hmode, fun b hb h => by rwa [State.owner, s.fld_wr_ne w (howner b hb)]⟩

theorem State.took_put_cred (s : State) (k : Fin 16) (v : Nat) : s.Took (s.put (F.MBX_CRED_INFL k) v) := by
  refine s.took_wr _ ?_ fun b hb => ?_
  · simp only [R.MODE_CUR, F.MBX_CRED_INFL, R.MBX_CRED]
    omega
  · simp only [ownerFld, F.MBX_CRED_INFL, R.MBX_CRED, R.MBX_RSVOWN]
    omega

theorem State.took_unmapSlot (s : State) {i : Nat} (hi : i < 128) : s.Took (s.unmapSlot i) := by
  refine s.took_wr _ ?_ fun b hb => ?_
  · simp only [R.MODE_CUR, R.MBX_APMAP]
    omega
  · simp only [ownerFld, R.MBX_APMAP, R.MBX_RSVOWN]
    omega

theorem State.took_setOwner {s : State} {b o : Nat} (hb : b < 2048) (hold : s.owner b ≠ 0) (ho : o % 256 ≠ 0) :
    s.Took (s.setOwner b o) := by
  rw [State.setOwner_owned hold (by omega)]
  have hrecount : s.Took (s.recount (s.owner b) o) := by
    refine ⟨State.recount_keeps (fun _ _ _ _ => State.vault_put ..) .., State.recount_keeps (fun _ _ _ _ => rfl) ..,
      State.rd_recount ?_ .., fun c hc h => ?_⟩
    · simp only [R.MODE_CUR, R.MBX_RSVCNT]
      omega
    · unfold State.owner State.fld at h ⊢
      rwa [State.rd_recount]
      simp only [ownerFld, R.MBX_RSVOWN, R.MBX_RSVCNT]
      omega
  refine hrecount.trans ⟨State.vault_put .., rfl, State.rd_put_ne _ _ ?_, fun c hc h => ?_⟩
  · simp only [R.MODE_CUR, ownerFld, R.MBX_RSVOWN]
    omega
  · by_cases hcb : c = b
    · subst hcb
      rw [State.owner, State.fld_put_same _ _ _ (by simp only [ownerFld]; omega)]
      exact ho
    · rw [State.owner]
      by_cases hword : c / 4 = b / 4
      · rw [State.fld_put_disj _ _ (by simp only [ownerFld]; omega) (by simp only [ownerFld]; omega)]
        exact h
      · rw [State.fld_put_ne _ _ (by simp only [ownerFld, R.MBX_RSVOWN]; omega)]
        exact h

/-! ## Step 8 of a served command -/

/-- A served command's handles are good ones (R271). -/
theorem State.handleOk_of_serves {s : State} {op : Nat} {c : HostCmd} (hs : s.serves op c = true) {h : BitVec 16} (hh : h ∈ c.handles) :
    s.handleOk c.ch.val h = true := by
  unfold State.serves at hs
  rw [Bool.and_eq_true] at hs
  obtain ⟨-, hchecked⟩ := hs
  by_contra hbad
  have hall : c.handles.all (s.handleOk c.ch.val) = false := by
    rw [List.all_eq_false]
    exact ⟨h, hh, hbad⟩
  have hfails : s.checkCommand c.ch.val (s.entry op c) ≠ none := by
    have hentry : (s.entry op c).cmd = c := rfl
    unfold State.checkCommand
    simp only [hentry, hall]
    split
    · simp
    split <;> simp
  exact hfails (Option.isNone_iff_eq_none.mp hchecked)

theorem State.took_takeAttached {s : State} {op : Nat} {c : HostCmd} (hs : s.serves op c = true) {t : State} (ht : s.Took t) :
    s.Took (t.takeAttached c.ch.val c) := by
  have hmin : t.flag F.MODE_CUR_MIN = s.flag F.MODE_CUR_MIN := by
    simp only [State.flag, State.fld, F.MODE_CUR_MIN, ht.mode]
  unfold State.takeAttached
  split
  · exact ht
  next hfull =>
    rw [hmin] at hfull
    refine State.each_mem_stable ht fun h hh u hu => ?_
    have hok := State.handleOk_of_serves hs hh
    simp only [State.handleOk, hfull, Bool.false_eq_true, if_false, Bool.and_eq_true, decide_eq_true_eq, beq_iff_eq] at hok
    obtain ⟨hb, howner⟩ := hok
    have howned : s.owner h.toNat ≠ 0 := by omega
    have hfirm : (0x20 + c.ch.val) % 256 ≠ 0 := by omega
    dsimp only
    split
    next i hi =>
      have hslot : i < 128 := List.mem_range.mp (List.mem_of_find?_eq_some hi)
      have hunmapped := hu.trans (u.took_unmapSlot hslot)
      exact (hunmapped.trans (State.took_setOwner hb (hunmapped.owned _ hb howned) hfirm)).trans (State.took_modChan _ _ _)
    next => exact hu.trans (State.took_setOwner hb (hu.owned _ hb howned) hfirm)

/-- Up to its step 8 a served command has but taken its buffers. -/
theorem State.took_atStep8 {s : State} {op : Nat} {c : HostCmd} (hs : s.serves op c = true) : s.Took (s.atStep8 op c) :=
  State.took_takeAttached hs
    (((s.took_put_cred c.ch _).trans (State.took_modChan _ _ _)).trans (State.took_modChan _ _ _))

/-! ## UPD_DATA -/

/-- The data of UPD_DATA are bytes of memory, found by the mode and the command alone. -/
theorem State.Took.updBytes {s t : State} (h : s.Took t) (c : HostCmd) : t.updBytes c = s.updBytes c := by
  have hrd8 : t.rd8 = s.rd8 := funext fun a => congrArg (SMap.get memDefault · a) h.mem
  have hmin : t.flag F.MODE_CUR_MIN = s.flag F.MODE_CUR_MIN := by simp only [State.flag, State.fld, F.MODE_CUR_MIN, h.mode]
  simp only [State.updBytes, State.attached, State.bufBytes, State.rdBytes, hmin, hrd8]

theorem State.Took.curMode {s t : State} (h : s.Took t) : t.curMode = s.curMode := by
  simp only [State.curMode, State.fld, F.MODE_CUR_MODE, h.mode]

theorem State.sec_wrFlashBytes (s : State) (a : Nat) (l : List Byte) : (s.wrFlashBytes a l).sec = s.sec := by
  induction l generalizing s a with
  | nil => rfl
  | cons b l ih => exact ih (s.wrFlash8 a b) (a + 1)

/-- The flash after bytes are written to it: theirs in order, and the others as they were. -/
theorem State.flash8_wrFlashBytes (s : State) (a c : Nat) (l : List Byte) :
    (s.wrFlashBytes a l).flash8 c = if a ≤ c ∧ c < a + l.length then l.getD (c - a) 0 else s.flash8 c := by
  induction l generalizing s a with
  | nil => rw [if_neg (by simp only [List.length_nil]; omega), State.wrFlashBytes]
  | cons b l ih =>
    rw [State.wrFlashBytes, ih, List.length_cons]
    by_cases hc : c = a
    · subst hc
      rw [if_neg (by omega), if_pos (by omega), Nat.sub_self, List.getD_cons_zero]
      exact SMap.get_set_same flashDefault s.flash c b
    · by_cases hin : a ≤ c ∧ c < a + (l.length + 1)
      · obtain ⟨d, hd⟩ : ∃ d, c - a = d + 1 := ⟨c - a - 1, by omega⟩
        rw [if_pos (by omega), if_pos hin, hd, List.getD_cons_succ, show c - (a + 1) = d by omega]
      · rw [if_neg (by omega), if_neg hin]
        exact SMap.get_set_other flashDefault s.flash b (Ne.symm hc)

/-- The end of a command leaves each byte of the flash. -/
theorem State.flash8_finishHead (s : State) (k : Nat) (r : Reply) (a : Nat) : (s.finishHead k r).flash8 a = s.flash8 a :=
  congrArg (fun v : SMap Byte × SecState => SMap.get flashDefault v.1 a) (s.vault_finishHead k r)

theorem State.flash8_withSec (s : State) (v : SecState) (a : Nat) : (s.withSec v).flash8 a = s.flash8 a := rfl

theorem State.sec_finishHead (s : State) (k : Nat) (r : Reply) : (s.finishHead k r).sec = s.sec :=
  congrArg Prod.snd (s.vault_finishHead k r)

theorem State.Took.flash8 {s t : State} (h : s.Took t) (a : Nat) : t.flash8 a = s.flash8 a :=
  congrArg (fun v : SMap Byte × SecState => SMap.get flashDefault v.1 a) h.vault

theorem State.Took.sec {s t : State} (h : s.Took t) : t.sec = s.sec := congrArg Prod.snd h.vault

/-- Settles O21: what UPD_DATA's step 8 writes to the flash is in reach of neither the taking of its buffers nor its answer. -/
theorem updateDataReachesTheFlash : Obligations.UpdateDataReachesTheFlash := by
  unfold Obligations.UpdateDataReachesTheFlash
  intro c s x hs hmode hupd hoff hbytes hroom
  have htook := State.took_atStep8 hs
  have hexec := exec_updData_transfer hs rfl (htook.sec ▸ hupd) rfl (by simp [State.inModes, htook.curMode, hmode]) hoff
    (htook.updBytes c ▸ hbytes) hroom
  rw [htook.updBytes c] at hexec
  dsimp only at hexec
  have hlength : ((s.updBytes c).take (arg c 4 4)).length = arg c 4 4 := List.length_take_of_le hbytes
  refine ⟨_, hexec, fun j hj => ?_, fun a ha => ?_, ?_, ?_⟩
  · rw [State.flash8_finishHead, State.flash8_withSec, State.flash8_wrFlashBytes, if_pos (by omega), Nat.add_sub_cancel_left,
      List.getD_eq_getElem?_getD, List.getD_eq_getElem?_getD, List.getElem?_take_of_lt hj]
  · rw [State.flash8_finishHead, State.flash8_withSec, State.flash8_wrFlashBytes, if_neg (by omega), htook.flash8]
  · rw [State.sec_finishHead, State.withSec_sec]
  · rw [State.sec_finishHead, State.withSec_sec, State.sec_wrFlashBytes, htook.sec]

end Sys2Proof.Machine
end

section
/-!
Engine instructions as they are performed, at the level of exec.
-/

namespace Sys2Proof.Machine

/-- An instruction's command whose arm issues `body`: performed, its effect is what `body` does past the instruction. -/
theorem exec_of_issue {s : State} {e k path : Nat} {i : Instr} {body : Nat → State → State} {f : State → State}
    (h : s.performs e k path = true) (hi : exec i s = .next (s.issue e path body))
    (hf : body k (s.setBank e k (s.bank e k).next) = f (s.setBank e k (s.bank e k).next)) : exec i s = .next (s.performed e k f) := by
  rw [hi, State.issue_performs h, State.performed_congr hf]

/-- An instruction that acts on its slot's bank alone writes what its operation makes of that bank, past the instruction. -/
theorem State.writesBank_of_onBank {s : State} {e k path : Nat} {i : Instr} {f : Slot → Slot} {b : Slot}
    (h : s.performs e k path = true) (hi : exec i s = .next (s.onBank e path f)) (hb : f (s.bank e k).next = b) :
    s.writesBank i e k b :=
  hb ▸ State.onBank_writes h hi

end Sys2Proof.Machine
end

section
/-!
Engine instructions that act on the registers of their slot alone.
-/

namespace Sys2Proof.Machine

/-- Settles O52: each command acts on its slot's bank alone, by the operation that its clause writes out. -/
theorem engineArithmeticAndFlags : Obligations.EngineArithmeticAndFlags := by
  unfold Obligations.EngineArithmeticAndFlags
  refine ⟨?_, ?_, ?_, ?_, ?_, ?_, ?_, ?_, ?_, ?_⟩
  · rintro e d a z k s b x y r h rfl rfl rfl rfl
    exact State.writesBank_of_onBank h (exec_add e d a z s) rfl
  · rintro e d a z k s b x y r h rfl rfl rfl rfl
    exact State.writesBank_of_onBank h (exec_sub e d a z s) rfl
  · rintro e d a z k s b x y r h rfl rfl rfl rfl
    exact State.writesBank_of_onBank h (exec_and_ e d a z s) rfl
  · rintro e d a z k s b x y r h rfl rfl rfl rfl
    exact State.writesBank_of_onBank h (exec_or_ e d a z s) rfl
  · rintro e d a z k s b x y r h rfl rfl rfl rfl
    exact State.writesBank_of_onBank h (exec_xor_ e d a z s) rfl
  · rintro e a z k s b x y r h rfl rfl rfl rfl
    exact State.writesBank_of_onBank h (exec_cmp e a z s) rfl
  · rintro e d a z k s b h rfl
    exact State.writesBank_of_onBank h (exec_adds e d a z s) rfl
  · rintro e d a z k s b h rfl
    exact State.writesBank_of_onBank h (exec_subs e d a z s) rfl
  · rintro e d a k s b h rfl
    exact State.writesBank_of_onBank h (exec_abs_ e d a s) rfl
  · rintro e d a k s b h rfl
    exact State.writesBank_of_onBank h (exec_neg_ e d a s) rfl

/-- A shift by a register's value, as one choice. -/
theorem Slot.shiftOp_reg (b : Slot) (op : Nat) (f : Word → Nat → Word) (x : Word) (v : Fin 16) :
    b.shiftOp op f x (.reg v) = if (b.xr v).toNat ≤ 31 then f x (b.xr v).toNat else Config.shiftResult op x (b.xr v) := by
  simp only [Slot.shiftOp, decide_eq_true_eq]

/-- RSQ of a positive operand. -/
theorem exec_rsq_positive {e d a : Fin 16} {k : Nat} {s : State} (h : s.performs e k pathBoth = true)
    (hpos : 0 < ((s.bank e k).next.xr a).toInt) :
    s.writesBank (.rsq e d a) e k ((s.bank e k).next.setX d (rsq ((s.bank e k).next.xr a))) :=
  State.writesBank_of_onBank h (exec_rsq e d a s) (if_neg (by simpa using hpos))

/-- Settles O53: all but RDSR act on their slot's bank alone; where a clause splits a command by an operand, its condition picks
the branch of the operation. -/
theorem engineMovesShiftsProducts : Obligations.EngineMovesShiftsProducts := by
  unfold Obligations.EngineMovesShiftsProducts
  refine ⟨?_, ?_, ?_, ?_, ?_, ?_, ?_, ?_, ?_, ?_, ?_, ?_, ?_, ?_, ?_, ?_, ?_, ?_, ?_, ?_⟩
  · rintro e d a k s b h rfl
    exact State.writesBank_of_onBank h (exec_mov e d a s) rfl
  · rintro e d i k s b h rfl
    exact State.writesBank_of_onBank h (exec_movi e d i s) rfl
  · rintro e d i k s b h rfl
    exact State.writesBank_of_onBank h (exec_movhi e d i s) rfl
  · rintro e d a n k s b h rfl
    exact State.writesBank_of_onBank h (exec_shl e d a (.imm n) s) rfl
  · rintro e d a v k s b j h rfl rfl
    exact State.writesBank_of_onBank h (exec_shl e d a (.reg v) s) (by rw [Slot.shiftOp_reg])
  · rintro e d a n k s b h rfl
    exact State.writesBank_of_onBank h (exec_shr e d a (.imm n) s) rfl
  · rintro e d a v k s b j h rfl rfl
    exact State.writesBank_of_onBank h (exec_shr e d a (.reg v) s) (by rw [Slot.shiftOp_reg])
  · rintro e d a n k s b h rfl
    exact State.writesBank_of_onBank h (exec_sra e d a (.imm n) s) rfl
  · rintro e d a v k s b j h rfl rfl
    exact State.writesBank_of_onBank h (exec_sra e d a (.reg v) s) (by rw [Slot.shiftOp_reg])
  · rintro e d a z k s b h rfl
    exact State.writesBank_of_onBank h (exec_min_ e d a z s) (by simp only [BitVec.sle_iff_toInt_le])
  · rintro e d a z k s b h rfl
    exact State.writesBank_of_onBank h (exec_max_ e d a z s) (by simp only [BitVec.sle_iff_toInt_le])
  · rintro e d a z k s b h rfl
    exact State.writesBank_of_onBank h (exec_mul e d a z s) rfl
  · rintro e d a z k s b h rfl hz
    exact State.writesBank_of_onBank h (exec_divq e d a z s) (by simp only [divq, if_neg hz])
  · rintro e d a z k s b h rfl hz
    exact State.writesBank_of_onBank h (exec_divq e d a z s) (by simp only [divq, if_pos hz])
  · rintro e d a k s b h rfl
    exact State.writesBank_of_onBank h (exec_sincos e d a s) rfl
  · rintro e d a k s b h rfl hpos
    exact exec_rsq_positive h hpos
  · rintro e d a k s b h rfl hneg
    exact State.writesBank_of_onBank h (exec_rsq e d a s) (if_pos (decide_eq_true hneg))
  · rintro e d k s b h rfl
    rw [exec_rdsr, execRdsr, State.issue_performs h]
    refine congrArg Host.Outcome.next (State.performed_congr ?_)
    rw [State.srWord, State.bank_setBank_same]
    rfl
  · rintro e a k s b h rfl
    exact State.writesBank_of_onBank h (exec_wrsr e a s) rfl
  · rintro e k s b h rfl
    exact State.writesBank_of_onBank h (exec_nop e s) rfl

end Sys2Proof.Machine
end

section
/-!
The two datapaths: accumulators, lanes and moves, as performed instructions.
-/

namespace Sys2Proof.Machine

/-- The exact values `v` saturated into the accumulators listed. -/
def Slot.setAccs (b : Slot) (l : List Nat) (v : Nat → Int) : Slot := l.foldl (fun c j => c.setAcc j (satS 40 (v j))) b

/-- What an instruction of the run datapath gives its accumulators, with the bank past the instruction. -/
theorem exec_of_accOp {s : State} {e k : Nat} {i : Instr} {l : List Nat} {f : Slot → Nat → Int} {v : Nat → Int}
    (h : s.performs e k pathRun = true) (hi : exec i s = .next (s.accOp e l f)) (hv : f (s.bank e k).next = v) :
    exec i s = .next (s.performed e k (fun t => (t.setBank e k ((s.bank e k).next.setAccs l v)).noteAccsat e
      (l.any (fun j => satS 40 (v j) != v j)))) := by
  subst hv
  refine exec_of_issue h hi ?_
  rw [State.bank_setBank_same]
  rfl

theorem exec_of_accOp_single {s : State} {e k j : Nat} {i : Instr} {f : Slot → Nat → Int} {v : Int}
    (h : s.performs e k pathRun = true) (hi : exec i s = .next (s.accOp e [j] f)) (hv : f (s.bank e k).next j = v) :
    exec i s = .next (s.performed e k (fun t => (t.setBank e k ((s.bank e k).next.setAcc j (satS 40 v))).noteAccsat e
      (satS 40 v != v))) := by
  subst hv
  rw [exec_of_accOp h hi rfl]
  simp only [Slot.setAccs, List.foldl_cons, List.foldl_nil, List.any_cons, List.any_nil, Bool.or_false]

theorem exec_of_paccOp {s : State} {e k j : Nat} {i : Instr} {f : Slot → Int} {v : Int}
    (h : s.performs e k pathPrecise = true) (hi : exec i s = .next (s.paccOp e j f)) (hv : f (s.bank e k).next = v) :
    exec i s = .next (s.performed e k (fun t => (t.setBank e k ((s.bank e k).next.setPacc j (satS 56 v))).noteAccsat e
      (satS 56 v != v))) := by
  subst hv
  refine exec_of_issue h hi ?_
  rw [State.bank_setBank_same]
  rfl

theorem exec_of_laneOp {s : State} {e k d : Nat} {i : Instr} {f : Slot → Nat → Int} {v : Nat → Int}
    (h : s.performs e k pathRun = true) (hi : exec i s = .next (s.laneOp e d f)) (hv : f (s.bank e k).next = v) :
    exec i s = .next (s.performed e k (fun t => (t.setBank e k ((s.bank e k).next.setPair d (packLanes (fun j => satS 16 (v j))))).noteSatm
      e k (laneList.any (fun j => satS 16 (v j) != v j)))) := by
  subst hv
  refine exec_of_issue h hi ?_
  rw [State.bank_setBank_same]

/-- A move scales by what the task's registers or its own operand say; the bank has no part in that. -/
theorem exec_of_moveAcc {s : State} {e k path d w : Nat} {i : Instr} {f : Slot → Int} {sh : State → Nat → Int} {v : Int}
    (h : s.performs e k path = true) (hi : exec i s = .next (s.moveAcc e path d w f sh))
    (hv : scaleRound (f (s.bank e k).next) (sh (s.setBank e k (s.bank e k).next) k) = v) :
    exec i s = .next (s.performed e k (fun t => (t.setBank e k ((s.bank e k).next.setX d (BitVec.ofInt 32 (satS w v)))).noteSatm e k
      (satS w v != v))) := by
  subst hv
  refine exec_of_issue h hi ?_
  rw [State.bank_setBank_same]

theorem exec_vmva_performs {s : State} {e : Fin 16} {k : Nat} {d : Fin 8} {v : Nat → Int} (h : s.performs e k pathRun = true)
    (hv : (fun j => scaleRound ((s.bank e k).next.acc j).toInt (s.scale e k - 15)) = v) :
    exec (.vmva e d) s = .next (s.performed e k (fun t => (t.setBank e k ((s.bank e k).next.setPair d (packLanes (fun j => satS 16 (v j))))).noteSatm
      e k (laneList.any (fun j => satS 16 (v j) != v j)))) := by
  subst hv
  refine exec_of_issue h (exec_vmva e d s) ?_
  rw [State.bank_setBank_same]
  rfl

/-- Settles O54: each command is one of the run datapath's four operations, with the exact values that its clause names. -/
theorem engineRunDatapath : Obligations.EngineRunDatapath := by
  unfold Obligations.EngineRunDatapath
  refine ⟨?_, ?_, ?_, ?_, ?_, ?_, ?_, ?_, ?_, ?_, ?_, ?_, ?_⟩
  · rintro e k s b v h rfl rfl
    exact exec_of_accOp h (exec_vclr e s) rfl
  · rintro e f g k s b v h rfl rfl
    exact exec_of_accOp h (exec_vmul e f g s) rfl
  · rintro e f g k s b v h rfl rfl
    exact exec_of_accOp h (exec_vmac e f g s) rfl
  · rintro e f g k s b v h rfl rfl
    exact exec_of_accOp h (exec_vmsu e f g s) rfl
  · rintro e f g k s b v h rfl rfl
    exact exec_of_accOp h (exec_vmacx e f g s) rfl
  · rintro e j a ah z zh k s b v h rfl rfl
    exact exec_of_accOp_single h (exec_macl e j a ah z zh s) rfl
  · rintro e k s b v h rfl rfl
    exact exec_of_accOp_single h (exec_vsum e s) rfl
  · rintro e d f g k s b v h rfl rfl
    exact exec_of_laneOp h (exec_vadd e d f g s) rfl
  · rintro e d f g k s b v h rfl rfl
    exact exec_of_laneOp h (exec_vsub e d f g s) rfl
  · rintro e d f k s b v h rfl rfl
    exact exec_of_laneOp h (exec_vabs e d f s) rfl
  · rintro e d j k s b v h rfl rfl
    exact exec_of_moveAcc h (exec_mva e d j s) rfl
  · rintro e d j n k s b v h rfl rfl
    exact exec_of_moveAcc h (exec_mvas e d j n s) rfl
  · rintro e d k s b v h rfl rfl
    exact exec_vmva_performs h rfl

/-- Settles O55: each command is an accumulator operation or a move of the precise datapath. -/
theorem enginePreciseDatapath : Obligations.EnginePreciseDatapath := by
  unfold Obligations.EnginePreciseDatapath
  refine ⟨?_, ?_, ?_, ?_, ?_, ?_, ?_, ?_⟩
  · rintro e j k s b v h rfl rfl
    exact exec_of_paccOp h (exec_pclr e j s) rfl
  · rintro e j a z k s b v h rfl rfl
    exact exec_of_paccOp h (exec_pmul e j a z s) rfl
  · rintro e j a z k s b v h rfl rfl
    exact exec_of_paccOp h (exec_pmac e j a z s) rfl
  · rintro e j a z k s b v h rfl rfl
    exact exec_of_paccOp h (exec_pmsu e j a z s) rfl
  · rintro e k s b v h rfl rfl
    exact exec_of_paccOp h (exec_padd e s) rfl
  · rintro e j n k s b v h rfl rfl
    exact exec_of_paccOp h (exec_psha e j n s) rfl
  · rintro e d j k s b v h rfl rfl
    exact exec_of_moveAcc h (exec_pmve e d j s) rfl
  · rintro e d j n k s b v h rfl rfl
    exact exec_of_moveAcc h (exec_pmves e d j n s) rfl

end Sys2Proof.Machine
end

section
/-!
Loads and stores of an engine, and its second posted lane.
-/

namespace Sys2Proof.Machine

/-! ## Loads -/

/-- A load of bytes that the task may not read. -/
theorem exec_of_load_denied {s : State} {e k d size ecc : Nat} {m : Addr} {i : Instr} (h : s.performs e k pathBoth = true)
    (hi : exec i s = .next (s.load e d size m ecc))
    (hdenied : ((s.bank e k).next.bytesOf m size).any (fun a => !s.mayAccess e k false a) = true) :
    exec i s = .next (s.performed e k (fun t =>
      (t.setBank e k (((s.bank e k).next.postModify m).setLoaded d size [])).rightsError e)) := by
  refine exec_of_issue h hi ?_
  rw [State.bank_setBank_same]
  exact if_pos hdenied

/-- A load of data memory, with what it meets there. -/
theorem exec_of_load_local {s : State} {e k d size ecc : Nat} {m : Addr} {i : Instr} {l : List Nat} {x : Nat}
    (h : s.performs e k pathBoth = true) (hi : exec i s = .next (s.load e d size m ecc)) (hl : l = (s.bank e k).next.bytesOf m size)
    (hmay : l.any (fun a => !s.mayAccess e k false a) = false) (hlocal : l.all dataMemory = true) (hx : x = s.eccAt l ecc) :
    exec i s = .next (s.performed e k (fun t => ((t.markLoad l x).setBank e k
      (((s.bank e k).next.postModify m).setLoaded d size (if x = 2 then [] else l.map (fun a => s.rd8 a)))).dataError e x)) := by
  subst hl hx
  refine exec_of_issue h hi ?_
  rw [State.bank_setBank_same]
  exact (if_neg (Bool.eq_false_iff.mp hmay)).trans (if_pos hlocal)

/-- A load from another island stalls the engine. -/
theorem exec_of_load_remote {s : State} {e k d size ecc : Nat} {m : Addr} {i : Instr} {l : List Nat}
    (h : s.performs e k pathBoth = true) (hi : exec i s = .next (s.load e d size m ecc)) (hl : l = (s.bank e k).next.bytesOf m size)
    (hmay : l.any (fun a => !s.mayAccess e k false a) = false) (hlocal : l.all dataMemory = false) :
    exec i s = .next (s.performed e k (fun t => ((t.setBank e k ((s.bank e k).next.postModify m)).modEngine e
      (fun x => { x with stall := .load d size l (ecc != 0) })).issueTag e)) := by
  subst hl
  refine exec_of_issue h hi ?_
  rw [State.bank_setBank_same]
  exact (if_neg (Bool.eq_false_iff.mp hmay)).trans (if_neg (Bool.eq_false_iff.mp hlocal))

/-- Settles O56: a load is denied, local or remote, by its bytes; a remote load ends in the branch that its island's reset picks. -/
theorem engineLoads : Obligations.EngineLoads := by
  unfold Obligations.EngineLoads
  refine ⟨?_, ?_, ?_, ?_, ?_, ?_, ?_, ?_, ?_, ?_, ?_⟩
  · rintro e d m ecc k s b l h rfl rfl hdenied
    exact exec_of_load_denied h (exec_ld e d m ecc s) hdenied
  · rintro e d m ecc k s b l x h rfl hl hmay hlocal hx
    exact exec_of_load_local h (exec_ld e d m ecc s) hl hmay hlocal hx
  · rintro e d m ecc k s b l h rfl hl hmay hlocal
    exact exec_of_load_remote h (exec_ld e d m ecc s) hl hmay hlocal
  · rintro e d m ecc k s b l h rfl rfl hdenied
    exact exec_of_load_denied h (exec_ldh e d m ecc s) hdenied
  · rintro e d m ecc k s b l x h rfl hl hmay hlocal hx
    exact exec_of_load_local h (exec_ldh e d m ecc s) hl hmay hlocal hx
  · rintro e d m ecc k s b l h rfl hl hmay hlocal
    exact exec_of_load_remote h (exec_ldh e d m ecc s) hl hmay hlocal
  · rintro e d m ecc k s b l h rfl rfl hdenied
    exact exec_of_load_denied h (exec_ldv e d m ecc s) hdenied
  · rintro e d m ecc k s b l x h rfl hl hmay hlocal hx
    exact exec_of_load_local h (exec_ldv e d m ecc s) hl hmay hlocal hx
  · rintro e d m ecc k s b l h rfl hl hmay hlocal
    exact exec_of_load_remote h (exec_ldv e d m ecc s) hl hmay hlocal
  · rintro e adv cnt s t u v w d size k l bad hrun hstall rfl rfl rfl hup rfl rfl
    rw [exec_remoteLoadReturn, execRemoteLoadReturn, if_neg (by simp [hrun])]
    simp only [hstall]
    exact congrArg Host.Outcome.next (if_neg (Bool.eq_false_iff.mp hup))
  · rintro e adv cnt s t u d size k l bad hrun hstall rfl rfl rfl hdown
    rw [exec_remoteLoadReturn, execRemoteLoadReturn, if_neg (by simp [hrun])]
    simp only [hstall]
    exact congrArg Host.Outcome.next (if_pos hdown)

/-! ## Stores -/

/-- The bytes of a store with their addresses. -/
def Slot.stored (b : Slot) (m : Addr) (bs : List Byte) : List (Nat × Byte) := (b.bytesOf m bs.length).zip bs

/-- A byte that a store of CE_e reaches at once: its own data memory or the TIMEBASE lane (R71). -/
def firstLane (e : Nat) (x : Nat × Byte) : Bool := ownData e x.1 || decide (0x40000000 ≤ x.1 ∧ x.1 < 0x40020000)

/-- What a store of CE_e performed for slot `k` in state `s` does with its bytes, once the pointer is modified. -/
def State.storeBytes (s : State) (e k : Nat) (l : List (Nat × Byte)) (t : State) : State :=
  if l.any (fun x => !s.mayAccess e k true x.1) then t.rightsError e
  else if l.all (firstLane e) then t.arrive l
  else if (s.engine e).lane.length < 8 then t.modEngine e (fun x => { x with lane := x.lane ++ [⟨l⟩] })
  else t.modEngine e (fun x => { x with stall := .store ⟨l⟩ })

theorem exec_of_store {s : State} {e k : Nat} {m : Addr} {bytes : Slot → List Byte} {i : Instr} {l : List (Nat × Byte)}
    (h : s.performs e k pathBoth = true) (hi : exec i s = .next (s.store e m bytes))
    (hl : l = (s.bank e k).next.stored m (bytes (s.bank e k).next)) :
    exec i s = .next (s.performed e k (fun t => s.storeBytes e k l (t.setBank e k ((s.bank e k).next.postModify m)))) := by
  subst hl
  refine exec_of_issue h hi ?_
  rw [State.bank_setBank_same]
  simp only [State.storeBytes, Slot.stored, decide_eq_true_eq]
  rfl

section
variable {s : State} {e k : Nat} {l : List (Nat × Byte)}

theorem State.storeBytes_denied (hdenied : l.any (fun x => !s.mayAccess e k true x.1) = true) :
    s.storeBytes e k l = fun t => t.rightsError e :=
  funext fun _ => if_pos hdenied

variable (hmay : l.any (fun x => !s.mayAccess e k true x.1) = false)
include hmay

theorem State.storeBytes_atOnce (hlane : l.all (firstLane e) = true) : s.storeBytes e k l = fun t => t.arrive l :=
  funext fun t => by rw [State.storeBytes, hmay, hlane]; rfl

theorem State.storeBytes_posted (hlane : l.all (firstLane e) = false) (hroom : (s.engine e).lane.length < 8) :
    s.storeBytes e k l = fun t => t.modEngine e (fun x => { x with lane := x.lane ++ [⟨l⟩] }) :=
  funext fun t => by rw [State.storeBytes, hmay, hlane, if_pos hroom]; rfl

theorem State.storeBytes_stalled (hlane : l.all (firstLane e) = false) (hfull : 8 ≤ (s.engine e).lane.length) :
    s.storeBytes e k l = fun t => t.modEngine e (fun x => { x with stall := .store ⟨l⟩ }) :=
  funext fun t => by rw [State.storeBytes, hmay, hlane, if_neg (Nat.not_lt.mpr hfull)]; rfl

end

/-- Settles O57: a store is denied, arrives at once, is posted or stalls, by its bytes and the room in the second lane. -/
theorem engineStores : Obligations.EngineStores := by
  unfold Obligations.EngineStores
  refine ⟨?_, ?_, ?_, ?_, ?_, ?_, ?_, ?_, ?_, ?_, ?_, ?_, ?_, ?_⟩
  · rintro e a m k s b l h rfl hl hdenied
    rw [exec_of_store h (exec_st e a m s) hl, State.storeBytes_denied hdenied]
  · rintro e a m k s b l h rfl hl hmay hlane
    rw [exec_of_store h (exec_st e a m s) hl, State.storeBytes_atOnce hmay hlane]
  · rintro e a m k s b l h rfl hl hmay hlane hroom
    rw [exec_of_store h (exec_st e a m s) hl, State.storeBytes_posted hmay hlane hroom]
  · rintro e a m k s b l h rfl hl hmay hlane hfull
    rw [exec_of_store h (exec_st e a m s) hl, State.storeBytes_stalled hmay hlane hfull]
  · rintro e a m k s b l h rfl hl hdenied
    rw [exec_of_store h (exec_sth e a m s) hl, State.storeBytes_denied hdenied]
  · rintro e a m k s b l h rfl hl hmay hlane
    rw [exec_of_store h (exec_sth e a m s) hl, State.storeBytes_atOnce hmay hlane]
  · rintro e a m k s b l h rfl hl hmay hlane hroom
    rw [exec_of_store h (exec_sth e a m s) hl, State.storeBytes_posted hmay hlane hroom]
  · rintro e a m k s b l h rfl hl hmay hlane hfull
    rw [exec_of_store h (exec_sth e a m s) hl, State.storeBytes_stalled hmay hlane hfull]
  · rintro e a m k s b l h rfl hl hdenied
    rw [exec_of_store h (exec_stv e a m s) hl, State.storeBytes_denied hdenied]
  · rintro e a m k s b l h rfl hl hmay hlane
    rw [exec_of_store h (exec_stv e a m s) hl, State.storeBytes_atOnce hmay hlane]
  · rintro e a m k s b l h rfl hl hmay hlane hroom
    rw [exec_of_store h (exec_stv e a m s) hl, State.storeBytes_posted hmay hlane hroom]
  · rintro e a m k s b l h rfl hl hmay hlane hfull
    rw [exec_of_store h (exec_stv e a m s) hl, State.storeBytes_stalled hmay hlane hfull]
  · intro e s p l hrun hlane
    rw [exec_postedLaneRoom, execPostedLaneRoom, if_neg (by simp [hrun])]
    simp only [hlane] <;> rfl
  · intro e s hrun hlane
    rw [exec_postedLaneRoom, execPostedLaneRoom, if_neg (by simp [hrun])]
    simp only [hlane]

end Sys2Proof.Machine
end

section
/-!
Circular pointers, input slots, scans and control flow of the engines.
-/

namespace Sys2Proof.Machine

/-! ## Scans -/

/-- What a scan performed for slot `k` of CE_e does past the instruction, where the slot's bank is `b`. -/
def State.scanned (s : State) (b : Slot) (e k d i p n ecc at_ stop : Nat) (better : Int → Int → Bool) : State :=
  let first := match b.scan with | some x => x.1 | none => 0
  let last := if stop = 0 then n else Nat.min n (first + 4 * stop)
  let hit := decide (first ≤ at_ ∧ at_ < last) && s.elementOk e k p at_ && (b.elementAt p at_).all dataMemory
  let t := s.draw.2
  let l := (List.range (last - first)).map
    (fun j => t.elementValue e k p (s.draw.1 % 2 ^ 18) (first + j) (hit && first + j == at_ && ecc == 2))
  let r := firstBest better l first (match b.scan with | some x => x.2 | none => (l.headD 0, first))
  let ok := (List.range (last - first)).all (fun j => t.elementOk e k p (first + j))
  let t := t.setBank e k (if decide (last < n) then { b with pc := b.pc - 4, scan := some (last, r) }
    else { (b.setX d (BitVec.ofInt 32 r.1)).setX i (BitVec.ofNat 32 r.2) with scan := none })
  let t := if ok then t else t.rightsError e
  let met := (List.range (last - first)).any (fun j =>
    t.elementOk e k p (first + j) && (b.elementAt p (first + j)).all dataMemory && (b.elementAt p (first + j)).any t.badAt)
  let t := if hit then t.markLoad (b.elementAt p at_) ecc else t
  if met then t.dataError e 2 else if hit then t.dataError e ecc else t

section
variable {s : State} {e k d i p n ecc at_ stop : Nat} {better : Int → Int → Bool}

theorem State.scan_performs (h : s.performs e k pathBoth = true) (hn : 1 ≤ n ∧ n ≤ 4096) :
    s.scan e d i p n ecc at_ stop better =
      s.performed e k (fun t => t.scanned (s.bank e k).next e k d i p n ecc at_ stop better) := by
  rw [State.scan, State.issue_performs h]
  refine State.performed_congr ?_
  rw [if_neg (by simp [hn]), State.bank_setBank_same]
  rfl

theorem State.scan_undefined (h : s.performs e k pathBoth = true) (hn : n = 0 ∨ 4096 < n) :
    s.scan e d i p n ecc at_ stop better = s.performed e k (fun t => t.illegal e k) := by
  rw [State.scan, State.issue_performs h]
  exact State.performed_congr (if_pos (by simp; omega))

end

section
variable {e : Fin 16} {p : Fin 8} {z y : Fin 16} {k : Nat} {s : State} (h : s.performs e k pathBoth = true)
include h

/-- SETC of an odd length (R57). -/
theorem exec_setc_odd (hodd : ((s.bank e k).next.xr y).toNat % 2 = 1) : exec (.setc e p z y) s = .next (s.performed e k (fun t =>
    t.setBank e k (((s.bank e k).next.setCirc p ((s.bank e k).next.xr z) 0).setFlag bitV true))) := by
  refine exec_of_issue h (exec_setc e p z y s) ?_
  rw [State.bank_setBank_same]
  exact if_pos hodd

/-- SETC of an even length that a pointer can have. -/
theorem exec_setc_even (heven : ((s.bank e k).next.xr y).toNat % 2 = 0) (htop : ((s.bank e k).next.xr y).toNat ≤ 65534) :
    exec (.setc e p z y) s = .next (s.performed e k (fun t =>
      t.setBank e k ((s.bank e k).next.setCirc p ((s.bank e k).next.xr z) ((s.bank e k).next.xr y).toNat))) := by
  refine exec_of_issue h (exec_setc e p z y s) ?_
  rw [State.bank_setBank_same]
  exact (if_neg (by omega)).trans (if_pos (decide_eq_true htop))

end

/-- Settles O58: each clause's conditions pick the branch of its command's body. -/
theorem enginePointersSlotsScans : Obligations.EnginePointersSlotsScans := by
  unfold Obligations.EnginePointersSlotsScans
  refine ⟨?_, ?_, ?_, ?_, ?_, ?_, ?_, ?_, ?_, ?_, ?_, ?_⟩
  · rintro e p z y k s b n h rfl rfl hodd
    exact exec_setc_odd h hodd
  · rintro e p z y k s b n h rfl rfl heven htop
    exact exec_setc_even h heven htop
  · rintro e p z y k s b n h rfl rfl heven htop
    refine exec_of_issue h (exec_setc e p z y s) ?_
    rw [State.bank_setBank_same]
    exact (if_neg (by omega)).trans (if_neg (by simpa using htop))
  · rintro e p i k s b h rfl
    exact State.writesBank_of_onBank h (exec_addp e p i s) rfl
  · rintro e d i k s b h rfl
    refine exec_of_issue h (exec_ldin e d i s) ?_
    rw [State.bank_setBank_same]
    rfl
  · rintro e x y k s b h rfl hvalid
    refine exec_of_issue h (exec_waitv e x y s) ?_
    rw [State.bank_setBank_same]
    exact if_pos hvalid
  · rintro e x y k s b h rfl hinvalid
    refine exec_of_issue h (exec_waitv e x y s) ?_
    rw [State.bank_setBank_same]
    exact if_neg (Bool.eq_false_iff.mp hinvalid)
  · rintro e j a k s b h rfl
    refine exec_of_issue h (exec_probe e j a s) ?_
    rw [State.bank_setBank_same]
  · rintro e d i p n ecc f k s w v b j0 j1 hit cnt l r ok x met h rfl hn rfl rfl rfl rfl hdraw rfl rfl rfl rfl rfl
    cases hdraw
    rw [exec_maxi, execMaxi, State.scan_performs h hn]
    exact congrArg Host.Outcome.next (State.performed_congr rfl)
  · rintro e d i p n ecc f k s b h rfl hn
    rw [exec_maxi, execMaxi, State.scan_undefined h hn]
  · rintro e d i p n ecc f k s w v b j0 j1 hit cnt l r ok x met h rfl hn rfl rfl rfl rfl hdraw rfl rfl rfl rfl rfl
    cases hdraw
    rw [exec_mini, execMini, State.scan_performs h hn]
    exact congrArg Host.Outcome.next (State.performed_congr rfl)
  · rintro e d i p n ecc f k s b h rfl hn
    rw [exec_mini, execMini, State.scan_undefined h hn]

/-! ## Control flow -/

section
variable {e : Fin 16} {k : Nat} {s : State} (h : s.performs e k pathBoth = true)
include h

theorem exec_call_full {x : BitVec 17} (hfull : 8 ≤ (s.bank e k).ret.length) :
    exec (.call_ e x) s = .next (s.performed e k (fun t => t.stackError e k)) := by
  refine exec_of_issue h (exec_call_ e x s) ?_
  rw [State.bank_setBank_same]
  exact if_neg (by rw [decide_eq_true_eq]; exact Nat.not_lt.mpr hfull)

theorem exec_ret_empty (hempty : (s.bank e k).ret = []) :
    exec (.ret_ e) s = .next (s.performed e k (fun t => t.stackError e k)) := by
  refine exec_of_issue h (exec_ret_ e s) ?_
  rw [State.bank_setBank_same]
  simp only [Slot.next, hempty]

theorem exec_loop_zero {x : BitVec 17} : exec (.loop_ e (.imm 0) x) s = .next (s.performed e k (fun t => t.illegal e k)) := by
  refine exec_of_issue h (exec_loop_ e (.imm 0) x s) ?_
  exact if_pos rfl

theorem exec_loop_full {n : Passes} {x : BitVec 17} (hdefined : n ≠ .imm 0) (hfull : 2 ≤ (s.bank e k).loops.length) :
    exec (.loop_ e n x) s = .next (s.performed e k (fun t => t.stackError e k)) := by
  refine exec_of_issue h (exec_loop_ e n x s) ?_
  rw [State.bank_setBank_same]
  exact (if_neg (by simpa using hdefined)).trans (if_pos (decide_eq_true hfull))

end

/-- Settles O59: each clause's conditions pick the branch of its command's body. -/
theorem engineControlFlow : Obligations.EngineControlFlow := by
  unfold Obligations.EngineControlFlow
  refine ⟨?_, ?_, ?_, ?_, ?_, ?_, ?_, ?_, ?_, ?_, ?_, ?_⟩
  · rintro e x k s b h rfl
    exact State.writesBank_of_onBank h (exec_br e x s) rfl
  · rintro e c x k s b h rfl
    exact State.writesBank_of_onBank h (exec_bcc e c x s) rfl
  · rintro e x k s b h rfl hroom
    refine exec_of_issue h (exec_call_ e x s) ?_
    rw [State.bank_setBank_same]
    exact if_pos (decide_eq_true hroom)
  · rintro e x k s b h rfl hfull
    exact exec_call_full h hfull
  · rintro e k s b a r h rfl hret
    refine exec_of_issue h (exec_ret_ e s) ?_
    rw [State.bank_setBank_same]
    simp only [hret]
  · rintro e k s b h rfl hempty
    exact exec_ret_empty h hempty
  · rintro e n x k s b c h rfl rfl hdefined hroom hpasses
    refine exec_of_issue h (exec_loop_ e n x s) ?_
    rw [State.bank_setBank_same]
    exact (if_neg (by simpa using hdefined)).trans ((if_neg (by simpa using hroom)).trans (if_pos (decide_eq_true hpasses)))
  · rintro e n x k s b h rfl rfl
    exact exec_loop_zero h
  · rintro e n x k s b h rfl hdefined hfull
    exact exec_loop_full h hdefined hfull
  · rintro e n x k s b r h rfl rfl hroom hpasses
    refine exec_of_issue h (exec_loop_ e (.reg r) x s) ?_
    rw [State.bank_setBank_same]
    exact (if_neg (by simp)).trans ((if_neg (by simpa using hroom)).trans (if_neg (by simp; omega)))
  · rintro e k s b h rfl
    exact exec_of_issue h (exec_end_ e s) rfl
  · rintro e k s b h rfl
    exact exec_of_issue h (exec_illegalInstruction e s) rfl

end Sys2Proof.Machine
end

section
/-!
What the registers of a slot's bank read after each update, and what the end of a performed instruction leaves of them.
-/

namespace Sys2Proof.Machine

/-! ## The bank after an update -/

@[simp] theorem Slot.xr_setX_same (b : Slot) (r : Nat) (v : Word) : (b.setX r v).xr r = v := SMap.get_set_same _ _ _ _

theorem Slot.xr_setX_ne (b : Slot) {r j : Nat} (v : Word) (h : j ≠ r) : (b.setX r v).xr j = b.xr j :=
  SMap.get_set_other _ _ _ (Ne.symm h)

@[simp] theorem Slot.ptr_setPtr_same (b : Slot) (p : Nat) (v : Word) : (b.setPtr p v).ptr p = v := SMap.get_set_same _ _ _ _

theorem Slot.ptr_setPtr_ne (b : Slot) {p j : Nat} (v : Word) (h : j ≠ p) : (b.setPtr p v).ptr j = b.ptr j :=
  SMap.get_set_other _ _ _ (Ne.symm h)

@[simp] theorem Slot.acc_setAcc_same (b : Slot) (j : Nat) (v : Int) : (b.setAcc j v).acc j = BitVec.ofInt 40 v :=
  SMap.get_set_same _ _ _ _

theorem Slot.acc_setAcc_ne (b : Slot) {j m : Nat} (v : Int) (h : m ≠ j) : (b.setAcc j v).acc m = b.acc m :=
  SMap.get_set_other _ _ _ (Ne.symm h)

@[simp] theorem Slot.pacc_setPacc_same (b : Slot) (j : Nat) (v : Int) : (b.setPacc j v).pacc j = BitVec.ofInt 56 v :=
  SMap.get_set_same _ _ _ _

theorem Slot.pacc_setPacc_ne (b : Slot) {j m : Nat} (v : Int) (h : m ≠ j) : (b.setPacc j v).pacc m = b.pacc m :=
  SMap.get_set_other _ _ _ (Ne.symm h)

@[simp] theorem Slot.base_setCirc (b : Slot) (p : Nat) (base : Word) (len : Nat) : (b.setCirc p base len).base p = base :=
  SMap.get_set_same _ _ _ _

theorem Slot.len_setCirc (b : Slot) (p : Nat) (base : Word) (len : Nat) : (b.setCirc p base len).len p = len % 2 ^ 32 := by
  rw [Slot.len, Slot.setCirc, SMap.get_set_same, BitVec.toNat_ofNat]

@[simp] theorem Slot.flag_setFlag_same (b : Slot) (i : Nat) : (b.setFlag i true).flag i = true := by
  simp [Slot.flag, Slot.setFlag, testBit_putBit_set]

/-- A pair written reads back. -/
@[simp] theorem Slot.pair_setPair (b : Slot) (d : Nat) (v : BitVec 64) : (b.setPair d v).pair d = v := by
  unfold Slot.pair Slot.setPair
  rw [Slot.xr_setX_same, Slot.xr_setX_ne _ _ (by omega), Slot.xr_setX_same]
  exact (BitVec.extractLsb'_append_extractLsb'_eq_extractLsb' rfl).trans BitVec.extractLsb'_eq_self

/-- A pair's update leaves every register outside the pair. -/
theorem Slot.xr_setPair_ne (b : Slot) {d r : Nat} (v : BitVec 64) (h : r / 2 ≠ d) : (b.setPair d v).xr r = b.xr r := by
  unfold Slot.setPair
  rw [Slot.xr_setX_ne _ _ (by omega), Slot.xr_setX_ne _ _ (by omega)]

/-- Accumulators listed take their saturated values, the others stay. -/
theorem Slot.acc_setAccs (b : Slot) (l : List Nat) (v : Nat → Int) (j : Nat) :
    (b.setAccs l v).acc j = if j ∈ l then BitVec.ofInt 40 (satS 40 (v j)) else b.acc j := by
  induction l generalizing b with
  | nil => rfl
  | cons m l ih =>
    rw [Slot.setAccs, List.foldl_cons, ← Slot.setAccs, ih]
    by_cases hl : j ∈ l
    · simp [hl]
    · by_cases hm : j = m
      · subst hm; simp [hl]
      · simp [hl, hm, Slot.acc_setAcc_ne]

@[simp] theorem Slot.x_setAccs (b : Slot) (l : List Nat) (v : Nat → Int) : (b.setAccs l v).x = b.x := by
  induction l generalizing b with
  | nil => rfl
  | cons m l ih => exact ih (b.setAcc m _)

/-! ## The end of a hardware loop -/

/-- What does not read the program offset, the loop counters and the open loops stands through the end of a hardware loop. -/
theorem Slot.loopPass_keeps {β : Type} {g : Slot → β} (b : Slot) (pc n : Nat)
    (hg : ∀ lc0 lc1 loops off, g { b with lc0 := lc0, lc1 := lc1, loops := loops, pc := off } = g b) : g (b.loopPass pc n) = g b := by
  obtain ⟨_, _, _, _, h⟩ := Slot.loopPass_eq pc n b
  rw [h, hg]

@[simp] theorem Slot.x_loopPass (b : Slot) (pc n : Nat) : (b.loopPass pc n).x = b.x :=
  b.loopPass_keeps pc n fun _ _ _ _ => rfl

@[simp] theorem Slot.a_loopPass (b : Slot) (pc n : Nat) : (b.loopPass pc n).a = b.a :=
  b.loopPass_keeps pc n fun _ _ _ _ => rfl

@[simp] theorem Slot.e_loopPass (b : Slot) (pc n : Nat) : (b.loopPass pc n).e = b.e :=
  b.loopPass_keeps pc n fun _ _ _ _ => rfl

@[simp] theorem Slot.p_loopPass (b : Slot) (pc n : Nat) : (b.loopPass pc n).p = b.p :=
  b.loopPass_keeps pc n fun _ _ _ _ => rfl

@[simp] theorem Slot.pbase_loopPass (b : Slot) (pc n : Nat) : (b.loopPass pc n).pbase = b.pbase :=
  b.loopPass_keeps pc n fun _ _ _ _ => rfl

@[simp] theorem Slot.plen_loopPass (b : Slot) (pc n : Nat) : (b.loopPass pc n).plen = b.plen :=
  b.loopPass_keeps pc n fun _ _ _ _ => rfl

@[simp] theorem Slot.sr_loopPass (b : Slot) (pc n : Nat) : (b.loopPass pc n).sr = b.sr :=
  b.loopPass_keeps pc n fun _ _ _ _ => rfl

@[simp] theorem Slot.xr_loopPass (b : Slot) (pc n r : Nat) : (b.loopPass pc n).xr r = b.xr r := by
  rw [Slot.xr, Slot.x_loopPass, Slot.xr]

@[simp] theorem Slot.acc_loopPass (b : Slot) (pc n j : Nat) : (b.loopPass pc n).acc j = b.acc j := by
  rw [Slot.acc, Slot.a_loopPass, Slot.acc]

@[simp] theorem Slot.pacc_loopPass (b : Slot) (pc n j : Nat) : (b.loopPass pc n).pacc j = b.pacc j := by
  rw [Slot.pacc, Slot.e_loopPass, Slot.pacc]

@[simp] theorem Slot.ptr_loopPass (b : Slot) (pc n p : Nat) : (b.loopPass pc n).ptr p = b.ptr p := by
  rw [Slot.ptr, Slot.p_loopPass, Slot.ptr]

@[simp] theorem Slot.base_loopPass (b : Slot) (pc n p : Nat) : (b.loopPass pc n).base p = b.base p := by
  rw [Slot.base, Slot.pbase_loopPass, Slot.base]

@[simp] theorem Slot.len_loopPass (b : Slot) (pc n p : Nat) : (b.loopPass pc n).len p = b.len p := by
  rw [Slot.len, Slot.plen_loopPass, Slot.len]

@[simp] theorem Slot.flag_loopPass (b : Slot) (pc n i : Nat) : (b.loopPass pc n).flag i = b.flag i := by
  rw [Slot.flag, Slot.sr_loopPass, Slot.flag]

/-- With no loop open there is none to end. -/
theorem Slot.loopPass_of_closed {b : Slot} (h : b.loops = []) (pc n : Nat) : b.loopPass pc n = b := by
  cases n with
  | zero => rfl
  | succ n => simp [Slot.loopPass, h]

/-! ## The bank after a performed instruction -/

/-- The bank that a performed instruction leaves: its own action's, with the hardware loops that end there passed. -/
theorem State.bank_performed {s : State} {e k : Nat} {f : State → State} {b : Slot}
    (h : (f (s.setBank e k (s.bank e k).next)).bank e k = b) : (s.performed e k f).bank e k = b.loopPass (s.bank e k).pc 2 := by
  subst h
  simp only [State.performed, State.bank_withSec, State.bank_setBank_same]

/-- An action that writes the slot's bank and nothing else. -/
theorem State.sameButBank_performed (s : State) (e k : Nat) (b : Slot) :
    s.sameButBank (s.performed e k (fun t => t.setBank e k b)) e k := by
  unfold State.performed State.sameButBank
  simp only [State.slot_withSec, State.sec_setBank, State.withSlots_setBank, State.withSlots_withSec, State.withSec_withSec,
    State.withSlots_self, State.withSec_self]
  refine ⟨fun j hj => ?_, trivial, rfl⟩
  rw [State.slot_setBank_ne _ _ _ _ hj, State.slot_setBank_ne _ _ _ _ hj, State.slot_setBank_ne _ _ _ _ hj]

theorem State.writesBank_of_performed {s : State} {e k : Nat} {i : Instr} {b : Slot}
    (h : exec i s = .next (s.performed e k (fun t => t.setBank e k b))) : s.writesBank i e k b :=
  ⟨_, h, State.bank_performed (State.bank_setBank_same ..), s.sameButBank_performed e k b⟩

/-- An action that writes the slot's bank and otherwise leaves the engines alone. -/
theorem State.performed_keepsEngines_setBank {s : State} {e k : Nat} {f : State → State} {b : Slot}
    (h : ((s.setBank e k (s.bank e k).next).setBank e k b).keepsEngines (f (s.setBank e k (s.bank e k).next))) :
    (s.performed e k f).bank e k = b.loopPass (s.bank e k).pc 2 ∧ (s.performed e k f).engines = s.engines ∧
      s.keepsMemory (s.performed e k f) := by
  obtain ⟨hslots, hengines, hmem⟩ := h
  refine ⟨State.bank_performed ?_, hengines, hmem⟩
  exact (congrArg (fun m => SMap.get _ m (slotKey e k)) hslots).trans (State.bank_setBank_same ..)

end Sys2Proof.Machine
end

section
/-!
Numbers that saturate: the model's operations and the exact values that the statements name (R54, R55).
-/

namespace Sys2Proof.Machine

theorem fullScale_bounds (w : Nat) (x : Int) :
    -(2 : Int) ^ (w - 1) ≤ fullScale w x ∧ fullScale w x < (2 : Int) ^ (w - 1) := by
  have hpos : (0 : Int) < 2 ^ (w - 1) := by positivity
  unfold fullScale
  split
  · omega
  · split <;> omega

theorem satS_eq_fullScale (w : Nat) (x : Int) : satS w x = fullScale w x := by
  have hpos : (0 : Int) < 2 ^ (w - 1) := by positivity
  simp only [satS, clampI, fullScale, Nat.cast_pow, Nat.cast_ofNat]
  generalize (2 : Int) ^ (w - 1) = m at hpos
  split <;> split <;> omega

/-- A saturated value stands unchanged in a register that is at least as wide. -/
theorem toInt_ofInt_fullScale {w v : Nat} (hw : 0 < w) (hv : w ≤ v) (x : Int) :
    (BitVec.ofInt v (fullScale w x)).toInt = fullScale w x := by
  obtain ⟨hlow, hhigh⟩ := fullScale_bounds w x
  have hmono : (2 : Int) ^ (w - 1) ≤ 2 ^ (v - 1) := pow_le_pow_right₀ (by norm_num) (by omega)
  have hdouble : (2 : Int) ^ v = 2 * 2 ^ (v - 1) := by rw [← pow_succ', Nat.sub_add_cancel (by omega)]
  rw [BitVec.toInt_ofInt]
  apply Int.bmod_eq_of_le <;> push_cast <;> omega

/-- Something saturates where not every value listed is within full scale. -/
theorem any_satS_ne (w : Nat) (l : List Nat) {v x : Nat → Int} (h : ∀ j ∈ l, v j = x j) :
    l.any (fun j => satS w (v j) != v j) = !l.all (fun j => x j == fullScale w (x j)) := by
  induction l with
  | nil => rfl
  | cons m l ih =>
    rw [List.any_cons, List.all_cons, Bool.not_and, ih fun j hj => h j (List.mem_cons_of_mem m hj), satS_eq_fullScale,
      h m List.mem_cons_self, bne_comm]
    rfl

/-- A lane of four packed ones. -/
theorem lane_packLanes (f : Nat → Int) {j : Nat} (h : j < 4) : lane (packLanes f) j = (BitVec.ofInt 16 (f j)).toInt := by
  have hlane : (packLanes f).extractLsb' (16 * j) 16 = BitVec.ofInt 16 (f j) := by
    unfold packLanes
    interval_cases j
    · rw [BitVec.extractLsb'_append_eq_of_add_le (by omega), BitVec.extractLsb'_eq_self]
    · rw [BitVec.extractLsb'_append_eq_of_le (by omega), BitVec.extractLsb'_append_eq_of_add_le (by omega)]
      exact BitVec.extractLsb'_eq_self
    · rw [BitVec.extractLsb'_append_eq_of_le (by omega), BitVec.extractLsb'_append_eq_of_le (by omega),
        BitVec.extractLsb'_append_eq_of_add_le (by omega)]
      exact BitVec.extractLsb'_eq_self
    · rw [BitVec.extractLsb'_append_eq_of_le (by omega), BitVec.extractLsb'_append_eq_of_le (by omega),
        BitVec.extractLsb'_append_eq_of_le (by omega)]
      exact BitVec.extractLsb'_eq_self
  rw [lane, hlane]

/-- Four bytes that spell a word, the lowest first (R3). -/
theorem ofNat_leNat_four (a b c d : Byte) : BitVec.ofNat 32 (leNat [a, b, c, d]) = d ++ c ++ b ++ a := by
  apply BitVec.eq_of_toNat_eq
  simp only [leNat, BitVec.toNat_append, BitVec.toNat_ofNat]
  rw [← Nat.shiftLeft_add_eq_or_of_lt a.isLt, ← Nat.shiftLeft_add_eq_or_of_lt b.isLt, ← Nat.shiftLeft_add_eq_or_of_lt c.isLt]
  simp only [Nat.shiftLeft_eq]
  omega

/-- The low bits of a number, read as a signed number of that width. -/
theorem sgn_eq_toInt {w : Nat} (hw : 0 < w) (n : Nat) : sgn w n = (BitVec.ofNat w n).toInt := by
  have hdouble : 2 ^ w = 2 * 2 ^ (w - 1) := by rw [← pow_succ', Nat.sub_add_cancel hw]
  simp only [sgn, BitVec.toInt_eq_toNat_cond, BitVec.toNat_ofNat]
  split <;> split <;> omega

/-- The rounding of a move, in exact terms. -/
theorem scaleRound_eq_floor (v s : Int) : scaleRound v s = ⌊(v : ℚ) * (2 : ℚ) ^ s + 1 / 2⌋ := by
  unfold scaleRound
  split
  · next hneg =>
    obtain ⟨n, hn⟩ : ∃ n : Nat, s = -((n + 1 : Nat) : Int) := ⟨s.natAbs - 1, by omega⟩
    subst hn
    rw [Int.natAbs_neg, Int.natAbs_natCast, roundShift, if_neg n.succ_ne_zero, asr, ← Rat.floor_intCast_div_natCast,
      zpow_neg, zpow_natCast, Nat.add_sub_cancel]
    congr 1
    push_cast
    field_simp
    ring
  · next hpos =>
    obtain ⟨n, rfl⟩ := Int.eq_ofNat_of_zero_le (not_lt.mp hpos)
    rw [Int.toNat_natCast, zpow_natCast]
    symm
    rw [Int.floor_eq_iff]
    push_cast
    constructor <;> linarith

end Sys2Proof.Machine
end

section
/-!
Undefined encodings and misuse of the stacks (R60, R62).
-/

namespace Sys2Proof.Machine

/-! ## The end of an activation -/

theorem State.keepsEngines.trans {s t u : State} (h : s.keepsEngines t) (h' : t.keepsEngines u) : s.keepsEngines u := by
  obtain ⟨hslots, hengines, hmem⟩ := h
  obtain ⟨hslots', hengines', hmem'⟩ := h'
  exact ⟨hslots'.trans hslots, hengines'.trans hengines, fun a ha => (hmem' a ha).trans (hmem a ha)⟩

theorem State.keepsEngines_put (s : State) (f : Fld) (v : Nat) : s.keepsEngines (s.put f v) := ⟨rfl, rfl, fun _ _ => rfl⟩

theorem State.keepsEngines_assertEv (s : State) (ev : Nat) : s.keepsEngines (s.assertEv ev) :=
  State.assertEv_calm s.keepsEngines_calm s.keepsEngines_refl ev

theorem State.keepsEngines_showSlot (s : State) (e : Nat) : s.keepsEngines (s.showSlot e none) :=
  (s.keepsEngines_put _ _).trans (State.keepsEngines_put _ _ _)

theorem State.keepsEngines_returnTag (s : State) (n : Nat) : s.keepsEngines (s.returnTag n) := by
  unfold State.returnTag State.checkTags
  split
  · split
    · exact ⟨rfl, rfl, fun _ _ => rfl⟩
    · exact State.keepsEngines.trans ⟨rfl, rfl, fun _ _ => rfl⟩ (State.keepsEngines_assertEv _ _)
  · exact s.keepsEngines_refl

theorem State.keepsEngines.engine {s t : State} (h : s.keepsEngines t) (e : Nat) : t.engine e = s.engine e :=
  congrArg (fun m => SMap.get _ m e) h.2.1

theorem State.keepsEngines.bank {s t : State} (h : s.keepsEngines t) (e k : Nat) : t.bank e k = s.bank e k :=
  congrArg (fun m => SMap.get _ m (slotKey e k)) h.1

theorem State.keepsEngines.memory {s t : State} (h : s.keepsEngines t) : s.keepsMemory t := h.2.2

theorem testBit_putBit_clear (n i : Nat) : (putBit n i false).testBit i = false := by
  unfold putBit
  split
  · next h =>
    obtain ⟨m, rfl⟩ := Nat.exists_eq_add_of_le (Nat.ge_two_pow_of_testBit h)
    simpa [Nat.testBit_two_pow_add_eq] using h
  · next h => simpa using h

/-- The bank of a slot whose activation has ended. -/
def Slot.ended (b : Slot) : Slot := { b with loops := [], ret := [], waitLo := 0, waitHi := 0, scan := none }

/-- The end of an activation clears its bit, empties its stacks, and leaves the memory and its registers. -/
theorem State.endActivation_effect (s : State) (e k : Nat) :
    ((s.endActivation e k).engine e).active.testBit k = false ∧ (s.endActivation e k).bank e k = (s.bank e k).ended ∧
      s.keepsMemory (s.endActivation e k) := by
  have hbank : ((s.modSlot (slotKey e k) Slot.ended).bank e k) = (s.bank e k).ended := SMap.get_set_same _ _ _ _
  unfold State.endActivation
  dsimp only
  split
  · have hkeeps := (State.keepsEngines_returnTag (((s.modSlot (slotKey e k) Slot.ended).modEngine e
      (fun x => { x with active := putBit x.active k false, waiting := putBit x.waiting k false })).modEngine e
      (fun x => { x with stall := .none })) e).trans (State.keepsEngines_showSlot _ e)
    refine ⟨?_, (hkeeps.bank e k).trans hbank, hkeeps.memory⟩
    refine (congrArg (fun x => x.active.testBit k) (hkeeps.engine e)).trans ?_
    simp only [State.engine_modEngine_same, testBit_putBit_clear]
  · refine ⟨?_, hbank, fun _ _ => rfl⟩
    simp only [State.engine_modEngine_same, testBit_putBit_clear]

/-- An instruction whose action, before it ends the activation as illegal, leaves the engines alone. -/
theorem State.performed_illegal {s : State} {e k : Nat} {g : State → State} (hg : ∀ u : State, u.keepsEngines (g u)) :
    ((s.performed e k (fun u => (g u).illegal e k)).engine e).active.testBit k = false ∧
      (s.performed e k (fun u => (g u).illegal e k)).bank e k = (s.bank e k).next.ended ∧
      s.keepsMemory (s.performed e k (fun u => (g u).illegal e k)) := by
  have hkeeps := (hg (s.setBank e k (s.bank e k).next)).trans (State.keepsEngines_assertEv _ (evAxis e 6))
  obtain ⟨hactive, hbank, hmem⟩ := ((g (s.setBank e k (s.bank e k).next)).assertEv (evAxis e 6)).endActivation_effect e k
  rw [hkeeps.bank, State.bank_setBank_same] at hbank
  refine ⟨hactive, ?_, fun a ha => (hmem a ha).trans (hkeeps.memory a ha)⟩
  exact (State.bank_performed hbank).trans (Slot.loopPass_of_closed rfl _ _)

/-! ## The commands -/

section
variable {e : Fin 16} {k : Nat} {s : State} (h : s.performs e k pathBoth = true)
include h

/-- An encoding of R59 that is not defined (R60). -/
theorem exec_undefined {i : Instr} (hi : i = .illegalInstruction e ∨ (∃ l, i = .loop_ e (.imm 0) l) ∨
    ∃ d x p n ecc m, (i = .maxi e d x p n ecc m ∨ i = .mini e d x p n ecc m) ∧ (n = 0 ∨ 4096 < n)) :
    exec i s = .next (s.performed e k (fun t => t.illegal e k)) := by
  obtain rfl | ⟨l, rfl⟩ | ⟨d, x, p, n, ecc, m, rfl | rfl, hn⟩ := hi
  · exact exec_of_issue h (exec_illegalInstruction e s) rfl
  · exact exec_loop_zero h
  · rw [exec_maxi, execMaxi, State.scan_undefined h hn]
  · rw [exec_mini, execMini, State.scan_undefined h hn]

/-- A misuse of the return stack or of the loop nesting (R62). -/
theorem exec_misused {i : Instr} (hi : (∃ l, i = .call_ e l ∧ 8 ≤ (s.bank e k).ret.length) ∨ (i = .ret_ e ∧ (s.bank e k).ret = []) ∨
    ∃ n l, i = .loop_ e n l ∧ n ≠ .imm 0 ∧ 2 ≤ (s.bank e k).loops.length) :
    exec i s = .next (s.performed e k (fun t => t.stackError e k)) := by
  obtain ⟨l, rfl, hfull⟩ | ⟨rfl, hempty⟩ | ⟨n, l, rfl, hdefined, hfull⟩ := hi
  · exact exec_call_full h hfull
  · exact exec_ret_empty h hempty
  · exact exec_loop_full h hdefined hfull

end

/-- Settles O9: a misuse sets its flag first; then either kind asserts the source and ends the activation. -/
theorem misuseEndsTheActivation : Obligations.MisuseEndsTheActivation := by
  unfold Obligations.MisuseEndsTheActivation
  refine ⟨fun i e k s h undefined misused _ hundefined hmisused hi => ?_, srcClass_reset_illegal⟩
  have hexec : exec i s = .next (s.performed e k (fun u => (if misused then u.put (F.CE_STAT_STKERR e) 1 else u).illegal e k)) := by
    by_cases hm : misused
    · simp only [if_pos hm]
      exact exec_misused h (hmisused.mp hm)
    · simp only [if_neg hm]
      exact exec_undefined h (hundefined.mp (hi.resolve_right hm))
  have hkeeps : ∀ u : State, u.keepsEngines (if misused then u.put (F.CE_STAT_STKERR e) 1 else u) := by
    intro u
    split
    · exact u.keepsEngines_put _ _
    · exact u.keepsEngines_refl
  obtain ⟨hactive, hbank, hmem⟩ := State.performed_illegal (s := s) (e := e) (k := k) hkeeps
  refine ⟨_, hexec, rfl, hactive, ?_⟩
  rw [hbank]
  exact ⟨rfl, rfl, rfl, rfl, rfl, rfl, rfl, rfl, rfl, hmem⟩

end Sys2Proof.Machine
end

section
/-!
Saturation of the accumulators (R54).
-/

namespace Sys2Proof.Machine

theorem State.keepsEngines_noteAccsat (s : State) (e : Nat) (sat : Bool) : s.keepsEngines (s.noteAccsat e sat) := by
  unfold State.noteAccsat
  split
  · exact (s.keepsEngines_put _ _).trans (State.keepsEngines_assertEv _ _)
  · exact s.keepsEngines_refl

theorem srcClass_reset_accumulator : ∀ e : Fin 16, State.reset.srcClass (evAxis e 5) = classC := by decide

/-- What saturates is noted only where not every exact value is within full scale. -/
theorem State.noteAccsat_not (s : State) (e : Nat) (ok : Bool) :
    s.noteAccsat e (!ok) = if ok then s else (s.put (F.CE_STAT_ACCSAT e) 1).assertEv (evAxis e 5) := by
  cases ok <;> rfl

theorem State.performed_noteAccsat (s : State) (e k : Nat) (b : Slot) (sat : Bool) :
    (s.performed e k (fun t => (t.setBank e k b).noteAccsat e sat)).bank e k = b.loopPass (s.bank e k).pc 2 ∧
      (s.performed e k (fun t => (t.setBank e k b).noteAccsat e sat)).engines = s.engines ∧
      s.keepsMemory (s.performed e k (fun t => (t.setBank e k b).noteAccsat e sat)) :=
  State.performed_keepsEngines_setBank (f := fun t => (t.setBank e k b).noteAccsat e sat) (State.keepsEngines_noteAccsat _ e sat)

/-- An instruction of the run datapath gives each accumulator listed the exact value `x` of it, at full scale beyond the range. -/
theorem accOp_saturates {i : Instr} {e k : Nat} {s : State} {l : List Nat} {f : Slot → Nat → Int} {x : Nat → Int}
    (h : s.performs e k pathRun = true) (hi : exec i s = .next (s.accOp e l f)) (hx : ∀ j ∈ l, f (s.bank e k).next j = x j) :
    ∃ t, exec i s = .next t ∧ (∀ j ∈ l, ((t.bank e k).acc j).toInt = fullScale 40 (x j)) ∧
      (∀ j, j ∉ l → (t.bank e k).acc j = (s.bank e k).acc j) ∧ (t.bank e k).x = (s.bank e k).x ∧
      t.engines = s.engines ∧ s.keepsMemory t ∧
      ∃ b : Slot, t = s.performed e k (fun u => if l.all (fun j => x j == fullScale 40 (x j)) then u.setBank e k b
        else ((u.setBank e k b).put (F.CE_STAT_ACCSAT e) 1).assertEv (evAxis e 5)) := by
  have hexec := exec_of_accOp h hi rfl
  simp only [any_satS_ne 40 l hx] at hexec
  obtain ⟨hbank, hengines, hmem⟩ := s.performed_noteAccsat e k ((s.bank e k).next.setAccs l (f (s.bank e k).next))
    (!l.all (fun j => x j == fullScale 40 (x j)))
  refine ⟨_, hexec, fun j hj => ?_, fun j hj => ?_, ?_, hengines, hmem, _, State.performed_congr (State.noteAccsat_not ..)⟩
  · rw [hbank, Slot.acc_loopPass, Slot.acc_setAccs, if_pos hj, hx j hj, satS_eq_fullScale,
      toInt_ofInt_fullScale (by decide) le_rfl]
  · rw [hbank, Slot.acc_loopPass, Slot.acc_setAccs, if_neg hj]
    rfl
  · rw [hbank, Slot.x_loopPass, Slot.x_setAccs]
    rfl

/-- The same for an accumulator of the precise datapath. -/
theorem paccOp_saturates {i : Instr} {e k j : Nat} {s : State} {f : Slot → Int} {x : Int}
    (h : s.performs e k pathPrecise = true) (hi : exec i s = .next (s.paccOp e j f)) (hx : f (s.bank e k).next = x) :
    ∃ t, exec i s = .next t ∧ ((t.bank e k).pacc j).toInt = fullScale 56 x ∧
      (∀ m, m ≠ j → (t.bank e k).pacc m = (s.bank e k).pacc m) ∧ (t.bank e k).x = (s.bank e k).x ∧
      t.engines = s.engines ∧ s.keepsMemory t ∧
      ∃ b : Slot, t = s.performed e k (fun u => if x == fullScale 56 x then u.setBank e k b
        else ((u.setBank e k b).put (F.CE_STAT_ACCSAT e) 1).assertEv (evAxis e 5)) := by
  have hsat : (satS 56 x != x) = !(x == fullScale 56 x) := by rw [satS_eq_fullScale, bne_comm]; rfl
  have hexec := exec_of_paccOp h hi hx
  rw [hsat] at hexec
  obtain ⟨hbank, hengines, hmem⟩ := s.performed_noteAccsat e k ((s.bank e k).next.setPacc j (satS 56 x)) (!(x == fullScale 56 x))
  refine ⟨_, hexec, ?_, fun m hm => ?_, ?_, hengines, hmem, _, State.performed_congr (State.noteAccsat_not ..)⟩
  · rw [hbank, Slot.pacc_loopPass, Slot.pacc_setPacc_same, satS_eq_fullScale, toInt_ofInt_fullScale (by decide) le_rfl]
  · rw [hbank, Slot.pacc_loopPass, Slot.pacc_setPacc_ne _ _ hm]
    rfl
  · rw [hbank, Slot.x_loopPass]
    rfl

/-- The lane that the cross MAC takes of its second pair. -/
theorem crossLane_eq_getD : ∀ j ∈ laneList, crossLane j = [1, 0, 3, 2].getD j 0 := by decide

/-- Settles O10: each command is an accumulator operation, whose exact value its clause names. -/
theorem accumulatorsSaturate : Obligations.AccumulatorsSaturate := by
  unfold Obligations.AccumulatorsSaturate
  refine ⟨fun e k s h => ⟨fun f g => ⟨?_, ?_, ?_⟩, fun c a b ah bh => ?_, ?_⟩,
    fun e k s h => ⟨fun c a b => ⟨?_, ?_⟩, ?_⟩, srcClass_reset_accumulator⟩
  · exact accOp_saturates h (exec_vmac e f g s) fun _ _ => rfl
  · exact accOp_saturates h (exec_vmsu e f g s) fun _ _ => rfl
  · refine accOp_saturates h (exec_vmacx e f g s) fun j hj => ?_
    rw [crossLane_eq_getD j hj]
    rfl
  · refine accOp_saturates h (exec_macl e c a ah b bh s) fun j hj => ?_
    rw [List.mem_singleton.mp hj]
    rfl
  · exact accOp_saturates h (exec_vsum e s) fun _ _ => rfl
  · exact paccOp_saturates h (exec_pmac e c a b s) rfl
  · exact paccOp_saturates h (exec_pmsu e c a b s) rfl
  · exact paccOp_saturates h (exec_padd e s) rfl

end Sys2Proof.Machine
end

section
/-!
Moves from the accumulators: scaling, rounding and saturation (R55).
-/

namespace Sys2Proof.Machine

/-- The bank where a move has saturated or not. -/
def Slot.notedSatm (b : Slot) (sat : Bool) : Slot := if sat then b.setFlag bitSatm true else b

@[simp] theorem Slot.x_notedSatm (b : Slot) (sat : Bool) : (b.notedSatm sat).x = b.x := by cases sat <;> rfl

@[simp] theorem Slot.a_notedSatm (b : Slot) (sat : Bool) : (b.notedSatm sat).a = b.a := by cases sat <;> rfl

@[simp] theorem Slot.e_notedSatm (b : Slot) (sat : Bool) : (b.notedSatm sat).e = b.e := by cases sat <;> rfl

@[simp] theorem Slot.p_notedSatm (b : Slot) (sat : Bool) : (b.notedSatm sat).p = b.p := by cases sat <;> rfl

theorem State.regs_put_congr {s t : State} (h : s.regs = t.regs) (f : Fld) (v : Nat) : (s.put f v).regs = (t.put f v).regs := by
  simp only [State.put, State.wr, State.rd, State.withRegs_regs, h]

/-- A state whose registers are those of `s` but for one field put, said of that state itself. -/
theorem State.eq_put_of_regs {s t : State} {f : Fld} {v : Nat} (h : t.regs = (s.put f v).regs) : t = (t.withRegs s.regs).put f v :=
  congrArg t.withRegs (h.trans (State.regs_put_congr (t := t.withRegs s.regs) rfl f v))

/-- What neither a field nor the bank nor the debugger's step has a part in stands through a move. Said of any such component,
since by unfolding alone Lean would compute the registers. -/
theorem State.performed_noteSatm_keeps {β : Type} {g : State → β} (hput : ∀ t f v, g (State.put t f v) = g t)
    (hbank : ∀ t e k b, g (State.setBank t e k b) = g t) (hsec : ∀ t v, g (State.withSec t v) = g t) (s : State) (e k : Nat) (c : Slot)
    (sat : Bool) : g (s.performed e k (fun t => (t.setBank e k c).noteSatm e k sat)) = g s := by
  have hnote : ∀ t : State, g (t.noteSatm e k sat) = g t := by
    intro t
    unfold State.noteSatm
    split
    · rw [hput, hbank]
    · rfl
  rw [State.performed, hsec, hbank, hnote, hbank, hbank]

theorem State.noteSatm_true (s : State) (e k : Nat) : s.noteSatm e k true =
    (s.setBank e k ((s.bank e k).setFlag bitSatm true)).put (F.CE_STAT_SATM e) 1 := rfl

@[simp] theorem State.bank_put (s : State) (f : Fld) (v e k : Nat) : (s.put f v).bank e k = s.bank e k := rfl

theorem State.regs_performed (s : State) (e k : Nat) (f : State → State) :
    (s.performed e k f).regs = (f (s.setBank e k (s.bank e k).next)).regs := rfl

/-- A move that writes the bank `c` and notes whether it saturates: the bank, and the one flag that may change outside it. -/
theorem State.performed_noteSatm (s : State) (e k : Nat) (c : Slot) (sat : Bool) :
    let t := s.performed e k (fun t => (t.setBank e k c).noteSatm e k sat)
    t.bank e k = (c.notedSatm sat).loopPass (s.bank e k).pc 2 ∧
      (sat = false → t.regs = s.regs) ∧ (sat = true → t = (t.withRegs s.regs).put (F.CE_STAT_SATM e) 1) := by
  cases sat with
  | false => exact ⟨State.bank_performed (State.bank_setBank_same ..), fun _ => State.regs_performed .., nofun⟩
  | true =>
    refine ⟨State.bank_performed ?_, nofun, fun _ => State.eq_put_of_regs ?_⟩
    · rw [State.noteSatm_true, State.bank_put, State.bank_setBank_same, State.bank_setBank_same]
      rfl
    · rw [State.regs_performed, State.noteSatm_true]
      exact State.regs_put_congr (by rfl) _ _

/-- Command `i` moves the exact values `y`, saturated to `w` bits, to where `z` reads them for each number of `l`, keeps the registers
that satisfy `kept`, and notes in sr and CE.STAT when one saturates; nothing outside the bank changes but that. -/
def MovesSaturated (i : Instr) (e k : Nat) (s : State) (w : Nat) (l : List Nat) (y : Nat → Int) (z : Slot → Nat → Int)
    (kept : Nat → Prop) : Prop :=
  ∃ t, exec i s = .next t ∧ (∀ j ∈ l, z (t.bank e k) j = fullScale w (y j)) ∧
    (∀ r, kept r → (t.bank e k).xr r = (s.bank e k).xr r) ∧ (t.bank e k).a = (s.bank e k).a ∧
    (t.bank e k).e = (s.bank e k).e ∧ (t.bank e k).p = (s.bank e k).p ∧
    (if l.all (fun j => y j == fullScale w (y j)) then (t.bank e k).sr = (s.bank e k).sr ∧ t.regs = s.regs
      else (t.bank e k).flag bitSatm = true ∧ t = (t.withRegs s.regs).put (F.CE_STAT_SATM e) 1) ∧
    t.weir = s.weir ∧ t.mem = s.mem ∧ t.engines = s.engines

/-- So does a command that writes a bank `c` that differs from the slot's in registers alone, where `z` reads the values. -/
theorem movesSaturated_of_performed {i : Instr} {e k w : Nat} {s : State} {c : Slot} {l : List Nat} {v y : Nat → Int}
    {z : Slot → Nat → Int} {kept : Nat → Prop}
    (hexec : exec i s = .next (s.performed e k (fun t => (t.setBank e k c).noteSatm e k (l.any (fun j => satS w (v j) != v j)))))
    (hv : ∀ j ∈ l, v j = y j) (hc : ∃ x, c = { (s.bank e k).next with x := x })
    (hz : ∀ b : Slot, b.x = c.x → ∀ j ∈ l, z b j = fullScale w (y j)) (hkept : ∀ r, kept r → c.xr r = (s.bank e k).xr r) :
    MovesSaturated i e k s w l y z kept := by
  rw [any_satS_ne w l hv] at hexec
  obtain ⟨x, rfl⟩ := hc
  obtain ⟨hbank, hfull, hsaturated⟩ := s.performed_noteSatm e k { (s.bank e k).next with x := x } (!l.all (fun j => y j == fullScale w (y j)))
  refine ⟨_, hexec, ?_⟩
  rw [hbank]
  refine ⟨fun j hj => ?_, fun r hr => ?_, ?_, ?_, ?_, ?_, ?_, ?_, ?_⟩
  · exact hz _ (by rw [Slot.x_loopPass, Slot.x_notedSatm]) j hj
  · rw [Slot.xr_loopPass, ← hkept r hr, Slot.xr, Slot.x_notedSatm, Slot.xr]
  · rw [Slot.a_loopPass, Slot.a_notedSatm]
    rfl
  · rw [Slot.e_loopPass, Slot.e_notedSatm]
    rfl
  · rw [Slot.p_loopPass, Slot.p_notedSatm]
    rfl
  · split
    · next hall =>
      simp only [hall, Bool.not_true, true_implies] at hfull ⊢
      exact ⟨Slot.sr_loopPass .., hfull⟩
    · next hsome =>
      simp only [Bool.eq_false_iff.mpr hsome, Bool.not_false, true_implies] at hsaturated ⊢
      exact ⟨(Slot.flag_loopPass ..).trans (Slot.flag_setFlag_same ..), hsaturated⟩
  · exact State.performed_noteSatm_keeps (fun _ _ _ => rfl) (fun _ _ _ _ => rfl) (fun _ _ => rfl) ..
  · exact State.performed_noteSatm_keeps (fun _ _ _ => rfl) (fun _ _ _ _ => rfl) (fun _ _ => rfl) ..
  · exact State.performed_noteSatm_keeps (fun _ _ _ => rfl) (fun _ _ _ _ => rfl) (fun _ _ => rfl) ..

/-- A move of one scaled value into a register. -/
theorem movesSaturated_of_moveAcc {i : Instr} {e k path d w : Nat} {s : State} {f : Slot → Int} {sh : State → Nat → Int} {y : Int}
    (hw : 0 < w ∧ w ≤ 32) (h : s.performs e k path = true) (hi : exec i s = .next (s.moveAcc e path d w f sh))
    (hy : scaleRound (f (s.bank e k).next) (sh (s.setBank e k (s.bank e k).next) k) = y) :
    MovesSaturated i e k s w [0] (fun _ => y) (fun b _ => (b.xr d).toInt) (fun r => r ≠ d) := by
  have hexec := exec_of_moveAcc h hi hy
  refine movesSaturated_of_performed (c := (s.bank e k).next.setX d (BitVec.ofInt 32 (satS w y))) (v := fun _ => y)
    (by simpa using hexec) (fun _ _ => rfl) ⟨_, rfl⟩ (fun b hb _ _ => ?_)
    fun r hr => Slot.xr_setX_ne _ _ hr
  rw [Slot.xr, hb, ← Slot.xr, Slot.xr_setX_same, satS_eq_fullScale, toInt_ofInt_fullScale hw.1 hw.2]

theorem Slot.pair_congr {b c : Slot} (h : b.x = c.x) (d : Nat) : b.pair d = c.pair d := by
  simp only [Slot.pair, Slot.xr, h]

/-- VMVA moves one scaled value into each lane of a pair. -/
theorem movesSaturated_vmva {e : Fin 16} {d : Fin 8} {k : Nat} {s : State} (h : s.performs e k pathRun = true) :
    MovesSaturated (.vmva e d) e k s 16 laneList (fun j => scaleRound ((s.bank e k).acc j).toInt (s.scale e k - 15))
      (fun b j => lane (b.pair d) j) (fun r => r / 2 ≠ d) := by
  refine movesSaturated_of_performed (exec_vmva_performs h rfl) (fun _ _ => rfl) ⟨_, rfl⟩ (fun b hb j hj => ?_)
    fun r hr => Slot.xr_setPair_ne _ _ hr
  have hlane : j < 4 := by simp [laneList] at hj; omega
  rw [Slot.pair_congr hb, Slot.pair_setPair, lane_packLanes _ hlane, satS_eq_fullScale, toInt_ofInt_fullScale (by decide) le_rfl]
  rfl

/-- Settles O11: each command is a move that notes saturation, of the values that its clause names. -/
theorem movesScaleRoundSaturate : Obligations.MovesScaleRoundSaturate := by
  unfold Obligations.MovesScaleRoundSaturate
  refine ⟨fun e k s h => ⟨fun d c => ?_, fun d c n => ?_, fun d => ?_⟩, fun e k s h => ⟨fun d c => ?_, fun d c n => ?_⟩⟩
  · exact movesSaturated_of_moveAcc (by decide) h (exec_mva e d c s) (by rw [scaleRound_eq_floor, State.scale, sgn_eq_toInt (w := 4) (by decide)]; rfl)
  · exact movesSaturated_of_moveAcc (by decide) h (exec_mvas e d c n s) (scaleRound_eq_floor _ _)
  · have hmoved := movesSaturated_vmva (d := d) h
    simp only [scaleRound_eq_floor, State.scale, sgn_eq_toInt (w := 4) (by decide)] at hmoved
    exact hmoved
  · exact movesSaturated_of_moveAcc (by decide) h (exec_pmve e d c s) (by rw [scaleRound_eq_floor, State.scale, sgn_eq_toInt (w := 4) (by decide)]; rfl)
  · exact movesSaturated_of_moveAcc (by decide) h (exec_pmves e d c n s) (scaleRound_eq_floor _ _)

end Sys2Proof.Machine
end

section
/-!
Circular pointers: no byte of an access, and no modified pointer, leaves the buffer (R57, R58).
-/

namespace Sys2Proof.Machine

/-- An address folded into a buffer that ends within the address space. -/
theorem Slot.toNat_fold {b : Slot} {p : Nat} (hlen : 0 < b.len p) (hend : (b.base p).toNat + b.len p ≤ 2 ^ 32) (x : Int) :
    ((b.fold p x).toNat : Int) = (b.base p).toNat + (x - (b.base p).toNat) % (b.len p : Int) := by
  have hlow := Int.emod_nonneg (x - (b.base p).toNat) (b := (b.len p : Int)) (by omega)
  have hhigh := Int.emod_lt_of_pos (x - (b.base p).toNat) (b := (b.len p : Int)) (by omega)
  rw [Slot.fold, if_neg hlen.ne', BitVec.toNat_add, BitVec.toNat_ofNat]
  omega

/-- A folded address lies in the buffer. -/
theorem Slot.fold_mem_buffer {b : Slot} {p : Nat} (hlen : 0 < b.len p) (hend : (b.base p).toNat + b.len p ≤ 2 ^ 32) (x : Int) :
    (b.base p).toNat ≤ (b.fold p x).toNat ∧ (b.fold p x).toNat < (b.base p).toNat + b.len p := by
  have hfold := Slot.toNat_fold hlen hend x
  have hlow := Int.emod_nonneg (x - (b.base p).toNat) (b := (b.len p : Int)) (by omega)
  have hhigh := Int.emod_lt_of_pos (x - (b.base p).toNat) (b := (b.len p : Int)) (by omega)
  omega

/-- Settles O14: every byte of an access is folded on its own. -/
theorem circularAccessesStayInside : Obligations.CircularAccessesStayInside := by
  unfold Obligations.CircularAccessesStayInside
  intro b m n a hlen hend ha
  obtain ⟨i, -, rfl⟩ := List.mem_map.mp ha
  exact Slot.fold_mem_buffer hlen hend _

/-! ## Loads -/

/-- An engine's own data memory is data memory. -/
theorem dataMemory_of_ownData {e : Fin 16} {a : Nat} (h : ownData e a = true) : dataMemory a = true := by
  have hrange := of_decide_eq_true h
  unfold dataBase at hrange
  simp only [dataMemory, engineMemory, Bool.and_eq_true, Bool.or_eq_true, decide_eq_true_eq]
  omega

theorem State.mayAccess_of_ownData (s : State) {e a : Nat} (k : Nat) (write : Bool) (h : ownData e a = true) :
    s.mayAccess e k write a = true := by
  simp [State.mayAccess, h]

theorem State.eccAt_of_sound {s : State} {l : List Nat} (h : ∀ a ∈ l, s.badAt a = false) (ecc : Nat) : s.eccAt l ecc = ecc :=
  if_neg (by simpa using h)

/-- A load of the engine's own data memory that meets no error writes its bank alone. -/
theorem exec_of_load_own {e : Fin 16} {k d size : Nat} {s : State} {m : Addr} {i : Instr} {l : List Nat}
    (h : s.performs e k pathBoth = true) (hi : exec i s = .next (s.load e d size m 0)) (hl : l = (s.bank e k).next.bytesOf m size)
    (hmem : ∀ a ∈ l, ownData e a = true ∧ s.badAt a = false) :
    s.writesBank i e k (((s.bank e k).next.postModify m).setLoaded d size (l.map (fun a => s.rd8 a))) := by
  refine State.writesBank_of_performed (exec_of_load_local h hi hl ?_ ?_ (State.eccAt_of_sound (fun a ha => (hmem a ha).2) 0).symm)
  · simpa using fun a ha => s.mayAccess_of_ownData k false (hmem a ha).1
  · simpa using fun a ha => dataMemory_of_ownData (hmem a ha).1

/-- The four bytes of a post-modified word access. -/
theorem Slot.bytesOf_post_four (b : Slot) (p : Fin 8) (step : Word) {A : Nat → Nat}
    (hA : ∀ j : Nat, A j = (b.fold p ((b.ptr p).toNat + (j : Int))).toNat) : [A 0, A 1, A 2, A 3] = b.bytesOf (.post p step) 4 := by
  simp only [hA]
  rfl

/-- Settles O13: the bytes of the access and the modified pointer are folded into the buffer; SETC writes its bank alone. -/
theorem circularLoads : Obligations.CircularLoads := by
  unfold Obligations.CircularLoads
  refine ⟨?_, ?_, ?_⟩
  · rintro e d k p step s L base ptr A h rfl rfl rfl hL hend hA hmem
    have hfold := Slot.toNat_fold (b := (s.bank e k).next) (p := p) (Int.natCast_pos.mp hL) (Int.ofNat_le.mp hend)
    have hA' : ∀ j : Nat, A j = ((s.bank e k).next.fold p (((s.bank e k).next.ptr p).toNat + (j : Int))).toNat := fun j =>
      (hA j).trans ((congrArg Int.toNat (hfold _)).symm.trans (Int.toNat_natCast _))
    obtain ⟨t, hexec, hbank, hsame⟩ := exec_of_load_own h (exec_ld e d (.post p step) 0 s) (Slot.bytesOf_post_four _ p step hA')
      (by simpa using ⟨hmem 0 (by decide), hmem 1 (by decide), hmem 2 (by decide), hmem 3 (by decide)⟩)
    refine ⟨t, hexec, ?_, ?_, fun q hq => ?_, hsame⟩
    · rw [hbank, Slot.xr_loopPass]
      exact (Slot.xr_setX_same ..).trans (ofNat_leNat_four ..)
    · rw [hbank, Slot.ptr_loopPass]
      exact (congrArg (fun w : Word => (w.toNat : Int)) (Slot.ptr_setPtr_same ..)).trans (hfold _)
    · rw [hbank, Slot.ptr_loopPass]
      exact Slot.ptr_setPtr_ne _ _ hq
  · intro e b l k p s h hodd
    obtain ⟨t, hexec, hbank, hsame⟩ := State.writesBank_of_performed (exec_setc_odd (p := p) (z := b) h hodd)
    refine ⟨t, hexec, ?_, ?_, hsame⟩
    · rw [hbank, Slot.len_loopPass]
      exact Slot.len_setCirc (s.bank e k).next p ((s.bank e k).next.xr b) 0
    · rw [hbank, Slot.flag_loopPass, Slot.flag_setFlag_same]
  · intro e b l k p s h heven htop
    obtain ⟨t, hexec, hbank, hsame⟩ := State.writesBank_of_performed (exec_setc_even (p := p) (z := b) h heven htop)
    refine ⟨t, hexec, ?_, ?_, ?_, ?_, hsame⟩
    · rw [hbank, Slot.len_loopPass, Slot.len_setCirc]
      exact Nat.mod_eq_of_lt (BitVec.isLt _)
    · rw [hbank, Slot.base_loopPass, Slot.base_setCirc]
      rfl
    · rw [hbank, Slot.sr_loopPass]
      rfl
    · rw [hbank, Slot.p_loopPass]
      rfl

end Sys2Proof.Machine
end

section
/-!
Scans find the first best element (R56).
-/

namespace Sys2Proof.Machine

/-! ## The first best of a list -/

/-- The best value so far and its number `i`: no element before number `j` is better, and none before `i` is as good. -/
def FirstBest (key : Int → Int) (g : Nat → Int) (j : Nat) (r : Int × Nat) : Prop :=
  r.1 = g r.2 ∧ (∀ m, m < j → key (g m) ≤ key (g r.2)) ∧ ∀ m, m < r.2 → key (g m) < key (g r.2)

/-- Going through elements `j` to `j + n - 1` keeps the first best of those before, with `better` meaning a greater `key`. -/
theorem firstBest_range' {better : Int → Int → Bool} {key : Int → Int} (hbetter : ∀ v w, better v w = decide (key w < key v))
    (g : Nat → Int) (n : Nat) : ∀ {j : Nat} {r : Int × Nat}, FirstBest key g j r → r.2 < j + n →
      FirstBest key g (j + n) (firstBest better ((List.range' j n).map g) j r) ∧
        (firstBest better ((List.range' j n).map g) j r).2 < j + n := by
  induction n with
  | zero => exact fun h hr => ⟨h, hr⟩
  | succ n ih =>
    intro j r h hr
    obtain ⟨hval, hmax, hfirst⟩ := h
    have hnext : FirstBest key g (j + 1) (if better (g j) r.1 then (g j, j) else r) := by
      simp only [hbetter, hval, decide_eq_true_eq]
      split
      · next hlt =>
        exact ⟨rfl, fun m hm => (Nat.lt_succ_iff_lt_or_eq.mp hm).elim (fun hm => (hmax m hm).trans hlt.le) fun hm => by rw [hm],
          fun m hm => (hmax m hm).trans_lt hlt⟩
      · next hge =>
        exact ⟨hval, fun m hm => (Nat.lt_succ_iff_lt_or_eq.mp hm).elim (hmax m) fun hm => hm ▸ not_lt.mp hge, hfirst⟩
    have hbound : (if better (g j) r.1 then (g j, j) else r).2 < j + 1 + n := by
      split
      · show j < j + 1 + n
        omega
      · omega
    rw [List.range'_succ, List.map_cons, firstBest, show j + (n + 1) = j + 1 + n by omega]
    exact ih hnext hbound

/-- From the first of `n` elements on: the number of the first best of them all, and its value. -/
theorem firstBest_range {better : Int → Int → Bool} {key : Int → Int} (hbetter : ∀ v w, better v w = decide (key w < key v))
    (g : Nat → Int) {n : Nat} (hn : 0 < n) : ∃ j, firstBest better ((List.range n).map g) 0 (((List.range n).map g).headD 0, 0) = (g j, j) ∧
      j < n ∧ (∀ m, m < n → key (g m) ≤ key (g j)) ∧ ∀ m, m < j → key (g m) < key (g j) := by
  have hhead : ((List.range n).map g).headD 0 = g 0 := by
    cases n with
    | zero => omega
    | succ n => rw [List.range_succ_eq_map]; rfl
  have hbest := firstBest_range' hbetter g n (j := 0) (r := (g 0, 0)) ⟨rfl, nofun, nofun⟩ (by omega)
  rw [← List.range_eq_range', Nat.zero_add, ← hhead] at hbest
  obtain ⟨⟨hval, hmax, hfirst⟩, hlt⟩ := hbest
  exact ⟨_, Prod.ext hval rfl, hlt, hmax, hfirst⟩

/-! ## A fresh scan of sound elements -/

theorem State.markLoad_zero (s : State) (l : List Nat) : s.markLoad l 0 = s := rfl

theorem State.dataError_zero (s : State) (e : Nat) : s.dataError e 0 = s := rfl

/-- A byte that the task may read, in an island that runs and in a word without error. -/
def State.soundByte (s : State) (e k a : Nat) : Prop :=
  s.mayAccess e k false a = true ∧ s.islandDown a = false ∧ s.badAt a = false

/-- Element `j` of a scan where both of its bytes are sound. -/
theorem State.elementValue_of_sound {s : State} {e k p j cnt lo hi : Nat} (hat : ((s.bank e k)).elementAt p j = [lo, hi])
    (hlo : s.soundByte e k lo) (hhi : s.soundByte e k hi) :
    s.elementOk e k p j = true ∧ s.elementValue e k p cnt j false =
      (BitVec.ofNat 16 ((s.engByte cnt lo).toNat + 256 * (s.engByte cnt hi).toNat)).toInt := by
  obtain ⟨hmay, hup, hgood⟩ := hlo
  obtain ⟨hmay', hup', hgood'⟩ := hhi
  have hok : s.elementOk e k p j = true := by simp [State.elementOk, hat, hmay, hmay']
  refine ⟨hok, ?_⟩
  simp only [State.elementValue, hat, hok, List.any_cons, List.any_nil, hup, hup', hgood, hgood', Bool.or_self, Bool.and_false,
    Bool.not_true, Bool.false_eq_true, if_false, List.map_cons, List.map_nil, sgn_eq_toInt (w := 16) (by decide), leNat, Nat.mul_zero,
    Nat.add_zero]

/-- The banks and the count of free values have no part in how an engine reads a byte. -/
theorem State.soundByte_past {s : State} {e k a : Nat} (b : Slot) (h : s.soundByte e k a) :
    (s.setBank e k b).draw.2.soundByte e k a := h

theorem State.engByte_past (s : State) (e k : Nat) (b : Slot) (cnt a : Nat) :
    (s.setBank e k b).draw.2.engByte cnt a = s.engByte cnt a := rfl

/-- The same past the instruction, once the free count is drawn. -/
theorem State.elementValue_past {s : State} {b : Slot} {e k p j cnt lo hi : Nat} (hat : b.elementAt p j = [lo, hi])
    (hlo : s.soundByte e k lo) (hhi : s.soundByte e k hi) :
    (s.setBank e k b).draw.2.elementOk e k p j = true ∧ (s.setBank e k b).draw.2.elementValue e k p cnt j false =
      (BitVec.ofNat 16 ((s.engByte cnt lo).toNat + 256 * (s.engByte cnt hi).toNat)).toInt := by
  have hbank : (s.setBank e k b).draw.2.bank e k = b := State.bank_setBank_same ..
  have hread := State.elementValue_of_sound (cnt := cnt) (by rw [hbank, hat]) (State.soundByte_past b hlo) (State.soundByte_past b hhi)
  rwa [State.engByte_past, State.engByte_past] at hread

/-- The bank with what a scan found: the value in one register, then its number in the other. -/
def Slot.found (b : Slot) (d i : Nat) (r : Int × Nat) : Slot :=
  { (b.setX d (BitVec.ofInt 32 r.1)).setX i (BitVec.ofNat 32 r.2) with scan := none }

/-- A scan that starts afresh and is not preempted, of elements that read `g` and meet no error, writes its bank alone. -/
theorem State.scanned_fresh {s : State} {b : Slot} {e k d i p n : Nat} {better : Int → Int → Bool} {g : Nat → Int} {r : Int × Nat}
    (hfresh : b.scan = none) (hok : ∀ j < n, s.draw.2.elementOk e k p j = true)
    (hvalue : ∀ j < n, s.draw.2.elementValue e k p (s.draw.1 % 2 ^ 18) j false = g j)
    (hgood : ∀ j < n, (b.elementAt p j).any s.badAt = false)
    (hr : firstBest better ((List.range n).map g) 0 (((List.range n).map g).headD 0, 0) = r) :
    s.scanned b e k d i p n 0 0 0 better = s.draw.2.setBank e k (b.found d i r) := by
  have hlist : (List.range n).map (fun j => s.draw.2.elementValue e k p (s.draw.1 % 2 ^ 18) (0 + j) false) = (List.range n).map g :=
    List.map_congr_left fun j hj => by rw [Nat.zero_add, hvalue j (List.mem_range.mp hj)]
  have hall : (List.range n).all (fun j => s.draw.2.elementOk e k p (0 + j)) = true :=
    List.all_eq_true.mpr fun j hj => by rw [Nat.zero_add, hok j (List.mem_range.mp hj)]
  have hmet : ∀ c : Slot, (List.range n).any (fun j => (s.draw.2.setBank e k c).elementOk e k p (0 + j) &&
      (b.elementAt p (0 + j)).all dataMemory && (b.elementAt p (0 + j)).any (s.draw.2.setBank e k c).badAt) = false := by
    intro c
    refine List.any_eq_false.mpr fun j hj => ?_
    rw [show (s.draw.2.setBank e k c).badAt = s.badAt from rfl, Nat.zero_add, hgood j (List.mem_range.mp hj), Bool.and_false]
    exact Bool.false_ne_true
  unfold State.scanned
  simp only [hfresh, if_true, Nat.sub_zero, Bool.and_false, hlist, hall, show (0 == 2) = false from rfl, hr, lt_irrefl, decide_false,
    Bool.false_eq_true, if_false, State.markLoad_zero, State.dataError_zero, ite_self, hmet]
  rfl

/-- A scan that draws its free count and then writes its bank alone. -/
theorem State.performed_draw_setBank (s : State) (e k : Nat) (c : Slot) :
    s.performed e k (fun t => t.draw.2.setBank e k c) = s.draw.2.performed e k (fun t => t.setBank e k c) := rfl

/-- A scan by a greater `key`, that starts afresh over sound elements: it answers the first best of them. -/
theorem exec_of_fresh_scan {better : Int → Int → Bool} {key : Int → Int} (hbetter : ∀ v w, better v w = decide (key w < key v))
    {ins : Instr} {e d i : Fin 16} {k : Nat} {p : Fin 8} {n : Nat} {s : State} {addr : Nat → Nat → Nat} {elem : Nat → Int}
    (h : s.performs e k pathBoth = true) (hi : exec ins s = .next (s.scan e d i p n 0 0 0 better)) (hfresh : (s.bank e k).scan = none)
    (hn : 1 ≤ n ∧ n ≤ 4096)
    (haddr : ∀ j o, addr j o = ((s.bank e k).fold p (((s.bank e k).ptr p).toNat + (2 * j + o : Nat))).toNat)
    (hsound : ∀ j, j < n → ∀ o, o < 2 → s.soundByte e k (addr j o))
    (helem : ∀ j, elem j = (BitVec.ofNat 16 ((s.engByte (s.draw.1 % 2 ^ 18) (addr j 0)).toNat +
      256 * (s.engByte (s.draw.1 % 2 ^ 18) (addr j 1)).toNat)).toInt) :
    ∃ t j, exec ins s = .next t ∧ j < n ∧ (t.bank e k).xr i = BitVec.ofNat 32 j ∧ (d ≠ i → ((t.bank e k).xr d).toInt = elem j) ∧
      (∀ m, m < n → key (elem m) ≤ key (elem j)) ∧ (∀ m, m < j → key (elem m) < key (elem j)) ∧
      (∀ r, r ≠ d.val → r ≠ i.val → (t.bank e k).xr r = (s.bank e k).xr r) ∧
      (t.bank e k).p = (s.bank e k).p ∧ s.draw.2.sameButBank t e k := by
  obtain ⟨j, hr, hj, hmax, hfirst⟩ := firstBest_range hbetter elem hn.1
  have hat : ∀ m, (s.bank e k).next.elementAt p m = [addr m 0, addr m 1] := fun m => by rw [haddr, haddr]; rfl
  have hread : ∀ m < n, (s.setBank e k (s.bank e k).next).draw.2.elementOk e k p m = true ∧
      (s.setBank e k (s.bank e k).next).draw.2.elementValue e k p (s.draw.1 % 2 ^ 18) m false = elem m := fun m hm =>
    helem m ▸ State.elementValue_past (hat m) (hsound m hm 0 (by decide)) (hsound m hm 1 (by decide))
  have hgood : ∀ m < n, ((s.bank e k).next.elementAt p m).any (s.setBank e k (s.bank e k).next).badAt = false := by
    intro m hm
    obtain ⟨-, -, hlo⟩ := hsound m hm 0 (by decide)
    obtain ⟨-, -, hhi⟩ := hsound m hm 1 (by decide)
    rw [hat]
    show [addr m 0, addr m 1].any s.badAt = false
    simp [hlo, hhi]
  have hexec : exec ins s = .next (s.draw.2.performed e k (fun t => t.setBank e k ((s.bank e k).next.found d i (elem j, j)))) := by
    rw [hi, State.scan_performs h hn, ← State.performed_draw_setBank]
    exact congrArg Host.Outcome.next (State.performed_congr
      (State.scanned_fresh hfresh (fun m hm => (hread m hm).1) (fun m hm => (hread m hm).2) hgood hr))
  obtain ⟨t, hexec, hbank, hsame⟩ : ∃ t, exec ins s = .next t ∧
      t.bank e k = ((s.bank e k).next.found d i (elem j, j)).loopPass (s.bank e k).pc 2 ∧ s.draw.2.sameButBank t e k :=
    ⟨_, hexec, State.bank_performed (State.bank_setBank_same ..), State.sameButBank_performed ..⟩
  refine ⟨t, j, hexec, hj, ?_, fun hdi => ?_, hmax, hfirst, fun r hd hi => ?_, ?_, hsame⟩
  · rw [hbank, Slot.xr_loopPass]
    exact Slot.xr_setX_same ..
  · rw [hbank, Slot.xr_loopPass]
    refine (congrArg BitVec.toInt ((Slot.xr_setX_ne _ _ (Fin.val_ne_of_ne hdi)).trans (Slot.xr_setX_same ..))).trans ?_
    rw [helem]
    exact BitVec.toInt_signExtend_of_le (by decide)
  · rw [hbank, Slot.xr_loopPass]
    exact (Slot.xr_setX_ne _ _ hi).trans (Slot.xr_setX_ne _ _ hd)
  · rw [hbank, Slot.p_loopPass]
    rfl

/-- Settles O12: MAXI goes by the element, MINI by its negation. -/
theorem scansFindTheFirstBest : Obligations.ScansFindTheFirstBest := by
  unfold Obligations.ScansFindTheFirstBest
  intro e d i k p n s max addr elem h hfresh hn haddr hsound helem
  cases max with
  | true =>
    obtain ⟨t, j, hexec, hj, hnum, hval, hmax, hfirst, hrest⟩ := exec_of_fresh_scan (key := id) (fun _ _ => rfl) h
      (exec_maxi e d i p n 0 ⟨0, 0⟩ s) hfresh hn haddr hsound helem
    exact ⟨t, j, hexec, hj, hnum, hval, hmax, fun m hm => (hfirst m hm).ne, hrest⟩
  | false =>
    obtain ⟨t, j, hexec, hj, hnum, hval, hmin, hfirst, hrest⟩ := exec_of_fresh_scan (key := Neg.neg)
      (fun v w => by simp only [neg_lt_neg_iff]) h (exec_mini e d i p n 0 ⟨0, 0⟩ s) hfresh hn haddr hsound helem
    exact ⟨t, j, hexec, hj, hnum, hval, fun m hm => neg_le_neg_iff.mp (hmin m hm), fun m hm => (neg_lt_neg_iff.mp (hfirst m hm)).ne', hrest⟩

end Sys2Proof.Machine
end

section
/-!
The reciprocal square root (R59).
-/

namespace Sys2Proof.Machine

/-! ## Roots built from the top bit down -/

/-- For a falling condition that holds at `r`, the greatest number below `r + 2^n` that satisfies it. -/
theorem topRoot_spec {p : Nat → Bool} (hp : ∀ a b, a ≤ b → p b = true → p a = true) (n : Nat) : ∀ {r : Nat}, p r = true →
    p (topRoot p n r) = true ∧ ∀ m, m < r + 2 ^ n → p m = true → m ≤ topRoot p n r := by
  induction n with
  | zero => exact fun hr => ⟨hr, fun m hm _ => by rw [topRoot]; omega⟩
  | succ n ih =>
    intro r hr
    rw [topRoot]
    split
    · next hbit =>
      obtain ⟨hroot, hmax⟩ := ih hbit
      exact ⟨hroot, fun m hm => hmax m (by rw [pow_succ] at hm; omega)⟩
    · next hbit =>
      obtain ⟨hroot, hmax⟩ := ih hr
      refine ⟨hroot, fun m _ hpm => hmax m ?_ hpm⟩
      by_contra hge
      exact hbit (hp _ m (not_lt.mp hge) hpm)

/-! ## The integers within the bound -/

section
variable (c n A : Nat)

theorem sq_rsqTerm : ((c : ℝ) * √n * 2 ^ 14) ^ 2 = ((c * c * n * 2 ^ 28 : Nat) : ℝ) := by
  rw [mul_pow, mul_pow, Real.sq_sqrt (Nat.cast_nonneg n)]
  push_cast
  ring

theorem sq_rsqBound : ((2 : ℝ) ^ 31 * A) ^ 2 = ((2 ^ 62 * A ^ 2 : Nat) : ℝ) := by
  push_cast
  ring

/-- The two conditions of RSQ's search, as bounds on `c √n`. -/
theorem rsq_below_iff : c * c * n * 2 ^ 28 < 2 ^ 62 * A ^ 2 ↔ (c : ℝ) * √n * 2 ^ 14 < 2 ^ 31 * A := by
  rw [← Nat.cast_lt (α := ℝ), ← sq_rsqTerm, ← sq_rsqBound, pow_lt_pow_iff_left₀ (by positivity) (by positivity) two_ne_zero]

theorem rsq_upTo_iff : c * c * n * 2 ^ 28 ≤ 2 ^ 62 * A ^ 2 ↔ (c : ℝ) * √n * 2 ^ 14 ≤ 2 ^ 31 * A := by
  rw [← Nat.cast_le (α := ℝ), ← sq_rsqTerm, ← sq_rsqBound, pow_le_pow_iff_left₀ (by positivity) (by positivity) two_ne_zero]

end

/-- The greatest integer that meets RSQ's strict, and the greatest that meets its other bound: the least result is one above the
first, the greatest is the second. -/
def rsqBelow (n : Nat) : Nat := topRoot (fun r => decide (r * r * n * 2 ^ 28 < 2 ^ 62 * (2 ^ 14 - 1) ^ 2)) 33 0

def rsqUpTo (n : Nat) : Nat := topRoot (fun r => decide (r * r * n * 2 ^ 28 ≤ 2 ^ 62 * (2 ^ 14 + 1) ^ 2)) 33 0

theorem rsq_eq (x : Word) : rsq x = BitVec.ofNat 32 (rsqBelow x.toNat + 1 +
    Config.rsqPick x % (rsqUpTo x.toNat + 1 - (rsqBelow x.toNat + 1))) := rfl

theorem rsqBelow_spec (n : Nat) : (rsqBelow n : ℝ) * √n * 2 ^ 14 < 2 ^ 31 * (2 ^ 14 - 1 : Nat) ∧
    ∀ m : Nat, m < 2 ^ 33 → (m : ℝ) * √n * 2 ^ 14 < 2 ^ 31 * (2 ^ 14 - 1 : Nat) → m ≤ rsqBelow n := by
  obtain ⟨hroot, hmax⟩ := topRoot_spec (p := fun r => decide (r * r * n * 2 ^ 28 < 2 ^ 62 * (2 ^ 14 - 1) ^ 2))
    (fun a b hab hb => decide_eq_true (lt_of_le_of_lt (by gcongr) (of_decide_eq_true hb))) 33 (r := 0) (by simp)
  refine ⟨(rsq_below_iff ..).mp (of_decide_eq_true hroot), fun m hm hlt => hmax m (by omega) ?_⟩
  exact decide_eq_true ((rsq_below_iff ..).mpr hlt)

theorem rsqUpTo_spec (n : Nat) : (rsqUpTo n : ℝ) * √n * 2 ^ 14 ≤ 2 ^ 31 * (2 ^ 14 + 1 : Nat) ∧
    ∀ m : Nat, m < 2 ^ 33 → (m : ℝ) * √n * 2 ^ 14 ≤ 2 ^ 31 * (2 ^ 14 + 1 : Nat) → m ≤ rsqUpTo n := by
  obtain ⟨hroot, hmax⟩ := topRoot_spec (p := fun r => decide (r * r * n * 2 ^ 28 ≤ 2 ^ 62 * (2 ^ 14 + 1) ^ 2))
    (fun a b hab hb => decide_eq_true (le_trans (by gcongr) (of_decide_eq_true hb))) 33 (r := 0) (by simp)
  refine ⟨(rsq_upTo_iff ..).mp (of_decide_eq_true hroot), fun m hm hle => hmax m (by omega) ?_⟩
  exact decide_eq_true ((rsq_upTo_iff ..).mpr hle)

/-- What is within RSQ's upper bound fits a register. -/
theorem lt_of_rsq_upTo {c n : Nat} (hn : 1 ≤ n) (h : (c : ℝ) * √n * 2 ^ 14 ≤ 2 ^ 31 * (2 ^ 14 + 1 : Nat)) : c < 2 ^ 32 := by
  have hroot : 1 ≤ √(n : ℝ) := Real.one_le_sqrt.mpr (by exact_mod_cast hn)
  have hc : (c : ℝ) ≤ c * √n := le_mul_of_one_le_right (Nat.cast_nonneg c) hroot
  rw [← Nat.cast_lt (α := ℝ)]
  push_cast at h ⊢
  linarith

theorem toNat_of_toInt_pos {x : Word} (hx : 0 < x.toInt) : 1 ≤ x.toNat ∧ x.toNat < 2 ^ 31 := by
  rw [BitVec.toInt_eq_toNat_cond] at hx
  split at hx <;> omega

/-- The value of RSQ is an integer within the bound: there is one, since the bounds lie at least one apart. -/
theorem rsq_within {x : Word} (hx : 0 < x.toInt) :
    2 ^ 31 * (2 ^ 14 - 1 : Nat) ≤ ((rsq x).toNat : ℝ) * √(x.toNat : ℝ) * 2 ^ 14 ∧
      ((rsq x).toNat : ℝ) * √(x.toNat : ℝ) * 2 ^ 14 ≤ 2 ^ 31 * (2 ^ 14 + 1 : Nat) := by
  obtain ⟨hpos, hlt⟩ := toNat_of_toInt_pos hx
  obtain ⟨hbelow, hleast⟩ := rsqBelow_spec x.toNat
  obtain ⟨hupTo, hgreatest⟩ := rsqUpTo_spec x.toNat
  rw [rsq_eq]
  generalize rsqBelow x.toNat = lo at hbelow hleast
  generalize rsqUpTo x.toNat = hi at hupTo hgreatest
  have hroot : √(x.toNat : ℝ) ≤ 2 ^ 16 := Real.sqrt_le_iff.mpr ⟨by positivity, by norm_cast; omega⟩
  have hhi := lt_of_rsq_upTo hpos hupTo
  have hlo := lt_of_rsq_upTo hpos (hbelow.le.trans (by norm_num))
  have hroom : lo + 1 ≤ hi := by
    refine hgreatest _ (by omega) ?_
    push_cast at hbelow ⊢
    linarith
  have hpick := Nat.mod_lt (Config.rsqPick x) (show 0 < hi + 1 - (lo + 1) by omega)
  generalize Config.rsqPick x % (hi + 1 - (lo + 1)) = pick at hpick
  rw [BitVec.toNat_ofNat, Nat.mod_eq_of_lt (by omega)]
  constructor
  · by_contra hbelowLow
    have hpicked := hleast (lo + 1 + pick) (by omega) (not_le.mp hbelowLow)
    omega
  · have hle : ((lo + 1 + pick : Nat) : ℝ) ≤ hi := Nat.cast_le.mpr (by omega)
    refine le_trans ?_ hupTo
    gcongr

/-- Bounds on `c y` that bound the distance of `c` from `2^31 / y`. -/
theorem abs_sub_div_le_of_mul_bounds {c y : ℝ} (hy : 0 < y) (hlow : 2 ^ 31 * (2 ^ 14 - 1) ≤ c * y * 2 ^ 14)
    (hhigh : c * y * 2 ^ 14 ≤ 2 ^ 31 * (2 ^ 14 + 1)) : |c - 2 ^ 31 / y| ≤ 2 ^ 31 / y / 2 ^ 14 := by
  have hc : c - 2 ^ 31 / y = (c * y - 2 ^ 31) / y := by field_simp
  have hbound : |c * y - 2 ^ 31| ≤ 2 ^ 31 / 2 ^ 14 := abs_le.mpr ⟨by linarith, by linarith⟩
  rw [hc, abs_div, abs_of_pos hy, div_right_comm]
  exact div_le_div_of_nonneg_right hbound hy.le

/-- Settles O15: RSQ's value lies between the bounds of its search, which are the statement's. -/
theorem reciprocalRootWithinItsBound : Obligations.ReciprocalRootWithinItsBound := by
  unfold Obligations.ReciprocalRootWithinItsBound
  intro e d a k s h hpos
  obtain ⟨t, hexec, hbank, hsame⟩ := exec_rsq_positive (d := d) h hpos
  refine ⟨t, hexec, ?_, hsame⟩
  have hxr : (t.bank e k).xr d = rsq ((s.bank e k).xr a) := by
    rw [hbank, Slot.xr_loopPass, Slot.xr_setX_same]
    rfl
  obtain ⟨hlow, hhigh⟩ := rsq_within hpos
  obtain ⟨hn, -⟩ := toNat_of_toInt_pos hpos
  rw [hxr]
  exact abs_sub_div_le_of_mul_bounds (Real.sqrt_pos.mpr (Nat.cast_pos.mpr hn)) (mod_cast hlow) (mod_cast hhigh)

end Sys2Proof.Machine
end

section
/-!
A start that the mode does not allow (R68).
-/

namespace Sys2Proof.Machine

section
variable {e k : Nat} {s : State}

/-- A start of a task whose datapath the mode does not allow counts in SKIP, and does nothing else. -/
theorem State.taskStart_skipped (hruns : s.computeRuns = true) (hen : s.flag (F.CE_TASKCFG_EN e k) = true)
    (hdenied : s.taskAllowed e k = false) : s.taskStart e k = s.inc (F.CE_TASKCNT_SKIP e k) := by
  simp [State.taskStart, hruns, hen, hdenied]

/-- An event that its divider passes on steps the divider and starts the task. -/
theorem State.taskEvent_passed (hen : s.flag (F.CE_TASKCFG_EN e k) = true)
    (hdiv : (s.slot (slotKey e k)).div = s.fld (F.CE_TASKCFG_PHASE e k)) :
    s.taskEvent e k = (s.modSlot (slotKey e k) (fun x => { x with
      div := ((s.slot (slotKey e k)).div + 1) % (s.fld (F.CE_TASKCFG_DIV e k) + 1) })).taskStart e k := by
  simp [State.taskEvent, hen, hdiv]

end

theorem State.fld_lt (s : State) (f : Fld) : s.fld f < 2 ^ f.width := Nat.mod_lt _ (Nat.two_pow_pos _)

/-- A saturating counter reads back one more, up to its greatest value. -/
theorem State.fld_inc_same (s : State) {f : Fld} (h : f.lo + f.width ≤ 32) :
    (s.inc f).fld f = if s.fld f < 2 ^ f.width - 1 then s.fld f + 1 else s.fld f := by
  have hlt := s.fld_lt f
  rw [State.inc, State.fld_put_same s f _ h, bump]
  split
  · exact Nat.mod_eq_of_lt (by omega)
  · rw [Nat.mod_eq_of_lt (by omega)]
    omega

theorem ceStat_ne_ceTaskcnt (e k : Nat) : R.CE_STAT e ≠ R.CE_TASKCNT e k := by
  unfold R.CE_STAT R.CE_TASKCNT
  omega

/-- A trigger whose start arrives, passes its divider and is not allowed steps the divider and counts in SKIP. -/
theorem exec_taskTrigger_skipped {e : Fin 16} {k : Fin 8} {s : State} (hnext : s.startNext 0 (slotKey e k) = true)
    (hruns : s.computeRuns = true) (hen : s.flag (F.CE_TASKCFG_EN e k) = true)
    (hdiv : (s.slot (slotKey e k)).div = s.fld (F.CE_TASKCFG_PHASE e k)) (hdenied : s.taskAllowed e k = false) :
    ∃ step, exec (.taskTrigger e k) s =
      .next (((s.takeStart 0 (slotKey e k)).modSlot (slotKey e k) step).inc (F.CE_TASKCNT_SKIP e k)) := by
  have hevent := (s.takeStart 0 (slotKey e k)).taskEvent_passed hen hdiv
  rw [exec_taskTrigger, execTaskTrigger, if_pos hnext, hevent]
  exact ⟨_, congrArg Host.Outcome.next (State.taskStart_skipped (s := State.modSlot ..) hruns hen hdenied)⟩

/-- Settles O16: the trigger takes the start, steps the divider and increments SKIP, each of which leaves the rest. -/
theorem skippedTaskStarts : Obligations.SkippedTaskStarts := by
  unfold Obligations.SkippedTaskStarts
  intro e k s hnext hruns hen hdiv hdenied
  obtain ⟨step, hexec⟩ := exec_taskTrigger_skipped hnext hruns hen hdiv hdenied
  refine ⟨_, hexec, ?_, ?_, ?_, ?_, ?_, fun a ha => ?_⟩
  · rw [State.fld_inc_same _ (f := F.CE_TASKCNT_SKIP e k) (show 0 + 5 ≤ 32 by decide), State.fld_modSlot]
    rfl
  · rw [State.inc, State.fld_put_ne _ _ (ceStat_ne_ceTaskcnt e k), State.fld_modSlot]
    rfl
  · rw [State.inc, State.fld_put_disj _ _ (.inr (show 0 + 5 ≤ 10 by decide)) (show 10 + 6 ≤ 32 by decide), State.fld_modSlot]
    rfl
  · rw [State.inc, State.engines_put]
    rfl
  · rw [State.inc, State.weir_put]
    rfl
  · rw [State.inc, State.rd_put_ne _ _ ha, State.rd_modSlot]
    rfl

end Sys2Proof.Machine
end
